-- ==== Sys2Proof/Word.lean ====
section
/-! DEFINITION. The word types of the model: a page word is 32 bits (R9), a stored or transmitted
datum is a list of bytes, most significant byte first (R3), and a tick is one of the 62,500 of a
control cycle (R2, R158). -/

namespace Sys2Proof

/-- One byte of a stroke, a packet, a frame or a stored record. -/
abbrev Byte := BitVec 8

/-- One 32-bit page word (R9), or the bit pattern of a binary32 value (R4). -/
abbrev Word := BitVec 32

/-- A tick of the 10 µs control cycle: 160 ps, 62,500 to the cycle (R2). -/
abbrev Tick := Fin 62500

end Sys2Proof
end

