-- ==== Sys2Proof/Syntax.lean ====
section
/-! DEFINITION. The commands of the block: one constructor for each row of the opcode table, in its order,
with the data that the event or the request brings. -/

namespace Sys2Proof

/-- The two supply feeds (R50). -/
inductive Feed where
  | a | b
deriving DecidableEq, Repr

/-- Where a datagram comes from: the port it arrived on (0 N0, 1 N1, 2 service), and its source address and UDP port
(R404). -/
structure Peer where
  port : Fin 3
  ip : Word
  sport : BitVec 16
deriving DecidableEq, Repr

/-- What every protected request carries besides its opcode and parameters: its record's SID and CTR
(R374), its SEQ (R379) and the tick of its acceptance (DESIGN CHOICE, log entry 21). -/
structure Req where
  peer : Peer
  sid : BitVec 16
  ctr : BitVec 64
  seq : Word
  tick : Tick
deriving DecidableEq, Repr

/-- What the hardware measures at a cycle boundary: the baseplate reading (0.1 °C) and the two feeds
(10 mV) of R47 and R400, what the replica counters of loops 2–10 gained on the master over the cycle, in ps (R149),
and the stacks with a segment still incomplete (R169). -/
structure Env where
  baseT : BitVec 16
  feedA : BitVec 16
  feedB : BitVec 16
  drift : List Int
  incomplete : List (Fin 16)
deriving DecidableEq, Repr

/-- A stroke passing a nib: the side it arrives on, its header and the segments and slots after it as received, the
symbols received invalid by their place in the stroke, the residence added to CORR, the arrival of the header's first
bit on the nib's own clock in ps, and the values that the nib has sampled for bytes 4–15 and 30–37 of its slot with
the health code (R104, R111, R113, R115, R128). -/
structure StrokePass where
  side : Fin 2
  hdr : List Byte
  body : List Byte
  bad : List Nat
  res : Nat
  tH : Nat
  meas : List Byte
  ext : List Byte
  health : Fin 16
deriving DecidableEq, Repr

/-- Where an echo reply is received: at a port of the module, or at a side of a nib that passes it on (R102, R103). -/
inductive EchoAt where
  | port (p : Fin 64)
  | nib (n : Fin 3072) (side : Fin 2)
deriving DecidableEq, Repr

/-- The two data symbols of an addressed ordered set, as received (R102). -/
structure SetData where
  p : Byte
  q : Byte
deriving DecidableEq, Repr

/-- The time stamp of an echo reply: its round trip time, and the tick of its arrival (R129). -/
structure EchoStamp where
  rt : BitVec 32
  t : Tick
deriving DecidableEq, Repr

/-- A lane and the tick at which something happens on it. -/
structure LaneAt where
  l : Fin 68
  t : Tick
deriving DecidableEq, Repr

/-- What a nib sees of a switch's transition: after how many ns it began, and how many it lasted, none where it was not
seen to (R261). -/
structure EdgeSeen where
  began : Option Nat
  lasted : Option Nat
deriving DecidableEq, Repr

/-- The voltages of the two pins of an analogue input in a conversion, µV (R454, R463). -/
structure PinPair where
  pos : Int
  neg : Int
deriving DecidableEq, Repr

/-- A record as it arrives: where from, and its bytes (R374). -/
structure RecIn where
  peer : Peer
  bytes : List Byte
deriving DecidableEq, Repr

/-- The nib faults of R112. -/
inductive NibFault where
  | gate | temp | aux
deriving DecidableEq, Repr

/-- The generator fields posted for a stack, with the mask of those staged (R363 section 1). -/
structure GenStaged where
  mask : Nat
  period : Nat
  duty : Nat
  phi : Nat
  d1 : Nat
  d2 : Nat
deriving DecidableEq, Repr

/-- One posted entry of a stack's lists (R363 section 1): kind 0 away, 1 toward, 2 trim, 3 pre-charge. -/
structure ListEntry where
  ci : Nat
  kind : Nat
  value : Nat
deriving DecidableEq, Repr

/-- A modulated stack's inputs of one step (R363 section 1). -/
structure StackIn where
  stack : Nat
  vEnd : Word
  vPre : Word
  staged : GenStaged
  swaps : Nat
  entries : List ListEntry
deriving DecidableEq, Repr

/-- A cell's flags in a step, with the management bytes under MGMT (R363 section 2). -/
structure CellFlag where
  ci : Nat
  flags : Nat
  mgmt : List Byte
deriving DecidableEq, Repr

/-- A strength-code change (R363 section 3). -/
structure CodeChange where
  ci : Nat
  sw : Nat
  turnOn : Bool
  code : Nat
deriving DecidableEq, Repr

/-- One step's inputs as a frame carries them and a pair side keeps them (R356, R363): the frame's
cycle, low 48 bits, and its sections 1–3. -/
structure StepIn where
  cycle : BitVec 48
  inputs : List StackIn
  flags : List CellFlag
  codes : List CodeChange
deriving DecidableEq, Repr

/-- A replicated write in a frame (R363 section 6). -/
structure FrameRec where
  seq : Nat
  kind : Nat
  slot : Nat
  page : Nat
  offset : Nat
  effect : Nat
  value : Word
deriving DecidableEq, Repr

/-- One record of the state image (R362), KIND 1 to 6 in this order: per cell, per cell, per spilled edge (with
the targets it lies ahead), per stack, per stack, per switch. -/
inductive ImageRec where
  | cell (ci : Nat) (legs : List Nat) (tag cmd epoch : Nat) (ages : List Nat)
  | carry (ci : Nat) (carries : List Int)
  | spill (ci : Nat) (edge : Word)
  | stack (k p period duty : Nat) (phi : Int) (d1 d2 : Nat) (level : Int)
  | staged (k mask period duty : Nat) (phi : Int) (d1 d2 : Nat)
  | switch (i : Nat) (th : List Word) (n : Word) (codeOn codeOff : Nat)
deriving DecidableEq, Repr

/-- A partner frame (R363), field by field. -/
structure PFrame where
  side : Nat
  claim : Bool
  ready : Bool
  giveup : Bool
  hnd : Bool
  shift : Nat
  req : Bool
  cycle : BitVec 48
  mstate : Nat
  role : Nat
  lag : Nat
  handoverAt : BitVec 16
  topo : Word
  cfg : Word
  blocked : Nat
  release : Nat
  ack : BitVec 16
  inputs : List StackIn
  flags : List CellFlag
  codes : List CodeChange
  crcs : List Word
  outputs : List (Nat × Word)
  records : List FrameRec
  resend : List StepIn
  image : List ImageRec
deriving DecidableEq, Repr

/-- A Sync or Follow_Up message as a station port takes it (R407): its domain, source port identity and
sequence number, whether it announces a Follow_Up, its correctionField (2⁻¹⁶ ns) and the offset that the
ingress stamp shows against its origin and correction, in ps. -/
structure PtpMsg where
  domain : Nat
  src : BitVec 80
  seq : BitVec 16
  /-- logSyncInterval. -/
  interval : Int
  twoStep : Bool
  corr : Int
  offset : Int
deriving DecidableEq, Repr

/-- An Announce message (R407): its domain, source port identity, the grandmaster's data set, and its UTC offset
(R158). -/
structure PtpAnn where
  domain : Nat
  src : BitVec 80
  gm : BitVec 64
  prio1 : Nat
  cls : Nat
  accuracy : Nat
  variance : Nat
  prio2 : Nat
  steps : Nat
  utc : BitVec 16
  /-- logAnnounceInterval. -/
  interval : Int
deriving DecidableEq, Repr

/-- Where a received frame is addressed (R403). -/
inductive NetDst where
  | own | broadcast | ptp | group | other
deriving DecidableEq, Repr

/-- What a received frame carries. A PTP message that no other command takes is there whole. -/
inductive NetBody where
  | arp | ptp | other
  | ptpOther (data : List Byte)
  | icmpEcho
  | udp (sport : BitVec 16) (dport : Nat) (sumOk : Bool) (data : List Byte)
deriving DecidableEq, Repr

/-- A received frame as the port decodes it (R402, R403): its length, FCS, destination, VLAN tag, and for
IPv4 the header check, options, fragmentation and addresses. -/
structure NetFrame where
  len : Nat
  fcs : Bool
  dst : NetDst
  vid : Option Nat
  ip : Bool
  hdrOk : Bool
  opts : Bool
  frag : Bool
  sip : Word
  dip : Word
  body : NetBody
deriving DecidableEq, Repr

/-- A CAN data frame (R420). -/
structure CanFrame where
  ide : Bool
  id : Nat
  fdf : Bool
  brs : Bool
  esi : Bool
  data : List Byte
deriving DecidableEq, Repr



/-- The commands and events of the opcode table. -/
inductive Instr where
  /-- `POWER_UP` (R472): A feed rises above the start threshold and the module begins its power-up
  sequence: converters, rails, safety channels in START, boot ROM, settings store read and clock
  acquisition. -/
  | powerUp (f : Feed)
  /-- `IMAGE_VERIFY_COMPLETE` (R476): The boot ROM finishes choosing and verifying a firmware slot,
  running the preferred slot or falling back, or staying in BOOT. -/
  | imageVerifyComplete (ok0 ok1 : Bool)
  /-- `START_COMPLETE` (R472): With the image running, the journal checked and loops 0-16 locked, the
  module enters CONFIG, raises LIVE, resets pages and writes the boot record. -/
  | startComplete (ms : BitVec 16) (bad : List (Fin 9 × Nat))
  /-- `BOOT_LOCK_TIMEOUT` (R473): The clock loops are not all locked 10 s after power-up and the module
  stays in BOOT. -/
  | bootLockTimeout
  /-- `WATCHDOG_RESTART` (R476): An image has not entered CONFIG 10 s after verification and the
  command-core watchdog restarts the module from BOOT. -/
  | watchdogRestart
  /-- `FEED_LOSS_DETECT` (R50): One feed stays below 17.0 V for 1 ms and the module continues on the
  other feed. -/
  | feedLossDetect (f : Feed) (t : Tick)
  /-- `FEED_RESTORE_TIMER` (R73): A lost feed has stayed above 17.5 V for 100 ms and its loss event
  clears. -/
  | feedRestoreTimer (f : Feed) (t : Tick)
  /-- `FEED_HIGH_DETECT` (R50): A feed stays above 33.0 V for 1 ms. -/
  | feedHighDetect (t : Tick)
  /-- `SUPPLY_LOSS` (R53): Both feeds are lost: all stacks blocked, journal flushed, safety outputs
  turned off and power-down begun. -/
  | supplyLoss (t : Tick)
  /-- `POWER_DOWN_COMPLETE` (R53): The power-down sequence ends with safety outputs and optics off and
  the module stopped. -/
  | powerDownComplete
  /-- `BASEPLATE_HOT_TIMER` (R74): The baseplate reading has exceeded 70 degC for 1 s. -/
  | baseplateHotTimer (t : Tick)
  /-- `BASEPLATE_OVERTEMP_TIMER` (R74): The baseplate reading has exceeded 80 degC for 1 s and all
  stacks are blocked. -/
  | baseplateOvertempTimer (t : Tick)
  /-- `RAIL_MONITOR_TRIP` (R74): An internal rail stays outside its tolerance for the required
  consecutive samples and the rail fault is handled. -/
  | railMonitorTrip (collapse : Bool) (t : Tick)
  /-- `GIVEUP_END` (R353): The 20 us of heartbeat after give-up have passed and LIVE falls, darkening
  the side's outputs. -/
  | giveupEnd
  /-- `LOOP0_EDGE_LOSS` (R348): Loop 0 gives no output edge for 100 ns and LIVE falls at once. -/
  | loop0EdgeLoss
  /-- `LOCKSTEP_DISAGREE` (R401): The hardware comparator finds the lockstep command cores disagreeing.
  -/
  | lockstepDisagree (t : Tick)
  /-- `CYCLE_BOUNDARY` (R158): A new control cycle starts: cycle number advances, replicas are compared,
  bond markers sent, per-cycle /BLK/ repeated and boundary-timed actions run. -/
  | cycleBoundary (e : Env)
  /-- `STROKE_LAUNCH` (R105): At start plus LEAD each lit port sends its stroke, followed by one echo
  request per lit string end. -/
  | strokeLaunch
  /-- `TELEMETRY_CUTOFF` (R131): At 6 us into the cycle the cell image, analogue results and set-points
  are snapshotted for the loops, scheduler and supervision. -/
  | telemetryCutoff
  /-- `THERMAL_STEP` (R219): The thermal array steps every modelled switch for the previous cycle and
  evaluates headroom, with the checker recomputing one switch. -/
  | thermalStep (mis : List (Fin 3072 × Fin 8))
  /-- `LOOP_BANK_RUN` (R235): A bank of 16 loop slots samples, ramps, computes PI outputs and resolves
  its selector groups. -/
  | loopBankRun (b : Fin 16)
  /-- `SUPERVISION_PROCESS` (R267): Switch supervision correlates the cut-off slots with built edges,
  adapts strength codes and posts them. -/
  | supervisionProcess
  /-- `SCHED_POST` (R204): At 8 us the scheduler posts lists, swap counts, trims, pre-charge commands
  and V_PRE for the target cycle. -/
  | schedPost (late : BitVec 16)
  /-- `LOOP_OUTPUT_STAGE` (R246): The output stage converts every wired loop output into stack fields
  for the target cycle. -/
  | loopOutputStage
  /-- `LOOP_OUTPUT_DEADLINE` (R235): The output stage has not finished by 51,250 ticks. -/
  | loopOutputDeadline
  /-- `DUCTUS_LATCH` (R169): Ductus latches its inputs and builds, checks and assembles every segment
  for the target cycle. -/
  | ductusLatch (bad : List (Fin 3072 × Fin 4 × Fin 10))
  /-- `GENERATOR_LOAD` (R188): A staged generator set loads into the live set at its period boundary,
  fall-back, cycle or load-all instant, with checks and clamps. -/
  | generatorLoad (k : Fin 16)
  /-- `GOVERNOR_UPDATE` (R227): Once per cycle the governor reads the die temperature and sets its level
  and grants. -/
  | governorUpdate (die : BitVec 16)
  /-- `TELEMETRY_SLOT_RECEIVE` (R114): A telemetry slot arrives at a module port, is judged valid or
  not, written to cell image memory and checked by protection. -/
  | telemetrySlotReceive (p : Fin 64) (pos : Fin 96) (slot : List Byte) (err : Bool) (t : Tick)
  /-- `STROKE_HEADER_RETURN` (R118): A returned stroke header is decoded at the module, giving FOUND,
  wrap state and break position. -/
  | strokeHeaderReturn (p : Fin 64) (hdr : List Byte) (t : Tick)
  /-- `LOST_LIMIT_EXPIRY` (R138): A cell has had no valid slot for LOST_LIMIT consecutive cycles and is
  treated as lost. -/
  | lostLimitExpiry (ci : Fin 3072)
  /-- `ECR` (R129): An echo reply from a nib is decoded and time-stamped, and the averaged arrival
  offset is updated and checked. -/
  | ecr (a : EchoAt) (d : SetData) (ok : Bool) (at_ : EchoStamp)
  /-- `ENUM_REPLY_TIMEOUT` (R136): An enabled position gives no valid IDENTIFY reply in three stroke
  cycles and is marked MISSING. -/
  | enumReplyTimeout (ci : Fin 3072)
  /-- `ENUMERATION_COMPLETE` (R136): A string's enumeration ends with identities, echoes and ARRs
  recorded. -/
  | enumerationComplete (p : Fin 64)
  /-- `ADMISSION_STEP_PROCEED` (R137): An admission step's condition is met and the admission moves to
  its next step. -/
  | admissionStepProceed (ci : Fin 3072)
  /-- `ADMISSION_TIMER_EXPIRY` (R137): An admission step has not completed within ADMIT_TMO; RETIRE is
  sent and the cell returns to FOUND. -/
  | admissionTimerExpiry (ci : Fin 3072)
  /-- `PRECHARGE_PHASE_COMPLETE` (R398): A stack's stack-wide pre-charge phase completes; after the last
  phase its cells become INSERTED and the module may enter READY. -/
  | prechargePhaseComplete (k : Fin 16)
  /-- `PRECHARGE_TIMEOUT` (R398): Stack-wide pre-charge has not completed within SYS_PRE.TMO; remaining
  cells are retired and the module returns to STANDBY. -/
  | prechargeTimeout
  /-- `QUIET_PERIOD_END` (R301): A recovery source's quiet period ends and it recovers or is locked out.
  -/
  | quietPeriodEnd (src : Fin 3088)
  /-- `STACK_RELEASE` (R304): At a boundary in RUN a stack no longer held blocked is released and BLOCK
  = 0 segments are built. -/
  | stackRelease (k : Fin 16)
  /-- `CLR_SEND` (R305): At the boundary after a release or recovery the module sends /CLR/ on the
  affected strings unless a block cancelled it. -/
  | clrSend
  /-- `FAULT_RESET_APPLY` (R307): At the first boundary after an accepted FAULT_RESET the module resets
  recovery sources and clears events in scope. -/
  | faultResetApply
  /-- `EVENT_QUEUE_COPY` (R308): Firmware copies hardware event queue entries into the journal event
  log. -/
  | eventQueueCopy
  /-- `JOURNAL_WRITE` (R488): A journal record is written whole and read back, repeated once on
  mismatch. -/
  | journalWrite (region : Fin 9) (ok1 ok2 : Bool)
  /-- `LIFETIME_SECOND` (R490): Every second the lifetime counters and LAST_CYCLE are updated in the
  journal. -/
  | lifetimeSecond
  /-- `WEAR_JOURNAL_PERIOD` (R273): Every WEAR_PER minutes the live wear records are written to the
  journal. -/
  | wearJournalPeriod
  /-- `LANE_SIGNAL_LOSS` (R100): An enabled lane's signal detect deasserts; the lane stops delivery and
  reacquires. -/
  | laneSignalLoss (l : Fin 68) (t : Tick)
  /-- `LANE_NO_SIGNAL_TIMEOUT` (R100): A lane has had no signal for 1 ms since enabling or idle exit. -/
  | laneNoSignalTimeout (l : Fin 68) (t : Tick)
  /-- `LANE_SIGNAL_DETECT` (R86): A lane's signal detect asserts and acquisition with the equaliser
  sweep starts. -/
  | laneSignalDetect (x : LaneAt)
  /-- `EQ_SWEEP_DONE` (R85): The equaliser sweep over 16 codes ends and the widest-eye code is kept. -/
  | eqSweepDone (l : Fin 68) (eyes : List Nat) (t : Tick)
  /-- `LANE_SYNC_ACQUIRE` (R82): A lane sees three commas at one alignment and declares sync. -/
  | laneSyncAcquire (l : Fin 68) (pos : Fin 20) (t : Tick)
  /-- `LANE_SYNC_DROP` (R82): A lane loses sync on code violations or CDR loss while signal detect stays
  asserted. -/
  | laneSyncDrop (l : Fin 68) (cdrLost : Bool) (t : Tick)
  /-- `LANE_CODE_VIOLATION` (R81): A received code group is invalid; LANE_ERR increments and the symbol
  is delivered marked invalid. -/
  | laneCodeViolation (l : Fin 68) (t : Tick)
  /-- `COMMA_HUNT_EXPIRY` (R83): The comma hunt times out; the lane hunts on or enters SLIP. -/
  | commaHuntExpiry (l : Fin 68) (t : Tick)
  /-- `SLIP_DECODE_COUNT` (R84): In state SLIP, 1,024 violation-free symbols set DECODE_OK, and a
  further 1,024 declare sync. -/
  | slipDecodeCount (l : Fin 68) (t : Tick)
  /-- `LANE_ERR_INTERVAL` (R99): A 100 ms interval ends and the lane's error count is compared with
  ERR_LIMIT. -/
  | laneErrInterval (l : Fin 68) (t : Tick)
  /-- `TX_BIAS_FAULT` (R100): A lane transmitter's laser bias leaves its range and the transmitter is
  held dark. -/
  | txBiasFault (l : Fin 68) (t : Tick)
  /-- `TX_BIAS_RECOVER` (R100): The laser bias has been back in range for 100 ms and the transmitter is
  relit. -/
  | txBiasRecover (l : Fin 68) (t : Tick)
  /-- `ELECTRICAL_IDLE_ENTRY` (R86): At the boundary after EIDLE is set the transmitter enters
  electrical idle. -/
  | electricalIdleEntry (l : Fin 68)
  /-- `IDLE_EXIT` (R87): At the boundary after EIDLE clears the transmitter sends its training burst and
  then idles until the next stroke. -/
  | idleExit (l : Fin 68)
  /-- `BOND_MARKER_RECEIVE` (R92): A partner lane's bond marker arrives; masks are updated, the group
  computed, proposals adopted and pair time measured. -/
  | bondMarkerReceive (l : Fin 4) (b1 b2 b3 : Byte) (offset : BitVec 32) (t : Tick)
  /-- `BOND_WIDTH_SWITCH` (R93): At the agreed SWITCH_AT cycle both sides change the bond width. -/
  | bondWidthSwitch
  /-- `BOND_LANE_REJOIN` (R94): A partner lane has been in sync for 10,000 cycles and enters the local
  mask. -/
  | bondLaneRejoin (l : Fin 4)
  /-- `CLOCK_LOCK_DECLARE` (R152): A clock loop counts 2^LOCKN measurements within its window and
  declares lock. -/
  | clockLockDeclare (i : Fin 17) (errs : List Int) (t : Tick)
  /-- `CLOCK_LOCK_LOSS` (R153): A loop's phase error stays outside its window for 16 measurements and
  the loop coasts. -/
  | clockLockLoss (i : Fin 17) (errs : List Int) (t : Tick)
  /-- `REFERENCE_EDGE_MISSING` (R153): No reference edge arrives for 4 reference periods; loops 0 and 1
  coast and the time servo holds. -/
  | referenceEdgeMissing (t : Tick)
  /-- `REFERENCE_RETURN` (R154): Reference edges return to a coasting loop, which holds the phase offset
  and re-acquires on frequency. -/
  | referenceReturn (i : Fin 17) (phase : Int)
  /-- `LANE_WALK_DONE` (R154): A lane-island oscillator's walked offset reaches zero. -/
  | laneWalkDone (i : Fin 17)
  /-- `COAST_LIMIT_EXPIRY` (R155): A loop has coasted beyond COAST_MAX and its limit reaction applies.
  -/
  | coastLimitExpiry (i : Fin 17) (t : Tick)
  /-- `HOLDOVER_TIMEOUT` (R161): No valid time measurement for 4 s puts the time servo in HOLDOVER. -/
  | holdoverTimeout (t : Tick)
  /-- `SLEW_END` (R163): TIME_PENDING reaches zero at the end of a slew. -/
  | slewEnd (t : Tick)
  /-- `DEFERRED_TIME_STEP` (R162): A kept large offset is stepped at the first moment no lane is in use.
  -/
  | deferredTimeStep (t : Tick)
  /-- `PTP_SYNC_RECEIVE` (R407): A Sync message is time-stamped, forwarded by the transparent clock, and
  its offset fed to the time servo. -/
  | ptpSyncReceive (p : Fin 2) (m : PtpMsg) (res : Nat) (t : Tick)
  /-- `PTP_FOLLOW_UP_RECEIVE` (R407): A Follow_Up completes a two-step Sync's offset measurement, with
  correction added when forwarded. -/
  | ptpFollowUpReceive (p : Fin 2) (m : PtpMsg) (t : Tick)
  /-- `PTP_ANNOUNCE_RECEIVE` (R407): An Announce message is qualified and the best timeTransmitter
  algorithm runs. -/
  | ptpAnnounceReceive (p : Fin 2) (m : PtpAnn) (t : Tick)
  /-- `PTP_ANNOUNCE_TIMEOUT` (R406): The announce receipt timeout expires for the selected
  timeTransmitter. -/
  | ptpAnnounceTimeout (p : Fin 2) (src : BitVec 80) (t : Tick)
  /-- `PTP_PDELAY_TIMER` (R406): Once per second a PTP port sends Pdelay_Req and counts unanswered
  requests. -/
  | ptpPdelayTimer (p : Fin 2) (t : Tick)
  /-- `PTP_PDELAY_REQ_RECEIVE` (R406): A Pdelay_Req is answered two-step with Pdelay_Resp and
  Pdelay_Resp_Follow_Up. -/
  | ptpPdelayReqReceive (p : Fin 2) (src : BitVec 80) (seq : BitVec 16)
  /-- `PTP_PDELAY_RESP_RECEIVE` (R406): A peer-delay response updates the port's mean link delay. -/
  | ptpPdelayRespReceive (p : Fin 2) (seq : BitVec 16) (rt turn : Nat) (t : Tick)
  /-- `NET_FRAME_RECEIVE` (R403): A frame arrives on a station or service port and is filtered,
  discarded or passed to its handler. -/
  | netFrameReceive (p : Fin 3) (f : NetFrame) (t : Tick)
  /-- `ARP_MESSAGE` (R404): An ARP request or reply is handled and the ARP cache updated. -/
  | arpMessage (p : Fin 3) (req : Bool) (sip tip : Word) (mac : BitVec 48)
  /-- `ARP_ENTRY_AGE` (R404): An ARP cache entry ages out after 60 s. -/
  | arpEntryAge (p : Fin 3) (ip : Word)
  /-- `ICMP_ECHO_REQUEST` (R402): An ICMP echo request is answered within the rate limit. -/
  | icmpEchoRequest (p : Fin 3) (sip : Word) (data : List Byte) (t : Tick)
  /-- `NET_LINK_UP` (R404): A port's link comes up and a gratuitous ARP is sent. -/
  | netLinkUp (p : Fin 3) (t : Tick)
  /-- `NET_LINK_LOSS` (R427): A port's link goes down. -/
  | netLinkLoss (p : Fin 3) (t : Tick)
  /-- `TIMED_LAUNCH` (R409): A planned launch time arrives and the safe frame or telemetry datagram
  joins its class queue or is discarded if late. -/
  | timedLaunch (p : Fin 2) (busy : Nat) (t : Tick)
  /-- `TELEMETRY_STREAM_SAMPLE` (R411): A stream samples its sources in a sampled cycle and completes a
  datagram every BATCH samples. -/
  | telemetryStreamSample (j : Fin 4)
  /-- `STREAM_STOP` (R412): At the boundary after the owner session closes the stream stops. -/
  | streamStop
  /-- `CAN_WINDOW_OPEN` (R415): A transmit slot's window opens and its pending message is offered if it
  fits. -/
  | canWindowOpen (c : Fin 2) (k : Fin 16) (fits : Bool)
  /-- `CAN_FRAME_TRANSMITTED` (R419): A CAN frame is sent successfully and stamped. -/
  | canFrameTransmitted (c : Fin 2) (stamp : BitVec 32) (t : Tick)
  /-- `CAN_TX_ERROR` (R417): A transmission loses arbitration or meets an error; error counters move and
  the message retries. -/
  | canTxError (c : Fin 2) (lost ack : Bool) (fits : Bool) (t : Tick)
  /-- `CAN_BUS_OFF_RECOVERY` (R417): 128 sequences of 11 recessive bits are counted and the controller
  returns to error active. -/
  | canBusOffRecovery (c : Fin 2) (t : Tick)
  /-- `CAN_FRAME_RECEIVE` (R420): A received CAN frame is matched to a receive slot and stored or passed
  to the island. -/
  | canFrameReceive (c : Fin 2) (f : CanFrame) (stamp : BitVec 32) (t : Tick)
  /-- `CAN_RX_LOCK_TIMEOUT` (R421): A host buffer lock is released 1 s after it was taken. -/
  | canRxLockTimeout (c : Fin 2) (k : Fin 16)
  /-- `CAN_RXSEL_WRITE` (R421): A session changes CAN_RXSEL, releasing any buffer it had locked. -/
  | canRxselWrite (r : Req) (w : Word)
  /-- `ADC_CONVERSION_SLOT` (R459): A conversion slot starts and each converter converts its table entry
  or urgent input, waits, powers down or starts up. -/
  | adcConversionSlot (sl : Fin 20)
  /-- `ADC_CONVERSION_COMPLETE` (R463): A conversion completes; its result is written to its tile and
  checked by protection thresholds. -/
  | adcConversionComplete (k : Fin 4) (pins : PinPair) (edge : Bool)
  /-- `ADC_URG` (R461): A host urgent conversion request is accepted for the next slot boundary. -/
  | adcUrg (r : Req) (adc : Fin 4) (ch : Fin 32)
  /-- `ARBITER_DRAW` (R435): The Inkwell port is free and the lottery arbiter draws a winner among
  eligible requesters. -/
  | arbiterDraw (req : BitVec 7)
  /-- `INKWELL_TRANSFER_DONE` (R434): A granted Inkwell transfer of 1-16 tiles ends and frees the port.
  -/
  | inkwellTransferDone (tiles : Fin 16)
  /-- `SCRUB_TILE_READ` (R432): The scrubber reads and checks the next tile of a memory. -/
  | scrubTileRead (cim bad : Bool) (t : Tick)
  /-- `ARB_CTL_WRITE` (R437): A write of ARB_CTL sets or ends the freeze and loads the LFSR seed. -/
  | arbCtlWrite (r : Req) (w : Word)
  /-- `FREEZE_TIMER` (R437): A freeze has been held for more than 100 ms. -/
  | freezeTimer (t : Tick)
  /-- `ARB_CMD_REVOKE` (R437): ARB_CMD revokes the named holder's transfer at the next tile boundary. -/
  | arbCmdRevoke (r : Req) (i : Fin 8)
  /-- `INK_WIN_WRITE` (R452): A write of window words writes the general area through requester 0,
  merging partial tiles. -/
  | inkWinWrite (r : Req) (k : Fin 64) (ws : List Word)
  /-- `DMA_START` (R438): DMA_CMD start queues a host channel to run its descriptor chain. -/
  | dmaStart (r : Req) (ch : Fin 8)
  /-- `DMA_CANCEL` (R445): DMA_CMD cancel removes a waiting channel or ends a running one after its
  present descriptor. -/
  | dmaCancel (r : Req) (ch : Fin 8)
  /-- `DMA_DESCRIPTOR_FETCH` (R439): The DMA engine fetches and checks the next descriptor, ending the
  chain on a bad descriptor, loop or limit. -/
  | dmaDescriptorFetch (bad : Bool) (t : Tick)
  /-- `DMA_BURST_COMPLETE` (R440): A DMA burst's read and write transfers complete. -/
  | dmaBurstComplete (bad : Option (Fin 17)) (t : Tick)
  /-- `DMA_READBACK_DONE` (R442): After a descriptor's last write the engine reads back the last tile
  and appends the completion record. -/
  | dmaReadbackDone (same : Bool) (t : Tick)
  /-- `DMA_MEMORY_TIMEOUT` (R445): A DMA read or write has no response 2 us after its transfer began and
  the chain ends. -/
  | dmaMemoryTimeout (t : Tick)
  /-- `BLOTTER_ROW` (R446): In a sampled cycle the Blotter writes one row, evaluates triggers and
  advances its capture state. -/
  | blotterRow (t : Tick)
  /-- `BLOT_CMD_TRIGGER` (R448): A write of BLOT_CMD.TRIGGER requests a manual trigger. -/
  | blotCmdTrigger (r : Req)
  /-- `SAFETY_INPUT_SAMPLE` (R324): Every 100 us each safety channel samples its lines and updates
  demands, functions, outputs and block lines. -/
  | safetyInputSample (ch : Fin 2) (a b : Byte) (srst : Bool) (t : Tick)
  /-- `DISCREPANCY_SAMPLE` (R325): At each 1 ms discrepancy sample each channel counts line
  disagreements per input. -/
  | discrepancySample (ch : Fin 2) (t : Tick)
  /-- `INPUT_TEST_PULSE_START` (R327): TPA or TPB switches off for the test-pulse width and the channel
  masks its lines. -/
  | inputTestPulseStart (src : Fin 2)
  /-- `INPUT_TEST_PULSE_END` (R327): An input test pulse ends and its line checks are judged. -/
  | inputTestPulseEnd (src : Fin 2) (t : Tick)
  /-- `FUNCTION_LOCK_TIMER` (R328): A function's demand sources have been gone for 10 ms and it moves to
  LOCKED. -/
  | functionLockTimer (ch f : Fin 2)
  /-- `BLOCK_CONFIRM_TIMEOUT` (R330): A lane island does not confirm the island's block within 2 us and
  its transmitter supply is cut. -/
  | blockConfirmTimeout (isl : Fin 8) (ch : Fin 2) (t : Tick)
  /-- `OUTPUT_READBACK` (R331): Every 100 us each channel reads back the output pins and compares them
  with its command. -/
  | outputReadback (ch : Fin 2) (pins : List (BitVec 16 × BitVec 16)) (sov : BitVec 16) (t : Tick)
  /-- `OUTPUT_OVERLOAD` (R331): A safety output switch limits and turns off, latching an overload. -/
  | outputOverload (k : Fin 4) (ch : Fin 2) (t : Tick)
  /-- `SOV_LOSS` (R331): SOV leaves 18-30 V and the outputs are held off. -/
  | sovLoss (t : Tick)
  /-- `OUTPUT_TEST_PULSE` (R332): An energised tested output receives its high-side then low-side test
  pulses. -/
  | outputTestPulse (k : Fin 4) (ch : Fin 2)
  /-- `OUTPUT_TEST_PULSE_END` (R332): An output test pulse ends and its readback is judged or discarded.
  -/
  | outputTestPulseEnd (k : Fin 4) (ch : Fin 2) (off : Bool) (t : Tick)
  /-- `SAFETY_RESET` (R334): A reset on SRST is accepted and returns LOCKED functions to PERMIT and
  clears latched faults whose conditions are met. -/
  | safetyReset (t : Tick)
  /-- `RESET_STUCK_TIMER` (R334): Under edge mode SRST has read ON for more than 10 s. -/
  | resetStuckTimer (t : Tick)
  /-- `CROSS_LINK_EXCHANGE` (R320): Once per ms the two safety channels exchange readings, states and
  faults and cross-check clocks. -/
  | crossLinkExchange (clockOk : Bool) (t : Tick)
  /-- `SAFETY_START_TESTS_DONE` (R321): The island's start-up tests pass and it enters RUN with every
  function LOCKED. -/
  | safetyStartTestsDone (outBad : BitVec 4) (inBad : Byte) (clockOk : Bool) (t : Tick)
  /-- `SAFE_FRAME_RECEIVE` (R337): Each channel checks a consumed safe frame and accepts or discards it.
  -/
  | safeFrameReceive (j : Fin 8) (ch : Fin 2) (frame : List Byte) (t : Tick)
  /-- `SAFE_FRAME_PRODUCE` (R336): A produced connection's period elapses and both channels build the
  next frame. -/
  | safeFrameProduce (j : Fin 8) (t : Tick)
  /-- `SFL_WATCHDOG_EXPIRY` (R337): No frame has been accepted for TEXP and the connection is faulted
  and returns to RESYNC. -/
  | sflWatchdogExpiry (j : Fin 8) (ch : Fin 2) (t : Tick)
  /-- `QUILL_PATH_LOSS` (R351): HB_IN has had no transition for 1.5 us and the quill path is absent. -/
  | quillPathLoss (t : Tick)
  /-- `LANE_PATH_LOSS` (R351): No partner lane of the active group is in sync or two partner frames are
  missing. -/
  | lanePathLoss (t : Tick)
  /-- `GIVEUP_SIGNAL_DETECT` (R351): TOK_IN is released while HB_IN keeps toggling for 2 us, and the
  standby declares failure. -/
  | giveupSignalDetect (t : Tick)
  /-- `FAILURE_DECLARE` (R352): Under dual heartbeat both paths have been absent for more than 3 us and
  failure of the holder is declared. -/
  | failureDeclare (t : Tick)
  /-- `TOKEN_CLAIM` (R350): At start(d) - 1 us a side entitled to do so asserts TOK_OUT and gains GRANT
  once TOK_IN has been released for 1 us. -/
  | tokenClaim (tokIn released : Bool)
  /-- `TOK_IN_ASSERT` (R350): A side sees TOK_IN asserted while it claims; side B withdraws and side A
  keeps its claim. -/
  | tokInAssert (t : Tick)
  /-- `TOKEN_RELEASE_HANDOVER` (R367): At start(h) - 2 us the holder releases TOK_OUT for an agreed
  handover. -/
  | tokenReleaseHandover
  /-- `PARTNER_FRAME_SEND` (R363): At 8.4 us each side sends its partner frame over the bond. -/
  | partnerFrameSend
  /-- `PARTNER_FRAME_RECEIVE` (R363): A partner frame arrives; inputs, CRCs, records, hashes and
  readiness are taken from it. -/
  | partnerFrameReceive (f : PFrame) (crcOk : Bool) (t : Tick)
  /-- `PBK` (R360): A /PBK/ from the partner arrives and the named stacks are held blocked as own STACK
  blocks. -/
  | pbk (mask : BitVec 16) (t : Tick)
  /-- `REPLICATED_RECORD_APPLY` (R359): At EFFECT both sides apply a replicated request. -/
  | replicatedRecordApply
  /-- `JOIN_IMAGE_COMPLETE` (R362): A joining side has received the whole state image and starts
  rebuilding kept steps. -/
  | joinImageComplete
  /-- `JOIN_CATCHUP_COMPLETE` (R362): LAG reaches zero and the joining side becomes STANDBY. -/
  | joinCatchupComplete
  /-- `REVERSION_HOLDOFF_EXPIRY` (R368): Side A has been READY for HOLDOFF and requests reversion or
  locks out reversion at its limit. -/
  | reversionHoldoffExpiry (t : Tick)
  /-- `HELLO` (R376): A HELLO handshake message is received and answered with REPLY or ALERT. -/
  | hello (peer : Peer) (body : List Byte) (t : Tick)
  /-- `FINISH` (R377): A FINISH message is verified, session keys derived and the session opened. -/
  | finish (peer : Peer) (sid : BitVec 16) (body : List Byte) (t : Tick)
  /-- `HANDSHAKE_TIMEOUT` (R377): FINISH has not completed within 5 s of the first HELLO fragment and
  the attempt is dropped. -/
  | handshakeTimeout (slot : Fin 8) (t : Tick)
  /-- `RECORD_DISCARDED` (R375): A received record fails its tag, SID, counter or sequence checks and is
  discarded. -/
  | recordDiscarded (x : RecIn) (t : Tick)
  /-- `SESSION_IDLE_TIMEOUT` (R378): IDLE_TO seconds pass without an accepted record, or the port's link
  is down that long, and the session closes. -/
  | sessionIdleTimeout (slot : Fin 8)
  /-- `SESSION_CLOSE` (R378): The session ends after the reply. -/
  | sessionClose (r : Req) (p : List Byte)
  /-- `PING` (R384): Returns station time and module state with the request bytes echoed. -/
  | ping (r : Req) (p : List Byte)
  /-- `PAGE_GET` (R385): Returns a range of page words in force. -/
  | pageGet (r : Req) (p : List Byte)
  /-- `PAGE_SET` (R387): Checks and writes a range of page words, or commits them implicitly. -/
  | pageSet (r : Req) (p : List Byte)
  /-- `PAGE_STAGE` (R389): Stages RW words in the session's open transaction. -/
  | pageStage (r : Req) (p : List Byte)
  /-- `TXN_BEGIN` (R389): Takes the configuration lock and opens a transaction with a 10 s lease. -/
  | txnBegin (r : Req) (p : List Byte)
  /-- `TXN_COMMIT` (R390): Runs the commit checks and makes the transaction pending for its boundary. -/
  | txnCommit (r : Req) (p : List Byte)
  /-- `COMMIT_TAKES_EFFECT` (R390): At the commit boundary all staged words take effect together, the
  lock is released and the reply is sent. -/
  | commitTakesEffect
  /-- `TXN_ABORT` (R390): Discards the staged words and releases the lock. -/
  | txnAbort (r : Req) (p : List Byte)
  /-- `LOCK_RENEW` (R389): Resets the owner's lease to 10 s. -/
  | lockRenew (r : Req) (p : List Byte)
  /-- `LEASE_TIMEOUT` (R391): At the boundary after the lease ends, or at owner close or restart, the
  transaction is discarded and the lock released. -/
  | leaseTimeout
  /-- `MODE_SET` (R397): Requests a module state transition, checked at acceptance. -/
  | modeSet (r : Req) (p : List Byte)
  /-- `MODE_TRANSITION` (R397): At its boundary a requested or automatic state transition is rechecked
  and applied. -/
  | modeTransition
  /-- `MODE_GET` (R384): Returns the module state, last change and blocked stacks. -/
  | modeGet (r : Req) (p : List Byte)
  /-- `CELL_ENUMERATE` (R136): Starts enumeration of the strings in scope as a long operation. -/
  | cellEnumerate (r : Req) (p : List Byte)
  /-- `CELL_ADMIT` (R137): Starts the six-step admission of a FOUND cell. -/
  | cellAdmit (r : Req) (p : List Byte)
  /-- `CELL_RETIRE` (R384): Sends RETIRE to a cell and sets it RETIRED. -/
  | cellRetire (r : Req) (p : List Byte)
  /-- `CELL_BYPASS` (R14): Commands a confirmed cell's bypass element closed. -/
  | cellBypass (r : Req) (p : List Byte)
  /-- `LOOP_OPEN` (R249): Opens a loop slot with a hold value. -/
  | loopOpen (r : Req) (p : List Byte)
  /-- `LOOP_CLOSE` (R250): Closes a loop slot for a bumpless start at its next sample. -/
  | loopClose (r : Req) (p : List Byte)
  /-- `LOOP_COEFF_SET` (R251): Writes coefficients of an open slot together. -/
  | loopCoeffSet (r : Req) (p : List Byte)
  /-- `TRACE_ARM` (R447): Arms or disarms the Blotter capture. -/
  | traceArm (r : Req) (p : List Byte)
  /-- `TRACE_READ` (R449): Reads a finished Blotter capture in chunks. -/
  | traceRead (r : Req) (p : List Byte)
  /-- `EVENTS_READ` (R386): Returns event log entries from a given sequence. -/
  | eventsRead (r : Req) (p : List Byte)
  /-- `FAULT_RESET` (R307): Requests a reset of events and recovery sources in a scope at the next
  boundary. -/
  | faultReset (r : Req) (p : List Byte)
  /-- `OP_STATUS` (R393): Returns the state and progress of a long operation. -/
  | opStatus (r : Req) (p : List Byte)
  /-- `OP_CANCEL` (R394): Cancels a long operation as its kind allows. -/
  | opCancel (r : Req) (p : List Byte)
  /-- `CHUNK_TIMEOUT` (R395): A chunked operation receives no chunk for 30 s and fails with BUSY. -/
  | chunkTimeout (op : BitVec 16)
  /-- `FW_LOAD` (R479): Writes an image chunk, verifying firmware or operator key list at the last
  chunk. -/
  | fwLoad (r : Req) (p : List Byte)
  /-- `FW_ACTIVATE` (R479): Selects a slot, flushes the journal and restarts the module from BOOT after
  the reply. -/
  | fwActivate (r : Req) (p : List Byte)
  /-- `ATTEST` (R481): Builds or reads a signed attestation report for a nonce. -/
  | attest (r : Req) (p : List Byte)
  /-- `OTP_BURN` (R483): Receives a signed settings generation in chunks and checks it at the last
  chunk. -/
  | otpBurn (r : Req) (p : List Byte)
  /-- `OTP_BURN_PROGRAM` (R484): The burn of a passed payload into the next settings generation finishes
  or fails. -/
  | otpBurnProgram (ok : Bool)
  /-- `JOURNAL_READ` (R487): Returns bytes from a journal region. -/
  | journalRead (r : Req) (p : List Byte)
  /-- `PAIR_STATUS` (R369): Returns the pair status words. -/
  | pairStatus (r : Req) (p : List Byte)
  /-- `PAIR_HANDOVER` (R369): Orders a handover of the token to the named side. -/
  | pairHandover (r : Req) (p : List Byte)
  /-- `LANE_CTL_WRITE` (R90): A write of LANE_CTL is checked against traffic and rates and may restart
  acquisition. -/
  | laneCtlWrite (r : Req) (i : Fin 68) (w : Word)
  /-- `LANE_CMD_BIT_SLIP` (R84): LANE_CMD shifts a lane's word boundary by one bit. -/
  | laneCmdBitSlip (r : Req) (i : Fin 68)
  /-- `LANE_CMD_CLEAR` (R99): LANE_CMD clears a lane's error counter and saturation flag. -/
  | laneCmdClear (r : Req) (i : Fin 68)
  /-- `BOND_CTL_WRITE` (R94): A write of BOND_CTL enables, disables or re-forms the partner bond. -/
  | bondCtlWrite (r : Req) (w : Word)
  /-- `LINK_CMD_LOOPBACK_START` (R144): LINK_CMD sends /LBK/ to start far-end loopback at a nib. -/
  | linkCmdLoopbackStart (r : Req) (p : Fin 64) (pos : Fin 128)
  /-- `LINK_CMD_LOOPBACK_END` (R144): LINK_CMD sends /LBK/ to end a nib's loopback. -/
  | linkCmdLoopbackEnd (r : Req) (p : Fin 64) (pos : Fin 128)
  /-- `CLK_LOOP_WRITE` (R157): A write of CLK_LOOP restarts acquisition of its loops, forced or refused
  while lanes are in use. -/
  | clkLoopWrite (r : Req) (i : Fin 17) (w : Word)
  /-- `TIME_SNAP` (R167): A write of TIME_SNAP latches station time and cycle number at the next
  boundary. -/
  | timeSnap (r : Req)
  /-- `DUCT_CLAMP_REARM` (R199): Writing 1 to DUCT_CLAMP.VALID re-arms the clamp capture. -/
  | ductClampRearm (r : Req)
  /-- `DUCT_FAIL_REARM` (R199): Writing 1 to DUCT_FAIL.VALID re-arms the checker capture. -/
  | ductFailRearm (r : Req)
  /-- `THERM_FAIL_REARM` (R230): Writing 1 to THERM_FAIL.VALID re-arms the mismatch capture. -/
  | thermFailRearm (r : Req)
  /-- `SC_CAPTURE_REARM` (R285): Writing 1 to SC_CAPTURE.VALID re-arms the short capture. -/
  | scCaptureRearm (r : Req)
  /-- `FE_INFO_REARM` (R309): Writing 1 to FE_INFO.VALID re-arms the first-error capture. -/
  | feInfoRearm (r : Req)
  /-- `SAF_FAULT_REARM` (R344): Writing 1 to SAF_FAULT.VALID re-arms the SAFETY event capture. -/
  | safFaultRearm (r : Req)
  /-- `INK_FIRST_REARM` (R451): Writing 1 to INK_FIRST.VALID re-arms the poison capture. -/
  | inkFirstRearm (r : Req)
  /-- `NIB_POWER_UP` (R141): A nib powers up in POWERUP with all switches off. -/
  | nibPowerUp (n : Fin 3072) (ident : Word) (typ : Fin 4) (turnLo turnHi fw : BitVec 16)
  /-- `NIB_STROKE_PASS` (R115): A stroke passes a nib, which updates HOPS and CORR, takes position and
  time, fills its slot and forwards or wraps. -/
  | nibStrokePass (n : Fin 3072) (v : StrokePass)
  /-- `NIB_SEGMENT_RECEIVE` (R110): A nib validates a command segment and accepts, stores or ignores it,
  acting on its BLOCK flag and request. -/
  | nibSegmentReceive (n : Fin 3072) (side : Fin 2) (hdr seg : List Byte) (err : Bool) (tS : Nat)
  /-- `IDENTIFY` (R134): A nib answers an IDENTIFY request with its reply. -/
  | identify (n : Fin 3072)
  /-- `SET_ARR` (R134): A nib takes a new arrival offset and recomputes TRIM. -/
  | setArr (n : Fin 3072)
  /-- `ADMIT` (R134): A nib with matching identity discards its state, adopts the epoch and enters
  ADMITTED. -/
  | admitCi (n : Fin 3072)
  /-- `RETIRE` (R134): A nib turns off at soft-off strength, sets epoch 0 and enters NUMBERED. -/
  | retire (n : Fin 3072)
  /-- `MGMT_UNKNOWN_REQUEST` (R134): A nib answers an unknown request code with result 1. -/
  | mgmtUnknownRequest (n : Fin 3072)
  /-- `NIB_TARGET_CYCLE_START` (R122): A target cycle begins at a nib, which executes its held schedule
  or turns off and enters SAFE. -/
  | nibTargetCycleStart (n : Fin 3072)
  /-- `NIB_EDGE_EXECUTE` (R109): A nib executes an edge record at its offset and measures the switching
  time. -/
  | nibEdgeExecute (n : Fin 3072) (seen : EdgeSeen)
  /-- `BLK` (R125): A nib receives /BLK/, forwards it, latches a block and turns off within 2 us. -/
  | blk (n : Fin 3072) (side : Fin 2)
  /-- `CLR` (R126): A nib receives /CLR/, forwards it and arms itself if blocked, safe or faulted. -/
  | clr (n : Fin 3072) (side : Fin 2)
  /-- `BRK` (R117): A nib receives /BRK/ on a side and enters wrap there. -/
  | brk (n : Fin 3072) (side : Fin 2)
  /-- `EIS` (R117): A nib receives /EIS/, forwards it and enters wrap for the electrical idle. -/
  | eis (n : Fin 3072) (side : Fin 2)
  /-- `ECQ` (R129): A nib addressed by an echo request sends its echo reply. -/
  | ecq (n : Fin 3072) (side : Fin 2) (d : SetData) (ok : Bool)
  /-- `LBK` (R144): A nib addressed by /LBK/ starts or ends far-end loopback of its low side. -/
  | lbk (n : Fin 3072) (side : Fin 2) (d : SetData) (ok : Bool)
  /-- `NIB_SIDE_LOSS` (R117): A nib loses signal or sync on a side and enters wrap there. -/
  | nibSideLoss (n : Fin 3072) (side : Fin 2)
  /-- `NIB_BRK_TIMER` (R117): Once per us a nib in wrap sends /BRK/ out of a side lacking signal or
  sync. -/
  | nibBrkTimer (n : Fin 3072)
  /-- `NIB_WRAP_EXIT` (R117): A wrapped side has been in sync without /BRK/ for 10 ms and the nib leaves
  wrap. -/
  | nibWrapExit (n : Fin 3072) (side : Fin 2)
  /-- `NIB_TIME_ERROR` (R128): A nib has rejected or lacked time estimates for 100 cycles and sets its
  time-error flag. -/
  | nibTimeError (n : Fin 3072)
  /-- `NIB_SHORT_DETECT` (R278): A nib detects a short, turns off at soft-off strength and enters FAULT.
  -/
  | nibShortDetect (n : Fin 3072) (sw : Fin 8) (hard : Bool) (t : Tick)
  /-- `NIB_FAULT_DETECT` (R112): A nib detects a gate-driver, over-temperature or auxiliary supply fault
  and enters FAULT. -/
  | nibFaultDetect (n : Fin 3072) (f : NibFault)
  /-- `NIB_BYPASS_CLOSE` (R123): A nib's bypass element closes 2-100 us after the request and STAT.BYP
  is set. -/
  | nibBypassClose (n : Fin 3072)
  /-- `NIB_OVERVOLT_BYPASS` (R141): A nib closes its bypass element by itself when VCAP1 exceeds its
  rated overvoltage. -/
  | nibOvervoltBypass (n : Fin 3072)
  /-- `FEED_HIGH_CLEAR` (R73): Both feeds have stayed below 32.5 V for 100 ms and FEED_HIGH clears. -/
  | feedHighClear
  /-- `BASEPLATE_HOT_CLEAR` (R73): The baseplate reading has stayed below 68 degC for 1 s and
  BASEPLATE_HOT clears. -/
  | baseplateHotClear
  /-- `SOV_RETURN` (R331): SOV returns within 18-30 V, SOV_OK is set, and the 1 s in-range time before a
  reset can clear SAF_SOV_LOST starts. -/
  | sovReturn
  /-- `CAN_RX_ERROR` (R414): A CAN controller detects a bus error while receiving and raises its receive
  error counter, possibly into warning or error-passive state. -/
  | canRxError (c : Fin 2) (eight : Bool) (t : Tick)
  /-- `NIB_FAULT_GONE` (R112): A nib's gate-driver, over-temperature or auxiliary supply fault
  disappears and its TYFLT fault bits clear while it stays in FAULT. -/
  | nibFaultGone (n : Fin 3072) (f : NibFault)
  /-- `NIB_POWER_LOSS` (R115): A nib loses power, forgets its position and state, and its ports go dark.
  -/
  | nibPowerLoss (n : Fin 3072)
  /-- `NIB_SIDE_SYNC_ACQUIRE` (R117): A wrapped nib side regains sync, stops /BRK/, starts its 10 ms
  exit wait, or leaves wrap at once after an announced idle. -/
  | nibSideSyncAcquire (n : Fin 3072) (side : Fin 2)
  /-- `BYPASS_ELEMENT_REOPENED` (R15): Maintenance reopens a cell's bypass element, and the nib stops
  reporting STAT.BYP. -/
  | bypassElementReopened (ci : Fin 3072)
  /-- `QUILL_PATH_RETURN` (R351): HB_IN transitions resume and the quill path becomes present again. -/
  | quillPathReturn (t : Tick)
deriving DecidableEq, Repr

end Sys2Proof
end

