-- ==== Sys2Proof/Config.lean ====
section
/-! DEFINITION. What the spec leaves to the implementation, or gives only by reference to an outside
standard, and the free values. Every opaque constant here has no body: nothing can be proved of its value. -/

namespace Sys2Proof

/-- The digest of SHA-512 as a number of 512 bits. Given by its standard only. -/
opaque Config.digest : List Byte → BitVec 512

/-- SHA-512 (R376, R474, R478, R481): the 64 bytes of the digest, most significant first. -/
def Config.sha512 (m : List Byte) : List Byte :=
  (List.range 64).map fun i => (Config.digest m).extractLsb' (8 * (63 - i)) 8

/-- Ed25519 verification: public key, message, signature (R474; RFC 8032). -/
opaque Config.edVerify : List Byte → List Byte → List Byte → Bool

/-- ML-DSA-65 verification: public key, message, signature (R474; FIPS 204). -/
opaque Config.mlVerify : List Byte → List Byte → List Byte → Bool

/-- Signature by the device identity's Ed25519 key (R480). -/
opaque Config.edSign : List Byte → List Byte

/-- Signature by the device identity's ML-DSA-65 key (R480). -/
opaque Config.mlSign : List Byte → List Byte

/-- The module's X25519 public key and ML-KEM-768 ciphertext of a handshake, from the host's keys and the
handshake's free value (R376). -/
opaque Config.kemReply : List Byte → Nat → List Byte

/-- The shared secrets of a handshake, X25519 then ML-KEM-768, from the same two (R377). -/
opaque Config.kemSecret : List Byte → Nat → List Byte

/-- AES-256-GCM (R375): key, IV, AAD and plaintext give the ciphertext followed by the 16-byte tag. -/
opaque Config.gcmSeal : List Byte → List Byte → List Byte → List Byte → List Byte

/-- AES-256-GCM: key, IV, AAD and ciphertext with its tag give the plaintext, none where the tag fails (R375). -/
opaque Config.gcmOpen : List Byte → List Byte → List Byte → List Byte → Option (List Byte)

/-- The firmware public keys in the boot ROM, Ed25519 then ML-DSA-65 (R470). -/
opaque Config.romKeys : List Byte

/-- The DER certificates of the identity area, in the order of R481. -/
opaque Config.certs : List Byte

/-- A value the spec leaves undefined, fresh for each count. -/
opaque Config.freeWord : Nat → Word

/-- A byte string of the given length that the spec leaves open, fresh for each count. -/
opaque Config.freeBytes : Nat → Nat → List Byte

/-- The proportional and the integral part of the time servo for an offset in ps, in 10⁻¹² (R160, R164): by the source
that gives it and TIME_SERVO.BW. The spec gives the bandwidth and no gains. -/
opaque Config.servoP : Nat → Nat → Int → Int
opaque Config.servoI : Nat → Nat → Int → Int

end Sys2Proof
end

