-- ==== Sys2Proof/Machine/Tab.lean ====
section
/-! DEFINITION. Indexed state as plain data: a table is a list of (index, value) pairs in one canonical
form, indices strictly rising and no entry equal to what an unlisted index reads as. Equal tables are
equal lists. -/

namespace Sys2Proof.Machine

/-- Indexed state: what an unlisted index holds is the default function given to `get` and `put`. -/
abbrev Tab (α : Type) := List (Nat × α)

/-- The value at index `k`; `d` gives what an unlisted index holds. -/
def Tab.get {α : Type} (d : Nat → α) : Tab α → Nat → α
  | [], k => d k
  | (j, v) :: t, k => if k = j then v else Tab.get d t k

/-- The table with index `k` taken out of the list. -/
def Tab.drop {α : Type} : Tab α → Nat → Tab α
  | [], _ => []
  | (j, v) :: t, k => if j = k then Tab.drop t k else (j, v) :: Tab.drop t k

/-- The table with `v` listed at index `k`. -/
def Tab.ins {α : Type} : Tab α → Nat → α → Tab α
  | [], k, v => [(k, v)]
  | (j, w) :: t, k, v =>
    if j < k then (j, w) :: Tab.ins t k v else if j = k then (k, v) :: t else (k, v) :: (j, w) :: t

/-- The table with `v` at index `k`: a value equal to the default leaves the list. -/
def Tab.put {α : Type} [DecidableEq α] (d : Nat → α) (t : Tab α) (k : Nat) (v : α) : Tab α :=
  if v = d k then Tab.drop t k else Tab.ins t k v

/-- The value at `k` changed by `f`. -/
def Tab.upd {α : Type} [DecidableEq α] (d : Nat → α) (t : Tab α) (k : Nat) (f : α → α) : Tab α :=
  Tab.put d t k (f (Tab.get d t k))

/-- The canonical form above a bound: every index at least `lo` and strictly rising, no entry at its
default. -/
def Tab.wfFrom {α : Type} [DecidableEq α] (d : Nat → α) : Nat → Tab α → Bool
  | _, [] => true
  | lo, (j, v) :: t => decide (lo ≤ j) && decide (v ≠ d j) && Tab.wfFrom d (j + 1) t

/-- The canonical form of a table. -/
def Tab.wf {α : Type} [DecidableEq α] (d : Nat → α) (t : Tab α) : Bool := Tab.wfFrom d 0 t

/-- The value changed at every index of a list, in order. -/
def Tab.updAll {α : Type} [DecidableEq α] (d : Nat → α) (t : Tab α) (ks : List Nat) (f : Nat → α → α) : Tab α :=
  ks.foldl (fun t k => Tab.put d t k (f k (Tab.get d t k))) t

end Sys2Proof.Machine
end

