-- ==== Sys2Proof/Machine/State.lean ====
section
/-! DEFINITION. The state of the block: everything the spec gives the module and the nibs, as plain data,
and its value right after reset. Indexed state is a `Tab` whose unlisted indices hold the `init` value
of their type. -/

namespace Sys2Proof.Machine

/-- Module states, with the codes of R396. -/
inductive ModState where
  | boot | config | standby | charging | ready | run | blocked | safeHold | service
deriving DecidableEq, Repr

/-- A symbol of the 8b/10b code: a data byte, or a control character by its byte (R79). -/
inductive Sym where
  | d (b : Byte)
  | k (b : Byte)
deriving DecidableEq, Repr

/-- An ordered set of the cell link or the partner lanes, with the data bytes it carries (R102, R360). -/
inductive OSet where
  | blk | clr
  | brk
  | eis
  | ecq (p q : Byte)
  | ecr (p q : Byte)
  | lbk (p m : Byte)
  | pbk (mask : Nat)
deriving DecidableEq, Repr

/-- What a lane's transmitter does (R78, R86, R89): dark, in electrical idle, carrying the cell link's or the partner's
symbols, retransmitting what its receiver takes in, or sending a test pattern. -/
inductive TxMode where
  | dark | idle | traffic | farEnd | prbs7 | prbs31
deriving DecidableEq, Repr

/-- What a frame out of a network port carries. -/
inductive NetMsg where
  /-- A UDP datagram (R402): the next hop and its MAC address where the ARP cache holds it, the destination address, the
  two UDP ports and the payload. -/
  | udp (hop : Word) (mac : Option (BitVec 48)) (ip : Word) (sport dport : Nat) (bytes : List Byte)
  /-- An ARP request or reply; the target address is the port's own for a gratuitous one. -/
  | arp (reply : Bool) (ip : Word)
  /-- An ICMP echo reply. -/
  | icmp (hop ip : Word) (bytes : List Byte)
  /-- An IGMPv2 membership report for a group (R402, R410). -/
  | igmp (group : Word)
  /-- A PTP message forwarded by the transparent clock, a Pdelay_Req, or the two answers to one. -/
  | ptpSync (msg : PtpMsg)
  | ptpFollow (msg : PtpMsg)
  | ptpAnnounce (msg : PtpAnn)
  | ptpOther (data : List Byte)
  | pdelayReq (seq : BitVec 16)
  | pdelayResp (src : BitVec 80) (seq : BitVec 16)
deriving DecidableEq, Repr

/-- What the module or a nib sends in one step. `State.out` holds what the last step sent. -/
inductive Output where
  /-- An ordered set out of lane `lane` (0–63 cell ports, 64–67 partner lanes) between strokes. -/
  | ordered (lane : Nat) (set : OSet)
  /-- An urgent ordered set out of a lane (R80): the symbols that left since the last stroke began, and the code groups
  of the set under the running disparity of that boundary. -/
  | urgent (lane : Nat) (set : OSet) (after : Nat) (groups : List (BitVec 10))
  /-- A stroke out of a cell port (R105): its header, the cells' segments and the telemetry slots, positions in sending
  order. -/
  | stroke (port : Nat) (header : List Byte) (segs slots : List (List Byte))
  /-- The idle ordered sets that follow a transmission (R79): the first of them, then /I2/ again and again. -/
  | idles (lane : Nat) (first : List Sym)
  /-- The training burst of R87 out of a lane. -/
  | train (lane : Nat) (syms : List Sym)
  /-- What a transmitter does changes (R86, R89). -/
  | txMode (lane : Nat) (mode : TxMode)
  /-- Received bytes sent out again by a lane in far-end loopback (R89). -/
  | again (lane : Nat) (bytes : List Byte)
  /-- A bond marker out of a partner lane (R91). -/
  | marker (lane : Nat) (syms : List Sym)
  /-- The partner frame of R363, striped byte by byte over the active lanes (R91). -/
  | partner (lanes : List (Nat × List Byte))
  /-- A frame out of a network port (R402): its egress class and, on a tagged port, its VLAN ID and priority (R404). -/
  | net (port cls : Nat) (tag : Option (Nat × Nat)) (msg : NetMsg)
  /-- A CAN frame offered to controller `c`. -/
  | can (c : Nat) (id : Nat) (bytes : List Byte)
  /-- A safe frame handed to the black channel by connection `j` (R338). -/
  | safe (j : Nat) (bytes : List Byte)
  /-- A management request placed in a cell's next segment (R133). -/
  | mgmt (ci : Nat) (bytes : List Byte)
  /-- An ordered set out of a side of the nib at place `place`; side 0 low, 1 high. -/
  | nibSet (place side : Nat) (set : OSet)
  /-- A stroke out of a side of a nib: its header, the segments and slots after it, and the symbols in whose place
  /ERR/ stands (R104). -/
  | nibStroke (place side : Nat) (header body : List Byte) (errs : List Nat)
  /-- The training burst that a nib forwards (R88). -/
  | nibTrain (place side : Nat)
  /-- A switch driven to a level at a gate strength code (R109, R283). -/
  | nibDrive (place sw : Nat) (level : Bool) (gate : Nat)
  /-- Every switch of a nib turned off at a strength code (R122, R125, R278). -/
  | nibOff (place soft : Nat)
deriving DecidableEq, Repr

/-- A MODE_SET accepted and not yet due (R397). -/
structure ModeReq where
  target : ModState
  /-- Stack mask of a CHARGING request; 0 = every enabled stack (R384). -/
  mask : Nat
  /-- Boundary (elapsed cycles) at which it takes effect. -/
  due : Nat
  /-- Session slot and SEQ that wait for the reply, where one does. -/
  slot : Nat
deriving DecidableEq, Repr

/-- Power, module state and the hardware monitor (Module, Connectors and Ratings; Command Packets and
Module States). -/
structure Sys where
  /-- The converters run: from POWER_UP to the end of a power-down. -/
  powered : Bool
  /-- A power-down is under way (R53). -/
  stopping : Bool
  /-- An image was verified and its firmware runs (R472). -/
  fwRuns : Bool
  /-- The module stays in BOOT until a power cycle (R473). -/
  stuck : Bool
  mode : ModState
  prev : ModState
  /-- SYS_STATE.REASON (R400). -/
  reason : Nat
  /-- SYS_LASTCHG. -/
  lastChg : Word
  modeReq : Option ModeReq
  /-- A MODULE-class event asks for the transition to BLOCKED (R296). -/
  blockReq : Bool
  /-- SYS_UPTIME. -/
  uptime : Word
  /-- Boundaries since the last full second. -/
  subSec : Nat
  /-- SYS_ENV.BASE_T, 0.1 °C, two's complement. -/
  baseT : BitVec 16
  /-- SYS_FEEDS, 10 mV per LSB. -/
  feedA : BitVec 16
  feedB : BitVec 16
  feedALow : Bool
  feedBLow : Bool
  /-- LIVE (R348). -/
  live : Bool
  /-- SYS_REJECT and SYS_SESS.REJ_SAT. -/
  reject : Word
  rejSat : Bool
deriving DecidableEq, Repr

/-- One entry of the event queue or of the journal's event log (R308). -/
structure EvEntry where
  code : BitVec 16
  kind : BitVec 4
  inst : BitVec 12
  seq : Word
  cycle : BitVec 48
  tick : BitVec 16
  detail : Word
deriving DecidableEq, Repr

/-- An active event instance (R298). -/
structure ActEv where
  code : Nat
  inst : Nat
  /-- Its condition is present. A single occurrence is absent after its detection cycle. -/
  cond : Bool
  /-- Last elapsed cycle in which the condition was present: the quiet period runs from it (R301). -/
  last : Nat
deriving DecidableEq, Repr

/-- A recovery source (R300): cells 0–3,071, thresholds j at 3,072 + j. -/
structure RecSrc where
  count : Nat
  wstart : BitVec 64
  locked : Bool
deriving DecidableEq, Repr

/-- Events, blocking and recovery (Faults and Reactions). -/
structure Evt where
  active : List ActEv
  /-- Entries held in the hardware queue, oldest first, at most 64 (R308). -/
  queue : List EvEntry
  /-- How many of them, from the newest back, are not yet in the journal. -/
  uncopied : Nat
  /-- SEQ of the newest entry (FLT_QSEQ). -/
  seq : Word
  /-- FLT_QLOST and FLT_STATUS.QLOST_SAT. -/
  lost : Word
  lostSat : Bool
  /-- FLT_QLOST when QUEUE_LOST was raised last. -/
  lostSeen : Word
  /-- FE_INFO, FE_CYC, FE_TICK, FE_DETAIL (R309). -/
  feValid : Bool
  feInfo : Word
  feCyc : Word
  feTick : Word
  feDetail : Word
  recs : Tab RecSrc
  /-- Stacks the protection unit forces to BLOCK: from the block until the release of R304. -/
  forced : Nat
  /-- Elapsed cycle in which /BLK/ for a stack was last requested. -/
  blkReq : Tab Nat
  /-- /CLR/ due on the strings of a stack (index s) or on the string of a cell (16 + CI): the elapsed
  cycle at whose start it leaves (R305, R306). -/
  clrDue : Tab Nat
  /-- A FAULT_RESET accepted and not yet applied: scope, index, instance, elapsed cycle, session slot
  (R307). -/
  resets : List (Nat × Nat × Nat × Nat × Nat)
deriving DecidableEq, Repr

/-- What a session's outstanding request waits for before its reply (R382). -/
inductive Wait where
  | commit | mode | reset | ack | snap
deriving DecidableEq, Repr

/-- A protected session (R375–R380). -/
structure Sess where
  isOpen : Bool
  /-- Session generation, SID [15:3]. -/
  gen : Nat
  /-- Role granted: 0 monitor, 1 control, 2 maintenance. -/
  role : Nat
  keyId : Word
  /-- Where its last accepted record came from: network port (0 N0, 1 N1, 2 service), address and UDP port. -/
  port : Nat
  ip : Word
  sport : Nat
  /-- Keys from host to module and from module to host (R377). -/
  keyIn : List Byte
  keyOut : List Byte
  /-- CTR of the next record to the host. -/
  txCtr : Nat
  /-- Highest accepted CTR, and the accepted ones above it less 64. -/
  rxHigh : Nat
  rxSeen : List Nat
  lastSeq : Option Word
  /-- Stored reply packet of the last executed request. -/
  reply : List Byte
  /-- The request still without a reply: opcode, SEQ and what it waits for. -/
  wait : Option (Nat × Word × Wait)
  /-- Elapsed cycle of the last accepted record. -/
  idleFrom : Nat
  /-- Elapsed cycle at which the session's port lost its link, while it is down. -/
  linkDown : Option Nat
  loopSel : Word
  supSel : Word
  fltRsel : Word
  inkBase : Word
  /-- INK_WSTAT of the session's last window access. -/
  wstat : Nat
  canRxsel : Word
  /-- The session's key was withdrawn or lowered: it closes at the next boundary (R486). -/
  closing : Bool
deriving DecidableEq, Repr

/-- A handshake under way (R376). -/
structure Attempt where
  slot : Nat
  gen : Nat
  role : Nat
  keyId : Word
  port : Nat
  /-- Body of HELLO and bytes 0–1,155 of the REPLY body. -/
  hello : List Byte
  reply : List Byte
  /-- The shared secrets (R377). -/
  secret : List Byte
  started : Nat
deriving DecidableEq, Repr

/-- The configuration lock and its transaction (R389, R390). -/
structure Txn where
  slot : Nat
  /-- Generation of the owner session: with `slot` its SID. -/
  gen : Nat
  number : Nat
  /-- First elapsed boundary at or after the lease's end. -/
  leaseEnd : Nat
  staged : List (Nat × Word)
  /-- Elapsed cycle of the pending commit boundary. -/
  due : Option Nat
  implicit : Bool
deriving DecidableEq, Repr

/-- The record of a long operation (R392, R393). -/
structure OpRec where
  id : Nat
  opcode : Nat
  /-- 0 RUNNING, 1 DONE, 2 FAILED, 3 CANCELLED. -/
  state : Nat
  /-- 0 percentage, 1 position. -/
  kind : Nat
  status : Nat
  done : Nat
  total : Nat
  /-- Elapsed cycle of its start or of its last chunk. -/
  last : Nat
  /-- Session slot of a trace readout; CI of an admission; port of an enumeration; stack mask of a
  pre-charge. -/
  arg : Nat
  /-- Bytes received of a chunked write. -/
  data : List Byte
deriving DecidableEq, Repr

/-- Sessions, transactions and long operations (Command Packets and Module States). -/
structure Cmd where
  sess : Tab Sess
  attempts : List Attempt
  txn : Option Txn
  txnCount : Nat
  ops : List OpRec
  lastOp : Nat
  /-- The attestation report built last and its NONCE (R481). -/
  attNonce : List Byte
  attReport : List Byte
  /-- TOPO_STATUS, LOOP_CHECK. -/
  topoStatus : Word
  loopCheck : Word
  /-- A restart waits for the give-up to end (R354, R475). -/
  restartDue : Bool
deriving DecidableEq, Repr

/-- A replicated write as the RECORDS section carries it (R359, R363). -/
structure RepRec where
  seq : Nat
  kind : Nat
  slot : Nat
  page : Nat
  offset : Nat
  /-- Elapsed cycle of EFFECT. -/
  effect : Nat
  value : Word
deriving DecidableEq, Repr

/-- Roles of a pair side, with the codes of PAIR_STATUS.ROLE (R371). -/
inductive Role where
  | single | holder | standby | joining | out | wait
deriving DecidableEq, Repr

/-- The redundant pair (The Redundant Pair). -/
structure Pair where
  role : Role
  /-- Own READY (R361) and the partner's. -/
  ready : Bool
  pReady : Bool
  /-- Elapsed cycle since which the side has been READY (R368). -/
  readyAt : Nat
  tokOut : Bool
  tokIn : Bool
  grant : Bool
  /-- Quill path and lane path present (R351). -/
  quill : Bool
  lane : Bool
  /-- Elapsed ticks at which both paths have been absent together, while they are. -/
  bothLost : Option Nat
  /-- Failure of the holder declared and not yet acted on (R352). -/
  declared : Bool
  shift : Nat
  /-- Elapsed boundaries for which both paths have been present (PAIR_PATH_LOST clears at 1,000). -/
  pathRun : Nat
  revLock : Bool
  /-- PAIR_LAST. -/
  last : Word
  /-- PAIR_TAKEOVERS, PAIR_HANDOVERS, PAIR_MISMATCH and their SAT flags. -/
  takeovers : Word
  takSat : Bool
  handovers : Word
  hndSat : Bool
  mismatch : Word
  misSat : Bool
deriving DecidableEq, Repr

/-- What a pair side knows of its partner and of the shadowing between them (R358–R364, R367). -/
structure Shadow where
  pMstate : Nat
  pRole : Nat
  topoEq : Bool
  cfgEq : Bool
  /-- The partner's BLOCKED mask and RELEASE mask in its last frame. -/
  pBlocked : Nat
  pRelease : Nat
  /-- Cycle of the last complete partner frame received, low 48 bits, and the elapsed cycle of its
  arrival. -/
  rxCycle : BitVec 48
  rxAt : Option Nat
  /-- Elapsed cycle, plus one, of the last frame that showed the partner claiming; elapsed cycle at which the
  side began to wait for its role. -/
  claimAt : Nat
  waitAt : Nat
  pReq : Bool
  /-- RELEASE mask of the own frame of this cycle. -/
  release : Nat
  relayOff : Nat
  lag : Nat
  /-- PAIR_SYNC.JOIN. -/
  join : Nat
  /-- Cycles for which every stack's CRC has matched (R361). -/
  matchRun : Nat
  /-- PAIR_FRAME.LEN and LOST, and consecutive frames that fitted (R364). -/
  frameLen : Nat
  lost : Nat
  fitRun : Nat
  /-- The partner's last frame fitted the bond (R361, R364). -/
  fits : Bool
  /-- The holder's inputs kept by the standby, or by the holder for resending, newest last. -/
  kept : List StepIn
  /-- The holder's steps of which no acknowledgement has come, at most 4 (R364). -/
  unack : List StepIn
  /-- State image (R362): records received, or still to send; cycle of the step whose end it shows, once a frame has
  carried some, or once the holder has captured it. -/
  imageBuf : List ImageRec
  imageCyc : Option (BitVec 48)
  imageOut : List ImageRec
  /-- The holder's outputs of its wired slots in its last frame (OUTPUTS). -/
  outputs : Tab Word
deriving DecidableEq, Repr

/-- Handover, reversion, give-up and replication under way (R353, R359, R367, R368). -/
structure PairOps where
  giveUp : Bool
  /-- Agreed HANDOVER_AT, as an elapsed cycle; a host order or a reversion. -/
  handover : Option Nat
  isReversion : Bool
  /-- Own REQ flag (R368). -/
  req : Bool
  /-- Replicated records awaiting EFFECT. -/
  records : List RepRec
  recSeq : Nat
  /-- Records not yet carried in a frame. -/
  toSend : List RepRec
  /-- Sessions waiting for the acknowledgement of the frame of a cycle (low 16 bits). -/
  unacked : List (Nat × Nat)
  /-- Move of the shift at the last boundary (R356): 1 from 0 to 1, 2 from 1 to 0, 0 none. -/
  shiftMove : Nat
deriving DecidableEq, Repr

/-- One settings generation of the OTP store (R482): the content bytes written so far, CHECK and SEAL. A
blank generation has none. -/
structure Gen where
  content : List Byte
  check : Word
  sealWord : Word
deriving DecidableEq, Repr

/-- One slot of the image store (R470): its VALID flag and the image bytes it holds. -/
structure FwSlot where
  valid : Bool
  image : List Byte
deriving DecidableEq, Repr

/-- A wear record (R270). -/
structure Wear where
  ident : Word
  edges : Word
  scCnt : Word
  baseOn : Nat
  baseOff : Nat
  bonV : Bool
  boffV : Bool
  curOn : Nat
  curOff : Nat
  ton : Nat
  toff : Nat
  edgeRes : Nat
  start : BitVec 48
  update : BitVec 48
  edgesSat : Bool
  scSat : Bool
deriving DecidableEq, Repr

/-- The LIFETIME counters of R490. -/
structure Lifetime where
  boots : BitVec 64
  onSeconds : BitVec 64
  runSeconds : BitVec 64
  lastCycle : BitVec 64
  supplyLosses : Word
  feedALosses : Word
  feedBLosses : Word
  overtemps : Word
  /-- Seconds in the eight baseplate bands. -/
  bands : Tab (BitVec 64)
deriving DecidableEq, Repr

/-- One boot record of the BOOT region (R491). -/
structure BootRec where
  boots : BitVec 64
  slot : Nat
  svn : Nat
  gen : Nat
  result : Nat
  cause : Nat
  ms : Nat
  fw : Word
deriving DecidableEq, Repr

/-- One stored copy of the safety parameter set (R491). -/
structure SafCopy where
  seq : Word
  pcrc : Word
  words : List Word
  crc : Word
deriving DecidableEq, Repr

/-- Settings store, image store, rollback counter and start-up (Start-up, Trust and Stored Settings). -/
structure Boot where
  gens : Tab Gen
  /-- Active generation, fixed until restart; `none` when no generation passes R482. -/
  active : Option Nat
  /-- Rollback counter. -/
  counter : Nat
  slot0 : FwSlot
  slot1 : FwSlot
  /-- Running slot. -/
  run : Nat
  pref : Nat
  trial : Bool
  trialUsed : Bool
  /-- BOOT_STATUS.FALLBACK. -/
  fallback : Bool
  /-- The FW_FALLBACK or FW_TRIAL_FAILED result for the boot record. -/
  result : Nat
  /-- Cause of the previous stop (R491). -/
  cause : Nat
  /-- FW_LOAD writes the non-running slot. -/
  loading : Bool
  /-- Events found before the firmware runs, raised when it starts: code and instance. -/
  held : List (Nat × Nat)
  /-- The running image has entered CONFIG at this start. -/
  entered : Bool
  /-- A burn has begun writing: the generation, and the step of R484 it is at. -/
  burn : Option (Nat × Nat)
  /-- Firmware measurement (R478). -/
  meas : List Byte
deriving DecidableEq, Repr

/-- The journal (R487–R491) but for the recovery records, which `Evt.recs` holds. -/
structure Journal where
  /-- Event log, oldest first, at most 65,536 records. -/
  events : List EvEntry
  wear : Tab Wear
  /-- Ring of closed wear records with their switch (R272), oldest first, at most 4,096. -/
  closed : List (Nat × Wear)
  life : Lifetime
  /-- Reversion stamps, oldest first, at most 15 (R368). -/
  stamps : List (BitVec 64)
  safety : List SafCopy
  boots : List BootRec
  /-- Owner slots 0–5: owner public keys (R485). -/
  owners : Tab (List Byte)
  /-- Key list banks 0 and 1 and the one in force, if any (R486). -/
  bank0 : List Byte
  bank1 : List Byte
  bank : Option Nat
  /-- JRNL_ERR and JRNL_STATUS.ERR_SAT. -/
  err : Word
  errSat : Bool
  /-- The next boundary is the first after a start: stored cycle numbers move by R489. -/
  fresh : Bool
deriving DecidableEq, Repr

/-- The admission side of a cell's service state (R40): what the cell is when no higher state of R41
holds. -/
inductive Adm where
  | none | found | charging | inserted
deriving DecidableEq, Repr

/-- The module's view of one cell (R39–R41, R114, R137). -/
structure Cell where
  adm : Adm
  /-- Lost under R138 until an enumeration finds the nib. -/
  lost : Bool
  retired : Bool
  bypCmd : Bool
  bypClosed : Bool
  epoch : Nat
  /-- CELL_SEEN.IDENT, CELL_INFO.TYPE and HEALTH. -/
  seen : Word
  typ : Nat
  health : Byte
  /-- The last valid slot, and bytes 16–37 of the last valid slot without REPLY (R25). -/
  slot : List Byte
  tail : List Byte
  /-- Elapsed cycle of the stroke that carried the last valid slot (R113). -/
  samp : Nat
  /-- A valid slot has arrived since the last cut-off; that slot carried REPLY. -/
  fresh : Bool
  replied : Bool
  /-- Stale at the last cut-off (R25), and cycles in a row that it has been. -/
  stale : Bool
  staleRun : Nat
  /-- Consecutive cycles without a valid slot (R138, R42). -/
  noSlot : Nat
  /-- BYPASS_REQ in the cell's segments (R14). -/
  bypReq : Bool
  /-- Recovered, and BLOCK = 0 from the step of R305. -/
  heldOut : Bool
  /-- Consecutive cut-offs that met the pre-charge criterion (R224, R398). -/
  preRun : Nat
deriving DecidableEq, Repr

/-- Management and admission of a cell (R133–R137). -/
structure Mgmt where
  /-- Request waiting for a segment: bytes 56–63; none when empty. -/
  req : List Byte
  /-- Sequence number of the last request. -/
  seq : Nat
  /-- Code of the request whose reply is awaited, 0 none. -/
  await : Nat
  /-- Admission step 1–6, 0 when none runs; its OPID; the elapsed cycle of its start (R137), or of the
  recovery (R303). -/
  step : Nat
  op : Nat
  since : Nat
  /-- The bypass command of CELL_BYPASS or a reaction was sent. -/
  seenReply : List Byte
deriving DecidableEq, Repr

/-- Echo measurement of a position on one side (R129, R130): index CI × 2 + side. -/
structure Echo where
  /-- ARR last sent, 2⁻¹⁶ ns; none before the first. -/
  arr : Option Nat
  /-- Round trips summed toward the next mean, and their number. -/
  sum : Nat
  count : Nat
  /-- TURN of that side as the nib reported it, 2⁻⁸ ns. -/
  turn : Nat
deriving DecidableEq, Repr

/-- A received stroke header as the module keeps it at a port (R114, R118). -/
structure RxHdr where
  ok : Bool
  cycle : BitVec 16
  hops : Nat
  dir : Nat
  slots : Nat
deriving DecidableEq, Repr

/-- A string, by the port of its position-0 end; `rx` and `hdr` by the receiving port (R118, R136, R140,
R143). -/
structure Str where
  found : Nat
  /-- The enumerated count; none before the first enumeration. -/
  enumCount : Option Nat
  wrap : Bool
  brk : Nat
  /-- STR_STAT.RX and DUAL of this cycle. -/
  rx : Nat
  dual : Bool
  err : Word
  errSat : Bool
  /-- Cycles for which strokes have completed end to end (STRING_WRAPPED clears at 10,000). -/
  wholeRun : Nat
  /-- Consecutive cycles with fewer nibs than enumerated (R140). -/
  shortRun : Nat
  /-- FOUND measured since the last cut-off. -/
  foundRx : Option Nat
  /-- Last header received at this port. -/
  hdr : RxHdr
  /-- Enumeration under way: its OPID, 0 none; the positions still without a reply. -/
  enumOp : Nat
  enumLeft : List Nat
  /-- Next position to be echoed from this port (R130). -/
  echoNext : Nat
deriving DecidableEq, Repr

/-- One optical lane (R81–R89, R98, R100). -/
structure Lane where
  /-- LANE_STAT.STATE: 0 OFF, 1 EIDLE, 2 TRAIN, 3 HUNT, 4 SLIP, 5 SYNC, 6 LOOP. -/
  state : Nat
  sig : Bool
  cdr : Bool
  sync : Bool
  decodeOk : Bool
  slip : Nat
  /-- The code that the equaliser applies outside a sweep (R85); a sweep under way and the elapsed tick of its start. -/
  eqUsed : Nat
  sweeping : Bool
  sweepAt : Nat
  err : Word
  errSat : Bool
  /-- Counts in the running 100 ms interval (R99). -/
  ival : Nat
  /-- Counts of the elapsed cycle `incAt` (R311). -/
  incs : Nat
  incAt : Nat
  /-- Signal seen since EN went to 1 or since the last idle exit (R100). -/
  hadSig : Bool
  txFault : Bool
  /-- Transmitter in electrical idle; an idle exit is under way. -/
  idle : Bool
  leaving : Bool
  /-- Elapsed cycle of the first stroke after an idle exit (R87). -/
  resume : Nat
  /-- Violations not cancelled by good code groups (R82), and the elapsed tick of the last violation. -/
  level : Nat
  badAt : Nat
  /-- The transmitter supply is cut by the safety island (R330). -/
  cut : Bool
deriving DecidableEq, Repr

/-- What a lane's transmitter sends as its last stroke (R80, R105): its symbols, urgent sets among them, and the elapsed
tick at which the first one leaves. -/
structure Tx where
  syms : List Sym
  start : Nat
deriving DecidableEq, Repr

/-- The partner bond (R91–R94, R99). -/
structure Bond where
  localMask : Nat
  remote : Nat
  /-- Lanes of the group in use; 0 down. -/
  active : Nat
  /-- Own proposal: the group and SWITCH_AT (low 8 bits of the cycle). -/
  prop : Option (Nat × Nat)
  changes : Word
  chgSat : Bool
  /-- Widest width that UPGRADE lets the bond take (R94). -/
  limit : Nat
  /-- The local mask as it stood 500 ns before the boundary, where it has changed since (R93). -/
  sample : Option Nat
  /-- Elapsed tick of the last marker of each lane, plus one (R91). -/
  seen : Tab Nat
deriving DecidableEq, Repr

/-- An edge record of R109. -/
structure Edge where
  offset : Nat
  sw : Nat
  level : Bool
  gate : Nat
  tag : Nat
deriving DecidableEq, Repr

/-- A schedule a nib holds for one target cycle (R121–R123). -/
structure NibSched where
  target : BitVec 48
  /-- Side it came from: 0 low, 1 high. -/
  side : Nat
  hold : Bool
  blank : Nat
  soft : Nat
  edges : List Edge
  /-- Management request of the segment, [] none. -/
  mgmt : List Byte
  /-- The segment's EPOCH is the nib's: else only its request counts (R110). -/
  obeyed : Bool
  /-- BYPASS_REQ (R123). -/
  byp : Bool
deriving DecidableEq, Repr

/-- One side of a nib (R101, R117, R129). -/
structure NibSide where
  sync : Bool
  wrap : Bool
  /-- /BRK/ received while wrapped and not yet followed by 10 ms without one. -/
  brk : Bool
  /-- The loss was announced by /EIS/. -/
  eis : Bool
  /-- TRIM, 2⁻¹⁶ ns; ARR of the last SET_ARR and the headers still to average. -/
  trim : Int
  arr : Nat
  corrSum : Nat
  corrLeft : Nat
deriving DecidableEq, Repr

/-- One nib, by the physical place of its cell (R101–R141). -/
structure Nib where
  powered : Bool
  /-- R112. -/
  state : Nat
  pos : Option Nat
  /-- Identity, type code, firmware issue and turnarounds, fixed for the nib's life (R135). -/
  ident : Word
  typ : Nat
  fw : Nat
  turnLo : Nat
  turnHi : Nat
  epoch : Nat
  latch : Bool
  armed : Bool
  low : NibSide
  high : NibSide
  /-- Accepted ACT schedules and stored mirror copies, by target. -/
  held : List NibSched
  mirror : List NibSched
  bypReq : Bool
  byp : Bool
  levels : Tab Bool
deriving DecidableEq, Repr

/-- The rest of a nib: protection, faults, management, telemetry (R111, R122–R126, R133, R277). -/
structure NibAux where
  dual : Bool
  /-- CYCLE (low 48 bits) in which ACT segments of both sides were accepted last. -/
  dualAt : Option (BitVec 48)
  /-- CYCLE and side of the last ACT segment accepted. -/
  actAt : Option (BitVec 48 × Nat)
  soft : Nat
  /-- An obeyable segment was accepted since ADMITTED was entered: its target (R122). -/
  first : Option (BitVec 48)
  /-- Cycles of the latest rejections, at most 15. -/
  rejects : List (BitVec 48)
  fGate : Bool
  fTemp : Bool
  fAux : Bool
  timeErr : Bool
  timeBad : Nat
  lastReq : Option Nat
  /-- Request taken from a governing segment and not yet answered: bytes 56–63. -/
  req : List Byte
  reply : List Byte
  /-- The reply leaves in the slots of the first cycle after this one. -/
  replyIn : Option (BitVec 48)
  ltag : Nat
  swt : Tab Nat
  /-- Short-circuit bytes 25–28 (R277), and the nib's tick of the first detection (R276). -/
  sc : List Byte
  scAt : Nat
  /-- For each of the last cycles c, as it stood at start(c): STAT[6:5,3:0], TYFLT[4:0], the SC bytes; the SWT and LTAG
  of cycle c − 1 (R111, R262, R277). -/
  snaps : List (BitVec 48 × List Byte)
  /-- Slots sent in the strokes of the last cycles: bytes 0–37 with STAT[4] at 0 (R113). -/
  sent : List (BitVec 48 × List Byte)
  /-- The nib's own time of start(cyc) as it predicts it, in 2⁻¹⁶ ps; none before the first estimate (R128). -/
  time : Option Int
  /-- Cycle under execution, the schedule's edges left, its blanking window and side. -/
  cyc : BitVec 48
  cur : List Edge
  blank : Nat
  dirNow : Nat
  /-- Nib tick at which the blanking window of each switch ends, and the GATE code it was last driven at (R109, R275). -/
  blankEnd : Tab Nat
  gates : Tab Nat
deriving DecidableEq, Repr

/-- One clock loop (R152–R157). -/
structure ClkLoop where
  /-- CLK_STAT.STATE: 0 OFF, 1 ACQUIRE, 2 LOCKED, 3 COAST, 4 FREQ, 5 WALK. -/
  state : Nat
  /-- CLK_STAT.PERR. -/
  perr : Byte
  /-- Elapsed cycle of the loss of lock, until lock is declared again (R155). -/
  lostAt : Option Nat
  /-- Phase held as an offset, ps (R154). -/
  held : Int
  /-- How far the replica counter of the loop's island is ahead of the master, ps (R149). -/
  skew : Int
  /-- A forced restart that has not declared lock again (R157). -/
  forced : Bool
deriving DecidableEq, Repr

/-- The clock loops and station time (R152–R167). -/
structure Clk where
  loops : Tab ClkLoop
  /-- TIME_STATUS.STATE (R161): 0 FREE, 1 ACQUIRE, 2 LOCKED, 3 HOLDOVER, 4 SLEW, 5 FREERUN. -/
  tstate : Nat
  /-- The source that gave the last offset: 1 N0, 2 N1, 3 partner, 0 none. -/
  srcUsed : Nat
  /-- Last measured offset, source minus station time, ps. -/
  offset : Int
  /-- Rate of the slew under way, 10⁻¹² (R163); TIME_RATE shows it with `steer`. -/
  rate : Int
  /-- Tuning value of the servo (R160), 10⁻¹²: held in HOLDOVER and FREERUN. -/
  tune : Int
  /-- Proportional steering of the servo, as it stands and as it aims (R160, R163), 10⁻¹². -/
  steer : Int
  aim : Int
  /-- Phase still to be slewed out, 10⁻⁵ ps (TIME_PENDING is its whole ps). -/
  pend : Int
  /-- PAIR_TIME, ps. -/
  pairTime : Int
  /-- UTC_OFFSET.SECONDS. -/
  utc : BitVec 16
  /-- Consecutive measurements within 100 ns. -/
  good : Nat
  /-- Offset kept for a deferred step (R162), ps. -/
  deferred : Option Int
  /-- A source has given an offset since BOOT. -/
  hadOffset : Bool
  /-- No valid measurement for 4 s (R161). -/
  quiet : Bool
  /-- The offset after a change from or to the partner is absorbed without a step (R164). -/
  keep : Bool
  /-- What steps of station time have moved the tick within the cycle against elapsed ticks (R162). -/
  base : Int
  /-- TIME_SNAP.LATCH written, due at the next boundary. -/
  snapReq : Bool
  /-- Cycle number latched: every SNAP word follows from it (R158). -/
  snapCyc : BitVec 64
deriving DecidableEq, Repr

/-- A consumed connection as one channel checks it (R337). -/
structure Sfl where
  /-- In RUN; RESYNC otherwise. -/
  run : Bool
  /-- Last SEQ held, none at the start of RESYNC. -/
  last : Option Word
  /-- A timeout or parameter fault is present; gone but not reset. -/
  fault : Bool
  latched : Bool
  safe : BitVec 16
  qual : BitVec 16
  /-- Elapsed cycle at which a frame was last accepted, or the wait for one began. -/
  since : Nat
deriving DecidableEq, Repr

/-- One safety channel (R318–R334). Masks have bit n for input n, bit k for output k. -/
structure SafCh where
  /-- Line readings in use, held through a mask window; the last raw sample. -/
  lineA : Nat
  lineB : Nat
  rawA : Nat
  rawB : Nat
  /-- SRST, the elapsed cycle since which it reads so, and that of its last rise after 100 ms of OFF (R334). -/
  srst : Bool
  srstAt : Nat
  srstRise : Option Nat
  /-- Samples left of the mask windows of channel A's and channel B's lines (R327). -/
  maskA : Nat
  maskB : Nat
  /-- Lines that read ON before the running test pulse, and those of the other source seen OFF in it. -/
  beforeA : Nat
  beforeB : Nat
  pulseOff : Nat
  /-- Discrepancy counters (R325); faults latched; both OFF seen since; both ON seen after that (R326). -/
  disc : Tab Nat
  discF : Nat
  offSeen : Nat
  onSeen : Nat
  /-- Input test faults latched and those whose input has passed a test since (R327). -/
  testF : Nat
  testOk : Nat
  /-- SPB and STB: 0 PERMIT, 1 DEMAND, 2 LOCKED. -/
  spb : Nat
  stb : Nat
  /-- Elapsed cycles at which a demand of SPB and of STB was last present (R328). -/
  spbAt : Nat
  stbAt : Nat
  /-- Outputs this channel commands on. -/
  cmd : Nat
  sfl : Tab Sfl
  /-- CRC of the parameter set in force as this channel computed it. -/
  crc : Word
  /-- Consecutive faulty readbacks by output (R331); the readback itself. -/
  bad : Tab Nat
  hsOn : Nat
  lsOn : Nat
deriving DecidableEq, Repr

/-- The safety island (Safety Functions). -/
structure Saf where
  /-- 0 START, 1 RUN, 2 FAULT. -/
  island : Nat
  chA : SafCh
  chB : SafCh
  /-- The start-up tests have passed (R321). -/
  tested : Bool
  /-- Elapsed cycle of the last accepted reset (R334). -/
  rstAt : Nat
  /-- Test-pulse source that is off: 0 TPA, 1 TPB; the elapsed cycle of TPA's last pulse and whether TPB's is due
  (R327). -/
  pulse : Option Nat
  tpaAt : Nat
  tpbDue : Bool
  sovOk : Bool
  sovLost : Bool
  /-- Elapsed cycle since which SOV has been in range. -/
  sovAt : Nat
  ovl : Nat
  ovlAt : Tab Nat
  /-- Output test pulses running: 1 high side, 2 low side. -/
  tp : Tab Nat
  /-- Elapsed cycle at which each output's test period began; outputs whose channel-B pulse is due (R332, R333). -/
  tpAt : Tab Nat
  tpB : Nat
  /-- SEQ of the last frame of each produced connection and the elapsed cycle it was built in (R336). -/
  sent : Tab Word
  sentAt : Tab Nat
  /-- Consecutive exchanges with differing states (R320). -/
  crossRun : Nat
  /-- SAF_FAULT; `fOpen` until the exchange after the capture. -/
  fValid : Bool
  fCode : Nat
  fInst : Nat
  fA : Bool
  fB : Bool
  fOpen : Bool
  /-- Elapsed cycle and tick of the capture. -/
  fAt : Nat × Nat
deriving DecidableEq, Repr

/-- A generator set (R186): PERIOD in ticks, DUTY, D1 and D2 unsigned and PHI signed fractions in 2⁻¹⁶. -/
structure GenSet where
  period : Nat
  duty : Nat
  phi : Int
  d1 : Nat
  d2 : Nat
deriving DecidableEq, Repr

/-- A load that the build has made and that takes effect at its instant (R188). -/
structure GenLoad where
  /-- Elapsed tick of the load. -/
  tick : Nat
  /-- STK_STAT.LAST_LOAD code. -/
  how : Nat
  /-- Something was staged. -/
  did : Bool
  set : GenSet
  /-- Fields clamped, as DUCT_CLAMP.FIELDS. -/
  clamp : Nat
  /-- Low 16 bits of the cycle of the load. -/
  cyc : Nat
deriving DecidableEq, Repr

/-- A part of a target cycle built by one set: elapsed ticks from `a` up to `b`, position `p` at `a`. -/
structure Piece where
  a : Nat
  b : Nat
  set : GenSet
  p : Nat
deriving DecidableEq, Repr

/-- Ductus's view of a stack (R173–R202). -/
structure DStack where
  /-- Modulated in the last step built. -/
  run : Bool
  /-- The set that edges are built by, and the set whose load instant has passed (the GEN words). -/
  build : GenSet
  live : GenSet
  /-- Staged fields: bits 4–0 PERIOD, DUTY, PHI, D1, D2; their values; the set's target. -/
  mask : Nat
  staged : GenSet
  target : Nat
  /-- Position at the start of elapsed cycle `pAt`; it was put to 0 by a start (R174). -/
  p : Nat
  pAt : Nat
  started : Bool
  /-- Elapsed boundary of the commit that made MODE non-zero. -/
  fbBase : Nat
  /-- Elapsed boundary of a commit of DUCT_LOADALL not yet carried out. -/
  loadAll : Option Nat
  loads : List GenLoad
  lastLoad : Nat
  clamp : Nat
  /-- Level that n(t) has called for in steps placed; live level (R194). -/
  want : Int
  level : Int
  /-- v_end of the last step, binary32. -/
  vEnd : Word
  /-- Pieces of the latest targets, newest first (R217). -/
  pcs : List Piece
  drops : Word
  dropSat : Bool
  stretches : Word
  strSat : Bool
deriving DecidableEq, Repr

/-- One leg of a cell as Ductus has planned it (R176–R184). -/
structure Leg where
  /-- 0 OFF, 1 P, 2 N. -/
  st : Nat
  /-- Elapsed tick of its last transition. -/
  last : Option Nat
  carry : Int
  /-- Elapsed tick at which the carry arose. -/
  org : Nat
  /-- Transitions moved past their target: tick and new state (R177). -/
  late : List (Nat × Nat)
deriving DecidableEq, Repr

/-- A built transition: its instant, the instant from which the leg counts in its new state (R207), leg
and new state. -/
structure Trn where
  t : Nat
  te : Nat
  leg : Nat
  new : Nat
deriving DecidableEq, Repr

/-- What was built for one target cycle of a cell. -/
structure Built where
  tgt : Nat
  /-- States in which legs 0–3 count at its start (R207). -/
  legs : List Nat
  trs : List Trn
  /-- Switch levels at its start. -/
  lv : Nat
  recs : List Word
  block : Bool
  /-- Changes of insertion state that came from the scheduler's lists (R209). -/
  steps : Nat
  /-- Trim the cell was built with. -/
  trim : Int
deriving DecidableEq, Repr

/-- Ductus's view of a cell. -/
structure Duct where
  legs : Tab Leg
  /-- Spilled edges (R177): elapsed tick, switch, level. -/
  spill : List (Nat × Nat × Bool)
  tag : Nat
  cmd : Nat
  /-- Levels that the switches hold. -/
  lv : Nat
  /-- Levels and strength codes of the last records built (R179, points 0–15). -/
  ptLv : Nat
  gates : Tab Nat
  /-- What was built for the latest targets, newest first. -/
  hist : List Built
  /-- Segment for the next stroke, [] when empty; the one before it (R356). -/
  seg : List Byte
  old : List Byte
  /-- The checker's own record (R185): levels, and elapsed ticks of the last turn-on and turn-off edge of
  each switch, plus one. -/
  ckLv : Nat
  ckOn : Tab Nat
  ckOff : Tab Nat
deriving DecidableEq, Repr

/-- Ductus as a whole. -/
structure Ductus where
  cells : Tab Duct
  stks : Tab DStack
  /-- Inputs posted for each stack and not superseded. -/
  posts : Tab StackIn
  /-- Elapsed cycle of the last latch, plus one. -/
  latchAt : Nat
  /-- Own inputs of the last latch. -/
  own : Option StepIn
  /-- DUCT_CLAMP and DUCT_FAIL. -/
  clampCap : Word
  failCap : Word
deriving DecidableEq, Repr

/-- A cell as the cut-off found it (R131, R204). -/
structure CellCut where
  svc : Nat
  slot : List Byte
  tail : List Byte
  /-- Elapsed cycle of the stroke that carried `slot`. -/
  samp : Nat
  stale : Bool
  /-- Levels and strength codes of the last records built (points 0–15), and point 25. -/
  lv : Nat
  gates : Tab Nat
  byp : Nat
deriving DecidableEq, Repr

/-- The scheduler's own state of a cell (R209, R213, R225). -/
structure SchCell where
  /-- Smoothed transition count, binary32. -/
  n : Word
  /-- Consecutive cycles with the trim at its limit. -/
  trimRun : Nat
  /-- Elapsed cycle of entry into CHARGING. -/
  since : Nat
deriving DecidableEq, Repr

/-- The scheduler's own state of a stack (R204–R214). -/
structure SchStack where
  /-- Stack current estimate and mean VCAP1 of the INSERTED cells at the cut-off, binary32. -/
  cur : Word
  vAvg : Word
  /-- SPREAD1 and SPREAD2. -/
  spread1 : Nat
  spread2 : Nat
  spreadRun : Nat
  /-- Consecutive late postings. -/
  lateRun : Nat
  /-- Cells receiving pre-charge commands. -/
  pre : Nat
  /-- Stack-wide pre-charge phase (R398), 0 none, and cut-offs in a row at which its criterion held. -/
  phase : Nat
  phaseRun : Nat
  /-- HR_MIN and HOT_CI of SCH_STAT. -/
  hrMin : Nat
  hotCi : Nat
deriving DecidableEq, Repr

/-- The energy and heat scheduler and the governor. -/
structure Sched where
  cut : Tab CellCut
  cutAt : Nat
  /-- Engineering values of AI0–AI23 at the cut-off, binary32. -/
  ai : Tab Word
  cells : Tab SchCell
  stks : Tab SchStack
  ranked : Nat
  sortMax : Nat
  govLevel : Nat
  dieT : BitVec 16
deriving DecidableEq, Repr

/-- The junction model of one switch (R215). -/
structure ThSw where
  th1 : Word
  th2 : Word
  th3 : Word
  th4 : Word
  /-- Junction temperature and headroom, binary32, °C and K. -/
  tj : Word
  head : Word
  /-- Magnitude of the current at the last edge, A. -/
  iEv : Word
deriving DecidableEq, Repr

/-- The case temperature of one leg as R218 judges it: its readings with the elapsed cycle from which each
held, newest first, and the last implausible cycle plus one. -/
structure ThRef where
  hist : List (Nat × Nat)
  badAt : Nat
deriving DecidableEq, Repr

/-- The thermal array (R215–R222). -/
structure Therm where
  sw : Tab ThSw
  refs : Tab ThRef
  /-- Consecutive cycles with every switch of the cell at HR_WARN + 2 K (R234). -/
  coolRun : Tab Nat
  /-- Switch that the checking unit takes next. -/
  rot : Nat
  miscnt : Word
  misSat : Bool
  /-- THERM_FAIL. -/
  fail : Word
  /-- Elapsed cycle of the last mismatch of each lane, plus one. -/
  lanes : Tab Nat
  /-- Losses of every switch kept while the side joins (R362), oldest cycle first. -/
  kept : List (List (Nat × Word))
deriving DecidableEq, Repr

/-- Supervision of one switch (R266–R271); index CI × 8 + switch. -/
structure SupSw where
  wear : Wear
  /-- Codes posted to Ductus: what a step builds with (R267, R363). -/
  postOn : Nat
  postOff : Nat
  sumOn : Nat
  cntOn : Nat
  sumOff : Nat
  cntOff : Nat
  /-- Consecutive windows that ended outside the deadband at the limit (R269). -/
  limOn : Nat
  limOff : Nat
deriving DecidableEq, Repr

/-- Supervision of one cell (R264, R265, R279). -/
structure SupCell where
  /-- LTAG last expected, and the consecutive correlation errors with the cycle of the last. -/
  tag : Nat
  errRun : Nat
  errAt : Nat
  /-- SC bytes of the previous accepted slot. -/
  sc : List Byte
  /-- Elapsed detection cycle of the last new short, plus one (R282). -/
  shortAt : Nat
deriving DecidableEq, Repr

/-- Switch supervision. -/
structure Sup where
  sw : Tab SupSw
  cells : Tab SupCell
  steps : Nat
  tagErr : Word
  tagSat : Bool
  scCount : Word
  scSat : Bool
  /-- SC_CAPTURE and SC_CAP_TIME. -/
  scCap : Word
  scTime : Word
  /-- Code changes since the last frame (R363 section 3). -/
  codes : List CodeChange
deriving DecidableEq, Repr


/-- One loop slot (R241–R248, R258). Values are binary32. -/
structure LoopSt where
  r : Word
  v : Word
  I : Word
  /-- Its own output y, the output that others read, the hold value, the last error and candidate. -/
  y : Word
  out : Word
  hold : Word
  e : Word
  cand : Word
  closed : Bool
  /-- The first sample after LOOP_CLOSE, or after a suspension, is due. -/
  starting : Bool
  /-- A LOOP_OPEN accepted for a closed slot and not yet sampled: MODE 1 carries its value. -/
  opening : Option (Option Word)
  susp : Bool
  sel : Bool
  sat : Bool
  stale : Bool
  nonfin : Bool
  ramp : Bool
  cyc : BitVec 16
  /-- Consecutive samples with SAT = 1, and samples with LO ≤ HI since the limits crossed. -/
  satRun : Nat
  crossRun : Nat
deriving DecidableEq, Repr

/-- The loop engine (R235–R260). -/
structure Loops where
  slots : Tab LoopSt
  /-- Slots that sampled in the last cycle (LOOP_STATUS.RUN), and in the present one so far. -/
  ran : Nat
  ranNow : Nat
  /-- Stack quantities 0–5 of R238 at the last cut-off and at the one before: index stack × 8 + code. -/
  quant : Tab Word
  quantOld : Tab Word
deriving DecidableEq, Repr


/-- One converter (R459–R462). -/
structure Conv where
  /-- ADC_STAT.STATE: 0 OFF, 1 CONVERT, 2 WAIT, 3 DOWN, 4 START-UP, 5 URGENT. -/
  st : Nat
  entry : Nat
  /-- Conversions of the entry still due, and slots of the wait left. -/
  rem : Nat
  wleft : Nat
  /-- Powered; slots of the start-up left. -/
  powered : Bool
  su : Nat
  /-- A cycle-locked conversion is due. -/
  due : Bool
  /-- Host request pending until its conversion completes; it is being converted. -/
  host : Option Nat
  taken : Bool
  /-- Input whose conversion this slot runs. -/
  run : Option Nat
deriving DecidableEq, Repr

/-- The newest result of one analogue input (R463), with consecutive results without the flag. -/
structure AiRes where
  valid : Bool
  ovr : Bool
  adc : Nat
  code : BitVec 18
  cycle : BitVec 48
  slot : Nat
  eng : Word
  clean : Nat
  /-- Elapsed cycle of the result. -/
  at_ : Nat
deriving DecidableEq, Repr

/-- The analogue front end (R454–R469). -/
structure Ai where
  conv : Tab Conv
  res : Tab AiRes
  /-- AI_OVRCNT. -/
  ovrCnt : Word
  ovrSat : Bool
  /-- Slot of the last conversion slot. -/
  slot : Nat
  /-- Consecutive samples beyond a limit of each protection threshold (R313). -/
  prot : Tab Nat
deriving DecidableEq, Repr


/-- One requester of the lottery arbiter (R434, R435). -/
structure Arb where
  req : Bool
  losses : Nat
  est : Nat
deriving DecidableEq, Repr

/-- The chain that the DMA engine runs (R438–R445). -/
structure Chain where
  ch : Nat
  head : Nat
  /-- Address of the descriptor in hand or to be fetched next, and its bytes. -/
  addr : Nat
  desc : List Byte
  /-- 0 fetch, 1 bursts, 2 read-back. -/
  phase : Nat
  /-- Descriptors executed; bytes of this one moved. -/
  count : Nat
  moved : Nat
  cancel : Bool
deriving DecidableEq, Repr

/-- The DMA engine. -/
structure Dma where
  run : Option Chain
  /-- Bit n: channel n waits. -/
  wait : Nat
  /-- HEAD index of each completion queue. -/
  head : Tab Nat
  lost : Word
  lostSat : Bool
deriving DecidableEq, Repr

/-- The Blotter (R446–R449). -/
structure Blot where
  /-- BLOT_STATUS.STATE: 0 IDLE, 1 FILLING, 2 ARMED, 3 POST, 4 DONE. -/
  st : Nat
  /-- Rows sampled since arming, and the cycle of the last one. -/
  total : Nat
  lastCyc : BitVec 64
  /-- Trigger accepted: absolute row and cycle. -/
  trig : Option (Nat × BitVec 64)
  /-- The level channel's value in the previous row. -/
  prev : Option Word
  /-- Rows in the writer's FIFO, oldest first, at most 8: absolute row and values. -/
  fifo : List (Nat × List Word)
  /-- Absolute rows lost. -/
  lostRows : List Nat
  lost : Word
  lostSat : Bool
  /-- Elapsed cycle of the last lost row, plus one. -/
  lostAt : Nat
deriving DecidableEq, Repr

/-- The Inkwell, its arbiter, DMA and Blotter (R428–R453). -/
structure Ink where
  /-- Bytes of the Blotter, firmware and general regions; the wear region is read from the live records. -/
  mem : Tab Byte
  /-- Poisoned tiles of the Inkwell and of the cell image memory. -/
  poison : List Nat
  cimPoison : List Nat
  /-- Elapsed cycle, plus one, of the write that cleared a cell image tile's poison. -/
  cimClear : Tab Nat
  pcnt : Word
  pcntSat : Bool
  cpcnt : Word
  cpcntSat : Bool
  /-- INK_FIRST. -/
  first : Word
  scrubInk : Nat
  scrubCim : Nat
  /-- The LFSR of R435. -/
  lfsr : BitVec 16
  arb : Tab Arb
  /-- Requester that holds the port. -/
  hold : Option Nat
  /-- Clocks of this cycle in which requesters 2 and 6 held the port (R437). -/
  used : Nat
  /-- Tiles scrubbed in this cycle, of the Inkwell and of the cell image memory (R228). -/
  scrubs : Nat
  cimScrubs : Nat
  /-- Elapsed cycle of the write that began the present freeze (R437). -/
  freezeAt : Nat
  dma : Dma
  blot : Blot
deriving DecidableEq, Repr


/-- A qualified timeTransmitter of a port (R407). -/
structure Foreign where
  port : Nat
  ann : PtpAnn
  /-- Elapsed cycle of its last Announce. -/
  heard : Nat
deriving DecidableEq, Repr

/-- One PTP port (R406, R407). -/
structure PtpPort where
  /-- Mean link delay, 1/16 ns; 0xFFFFFFFF = not measured. -/
  delay : Word
  /-- Sequence number of the last Pdelay_Req; it is unanswered. -/
  seq : BitVec 16
  waiting : Bool
  /-- Consecutive unanswered and answered requests. -/
  missed : Nat
  answered : Nat
  /-- The port has left the selection (PTP_PDELAY_FAIL). -/
  failed : Bool
  /-- Two-step Syncs whose Follow_Up is awaited, with the correction that the transparent clock adds. -/
  syncs : List (PtpMsg × Int)
deriving DecidableEq, Repr

/-- A frame planned for a timed launch (R409): launch instant in elapsed ticks, its class, destination address and UDP
port, and payload. -/
structure Launch where
  tick : Nat
  cls : Nat
  ip : Word
  dport : Nat
  bytes : List Byte
deriving DecidableEq, Repr

/-- One telemetry stream (R411, R412). -/
structure Strm where
  run : Bool
  owner : BitVec 16
  ctr : Nat
  /-- Samples collected for the next datagram, oldest first. -/
  batch : List (List Byte)
deriving DecidableEq, Repr

/-- A CAN receive buffer of R421. -/
structure RxBuf where
  frame : Option (CanFrame × BitVec 32)
  new : Bool
  ovr : Bool
  /-- Session that holds the lock, and the elapsed cycle at which it took it. -/
  lock : Option Nat
  lockAt : Nat
  shadow : Option (CanFrame × BitVec 32)
deriving DecidableEq, Repr

/-- One CAN FD controller (R414–R421). -/
structure Can where
  tec : Nat
  rec_ : Nat
  busOff : Bool
  lastSlot : Nat
  txStamp : BitVec 32
  cnt : Word
  cntSat : Bool
  /-- CAN_TS. -/
  ts : BitVec 32
  /-- Pending message of each transmit slot, [] none. -/
  pend : Tab (List Byte)
  /-- Basic cycle, plus one, in whose window an exclusive slot failed last (R417). -/
  tried : Tab Nat
  /-- The slot in transmission with what it sends. -/
  tx : Option (Nat × List Byte)
  bufs : Tab RxBuf
deriving DecidableEq, Repr

/-- Station network and auxiliary bus (R402–R427). -/
structure Net where
  /-- Bit i: link up. -/
  link : Nat
  drop : Word
  dropSat : Bool
  late : Word
  lateSat : Bool
  /-- Elapsed cycle of the last late frame of each port, plus one. -/
  lateAt : Tab Nat
  /-- Second, in elapsed cycles / 100,000, and the command records and echo requests counted in it. -/
  sec : Nat
  cmds : Nat
  echoes : Tab Nat
  /-- ARP entries: port, address, MAC address and the elapsed cycle learnt, oldest first. -/
  arp : List (Nat × Word × BitVec 48 × Nat)
  ptp : Tab PtpPort
  foreign : List Foreign
  /-- Selected port and timeTransmitter. -/
  best : Option (Nat × PtpAnn)
  launches : Tab (List Launch)
  /-- Last datagram in the island's mailbox of each consumed connection. -/
  mail : Tab (List Byte)
  strm : Tab Strm
  can : Tab Can
deriving DecidableEq, Repr


/-! ## The values right after reset -/

def Sys.reset : Sys :=
  { powered := false, stopping := false, fwRuns := false, stuck := false, mode := .boot, prev := .boot,
    reason := 0, lastChg := 0, modeReq := none, blockReq := false, uptime := 0, subSec := 0,
    baseT := 0, feedA := 0, feedB := 0, feedALow := false, feedBLow := false, live := false, reject := 0,
    rejSat := false }

def RecSrc.init : RecSrc := { count := 0, wstart := 0, locked := false }

def Evt.reset : Evt :=
  { active := [], queue := [], uncopied := 0, seq := 0, lost := 0, lostSat := false, lostSeen := 0, feValid := false,
    feInfo := 0, feCyc := 0, feTick := 0, feDetail := 0, recs := [], forced := 0, blkReq := [],
    clrDue := [], resets := [] }

def Sess.init : Sess :=
  { isOpen := false, gen := 0, role := 0, keyId := 0, port := 0, ip := 0, sport := 0, keyIn := [],
    keyOut := [], txCtr := 1, rxHigh := 0, rxSeen := [],
    lastSeq := none, reply := [], wait := none, idleFrom := 0, linkDown := none, loopSel := 0, supSel := 0,
    fltRsel := 0, inkBase := 0x01800000, wstat := 0, canRxsel := 0, closing := false }

def Cmd.reset : Cmd :=
  { sess := [], attempts := [], txn := none, txnCount := 0, ops := [], lastOp := 0, attNonce := [],
    attReport := [], topoStatus := 0, loopCheck := 0, restartDue := false }

def Pair.reset : Pair :=
  { role := .single, ready := false, pReady := false, readyAt := 0, tokOut := false, tokIn := false, grant := false,
    quill := false, lane := false, bothLost := none, declared := false, shift := 0, pathRun := 0,
    revLock := false, last := 0, takeovers := 0, takSat := false, handovers := 0, hndSat := false,
    mismatch := 0, misSat := false }

def Shadow.reset : Shadow :=
  { pMstate := 0, pRole := 0, topoEq := false, cfgEq := false, pBlocked := 0, pRelease := 0, rxCycle := 0,
    rxAt := none, claimAt := 0, waitAt := 0, pReq := false, release := 0, relayOff := 0, lag := 0, join := 0,
    matchRun := 0, frameLen := 0, lost := 0, fitRun := 0, fits := false, kept := [], unack := [], imageBuf := [], imageCyc := none,
    imageOut := [], outputs := [] }

def PairOps.reset : PairOps :=
  { giveUp := false, handover := none, isReversion := false, req := false,
    records := [], recSeq := 0, toSend := [], unacked := [], shiftMove := 0 }

/-- A blank settings generation reads 0 in every byte (R482). -/
def Gen.blank : Gen := { content := [], check := 0, sealWord := 0 }

/-- The content of generation 0 as the model fills it where the spec leaves it to the factory: index 0,
layout 0x01, SERIAL 1, ISSUE 'A', SIDE 0, the network defaults of R423 and a non-zero OWNER_DIG. DESIGN
CHOICE (log entry 3), unsafe. -/
def Gen.factory : Gen :=
  { content := [0x00, 0x01, 0x00, 0x00] ++ [0, 0, 0, 1] ++ [0x41, 0, 0, 0]
      ++ [0, 0, 0, 0] ++ [0, 0, 0, 0] ++ [0xC0, 0xA8, 0xFF, 0x01]
      ++ [0, 0, 0, 0] ++ [0, 0, 0, 0] ++ [0, 0, 0, 0]
      ++ [0x18, 0, 0, 0] ++ [0x18, 0, 0, 0] ++ [0x18, 0, 0, 0]
      ++ List.replicate 64 1
    check := 0xC1AE28D2, sealWord := 0x5EA100FF }

/-- The header of the image that slot 0 leaves the factory with: type 1, security version 0, version
1.0.0, every issue letter supported, no body. DESIGN CHOICE (log entry 3), unsafe. -/
def FwSlot.factory : FwSlot :=
  { valid := true
    image := [0x44, 0x58, 0x46, 0x57, 1, 0, 0, 0, 1, 0, 0, 0, 0x41, 0x5A, 0, 0, 0, 0, 0, 0] }

def FwSlot.empty : FwSlot := { valid := false, image := [] }

def Boot.reset : Boot :=
  { gens := [(0, Gen.factory)], active := none, counter := 0, slot0 := FwSlot.factory,
    slot1 := FwSlot.empty, run := 0, pref := 0, trial := false, trialUsed := false, fallback := false,
    result := 0, cause := 0, loading := false, held := [], entered := false, burn := none, meas := [] }

def Lifetime.reset : Lifetime :=
  { boots := 0, onSeconds := 0, runSeconds := 0, lastCycle := 0, supplyLosses := 0, feedALosses := 0,
    feedBLosses := 0, overtemps := 0, bands := [] }

def Wear.init : Wear :=
  { ident := 0, edges := 0, scCnt := 0, baseOn := 0, baseOff := 0, bonV := false, boffV := false,
    curOn := 0, curOff := 0, ton := 0, toff := 0, edgeRes := 0, start := 0, update := 0,
    edgesSat := false, scSat := false }

def Journal.reset : Journal :=
  { events := [], wear := [], closed := [], life := Lifetime.reset, stamps := [], safety := [], boots := [],
    owners := [], bank0 := [], bank1 := [], bank := none, err := 0, errSat := false, fresh := false }

def Cell.init : Cell :=
  { adm := .none, lost := false, retired := false, bypCmd := false, bypClosed := false, epoch := 0,
    seen := 0, typ := 0, health := 0, slot := [], tail := [], samp := 0, fresh := false, replied := false,
    stale := false, staleRun := 0, noSlot := 0, bypReq := false, heldOut := false, preRun := 0 }

def Mgmt.init : Mgmt :=
  { req := [], seq := 0, await := 0, step := 0, op := 0, since := 0, seenReply := [] }

def Echo.init : Echo := { arr := none, sum := 0, count := 0, turn := 0 }

def RxHdr.init : RxHdr := { ok := false, cycle := 0, hops := 0, dir := 0, slots := 0 }

def Str.init : Str :=
  { found := 0, enumCount := none, wrap := false, brk := 0, rx := 0, dual := false, err := 0,
    errSat := false, wholeRun := 0, shortRun := 0, foundRx := none, hdr := RxHdr.init, enumOp := 0,
    enumLeft := [], echoNext := 0 }

def Lane.init : Lane :=
  { state := 0, sig := false, cdr := false, sync := false, decodeOk := false, slip := 0, eqUsed := 0,
    sweeping := false, sweepAt := 0, err := 0, errSat := false, ival := 0, incs := 0, incAt := 0, hadSig := false, txFault := false,
    idle := false, leaving := false, resume := 0, level := 0, badAt := 0, cut := false }

def Bond.reset : Bond :=
  { localMask := 0, remote := 0, active := 0, prop := none, changes := 0, chgSat := false,
    limit := 4, sample := none, seen := [] }

def Tx.init : Tx := { syms := [], start := 0 }

def NibSide.init : NibSide :=
  { sync := false, wrap := false, brk := false, eis := false, trim := 0, arr := 0, corrSum := 0,
    corrLeft := 0 }

def Nib.init : Nib :=
  { powered := false, state := 0, pos := none, ident := 0, typ := 0, fw := 0, turnLo := 0, turnHi := 0,
    epoch := 0, latch := false, armed := false, low := NibSide.init, high := NibSide.init, held := [],
    mirror := [], bypReq := false, byp := false, levels := [] }

def NibAux.init : NibAux :=
  { dual := false, dualAt := none, actAt := none, soft := 0, first := none, rejects := [],
    fGate := false, fTemp := false, fAux := false, timeErr := false, timeBad := 0, lastReq := none,
    req := [], reply := [], replyIn := none, ltag := 0, swt := [], sc := [], scAt := 0, snaps := [], sent := [],
    time := none, cyc := 0, cur := [], blank := 0, dirNow := 0, blankEnd := [], gates := [] }

def ClkLoop.init : ClkLoop := { state := 0, perr := 0, lostAt := none, held := 0, skew := 0, forced := false }

def Clk.reset : Clk :=
  { loops := [], tstate := 0, srcUsed := 0, offset := 0, rate := 0, tune := 0, steer := 0, aim := 0, pend := 0, pairTime := 0,
    utc := 0, good := 0, deferred := none, hadOffset := false, quiet := false, keep := false, base := 0, snapReq := false,
    snapCyc := 0 }

def Sfl.init : Sfl := { run := false, last := none, fault := false, latched := false, safe := 0, qual := 0, since := 0 }

/-- In START every function is demanded and every output off (R321). -/
def SafCh.reset : SafCh :=
  { lineA := 0, lineB := 0, rawA := 0, rawB := 0, srst := false, srstAt := 0, srstRise := none, maskA := 0, maskB := 0,
    beforeA := 0, beforeB := 0, pulseOff := 0, disc := [], discF := 0, offSeen := 0, onSeen := 0, testF := 0,
    testOk := 0, spb := 1, stb := 1, spbAt := 0, stbAt := 0, cmd := 0, sfl := [], crc := 0, bad := [], hsOn := 0, lsOn := 0 }

def Saf.reset : Saf :=
  { island := 0, chA := SafCh.reset, chB := SafCh.reset, tested := false, rstAt := 0, pulse := none, tpaAt := 0,
    tpbDue := false, sovOk := false, sovLost := false, sovAt := 0, ovl := 0, ovlAt := [], tp := [], tpAt := [],
    tpB := 0, sent := [], sentAt := [], crossRun := 0, fValid := false, fCode := 0, fInst := 0, fA := false,
    fB := false, fOpen := false, fAt := (0, 0) }

/-- The GEN words' Reset values (R200). -/
def GenSet.reset : GenSet := { period := 1250000, duty := 32768, phi := 0, d1 := 0, d2 := 0 }

def DStack.init : DStack :=
  { run := false, build := GenSet.reset, live := GenSet.reset, mask := 0, staged := GenSet.reset, target := 0,
    p := 0, pAt := 0, started := true, fbBase := 0, loadAll := none, loads := [], lastLoad := 0, clamp := 0,
    want := 0, level := 0, vEnd := 0, pcs := [], drops := 0, dropSat := false, stretches := 0, strSat := false }

def Leg.init : Leg := { st := 0, last := none, carry := 0, org := 0, late := [] }

def Duct.init : Duct :=
  { legs := [], spill := [], tag := 0, cmd := 0, lv := 0, ptLv := 0, gates := [], hist := [], seg := [], old := [],
    ckLv := 0, ckOn := [], ckOff := [] }

def Ductus.reset : Ductus :=
  { cells := [], stks := [], posts := [], latchAt := 0, own := none, clampCap := 0, failCap := 0 }

/-- Nothing posted for stack `k`. -/
def stackIn0 (k : Nat) : StackIn :=
  { stack := k, vEnd := 0, vPre := 0, staged := { mask := 0, period := 0, duty := 0, phi := 0, d1 := 0, d2 := 0 },
    swaps := 0, entries := [] }

def CellCut.init : CellCut := { svc := 0, slot := [], tail := [], samp := 0, stale := false, lv := 0, gates := [], byp := 0 }

def SchCell.init : SchCell := { n := 0, trimRun := 0, since := 0 }

def SchStack.init : SchStack :=
  { cur := 0, vAvg := 0, spread1 := 0, spread2 := 0, spreadRun := 0, lateRun := 0, pre := 0, phase := 0,
    phaseRun := 0, hrMin := 0, hotCi := 0 }

def Sched.reset : Sched :=
  { cut := [], cutAt := 0, ai := [], cells := [], stks := [], ranked := 0, sortMax := 0, govLevel := 0,
    dieT := 0 }

def ThSw.init : ThSw := { th1 := 0, th2 := 0, th3 := 0, th4 := 0, tj := 0, head := 0, iEv := 0 }

def ThRef.init : ThRef := { hist := [], badAt := 0 }

def Therm.reset : Therm :=
  { sw := [], refs := [], coolRun := [], rot := 0, miscnt := 0, misSat := false, fail := 0, lanes := [], kept := [] }

def SupSw.init : SupSw :=
  { wear := Wear.init, postOn := 0, postOff := 0, sumOn := 0, cntOn := 0, sumOff := 0, cntOff := 0, limOn := 0, limOff := 0 }

def SupCell.init : SupCell := { tag := 0, errRun := 0, errAt := 0, sc := [], shortAt := 0 }

def Sup.reset : Sup :=
  { sw := [], cells := [], steps := 0, tagErr := 0, tagSat := false, scCount := 0, scSat := false, scCap := 0,
    scTime := 0, codes := [] }


def LoopSt.init : LoopSt :=
  { r := 0, v := 0, I := 0, y := 0, out := 0, hold := 0, e := 0, cand := 0, closed := false, starting := false,
    opening := none, susp := false, sel := false, sat := false, stale := false, nonfin := false, ramp := false,
    cyc := 0, satRun := 0, crossRun := 0 }

def Loops.reset : Loops := { slots := [], ran := 0, ranNow := 0, quant := [], quantOld := [] }

def Conv.init : Conv :=
  { st := 0, entry := 0, rem := 0, wleft := 0, powered := false, su := 0, due := false, host := none, taken := false,
    run := none }

def AiRes.init : AiRes :=
  { valid := false, ovr := false, adc := 0, code := 0, cycle := 0, slot := 0, eng := 0, clean := 0, at_ := 0 }

def Ai.reset : Ai := { conv := [], res := [], ovrCnt := 0, ovrSat := false, slot := 0, prot := [] }

def Arb.init : Arb := { req := false, losses := 0, est := 0 }

def Dma.reset : Dma := { run := none, wait := 0, head := [], lost := 0, lostSat := false }

def Blot.reset : Blot :=
  { st := 0, total := 0, lastCyc := 0, trig := none, prev := none, fifo := [], lostRows := [],
    lost := 0, lostSat := false, lostAt := 0 }

/-- The LFSR starts from ARB_CTL.SEED's Reset value (R435, R451). -/
def Ink.reset : Ink :=
  { mem := [], poison := [], cimPoison := [], cimClear := [], pcnt := 0, pcntSat := false, cpcnt := 0,
    cpcntSat := false, first := 0, scrubInk := 0, scrubCim := 0, lfsr := 0xACE1, arb := [], hold := none, used := 0,
    scrubs := 0, cimScrubs := 0, freezeAt := 0,
    dma := Dma.reset, blot := Blot.reset }

/-- PTP_PDELAY resets to "not measured" (R423). -/
def PtpPort.init : PtpPort :=
  { delay := 0xFFFFFFFF, seq := 0, waiting := false, missed := 0, answered := 0, failed := false, syncs := [] }

def Strm.init : Strm := { run := false, owner := 0, ctr := 0, batch := [] }

def RxBuf.init : RxBuf := { frame := none, new := false, ovr := false, lock := none, lockAt := 0, shadow := none }

def Can.init : Can :=
  { tec := 0, rec_ := 0, busOff := false, lastSlot := 0, txStamp := 0, cnt := 0, cntSat := false, ts := 0, pend := [],
    tried := [], tx := none, bufs := [] }

def Net.reset : Net :=
  { link := 0, drop := 0, dropSat := false, late := 0, lateSat := false, lateAt := [], sec := 0, cmds := 0,
    echoes := [], arp := [], ptp := [], foreign := [], best := none, launches := [], mail := [], strm := [],
    can := [] }


/-- The whole state: the queue of waiting commands, what the last step sent, and the module and nibs. -/
structure State where
  /-- Commands waiting, first in, first out. -/
  pending : List Instr
  /-- What the last step sent. -/
  out : List Output
  /-- The cycle number (R158). -/
  cycle : BitVec 64
  /-- Cycle boundaries since reset; the timers of the rules count in it. -/
  mono : Nat
  /-- Power, module state, hardware monitor. -/
  sys : Sys
  /-- Page words in force that differ from their Reset values, by key (page × 256 + offset). -/
  regs : Tab Word
  /-- Words accepted for the start of the next whole cycle (R8). -/
  nextW : List (Nat × Word)
  /-- Events, blocking, recovery. -/
  evt : Evt
  /-- Sessions, transactions, long operations. -/
  cmd : Cmd
  /-- The redundant pair: role, token and paths. -/
  pair : Pair
  /-- The redundant pair: partner and shadowing. -/
  shadow : Shadow
  /-- The redundant pair: handover, reversion, give-up, replication. -/
  pairOps : PairOps
  /-- Settings store, image store, start-up. -/
  boot : Boot
  /-- The journal. -/
  jrnl : Journal
  /-- The cells as the module sees them, by CI. -/
  cells : Tab Cell
  /-- Management and admission, by CI. -/
  mgmt : Tab Mgmt
  /-- Echo measurement, by CI × 2 + side. -/
  echo : Tab Echo
  /-- Strings, by port. -/
  strs : Tab Str
  /-- Lanes, by lane index. -/
  lanes : Tab Lane
  /-- What each lane's transmitter is sending, by lane index. -/
  txs : Tab Tx
  /-- The partner bond. -/
  bond : Bond
  /-- The nibs, by physical place. -/
  nibs : Tab Nib
  /-- The rest of each nib. -/
  nibx : Tab NibAux
  /-- Clock loops and station time. -/
  clk : Clk
  /-- The safety island. -/
  saf : Saf
  /-- Ductus: edge synthesis. -/
  duct : Ductus
  /-- The energy and heat scheduler and the governor. -/
  sched : Sched
  /-- The thermal array. -/
  therm : Therm
  /-- Switch supervision. -/
  sup : Sup
  /-- The loop engine. -/
  loops : Loops
  /-- The analogue front end. -/
  ai : Ai
  /-- Inkwell, arbiter, DMA and Blotter. -/
  ink : Ink
  /-- Station network and auxiliary bus. -/
  net : Net
  /-- The model's own counter of free values drawn; no rule of the spec gives it. -/
  free : Nat
deriving DecidableEq, Repr

/-- The machine right after reset: unpowered in BOOT with every page word at its Reset value, the stores as
they leave the factory, nothing waiting. -/
def State.reset : State :=
  { pending := [],
    out := [],
    cycle := 0,
    mono := 0,
    sys := Sys.reset,
    regs := [],
    nextW := [],
    evt := Evt.reset,
    cmd := Cmd.reset,
    pair := Pair.reset,
    shadow := Shadow.reset,
    pairOps := PairOps.reset,
    boot := Boot.reset,
    jrnl := Journal.reset,
    cells := [],
    mgmt := [],
    echo := [],
    strs := [],
    lanes := [],
    txs := [],
    bond := Bond.reset,
    nibs := [],
    nibx := [],
    clk := Clk.reset,
    saf := Saf.reset,
    duct := Ductus.reset,
    sched := Sched.reset,
    therm := Therm.reset,
    sup := Sup.reset,
    loops := Loops.reset,
    ai := Ai.reset,
    ink := Ink.reset,
    net := Net.reset,
    free := 0 }

/-- Why the block could stop with a fault. No rule of the spec stops the block: no meaning answers with one. -/
inductive Fault where
  /-- Raised by no meaning; the type exists because an outcome may be a fault. Safe. -/
  | unreachable
deriving DecidableEq, Repr

/-- Why the block refuses a command. -/
inductive Refusal where
  /-- Raised by `exec`'s arm of a command without a meaning. Safe. -/
  | notModelled (mnemonic : String)
deriving DecidableEq, Repr

end Sys2Proof.Machine
end

