-- ==== Sys2Proof/Machine/Coding.lean ====
section
/-! DEFINITION. The line code of the lanes (R79–R81): the 8b/10b code groups of IEEE 802.3 Clause 36 with their running
disparity, the symbols of every ordered set, and the idle sets. R79 names the standard's tables and does not print them
(PRESUMED, log entry 57). A code group is a number of 10 bits, abcdei fghj, the bit `a` first. -/

namespace Sys2Proof.Machine

/-! ## Code groups -/

/-- The 6-bit parts of D0 to D31 after a negative running disparity. -/
def code6 : List (BitVec 6) :=
  [0b100111, 0b011101, 0b101101, 0b110001, 0b110101, 0b101001, 0b011001, 0b111000]
  ++ [0b111001, 0b100101, 0b010101, 0b110100, 0b001101, 0b101100, 0b011100, 0b010111]
  ++ [0b011011, 0b100011, 0b010011, 0b110010, 0b001011, 0b101010, 0b011010, 0b111010]
  ++ [0b110011, 0b100110, 0b010110, 0b110110, 0b001110, 0b101110, 0b011110, 0b101011]

/-- The 4-bit parts of D.x.0 to D.x.7 after a negative running disparity. -/
def code4 : List (BitVec 4) := [0b1011, 0b1001, 0b0101, 0b1100, 0b1101, 0b1010, 0b0110, 0b1110]

/-- The control characters of R79 and R102, by their byte, with their groups after a negative running disparity. K28.7 is
never sent. -/
def codeK : List (Byte × BitVec 10) :=
  [(0x1C, 0b0011110100), (0x3C, 0b0011111001), (0x5C, 0b0011110101), (0x7C, 0b0011110011), (0x9C, 0b0011110010),
   (0xBC, 0b0011111010)]
  ++ [(0xDC, 0b0011110110), (0xF7, 0b1110101000), (0xFB, 0b1101101000), (0xFD, 0b1011101000), (0xFE, 0b0111101000)]

/-- Ones in a group of `n` bits. -/
def ones (n w : Nat) : Nat := ((List.range n).filter fun i => w.testBit i).length

/-- The running disparity after a group of `n` bits: turned where ones and zeros are not equally many. `true` is
positive. -/
def rdAfter (n : Nat) (rd : Bool) (w : Nat) : Bool := if 2 * ones n w = n then rd else !rd

/-- The 6 bits of D.x under a running disparity: complemented after a positive one where they are unbalanced, and
for D7. -/
def part6 (rd : Bool) (x : Nat) : BitVec 6 :=
  let g := (code6[x]?).getD 0
  if rd && (decide (ones 6 g.toNat ≠ 3) || decide (x = 7)) then ~~~g else g

/-- The 4 bits of D.x.y after the 6-bit part, with the alternate form of D.x.7. -/
def part4 (rd : Bool) (x y : Nat) : BitVec 4 :=
  let alt := decide (y = 7) && (if rd then decide (x ∈ [11, 13, 14]) else decide (x ∈ [17, 18, 20]))
  let g : BitVec 4 := if alt then 0b0111 else (code4[y]?).getD 0
  if rd && (decide (ones 4 g.toNat ≠ 2) || decide (y = 3)) then ~~~g else g

/-- The code group of a symbol under a running disparity (R79). -/
def Sym.group (rd : Bool) : Sym → BitVec 10
  | .d b =>
    let a := part6 rd (b.toNat % 32)
    let c := part4 (rdAfter 6 rd a.toNat) (b.toNat % 32) (b.toNat / 32)
    BitVec.ofNat 10 (a.toNat * 16 + c.toNat)
  | .k b =>
    let g := ((codeK.find? fun p => p.1 = b).map (·.2)).getD 0
    if rd then ~~~g else g

/-- The running disparity after a symbol. -/
def Sym.next (rd : Bool) (x : Sym) : Bool := rdAfter 10 rd (x.group rd).toNat

/-- The running disparity after a run of symbols (PRESUMED, log entry 57). -/
def rdRun (rd : Bool) (l : List Sym) : Bool := l.foldl Sym.next rd

/-- The code groups of a run of symbols (PRESUMED, log entry 57). -/
def groupsOf : Bool → List Sym → List (BitVec 10)
  | _, [] => []
  | rd, x :: r => x.group rd :: groupsOf (x.next rd) r

/-! ## Ordered sets -/

/-- The four symbols of an ordered set (R102, R360). -/
def OSet.syms : OSet → List Sym
  | .blk => List.replicate 4 (.k 0x3C)
  | .clr => List.replicate 4 (.k 0x5C)
  | .brk => List.replicate 4 (.k 0xF7)
  | .eis => List.replicate 4 (.k 0xDC)
  | .ecq p q => [.k 0x1C, .d p, .d q, .k 0xFD]
  | .ecr p q => [.k 0xFB, .d p, .d q, .k 0xFD]
  | .lbk p m => [.k 0x9C, .d p, .d m, .k 0xFD]
  | .pbk mask => [.k 0x3C, .k 0x3C, .d (BitVec.ofNat 8 (mask / 256)), .d (BitVec.ofNat 8 mask)]

/-- The bond marker of R91. -/
def markerSyms (b1 b2 : Byte) : List Sym := [.k 0x7C, .d b1, .d b2, .d (~~~b1)]

/-- /I1/ after a positive running disparity, which it turns, and /I2/ after a negative one, which it keeps (R79). -/
def idleSet (rd : Bool) : List Sym := [.k 0xBC, .d (if rd then 0xC5 else 0x50)]

/-- The training burst of R87: 64 repetitions of K28.5 D10.2. -/
def trainSyms : List Sym := (List.replicate 64 [Sym.k 0xBC, Sym.d 0x4A]).flatten

/-- The symbols of a stroke (R105): byte 0 is the comma, every other one a data symbol. -/
def strokeSyms (hdr : List Byte) (segs slots : List (List Byte)) : List Sym :=
  match hdr ++ segs.flatten ++ slots.flatten with
  | [] => []
  | b :: r => .k b :: r.map Sym.d

/-- The running disparity after `n` symbols since a stroke began: within the stroke, or within the idle sets that follow
it. A stroke follows an idle set and so starts with a negative one (R79). -/
def Tx.rdAt (x : Tx) (n : Nat) : Bool :=
  let r := rdRun false (x.syms.take n)
  let j := n - x.syms.length
  if j = 0 then r else if j = 1 then !r else decide (j % 2 = 1)

/-- Symbol time at a line rate, in ticks (R76). -/
def symTicks (rate : Nat) : Nat := 5 * 2 ^ rate

/-- Symbols that have left at an elapsed tick, the one in flight with them (R80). -/
def Tx.sentAt (x : Tx) (now rate : Nat) : Nat := (now - x.start + symTicks rate - 1) / symTicks rate

end Sys2Proof.Machine
end

