-- ==== Sys2Proof/Machine/Bits.lean ====
section
/-! DEFINITION. Bit fields, sign extension, byte order (R3) and the checksums that every chapter of the
spec uses: CRC-32C and CRC-16 (R107, R113). -/

namespace Sys2Proof.Machine

/-- Bits `hi..lo` of a word as a number (the bit ranges of the field tables, R7). -/
def field (w : Word) (hi lo : Nat) : Nat := (w.toNat >>> lo) % 2 ^ (hi + 1 - lo)

/-- Bit `i` of a word. -/
def bit (w : Word) (i : Nat) : Bool := w.getLsbD i

/-- The number 0 or 1 of a flag. -/
def b2n (b : Bool) : Nat := if b then 1 else 0

/-- `n` placed at bit `lo` of a word. -/
def at_ (n lo : Nat) : Word := BitVec.ofNat 32 (n <<< lo)

/-- A number of `w` bits read as two's complement (R4). -/
def signed (w n : Nat) : Int := if n % 2 ^ w < 2 ^ (w - 1) then (n % 2 ^ w : Nat) else (n % 2 ^ w : Nat) - (2 ^ w : Nat)

/-- An integer as a two's complement number of `w` bits (R4). -/
def unsigned (w : Nat) (i : Int) : Nat := (i % (2 ^ w : Nat)).toNat

/-- Bit `n` of a mask put to `b`. -/
def mset (m n : Nat) (b : Bool) : Nat := if b then m ||| (1 <<< n) else m ^^^ (m &&& (1 <<< n))

/-- The bits of `r` taken out of a mask. -/
def mclr (m r : Nat) : Nat := m ^^^ (m &&& r)

/-- The mask of the numbers below `n` that pass a test. -/
def maskOf (n : Nat) (p : Nat → Bool) : Nat := (List.range n).foldl (fun m i => if p i then m ||| (1 <<< i) else m) 0

/-- `v` held between `lo` and `hi`. -/
def clampI (lo hi v : Int) : Int := if v < lo then lo else if hi < v then hi else v

/-- Insertion of a number into a rising list, and the list sorted so. -/
def insertNat (n : Nat) : List Nat → List Nat
  | [] => [n]
  | x :: r => if n ≤ x then n :: x :: r else x :: insertNat n r

def sortNat (l : List Nat) : List Nat := l.foldr insertNat []

/-- The byte at index `i` of a byte string, 0 beyond its end. -/
def byteAt (l : List Byte) (i : Nat) : Byte := (l[i]?).getD 0

/-- The `n` bytes from index `i`, most significant first, as a number (R3). -/
def beAt (l : List Byte) (i : Nat) : Nat → Nat
  | 0 => 0
  | n + 1 => (byteAt l i).toNat * 256 ^ n + beAt l (i + 1) n

/-- A number as `n` bytes, most significant first (R3). -/
def be : Nat → Nat → List Byte
  | 0, _ => []
  | n + 1, v => BitVec.ofNat 8 (v >>> (8 * n)) :: be n v

/-- A byte string cut or filled with 0 bytes to length `n`. -/
def padTo (n : Nat) (l : List Byte) : List Byte := (l ++ List.replicate n 0).take n

/-- The 4 bytes of a word (R3). -/
def wordBytes (w : Word) : List Byte := be 4 w.toNat

/-- The words of a byte string, 4 bytes each (R3). -/
def bytesWords : Nat → List Byte → List Word
  | 0, _ => []
  | n + 1, l => BitVec.ofNat 32 (beAt l 0 4) :: bytesWords n (l.drop 4)

/-- One bit step of the reflected CRC-32C, polynomial 0x1EDC6F41 (R107). -/
def crc32Bit (c : BitVec 32) : BitVec 32 :=
  if c.getLsbD 0 then (c >>> 1) ^^^ 0x82F63B78 else c >>> 1

/-- Eight bit steps of CRC-32C. -/
def crc32Eight (c : BitVec 32) : BitVec 32 :=
  crc32Bit (crc32Bit (crc32Bit (crc32Bit (crc32Bit (crc32Bit (crc32Bit (crc32Bit c)))))))

/-- CRC-32C of a byte string (R107). -/
def crc32c (l : List Byte) : Word :=
  ~~~ (l.foldl (fun (c : BitVec 32) (b : Byte) => crc32Eight (c ^^^ b.setWidth 32)) 0xFFFFFFFF)

/-- One bit step of the unreflected CRC-16, polynomial 0x1021 (R107). -/
def crc16Bit (c : BitVec 16) : BitVec 16 :=
  if c.getLsbD 15 then (c <<< 1) ^^^ 0x1021 else c <<< 1

/-- CRC-16 of a byte string (R107). -/
def crc16 (l : List Byte) : BitVec 16 :=
  l.foldl (fun (c : BitVec 16) (b : Byte) =>
    let c := c ^^^ (b.setWidth 16 <<< 8)
    crc16Bit (crc16Bit (crc16Bit (crc16Bit (crc16Bit (crc16Bit (crc16Bit (crc16Bit c)))))))) 0xFFFF

/-- One bit step of the safe frames' CRC, polynomial 0x741B8CD7 (R336). -/
def crcSafeBit (c : BitVec 32) : BitVec 32 :=
  if c.getLsbD 31 then (c <<< 1) ^^^ 0x741B8CD7 else c <<< 1

/-- The CRC of the Safe Frame Layer and of the safety parameter set (R336, R342). -/
def crcSafe (l : List Byte) : Word :=
  ~~~ (l.foldl (fun (c : BitVec 32) (b : Byte) =>
    let c := c ^^^ (b.setWidth 32 <<< 24)
    crcSafeBit (crcSafeBit (crcSafeBit (crcSafeBit (crcSafeBit (crcSafeBit (crcSafeBit (crcSafeBit c)))))))) 0xFFFFFFFF)

/-- The last `n` entries of a list. -/
def keepLast {α : Type} (n : Nat) (l : List α) : List α := (l.reverse.take n).reverse

/-- A numerator over a denominator rounded to the nearest integer, ties to even. -/
def roundDiv (num : Int) (den : Nat) : Int :=
  let n := num.natAbs
  let i := n / den
  let r := n % den
  let i := if den < 2 * r ∨ (2 * r = den ∧ i % 2 = 1) then i + 1 else i
  if num < 0 then -(i : Int) else i

end Sys2Proof.Machine
end

