-- ==== Sys2Proof/Machine/Words.lean ====
section
/-! DEFINITION. The page tables of the spec: every word's offset, access code (R6), term (R8), the bits
a write may set (the rest are reserved or read-only, R5) and reset value (R7), chapter by chapter, with
the key of every word (page × 256 + offset) and the bit ranges of its fields. -/

namespace Sys2Proof.Machine

/-- The access codes of R6. -/
inductive Acc where
  | ro | rw | w1c | wo | otp
deriving DecidableEq, Repr

/-- The takes-effect terms of R8. -/
inductive Term where
  | immediate | nextCycle | commit | target | acquisition | restart
deriving DecidableEq, Repr

/-- One row of a page table: `count` words from offset `lo`, `stride` apart. -/
structure WordRow where
  lo : Nat
  count : Nat
  stride : Nat
  acc : Acc
  term : Term
  mask : Nat
  reset : Nat
deriving DecidableEq, Repr

/-- The words of page 0x00 (R399, R400). -/
def pageRows0 : List WordRow :=
  [⟨0x00, 1, 1, .ro, .immediate, 0x0, 0x1⟩ /- SYS_REV -/,
   ⟨0x01, 1, 1, .ro, .immediate, 0x0, 0x307200⟩ /- SYS_ID -/,
   ⟨0x02, 1, 1, .ro, .immediate, 0x0, 0x0⟩ /- SYS_SERIAL -/,
   ⟨0x03, 1, 1, .ro, .immediate, 0x0, 0x0⟩ /- SYS_FW -/,
   ⟨0x04, 1, 1, .ro, .nextCycle, 0x0, 0xF01⟩ /- SYS_STATE -/,
   ⟨0x05, 1, 1, .ro, .nextCycle, 0x0, 0x0⟩ /- SYS_LASTCHG -/,
   ⟨0x06, 1, 1, .rw, .commit, 0xFF00F0, 0x3C0000⟩ /- SYS_CTL -/,
   ⟨0x07, 1, 1, .rw, .commit, 0xFFFFFFFF, 0x4000258⟩ /- SYS_PRE -/,
   ⟨0x08, 1, 1, .ro, .nextCycle, 0x0, 0x0⟩ /- SYS_ENV -/,
   ⟨0x09, 1, 1, .ro, .nextCycle, 0x0, 0x0⟩ /- SYS_FEEDS -/,
   ⟨0x0A, 1, 1, .ro, .immediate, 0x0, 0x0⟩ /- SYS_SESS -/,
   ⟨0x0B, 1, 1, .ro, .immediate, 0x0, 0x0⟩ /- SYS_LOCK -/,
   ⟨0x0C, 1, 1, .ro, .immediate, 0x0, 0x0⟩ /- SYS_REJECT -/,
   ⟨0x0D, 1, 1, .ro, .nextCycle, 0x0, 0x0⟩ /- SYS_UPTIME -/,
   ⟨0x0E, 1, 1, .ro, .commit, 0x0, 0x0⟩ /- SYS_CFGHASH -/]

/-- The words of page 0x01 (R28–R32). -/
def pageRows1 : List WordRow :=
  [⟨0x00, 1, 1, .ro, .immediate, 0x0, 0x1⟩ /- TOPO_REV -/,
   ⟨0x01, 1, 1, .ro, .commit, 0x0, 0x0⟩ /- TOPO_HASH -/,
   ⟨0x02, 1, 1, .ro, .commit, 0x0, 0x0⟩ /- TOPO_COUNT -/,
   ⟨0x03, 1, 1, .ro, .immediate, 0x0, 0x0⟩ /- TOPO_STATUS -/,
   ⟨0x10, 64, 1, .rw, .commit, 0x7FF7, 0x0⟩ /- PORT_CFG -/,
   ⟨0x50, 16, 1, .rw, .commit, 0x131, 0x0⟩ /- STACK_CFG -/,
   ⟨0x60, 16, 1, .ro, .nextCycle, 0x0, 0x0⟩ /- STACK_INFO -/]

/-- The words of page 0x02 (R95–R99). -/
def pageRows2 : List WordRow :=
  [⟨0x00, 1, 1, .ro, .immediate, 0x0, 0x1⟩ /- LANE_REV -/,
   ⟨0x01, 1, 1, .rw, .nextCycle, 0xFFFF, 0x64⟩ /- LANE_GLOBAL -/,
   ⟨0x02, 1, 1, .rw, .nextCycle, 0xF, 0x8⟩ /- BOND_CTL -/,
   ⟨0x03, 1, 1, .ro, .nextCycle, 0x0, 0x0⟩ /- BOND_STATUS -/,
   ⟨0x04, 1, 1, .ro, .nextCycle, 0x0, 0x0⟩ /- BOND_CHANGES -/,
   ⟨0x10, 68, 1, .rw, .nextCycle, 0xFEFFB1, 0x6C9000⟩ /- LANE_CTL -/,
   ⟨0x54, 68, 1, .ro, .nextCycle, 0x0, 0x0⟩ /- LANE_STAT -/,
   ⟨0x98, 68, 1, .ro, .nextCycle, 0x0, 0x0⟩ /- LANE_ERR -/,
   ⟨0xE0, 1, 1, .wo, .immediate, 0x37F, 0x0⟩ /- LANE_CMD -/]

/-- The words of page 0x03 (R142, R143). -/
def pageRows3 : List WordRow :=
  [⟨0x00, 1, 1, .ro, .immediate, 0x0, 0x1⟩ /- LINK_REV -/,
   ⟨0x01, 1, 1, .rw, .commit, 0xFFFF, 0xC35⟩ /- LINK_TIMING -/,
   ⟨0x02, 1, 1, .rw, .nextCycle, 0xFFFF00FF, 0xBB80003⟩ /- LINK_LOSS -/,
   ⟨0x03, 1, 1, .rw, .nextCycle, 0x1FFFF, 0x10064⟩ /- LINK_ECHO -/,
   ⟨0x04, 1, 1, .ro, .immediate, 0x0, 0x0⟩ /- LINK_CUTOFF -/,
   ⟨0x05, 1, 1, .wo, .immediate, 0x3007F3F, 0x0⟩ /- LINK_CMD -/,
   ⟨0x10, 64, 1, .ro, .nextCycle, 0x0, 0x0⟩ /- STR_STAT -/,
   ⟨0x50, 64, 1, .ro, .nextCycle, 0x0, 0x0⟩ /- STR_ERR -/]

/-- The words of page 0x04 (R165–R167). -/
def pageRows4 : List WordRow :=
  [⟨0x00, 1, 1, .ro, .immediate, 0x0, 0x1⟩ /- CLK_REV -/,
   ⟨0x01, 1, 1, .rw, .nextCycle, 0xFFFFFF00, 0x640A00⟩ /- CLK_GLOBAL -/,
   ⟨0x02, 1, 1, .rw, .nextCycle, 0xFFFF3, 0xA0A0⟩ /- TIME_CTL -/,
   ⟨0x03, 1, 1, .rw, .nextCycle, 0x7, 0x2⟩ /- TIME_SERVO -/,
   ⟨0x04, 1, 1, .ro, .nextCycle, 0x0, 0x0⟩ /- TIME_STATUS -/,
   ⟨0x05, 1, 1, .ro, .nextCycle, 0x0, 0x0⟩ /- TIME_OFFSET -/,
   ⟨0x06, 1, 1, .ro, .nextCycle, 0x0, 0x0⟩ /- TIME_RATE -/,
   ⟨0x07, 1, 1, .ro, .nextCycle, 0x0, 0x0⟩ /- TIME_PENDING -/,
   ⟨0x08, 1, 1, .ro, .nextCycle, 0x0, 0x0⟩ /- PAIR_TIME -/,
   ⟨0x09, 1, 1, .ro, .nextCycle, 0x0, 0x0⟩ /- UTC_OFFSET -/,
   ⟨0x0A, 1, 1, .wo, .nextCycle, 0x1, 0x0⟩ /- TIME_SNAP -/,
   ⟨0x0B, 1, 1, .ro, .nextCycle, 0x0, 0x0⟩ /- SNAP_SEC_HI -/,
   ⟨0x0C, 1, 1, .ro, .nextCycle, 0x0, 0x0⟩ /- SNAP_SEC_LO -/,
   ⟨0x0D, 1, 1, .ro, .nextCycle, 0x0, 0x0⟩ /- SNAP_NS -/,
   ⟨0x0E, 1, 1, .ro, .nextCycle, 0x0, 0x0⟩ /- SNAP_FRAC -/,
   ⟨0x0F, 1, 1, .ro, .nextCycle, 0x0, 0x0⟩ /- SNAP_CYC_HI -/,
   ⟨0x10, 1, 1, .ro, .nextCycle, 0x0, 0x0⟩ /- SNAP_CYC_LO -/,
   ⟨0x20, 17, 1, .rw, .acquisition, 0x80030F1F, 0xC04⟩ /- CLK_LOOP -/,
   ⟨0x40, 17, 1, .ro, .nextCycle, 0x0, 0x0⟩ /- CLK_STAT -/]

/-- The words of page 0x05 (R198–R202). -/
def pageRows5 : List WordRow :=
  [⟨0x00, 1, 1, .ro, .immediate, 0x0, 0x1⟩ /- DUCT_REV -/,
   ⟨0x01, 1, 1, .rw, .commit, 0xFF07, 0x7D02⟩ /- DUCT_CTL -/,
   ⟨0x02, 1, 1, .ro, .nextCycle, 0x0, 0x20000⟩ /- DUCT_STATUS -/,
   ⟨0x03, 1, 1, .w1c, .nextCycle, 0x80000000, 0x0⟩ /- DUCT_CLAMP -/,
   ⟨0x04, 1, 1, .w1c, .nextCycle, 0x80000000, 0x0⟩ /- DUCT_FAIL -/,
   ⟨0x05, 1, 1, .wo, .commit, 0xFFFF, 0x0⟩ /- DUCT_LOADALL -/,
   ⟨0x10, 16, 8, .rw, .commit, 0xFF00FF37, 0x14000000⟩ /- STK_MODE -/,
   ⟨0x11, 16, 8, .rw, .commit, 0xFFF0FFF, 0x0⟩ /- STK_DT01 -/,
   ⟨0x12, 16, 8, .rw, .commit, 0xFFF0FFF, 0x0⟩ /- STK_DT23 -/,
   ⟨0x13, 16, 8, .rw, .commit, 0xFFF0FFF, 0x1000000⟩ /- STK_PULSE -/,
   ⟨0x14, 16, 8, .rw, .commit, 0xFFFFFFFF, 0x40000100⟩ /- STK_LIM -/,
   ⟨0x15, 16, 8, .rw, .target, 0xFFFFFF, 0x1312D0⟩ /- GEN_PERIOD -/,
   ⟨0x16, 16, 8, .rw, .target, 0xFFFFFFFF, 0x80000000⟩ /- GEN_DUTY_PHI -/,
   ⟨0x17, 16, 8, .rw, .target, 0xFFFFFFFF, 0x0⟩ /- GEN_INNER -/,
   ⟨0x90, 16, 1, .ro, .nextCycle, 0x0, 0x0⟩ /- STK_STAT -/,
   ⟨0xA0, 16, 1, .ro, .nextCycle, 0x0, 0x0⟩ /- DROP_CNT -/,
   ⟨0xB0, 16, 1, .ro, .nextCycle, 0x0, 0x0⟩ /- STRETCH_CNT -/]

/-- The words of page 0x06 (R229–R233). -/
def pageRows6 : List WordRow :=
  [⟨0x00, 1, 1, .ro, .immediate, 0x0, 0x1⟩ /- SCHED_REV -/,
   ⟨0x01, 1, 1, .rw, .nextCycle, 0xFF01, 0xA01⟩ /- SCHED_CTL -/,
   ⟨0x02, 1, 1, .ro, .nextCycle, 0x0, 0x0⟩ /- SCHED_STATUS -/,
   ⟨0x03, 1, 1, .rw, .nextCycle, 0xFF01, 0x501⟩ /- THERM_CTL -/,
   ⟨0x04, 1, 1, .w1c, .nextCycle, 0x80000000, 0x0⟩ /- THERM_FAIL -/,
   ⟨0x05, 1, 1, .ro, .nextCycle, 0x0, 0x0⟩ /- THERM_MISCNT -/,
   ⟨0x06, 1, 1, .rw, .nextCycle, 0xFFFF, 0x675F⟩ /- GOV_CTL -/,
   ⟨0x07, 1, 1, .ro, .nextCycle, 0x0, 0x0⟩ /- GOV_STATUS -/,
   ⟨0x10, 16, 4, .rw, .commit, 0xF0771F, 0x200000⟩ /- SCH_MODE -/,
   ⟨0x11, 16, 4, .rw, .nextCycle, 0xFFFFFFFF, 0x4000080⟩ /- SCH_WEIGHT -/,
   ⟨0x12, 16, 4, .rw, .nextCycle, 0xFFFFFFFF, 0x80060100⟩ /- SCH_BAL -/,
   ⟨0x13, 16, 4, .rw, .nextCycle, 0xFFFFFFF0, 0x1400A0⟩ /- SCH_PRE -/,
   ⟨0x50, 16, 1, .ro, .nextCycle, 0x0, 0x0⟩ /- SCH_STAT -/,
   ⟨0x60, 16, 1, .ro, .nextCycle, 0x0, 0x0⟩ /- SCH_SPREAD -/,
   ⟨0x80, 8, 16, .rw, .commit, 0xFFFFFFFF, 0x0⟩ /- TH_R1 -/,
   ⟨0x81, 8, 16, .rw, .commit, 0xFFFFFFFF, 0x0⟩ /- TH_R2 -/,
   ⟨0x82, 8, 16, .rw, .commit, 0xFFFFFFFF, 0x0⟩ /- TH_R3 -/,
   ⟨0x83, 8, 16, .rw, .commit, 0xFFFFFFFF, 0x0⟩ /- TH_R4 -/,
   ⟨0x84, 8, 16, .rw, .commit, 0xFFFFFFFF, 0x0⟩ /- TH_TAU1 -/,
   ⟨0x85, 8, 16, .rw, .commit, 0xFFFFFFFF, 0x0⟩ /- TH_TAU2 -/,
   ⟨0x86, 8, 16, .rw, .commit, 0xFFFFFFFF, 0x0⟩ /- TH_TAU3 -/,
   ⟨0x87, 8, 16, .rw, .commit, 0xFFFFFFFF, 0x0⟩ /- TH_TAU4 -/,
   ⟨0x88, 8, 16, .rw, .commit, 0xFFFFFFFF, 0x0⟩ /- TH_V0 -/,
   ⟨0x89, 8, 16, .rw, .commit, 0xFFFFFFFF, 0x0⟩ /- TH_RON -/,
   ⟨0x8A, 8, 16, .rw, .commit, 0xFFFFFFFF, 0x0⟩ /- TH_KON -/,
   ⟨0x8B, 8, 16, .rw, .commit, 0xFFFFFFFF, 0x0⟩ /- TH_KOFF -/,
   ⟨0x8C, 8, 16, .rw, .commit, 0xFFFFFFFF, 0x0⟩ /- TH_GSLOPE -/,
   ⟨0x8D, 8, 16, .rw, .commit, 0xFFFFFFFF, 0x4E20F05⟩ /- TH_LIMIT -/,
   ⟨0x8E, 8, 16, .rw, .commit, 0xFFFFFFFF, 0x0⟩ /- TH_LLK -/]

/-- The words of page 0x07 (R253–R258). -/
def pageRows7 : List WordRow :=
  [⟨0x00, 1, 1, .ro, .immediate, 0x0, 0x1⟩ /- LOOP_REV -/,
   ⟨0x01, 1, 1, .rw, .nextCycle, 0xFF, 0xA⟩ /- LOOP_CTL -/,
   ⟨0x02, 1, 1, .ro, .nextCycle, 0x0, 0x0⟩ /- LOOP_STATUS -/,
   ⟨0x03, 1, 1, .rw, .immediate, 0xFF, 0x0⟩ /- LOOP_SEL -/,
   ⟨0x04, 1, 1, .ro, .commit, 0x0, 0x0⟩ /- LOOP_CHECK -/,
   ⟨0x08, 8, 1, .ro, .nextCycle, 0x0, 0x0⟩ /- LOOP_CLOSED -/,
   ⟨0x10, 1, 1, .rw, .commit, 0x3F0701, 0x0⟩ /- SL_CFG -/,
   ⟨0x11, 1, 1, .rw, .commit, 0xF003FFFF, 0x0⟩ /- SL_REF -/,
   ⟨0x12, 1, 1, .rw, .commit, 0xF003FFFF, 0x0⟩ /- SL_FB -/,
   ⟨0x13, 1, 1, .rw, .commit, 0xF003FFFF, 0x0⟩ /- SL_VIN -/,
   ⟨0x14, 1, 1, .rw, .commit, 0xF003FFFF, 0x0⟩ /- SL_LO -/,
   ⟨0x15, 1, 1, .rw, .commit, 0xF003FFFF, 0x0⟩ /- SL_HI -/,
   ⟨0x16, 1, 1, .rw, .commit, 0xF0F0001, 0x0⟩ /- SL_OUT -/,
   ⟨0x17, 1, 1, .ro, .nextCycle, 0x0, 0x0⟩ /- SL_STAT -/,
   ⟨0x18, 16, 1, .ro, .immediate, 0x0, 0x0⟩ /- SL_K -/,
   ⟨0x28, 1, 1, .ro, .nextCycle, 0x0, 0x0⟩ /- SL_Y -/,
   ⟨0x29, 1, 1, .ro, .nextCycle, 0x0, 0x0⟩ /- SL_R -/,
   ⟨0x2A, 1, 1, .ro, .nextCycle, 0x0, 0x0⟩ /- SL_E -/,
   ⟨0x2B, 1, 1, .ro, .nextCycle, 0x0, 0x0⟩ /- SL_I -/,
   ⟨0x2C, 1, 1, .ro, .nextCycle, 0x0, 0x0⟩ /- SL_V -/,
   ⟨0x40, 16, 1, .ro, .nextCycle, 0x0, 0x0⟩ /- STK_VREF -/,
   ⟨0x80, 128, 1, .rw, .nextCycle, 0xFFFFFFFF, 0x0⟩ /- SP -/]

/-- The words of page 0x08 (R284–R288). -/
def pageRows8 : List WordRow :=
  [⟨0x00, 1, 1, .ro, .immediate, 0x0, 0x1⟩ /- SUP_REV -/,
   ⟨0x01, 1, 1, .rw, .nextCycle, 0xF00FF71, 0x3000A21⟩ /- SUP_CTL -/,
   ⟨0x02, 1, 1, .ro, .nextCycle, 0x0, 0x0⟩ /- SUP_STATUS -/,
   ⟨0x03, 1, 1, .rw, .immediate, 0xFFF, 0x0⟩ /- SUP_SEL -/,
   ⟨0x04, 1, 1, .w1c, .nextCycle, 0x80000000, 0x0⟩ /- SC_CAPTURE -/,
   ⟨0x05, 1, 1, .ro, .nextCycle, 0x0, 0x0⟩ /- SC_CAP_TIME -/,
   ⟨0x06, 1, 1, .ro, .nextCycle, 0x0, 0x0⟩ /- TAG_ERR -/,
   ⟨0x07, 1, 1, .ro, .nextCycle, 0x0, 0x0⟩ /- SC_COUNT -/,
   ⟨0x10, 16, 8, .rw, .commit, 0xFFEF, 0x19C2⟩ /- SUP_BLK -/,
   ⟨0x11, 16, 8, .rw, .commit, 0xFFFF, 0x0⟩ /- SUP_TGT01 -/,
   ⟨0x12, 16, 8, .rw, .commit, 0xFFFF, 0x0⟩ /- SUP_TGT23 -/,
   ⟨0x13, 16, 8, .rw, .commit, 0xFFFFFFF0, 0xF880840⟩ /- SUP_CODE -/,
   ⟨0x14, 16, 8, .rw, .nextCycle, 0xFF, 0x2⟩ /- SUP_LIM -/,
   ⟨0xA0, 8, 1, .ro, .nextCycle, 0x0, 0x0⟩ /- SW_LIVE -/,
   ⟨0xA8, 8, 1, .ro, .nextCycle, 0x0, 0x0⟩ /- SW_WEAR -/,
   ⟨0xB0, 8, 1, .ro, .nextCycle, 0x0, 0x0⟩ /- SW_SC -/,
   ⟨0xB8, 1, 1, .ro, .nextCycle, 0x0, 0x0⟩ /- SW_IDENT -/]

/-- The words of page 0x09 (R312, R313). -/
def pageRows9 : List WordRow :=
  [⟨0x00, 1, 1, .ro, .immediate, 0x0, 0x1⟩ /- FLT_REV -/,
   ⟨0x01, 1, 1, .rw, .nextCycle, 0xFFFFFF03, 0x5323C03⟩ /- FLT_CTL -/,
   ⟨0x02, 1, 1, .ro, .nextCycle, 0x0, 0x0⟩ /- FLT_STATUS -/,
   ⟨0x03, 1, 1, .ro, .nextCycle, 0x0, 0x0⟩ /- FLT_QSEQ -/,
   ⟨0x04, 1, 1, .ro, .nextCycle, 0x0, 0x0⟩ /- FLT_QLOST -/,
   ⟨0x05, 1, 1, .w1c, .nextCycle, 0x80000000, 0x0⟩ /- FE_INFO -/,
   ⟨0x06, 1, 1, .ro, .nextCycle, 0x0, 0x0⟩ /- FE_CYC -/,
   ⟨0x07, 1, 1, .ro, .nextCycle, 0x0, 0x0⟩ /- FE_TICK -/,
   ⟨0x08, 1, 1, .ro, .nextCycle, 0x0, 0x0⟩ /- FE_DETAIL -/,
   ⟨0x09, 1, 1, .rw, .immediate, 0x1FFF, 0x0⟩ /- FLT_RSEL -/,
   ⟨0x0A, 1, 1, .ro, .nextCycle, 0x0, 0x0⟩ /- FLT_REC -/,
   ⟨0x10, 16, 1, .rw, .commit, 0xFFFFFFFF, 0x0⟩ /- STK_VMAX -/,
   ⟨0x20, 16, 2, .rw, .commit, 0xF1FFFFFF, 0x10010000⟩ /- PROT_CFG -/,
   ⟨0x21, 16, 2, .rw, .commit, 0xFFFFFFFF, 0x7FFF8000⟩ /- PROT_LIM -/]

/-- The words of page 0x0A (R340–R344). -/
def pageRows10 : List WordRow :=
  [⟨0x00, 1, 1, .ro, .immediate, 0x0, 0x1⟩ /- SAF_REV -/,
   ⟨0x01, 1, 1, .rw, .commit, 0xFFFFF1, 0xA0A40⟩ /- SAF_CTL -/,
   ⟨0x02, 1, 1, .rw, .commit, 0xFFFFFFFF, 0x0⟩ /- SAF_PCRC -/,
   ⟨0x03, 1, 1, .ro, .nextCycle, 0x0, 0x0⟩ /- SAF_STATUS -/,
   ⟨0x04, 1, 1, .ro, .nextCycle, 0x0, 0x0⟩ /- SAF_INPUTS -/,
   ⟨0x05, 1, 1, .ro, .nextCycle, 0x0, 0x0⟩ /- SAF_OUTPUTS -/,
   ⟨0x06, 1, 1, .ro, .nextCycle, 0x0, 0x0⟩ /- SAF_SFL -/,
   ⟨0x07, 1, 1, .w1c, .nextCycle, 0x80000000, 0x0⟩ /- SAF_FAULT -/,
   ⟨0x08, 1, 1, .ro, .nextCycle, 0x0, 0x0⟩ /- SAF_CRC_A -/,
   ⟨0x09, 1, 1, .ro, .nextCycle, 0x0, 0x0⟩ /- SAF_CRC_B -/,
   ⟨0x10, 8, 1, .rw, .commit, 0x8FFF0003, 0xA0000⟩ /- SI_CFG -/,
   ⟨0x18, 4, 1, .rw, .commit, 0x80000103, 0x100⟩ /- SO_CFG -/,
   ⟨0x1C, 1, 1, .rw, .commit, 0xFFFF, 0x0⟩ /- SPB_CFG -/,
   ⟨0x1D, 1, 1, .rw, .commit, 0xFFFF, 0x0⟩ /- STB_CFG -/,
   ⟨0x20, 8, 2, .rw, .commit, 0xFFFFFFFF, 0x0⟩ /- SFL_ID -/,
   ⟨0x21, 8, 2, .rw, .commit, 0xF3FF0003, 0x640000⟩ /- SFL_CFG -/]

/-- The words of page 0x0B (R370, R371). -/
def pageRows11 : List WordRow :=
  [⟨0x00, 1, 1, .ro, .immediate, 0x0, 0x1⟩ /- PAIR_REV -/,
   ⟨0x01, 1, 1, .otp, .restart, 0x0, 0x0⟩ /- PAIR_ID -/,
   ⟨0x02, 1, 1, .rw, .commit, 0xFFFF0F07, 0x3C0306⟩ /- PAIR_CTL -/,
   ⟨0x03, 1, 1, .ro, .nextCycle, 0x0, 0x0⟩ /- PAIR_STATUS -/,
   ⟨0x04, 1, 1, .ro, .nextCycle, 0x0, 0x0⟩ /- PAIR_PARTNER -/,
   ⟨0x05, 1, 1, .ro, .nextCycle, 0x0, 0x0⟩ /- PAIR_SYNC -/,
   ⟨0x06, 1, 1, .ro, .nextCycle, 0x0, 0x0⟩ /- PAIR_LAST -/,
   ⟨0x07, 1, 1, .ro, .nextCycle, 0x0, 0x0⟩ /- PAIR_TAKEOVERS -/,
   ⟨0x08, 1, 1, .ro, .nextCycle, 0x0, 0x0⟩ /- PAIR_HANDOVERS -/,
   ⟨0x09, 1, 1, .ro, .nextCycle, 0x0, 0x0⟩ /- PAIR_MISMATCH -/,
   ⟨0x0A, 1, 1, .ro, .nextCycle, 0x0, 0x0⟩ /- PAIR_FRAME -/]

/-- The words of page 0x0C (R422–R426). -/
def pageRows12 : List WordRow :=
  [⟨0x00, 1, 1, .ro, .immediate, 0x0, 0x1⟩ /- NET_REV -/,
   ⟨0x01, 1, 1, .ro, .nextCycle, 0x0, 0x0⟩ /- NET_STATUS -/,
   ⟨0x02, 1, 1, .rw, .commit, 0xFFFF0103, 0x70103⟩ /- PTP_CTL -/,
   ⟨0x03, 1, 1, .ro, .nextCycle, 0x0, 0x0⟩ /- PTP_STATUS -/,
   ⟨0x04, 1, 1, .ro, .nextCycle, 0x0, 0x0⟩ /- PTP_GM_HI -/,
   ⟨0x05, 1, 1, .ro, .nextCycle, 0x0, 0x0⟩ /- PTP_GM_LO -/,
   ⟨0x06, 1, 1, .ro, .nextCycle, 0x0, 0x0⟩ /- PTP_PDELAY0 -/,
   ⟨0x07, 1, 1, .ro, .nextCycle, 0x0, 0x0⟩ /- PTP_PDELAY1 -/,
   ⟨0x08, 1, 1, .rw, .nextCycle, 0x3FFFFFF, 0x6401F4⟩ /- NET_LAUNCH -/,
   ⟨0x09, 1, 1, .ro, .nextCycle, 0x0, 0x0⟩ /- NET_DROP -/,
   ⟨0x0A, 1, 1, .ro, .nextCycle, 0x0, 0x0⟩ /- NET_LATE -/,
   ⟨0x10, 3, 4, .rw, .commit, 0xFFFFFFFF, 0x0⟩ /- PORT_IP -/,
   ⟨0x11, 3, 4, .rw, .commit, 0xFFFFFFFF, 0x0⟩ /- PORT_GW -/,
   ⟨0x12, 3, 4, .rw, .commit, 0x3FF00FFF, 0x0⟩ /- PORT_CFG -/,
   ⟨0x20, 8, 2, .rw, .commit, 0xFFFFFFFF, 0x0⟩ /- SFL_ADDR -/,
   ⟨0x21, 8, 2, .rw, .commit, 0x3, 0x0⟩ /- SFL_PATH -/,
   ⟨0x30, 4, 4, .rw, .commit, 0xFFF0FFFF, 0x110C350⟩ /- STRM_CTL -/,
   ⟨0x31, 4, 4, .rw, .commit, 0xFFFFFFFF, 0x0⟩ /- STRM_DST -/,
   ⟨0x32, 4, 4, .rw, .commit, 0x3FFFF, 0x0⟩ /- STRM_UDP -/,
   ⟨0x33, 4, 4, .ro, .nextCycle, 0x0, 0x0⟩ /- STRM_STAT -/,
   ⟨0x40, 2, 16, .rw, .commit, 0xF0000000, 0x30000000⟩ /- CAN_CTL -/,
   ⟨0x41, 2, 16, .rw, .commit, 0xFFFFFFFF, 0x14F1414⟩ /- CAN_NBT -/,
   ⟨0x42, 2, 16, .rw, .commit, 0xFFFFFFF8, 0x1130558⟩ /- CAN_DBT -/,
   ⟨0x43, 2, 16, .rw, .commit, 0xFFFF0007, 0x640000⟩ /- CAN_MATRIX -/,
   ⟨0x44, 2, 16, .ro, .immediate, 0x0, 0x0⟩ /- CAN_STAT -/,
   ⟨0x45, 2, 16, .ro, .nextCycle, 0x0, 0x0⟩ /- CAN_TS -/,
   ⟨0x46, 2, 16, .ro, .immediate, 0x0, 0x0⟩ /- CAN_TXSTAMP -/,
   ⟨0x47, 2, 16, .ro, .immediate, 0x0, 0x0⟩ /- CAN_CNT -/,
   ⟨0xA0, 1, 1, .rw, .immediate, 0x1F, 0x0⟩ /- CAN_RXSEL -/,
   ⟨0xA1, 1, 1, .ro, .immediate, 0x0, 0x0⟩ /- RX_ID -/,
   ⟨0xA2, 1, 1, .ro, .immediate, 0x0, 0x0⟩ /- RX_META -/,
   ⟨0xA3, 1, 1, .ro, .immediate, 0x0, 0x0⟩ /- RX_STAMP -/,
   ⟨0xA4, 16, 1, .ro, .immediate, 0x0, 0x0⟩ /- RX_D -/,
   ⟨0x60, 16, 2, .rw, .commit, 0xFFFFFFFF, 0x0⟩ /- CAN_SLOT -/,
   ⟨0x80, 16, 2, .rw, .commit, 0xFFFFFFFF, 0x0⟩ /- CAN_SLOT -/,
   ⟨0x61, 16, 2, .rw, .commit, 0x7FFFFFFF, 0x0⟩ /- CAN_ID -/,
   ⟨0x81, 16, 2, .rw, .commit, 0x7FFFFFFF, 0x0⟩ /- CAN_ID -/,
   ⟨0xC0, 12, 1, .rw, .commit, 0xF003FFFF, 0x0⟩ /- STRM_SRC -/,
   ⟨0xCC, 12, 1, .rw, .commit, 0xF003FFFF, 0x0⟩ /- STRM_SRC -/,
   ⟨0xD8, 12, 1, .rw, .commit, 0xF003FFFF, 0x0⟩ /- STRM_SRC -/,
   ⟨0xE4, 12, 1, .rw, .commit, 0xF003FFFF, 0x0⟩ /- STRM_SRC -/]

/-- The words of page 0x0D (R450–R452). -/
def pageRows13 : List WordRow :=
  [⟨0x00, 1, 1, .ro, .immediate, 0x0, 0x1⟩ /- INK_REV -/,
   ⟨0x01, 1, 1, .ro, .nextCycle, 0x0, 0x0⟩ /- INK_STATUS -/,
   ⟨0x02, 1, 1, .ro, .nextCycle, 0x0, 0x0⟩ /- INK_SCRUB -/,
   ⟨0x03, 1, 1, .ro, .nextCycle, 0x0, 0x0⟩ /- INK_PCNT -/,
   ⟨0x04, 1, 1, .ro, .nextCycle, 0x0, 0x0⟩ /- CIM_PCNT -/,
   ⟨0x05, 1, 1, .w1c, .nextCycle, 0x80000000, 0x0⟩ /- INK_FIRST -/,
   ⟨0x06, 1, 1, .rw, .immediate, 0xFFFF0001, 0xACE10000⟩ /- ARB_CTL -/,
   ⟨0x07, 1, 1, .rw, .immediate, 0xFFFFFF, 0x2644F8⟩ /- ARB_TKT -/,
   ⟨0x08, 1, 1, .wo, .immediate, 0xF7, 0x0⟩ /- ARB_CMD -/,
   ⟨0x09, 1, 1, .rw, .immediate, 0x1FFFF00, 0x1800000⟩ /- INK_WBASE -/,
   ⟨0x0A, 1, 1, .ro, .immediate, 0x0, 0x0⟩ /- INK_WSTAT -/,
   ⟨0x10, 8, 1, .ro, .nextCycle, 0x0, 0x0⟩ /- ARB_STAT -/,
   ⟨0x18, 1, 1, .rw, .commit, 0xFFFF, 0x1000⟩ /- DMA_CTL -/,
   ⟨0x19, 1, 1, .ro, .nextCycle, 0x0, 0x0⟩ /- DMA_STATUS -/,
   ⟨0x1A, 1, 1, .wo, .immediate, 0x307, 0x0⟩ /- DMA_CMD -/,
   ⟨0x1B, 1, 1, .ro, .nextCycle, 0x0, 0x0⟩ /- DMA_LOST -/,
   ⟨0x20, 8, 4, .rw, .immediate, 0x1FFFFE0, 0x0⟩ /- DMA_HEAD -/,
   ⟨0x21, 8, 4, .rw, .commit, 0xFF, 0x40⟩ /- DMA_CFG -/,
   ⟨0x22, 8, 4, .rw, .commit, 0x1FFFF80, 0x0⟩ /- DMA_CQ -/,
   ⟨0x23, 8, 4, .rw, .immediate, 0xFFFF, 0x0⟩ /- DMA_CQP -/,
   ⟨0x40, 1, 1, .rw, .commit, 0xFFF7F, 0x8040⟩ /- BLOT_CTL -/,
   ⟨0x41, 1, 1, .rw, .commit, 0xFFC0FFFF, 0x0⟩ /- BLOT_TRIG -/,
   ⟨0x42, 1, 1, .rw, .commit, 0xFFFFFFFF, 0x0⟩ /- BLOT_LEVEL -/,
   ⟨0x43, 1, 1, .ro, .nextCycle, 0x0, 0x0⟩ /- BLOT_STATUS -/,
   ⟨0x44, 1, 1, .ro, .nextCycle, 0x0, 0x0⟩ /- BLOT_TCYC_HI -/,
   ⟨0x45, 1, 1, .ro, .nextCycle, 0x0, 0x0⟩ /- BLOT_TCYC_LO -/,
   ⟨0x46, 1, 1, .ro, .nextCycle, 0x0, 0x0⟩ /- BLOT_LOST -/,
   ⟨0x47, 1, 1, .wo, .immediate, 0x1, 0x0⟩ /- BLOT_CMD -/,
   ⟨0x80, 64, 1, .rw, .commit, 0xF003FFFF, 0x0⟩ /- BLOT_SRC -/,
   ⟨0xC0, 64, 1, .rw, .immediate, 0xFFFFFFFF, 0x0⟩ /- INK_WIN -/]

/-- The words of page 0x0E (R466–R468). -/
def pageRows14 : List WordRow :=
  [⟨0x00, 1, 1, .ro, .immediate, 0x0, 0x1⟩ /- AI_REV -/,
   ⟨0x01, 1, 1, .rw, .commit, 0xFFFFFFFF, 0x640014⟩ /- AI_CTL -/,
   ⟨0x02, 1, 1, .ro, .nextCycle, 0x0, 0x0⟩ /- AI_STATUS -/,
   ⟨0x03, 1, 1, .ro, .nextCycle, 0x0, 0x0⟩ /- AI_OVR -/,
   ⟨0x04, 1, 1, .ro, .nextCycle, 0x0, 0x0⟩ /- AI_OVRCNT -/,
   ⟨0x08, 4, 1, .rw, .commit, 0xF8F8F83F, 0x5801⟩ /- ADC_CTL -/,
   ⟨0x0C, 4, 1, .ro, .nextCycle, 0x0, 0x0⟩ /- ADC_STAT -/,
   ⟨0x10, 1, 1, .wo, .immediate, 0x31F, 0x0⟩ /- ADC_URG -/,
   ⟨0x20, 24, 2, .rw, .commit, 0xFFFFFFFF, 0x3F800000⟩ /- AI_SCALE -/,
   ⟨0x21, 24, 2, .rw, .commit, 0xFFFFFFFF, 0x0⟩ /- AI_OFFS -/,
   ⟨0x50, 24, 1, .ro, .nextCycle, 0x0, 0x0⟩ /- AI_RES -/,
   ⟨0x80, 32, 1, .rw, .commit, 0x1FFFFFFF, 0x0⟩ /- ADC_TAB -/,
   ⟨0xA0, 32, 1, .rw, .commit, 0x1FFFFFFF, 0x0⟩ /- ADC_TAB -/,
   ⟨0xC0, 32, 1, .rw, .commit, 0x1FFFFFFF, 0x0⟩ /- ADC_TAB -/,
   ⟨0xE0, 32, 1, .rw, .commit, 0x1FFFFFFF, 0x0⟩ /- ADC_TAB -/]

/-- The words of page 0x0F (R492, R493). -/
def pageRows15 : List WordRow :=
  [⟨0x00, 1, 1, .ro, .immediate, 0x0, 0x1⟩ /- BOOT_REV -/,
   ⟨0x01, 1, 1, .ro, .nextCycle, 0x0, 0x0⟩ /- BOOT_STATUS -/,
   ⟨0x02, 1, 1, .ro, .nextCycle, 0x0, 0x0⟩ /- BOOT_SVN -/,
   ⟨0x03, 1, 1, .ro, .nextCycle, 0x0, 0x0⟩ /- FW_SLOT0 -/,
   ⟨0x04, 1, 1, .ro, .nextCycle, 0x0, 0x0⟩ /- FW_SLOT1 -/,
   ⟨0x05, 1, 1, .ro, .nextCycle, 0x0, 0x0⟩ /- FW_SLOTINFO -/,
   ⟨0x06, 1, 1, .ro, .nextCycle, 0x0, 0x0⟩ /- KEY_STATUS -/,
   ⟨0x07, 1, 1, .ro, .nextCycle, 0x0, 0x0⟩ /- JRNL_STATUS -/,
   ⟨0x08, 1, 1, .ro, .nextCycle, 0x0, 0x0⟩ /- JRNL_ERR -/]

/-- The words of one cell record, in the pages 0x100–0x15F (R36–R39). -/
def cellRows : List WordRow :=
  [⟨0, 32, 8, .rw, .commit, 0x3, 0⟩ /- CELL_CFG -/, ⟨1, 32, 8, .rw, .commit, 0xFFFFFFFF, 0⟩ /- CELL_IDENT -/,
   ⟨2, 32, 8, .rw, .commit, 0xFFFFFFFF, 0⟩ /- CELL_NOM -/, ⟨3, 32, 8, .rw, .commit, 0xFFFFFFFF, 0⟩ /- CELL_CAP -/,
   ⟨4, 32, 8, .rw, .nextCycle, 0xFFFFFFFF, 0⟩ /- CELL_LIMIT -/, ⟨5, 32, 8, .ro, .nextCycle, 0, 0⟩ /- CELL_STATE -/,
   ⟨6, 32, 8, .ro, .nextCycle, 0, 0⟩ /- CELL_SEEN -/, ⟨7, 32, 8, .ro, .nextCycle, 0, 0⟩ /- CELL_INFO -/]

/-- The rows of a page; a page outside 0x00–0x0F and 0x100–0x15F does not exist (R9). -/
def pageRows (page : Nat) : Option (List WordRow) :=
  match page with
  | 0 => some pageRows0 | 1 => some pageRows1 | 2 => some pageRows2 | 3 => some pageRows3
  | 4 => some pageRows4 | 5 => some pageRows5 | 6 => some pageRows6 | 7 => some pageRows7
  | 8 => some pageRows8 | 9 => some pageRows9 | 10 => some pageRows10 | 11 => some pageRows11
  | 12 => some pageRows12 | 13 => some pageRows13 | 14 => some pageRows14 | 15 => some pageRows15
  | p => if 0x100 ≤ p ∧ p ≤ 0x15F then some cellRows else none

/-- Whether a row holds the word at an offset. -/
def WordRow.holds (r : WordRow) (off : Nat) : Bool :=
  decide (r.lo ≤ off) && decide ((off - r.lo) % r.stride = 0) && decide ((off - r.lo) / r.stride < r.count)

/-- The table row of a word; `none` for a reserved offset. -/
def wordRow (page off : Nat) : Option WordRow := (pageRows page).bind fun rs => rs.find? (·.holds off)

/-- The key of a word: page × 256 + offset. -/
def key (page off : Nat) : Nat := page * 256 + off

/-- The reset value of a word (R7). AI_SCALE22 and AI_SCALE23 reset to 4.0 (R467). -/
def wordReset (k : Nat) : Word :=
  if k = 0xE4C ∨ k = 0xE4E then 0x40800000 else
  match wordRow (k / 256) (k % 256) with
  | some r => BitVec.ofNat 32 r.reset
  | none => 0

/-! The keys of the words, under the names of the page tables. -/
namespace K

def SYS_ID : Nat := 0x1
def SYS_SERIAL : Nat := 0x2
def SYS_FW : Nat := 0x3
def SYS_STATE : Nat := 0x4
def SYS_LASTCHG : Nat := 0x5
def SYS_CTL : Nat := 0x6
def SYS_PRE : Nat := 0x7
def SYS_ENV : Nat := 0x8
def SYS_FEEDS : Nat := 0x9
def SYS_SESS : Nat := 0xA
def SYS_LOCK : Nat := 0xB
def SYS_REJECT : Nat := 0xC
def SYS_UPTIME : Nat := 0xD
def SYS_CFGHASH : Nat := 0xE
def TOPO_HASH : Nat := 0x101
def TOPO_COUNT : Nat := 0x102
def TOPO_STATUS : Nat := 0x103
def PORT_CFG (i : Nat) : Nat := 0x110 + i
def STACK_CFG (i : Nat) : Nat := 0x150 + i
def STACK_INFO (i : Nat) : Nat := 0x160 + i
def LANE_GLOBAL : Nat := 0x201
def BOND_CTL : Nat := 0x202
def BOND_STATUS : Nat := 0x203
def BOND_CHANGES : Nat := 0x204
def LANE_CTL (i : Nat) : Nat := 0x210 + i
def LANE_STAT (i : Nat) : Nat := 0x254 + i
def LANE_ERR (i : Nat) : Nat := 0x298 + i
def LANE_CMD : Nat := 0x2E0
def LINK_TIMING : Nat := 0x301
def LINK_LOSS : Nat := 0x302
def LINK_ECHO : Nat := 0x303
def LINK_CUTOFF : Nat := 0x304
def LINK_CMD : Nat := 0x305
def STR_STAT (i : Nat) : Nat := 0x310 + i
def STR_ERR (i : Nat) : Nat := 0x350 + i
def CLK_GLOBAL : Nat := 0x401
def TIME_CTL : Nat := 0x402
def TIME_SERVO : Nat := 0x403
def TIME_STATUS : Nat := 0x404
def TIME_OFFSET : Nat := 0x405
def TIME_RATE : Nat := 0x406
def TIME_PENDING : Nat := 0x407
def PAIR_TIME : Nat := 0x408
def UTC_OFFSET : Nat := 0x409
def TIME_SNAP : Nat := 0x40A
def SNAP_SEC_HI : Nat := 0x40B
def SNAP_SEC_LO : Nat := 0x40C
def SNAP_NS : Nat := 0x40D
def SNAP_FRAC : Nat := 0x40E
def SNAP_CYC_HI : Nat := 0x40F
def SNAP_CYC_LO : Nat := 0x410
def CLK_LOOP (i : Nat) : Nat := 0x420 + i
def CLK_STAT (i : Nat) : Nat := 0x440 + i
def DUCT_CTL : Nat := 0x501
def DUCT_STATUS : Nat := 0x502
def DUCT_CLAMP : Nat := 0x503
def DUCT_FAIL : Nat := 0x504
def DUCT_LOADALL : Nat := 0x505
def STK_MODE (i : Nat) : Nat := 0x510 + 8 * i
def STK_DT01 (i : Nat) : Nat := 0x511 + 8 * i
def STK_DT23 (i : Nat) : Nat := 0x512 + 8 * i
def STK_PULSE (i : Nat) : Nat := 0x513 + 8 * i
def STK_LIM (i : Nat) : Nat := 0x514 + 8 * i
def GEN_PERIOD (i : Nat) : Nat := 0x515 + 8 * i
def GEN_DUTY_PHI (i : Nat) : Nat := 0x516 + 8 * i
def GEN_INNER (i : Nat) : Nat := 0x517 + 8 * i
def STK_STAT (i : Nat) : Nat := 0x590 + i
def DROP_CNT (i : Nat) : Nat := 0x5A0 + i
def STRETCH_CNT (i : Nat) : Nat := 0x5B0 + i
def SCHED_CTL : Nat := 0x601
def SCHED_STATUS : Nat := 0x602
def THERM_CTL : Nat := 0x603
def THERM_FAIL : Nat := 0x604
def THERM_MISCNT : Nat := 0x605
def GOV_CTL : Nat := 0x606
def GOV_STATUS : Nat := 0x607
def SCH_MODE (i : Nat) : Nat := 0x610 + 4 * i
def SCH_WEIGHT (i : Nat) : Nat := 0x611 + 4 * i
def SCH_BAL (i : Nat) : Nat := 0x612 + 4 * i
def SCH_PRE (i : Nat) : Nat := 0x613 + 4 * i
def SCH_STAT (i : Nat) : Nat := 0x650 + i
def SCH_SPREAD (i : Nat) : Nat := 0x660 + i
def TH_R1 (i : Nat) : Nat := 0x680 + 16 * i
def TH_R2 (i : Nat) : Nat := 0x681 + 16 * i
def TH_R3 (i : Nat) : Nat := 0x682 + 16 * i
def TH_R4 (i : Nat) : Nat := 0x683 + 16 * i
def TH_TAU1 (i : Nat) : Nat := 0x684 + 16 * i
def TH_TAU2 (i : Nat) : Nat := 0x685 + 16 * i
def TH_TAU3 (i : Nat) : Nat := 0x686 + 16 * i
def TH_TAU4 (i : Nat) : Nat := 0x687 + 16 * i
def TH_V0 (i : Nat) : Nat := 0x688 + 16 * i
def TH_RON (i : Nat) : Nat := 0x689 + 16 * i
def TH_KON (i : Nat) : Nat := 0x68A + 16 * i
def TH_KOFF (i : Nat) : Nat := 0x68B + 16 * i
def TH_GSLOPE (i : Nat) : Nat := 0x68C + 16 * i
def TH_LIMIT (i : Nat) : Nat := 0x68D + 16 * i
def TH_LLK (i : Nat) : Nat := 0x68E + 16 * i
def LOOP_CTL : Nat := 0x701
def LOOP_STATUS : Nat := 0x702
def LOOP_SEL : Nat := 0x703
def LOOP_CHECK : Nat := 0x704
def LOOP_CLOSED (i : Nat) : Nat := 0x708 + i
def SL_CFG : Nat := 0x710
def SL_REF : Nat := 0x711
def SL_FB : Nat := 0x712
def SL_VIN : Nat := 0x713
def SL_LO : Nat := 0x714
def SL_HI : Nat := 0x715
def SL_OUT : Nat := 0x716
def SL_STAT : Nat := 0x717
def SL_K (i : Nat) : Nat := 0x718 + i
def SL_Y : Nat := 0x728
def SL_R : Nat := 0x729
def SL_E : Nat := 0x72A
def SL_I : Nat := 0x72B
def SL_V : Nat := 0x72C
def STK_VREF (i : Nat) : Nat := 0x740 + i
def SP (i : Nat) : Nat := 0x780 + i
def SUP_CTL : Nat := 0x801
def SUP_STATUS : Nat := 0x802
def SUP_SEL : Nat := 0x803
def SC_CAPTURE : Nat := 0x804
def SC_CAP_TIME : Nat := 0x805
def TAG_ERR : Nat := 0x806
def SC_COUNT : Nat := 0x807
def SUP_BLK (i : Nat) : Nat := 0x810 + 8 * i
def SUP_TGT01 (i : Nat) : Nat := 0x811 + 8 * i
def SUP_TGT23 (i : Nat) : Nat := 0x812 + 8 * i
def SUP_CODE (i : Nat) : Nat := 0x813 + 8 * i
def SUP_LIM (i : Nat) : Nat := 0x814 + 8 * i
def SW_LIVE (i : Nat) : Nat := 0x8A0 + i
def SW_WEAR (i : Nat) : Nat := 0x8A8 + i
def SW_SC (i : Nat) : Nat := 0x8B0 + i
def SW_IDENT : Nat := 0x8B8
def FLT_CTL : Nat := 0x901
def FLT_STATUS : Nat := 0x902
def FLT_QSEQ : Nat := 0x903
def FLT_QLOST : Nat := 0x904
def FE_INFO : Nat := 0x905
def FE_CYC : Nat := 0x906
def FE_TICK : Nat := 0x907
def FE_DETAIL : Nat := 0x908
def FLT_RSEL : Nat := 0x909
def FLT_REC : Nat := 0x90A
def STK_VMAX (i : Nat) : Nat := 0x910 + i
def PROT_CFG (i : Nat) : Nat := 0x920 + 2 * i
def PROT_LIM (i : Nat) : Nat := 0x921 + 2 * i
def SAF_CTL : Nat := 0xA01
def SAF_PCRC : Nat := 0xA02
def SAF_STATUS : Nat := 0xA03
def SAF_INPUTS : Nat := 0xA04
def SAF_OUTPUTS : Nat := 0xA05
def SAF_SFL : Nat := 0xA06
def SAF_FAULT : Nat := 0xA07
def SAF_CRC_A : Nat := 0xA08
def SAF_CRC_B : Nat := 0xA09
def SI_CFG (i : Nat) : Nat := 0xA10 + i
def SO_CFG (i : Nat) : Nat := 0xA18 + i
def SPB_CFG : Nat := 0xA1C
def STB_CFG : Nat := 0xA1D
def SFL_ID (i : Nat) : Nat := 0xA20 + 2 * i
def SFL_CFG (i : Nat) : Nat := 0xA21 + 2 * i
def PAIR_ID : Nat := 0xB01
def PAIR_CTL : Nat := 0xB02
def PAIR_STATUS : Nat := 0xB03
def PAIR_PARTNER : Nat := 0xB04
def PAIR_SYNC : Nat := 0xB05
def PAIR_LAST : Nat := 0xB06
def PAIR_TAKEOVERS : Nat := 0xB07
def PAIR_HANDOVERS : Nat := 0xB08
def PAIR_MISMATCH : Nat := 0xB09
def PAIR_FRAME : Nat := 0xB0A
def NET_STATUS : Nat := 0xC01
def PTP_CTL : Nat := 0xC02
def PTP_STATUS : Nat := 0xC03
def PTP_GM_HI : Nat := 0xC04
def PTP_GM_LO : Nat := 0xC05
def PTP_PDELAY0 : Nat := 0xC06
def PTP_PDELAY1 : Nat := 0xC07
def NET_LAUNCH : Nat := 0xC08
def NET_DROP : Nat := 0xC09
def NET_LATE : Nat := 0xC0A
def PORT_IP (i : Nat) : Nat := 0xC10 + 4 * i
def PORT_GW (i : Nat) : Nat := 0xC11 + 4 * i
def NPORT_CFG (i : Nat) : Nat := 0xC12 + 4 * i
def SFL_ADDR (i : Nat) : Nat := 0xC20 + 2 * i
def SFL_PATH (i : Nat) : Nat := 0xC21 + 2 * i
def STRM_CTL (i : Nat) : Nat := 0xC30 + 4 * i
def STRM_DST (i : Nat) : Nat := 0xC31 + 4 * i
def STRM_UDP (i : Nat) : Nat := 0xC32 + 4 * i
def STRM_STAT (i : Nat) : Nat := 0xC33 + 4 * i
def CAN_CTL (i : Nat) : Nat := 0xC40 + 16 * i
def CAN_NBT (i : Nat) : Nat := 0xC41 + 16 * i
def CAN_DBT (i : Nat) : Nat := 0xC42 + 16 * i
def CAN_MATRIX (i : Nat) : Nat := 0xC43 + 16 * i
def CAN_STAT (i : Nat) : Nat := 0xC44 + 16 * i
def CAN_TS (i : Nat) : Nat := 0xC45 + 16 * i
def CAN_TXSTAMP (i : Nat) : Nat := 0xC46 + 16 * i
def CAN_CNT (i : Nat) : Nat := 0xC47 + 16 * i
def CAN_RXSEL : Nat := 0xCA0
def RX_ID : Nat := 0xCA1
def RX_META : Nat := 0xCA2
def RX_STAMP : Nat := 0xCA3
def RX_D (i : Nat) : Nat := 0xCA4 + i
def CAN_SLOT (c k : Nat) : Nat := 0xC60 + 32 * c + 2 * k
def CAN_ID (c k : Nat) : Nat := 0xC61 + 32 * c + 2 * k
def STRM_SRC (j n : Nat) : Nat := 0xCC0 + 12 * j + n
def INK_STATUS : Nat := 0xD01
def INK_SCRUB : Nat := 0xD02
def INK_PCNT : Nat := 0xD03
def CIM_PCNT : Nat := 0xD04
def INK_FIRST : Nat := 0xD05
def ARB_CTL : Nat := 0xD06
def ARB_TKT : Nat := 0xD07
def ARB_CMD : Nat := 0xD08
def INK_WBASE : Nat := 0xD09
def INK_WSTAT : Nat := 0xD0A
def ARB_STAT (i : Nat) : Nat := 0xD10 + i
def DMA_CTL : Nat := 0xD18
def DMA_STATUS : Nat := 0xD19
def DMA_CMD : Nat := 0xD1A
def DMA_LOST : Nat := 0xD1B
def DMA_HEAD (i : Nat) : Nat := 0xD20 + 4 * i
def DMA_CFG (i : Nat) : Nat := 0xD21 + 4 * i
def DMA_CQ (i : Nat) : Nat := 0xD22 + 4 * i
def DMA_CQP (i : Nat) : Nat := 0xD23 + 4 * i
def BLOT_CTL : Nat := 0xD40
def BLOT_TRIG : Nat := 0xD41
def BLOT_LEVEL : Nat := 0xD42
def BLOT_STATUS : Nat := 0xD43
def BLOT_TCYC_HI : Nat := 0xD44
def BLOT_TCYC_LO : Nat := 0xD45
def BLOT_LOST : Nat := 0xD46
def BLOT_CMD : Nat := 0xD47
def BLOT_SRC (i : Nat) : Nat := 0xD80 + i
def INK_WIN (i : Nat) : Nat := 0xDC0 + i
def AI_CTL : Nat := 0xE01
def AI_STATUS : Nat := 0xE02
def AI_OVR : Nat := 0xE03
def AI_OVRCNT : Nat := 0xE04
def ADC_CTL (i : Nat) : Nat := 0xE08 + i
def ADC_STAT (i : Nat) : Nat := 0xE0C + i
def ADC_URG : Nat := 0xE10
def AI_SCALE (i : Nat) : Nat := 0xE20 + 2 * i
def AI_OFFS (i : Nat) : Nat := 0xE21 + 2 * i
def AI_RES (i : Nat) : Nat := 0xE50 + i
def ADC_TAB (k e : Nat) : Nat := 0xE80 + 32 * k + e
def BOOT_STATUS : Nat := 0xF01
def BOOT_SVN : Nat := 0xF02
def FW_SLOT0 : Nat := 0xF03
def FW_SLOT1 : Nat := 0xF04
def FW_SLOTINFO : Nat := 0xF05
def KEY_STATUS : Nat := 0xF06
def JRNL_STATUS : Nat := 0xF07
def JRNL_ERR : Nat := 0xF08
/-- Word `w` of the record of cell `ci` (R36). -/
def CELL (ci w : Nat) : Nat := 0x10000 + 8 * ci + w
end K

/-! The fields that a write may set, under the names of the field tables. -/
namespace W

def SYS_CTL_IDLE_TO (w : Word) : Nat := field w 23 16
def SYS_CTL_MODULE_ID (w : Word) : Nat := field w 7 4
def SYS_PRE_PHI (w : Word) : Nat := field w 31 16
def SYS_PRE_TMO (w : Word) : Nat := field w 15 0
def PORT_CFG_CELLS (w : Word) : Nat := field w 14 8
def PORT_CFG_STACK (w : Word) : Nat := field w 7 4
def PORT_CFG_MODE (w : Word) : Nat := field w 2 0
def STACK_CFG_OUT_PAR (w : Word) : Bool := bit w 8
def STACK_CFG_TYPE (w : Word) : Nat := field w 5 4
def STACK_CFG_EN (w : Word) : Bool := bit w 0
def LANE_GLOBAL_ERR_LIMIT (w : Word) : Nat := field w 15 0
def BOND_CTL_UPGRADE (w : Word) : Bool := bit w 3
def BOND_CTL_MIN_W (w : Word) : Nat := field w 2 1
def BOND_CTL_EN (w : Word) : Bool := bit w 0
def LANE_CTL_EQ (w : Word) : Nat := field w 23 20
def LANE_CTL_EQ_AUTO (w : Word) : Bool := bit w 19
def LANE_CTL_ALIGN (w : Word) : Nat := field w 18 17
def LANE_CTL_COMMA_TO (w : Word) : Nat := field w 15 12
def LANE_CTL_TEST (w : Word) : Nat := field w 11 10
def LANE_CTL_LOOP (w : Word) : Nat := field w 9 8
def LANE_CTL_EIDLE (w : Word) : Bool := bit w 7
def LANE_CTL_RATE (w : Word) : Nat := field w 5 4
def LANE_CTL_EN (w : Word) : Bool := bit w 0
def LANE_CMD_CMD (w : Word) : Nat := field w 9 8
def LANE_CMD_LANE (w : Word) : Nat := field w 6 0
def LINK_TIMING_LEAD (w : Word) : Nat := field w 15 0
def LINK_LOSS_ADMIT_TMO (w : Word) : Nat := field w 31 16
def LINK_LOSS_LOST_LIMIT (w : Word) : Nat := field w 7 0
def LINK_ECHO_EN (w : Word) : Bool := bit w 16
def LINK_ECHO_ECHO_TOL (w : Word) : Nat := field w 15 0
def LINK_CMD_CMD (w : Word) : Nat := field w 25 24
def LINK_CMD_POS (w : Word) : Nat := field w 14 8
def LINK_CMD_PORT (w : Word) : Nat := field w 5 0
def CLK_GLOBAL_COAST_MAX (w : Word) : Nat := field w 31 16
def CLK_GLOBAL_PAIR_TOL (w : Word) : Nat := field w 15 8
def TIME_CTL_SLEW_MAX (w : Word) : Nat := field w 19 12
def TIME_CTL_STEP_LIMIT (w : Word) : Nat := field w 11 4
def TIME_CTL_SRC (w : Word) : Nat := field w 1 0
def TIME_SERVO_BW (w : Word) : Nat := field w 2 0
def TIME_SNAP_LATCH (w : Word) : Bool := bit w 0
def CLK_LOOP_FORCE (w : Word) : Bool := bit w 31
def CLK_LOOP_REF_MUL (w : Word) : Nat := field w 17 16
def CLK_LOOP_LOCKN (w : Word) : Nat := field w 11 8
def CLK_LOOP_WIN (w : Word) : Nat := field w 4 0
def DUCT_CTL_SWAP_AT (w : Word) : Nat := field w 15 8
def DUCT_CTL_LOOK (w : Word) : Nat := field w 2 0
def DUCT_CLAMP_VALID (w : Word) : Bool := bit w 31
def DUCT_FAIL_VALID (w : Word) : Bool := bit w 31
def DUCT_LOADALL_MASK (w : Word) : Nat := field w 15 0
def STK_MODE_FB_CYC (w : Word) : Nat := field w 31 24
def STK_MODE_HOLD (w : Word) : Bool := bit w 15
def STK_MODE_STRETCH (w : Word) : Bool := bit w 14
def STK_MODE_LOAD (w : Word) : Nat := field w 13 12
def STK_MODE_SRC (w : Word) : Nat := field w 11 10
def STK_MODE_STAGGER (w : Word) : Nat := field w 9 8
def STK_MODE_KIND (w : Word) : Nat := field w 5 4
def STK_MODE_MODE (w : Word) : Nat := field w 2 0
def STK_DT01_DT1 (w : Word) : Nat := field w 27 16
def STK_DT01_DT0 (w : Word) : Nat := field w 11 0
def STK_DT23_DT3 (w : Word) : Nat := field w 27 16
def STK_DT23_DT2 (w : Word) : Nat := field w 11 0
def STK_PULSE_CARRY_MAX (w : Word) : Nat := field w 27 16
def STK_PULSE_MINP (w : Word) : Nat := field w 11 0
def STK_LIM_PHI_MAX (w : Word) : Nat := field w 31 16
def STK_LIM_TRIM_MAX (w : Word) : Nat := field w 15 0
def GEN_PERIOD_PERIOD (w : Word) : Nat := field w 23 0
def GEN_DUTY_PHI_DUTY (w : Word) : Nat := field w 31 16
def GEN_DUTY_PHI_PHI (w : Word) : Nat := field w 15 0
def GEN_INNER_D1 (w : Word) : Nat := field w 31 16
def GEN_INNER_D2 (w : Word) : Nat := field w 15 0
def SCHED_CTL_SW_WIN (w : Word) : Nat := field w 15 8
def SCHED_CTL_PRED (w : Word) : Bool := bit w 0
def THERM_CTL_JUMP_LIM (w : Word) : Nat := field w 15 8
def THERM_CTL_CHECK_EN (w : Word) : Bool := bit w 0
def THERM_FAIL_VALID (w : Word) : Bool := bit w 31
def GOV_CTL_T_RED (w : Word) : Nat := field w 15 8
def GOV_CTL_T_AMBER (w : Word) : Nat := field w 7 0
def SCH_MODE_PRE_MAX (w : Word) : Nat := field w 23 20
def SCH_MODE_TSET_HI (w : Word) : Nat := field w 14 12
def SCH_MODE_TSET_LO (w : Word) : Nat := field w 10 8
def SCH_MODE_ISRC (w : Word) : Nat := field w 4 0
def SCH_WEIGHT_WH (w : Word) : Nat := field w 31 16
def SCH_WEIGHT_WS (w : Word) : Nat := field w 15 0
def SCH_BAL_SWAP_MAX (w : Word) : Nat := field w 31 23
def SCH_BAL_SWAP_TH (w : Word) : Nat := field w 22 16
def SCH_BAL_KP (w : Word) : Nat := field w 15 0
def SCH_PRE_PRE_TOL (w : Word) : Nat := field w 31 16
def SCH_PRE_IFLOOR (w : Word) : Nat := field w 15 4
def TH_LIMIT_TJMAX (w : Word) : Nat := field w 31 16
def TH_LIMIT_HR_SOFT (w : Word) : Nat := field w 15 8
def TH_LIMIT_HR_WARN (w : Word) : Nat := field w 7 0
def LOOP_CTL_STALE_LIM (w : Word) : Nat := field w 7 0
def LOOP_SEL_SLOT (w : Word) : Nat := field w 7 0
def SL_CFG_GROUP (w : Word) : Nat := field w 21 16
def SL_CFG_DIV (w : Word) : Nat := field w 10 8
def SL_CFG_EN (w : Word) : Bool := bit w 0
def SRC_KIND (w : Word) : Nat := field w 31 28
def SRC_INDEX (w : Word) : Nat := field w 17 0
def SL_OUT_DEST (w : Word) : Nat := field w 27 24
def SL_OUT_STACK (w : Word) : Nat := field w 19 16
def SL_OUT_PRE_SUB (w : Word) : Bool := bit w 0
def SUP_CTL_TAG_LIM (w : Word) : Nat := field w 27 24
def SUP_CTL_WEAR_PER (w : Word) : Nat := field w 15 8
def SUP_CTL_AVG (w : Word) : Nat := field w 6 4
def SUP_CTL_EN (w : Word) : Bool := bit w 0
def SUP_SEL_CI (w : Word) : Nat := field w 11 0
def SC_CAPTURE_VALID (w : Word) : Bool := bit w 31
def SUP_BLK_BLANK (w : Word) : Nat := field w 15 8
def SUP_BLK_ADAPT (w : Word) : Bool := bit w 7
def SUP_BLK_SC_BYP (w : Word) : Bool := bit w 6
def SUP_BLK_SC_AUTO (w : Word) : Bool := bit w 5
def SUP_BLK_SOFT (w : Word) : Nat := field w 3 0
def SUP_TGT01_TON (w : Word) : Nat := field w 15 8
def SUP_TGT01_TOFF (w : Word) : Nat := field w 7 0
def SUP_TGT23_TON (w : Word) : Nat := field w 15 8
def SUP_TGT23_TOFF (w : Word) : Nat := field w 7 0
def SUP_CODE_CODE_MIN (w : Word) : Nat := field w 31 28
def SUP_CODE_CODE_MAX (w : Word) : Nat := field w 27 24
def SUP_CODE_INIT_ON (w : Word) : Nat := field w 23 20
def SUP_CODE_INIT_OFF (w : Word) : Nat := field w 19 16
def SUP_CODE_DB (w : Word) : Nat := field w 15 8
def SUP_CODE_DRIFT_LIM (w : Word) : Nat := field w 7 4
def SUP_LIM_SC_MULTI (w : Word) : Nat := field w 7 0
def FLT_CTL_LIMIT (w : Word) : Nat := field w 31 24
def FLT_CTL_QUIET (w : Word) : Nat := field w 23 16
def FLT_CTL_WINDOW (w : Word) : Nat := field w 15 8
def FLT_CTL_AUTO_STACK (w : Word) : Bool := bit w 1
def FLT_CTL_AUTO_CELL (w : Word) : Bool := bit w 0
def FE_INFO_VALID (w : Word) : Bool := bit w 31
def FLT_RSEL_KIND (w : Word) : Bool := bit w 12
def FLT_RSEL_INDEX (w : Word) : Nat := field w 11 0
def STK_VMAX_VMAX1 (w : Word) : Nat := field w 31 16
def STK_VMAX_VMAX2 (w : Word) : Nat := field w 15 0
def PROT_CFG_EN (w : Word) : Bool := bit w 31
def PROT_CFG_AUTO (w : Word) : Bool := bit w 30
def PROT_CFG_MODULE (w : Word) : Bool := bit w 29
def PROT_CFG_OVR (w : Word) : Bool := bit w 28
def PROT_CFG_AI (w : Word) : Nat := field w 24 20
def PROT_CFG_PERSIST (w : Word) : Nat := field w 19 16
def PROT_CFG_MASK (w : Word) : Nat := field w 15 0
def PROT_LIM_HI (w : Word) : Nat := field w 31 16
def PROT_LIM_LO (w : Word) : Nat := field w 15 0
def SAF_CTL_SO_TP_PER (w : Word) : Nat := field w 23 16
def SAF_CTL_IN_TP_PER (w : Word) : Nat := field w 15 8
def SAF_CTL_TP_W (w : Word) : Nat := field w 7 4
def SAF_CTL_RST_MODE (w : Word) : Bool := bit w 0
def SAF_FAULT_VALID (w : Word) : Bool := bit w 31
def SI_CFG_EN (w : Word) : Bool := bit w 31
def SI_CFG_DISC (w : Word) : Nat := field w 27 16
def SI_CFG_STB (w : Word) : Bool := bit w 1
def SI_CFG_SPB (w : Word) : Bool := bit w 0
def SO_CFG_EN (w : Word) : Bool := bit w 31
def SO_CFG_TEST (w : Word) : Bool := bit w 8
def SO_CFG_STB (w : Word) : Bool := bit w 1
def SO_CFG_SPB (w : Word) : Bool := bit w 0
def SPB_CFG_MASK (w : Word) : Nat := field w 15 0
def STB_CFG_MASK (w : Word) : Nat := field w 15 0
def SFL_CFG_EN (w : Word) : Bool := bit w 31
def SFL_CFG_DIR (w : Word) : Bool := bit w 30
def SFL_CFG_MEDIUM (w : Word) : Nat := field w 29 28
def SFL_CFG_TEXP (w : Word) : Nat := field w 25 16
def SFL_CFG_STB (w : Word) : Bool := bit w 1
def SFL_CFG_SPB (w : Word) : Bool := bit w 0
def PAIR_CTL_HOLDOFF (w : Word) : Nat := field w 31 16
def PAIR_CTL_REV_MAX (w : Word) : Nat := field w 11 8
def PAIR_CTL_AUTO_REV (w : Word) : Bool := bit w 2
def PAIR_CTL_DETECT (w : Word) : Bool := bit w 1
def PAIR_CTL_EN (w : Word) : Bool := bit w 0
def PTP_CTL_DOMAIN (w : Word) : Nat := field w 31 24
def PTP_CTL_CLASS_MAX (w : Word) : Nat := field w 23 16
def PTP_CTL_TC_EN (w : Word) : Bool := bit w 8
def PTP_CTL_EN (w : Word) : Nat := field w 1 0
def NET_LAUNCH_SFL_PHASE (w : Word) : Nat := field w 25 16
def NET_LAUNCH_LATE_TOL (w : Word) : Nat := field w 15 0
def NPORT_CFG_PREFIX (w : Word) : Nat := field w 29 24
def NPORT_CFG_PCP (w : Word) : Nat := field w 23 21
def NPORT_CFG_TAG (w : Word) : Bool := bit w 20
def NPORT_CFG_VID (w : Word) : Nat := field w 11 0
def SFL_PATH_PORTS (w : Word) : Nat := field w 1 0
def STRM_CTL_EN (w : Word) : Bool := bit w 31
def STRM_CTL_DIV (w : Word) : Nat := field w 30 28
def STRM_CTL_BATCH (w : Word) : Nat := field w 27 24
def STRM_CTL_COUNT (w : Word) : Nat := field w 23 20
def STRM_CTL_PHASE (w : Word) : Nat := field w 15 0
def STRM_UDP_PORTS (w : Word) : Nat := field w 17 16
def STRM_UDP_PORT (w : Word) : Nat := field w 15 0
def CAN_CTL_EN (w : Word) : Bool := bit w 31
def CAN_CTL_ROM (w : Word) : Bool := bit w 30
def CAN_CTL_FD (w : Word) : Bool := bit w 29
def CAN_CTL_BRS (w : Word) : Bool := bit w 28
def CAN_NBT_PRESC (w : Word) : Nat := field w 31 24
def CAN_NBT_TSEG1 (w : Word) : Nat := field w 23 16
def CAN_NBT_TSEG2 (w : Word) : Nat := field w 15 8
def CAN_NBT_SJW (w : Word) : Nat := field w 7 0
def CAN_DBT_PRESC (w : Word) : Nat := field w 31 24
def CAN_DBT_TSEG1 (w : Word) : Nat := field w 23 16
def CAN_DBT_TSEG2 (w : Word) : Nat := field w 15 8
def CAN_DBT_SJW (w : Word) : Nat := field w 7 4
def CAN_DBT_TDC (w : Word) : Bool := bit w 3
def CAN_MATRIX_BC_LEN (w : Word) : Nat := field w 31 16
def CAN_MATRIX_MC (w : Word) : Nat := field w 2 0
def CAN_RXSEL_CTRL (w : Word) : Bool := bit w 4
def CAN_RXSEL_SLOT (w : Word) : Nat := field w 3 0
def CAN_SLOT_KIND (w : Word) : Nat := field w 31 30
def CAN_SLOT_REF (w : Word) : Nat := field w 29 27
def CAN_SLOT_WIN (w : Word) : Bool := bit w 26
def CAN_SLOT_REPEAT (w : Word) : Nat := field w 25 23
def CAN_SLOT_BASE (w : Word) : Nat := field w 22 17
def CAN_SLOT_LEN (w : Word) : Nat := field w 16 13
def CAN_SLOT_START (w : Word) : Nat := field w 12 0
def CAN_ID_FDF (w : Word) : Bool := bit w 30
def CAN_ID_IDE (w : Word) : Bool := bit w 29
def CAN_ID_ID (w : Word) : Nat := field w 28 0
def INK_FIRST_VALID (w : Word) : Bool := bit w 31
def ARB_CTL_SEED (w : Word) : Nat := field w 31 16
def ARB_CTL_FREEZE (w : Word) : Bool := bit w 0
def ARB_TKT_T5 (w : Word) : Nat := field w 23 20
def ARB_TKT_T4 (w : Word) : Nat := field w 19 16
def ARB_TKT_T3 (w : Word) : Nat := field w 15 12
def ARB_TKT_T2 (w : Word) : Nat := field w 11 8
def ARB_TKT_T1 (w : Word) : Nat := field w 7 4
def ARB_TKT_T0 (w : Word) : Nat := field w 3 0
def ARB_CMD_CMD (w : Word) : Nat := field w 7 4
def ARB_CMD_REQ (w : Word) : Nat := field w 2 0
def INK_WBASE_BASE (w : Word) : Nat := field w 24 8
def DMA_CTL_CHAIN_MAX (w : Word) : Nat := field w 15 0
def DMA_CMD_CMD (w : Word) : Nat := field w 9 8
def DMA_CMD_CH (w : Word) : Nat := field w 2 0
def DMA_HEAD_ADDR (w : Word) : Nat := field w 24 5
def DMA_CFG_TKT (w : Word) : Nat := field w 7 4
def DMA_CFG_CQ_LOG (w : Word) : Nat := field w 3 0
def DMA_CQ_BASE (w : Word) : Nat := field w 24 7
def DMA_CQP_TAIL (w : Word) : Nat := field w 15 0
def BLOT_CTL_DIV (w : Word) : Nat := field w 19 16
def BLOT_CTL_PRE (w : Word) : Nat := field w 15 8
def BLOT_CTL_N (w : Word) : Nat := field w 6 0
def BLOT_TRIG_KIND (w : Word) : Nat := field w 31 30
def BLOT_TRIG_COND (w : Word) : Nat := field w 29 28
def BLOT_TRIG_TCH (w : Word) : Nat := field w 27 22
def BLOT_TRIG_CODE (w : Word) : Nat := field w 15 0
def BLOT_CMD_TRIGGER (w : Word) : Bool := bit w 0
def AI_CTL_AGE_LIM (w : Word) : Nat := field w 31 16
def AI_CTL_PD_TH (w : Word) : Nat := field w 15 0
def ADC_CTL_EN (w : Word) : Bool := bit w 31
def ADC_CTL_URG_EN (w : Word) : Bool := bit w 30
def ADC_CTL_URG_DIV (w : Word) : Nat := field w 29 27
def ADC_CTL_URG_CH (w : Word) : Nat := field w 23 19
def ADC_CTL_URG_SLOT (w : Word) : Nat := field w 15 11
def ADC_CTL_LEN (w : Word) : Nat := field w 5 0
def ADC_URG_ADC (w : Word) : Nat := field w 9 8
def ADC_URG_CH (w : Word) : Nat := field w 4 0
def ADC_TAB_CH (w : Word) : Nat := field w 28 24
def ADC_TAB_REPM1 (w : Word) : Nat := field w 23 16
def ADC_TAB_DELAY (w : Word) : Nat := field w 15 0
def CELL_CFG_AUTO_BYP (w : Word) : Bool := bit w 1
def CELL_CFG_EN (w : Word) : Bool := bit w 0
def CELL_NOM_VNOM1 (w : Word) : Nat := field w 31 16
def CELL_NOM_VNOM2 (w : Word) : Nat := field w 15 0
def CELL_CAP_C1 (w : Word) : Nat := field w 31 16
def CELL_CAP_C2 (w : Word) : Nat := field w 15 0
def CELL_LIMIT_VMAX1 (w : Word) : Nat := field w 31 16
def CELL_LIMIT_VMAX2 (w : Word) : Nat := field w 15 0
end W

end Sys2Proof.Machine
end

