-- ==== Sys2Proof/Machine/Regs.lean ====
section
/-! DEFINITION. The page words in force: one home for every writable word, with the pre-defined topology
that PORT_CFG, STACK_CFG and the cell records describe (R16, R20, R26–R30). -/

namespace Sys2Proof.Machine

/-- Key of the window word at offset `w` of page 0x07 for loop slot `n` (R253): stored once for each slot. -/
def slotKey (n w : Nat) : Nat := 0x100000 + 64 * n + w

/-- Reset value of any stored word: the loop slots' FBS coefficient, at window offset 0x1D, resets to
1.0 and their other words to 0 (R257, R258). -/
def regReset (k : Nat) : Word :=
  if 0x100000 ≤ k then (if (k - 0x100000) % 64 = 0x1D then 0x3F800000 else 0) else wordReset k

/-- A word in force. -/
def State.word (s : State) (k : Nat) : Word := Tab.get regReset s.regs k

/-- A word put in force. -/
def State.setWord (s : State) (k : Nat) (v : Word) : State := { s with regs := Tab.put regReset s.regs k v }

def State.cell (s : State) (ci : Nat) : Cell := Tab.get (fun _ => Cell.init) s.cells ci
def State.setCell (s : State) (ci : Nat) (c : Cell) : State := { s with cells := Tab.put (fun _ => Cell.init) s.cells ci c }
def State.mg (s : State) (ci : Nat) : Mgmt := Tab.get (fun _ => Mgmt.init) s.mgmt ci
def State.setMg (s : State) (ci : Nat) (m : Mgmt) : State := { s with mgmt := Tab.put (fun _ => Mgmt.init) s.mgmt ci m }
def State.str (s : State) (p : Nat) : Str := Tab.get (fun _ => Str.init) s.strs p
def State.setStr (s : State) (p : Nat) (x : Str) : State := { s with strs := Tab.put (fun _ => Str.init) s.strs p x }
def State.lane (s : State) (i : Nat) : Lane := Tab.get (fun _ => Lane.init) s.lanes i
def State.setLane (s : State) (i : Nat) (x : Lane) : State := { s with lanes := Tab.put (fun _ => Lane.init) s.lanes i x }
def State.tx (s : State) (i : Nat) : Tx := Tab.get (fun _ => Tx.init) s.txs i
def State.setTx (s : State) (i : Nat) (x : Tx) : State := { s with txs := Tab.put (fun _ => Tx.init) s.txs i x }
def State.nib (s : State) (n : Nat) : Nib := Tab.get (fun _ => Nib.init) s.nibs n
def State.setNib (s : State) (n : Nat) (x : Nib) : State := { s with nibs := Tab.put (fun _ => Nib.init) s.nibs n x }
def State.aux (s : State) (n : Nat) : NibAux := Tab.get (fun _ => NibAux.init) s.nibx n
def State.setAux (s : State) (n : Nat) (x : NibAux) : State := { s with nibx := Tab.put (fun _ => NibAux.init) s.nibx n x }
def State.sess (s : State) (i : Nat) : Sess := Tab.get (fun _ => Sess.init) s.cmd.sess i
def State.setSess (s : State) (i : Nat) (x : Sess) : State :=
  { s with cmd := { s.cmd with sess := Tab.put (fun _ => Sess.init) s.cmd.sess i x } }
def State.echoOf (s : State) (i : Nat) : Echo := Tab.get (fun _ => Echo.init) s.echo i
def State.setEcho (s : State) (i : Nat) (x : Echo) : State := { s with echo := Tab.put (fun _ => Echo.init) s.echo i x }

/-- A state with nothing sent: what each command starts from (DESIGN CHOICE, log entry 1). -/
def State.silent (s : State) : State := { s with out := [] }

/-- What the module or a nib sends in this step. -/
def State.emit (s : State) (o : Output) : State := { s with out := s.out ++ [o] }

/-- Elapsed ticks at tick `t` of the present cycle, over the steps of station time (R162) (DEDUCED, log entry 52). -/
def State.ticks (s : State) (t : Nat) : Nat := ((s.mono : Int) * 62500 + t + s.clk.base).toNat

/-- A free value, fresh each time: what the spec leaves open (DESIGN CHOICE of form,
log entry 2). -/
def State.drawn (s : State) : State := { s with free := s.free + 1 }

/-- LAST_CYCLE as the journal records it (R489): the cycle number in force, once the stored cycle numbers have been moved
for the time without power. -/
def State.lastCycle (s : State) : BitVec 64 :=
  if s.sys.mode = .boot ∨ s.jrnl.fresh = true then s.jrnl.life.lastCycle else s.cycle

/-! ## Topology -/

def State.portCfg (s : State) (p : Nat) : Word := s.word (K.PORT_CFG p)

/-- The module is a pair side (R346). -/
def State.pairSide (s : State) : Bool := W.PAIR_CTL_EN (s.word K.PAIR_CTL)

/-- PAIR_ID.SIDE: side B. -/
def State.sideB (s : State) : Bool := bit (s.word K.PAIR_ID) 0

/-- The port of the position-0 end of the string that port `p` belongs to (R16): the even port of a ring. -/
def State.basePort (s : State) (p : Nat) : Nat :=
  if p % 2 = 1 ∧ W.PORT_CFG_MODE (s.portCfg (p - 1)) = 2 then p - 1 else p

/-- Position-0 port and position of a cell index (R20, R21). -/
def State.cellPort (s : State) (ci : Nat) : Nat := s.basePort (ci / 48)
def State.cellPos (s : State) (ci : Nat) : Nat := ci - 48 * s.cellPort ci

def State.configured (s : State) (p : Nat) : Bool := decide (W.PORT_CFG_MODE (s.portCfg p) ≠ 0)

/-- A CI that a configured string occupies (R20). -/
def State.occupied (s : State) (ci : Nat) : Bool :=
  s.configured (s.cellPort ci) && decide (s.cellPos ci < W.PORT_CFG_CELLS (s.portCfg (s.cellPort ci)))

def State.cellCfg (s : State) (ci : Nat) : Word := s.word (K.CELL ci 0)
def State.enabled (s : State) (ci : Nat) : Bool := W.CELL_CFG_EN (s.cellCfg ci)

/-- The stack of a cell (R26): the one its string's port word names. -/
def State.stackOf (s : State) (ci : Nat) : Nat := W.PORT_CFG_STACK (s.portCfg (s.cellPort ci))

def State.stackEn (s : State) (k : Nat) : Bool := W.STACK_CFG_EN (s.word (K.STACK_CFG k))
def State.stackType (s : State) (k : Nat) : Nat := W.STACK_CFG_TYPE (s.word (K.STACK_CFG k))

/-- Position-0 ports of the configured strings, ascending. -/
def State.strings (s : State) : List Nat := (List.range 64).filter s.configured

/-- Position-0 ports of a stack's strings. -/
def State.stackStrings (s : State) (k : Nat) : List Nat :=
  s.strings.filter fun p => W.PORT_CFG_STACK (s.portCfg p) = k

/-- Cell indices of a string, by position. -/
def State.stringCells (s : State) (p : Nat) : List Nat :=
  (List.range (W.PORT_CFG_CELLS (s.portCfg p))).map (· + 48 * p)

/-- Enabled cells of a stack, in CI order (R26). -/
def State.stackCells (s : State) (k : Nat) : List Nat :=
  ((s.stackStrings k).flatMap s.stringCells).filter s.enabled

/-- Enabled cells of the module. -/
def State.allCells (s : State) : List Nat := (s.strings.flatMap s.stringCells).filter s.enabled

/-- The ports of a string that this module uses (R16): a pair side lights its own end only. -/
def State.usedPorts (s : State) (p : Nat) : List Nat :=
  if W.PORT_CFG_MODE (s.portCfg p) = 2 then
    if s.pairSide then [if s.sideB then p + 1 else p] else [p, p + 1]
  else [p]

def State.laneCtl (s : State) (i : Nat) : Word := s.word (K.LANE_CTL i)

/-- The port of a configured string that R16 keeps dark on this module: P2k+1 of side A, P2k of side B. -/
def State.darkEnd (s : State) (i : Nat) : Bool :=
  decide (i < 64) && s.configured (s.basePort i) && !(s.usedPorts (s.basePort i)).contains i

/-- A lane in use (R78): enabled, not in electrical idle, in no loopback or test pattern. -/
def State.laneInUse (s : State) (i : Nat) : Bool :=
  let w := s.laneCtl i
  W.LANE_CTL_EN w && !W.LANE_CTL_EIDLE w && decide (W.LANE_CTL_LOOP w = 0) && decide (W.LANE_CTL_TEST w = 0)

/-- A transmitter that may give light: its lane enabled, no end that R16 keeps dark, neither faulty nor cut, the module
out of BOOT, and LIVE high on a pair side (R97, R100, R330, R348, R396). -/
def State.powered (s : State) (i : Nat) : Bool :=
  W.LANE_CTL_EN (s.laneCtl i) && !s.darkEnd i && !(s.lane i).txFault && !(s.lane i).cut && decide (s.sys.mode ≠ .boot)
    && (s.sys.live || !s.pairSide)

/-- What a lane's transmitter does (R86, R89). -/
def State.txMode (s : State) (i : Nat) : TxMode :=
  let w := s.laneCtl i
  if !s.powered i || decide (W.LANE_CTL_LOOP w = 1 ∨ W.LANE_CTL_LOOP w = 2) then .dark
  else if W.LANE_CTL_TEST w = 1 then .prbs7 else if W.LANE_CTL_TEST w = 2 then .prbs31
  else if W.LANE_CTL_LOOP w = 3 then .farEnd
  else if (s.lane i).idle then .idle else .traffic

/-- A lit lane: its transmitter sends or can be made to send the module's own symbols. -/
def State.lit (s : State) (i : Nat) : Bool := decide (s.txMode i = .traffic ∨ s.txMode i = .idle)

/-- Line rate of a lane (R97). -/
def State.rateOf (s : State) (p : Nat) : Nat := W.LANE_CTL_RATE (s.laneCtl p)

/-- An urgent ordered set out of a lane at tick `t`, at the next symbol boundary (R80): in a stroke it stands between two
symbols and the stroke continues after it; in electrical idle a training burst goes first (R87). -/
def State.urgent (s : State) (i : Nat) (o : OSet) (t : Nat) : State :=
  if !s.lit i then s
  else if (s.lane i).idle then (s.emit (.train i trainSyms)).emit (.urgent i o 0 (groupsOf (rdRun false trainSyms) o.syms))
  else
    let x := s.tx i
    let n := x.sentAt (s.ticks t) (s.rateOf i)
    let s := if n < x.syms.length then s.setTx i { x with syms := x.syms.take n ++ o.syms ++ x.syms.drop n } else s
    s.emit (.urgent i o n (groupsOf (x.rdAt n) o.syms))

/-- The lit ports of every string of the stacks in a mask. -/
def State.litPorts (s : State) (mask : Nat) : List Nat :=
  (s.strings.filter fun p => mask.testBit (W.PORT_CFG_STACK (s.portCfg p))).flatMap s.usedPorts

/-- Number of ticks by which strokes lead (R105). -/
def State.lead (s : State) : Nat := W.LINK_TIMING_LEAD (s.word K.LINK_TIMING)

/-- LOOKAHEAD in force (R170, R199). -/
def State.look (s : State) : Nat := W.DUCT_CTL_LOOK (s.word K.DUCT_CTL)

/-! ## Strings -/

/-- R18: the most cells a string holds, by mode and line rate. -/
def cellLimit (mode rate : Nat) : Nat :=
  if mode = 2 then (if rate = 0 then 96 else if rate = 1 then 56 else 28)
  else if rate = 2 then 24 else 48

/-- The port whose rate sizes a string: the one this module lights. -/
def State.ratePort (s : State) (p : Nat) : Nat := ((s.usedPorts p).head?).getD p

/-- SLOTS of the string of position-0 port `p` (R118). The side without ACT takes it from the holder's stroke. -/
def State.slotsOf (s : State) (p : Nat) : Nat :=
  let w := s.portCfg p
  let x := s.str p
  let own := min (max (W.PORT_CFG_CELLS w) x.found) (cellLimit (W.PORT_CFG_MODE w) (s.rateOf (s.ratePort p)))
  let h := (s.str (s.ratePort p)).hdr
  if s.pairSide && !s.pair.grant && h.ok then h.slots else own

end Sys2Proof.Machine
end

