-- ==== Sys2Proof/Machine/Events.lean ====
section
/-! DEFINITION. Events: their classes (R290), raising and clearing, the event queue and first-error
capture (R308, R309), blocking (R294, R295, R299), the reactions of a pair side (R353, R354), service
states (R40, R41) and the saturating counters (R310). -/

namespace Sys2Proof.Machine

/-- Classes of R290. -/
inductive EvClass where
  | info | warn | cell | stack | module | safety
deriving DecidableEq, Repr

/-- Class codes of R290. -/
def EvClass.code : EvClass → Nat
  | .info => 0 | .warn => 1 | .cell => 2 | .stack => 3 | .module => 4 | .safety => 5

/-- Codes of class CELL (R317). -/
def cellCodes : List Nat :=
  [0x0102, 0x0103, 0x0105, 0x0303, 0x0305, 0x0602, 0x0801, 0x0802, 0x0805, 0x0901, 0x0904]

/-- Codes of class STACK (R317). -/
def stackCodes : List Nat := [0x0302, 0x0304, 0x0404, 0x0405, 0x0504, 0x0607, 0x0803, 0x0804, 0x0902]

/-- Codes of class MODULE (R317, R372, R401, R453, R469). -/
def moduleCodes : List Nat :=
  [0x0005, 0x00E4, 0x00E6, 0x00E7, 0x0403, 0x0505, 0x0605, 0x0706, 0x0903, 0x0B05, 0x0D03, 0x0D04, 0x0E03]

/-- Codes of class INFO, from the event tables of the chapters. -/
def infoCodes : List Nat :=
  [0x0003, 0x0203, 0x0206, 0x0406, 0x0407, 0x0409, 0x060A, 0x0704, 0x0906, 0x0907, 0x0B02, 0x0C02, 0x0C05,
   0x0C06, 0x0C09, 0x0D0B, 0x0F02, 0x0F06, 0x0F07, 0x0F08]

/-- The one class of an event code (R290). -/
def classOf (code : Nat) : EvClass :=
  if code ∈ cellCodes then .cell else if code ∈ stackCodes then .stack
  else if code ∈ moduleCodes then .module else if code ∈ infoCodes then .info
  else if 0x0A01 ≤ code ∧ code ≤ 0x0A0D then .safety else .warn

/-- Events whose Cleared by entry reads "Recorded only": they queue an entry and are never active
(DEDUCED, log entry 4). -/
def recordedOnly : List Nat :=
  [0x0001, 0x0002, 0x0003, 0x0004, 0x0409, 0x0906, 0x0907, 0x0B02, 0x0B06, 0x0C02, 0x0C09, 0x0D01, 0x0D02,
   0x0D06, 0x0D07, 0x0D08, 0x0D09, 0x0D0A, 0x0D0B, 0x0F01, 0x0F02, 0x0F03, 0x0F04, 0x0F05, 0x0F06, 0x0F07,
   0x0F08, 0x0F0A, 0x0F0B]

/-- Events triggered by a single occurrence: their condition is present only in the cycle of detection
(R298) (DEDUCED, log entry 4). -/
def singleOccurrence : List Nat :=
  [0x0801, 0x0802, 0x0803, 0x0804, 0x0904, 0x0304, 0x0805, 0x0504, 0x0505, 0x0607, 0x0706]

/-- Events whose Cleared by entry names FAULT_RESET (the event tables of the chapters). -/
def resetClears : List Nat :=
  [0x00E6, 0x0105, 0x0302, 0x0304, 0x0305, 0x0403, 0x0404, 0x0405, 0x0504, 0x0505, 0x0602, 0x0607, 0x0706,
   0x0801, 0x0802, 0x0803, 0x0804, 0x0805, 0x0901, 0x0902, 0x0903, 0x0904, 0x0905, 0x0B05]

/-- CELL events whose own row names a soft turn-off, a bypass or FAULTED (R291). SW_SC_TWO_LEGS is a STACK
event whose row names FAULTED for its cell. -/
def faultedCodes : List Nat := [0x0305, 0x0602, 0x0801, 0x0802, 0x0803, 0x0805, 0x0901, 0x0904]

/-! ## Active events -/

def State.isActive (s : State) (code inst : Nat) : Bool :=
  s.evt.active.any fun e => decide (e.code = code ∧ e.inst = inst)

def State.anyActive (s : State) (code : Nat) : Bool := s.evt.active.any fun e => decide (e.code = code)

/-- A counter raised by one, held at 0xFFFFFFFF with its SAT flag set (R310): the new count, the flag, and
whether it saturates now. -/
def satInc (w : Word) (sat : Bool) : Word × Bool × Bool :=
  if w = 0xFFFFFFFF then (w, true, false) else (w + 1, sat || decide (w + 1 = 0xFFFFFFFF), decide (w + 1 = 0xFFFFFFFF))

/-- Order of entries within one tick: by code, then by instance (R308). -/
def EvEntry.key (e : EvEntry) : Nat := e.code.toNat * 4096 + e.inst.toNat

/-- An entry among the entries of its tick. -/
def EvEntry.insert (e : EvEntry) : List EvEntry → List EvEntry
  | [] => [e]
  | x :: r => if x.key ≤ e.key then x :: e.insert r else e :: x :: r

/-- A new entry at the end of the queue: in its place among the entries of the same tick that are not yet copied, which
take their sequence numbers in that order (R308). -/
def EvEntry.place (e : EvEntry) (uncopied : Nat) (q : List EvEntry) : List EvEntry :=
  let same := ((q.reverse.take uncopied).takeWhile fun x => decide (x.cycle = e.cycle ∧ x.tick = e.tick)).reverse
  let n := same.length
  q.take (q.length - n) ++ (e.insert same).zipIdx.map fun x =>
    { x.1 with seq := e.seq - BitVec.ofNat 32 n + BitVec.ofNat 32 x.2 }

/-- A queue entry (R308) at tick `t` of the present cycle. When the queue is full the oldest entry is
overwritten; one not yet copied is lost and FLT_QLOST counts it (DEDUCED, log entry 45). -/
def State.queueEntry (s : State) (code kind inst : Nat) (detail : Word) (t : Nat) : State :=
  let e := s.evt
  let seq := e.seq + 1
  let entry : EvEntry :=
    { code := BitVec.ofNat 16 code, kind := BitVec.ofNat 4 kind, inst := BitVec.ofNat 12 inst, seq := seq,
      cycle := s.cycle.setWidth 48, tick := BitVec.ofNat 16 t, detail := detail }
  let full := decide (64 ≤ e.queue.length)
  let lose := full && decide (64 ≤ e.uncopied)
  let l := satInc e.lost e.lostSat
  { s with evt := { e with
      queue := entry.place e.uncopied (if full then e.queue.drop 1 else e.queue),
      uncopied := if lose then 64 else e.uncopied + 1,
      seq := seq,
      lost := if lose then l.1 else e.lost,
      lostSat := if lose then l.2.1 else e.lostSat } }

/-- COUNTER_SAT of FLT_QLOST as queue entries bring it to its largest value (R310); `o` is the state before them. -/
def State.lostSats (s o : State) (t : Nat) : State :=
  if s.evt.lostSat && !o.evt.lostSat then
    s.queueEntry 0x0907 1 0 (BitVec.ofNat 32 (K.FLT_QLOST / 256 * 65536 + K.FLT_QLOST % 256)) t
  else s

/-- An entry enters the queue (R308, R310). -/
def State.enqueue (s : State) (code kind inst : Nat) (detail : Word) (t : Nat) : State :=
  (s.queueEntry code kind inst detail t).lostSats s t

/-- The capture shows an event of this tick that comes later in queue order (R309). -/
def State.captureLater (s : State) (code inst t : Nat) : Bool :=
  let e := s.evt
  decide (e.feCyc = BitVec.ofNat 32 (s.cycle.toNat >>> 16) ∧ e.feTick = at_ (s.cycle.toNat % 65536) 16 ||| at_ t 0)
    && decide (code * 4096 + inst % 4096 < field e.feInfo 15 0 * 4096 + field e.feInfo 27 16)

/-- First-error capture (R309): FE_INFO, FE_CYC, FE_TICK, FE_DETAIL; within one tick the first in queue order
(DEDUCED, log entry 45). -/
def State.capture (s : State) (code inst : Nat) (detail : Word) (t : Nat) : State :=
  let e := s.evt
  if (classOf code).code < 2 ∨ (e.feValid ∧ !s.captureLater code inst t) then s else
  { s with evt := { e with
      feValid := true,
      feInfo := at_ 1 31 ||| at_ (classOf code).code 28 ||| at_ (inst % 4096) 16 ||| at_ code 0,
      feCyc := BitVec.ofNat 32 (s.cycle.toNat >>> 16),
      feTick := at_ (s.cycle.toNat % 65536) 16 ||| at_ t 0,
      feDetail := detail } }

/-- The stacks an active STACK or MODULE event holds in scope. A STACK event's instance names its stack,
lane island, threshold, string or cell; `scope` resolves it (R291, R299) (DEDUCED, log entry 50). -/
def State.scope (s : State) (code inst : Nat) : Nat :=
  match classOf code with
  | .module => 0xFFFF
  | .stack =>
    if code = 0x0902 then W.PROT_CFG_MASK (s.word (K.PROT_CFG inst))
    else if code = 0x0302 then 1 <<< W.PORT_CFG_STACK (s.portCfg inst)
    else if code = 0x0304 ∨ code = 0x0803 then 1 <<< s.stackOf inst
    else if code = 0x0404 ∨ code = 0x0405 then
      -- instance: the loop 2–9 of the island 0–7 (ports 8i to 8i + 7)
      let isl := inst - 2
      ((s.strings.filter fun p => (s.usedPorts p).any fun q => decide (q / 8 = isl)).map
        fun p => 1 <<< W.PORT_CFG_STACK (s.portCfg p)).foldl (· ||| ·) 0
    else 1 <<< inst
  | _ => 0

/-- Stacks blocked by an active event or by the safety island (R299). `island` is the mask the island
holds blocked. -/
def State.eventBlocked (s : State) : Nat :=
  s.evt.active.foldl (fun m e => m ||| s.scope e.code e.inst) 0

/-- /BLK/ on every lit port of the strings of the stacks in a mask (R294). A side in role OUT inserts none (R353). -/
def State.sendBlk (s : State) (mask t : Nat) : State :=
  if s.pair.role = .out ∨ s.pairOps.giveUp then s else (s.litPorts mask).foldl (fun s p => s.urgent p .blk t) s

/-- /BLK/ on every lit cell port (R290, R294) (DEDUCED, log entry 35). -/
def State.sendBlkAll (s : State) (t : Nat) : State :=
  if s.pair.role = .out ∨ s.pairOps.giveUp then s else
  (List.range 64).foldl (fun s p => s.urgent p .blk t) s

/-- /PBK/ to the partner on every partner lane in sync (R360); none in role OUT (R353). -/
def State.sendPbk (s : State) (mask t : Nat) : State :=
  if !s.pairSide ∨ s.pair.role = .out ∨ s.pairOps.giveUp then s
  else ([64, 65, 66, 67].filter fun i => (s.lane i).sync).foldl (fun s i => s.urgent i (.pbk mask) t) s

/-- BLOCK forced in every later segment of a set of stacks, and any /CLR/ still due for them cancelled (R295, R305). -/
def State.force (s : State) (mask : Nat) : State :=
  { s with evt := { s.evt with
      forced := s.evt.forced ||| mask,
      blkReq := (List.range 16).foldl
        (fun t k => if mask.testBit k then Tab.put (fun _ => 0) t k (s.mono + 1) else t) s.evt.blkReq,
      clrDue := s.evt.clrDue.filter fun d =>
        !(mask.testBit (if d.1 < 16 then d.1 else s.stackOf (d.1 - 16))) } }

/-- The block of a set of stacks: /BLK/ at once, /PBK/ to the partner, BLOCK forced (R294, R295, R360). -/
def State.block (s : State) (mask t : Nat) : State := ((s.sendBlk mask t).sendPbk mask t).force mask

/-- The block of a MODULE-class event: every lit cell port, all stacks (R290). -/
def State.blockModule (s : State) (t : Nat) : State := ((s.sendBlkAll t).sendPbk 0xFFFF t).force 0xFFFF

/-- Row of the capture that belongs to the present cycle: the row already sampled in it, else the next (R446, R448). -/
def State.blotRow (s : State) : Nat :=
  let b := s.ink.blot
  if b.total ≠ 0 ∧ b.lastCyc = s.cycle then b.total - 1 else b.total

/-- A trigger of the Blotter at row `row` (R448): only the first counts, in FILLING and ARMED. -/
def State.blotTrigger (s : State) (row : Nat) (t : Nat) : State :=
  let b := s.ink.blot
  if b.st ≠ 1 ∧ b.st ≠ 2 then s else
  ({ s with ink := { s.ink with blot := { b with st := 3, trig := some (row, s.cycle) } } }).enqueue 0x0D0B 1 0
    (s.cycle.setWidth 32) t

/-- The raising of an event as a trigger: KIND 2 its code, KIND 3 its class (R448). -/
def State.blotEvent (s : State) (code : Nat) (t : Nat) : State :=
  let w := s.word K.BLOT_TRIG
  let c := W.BLOT_TRIG_CODE w
  if (W.BLOT_TRIG_KIND w = 2 ∧ c = code) ∨ (W.BLOT_TRIG_KIND w = 3 ∧ c % 8 ≤ (classOf code).code) then
    s.blotTrigger s.blotRow t
  else s

/-- The give-up of R353: TOK_OUT released, GIVEUP set, role OUT, BLOCKED; no /BLK/, no /PBK/, no /CLR/.
PAIR_GIVEUP is raised by the caller's `raise`. -/
def State.startGiveUp (s : State) : State :=
  if s.pairOps.giveUp ∨ s.pair.role = .out then s else
  let s := { s with
    pair := { s.pair with role := .out, tokOut := false, grant := false, ready := false },
    pairOps := { s.pairOps with giveUp := true },
    sys := { s.sys with blockReq := true } }
  let a : ActEv := { code := 0x0B03, inst := 0, cond := true, last := s.mono }
  let s := { s with evt := { s.evt with forced := 0xFFFF, clrDue := [], active := s.evt.active ++ [a] } }
  (s.enqueue 0x0B03 1 0 0 0).blotEvent 0x0B03 0

/-- Events of own computation or clocks in class STACK (R354) (DEDUCED, log entry 27). -/
def ownStackCodes : List Nat := [0x0404, 0x0405, 0x0504, 0x0607]

/-- A CELL reaction (R290, R291): BYPASS_REQ where the policy or the event's rule selects it, the cell out
of the pre-charge count. `byp` is the bypass decision of the event's rule beyond AUTO_BYP (R14, R280). -/
def State.cellReaction (s : State) (code ci : Nat) (byp : Bool) : State :=
  if code = 0x0303 then
    let c := s.cell ci
    let b := W.CELL_CFG_AUTO_BYP (s.cellCfg ci)
    let s := s.setCell ci { c with
      adm := .none, lost := true, preRun := 0, bypReq := c.bypReq || b, bypCmd := c.bypCmd || b }
    s.setMg ci { s.mg ci with step := 0, since := s.mono }
  else if code ∈ faultedCodes then
    let c := s.cell ci
    let b := byp || (W.CELL_CFG_AUTO_BYP (s.cellCfg ci) && decide (code ≠ 0x0803))
    s.setCell ci { c with heldOut := true, preRun := 0, bypReq := c.bypReq || b, bypCmd := c.bypCmd || b }
  else s

/-- A CELL event on a standby is recorded (R354): its cell will return to CHARGING as on the holder (R303). -/
def State.cellNoted (s : State) (code ci : Nat) : State :=
  if code ∈ faultedCodes then s.setCell ci { s.cell ci with heldOut := true, preRun := 0 } else s

/-- The reaction of a raised event by its class, or by R354 on a pair side. -/
def State.react (s : State) (code inst : Nat) (byp : Bool) (t : Nat) : State :=
  let paired := s.pairSide
  let holder := decide (s.pair.role = .holder)
  let standby := paired && decide (s.pair.role ≠ .holder)
  match classOf code with
  | .module =>
    if code ≠ 0x0903 ∧ code ≠ 0x0B05 ∧ paired ∧ ((holder ∧ s.pair.pReady) ∨ standby ∨ code = 0x0005) then
      s.startGiveUp
    else
      let s := s.blockModule t
      { s with sys := { s.sys with blockReq := true } }
  | .stack =>
    if code ∈ ownStackCodes ∧ paired ∧ ((holder ∧ s.pair.pReady)) then s.startGiveUp
    else if code ∈ ownStackCodes ∧ standby then { s with pair := { s.pair with ready := false } }
    else
      let s := s.block (s.scope code inst) t
      if code = 0x0803 then s.cellReaction code inst byp else s
  | .cell => if standby then s.cellNoted code inst else s.cellReaction code inst byp
  | _ => s

/-- Raising an event instance at tick `t` (R298, R308, R309). A recorded-only event queues an entry and is
never active. An instance already active adds no entry and restarts its quiet period
(DEDUCED, log entry 4; DEDUCED, log entry 50). -/
def State.raiseB (s : State) (code inst : Nat) (detail : Word) (t : Nat) (byp : Bool) : State :=
  if code ∈ recordedOnly then (s.enqueue code 1 inst detail t).blotEvent code t
  else if s.isActive code inst then
    let s := { s with evt := { s.evt with active := s.evt.active.map fun e =>
        if e.code = code ∧ e.inst = inst then { e with cond := true, last := s.mono } else e } }
    if code ∈ singleOccurrence then s.react code inst byp t else s
  else
    let a : ActEv := { code := code, inst := inst, cond := true, last := s.mono }
    let s := { s with evt := { s.evt with active := s.evt.active ++ [a] } }
    let s := ((s.enqueue code 1 inst detail t).capture code inst detail t).blotEvent code t
    s.react code inst byp t

def State.raise (s : State) (code inst : Nat) (detail : Word) (t : Nat) : State :=
  s.raiseB code inst detail t false

/-- The SAF_FAULT capture of a SAFETY event raised by channel `c` (R344): the first event; of one tick the one with the
lowest code and instance, as R309 orders them; the other channel joins until the exchange
(DEDUCED, log entry 46). -/
def Saf.captureFault (f : Saf) (c code inst now t : Nat) : Saf :=
  let a := decide (c ≠ 1)
  let b := decide (c ≠ 0)
  let key (x i : Nat) : Nat := x * 4096 + i
  if f.fValid ∧ f.fCode = code ∧ f.fInst = inst then
    if f.fOpen then { f with fA := f.fA || a, fB := f.fB || b } else f
  else if f.fValid ∧ (f.fAt ≠ (now, t) ∨ key f.fCode f.fInst < key code inst) then f
  else { f with fValid := true, fCode := code, fInst := inst, fA := a, fB := b, fOpen := decide (c ≠ 2), fAt := (now, t) }

/-- A SAFETY event raised by channel `c` (2: both at an exchange); a new one is captured, and one just captured takes
the other channel (R344) (DEDUCED, log entry 46). -/
def State.safRaise (s : State) (c code inst t : Nat) : State :=
  let f := s.saf
  let s := if s.isActive code inst && !(f.fValid && decide (f.fCode = code ∧ f.fInst = inst)) then s
    else { s with saf := f.captureFault c code inst s.mono t }
  s.raise code inst 0 t

/-- Clearing an active instance queues a CLEAR entry (R308). -/
def State.clear (s : State) (code inst : Nat) (t : Nat) : State :=
  if s.isActive code inst then
    ({ s with evt := { s.evt with active := s.evt.active.filter fun e => !decide (e.code = code ∧ e.inst = inst) } }).enqueue
      code 2 inst 0 t
  else s

/-- A condition found absent: the instance stays active, its condition is over (R298). -/
def State.condGone (s : State) (code inst : Nat) : State :=
  { s with evt := { s.evt with active := s.evt.active.map fun e =>
      if e.code = code ∧ e.inst = inst then { e with cond := false } else e } }

/-- A condition that a unit judges each cycle or sample: present raises, absent for `need` judgements in a
row clears. `last` of the instance counts the absent judgements' start through `mono`. -/
def State.judge (s : State) (code inst : Nat) (present : Bool) (need : Nat) (detail : Word) (t : Nat) : State :=
  if present then s.raise code inst detail t
  else if s.evt.active.any fun e => decide (e.code = code ∧ e.inst = inst ∧ e.last + need ≤ s.mono) then
    s.clear code inst t
  else s.condGone code inst

/-- A condition that raises its event after a run of `need` cycles and clears it after `quiet` cycles without it: present
for less than the run, it raises nothing, and an active instance's quiet time starts again (R298). -/
def State.judgeRun (s : State) (code inst : Nat) (present : Bool) (run need quiet t : Nat) : State :=
  if present && (decide (need ≤ run) || s.isActive code inst) then s.raise code inst 0 t
  else if present then s
  else s.judge code inst false quiet 0 t

/-! ## Service states -/

/-- Service codes of R40. -/
inductive Svc where
  | disabled | missing | found | charging | inserted | bypassed | retired | faulted
deriving DecidableEq, Repr

def Svc.code : Svc → Nat
  | .disabled => 0 | .missing => 1 | .found => 2 | .charging => 3 | .inserted => 4 | .bypassed => 5
  | .retired => 6 | .faulted => 7

/-- A cell is held out as FAULTED by an active event whose row names it (R291, R299). -/
def State.faulted (s : State) (ci : Nat) : Bool :=
  s.evt.active.any fun e => decide (e.code ∈ faultedCodes ∧ e.inst = ci)

/-- CELL_STATE.SVC: the highest of R41 that holds. -/
def State.svc (s : State) (ci : Nat) : Svc :=
  let c := s.cell ci
  if !s.enabled ci then .disabled
  else if c.bypClosed then .bypassed
  else if s.faulted ci then .faulted
  else if c.retired then .retired
  else match c.adm with
    | .none => .missing | .found => .found | .charging => .charging | .inserted => .inserted

/-- An admitted cell in service: it shows CHARGING or INSERTED. -/
def State.inService (s : State) (ci : Nat) : Bool :=
  decide (s.svc ci = .charging) || decide (s.svc ci = .inserted)

/-- A string holds a cell in CHARGING or INSERTED (R90, R144). -/
def State.stringLive (s : State) (p : Nat) : Bool := (s.stringCells p).any s.inService

/-- A cell that was admitted and not withdrawn, whatever event holds it (R303). -/
def State.admitted (s : State) (ci : Nat) : Bool :=
  decide ((s.cell ci).adm = .charging) || decide ((s.cell ci).adm = .inserted)

/-- STACK_INFO.ADMITTED counts cells that passed admission and are not bypassed, retired or faulted (R31). -/
def State.stackAdmitted (s : State) (k : Nat) : Nat := ((s.stackCells k).filter s.inService).length

/-- COUNTER_SAT for a counter that has just saturated (R310): DETAIL carries the page and offset
(DEDUCED, log entry 10). -/
def State.satEvent (s : State) (now : Bool) (k : Nat) (t : Nat) : State :=
  if now then s.raise 0x0907 0 (BitVec.ofNat 32 (k / 256 * 65536 + k % 256)) t else s

/-! ## Management requests -/

/-- A management request for a cell's next segment, with the next sequence number (R133, R134). -/
def State.request (s : State) (ci code : Nat) (params : List Byte) : State :=
  let m := s.mg ci
  let sq := (m.seq + 1) % 256
  let bytes := [BitVec.ofNat 8 code, BitVec.ofNat 8 sq] ++ padTo 6 params
  let s := s.setMg ci { m with seq := sq, req := bytes, await := code }
  s.emit (.mgmt ci bytes)

/-- RETIRE sent to a cell (R134) (DEDUCED, log entry 19). -/
def State.sendRetire (s : State) (ci : Nat) : State := s.request ci 4 []

end Sys2Proof.Machine
end

