-- ==== Sys2Proof/Machine/NetOps.lean ====
section
/-! DEFINITION. What the station network and the CAN controllers hold, and the two ways a built message leaves:
a planned launch on a station port (R409, R410) and the pending message of a transmit slot (R416). -/

namespace Sys2Proof.Machine

def State.portIp (s : State) (p : Nat) : Word := s.word (K.PORT_IP p)

/-- The address lies within the port's prefix (R404). -/
def State.inPrefix (s : State) (p : Nat) (ip : Word) : Bool :=
  let sh := 32 - W.NPORT_CFG_PREFIX (s.word (K.NPORT_CFG p))
  decide ((ip >>> sh) = (s.portIp p >>> sh))

/-- An address of 224.0.0.0–239.255.255.255 (R410). -/
def multicast (ip : Word) : Bool := decide (field ip 31 28 = 14)

/-- VLAN ID and priority of a frame of a class on a tagged port (R404). -/
def State.netTag (s : State) (p cls : Nat) : Option (Nat × Nat) :=
  let w := s.word (K.NPORT_CFG p)
  if W.NPORT_CFG_TAG w then
    some (W.NPORT_CFG_VID w, match cls with | 1 => 7 | 2 => 6 | 3 => 5 | _ => W.NPORT_CFG_PCP w)
  else none

/-- A frame of an egress class leaves a port (R404). -/
def State.sendNet (s : State) (p cls : Nat) (m : NetMsg) : State := s.emit (.net p cls (s.netTag p cls) m)

/-- Where a datagram to an address goes next: straight within the prefix or to a group, else to the gateway (R404)
(DEDUCED, log entry 39). -/
def State.nextHop (s : State) (p : Nat) (ip : Word) : Word :=
  if multicast ip || s.inPrefix p ip then ip else s.word (K.PORT_GW p)

/-- MAC address that the ARP cache of a port holds for an address (R404). -/
def State.arpFind (s : State) (p : Nat) (ip : Word) : Option (BitVec 48) :=
  (s.net.arp.find? fun e => decide (e.1 = p ∧ e.2.1 = ip)).map (·.2.2.1)

/-- A UDP datagram leaves a port; an address that the cache does not hold is asked for (R402, R404)
(DEDUCED, log entry 39). -/
def State.sendUdp (s : State) (p cls : Nat) (ip : Word) (sport dport : Nat) (b : List Byte) : State :=
  let hop := s.nextHop p ip
  let mac := s.arpFind p hop
  let s := if mac.isNone && !multicast hop then s.sendNet p 4 (.arp false hop) else s
  s.sendNet p cls (.udp hop mac ip sport dport b)
def State.ptpPort (s : State) (p : Nat) : PtpPort := Tab.get (fun _ => PtpPort.init) s.net.ptp p
def State.setPtpPort (s : State) (p : Nat) (x : PtpPort) : State :=
  { s with net := { s.net with ptp := Tab.put (fun _ => PtpPort.init) s.net.ptp p x } }
def State.stream (s : State) (j : Nat) : Strm := Tab.get (fun _ => Strm.init) s.net.strm j
def State.setStream (s : State) (j : Nat) (x : Strm) : State :=
  { s with net := { s.net with strm := Tab.put (fun _ => Strm.init) s.net.strm j x } }
def State.canOf (s : State) (c : Nat) : Can := Tab.get (fun _ => Can.init) s.net.can c
def State.setCan (s : State) (c : Nat) (x : Can) : State :=
  { s with net := { s.net with can := Tab.put (fun _ => Can.init) s.net.can c x } }

/-- Launches of one port in the order of their instants, at one instant the higher class first (R404, R409). -/
def insertLaunch (x : Launch) : List Launch → List Launch
  | [] => [x]
  | y :: r => if x.tick < y.tick ∨ (x.tick = y.tick ∧ x.cls < y.cls) then x :: y :: r else y :: insertLaunch x r

/-- A frame planned on a station port (R409); a port with address 0 sends none (R405) (DEDUCED, log entry 39). -/
def State.planLaunch (s : State) (p : Nat) (x : Launch) : State :=
  if s.portIp p = 0 then s else
  { s with net := { s.net with
      launches := Tab.upd (fun _ => []) s.net.launches p (insertLaunch x) } }

/-- Content of a transmit slot rebuilt: it replaces the pending message (R416). -/
def Can.rebuild (x : Can) (k : Nat) (bytes : List Byte) : Can := { x with pend := Tab.put (fun _ => []) x.pend k bytes }

/-- Slots of controller `c` with a KIND that name connection or stream `j`. -/
def State.canSlots (s : State) (c kind j : Nat) : List Nat :=
  (List.range 16).filter fun k =>
    let w := s.word (K.CAN_SLOT c k)
    decide (W.CAN_SLOT_KIND w = kind ∧ W.CAN_SLOT_REF w = j)

/-- A controller that is enabled, in bus-off too (R425). -/
def State.canEn (s : State) (c : Nat) : Bool := W.CAN_CTL_EN (s.word (K.CAN_CTL c))

/-- New content for the slots of controller `c` that name `j`; a disabled controller holds no message (R417). -/
def State.canFill (s : State) (c kind j : Nat) (bytes : List Byte) : State :=
  if !s.canEn c then s else
  (s.canSlots c kind j).foldl (fun (s : State) (k : Nat) => s.setCan c ((s.canOf c).rebuild k bytes)) s

/-- The production instant of connection `j` at or after tick `t` of the present cycle, in elapsed ticks (R409): a
millisecond boundary + SFL_PHASE µs + 10 µs × j. -/
def State.sflInstant (s : State) (j t : Nat) : Nat :=
  let at0 := W.NET_LAUNCH_SFL_PHASE (s.word K.NET_LAUNCH) * 6250 + j * 62500
  let now := s.cycle.toNat % 100 * 62500 + t
  s.ticks t + (at0 + 2 * 6250000 - now) % 6250000

/-- A produced safe frame handed to its medium at tick `t` (R338, R409, R410, R416). -/
def State.sendSafe (s : State) (j t : Nat) (bytes : List Byte) : State :=
  match W.SFL_CFG_MEDIUM (s.word (K.SFL_CFG j)) with
  | 0 =>
    let x : Launch := { tick := s.sflInstant j t, cls := 2, ip := s.word (K.SFL_ADDR j), dport := 51402, bytes := bytes }
    ([0, 1].filter (W.SFL_PATH_PORTS (s.word (K.SFL_PATH j))).testBit).foldl
      (fun (s : State) (p : Nat) => s.planLaunch p x) s
  | m + 1 => s.canFill m 2 j bytes

end Sys2Proof.Machine
end

