-- ==== Sys2Proof/Machine/Safety.lean ====
section
/-! DEFINITION. The safety island (Safety Functions, R318–R345): two channels with their own readings,
faults, functions and connections, the outputs that need both, the cross link and the reset. Channel 0 is A,
channel 1 is B. -/

namespace Sys2Proof.Machine

/-- Function states of SAF_STATUS (R328, R344). -/
def fnPermit : Nat := 0
def fnDemand : Nat := 1
def fnLocked : Nat := 2

/-- Island states (R321). -/
def islStart : Nat := 0
def islRun : Nat := 1
def islFault : Nat := 2

def Saf.ch (f : Saf) (c : Nat) : SafCh := if c = 0 then f.chA else f.chB
def Saf.setCh (f : Saf) (c : Nat) (x : SafCh) : Saf := if c = 0 then { f with chA := x } else { f with chB := x }
def SafCh.conn (c : SafCh) (j : Nat) : Sfl := Tab.get (fun _ => Sfl.init) c.sfl j
def SafCh.setConn (c : SafCh) (j : Nat) (x : Sfl) : SafCh := { c with sfl := Tab.put (fun _ => Sfl.init) c.sfl j x }

def State.siCfg (s : State) (n : Nat) : Word := s.word (K.SI_CFG n)
def State.soCfg (s : State) (k : Nat) : Word := s.word (K.SO_CFG k)
def State.sflCfg (s : State) (j : Nat) : Word := s.word (K.SFL_CFG j)

/-- Outputs energised: both channels' switches on (R331). -/
def Saf.energised (f : Saf) : Nat := f.chA.cmd &&& f.chB.cmd

/-- An input that a channel holds demanded (R324) (DEDUCED, log entry 46). -/
def State.inputDemanded (s : State) (c : SafCh) (n : Nat) : Bool :=
  W.SI_CFG_EN (s.siCfg n) && (!c.lineA.testBit n || !c.lineB.testBit n || c.discF.testBit n || c.testF.testBit n)

/-- Mask of the inputs a channel holds demanded. -/
def State.demandedBy (s : State) (c : SafCh) : Nat := maskOf 8 (s.inputDemanded c)

/-- Connection `j` is consumed and in use. -/
def State.consumed (s : State) (j : Nat) : Bool := W.SFL_CFG_EN (s.sflCfg j) && !W.SFL_CFG_DIR (s.sflCfg j)

/-- Connection `j` is produced and in use. -/
def State.produced (s : State) (j : Nat) : Bool := W.SFL_CFG_EN (s.sflCfg j) && W.SFL_CFG_DIR (s.sflCfg j)

/-- Permit bit `b` of a consumed connection (R337): 0 while faulted, in RESYNC, or with QUAL bit 0 or 1 at 0
(DEDUCED, log entry 46). -/
def Sfl.permit (x : Sfl) (b : Nat) : Bool :=
  x.run && !x.fault && x.qual.getLsbD 0 && x.qual.getLsbD 1 && x.safe.getLsbD b

/-- STB is demanded at a channel (R328). -/
def State.stbDemand (s : State) (c : SafCh) : Bool :=
  (List.range 8).any fun n =>
    (W.SI_CFG_STB (s.siCfg n) && s.inputDemanded c n)
      || (s.consumed n && W.SFL_CFG_STB (s.sflCfg n) && !(c.conn n).permit 1)

/-- SPB is demanded at a channel (R328): by its own sources or by STB. -/
def State.spbDemand (s : State) (c : SafCh) : Bool :=
  s.stbDemand c || (List.range 8).any fun n =>
    (W.SI_CFG_SPB (s.siCfg n) && s.inputDemanded c n)
      || (s.consumed n && W.SFL_CFG_SPB (s.sflCfg n) && !(c.conn n).permit 0)

/-- Stacks a channel's block lines hold (R321, R328, R329). -/
def State.channelMask (s : State) (c : SafCh) : Nat :=
  if s.saf.island ≠ islRun then 0xFFFF else
  let stb := W.STB_CFG_MASK (s.word K.STB_CFG)
  (if c.spb = fnPermit then 0 else W.SPB_CFG_MASK (s.word K.SPB_CFG) ||| stb) ||| (if c.stb = fnPermit then 0 else stb)

/-- Stacks the island holds blocked: either channel drives (R329). -/
def State.islandMask (s : State) : Nat := s.channelMask s.saf.chA ||| s.channelMask s.saf.chB

/-- Every stack that is blocked (R299, R329, R360). -/
def State.blocked (s : State) : Nat := s.eventBlocked ||| s.islandMask

/-- The island requests SAFE_HOLD (R322) (DEDUCED, log entry 46). -/
def State.safeHoldRequest (s : State) : Bool :=
  decide (s.saf.island = islFault) || decide (s.saf.chA.stb ≠ fnPermit) || decide (s.saf.chB.stb ≠ fnPermit)

/-- Outputs a channel commands on (R331); none in a power-down (R53). -/
def State.commands (s : State) (c : SafCh) : Nat :=
  if s.saf.island ≠ islRun ∨ !s.saf.sovOk ∨ s.saf.sovLost ∨ s.sys.stopping then 0 else
  maskOf 4 fun k =>
    W.SO_CFG_EN (s.soCfg k) && !s.saf.ovl.testBit k
      && (!W.SO_CFG_SPB (s.soCfg k) || (decide (c.spb = fnPermit) && decide (c.stb = fnPermit)))
      && (!W.SO_CFG_STB (s.soCfg k) || decide (c.stb = fnPermit))

/-- Both channels' output commands and, for stacks newly held, the block (R329, R331). `was` is the mask held
before. An output going off loses its test pulses, and one that is energised again starts a test period (R333). -/
def State.safDrive (s : State) (was t : Nat) : State :=
  let f := s.saf
  let f := { f with chA := { f.chA with cmd := s.commands f.chA }, chB := { f.chB with cmd := s.commands f.chB } }
  let tpAt := ((List.range 4).filter (mclr f.energised s.saf.energised).testBit).foldl
    (fun (m : Tab Nat) (k : Nat) => Tab.put (fun _ => 0) m k s.mono) f.tpAt
  let s := { s with saf := { f with
    tp := f.tp.filter fun p => f.energised.testBit p.1, tpAt := tpAt, tpB := f.tpB &&& f.energised } }
  let new := mclr s.islandMask was
  if new = 0 then s else s.block new t

/-- A channel evaluates its functions (R328): a demand present enters DEMAND, with its event (DEDUCED, log entry 46). -/
def State.safEval (s : State) (c t : Nat) : State :=
  if s.saf.island ≠ islRun then s else
  let was := s.islandMask
  let x := s.saf.ch c
  let stb := s.stbDemand x
  let spb := s.spbDemand x
  let x' := { x with
    stb := if stb then fnDemand else x.stb, stbAt := if stb then s.mono else x.stbAt,
    spb := if spb then fnDemand else x.spb, spbAt := if spb then s.mono else x.spbAt }
  let s := { s with saf := s.saf.setCh c x' }
  let s := if spb && decide (x.spb ≠ fnDemand) then s.safRaise c 0x0A01 0 t else s
  let s := if stb && decide (x.stb ≠ fnDemand) then s.safRaise c 0x0A02 0 t else s
  s.safDrive was t

/-- The island enters FAULT (R321): every function demanded, every output off, all stacks held blocked. -/
def State.safFault (s : State) (c t : Nat) : State :=
  let was := s.islandMask
  let run := decide (s.saf.island = islRun)
  let f := s.saf
  let new2 := run && decide (f.chA.stb ≠ fnDemand ∨ f.chB.stb ≠ fnDemand)
  let new1 := run && decide (f.chA.spb ≠ fnDemand ∨ f.chB.spb ≠ fnDemand)
  let s := { s with saf := { f with
    island := islFault, chA := { f.chA with stb := fnDemand, spb := fnDemand },
    chB := { f.chB with stb := fnDemand, spb := fnDemand } } }
  let s := if new1 then s.safRaise c 0x0A01 0 t else s
  let s := if new2 then s.safRaise c 0x0A02 0 t else s
  s.safDrive was t

/-- The SRST reading of a sample (R334): the time it began and, after 100 ms of OFF, its rise (DEDUCED, log entry 46). -/
def SafCh.sampleReset (x : SafCh) (on : Bool) (now : Nat) : SafCh :=
  if x.srst = on then x else
  { x with
    srst := on, srstAt := now,
    srstRise := if on ∧ x.srstAt + 10000 ≤ now then some now else none }

/-- R323, R324: a channel samples its lines every 100 µs. In a mask window it keeps the reading from before
(R327) (DEDUCED, log entry 46). -/
def execSafetyInputSample (ch : Fin 2) (a b : Byte) (srst : Bool) (t : Tick) (s : State) :
    Host.Outcome State Fault Refusal :=
  let s := s.silent
  let x := s.saf.ch ch
  let other := if s.saf.pulse = some 0 then x.beforeB &&& (255 ^^^ b.toNat)
    else if s.saf.pulse = some 1 then x.beforeA &&& (255 ^^^ a.toNat) else 0
  let x := { x.sampleReset srst s.mono with
    rawA := a.toNat, rawB := b.toNat,
    lineA := if x.maskA = 0 then a.toNat else x.lineA,
    lineB := if x.maskB = 0 then b.toNat else x.lineB,
    maskA := x.maskA - 1, maskB := x.maskB - 1, pulseOff := x.pulseOff ||| other }
  let s := { s with saf := s.saf.setCh ch x }
  let s := if srst then s else s.clear 0x0A0E 0 t
  .next (s.safEval ch t)

/-- One input of a discrepancy sample (R325, R326). -/
def State.discInput (s : State) (ch t n : Nat) : State :=
  let x := s.saf.ch ch
  let a := x.lineA.testBit n
  let b := x.lineB.testBit n
  let k := if a = b then 0 else Tab.get (fun _ => 0) x.disc n + 1
  let ovr := W.SI_CFG_EN (s.siCfg n) && decide (W.SI_CFG_DISC (s.siCfg n) < k)
  let off := (x.offSeen.testBit n || (!a && !b)) && x.discF.testBit n
  let on := (x.onSeen.testBit n || (x.offSeen.testBit n && a && b)) && x.discF.testBit n
  let x := { x with
    disc := Tab.put (fun _ => 0) x.disc n k,
    discF := mset x.discF n (x.discF.testBit n || ovr),
    offSeen := mset x.offSeen n (off && !ovr), onSeen := mset x.onSeen n (on && !ovr) }
  let s := { s with saf := s.saf.setCh ch x }
  if ovr then s.safRaise ch 0x0A03 n t else s

/-- R325, R326: a discrepancy sample, once per ms. -/
def execDiscrepancySample (ch : Fin 2) (t : Tick) (s : State) : Host.Outcome State Fault Refusal :=
  let s := s.silent
  .next (((List.range 8).foldl (fun (s : State) (n : Nat) => s.discInput ch t n) s).safEval ch t)

/-- A test pulse of a source is due (R327): TPA's each period, TPB's half a period after TPA's. -/
def State.inPulseDue (s : State) (src : Nat) : Bool :=
  let per := W.SAF_CTL_IN_TP_PER (s.word K.SAF_CTL) * 10000
  !s.saf.pulse.isSome &&
    if src = 0 then decide (s.saf.tpaAt + per ≤ s.mono) else s.saf.tpbDue && decide (s.saf.tpaAt + per / 2 ≤ s.mono)

/-- R327: TPA or TPB switches off. The mask window ends 200 µs after the pulse. -/
def execInputTestPulseStart (src : Fin 2) (s : State) : Host.Outcome State Fault Refusal :=
  let s := s.silent
  if !s.inPulseDue src then .next s else
  let n := W.SAF_CTL_TP_W (s.word K.SAF_CTL) + 1 + 2
  let go (x : SafCh) : SafCh :=
    let x := { x with beforeA := x.lineA, beforeB := x.lineB, pulseOff := 0 }
    if (src : Nat) = 0 then { x with maskA := n } else { x with maskB := n }
  .next { s with saf := { s.saf with
    pulse := some src, chA := go s.saf.chA, chB := go s.saf.chB,
    tpaAt := if (src : Nat) = 0 then s.mono else s.saf.tpaAt, tpbDue := decide ((src : Nat) = 0) } }

/-- The line checks of a pulse at one channel (R327): inputs checked, inputs failed. -/
def State.pulseCheck (s : State) (x : SafCh) (src : Nat) : Nat × Nat :=
  let own := if src = 0 then x.beforeA else x.beforeB
  let raw := if src = 0 then x.rawA else x.rawB
  let tested := maskOf 8 fun n => W.SI_CFG_EN (s.siCfg n) && own.testBit n
  (tested, tested &&& (raw ||| x.pulseOff))

/-- R327: the pulse ends and its line checks are judged. -/
def execInputTestPulseEnd (src : Fin 2) (t : Tick) (s : State) : Host.Outcome State Fault Refusal :=
  let s := s.silent
  if s.saf.pulse ≠ some (src : Nat) then .next s else
  let judge (s : State) (ch : Nat) : State :=
    let x := s.saf.ch ch
    let (tested, failed) := s.pulseCheck x src
    let x := { x with
      testF := x.testF ||| failed, testOk := mclr (x.testOk ||| (mclr tested failed &&& x.testF)) failed,
      maskA := if (src : Nat) = 0 then 2 else x.maskA, maskB := if (src : Nat) = 1 then 2 else x.maskB, pulseOff := 0 }
    let s := { s with saf := s.saf.setCh ch x }
    let s := ((List.range 8).filter failed.testBit).foldl (fun (s : State) (n : Nat) => s.safRaise ch 0x0A04 n t) s
    s.safEval ch t
  let s := judge (judge s 0) 1
  .next { s with saf := { s.saf with pulse := none } }

/-- R328: every demand source of a function (0 SPB, 1 STB) has been gone for 10 ms (DESIGN CHOICE, log entry 6). -/
def execFunctionLockTimer (ch f : Fin 2) (s : State) : Host.Outcome State Fault Refusal :=
  let s := s.silent
  if s.saf.island ≠ islRun then .next s else
  let x := s.saf.ch ch
  let was := s.islandMask
  let x :=
    if (f : Nat) = 0 then
      if x.spb = fnDemand ∧ !s.spbDemand x ∧ x.spbAt + 1000 ≤ s.mono then { x with spb := fnLocked } else x
    else if x.stb = fnDemand ∧ !s.stbDemand x ∧ x.stbAt + 1000 ≤ s.mono then { x with stb := fnLocked } else x
  .next (({ s with saf := s.saf.setCh ch x }).safDrive was 0)

/-- Lane islands whose ports carry a string of a stack in a mask (R329). -/
def State.islandsOf (s : State) (mask : Nat) : Nat :=
  maskOf 8 fun j => s.strings.any fun p =>
    mask.testBit (W.PORT_CFG_STACK (s.portCfg p)) && (s.usedPorts p).any fun q => decide (q / 8 = j)

/-- R330: no confirmation from a lane island within 2 µs: its transmitter supply is cut until the next
start. -/
def execBlockConfirmTimeout (isl : Fin 8) (ch : Fin 2) (t : Tick) (s : State) : Host.Outcome State Fault Refusal :=
  let s := s.silent
  if !(s.islandsOf (s.channelMask (s.saf.ch ch))).testBit isl then .next s else
  let s := (List.range 8).foldl (fun (s : State) (i : Nat) =>
    s.setLane (8 * (isl : Nat) + i) { s.lane (8 * (isl : Nat) + i) with cut := true }) s
  .next ((s.safRaise ch 0x0A0C isl t).safFault ch t)

/-- The readback of one output against a channel's command (R331); voltages in 0.1 V (DEDUCED, log entry 46). -/
def readbackBad (on : Bool) (hs ls sov : Nat) : Bool :=
  if on then decide (hs + 20 < sov) || decide (20 < ls)
  else decide (120 < hs) || (decide (ls + 120 < sov) && decide (120 < hs))

/-- R331: a channel reads back both pins of each output; the third faulty readback in a row is a fault. An
output under a test pulse is judged at the end of the pulse (R332) (DEDUCED, log entry 46). -/
def execOutputReadback (ch : Fin 2) (pins : List (BitVec 16 × BitVec 16)) (sov : BitVec 16) (t : Tick) (s : State) :
    Host.Outcome State Fault Refusal :=
  let s := s.silent
  let x := s.saf.ch ch
  let pin (k : Nat) : Nat × Nat := match pins[k]? with | some p => (p.1.toNat, p.2.toNat) | none => (0, 0)
  let busy (k : Nat) : Bool := decide (Tab.get (fun _ => 0) s.saf.tp k ≠ 0)
  let next (k : Nat) : Nat :=
    if !busy k && readbackBad (x.cmd.testBit k) (pin k).1 (pin k).2 sov.toNat then
      Tab.get (fun _ => 0) x.bad k + 1
    else 0
  let bad := (List.range 4).foldl (fun (b : Tab Nat) (k : Nat) => Tab.put (fun _ => 0) b k (next k)) x.bad
  let x := { x with
    bad := bad, hsOn := maskOf 4 fun k => decide (120 < (pin k).1),
    lsOn := maskOf 4 fun k => decide ((pin k).2 + 120 < sov.toNat) }
  let s := { s with saf := s.saf.setCh ch x }
  let failed := (List.range 4).filter fun k => decide (3 ≤ Tab.get (fun _ => 0) bad k)
  if failed = [] then .next s else
  let s := failed.foldl (fun (s : State) (k : Nat) => s.safRaise ch 0x0A05 k t) s
  .next (s.safFault ch t)

/-- R331: the switch's own limit turned an output off; an overload is latched. -/
def execOutputOverload (k : Fin 4) (ch : Fin 2) (t : Tick) (s : State) : Host.Outcome State Fault Refusal :=
  let s := s.silent
  if !s.saf.energised.testBit k then .next s else
  let was := s.islandMask
  let s := { s with saf := { s.saf with
    ovl := mset s.saf.ovl k true, ovlAt := Tab.put (fun _ => 0) s.saf.ovlAt k s.mono } }
  .next ((s.safRaise ch 0x0A06 k t).safDrive was t)

/-- R331: SOV leaves 18–30 V; the outputs go off and stay off. -/
def execSovLoss (t : Tick) (s : State) : Host.Outcome State Fault Refusal :=
  let s := s.silent
  let was := s.islandMask
  let s := { s with saf := { s.saf with sovOk := false, sovLost := true } }
  .next ((s.safRaise 2 0x0A07 0 t).safDrive was t)

/-- R331: SOV is within 18–30 V again (DEDUCED, log entry 46). -/
def execSovReturn (s : State) : Host.Outcome State Fault Refusal :=
  let s := s.silent
  if s.saf.sovOk then .next s else
  let was := s.islandMask
  .next (({ s with saf := { s.saf with sovOk := true, sovAt := s.mono } }).safDrive was 0)

/-- A test pulse of an energised output with TEST = 1 is due (R332, R333): channel A's one period after the last or
after the output was energised, channel B's 10 ms after channel A's. -/
def State.outPulseDue (s : State) (k ch : Nat) : Bool :=
  let at0 := Tab.get (fun _ => 0) s.saf.tpAt k
  s.saf.energised.testBit k && W.SO_CFG_TEST (s.soCfg k) &&
    if ch = 0 then decide (at0 + W.SAF_CTL_SO_TP_PER (s.word K.SAF_CTL) * 100000 ≤ s.mono)
    else s.saf.tpB.testBit k && decide (at0 + 1000 ≤ s.mono)

/-- R332: a test pulse of an energised output: channel A's high side, then channel B's low side. -/
def execOutputTestPulse (k : Fin 4) (ch : Fin 2) (s : State) : Host.Outcome State Fault Refusal :=
  let s := s.silent
  if s.outPulseDue k ch then
    .next { s with saf := { s.saf with
      tp := Tab.put (fun _ => 0) s.saf.tp k ((ch : Nat) + 1),
      tpAt := if (ch : Nat) = 0 then Tab.put (fun _ => 0) s.saf.tpAt k s.mono else s.saf.tpAt,
      tpB := mset s.saf.tpB k (decide ((ch : Nat) = 0)) } }
  else .next s

/-- R332, R333: the pulse ends; `off` tells whether the readback showed the switch off. A pulse that a demand
overtook is discarded. -/
def execOutputTestPulseEnd (k : Fin 4) (ch : Fin 2) (off : Bool) (t : Tick) (s : State) :
    Host.Outcome State Fault Refusal :=
  let s := s.silent
  if Tab.get (fun _ => 0) s.saf.tp k ≠ (ch : Nat) + 1 then .next s else
  let s := { s with saf := { s.saf with tp := Tab.put (fun _ => 0) s.saf.tp k 0 } }
  .next (if off then s else (s.safRaise ch 0x0A05 k t).safFault ch t)

/-- What a reset clears and releases at one channel (R326, R327, R334, R337). -/
def SafCh.reset1 (x : SafCh) (spb stb : Bool) : SafCh :=
  { x with
    spb := if spb then fnPermit else x.spb, stb := if stb then fnPermit else x.stb,
    discF := mclr x.discF x.onSeen, offSeen := mclr x.offSeen x.onSeen, onSeen := 0,
    testF := mclr x.testF x.testOk, testOk := 0,
    sfl := (List.range 8).foldl (fun (t : Tab Sfl) (j : Nat) =>
      let y := Tab.get (fun _ => Sfl.init) t j
      Tab.put (fun _ => Sfl.init) t j { y with latched := false }) x.sfl }

/-- Instances of an event cleared where a test holds. -/
def State.clearWhere (s : State) (code t : Nat) (p : Nat → Bool) : State :=
  (s.evt.active.filter fun e => decide (e.code = code) && p e.inst).foldl
    (fun (s : State) (e : ActEv) => s.clear code e.inst t) s

/-- SRST stands as RST_MODE asks (R334): a rise after 100 ms of OFF that both channels saw within 10 ms, or ON for
300 ms and for 300 ms since the last reset (DEDUCED, log entry 46). -/
def State.resetAsked (s : State) : Bool :=
  let a := s.saf.chA
  let b := s.saf.chB
  a.srst && b.srst &&
    if W.SAF_CTL_RST_MODE (s.word K.SAF_CTL) then
      decide (max (max a.srstAt b.srstAt) s.saf.rstAt + 30000 ≤ s.mono)
    else match a.srstRise, b.srstRise with
      | some m, some n => decide (m ≤ n + 1000 ∧ n ≤ m + 1000)
      | _, _ => false

/-- R334: a reset is accepted as RST_MODE asks. It acts on functions in LOCKED and on latched faults whose clearing
conditions are met, and has no effect in START or FAULT. -/
def execSafetyReset (t : Tick) (s : State) : Host.Outcome State Fault Refusal :=
  let s := s.silent
  if s.saf.island ≠ islRun ∨ s.isActive 0x0A0E 0 ∨ !s.resetAsked then .next s else
  let was := s.islandMask
  let f := { s.saf with
    rstAt := s.mono, chA := { s.saf.chA with srstRise := none }, chB := { s.saf.chB with srstRise := none } }
  let spbL := f.chA.spb ≠ fnDemand ∧ f.chB.spb ≠ fnDemand
  let stbL := f.chA.stb ≠ fnDemand ∧ f.chB.stb ≠ fnDemand
  let a := f.chA.reset1 spbL stbL
  let b := f.chB.reset1 spbL stbL
  let ovlOk (k : Nat) : Bool := decide (Tab.get (fun _ => 0) f.ovlAt k + 100000 ≤ s.mono)
  let sov := f.sovLost && !(f.sovOk && decide (f.sovAt + 100000 ≤ s.mono))
  let s := { s with saf := { f with
    chA := a, chB := b, ovl := mclr f.ovl (maskOf 4 ovlOk), sovLost := sov } }
  let s := if spbL then s.clear 0x0A01 0 t else s
  let s := if stbL then s.clear 0x0A02 0 t else s
  let s := s.clearWhere 0x0A03 t fun n => !(a.discF ||| b.discF).testBit n
  let s := s.clearWhere 0x0A04 t fun n => !(a.testF ||| b.testF).testBit n
  let s := s.clearWhere 0x0A06 t fun k => !s.saf.ovl.testBit k
  let s := if sov then s else s.clear 0x0A07 0 t
  let inRun (j : Nat) : Bool := (a.conn j).run && (b.conn j).run
  let s := (s.clearWhere 0x0A08 t inRun).clearWhere 0x0A09 t inRun
  .next (s.safDrive was t)

/-- R334: under RST_MODE 0 SRST has read ON for more than 10 s. -/
def execResetStuckTimer (t : Tick) (s : State) : Host.Outcome State Fault Refusal :=
  let s := s.silent
  let stuck (x : SafCh) : Bool := x.srst && decide (x.srstAt + 1000000 < s.mono)
  .next (if !W.SAF_CTL_RST_MODE (s.word K.SAF_CTL) && (stuck s.saf.chA || stuck s.saf.chB) then s.raise 0x0A0E 0 0 t
    else s)

/-- Faults latched by either channel are latched by both (R320). -/
def SafCh.share (x y : SafCh) : SafCh :=
  { x with
    discF := x.discF ||| y.discF, testF := x.testF ||| y.testF,
    sfl := (List.range 8).foldl (fun (t : Tab Sfl) (j : Nat) =>
      let c := Tab.get (fun _ => Sfl.init) t j
      let d := y.conn j
      Tab.put (fun _ => Sfl.init) t j
        { c with fault := c.fault || d.fault, latched := c.latched || d.latched, run := c.run && !(d.fault && !c.fault) })
      x.sfl }

/-- R320: the cross-link exchange, once per ms; `clockOk` is the channels' clock check. -/
def execCrossLinkExchange (clockOk : Bool) (t : Tick) (s : State) : Host.Outcome State Fault Refusal :=
  let s := s.silent
  let f := s.saf
  let differ := decide (f.chA.spb ≠ f.chB.spb ∨ f.chA.stb ≠ f.chB.stb ∨ f.chA.cmd ≠ f.chB.cmd)
  let n := if differ then f.crossRun + 1 else 0
  let s := { s with saf := { f with chA := f.chA.share f.chB, chB := f.chB.share f.chA, crossRun := n, fOpen := false } }
  let s := if 3 ≤ n then (s.safRaise 2 0x0A0A 0 t).safFault 2 t else s
  let s := if clockOk then s else (s.safRaise 2 0x0A0B 0 t).safFault 2 t
  .next ((s.safEval 0 t).safEval 1 t)

/-- A connection returns to RESYNC; a fault stays until RUN is reached again (R337). -/
def Sfl.resync (x : Sfl) (now : Nat) : Sfl := { x with run := false, last := none, since := now }

/-- Functions LOCKED, in RUN, and consumed connections in RESYNC, produced ones from SEQ 1: at the entry into RUN
and after a commit of page 0x0A. In START and FAULT every function stays demanded (R321, R336, R342). -/
def State.safLock (s : State) : State :=
  let fn := if s.saf.island = islRun then fnLocked else fnDemand
  let go (x : SafCh) : SafCh := { x with
    spb := fn, stb := fn,
    sfl := (List.range 8).foldl (fun (m : Tab Sfl) (j : Nat) =>
      Tab.put (fun _ => Sfl.init) m j ((x.conn j).resync s.mono)) [] }
  let was := s.islandMask
  ({ s with saf := { s.saf with chA := go s.saf.chA, chB := go s.saf.chB, sent := [], sentAt := [] } }).safDrive was 0

/-- R321, R473: with the start-up tests passed and BOOT complete on a verified set the island enters RUN, every function
LOCKED; in a module that stays in BOOT it stays in START (DEDUCED, log entry 46). -/
def State.safRun (s : State) (t : Nat) : State :=
  if s.saf.island ≠ islStart ∨ !s.saf.tested ∨ !s.boot.entered then s else
  let s := ({ s with saf := { s.saf with island := islRun } }).safLock
  (s.safEval 0 t).safEval 1 t

/-- R321: the start-up tests end: outputs, input pulses, clock cross-check. An input that fails its pulse leaves the
island in START until a later end of the tests passes it (DEDUCED, log entry 46). -/
def execSafetyStartTestsDone (outBad : BitVec 4) (inBad : Byte) (clockOk : Bool) (t : Tick) (s : State) :
    Host.Outcome State Fault Refusal :=
  let s := s.silent
  if s.saf.island ≠ islStart ∨ !s.sys.powered then .next s else
  let failed := (List.range 8).filter fun n => inBad.getLsbD n && W.SI_CFG_EN (s.siCfg n)
  let m := failed.foldl (fun m n => m ||| (1 <<< n)) 0
  let go (x : SafCh) : SafCh := { x with testF := x.testF ||| m, testOk := mclr (x.testOk ||| x.testF) m }
  let s := { s with saf := { s.saf with chA := go s.saf.chA, chB := go s.saf.chB } }
  let s := failed.foldl (fun (s : State) (n : Nat) => s.safRaise 2 0x0A04 n t) s
  let outs := (List.range 4).filter fun k => outBad.getLsbD k && W.SO_CFG_EN (s.soCfg k)
  if outs ≠ [] then
    .next ((outs.foldl (fun (s : State) (k : Nat) => s.safRaise 2 0x0A05 k t) s).safFault 2 t)
  else if !clockOk then .next ((s.safRaise 2 0x0A0B 0 t).safFault 2 t)
  else .next (({ s with saf := { s.saf with tested := failed.isEmpty } }).safRun t)

/-- A safe frame is valid (R337): CRC, KIND and reserved bytes. -/
def safeFrameOk (f : List Byte) : Bool :=
  decide (f.length = 24) && decide (BitVec.ofNat 32 (beAt f 20 4) = crcSafe (f.take 20))
    && decide (beAt f 10 1 = 1) && decide (beAt f 11 1 = 0) && decide (beAt f 16 4 = 0)

/-- R337, R338: a channel checks the frame that it reads in the mailbox of consumed connection `j`; `frame` is that frame,
and a command with another one has no effect (DEDUCED, log entry 46). -/
def execSafeFrameReceive (j : Fin 8) (ch : Fin 2) (frame : List Byte) (t : Tick) (s : State) :
    Host.Outcome State Fault Refusal :=
  let s := s.silent
  if frame ≠ Tab.get (fun _ => []) s.net.mail j then .next s else
  if !s.consumed j || !safeFrameOk frame then .next s else
  let x := s.saf.ch ch
  let y := x.conn j
  let put (y : Sfl) : State := { s with saf := s.saf.setCh ch (x.setConn j y) }
  let sq : Word := BitVec.ofNat 32 (beAt frame 4 4)
  let data (y : Sfl) : Sfl := { y with
    last := some sq, since := s.mono, safe := BitVec.ofNat 16 (beAt frame 12 2), qual := BitVec.ofNat 16 (beAt frame 14 2) }
  if BitVec.ofNat 32 (beAt frame 0 4) ≠ s.word (K.SFL_ID j) ∨ beAt frame 8 2 ≠ W.SFL_CFG_TEXP (s.sflCfg j) then
    .next (((put { y.resync s.mono with fault := true, latched := false }).safRaise ch 0x0A09 j t).safEval ch t)
  else match y.last with
  | none => .next ((put { y with last := some sq }).safEval ch t)
  | some l =>
    let d := (sq - l).toNat
    if y.run then
      if 1 ≤ d ∧ d ≤ 16 then .next ((put (data y)).safEval ch t) else .next s
    else if d = 1 then
      .next ((put { data y with run := true, latched := y.latched || y.fault, fault := false }).safEval ch t)
    else .next (put { y with last := some sq })

/-- SAFE bits of a produced frame as one channel builds them (R336). -/
def State.safeBits (s : State) (x : SafCh) : Nat :=
  if s.saf.island ≠ islRun then 0 else
  b2n (decide (x.spb = fnPermit)) + b2n (decide (x.stb = fnPermit)) * 2
    + (255 ^^^ s.demandedBy x) * 4 + (s.saf.energised % 16) * 1024 + 32768

/-- A produced frame (R335, R336). -/
def State.safeFrame (s : State) (x : SafCh) (j : Nat) (sq : Word) : List Byte :=
  let body := wordBytes (s.word (K.SFL_ID j)) ++ wordBytes sq ++ be 2 (W.SFL_CFG_TEXP (s.sflCfg j)) ++ [1, 0]
    ++ be 2 (s.safeBits x) ++ be 2 0xBFFF ++ [0, 0, 0, 0]
  body ++ wordBytes (crcSafe body)

/-- The period of a produced connection has elapsed (R336). -/
def State.frameDue (s : State) (j : Nat) : Bool :=
  decide (Tab.get (fun _ => (0 : Word)) s.saf.sent j = 0 ∨
    Tab.get (fun _ => 0) s.saf.sentAt j + max 1 (W.SFL_CFG_TEXP (s.sflCfg j) / 4) * 100 ≤ s.mono)

/-- R336: a produced connection sends one frame each period; it leaves only when both channels built the same bytes. -/
def execSafeFrameProduce (j : Fin 8) (t : Tick) (s : State) : Host.Outcome State Fault Refusal :=
  let s := s.silent
  if !s.produced j || !s.frameDue j then .next s else
  let sq := Tab.get (fun _ => (0 : Word)) s.saf.sent j + 1
  let a := s.safeFrame s.saf.chA j sq
  let s' := { s with saf := { s.saf with
    sent := Tab.put (fun _ => 0) s.saf.sent j sq, sentAt := Tab.put (fun _ => 0) s.saf.sentAt j s.mono } }
  if a = s.safeFrame s.saf.chB j sq then .next ((s'.emit (.safe j a)).sendSafe j t a)
  else .next ((s.safRaise 2 0x0A0A 0 t).safFault 2 t)

/-- R337: no frame accepted for TEXP: the connection is faulted and returns to RESYNC. -/
def execSflWatchdogExpiry (j : Fin 8) (ch : Fin 2) (t : Tick) (s : State) : Host.Outcome State Fault Refusal :=
  let s := s.silent
  let x := s.saf.ch ch
  let y := x.conn j
  if !s.consumed j || decide (s.mono < y.since + W.SFL_CFG_TEXP (s.sflCfg j) * 100) then .next s else
  let s := { s with saf := s.saf.setCh ch (x.setConn j { y.resync s.mono with fault := true, latched := false }) }
  .next ((s.safRaise ch 0x0A08 j t).safEval ch t)

end Sys2Proof.Machine
end

