-- ==== Sys2Proof/Machine/Gens.lean ====
section
/-! DEFINITION. Ductus's generator sets (R169–R175, R186–R190, R199–R202): the words a target is built with,
staging, the load instants with their clamps, and the stack position. -/

namespace Sys2Proof.Machine

def State.dcell (s : State) (ci : Nat) : Duct := Tab.get (fun _ => Duct.init) s.duct.cells ci
def State.setDcell (s : State) (ci : Nat) (d : Duct) : State :=
  { s with duct := { s.duct with cells := Tab.put (fun _ => Duct.init) s.duct.cells ci d } }
def State.dstack (s : State) (k : Nat) : DStack := Tab.get (fun _ => DStack.init) s.duct.stks k
def State.setDstack (s : State) (k : Nat) (d : DStack) : State :=
  { s with duct := { s.duct with stks := Tab.put (fun _ => DStack.init) s.duct.stks k d } }
def State.post (s : State) (k : Nat) : StackIn := Tab.get stackIn0 s.duct.posts k
def State.setPost (s : State) (k : Nat) (x : StackIn) : State :=
  { s with duct := { s.duct with posts := Tab.put stackIn0 s.duct.posts k x } }
def Duct.leg (d : Duct) (k : Nat) : Leg := Tab.get (fun _ => Leg.init) d.legs k
def Duct.setLeg (d : Duct) (k : Nat) (l : Leg) : Duct := { d with legs := Tab.put (fun _ => Leg.init) d.legs k l }
def State.sch (s : State) (ci : Nat) : SchCell := Tab.get (fun _ => SchCell.init) s.sched.cells ci
def State.setSch (s : State) (ci : Nat) (x : SchCell) : State :=
  { s with sched := { s.sched with cells := Tab.put (fun _ => SchCell.init) s.sched.cells ci x } }
def State.schStack (s : State) (k : Nat) : SchStack := Tab.get (fun _ => SchStack.init) s.sched.stks k
def State.setSchStack (s : State) (k : Nat) (x : SchStack) : State :=
  { s with sched := { s.sched with stks := Tab.put (fun _ => SchStack.init) s.sched.stks k x } }
def State.supSw (s : State) (j : Nat) : SupSw := Tab.get (fun _ => SupSw.init) s.sup.sw j
def State.setSupSw (s : State) (j : Nat) (x : SupSw) : State :=
  { s with sup := { s.sup with sw := Tab.put (fun _ => SupSw.init) s.sup.sw j x } }
def State.supCell (s : State) (ci : Nat) : SupCell := Tab.get (fun _ => SupCell.init) s.sup.cells ci
def State.setSupCell (s : State) (ci : Nat) (x : SupCell) : State :=
  { s with sup := { s.sup with cells := Tab.put (fun _ => SupCell.init) s.sup.cells ci x } }

/-- Modulation modes of STK_MODE.MODE (R200). -/
def mdNls : Nat := 1
def mdPsc : Nat := 2
def mdDps : Nat := 3

/-- Records of a holder's commit wait as this kind on the standby (DESIGN CHOICE, log entry 15). -/
def rkCommit : Nat := 11

/-- A word as the target of elapsed cycle `T` is built with: a commit pending for a boundary at or before it
counts (R172), the holder's on a standby (R359). -/
def State.wordAt (s : State) (T k : Nat) : Word :=
  let near := s.pairOps.records.filter fun r => decide (r.kind = rkCommit ∧ r.effect ≤ T ∧ key r.page r.offset = k)
  let base := match near.getLast? with | some r => r.value | none => s.word k
  match s.cmd.txn with
  | some x =>
    match x.due with
    | some d => if d ≤ T then (match x.staged.find? (fun p => p.1 = k) with | some p => p.2 | none => base) else base
    | none => base
  | none => base

/-- A stack's configuration in the build (R200). -/
structure StkCfg where
  mode : Nat
  kind : Nat
  stagger : Nat
  load : Nat
  src : Nat
  stretch : Bool
  hold : Bool
  fb : Nat
  dt : List Nat
  minp : Nat
  carryMax : Nat
  phiMax : Nat
  trimMax : Nat
deriving DecidableEq, Repr

/-- Legs present by cell type (R13). -/
def legCount (typ : Nat) : Nat := if typ = 1 then 1 else if typ = 2 then 2 else if typ = 3 then 4 else 0

def State.stkCfg (s : State) (k T : Nat) : StkCfg :=
  let m := s.wordAt T (K.STK_MODE k)
  let a := s.wordAt T (K.STK_DT01 k)
  let b := s.wordAt T (K.STK_DT23 k)
  let p := s.wordAt T (K.STK_PULSE k)
  let l := s.wordAt T (K.STK_LIM k)
  { mode := W.STK_MODE_MODE m, kind := W.STK_MODE_KIND m, stagger := W.STK_MODE_STAGGER m, load := W.STK_MODE_LOAD m,
    src := W.STK_MODE_SRC m, stretch := W.STK_MODE_STRETCH m, hold := W.STK_MODE_HOLD m, fb := W.STK_MODE_FB_CYC m,
    dt := [8 * W.STK_DT01_DT0 a, 8 * W.STK_DT01_DT1 a, 8 * W.STK_DT23_DT2 b, 8 * W.STK_DT23_DT3 b],
    minp := 8 * W.STK_PULSE_MINP p, carryMax := 64 * W.STK_PULSE_CARRY_MAX p, phiMax := W.STK_LIM_PHI_MAX l,
    trimMax := W.STK_LIM_TRIM_MAX l }

/-- DT_k and S_k = DT_k + MINP (R176, R181). -/
def StkCfg.dtOf (c : StkCfg) (k : Nat) : Nat := (c.dt[k]?).getD 0
def StkCfg.space (c : StkCfg) (k : Nat) : Nat := c.dtOf k + c.minp

/-- A fraction of the period in ticks (R186). -/
def ticksOf (f period : Nat) : Nat := f * period / 65536

/-! ## Staging -/

/-- Fields staged over a set: mask bits 4–0 are PERIOD, DUTY, PHI, D1, D2. -/
def GenSet.over (g h : GenSet) (mask : Nat) : GenSet :=
  { period := if mask.testBit 4 then h.period else g.period,
    duty := if mask.testBit 3 then h.duty else g.duty,
    phi := if mask.testBit 2 then h.phi else g.phi,
    d1 := if mask.testBit 1 then h.d1 else g.d1,
    d2 := if mask.testBit 0 then h.d2 else g.d2 }

/-- R187: newer fields replace the staged ones, and the whole set waits for the newest target. -/
def DStack.stage (d : DStack) (mask : Nat) (g : GenSet) (target : Nat) : DStack :=
  { d with staged := d.staged.over g mask, mask := d.mask ||| mask, target := target }

def stagedSet (g : GenStaged) : GenSet :=
  { period := g.period, duty := g.duty, phi := signed 16 g.phi, d1 := g.d1, d2 := g.d2 }

/-- The target cycle that Ductus is building for when a word is accepted (R8, R187). -/
def State.genTarget (s : State) : Nat :=
  (if s.duct.latchAt = s.mono + 1 then s.mono + 2 else s.mono + 1) + s.look

/-- A written GEN word stages its fields for a target (R187); with SRC = 1 it is ignored. `w` is 0 PERIOD,
1 DUTY and PHI, 2 D1 and D2 (DEDUCED, log entry 41). -/
def State.stageGen (s : State) (k w : Nat) (v : Word) (target : Nat) : State :=
  if W.STK_MODE_SRC (s.wordAt target (K.STK_MODE k)) = 1 then s else
  let g := GenSet.reset
  s.setDstack k ((s.dstack k).stage (if w = 0 then 16 else if w = 1 then 12 else 3)
    (if w = 0 then { g with period := W.GEN_PERIOD_PERIOD v }
      else if w = 1 then { g with duty := W.GEN_DUTY_PHI_DUTY v, phi := signed 16 (W.GEN_DUTY_PHI_PHI v) }
      else { g with d1 := W.GEN_INNER_D1 v, d2 := W.GEN_INNER_D2 v }) target)

/-! ## Loads -/

/-- D_lo of R190. -/
def dutyLow (smax period : Nat) : Nat := max 16384 ((max 62500 smax * 65536 + period - 1) / period)

/-- R190: the combined set clamped field by field, with the mask of clamped fields. -/
def genClamp (c : StkCfg) (typ : Nat) (g : GenSet) : GenSet × Nat :=
  if c.mode ≠ mdPsc ∧ c.mode ≠ mdDps then (g, 0) else
  let per := min (max g.period (if c.mode = mdPsc then 125000 else 156250)) 6250000
  let b4 := if per = g.period then 0 else 16
  if c.mode = mdPsc then ({ g with period := per }, b4) else
  let smax := (List.range (legCount typ)).foldl (fun m k => max m (c.space k)) 0
  let lo := dutyLow smax per
  let duty := min (max g.duty lo) (65536 - lo)
  let phi := clampI (-(c.phiMax : Int)) c.phiMax g.phi
  let d1 := if c.kind = 0 then 0 else min g.d1 61440
  let d2 := if c.kind = 1 then d1 else 0
  ({ period := per, duty := duty, phi := phi, d1 := d1, d2 := d2 },
    b4 + (if duty = g.duty then 0 else 8) + (if phi = g.phi then 0 else 4) + (if d1 = g.d1 then 0 else 2)
      + (if d2 = g.d2 then 0 else 1))

/-- The instant in target `T` at which a set loads, with its LAST_LOAD code (R188). `p` is the position at its
start and `per` the period, 0 in NLS. -/
def DStack.loadAt (d : DStack) (c : StkCfg) (T p per : Nat) : Option (Nat × Nat) :=
  let t0 := T * 62500
  let due := max d.target d.fbBase
  let wrap := if p = 0 ∧ !d.started then t0 else t0 + per - p
  if c.mode = 0 then none
  else if (match d.loadAll with | some b => decide (b ≤ T) | none => false) then some (t0, 3)
  else if d.mask = 0 ∨ T < due then none
  else if per = 0 ∨ c.load = 1 then some (t0, 4)
  else if wrap = t0 then some (t0, 1)
  else if due + c.fb ≤ T then some (t0, 2)
  else if wrap < t0 + 62500 then some (wrap, 1)
  else none

/-- Position at the start of target `T`, from the position known at another (DEDUCED, log entry 41). -/
def DStack.posAt (d : DStack) (per T : Nat) : Nat :=
  if per = 0 then 0 else (((d.p : Int) + ((T : Int) - d.pAt) * 62500) % (per : Int)).toNat

/-- R188–R190: the pieces of target `T`, the stack after its build, with the load recorded for its instant. -/
def DStack.pieces (d : DStack) (c : StkCfg) (typ T cyc : Nat) : List Piece × DStack :=
  let t0 := T * 62500
  let per := if c.mode = mdPsc ∨ c.mode = mdDps then d.build.period else 0
  let p := d.posAt per T
  let d := { d with started := d.started && decide (d.pAt = T) }
  match d.loadAt c T p per with
  | none =>
    ([⟨t0, t0 + 62500, d.build, p⟩],
      { d with
        p := d.posAt per (T + 1), pAt := T + 1, started := false, pcs := (⟨t0, t0 + 62500, d.build, p⟩ :: d.pcs).take 16 })
  | some (tl, how) =>
    let g := genClamp c typ (d.build.over d.staged d.mask)
    let g := if d.mask = 0 then (d.build, 0) else g
    let pa := if per = 0 then 0 else (p + (tl - t0)) % per
    let nper := if per = 0 then 0 else g.1.period
    let pa := if per = 0 then 0 else pa * nper / per
    let first := if tl = t0 then [] else [Piece.mk t0 tl d.build p]
    (first ++ [⟨tl, t0 + 62500, g.1, pa⟩],
      { d with
        pcs := (⟨tl, t0 + 62500, g.1, pa⟩ :: (first ++ d.pcs)).take 16,
        build := g.1, mask := 0, loadAll := if how = 3 then none else d.loadAll, started := false,
        p := if nper = 0 then 0 else (pa + (t0 + 62500 - tl)) % nper, pAt := T + 1,
        loads := d.loads ++ [⟨tl, how, decide (d.mask ≠ 0), g.1, g.2, cyc % 65536⟩] })

/-- R174: p is put to 0 at the start of the first modulated target. -/
def DStack.restart (d : DStack) (T : Nat) : DStack :=
  { d with p := 0, pAt := T, started := true, level := 0, want := 0 }

/-- R188, R190: the load of a stack takes effect at its instant: the live set, LAST_LOAD, CLAMP, GEN_CLAMPED and
the first clamp capture. A load-all with nothing staged only records LAST_LOAD. -/
def State.takeLoad (s : State) (k : Nat) (l : GenLoad) : State :=
  let d := s.dstack k
  let t := l.tick % 62500
  let s := s.setDstack k { d with
    live := l.set, lastLoad := l.how, clamp := if l.did then l.clamp else d.clamp, loads := d.loads.drop 1 }
  if !l.did then s
  else if l.clamp = 0 then s.clear 0x0501 k t
  else
    let s := s.raise 0x0501 k (BitVec.ofNat 32 l.clamp) t
    if bit s.duct.clampCap 31 then s
    else { s with duct := { s.duct with clampCap := at_ 1 31 ||| at_ k 27 ||| at_ l.clamp 22 ||| at_ l.cyc 0 } }

/-- `GENERATOR_LOAD`: a set that the build has loaded takes effect at its instant. -/
def execGeneratorLoad (k : Fin 16) (s : State) : Host.Outcome State Fault Refusal :=
  let s := s.silent
  match (s.dstack k).loads with
  | [] => .next s
  | l :: _ => .next (if l.tick / 62500 ≤ s.mono then s.takeLoad k l else s)

end Sys2Proof.Machine
end

