-- ==== Sys2Proof/Machine/Ops.lean ====
section
/-! DEFINITION. Long operations (R392–R394), and the cell's way through admission (R137) that several commands
share. -/

namespace Sys2Proof.Machine

/-! ## Long operations -/

def State.opRec (s : State) (id : Nat) : Option OpRec := s.cmd.ops.find? fun o => o.id = id

/-- The record of an operation changed by `f`. -/
def State.opUpd (s : State) (id : Nat) (f : OpRec → OpRec) : State :=
  { s with cmd := { s.cmd with ops := s.cmd.ops.map fun o => if o.id = id then f o else o } }

/-- A running operation ends with a STATE and final status of R393. -/
def State.opEnd (s : State) (id st status : Nat) : State :=
  s.opUpd id fun o => if o.state = 0 then { o with state := st, status := status } else o

/-- Running operations started by an opcode. -/
def State.opsRunning (s : State) (opcode : Nat) : List OpRec :=
  s.cmd.ops.filter fun o => decide (o.opcode = opcode) && decide (o.state = 0)

/-- The next OPID: 1 to 65,535, skipping 0 (R392). -/
def State.nextOp (s : State) : Nat := if s.cmd.lastOp = 65535 then 1 else s.cmd.lastOp + 1

/-- A new operation with its record; the 64 most recent are kept (R392). -/
def State.opStart (s : State) (opcode kind total arg : Nat) : State :=
  let o : OpRec :=
    { id := s.nextOp, opcode := opcode, state := 0, kind := kind, status := 0, done := 0, total := total,
      last := s.mono, arg := arg, data := [] }
  let all := s.cmd.ops ++ [o]
  { s with cmd := { s.cmd with ops := keepLast 64 all, lastOp := s.nextOp } }

/-- The pre-charge operation under way (R398), with the stacks of its mask. -/
def State.preOp (s : State) : Option OpRec := (s.opsRunning 0x20).head?

def OpRec.stacks (o : OpRec) : List Nat := (List.range 16).filter fun k => o.arg.testBit k

/-! ## Admission -/

/-- RETIRE is sent and the cell returns to FOUND (R137, R398) (DEDUCED, log entry 32). -/
def State.backToFound (s : State) (ci : Nat) : State :=
  let s := s.setCell ci { s.cell ci with adm := .found, preRun := 0 }
  let s := s.setMg ci { s.mg ci with step := 0, op := 0 }
  s.sendRetire ci

/-- A cell enters the ranking (R137 step 6). -/
def State.insertCell (s : State) (ci : Nat) : State :=
  let s := s.setCell ci { s.cell ci with adm := .inserted, preRun := 0 }
  let m := s.mg ci
  let s := s.setMg ci { m with step := 0, op := 0 }
  let s := s.opUpd m.op fun o => if o.state = 0 then { o with state := 1, done := 6 } else o
  s.clear 0x0306 ci 0

end Sys2Proof.Machine
end

