-- ==== Sys2Proof/Machine/Edges.lean ====
section
/-! DEFINITION. From leg states to segments (R173–R185): spacing, short pulses and carry, edges with dead time,
spill and order, the segment's bytes, and the segment checker. -/

namespace Sys2Proof.Machine

/-- Leg states OFF, P and N. -/
def lgOff : Nat := 0
def lgP : Nat := 1
def lgN : Nat := 2

/-- Sign with which a leg state counts in CARRY (R182). -/
def legSign (st : Nat) : Int := if st = lgP then 1 else if st = lgN then -1 else 0

/-- State to which the leg goes once its late transitions have happened. -/
def Leg.final (l : Leg) : Nat := match l.late.getLast? with | some x => x.2 | none => l.st

/-- Instant of the leg's last transition, late ones included; none if it never moved. -/
def Leg.lastT (l : Leg) : Option Nat := match l.late.getLast? with | some x => some x.1 | none => l.last

/-- Edges of a transition (R176): instant, switch, level. -/
def edgesOf (k t dt cur new : Nat) : List (Nat × Nat × Bool) :=
  let up := 2 * k
  let lo := 2 * k + 1
  let on := if new = lgP then up else lo
  let off := if cur = lgP then up else lo
  if cur = new then []
  else if cur = lgOff then [(t, on, true)]
  else if new = lgOff then [(t, off, false)]
  else [(t, off, false), (t + dt, on, true)]

/-- One leg's work in a step: the transitions placed (instant, new state, state before), its carry with the instants at
which its parts arose, and what was counted. -/
structure LegRun where
  out : List (Nat × Nat × Nat)
  carry : Int
  org : Nat
  adds : List (Nat × Int)
  drops : Nat
  stretches : Nat
  cut : Bool
deriving DecidableEq, Repr

/-- A change of the carry, held at the limit (R184). -/
def LegRun.addCarry (r : LegRun) (d : Int) (lim t : Nat) : LegRun :=
  let v := r.carry + d
  let c := clampI (-(lim : Int)) lim v
  { r with
    carry := c, org := if d = 0 then r.org else t, adds := r.adds ++ [(t, c - r.carry)],
    cut := r.cut || decide (lim < v.natAbs) }

/-- One wanted transition under R181–R183: a short pulse within the target is dropped or stretched, a transition
too close to an earlier one is moved. `last` is the leg's last transition before the step, `t1` the end of
the target. -/
def LegRun.place (c : StkCfg) (k st : Nat) (last : Option Nat) (t1 : Nat) (r : LegRun) (w : Nat × Nat) : LegRun :=
  let sk := c.space k
  let cur := match r.out.getLast? with | some x => x.2.1 | none => st
  let prev := match r.out.getLast? with | some x => some x.1 | none => last
  if w.2 = cur then r else
  match prev with
  | none => { r with out := r.out ++ [(w.1, w.2, cur)] }
  | some p =>
    if p + sk ≤ w.1 then { r with out := r.out ++ [(w.1, w.2, cur)] }
    else
      let short := match r.out.getLast? with | some x => decide (x.2.2 = w.2 ∧ x.1 < t1) | none => false
      if short && !c.stretch then
        let r := r.addCarry (((w.1 : Int) - p) * legSign cur) c.carryMax w.1
        { r with out := r.out.dropLast, drops := r.drops + 1 }
      else
        let r := r.addCarry (-(((p + sk : Nat) : Int) - w.1) * legSign cur) c.carryMax w.1
        { r with out := r.out ++ [(p + sk, w.2, cur)], stretches := r.stretches + 1 }

/-- The part of a carry that arose at or after an instant: a pulse that leads there is not a later one (R184). -/
def carryHeld (adds : List (Nat × Int)) (lead : Nat) : Int :=
  (adds.filterMap fun a => if lead ≤ a.1 then some a.2 else none).foldl (· + ·) 0

/-- Absorption of the carry (R184): walks the placed transitions; `prev` is the instant of the one before. In
NLS the leg's next transition moves, else the trailing transition of a pulse that lies in the target
(DEDUCED, log entry 41). -/
def absorbFrom (sk t0 t1 : Nat) (nls : Bool) (adds : List (Nat × Int)) : Bool → Option Nat → Int →
    List (Nat × Nat × Nat) → List (Nat × Nat × Nat) × Int
  | _, _, carry, [] => ([], carry)
  | first, prev, carry, (t, new, cur) :: rest =>
    let next := rest.head?
    let part := carry - carryHeld adds (if nls then t else prev.getD 0)
    let ok := decide (part ≠ 0) && decide (cur ≠ lgOff) && decide (t < t1)
      && (if nls then true else !first && (match prev with | some p => decide (t0 ≤ p) | none => false))
    let lo : Int := match prev with | some p => max (t0 : Int) ((p + sk : Nat) : Int) | none => (t0 : Int)
    let hi : Int := match next with | some x => min ((t1 : Int) - 1) ((x.1 : Int) - sk) | none => (t1 : Int) - 1
    let want : Int := (t : Int) + part * legSign cur
    let nt : Int := if ok && decide (lo ≤ hi) then clampI lo hi want else t
    let carry' := carry - (nt - t) * legSign cur
    if nls && ok then ((nt.toNat, new, cur) :: rest, carry')
    else
      let r := absorbFrom sk t0 t1 nls adds false (some nt.toNat) carry' rest
      ((nt.toNat, new, cur) :: r.1, r.2)

/-- A leg through R181–R184 in one target. -/
def runLeg (c : StkCfg) (k t0 : Nat) (l : Leg) (wants : List (Nat × Nat)) : LegRun :=
  let t1 := t0 + 62500
  let r : LegRun :=
    { out := [], carry := l.carry, org := l.org, adds := [(l.org, l.carry)], drops := 0, stretches := 0, cut := false }
  let r := (l.late ++ wants).foldl (LegRun.place c k l.st l.last t1) r
  let a := absorbFrom (c.space k) t0 t1 (decide (c.mode = mdNls)) r.adds true l.last r.carry r.out
  { r with out := a.1, carry := a.2 }

/-- The leg after a step: transitions inside the target are made, later ones wait (R177). -/
def Leg.after (l : Leg) (r : LegRun) (t1 : Nat) : Leg :=
  let now := r.out.filter fun x => decide (x.1 < t1)
  let late := r.out.filter fun x => decide (t1 ≤ x.1)
  let e := now.getLast?
  { st := match e with | some x => x.2.1 | none => l.st,
    last := match e with | some x => some x.1 | none => l.last,
    carry := r.carry, org := r.org, late := late.map fun x => (x.1, x.2.1) }

/-- Order of records within a segment (R178): by instant, turn-off before turn-on, lower switch first. -/
def edgeKey (e : Nat × Nat × Bool) : Nat := (e.1 * 2 + b2n e.2.2) * 8 + e.2.1

def insertEdge (e : Nat × Nat × Bool) : List (Nat × Nat × Bool) → List (Nat × Nat × Bool)
  | [] => [e]
  | x :: r => if edgeKey x ≤ edgeKey e then x :: insertEdge e r else e :: x :: r

def sortEdges (l : List (Nat × Nat × Bool)) : List (Nat × Nat × Bool) := l.foldr insertEdge []

/-- An edge record (R109). -/
def edgeRecord (t0 gate tag : Nat) (e : Nat × Nat × Bool) : Word :=
  at_ (e.1 - t0) 16 ||| at_ e.2.1 13 ||| at_ (b2n e.2.2) 12 ||| at_ gate 8 ||| at_ tag 0

/-- Records of a segment with their tags (R179), the cell's edge counter advancing for each. -/
def edgeRecords (gate : Nat → Bool → Nat) (t0 tag : Nat) : List (Nat × Nat × Bool) → List Word
  | [] => []
  | e :: r => edgeRecord t0 (gate e.2.1 e.2.2) ((tag + 1) % 256) e :: edgeRecords gate t0 ((tag + 1) % 256) r

/-- Switch levels after a list of edges. -/
def levelsAfter (lv : Nat) (es : List (Nat × Nat × Bool)) : Nat :=
  es.foldl (fun m e => mset m e.2.1 e.2.2) lv

/-! ## The segment checker -/

/-- Fields of a record (R109). -/
def recOffset (w : Word) : Nat := field w 31 16
def recSw (w : Word) : Nat := field w 15 13
def recLevel (w : Word) : Bool := bit w 12
def recGate (w : Word) : Nat := field w 11 8
def recTag (w : Word) : Nat := field w 7 0

/-- Checks 4 and 5 of R185: offsets and counts, on the segment alone. -/
def checkForm (legs : Nat) (mgmt : Bool) (recs : List Word) : Option (Nat × Nat) :=
  let offs := recs.map recOffset
  if offs.any (fun o => decide (62499 < o)) || (offs.zip (offs.drop 1)).any (fun p => decide (p.2 < p.1)) then some (0, 4)
  else if decide ((if mgmt then 12 else 14) < recs.length) || recs.any (fun w => decide (2 * legs ≤ recSw w)) then some (0, 5)
  else none

/-- Checks 1 to 3 of R185 on one record, with the checker's own record of the cell. `free` holds the switches
that R175 turns off in this segment. -/
def checkEdge (c : StkCfg) (free t0 : Nat) (d : Duct) (w : Word) : Option (Nat × Nat) × Duct :=
  let sw := recSw w
  let mate := if sw % 2 = 0 then sw + 1 else sw - 1
  let leg := sw / 2
  let t := t0 + recOffset w
  let d' := { d with
    ckLv := mset d.ckLv sw (recLevel w),
    ckOn := if recLevel w then Tab.put (fun _ => 0) d.ckOn sw (t + 1) else d.ckOn,
    ckOff := if recLevel w then d.ckOff else Tab.put (fun _ => 0) d.ckOff sw (t + 1) }
  let on := Tab.get (fun _ => 0) d.ckOn sw
  let off := Tab.get (fun _ => 0) d.ckOff sw
  let moff := Tab.get (fun _ => 0) d.ckOff mate
  let e : Option (Nat × Nat) :=
    if recLevel w then
      if d.ckLv.testBit mate then some (leg, 1)
      else if moff ≠ 0 ∧ t + 1 < moff + c.dtOf leg then some (leg, 2)
      else if off ≠ 0 ∧ t + 1 < off + c.minp then some (leg, 3)
      else none
    else if on ≠ 0 ∧ t + 1 < on + c.minp ∧ !free.testBit sw then some (leg, 3)
    else none
  (e, d')

/-- The failing check of lowest number, with its leg (R185); the checker's record after the segment. -/
def checkSeg (c : StkCfg) (legs free t0 : Nat) (mgmt : Bool) (d : Duct) (recs : List Word) :
    Option (Nat × Nat) × Duct :=
  let r := recs.foldl (fun (a : Option (Nat × Nat) × Duct) (w : Word) =>
    let e := checkEdge c free t0 a.2 w
    (match a.1, e.1 with
      | none, x => x
      | some y, some x => if x.2 < y.2 then some x else some y
      | some y, none => some y, e.2)) (none, d)
  (if r.1.isSome then r.1 else checkForm legs mgmt recs, r.2)

/-! ## Segments -/

/-- Segment flags of R108. -/
def fAct : Nat := 0x80
def fBlock : Nat := 0x40
def fByp : Nat := 0x20
def fHold : Nat := 0x10
def fMgmt : Nat := 0x08

/-- The 66 bytes of a segment (R108) from its flags, records, target, codes, epoch, counter and request. -/
def segBytes (flags : Nat) (recs : List Word) (target blank soft epoch cmd : Nat) (mgmt : List Byte) : List Byte :=
  let body := [BitVec.ofNat 8 flags, BitVec.ofNat 8 recs.length] ++ be 2 (target % 65536)
    ++ [BitVec.ofNat 8 blank, BitVec.ofNat 8 soft, BitVec.ofNat 8 epoch, BitVec.ofNat 8 cmd]
  let edges := recs.flatMap wordBytes
  let edges := if mgmt = [] then padTo 56 edges else padTo 48 edges ++ padTo 8 mgmt
  body ++ edges ++ be 2 (crc16 (body ++ edges)).toNat

/-- The same segment as a mirror copy (R120): ACT 0 and the SCRC recomputed. -/
def mirrorSeg (seg : List Byte) : List Byte :=
  match seg with
  | [] => []
  | b :: r =>
    let body := (b &&& 0x7F) :: r.take 63
    body ++ be 2 (crc16 body).toNat

/-- The cell's legs are off without edges and hold nothing (R175, and a cell that leaves service). -/
def Duct.off (d : Duct) : Duct :=
  { d with
    legs := d.legs.filterMap fun x =>
      let l : Leg := { x.2 with st := lgOff, carry := 0, org := 0, late := [] }
      if l = Leg.init then none else some (x.1, l),
    spill := [], lv := 0, ckLv := 0 }

/-- R175: every switch that is on turns off at the start of the target, and what was held is discarded. -/
def Duct.stop (d : Duct) (t0 n : Nat) : List (Nat × Nat × Bool) × Duct :=
  let es := (List.range 8).filterMap fun sw => if d.lv.testBit sw then some (t0, sw, false) else none
  let legs := (List.range n).foldl (fun t k =>
    let l := Tab.get (fun _ => Leg.init) t k
    Tab.put (fun _ => Leg.init) t k
      { l with st := lgOff, last := if l.st = lgOff then l.last else some t0, carry := 0, org := 0, late := [] }) d.legs
  (es, { d with legs := legs, spill := [] })

end Sys2Proof.Machine
end

