-- ==== Sys2Proof/Machine/Float.lean ====
section
/-! DEFINITION. Binary32 arithmetic with round-to-nearest-even (R4, R170, R208, R215): every operation is
exact on the operands' values and rounded once. A NaN result is the quiet NaN 0x7FC00000. -/

namespace Sys2Proof.Machine

/-- The value of a binary32 word: not a number, infinite, or ± m × 2^e. -/
inductive F32 where
  | nan
  | inf (neg : Bool)
  | fin (neg : Bool) (m : Nat) (e : Int)
deriving DecidableEq, Repr

def fNaN : Word := 0x7FC00000

def fDec (w : Word) : F32 :=
  let neg := w.getLsbD 31
  let ex := field w 30 23
  let fr := field w 22 0
  if ex = 255 then (if fr = 0 then .inf neg else .nan)
  else if ex = 0 then .fin neg fr (-149) else .fin neg (fr + 8388608) ((ex : Int) - 150)

/-- The binary32 word nearest to ± num / den, ties to even; overflow gives infinity. -/
def fEnc (neg : Bool) (num den : Nat) : Word :=
  let sign : Nat := if neg then 2147483648 else 0
  if num = 0 then BitVec.ofNat 32 sign else
  let e0 : Int := (Nat.log2 num : Int) - (Nat.log2 den : Int)
  let small := if 0 ≤ e0 then decide (num < den <<< e0.toNat) else decide (num <<< (-e0).toNat < den)
  let e := if small then e0 - 1 else e0
  let q : Int := max (e - 23) (-149)
  let a := if 0 ≤ q then num else num <<< (-q).toNat
  let b := if 0 ≤ q then den <<< q.toNat else den
  let i := a / b
  let r := a % b
  let i := if b < 2 * r ∨ (2 * r = b ∧ i % 2 = 1) then i + 1 else i
  let bits := (q + 149).toNat * 8388608 + i
  BitVec.ofNat 32 (sign + (if 2139095040 ≤ bits then 2139095040 else bits))

/-- ± m × 2^e as a numerator and a denominator. -/
def fFrac (m : Nat) (e : Int) : Nat × Nat := if 0 ≤ e then (m <<< e.toNat, 1) else (m, 1 <<< (-e).toNat)

/-- An integer over a denominator, rounded to binary32. -/
def fOfRat (num : Int) (den : Nat) : Word := fEnc (decide (num < 0)) num.natAbs den

def fOfInt (i : Int) : Word := fOfRat i 1

/-- A signed significand at a common exponent. -/
def fAlign (neg : Bool) (m : Nat) (e lo : Int) : Int :=
  let v : Int := (m <<< (e - lo).toNat : Nat)
  if neg then -v else v

def fNeg (w : Word) : Word := w ^^^ 0x80000000
def fAbs (w : Word) : Word := w &&& 0x7FFFFFFF

def fAdd (a b : Word) : Word :=
  match fDec a, fDec b with
  | .nan, _ => fNaN
  | _, .nan => fNaN
  | .inf x, .inf y => if x = y then a else fNaN
  | .inf _, _ => a
  | _, .inf _ => b
  | .fin n1 m1 e1, .fin n2 m2 e2 =>
    if m1 = 0 ∧ m2 = 0 then (if n1 && n2 then 0x80000000 else 0) else
    let lo := min e1 e2
    let v := fAlign n1 m1 e1 lo + fAlign n2 m2 e2 lo
    let f := fFrac v.natAbs lo
    fEnc (decide (v < 0)) f.1 f.2

def fSub (a b : Word) : Word := match fDec b with | .nan => fNaN | _ => fAdd a (fNeg b)

def fMul (a b : Word) : Word :=
  let s := a.getLsbD 31 != b.getLsbD 31
  match fDec a, fDec b with
  | .nan, _ => fNaN
  | _, .nan => fNaN
  | .inf _, .fin _ m _ => if m = 0 then fNaN else (if s then 0xFF800000 else 0x7F800000)
  | .fin _ m _, .inf _ => if m = 0 then fNaN else (if s then 0xFF800000 else 0x7F800000)
  | .inf _, .inf _ => if s then 0xFF800000 else 0x7F800000
  | .fin _ m1 e1, .fin _ m2 e2 =>
    let f := fFrac (m1 * m2) (e1 + e2)
    fEnc s f.1 f.2

def fDiv (a b : Word) : Word :=
  let s := a.getLsbD 31 != b.getLsbD 31
  match fDec a, fDec b with
  | .nan, _ => fNaN
  | _, .nan => fNaN
  | .inf _, .inf _ => fNaN
  | .inf _, .fin _ _ _ => if s then 0xFF800000 else 0x7F800000
  | .fin _ _ _, .inf _ => if s then 0x80000000 else 0
  | .fin _ m1 e1, .fin _ m2 e2 =>
    if m2 = 0 then (if m1 = 0 then fNaN else if s then 0xFF800000 else 0x7F800000) else
    let d := e1 - e2
    if 0 ≤ d then fEnc s (m1 <<< d.toNat) m2 else fEnc s m1 (m2 <<< (-d).toNat)

def fIsNaN (w : Word) : Bool := match fDec w with | .nan => true | _ => false
def fFinite (w : Word) : Bool := match fDec w with | .fin _ _ _ => true | _ => false

/-- a < b, false where either is a NaN. -/
def fLt (a b : Word) : Bool :=
  match fDec a, fDec b with
  | .nan, _ => false
  | _, .nan => false
  | .inf x, .inf y => x && !y
  | .inf x, _ => x
  | _, .inf y => !y
  | .fin n1 m1 e1, .fin n2 m2 e2 =>
    let lo := min e1 e2
    decide (fAlign n1 m1 e1 lo < fAlign n2 m2 e2 lo)

def fEq (a b : Word) : Bool := !fIsNaN a && !fIsNaN b && !fLt a b && !fLt b a
def fLe (a b : Word) : Bool := fLt a b || fEq a b
def fMax (a b : Word) : Word := if fLt a b then b else a
def fMin (a b : Word) : Word := if fLt b a then b else a
def fClamp (lo hi v : Word) : Word := if fLt v lo then lo else if fLt hi v then hi else v
def fIsZero (w : Word) : Bool := decide (w &&& 0x7FFFFFFF = 0)

/-- The sign of a value, +1 for zero. -/
def fSign (w : Word) : Int := if fLt w 0 then -1 else 1

/-- A finite value rounded to the nearest integer, ties to even; 0 for infinities and NaN (DEDUCED, log entry 8). -/
def fRound (w : Word) : Int :=
  match fDec w with
  | .fin n m e =>
    let f := fFrac m e
    roundDiv (if n then -(f.1 : Int) else f.1) f.2
  | _ => 0

/-- The largest integer not above a finite value; 0 for infinities and NaN. -/
def fFloor (w : Word) : Int :=
  match fDec w with
  | .fin n m e =>
    let f := fFrac m e
    (if n then -(f.1 : Int) else f.1).fdiv f.2
  | _ => 0

/-- The exact value of a finite word as a numerator over a denominator; 0 for infinities and NaN. -/
def fRat (w : Word) : Int × Nat :=
  match fDec w with
  | .fin n m e =>
    let f := fFrac m e
    (if n then -(f.1 : Int) else f.1, f.2)
  | _ => (0, 1)

/-- Values 10 µs, 0.5, 1 and 2 in binary32. -/
def fCycle : Word := 0x3727C5AC
def fHalf : Word := 0x3F000000
def fOne : Word := 0x3F800000
def fTwo : Word := 0x40000000

/-- A list's sum, in list order (DEDUCED, log entry 8). -/
def fSum (l : List Word) : Word := l.foldl fAdd 0

/-- A list's mean: its sum over its length (DEDUCED, log entry 8). -/
def fMean (l : List Word) : Word := fDiv (fSum l) (fOfInt l.length)

/-- exp(−num/den) in units of 2⁻¹⁶⁰, for a value below 128: the series of exp(−y) at y = num/(128 den), squared seven
times (DEDUCED, log entry 8). -/
def expFix (num den : Nat) : Nat :=
  let one := 1 <<< 160
  let y := num * one / (128 * den)
  let r := (List.range 40).foldl (fun (a : Nat × Int) (n : Nat) =>
    let term := a.1 * y / one / (n + 1)
    (term, if n % 2 = 0 then a.2 - term else a.2 + term)) (one, (one : Int))
  (List.range 7).foldl (fun (v : Nat) _ => v * v / one) r.2.toNat

/-- The binary32 word nearest to exp(−x) for a finite x ≥ 0; 0 from 128 on, where the value is below half the least
binary32 number (R215) (DEDUCED, log entry 8). -/
def fExpNeg (x : Word) : Word :=
  let q := fRat x
  if fIsNaN x then fNaN
  else if fLe (fOfInt 128) x then 0
  else fOfRat (expFix q.1.natAbs q.2) (1 <<< 160)

end Sys2Proof.Machine
end

