-- ==== Sys2Proof/Machine/Modul.lean ====
section
/-! DEFINITION. What the modulated cells' legs are wanted to do in a target cycle: nearest level with sorting
(R191–R194), phase-shifted carriers (R195, R196), dual-active-bridge phase shift (R197) and pre-charge commands
(R225, R226). -/

namespace Sys2Proof.Machine

/-- A wanted transition: cell, leg, instant, new state. -/
abbrev Want := Nat × Nat × Nat × Nat

/-- INSERTED cells of a stack, in CI order. -/
def State.insertedCells (s : State) (k : Nat) : List Nat :=
  (s.stackCells k).filter fun ci => decide (s.svc ci = .inserted)

def State.chargingCells (s : State) (k : Nat) : List Nat :=
  (s.stackCells k).filter fun ci => decide (s.svc ci = .charging)

/-- Ordinal of a cell in its stack (R195). -/
def State.ordinal (s : State) (ci : Nat) : Nat :=
  ((s.stackCells (s.stackOf ci)).filter fun x => decide (x < ci)).length

/-! ## Nearest level with sorting -/

/-- A cell within the NLS work of one target: leg states and last transitions, and whether it has stepped. -/
structure NCell where
  ci : Nat
  s0 : Nat
  l0 : Option Nat
  s1 : Nat
  l1 : Option Nat
  stepped : Bool
deriving DecidableEq, Repr

/-- The NLS work of a stack: its cells, both lists, the level the placed steps stand for, the level that n(t) calls for, the
live level, and the transitions wanted. -/
structure Nls where
  typ : Nat
  t1 : Nat
  sp0 : Nat
  sp1 : Nat
  cells : List NCell
  away : List Nat
  toward : List Nat
  want : Int
  call : Int
  live : Int
  out : List Want
deriving DecidableEq, Repr

/-- Insertion state (R192) from the states of legs 0 and 1. -/
def insState (typ a b : Nat) : Int :=
  if typ = 1 then (if a = lgP then 1 else 0)
  else if a = lgP ∧ b = lgN then 1 else if a = lgN ∧ b = lgP then -1 else 0

def NCell.ins (c : NCell) (typ : Nat) : Int := insState typ c.s0 c.s1

def Nls.find (n : Nls) (ci : Nat) : Option NCell := n.cells.find? fun c => c.ci = ci

/-- The leg that a one-unit step of a cell moves, and its new state (R192). `dest` is the insertion state the
step goes to. -/
def NCell.move (c : NCell) (typ : Nat) (dest : Int) : Nat × Nat :=
  if typ = 1 then (0, if 0 < dest then lgP else lgN)
  else if c.ins typ = 0 then
    if 0 < dest then (if c.s0 = lgP then (1, lgN) else (0, lgP))
    else (if c.s0 = lgP then (0, lgN) else (1, lgP))
  else if c.l0.getD 0 ≤ c.l1.getD 0 then (0, c.s1) else (1, c.s0)

/-- Earliest instant at which a listed cell may step from one insertion state to another (R193); none when it
cannot in this target. -/
def Nls.readyAt (n : Nls) (ci : Nat) (src dest : Int) : Option Nat :=
  match n.find ci with
  | none => none
  | some c =>
    if c.stepped ∨ c.ins n.typ ≠ src ∨ (n.typ = 1 ∧ dest < 0) then none
    else
      let m := c.move n.typ dest
      match (if m.1 = 0 then c.l0 else c.l1) with
      | none => some 0
      | some l => some (l + if m.1 = 0 then n.sp0 else n.sp1)

/-- First cell of a list eligible at `t` (R193). -/
def Nls.pick (n : Nls) (l : List Nat) (src dest : Int) (t : Nat) : Option Nat :=
  l.find? fun ci => match n.readyAt ci src dest with | some r => decide (r ≤ t) | none => false

/-- A cell's step at `t`: its leg moves and it leaves both lists (DEDUCED, log entry 41). -/
def Nls.step (n : Nls) (ci : Nat) (dest : Int) (t : Nat) : Nls :=
  match n.find ci with
  | none => n
  | some c =>
    let m := c.move n.typ dest
    let c' := { (if m.1 = 0 then { c with s0 := m.2, l0 := some t } else { c with s1 := m.2, l1 := some t }) with stepped := true }
    { n with
      cells := n.cells.map fun x => if x.ci = ci then c' else x,
      away := n.away.filter (· ≠ ci), toward := n.toward.filter (· ≠ ci),
      live := n.live + dest - c.ins n.typ,
      out := n.out ++ [(ci, m.1, t, m.2)] }

/-- The list, start and end state of a step of sign `sg` when the level stands at `lv`: away from zero, or
toward it (R193, R210). -/
def Nls.kind (n : Nls) (lv sg : Int) : List Nat × Int × Int :=
  if lv = 0 ∨ (0 < lv ↔ 0 < sg) then (n.away, 0, sg) else (n.toward, -sg, 0)

/-- A crossing's step: at `t`, or at the earliest later instant of the target at which a listed cell becomes
eligible; otherwise it is carried into the next cycle (R193) (DEDUCED, log entry 41). -/
def Nls.cross (n : Nls) (t : Nat) (sg : Int) : Nls :=
  let k := n.kind n.live sg
  match n.pick k.1 k.2.1 k.2.2 t with
  | some ci => { n.step ci k.2.2 t with want := n.want + sg }
  | none =>
    match (k.1.filterMap fun ci => n.readyAt ci k.2.1 k.2.2).min? with
    | none => n
    | some r =>
      if n.t1 ≤ r then n else
      match n.pick k.1 k.2.1 k.2.2 r with
      | some ci => { n.step ci k.2.2 r with want := n.want + sg }
      | none => n

/-- R194: a level lost with a cell is replaced by one extra step at a crossing or swap instant, in the direction of the level
that n(t) calls for; a step carried into the next cycle is no lost level (DEDUCED, log entry 41). -/
def Nls.restore (n : Nls) (t : Nat) : Nls :=
  let sg : Int := if n.live < n.want then 1 else -1
  if n.live = n.want ∨ (n.call - n.live) * sg ≤ 0 then n else
  let k := n.kind n.live sg
  match n.pick k.1 k.2.1 k.2.2 t with
  | some ci => n.step ci k.2.2 t
  | none => n

/-- The swaps at SWAP_AT (R193); `sg` is the sign of the listed cells (R210). -/
def Nls.swaps (t : Nat) (sg : Int) : Nat → Nls → Nls
  | 0, n => n
  | k + 1, n =>
    match n.pick n.away 0 sg t, n.pick n.toward sg 0 t with
    | some a, some b => Nls.swaps t sg k ((n.step a sg t).step b 0 t)
    | _, _ => n

/-- Instants at which n(t) crosses the half-integers between two levels, in order, with the step's sign (R191):
binary32, rounded to the nearest tick, ties to even. A crossing that rounds to 62,500 belongs to the next target
(DEDUCED, log entry 8). -/
def crossings (t0 : Nat) (n0 n1 : Word) (la lb : Int) : List (Nat × Int) :=
  let up := decide (la < lb)
  let den := fSub n1 n0
  (List.range (lb - la).natAbs).filterMap fun (i : Nat) =>
    let h := if up then fOfRat (2 * (la + i) + 1) 2 else fOfRat (2 * (la - i) - 1) 2
    let x := fRound (fMul (fDiv (fSub h n0) den) (fOfInt 62500))
    let x := if x < 0 then 0 else x
    if x < 62500 then some (t0 + x.toNat, if up then 1 else -1) else none

/-- Mean VCAP1 of the INSERTED cells at the cut-off (R191, R196). -/
def State.vAvg (s : State) (k : Nat) : Word := (s.schStack k).vAvg

/-- A cell's legs as the NLS work starts: a leg that is off starts in N with the target (R174, R192). -/
def State.nlsCell (s : State) (typ t0 ci : Nat) : NCell × List Want :=
  let d := s.dcell ci
  let a := d.leg 0
  let b := d.leg 1
  let offA := decide (a.final = lgOff)
  let offB := decide (2 ≤ legCount typ ∧ b.final = lgOff)
  ({ ci := ci, s0 := if offA then lgN else a.final, l0 := if offA then some t0 else a.lastT,
      s1 := if offB then lgN else b.final, l1 := if offB then some t0 else b.lastT, stepped := false },
    (if offA then [(ci, 0, t0, lgN)] else []) ++ (if offB then [(ci, 1, t0, lgN)] else []))

/-- The live level: the insertion states of the INSERTED cells (R194). -/
def liveLevel (typ : Nat) (l : List NCell) : Int := (l.map fun x => x.ins typ).foldl (· + ·) 0

/-- R191: n0 and n1, and whether the reference lies beyond the available levels. -/
def State.nlsLevels (s : State) (k : Nat) (cnt : Nat) (typ : Nat) (v0 v1 : Word) : Word × Word × Bool :=
  if cnt = 0 ∨ fLe (s.vAvg k) 0 then (0, 0, !fIsZero v1)
  else
    let n0 := fDiv v0 (s.vAvg k)
    let n1 := fDiv v1 (s.vAvg k)
    let hi := fOfInt cnt
    let lo := if typ = 1 then 0 else fNeg hi
    (n0, n1, fLt n0 lo || fLt hi n0 || fLt n1 lo || fLt hi n1)

/-- R191–R194 for one stack and target: the transitions, the level called for, the live level and saturation. -/
def State.nlsStack (s : State) (k T : Nat) (c : StkCfg) (inp : StackIn) : Nls × Bool :=
  let typ := s.stackType k
  let t0 := T * 62500
  let cis := s.insertedCells k
  let start := cis.map (s.nlsCell typ t0)
  let cells := start.map (·.1)
  let live := liveLevel typ cells
  let hi : Int := cis.length
  let lo : Int := if typ = 1 then 0 else -hi
  let v0 := (s.dstack k).vEnd
  let lv := s.nlsLevels k cis.length typ v0 inp.vEnd
  let want := clampI lo hi (s.dstack k).want
  let la := clampI lo hi (fFloor (fAdd lv.1 fHalf))
  let lb := clampI lo hi (fFloor (fAdd lv.2.1 fHalf))
  let n : Nls :=
    { typ := typ, t1 := t0 + 62500, sp0 := c.space 0, sp1 := c.space 1, cells := cells,
      away := inp.entries.filterMap (fun e => if e.kind = 0 then some e.ci else none),
      toward := inp.entries.filterMap (fun e => if e.kind = 1 then some e.ci else none),
      want := want, call := la, live := live, out := start.flatMap (·.2) }
  let owed := List.replicate (la - want).natAbs (t0, (if want < la then (1 : Int) else -1), (0 : Int))
  let n := (owed ++ (crossings t0 lv.1 lv.2.1 la lb).map fun x => (x.1, x.2, x.2)).foldl
    (fun (n : Nls) (x : Nat × Int × Int) =>
      let n := { n with call := n.call + x.2.2 }
      if n.want + x.2.1 < lo ∨ hi < n.want + x.2.1 then n else (n.cross x.1 x.2.1).restore x.1) n
  let ts := t0 + 250 * W.DUCT_CTL_SWAP_AT (s.wordAt T K.DUCT_CTL)
  let sg : Int := if typ = 1 then 1 else if n.want < 0 ∨ (n.want = 0 ∧ fLt v0 0) then -1 else 1
  ((Nls.swaps ts sg inp.swaps n).restore ts, lv.2.2)

/-! ## Phase-shifted carriers -/

/-- A leg's wants so far, its present state last. -/
def wantTo (ci k t new : Nat) (a : List Want × Nat) : List Want × Nat :=
  if a.2 = new then a else (a.1 ++ [(ci, k, t, new)], new)

/-- R196 on one linear piece of the carrier, ticks [a, b): the reference starts at `r` with slope `sr`, the
carrier at `ca` with slope `sc`. P where the reference lies above (DEDUCED, log entry 41). -/
def meetPiece (ci k a b : Nat) (ca sc r sr : Word) (w : List Want × Nat) : List Want × Nat :=
  let da := fSub r ca
  let ds := fSub sr sc
  let want :=
    if fLt 0 da then lgP else if fLt da 0 then lgN
    else if w.2 ≠ lgOff then w.2 else if fLt 0 ds then lgP else lgN
  let w := wantTo ci k a want w
  if fIsZero ds then w else
  let x := fDiv (fNeg da) ds
  let i := fRound x
  if fLt 0 x && fLt x (fOfInt ((b : Int) - a)) && decide (0 ≤ i ∧ i < (b : Int) - a) then
    wantTo ci k (a + i.toNat) (if fLt 0 ds then lgP else lgN) w
  else w

/-- R195: the carrier's linear pieces from elapsed tick `a` at position `q` up to `b`; `fuel` bounds their
number (DEDUCED, log entry 41). -/
def meetCarrier (ci k per t0 : Nat) (r0 sr : Word) (b : Nat) : Nat → Nat → Nat → List Want × Nat → List Want × Nat
  | 0, _, _, w => w
  | fuel + 1, a, q, w =>
    if b ≤ a then w else
    let half := (per + 1) / 2
    let rising := decide (2 * q < per)
    let e := min b (a + ((if rising then half else per) - q))
    let ca := if rising then fOfRat (2 * (q : Int)) per else fSub fTwo (fOfRat (2 * (q : Int)) per)
    let sc := if rising then fOfRat 2 per else fNeg (fOfRat 2 per)
    let r := fAdd r0 (fMul sr (fOfInt ((a : Int) - t0)))
    meetCarrier ci k per t0 r0 sr b fuel e ((q + (e - a)) % per) (meetPiece ci k a e ca sc r sr w)

/-- Reference of a leg from m (R196) (DEDUCED, log entry 41). -/
def legRef (typ k : Nat) (m : Word) : Word :=
  if typ = 1 then m else if k = 0 then fDiv (fAdd fOne m) fTwo else fDiv (fSub fOne m) fTwo

/-- R195, R196 for one cell. -/
def State.pscCell (s : State) (k typ T : Nat) (ps : List Piece) (m0 m1 : Word) (ci : Nat) : List Want :=
  let t0 := T * 62500
  let theta := s.ordinal ci * 65536 / ((s.stackCells k).length * (if typ = 1 then 1 else 2))
  (List.range (legCount typ)).flatMap fun leg =>
    let r0 := legRef typ leg m0
    let r1 := legRef typ leg m1
    let sr := fDiv (fSub r1 r0) (fOfInt 62500)
    (ps.foldl (fun (w : List Want × Nat) (p : Piece) =>
      let per := p.set.period
      let off := ticksOf (((theta : Int) + p.set.phi) % 65536).toNat per
      meetCarrier ci leg per t0 r0 sr p.b 8 p.a ((p.p + per - off % per) % per) w)
      ([], ((s.dcell ci).leg leg).final)).1

/-- m at the start and end of a target (R196), before the cell's trim. -/
def State.pscIndex (s : State) (k : Nat) (v : Word) : Word :=
  let den := fMul (fOfInt (s.insertedCells k).length) (s.vAvg k)
  if fLe den 0 then 0 else fDiv v den

/-- A posted value as the signed number it carries (R363). -/
def entryVal (e : ListEntry) : Int := signed 16 e.value

/-- Posted trim of a cell, 0 without one. -/
def trimOf (inp : StackIn) (ci : Nat) : Int :=
  match inp.entries.find? (fun e => e.ci = ci ∧ e.kind = 2) with | some e => entryVal e | none => 0

/-- A pre-charge command is posted for a cell: it holds the cell's legs through the target, also of the cell that this cut-off
has inserted (R224). -/
def commanded (x : StackIn) (ci : Nat) : Bool := x.entries.any fun e => decide (e.ci = ci ∧ e.kind = 3)

def State.pscStack (s : State) (k T : Nat) (ps : List Piece) (inp : StackIn) : List Want :=
  let typ := s.stackType k
  let b0 := s.pscIndex k (s.dstack k).vEnd
  let b1 := s.pscIndex k inp.vEnd
  ((s.insertedCells k).filter fun ci => !commanded inp ci).flatMap fun ci =>
    let tr := fOfRat (trimOf inp ci) 65536
    s.pscCell k typ T ps (fAdd b0 tr) (fAdd b1 tr) ci

/-! ## Dual-active-bridge phase shift -/

/-- R197 for one leg on one piece: to P where q wraps to 0, to N where it reaches the duty. -/
def squarePiece (ci k : Nat) (p : Piece) (off duty : Nat) (w : List Want × Nat) : List Want × Nat :=
  let per := p.set.period
  let q := (p.p + per - off % per) % per
  let w := wantTo ci k p.a (if q < duty then lgP else lgN) w
  let tp := p.a + (per - q)
  let tn := p.a + (if q < duty then duty - q else per + duty - q)
  let go (t new : Nat) (w : List Want × Nat) := if p.a < t ∧ t < p.b then wantTo ci k t new w else w
  if tp ≤ tn then go tn lgN (go tp lgP w) else go tp lgP (go tn lgN w)

/-- Stagger σ of a cell (R197). -/
def State.stagger (s : State) (c : StkCfg) (k ci : Nat) : Nat :=
  let n := (s.stackCells k).length
  if c.stagger = 1 then s.ordinal ci * 65536 / n else if c.stagger = 2 then s.ordinal ci * 32768 / n else 0

/-- R197 for one cell with an outer phase and a trim. -/
def State.dpsCell (s : State) (c : StkCfg) (k : Nat) (ps : List Piece) (phi : GenSet → Int) (trim : Int) (ci : Nat) :
    List Want :=
  let sg : Int := s.stagger c k ci
  (List.range 4).flatMap fun leg =>
    (ps.foldl (fun (w : List Want × Nat) (p : Piece) =>
      let g := p.set
      let o2 := sg + phi g + trim
      let o : Int := if leg = 0 then 2 * sg else if leg = 1 then 2 * sg + 65536 - g.d1
        else if leg = 2 then 2 * o2 else 2 * o2 + 65536 - g.d2
      let off := (o % 131072).toNat * g.period / 131072
      squarePiece ci leg p off (ticksOf g.duty g.period) w) ([], ((s.dcell ci).leg leg).final)).1

def State.dpsStack (s : State) (c : StkCfg) (k : Nat) (ps : List Piece) (inp : StackIn) : List Want :=
  ((s.insertedCells k).filter fun ci => !commanded inp ci).flatMap fun ci =>
    s.dpsCell c k ps (fun g => g.phi) (trimOf inp ci) ci

/-! ## Pre-charge commands -/

/-- Leg states of an insertion state under a pre-charge command (R225). -/
def preLegs (typ : Nat) (v : Int) : List Nat :=
  if typ = 1 then [if 0 < v then lgP else lgN]
  else if 0 < v then [lgP, lgN] else if v < 0 then [lgN, lgP] else [lgN, lgN]

/-- The stack runs stack-wide pre-charge phase 2 (R398). -/
def State.phaseTwo (s : State) (k : Nat) : Bool := decide (s.sys.mode = .charging) && decide ((s.schStack k).phase = 2)

/-- Transitions of the stack's pre-charge commands (DEDUCED, log entry 41). -/
def State.preStack (s : State) (c : StkCfg) (k T : Nat) (ps : List Piece) (inp : StackIn) : List Want :=
  let typ := s.stackType k
  let phi : GenSet → Int := fun g => if s.phaseTwo k then signed 16 (W.SYS_PRE_PHI (s.word K.SYS_PRE)) else g.phi
  (inp.entries.filter fun e => decide (e.kind = 3) && s.inService e.ci).flatMap fun e =>
    if typ = 3 then s.dpsCell c k ps phi (entryVal e) e.ci
    else (preLegs typ (entryVal e)).zipIdx.filterMap fun x =>
      if ((s.dcell e.ci).leg x.2).final = x.1 then none else some (e.ci, x.2, T * 62500, x.1)

end Sys2Proof.Machine
end

