-- ==== Sys2Proof/Machine/Ductus.lean ====
section
/-! DEFINITION. The Ductus latch (R169–R185, R356): the inputs of a step, the build of every stack and cell for
its target cycle, the segment checker's reaction, and the step that each side of a pair builds. -/

namespace Sys2Proof.Machine

/-- Segments of a stack carry BLOCK (R295, R305): while something holds it blocked, and in RUN until its release
(DEDUCED, log entry 7). -/
def State.segBlocked (s : State) (k : Nat) : Bool :=
  s.blocked.testBit k || (decide (s.sys.mode = .run) && s.evt.forced.testBit k)

/-- A pair side's released stack restarts one step after its release (R306) (DEDUCED, log entry 7). -/
def State.justReleased (s : State) (k : Nat) : Bool :=
  s.pairSide && decide (s.mono + 2 ≤ Tab.get (fun _ => 0) s.evt.clrDue k)

/-- R173: Ductus modulates a stack (DEDUCED, log entry 7). -/
def State.modulated (s : State) (k T : Nat) : Bool :=
  decide (s.sys.mode = .run) && s.stackEn k && !s.segBlocked k && !s.justReleased k && decide ((s.stkCfg k T).mode ≠ 0)

/-- Flags of a cell's segment (R108, R179, R290, R291, R295, R42) (DEDUCED, log entry 7). -/
def State.segFlags (s : State) (k ci : Nat) (hold : Bool) : Nat :=
  let c := s.cell ci
  let adm := s.admitted ci
  let block := c.retired || c.heldOut || c.lost || s.faulted ci || s.segBlocked k
  (if block then fBlock else 0) + (if c.bypReq then fByp else 0) + (if hold && adm then fHold else 0)
    + (if (s.mg ci).req = [] then 0 else fMgmt)

/-- A stack has inputs in the step: it is modulated, or pre-charge commands are posted for it (R173, R363). -/
def State.hasInputs (s : State) (k T : Nat) : Bool :=
  s.modulated k T || (!s.segBlocked k && !s.justReleased k && (s.post k).entries.any fun e => decide (e.kind = 3))

/-- The positions of a string that carry BLOCK and no edges: beyond CELLS, or at a disabled CI (R42, R118). -/
def State.blockedOf (s : State) (b : Nat) : List Nat :=
  ((List.range (s.slotsOf b)).filter fun pos =>
    !(decide (pos < W.PORT_CFG_CELLS (s.portCfg b)) && s.enabled (48 * b + pos))).map (· + 48 * b)

/-- Those positions on the strings of a stack. -/
def State.blockedPlaces (s : State) (k : Nat) : List Nat := (s.stackStrings k).flatMap s.blockedOf

/-- The step's own inputs: its stacks, cells with flags, code changes (R363 sections 1–3). -/
def State.ownStep (s : State) : StepIn :=
  let T := s.mono + 1 + s.look
  let ks := (List.range 16).filter s.stackEn
  { cycle := s.cycle.setWidth 48,
    inputs := (ks.filter fun k => s.hasInputs k T).map s.post,
    flags := ks.flatMap fun k =>
      let c := s.stkCfg k T
      let hold := s.modulated k T && c.hold && decide (c.mode = mdNls)
      ((s.stackCells k).filterMap fun ci =>
        let f := s.segFlags k ci hold
        if f = 0 then none else some { ci := ci, flags := f, mgmt := (s.mg ci).req })
      ++ (s.blockedPlaces k).filterMap fun ci =>
        if (s.mg ci).req = [] then none else some { ci := ci, flags := fBlock + fMgmt, mgmt := (s.mg ci).req },
    codes := s.sup.codes }

/-- State in which leg `k` of a built target counts at elapsed tick `t`: in dead time, the state it leaves (R207). -/
def Built.legAt (b : Built) (k t : Nat) : Nat :=
  b.trs.foldl (fun st x => if x.leg = k ∧ x.te ≤ t then x.new else st) ((b.legs[k]?).getD 0)

/-- What one step gives a cell: its flags and request, the wanted transitions, and whether it stepped. -/
structure CellJob where
  flags : Nat
  mgmt : List Byte
  wants : List Want
  stepped : Bool
  stop : Bool
  trim : Int
deriving DecidableEq, Repr

/-- Strength code that supervision holds for a switch and direction (R179, R266). -/
def State.codeOf (s : State) (ci sw : Nat) (on : Bool) : Nat :=
  let w := s.supSw (ci * 8 + sw)
  if on then w.postOn else w.postOff

/-- A cell's legs through one target: the edges of its segment, the spilled ones, the cell after it, the
transitions built, and counts of drops, stretches and discarded carry (DEDUCED, log entry 41). -/
def Duct.buildLegs (d : Duct) (c : StkCfg) (typ T ci : Nat) (job : CellJob) :
    List (Nat × Nat × Bool) × Duct × List Trn × Nat × Nat × Bool :=
  let t0 := T * 62500
  let t1 := t0 + 62500
  let n := legCount typ
  let st := if job.stop then d.stop t0 n else ([], d)
  let d := st.2
  let runs := (List.range n).map fun k =>
    (k, d.leg k, runLeg c k t0 (d.leg k) (job.wants.filterMap fun w =>
      if w.1 = ci ∧ w.2.1 = k then some (w.2.2.1, w.2.2.2) else none))
  let edges := runs.flatMap fun r =>
    (r.2.2.out.filter fun x => decide (x.1 < t1)).flatMap fun x => edgesOf r.1 x.1 (c.dtOf r.1) x.2.2 x.2.1
  let trs := runs.flatMap fun r =>
    (r.2.2.out.filter fun x => decide (x.1 < t1)).map fun x =>
      { t := x.1, te := if x.2.2 = lgOff ∨ x.2.1 = lgOff then x.1 else x.1 + c.dtOf r.1, leg := r.1, new := x.2.1 : Trn }
  let all := sortEdges (st.1 ++ d.spill ++ edges)
  let d := runs.foldl (fun (d : Duct) r => d.setLeg r.1 (r.2.1.after r.2.2 t1)) d
  (all.filter fun e => decide (e.1 < t1),
    { d with spill := all.filter fun e => decide (t1 ≤ e.1) }, trs,
    runs.foldl (fun a r => a + r.2.2.drops) 0, runs.foldl (fun a r => a + r.2.2.stretches) 0,
    runs.any fun r => r.2.2.cut)

/-- A counter of a stack raised by `n` (R202). -/
def satAdd (w : Word) (sat : Bool) (n : Nat) : Word × Bool × Bool :=
  let v := w.toNat + n
  if 0xFFFFFFFF ≤ v then (0xFFFFFFFF, true, !sat && decide (n ≠ 0)) else (BitVec.ofNat 32 v, sat, false)

/-- Drops and stretches counted in the stack's counters (R182, R183, R202). -/
def State.countLegs (s : State) (k drops stretches : Nat) : State :=
  let d := s.dstack k
  let a := satAdd d.drops d.dropSat drops
  let b := satAdd d.stretches d.strSat stretches
  let s := s.setDstack k { d with drops := a.1, dropSat := a.2.1, stretches := b.1, strSat := b.2.1 }
  (s.satEvent a.2.2 (K.DROP_CNT k) 52500).satEvent b.2.2 (K.STRETCH_CNT k) 52500

/-- R185: the checker's verdict on a cell's segment takes effect. A standby sends such a segment empty (R357). -/
def State.segFail (s : State) (k ci : Nat) (f : Nat × Nat) (blk : List Byte) : State :=
  let standby := s.pairSide && decide (s.pair.role ≠ .holder)
  let d := (s.dcell ci).off
  let s := s.setDcell ci { d with seg := if standby then [] else blk }
  let s := if bit s.duct.failCap 31 then s else
    { s with duct := { s.duct with failCap := at_ 1 31 ||| at_ ci 19 ||| at_ f.2 8 ||| at_ f.1 0 } }
  s.raise 0x0504 k (BitVec.ofNat 32 ci) 52500

/-- Transitions of the target before `T` whose dead time runs past its end: the leg counts in the state it leaves (R207). -/
def Duct.pending (d : Duct) (T : Nat) : List Trn :=
  match d.hist.find? fun b => b.tgt + 1 = T with
  | some b => b.trs.filter fun x => decide (T * 62500 < x.te)
  | none => []

/-- The state in which a leg counts at the start of target `T` (R207). -/
def Duct.startLeg (d : Duct) (T k : Nat) : Nat :=
  match d.hist.find? fun b => b.tgt + 1 = T with
  | some b => if (d.pending T).any fun x => decide (x.leg = k) then b.legAt k (T * 62500) else (d.leg k).st
  | none => (d.leg k).st

/-- One cell's segment for target `T` (R173, R177–R185); `bad` gives a verdict of the checker on a segment that
a fault inside the module has spoilt. -/
def State.buildCell (s : State) (c : StkCfg) (k typ T ci : Nat) (job : CellJob) (bad : Option (Nat × Nat)) : State :=
  let t0 := T * 62500
  let d := s.dcell ci
  let cell := s.cell ci
  let out := job.flags &&& (fBlock + fByp) ≠ 0 ∨ cell.bypClosed
  let b := if out then ([], d.off, [], 0, 0, false) else d.buildLegs c typ T ci job
  let hold := job.flags &&& fHold ≠ 0
  let recs := edgeRecords (fun sw on => s.codeOf ci sw on) t0 d.tag b.1
  let mgmt := if recs.length ≤ 12 then job.mgmt else []
  let fl := (job.flags &&& (fBlock + fByp + fHold)) + (if mgmt = [] then 0 else fMgmt)
  let full := s.admitted ci || decide (fl ≠ 0)
  let cyc := s.cycle.toNat + T - s.mono
  let blank := W.SUP_BLK_BLANK (s.wordAt T (K.SUP_BLK k))
  let soft := W.SUP_BLK_SOFT (s.wordAt T (K.SUP_BLK k))
  let epoch := if s.admitted ci then cell.epoch else 0
  let cmd := if full then (d.cmd + 1) % 256 else d.cmd
  let mk (fl : Nat) (recs : List Word) := segBytes (fAct + fl) recs cyc blank soft epoch cmd mgmt
  let free := if job.stop then d.lv else 0
  let ck := checkSeg c (legCount typ) free t0 (decide (mgmt ≠ [])) b.2.1 recs
  let bt : Built :=
    { tgt := T, legs := (List.range 4).map fun j => if out ∨ job.stop then lgOff else d.startLeg T j,
      trs := (if out ∨ job.stop then [] else d.pending T) ++ b.2.2.1, lv := if out then 0 else d.lv, recs := recs,
      block := decide (job.flags &&& fBlock ≠ 0), steps := b2n (job.stepped && !out && !hold), trim := job.trim }
  let s := s.setDcell ci { ck.2 with
    tag := (d.tag + recs.length) % 256, cmd := cmd, lv := levelsAfter b.2.1.lv b.1, ptLv := levelsAfter d.ptLv b.1,
    gates := recs.foldl (fun t w => Tab.put (fun _ => 0) t (recSw w) (recGate w)) d.gates,
    hist := (bt :: d.hist).filter fun b => decide (T ≤ b.tgt + 40) || (s.admitted ci && decide (cell.samp ≤ b.tgt + 1)), old := d.seg, seg := if full then mk fl recs else [] }
  let s := if mgmt = [] then s else
    let m := s.mg ci
    s.setMg ci { m with req := if m.req = mgmt then [] else m.req }
  let s := s.countLegs k b.2.2.2.1 b.2.2.2.2.1
  let s := if b.2.2.2.2.2 then s.raise 0x0502 k 0 52500 else s
  match (if bad.isSome then bad else ck.1) with
  | none => s
  | some f => s.segFail k ci f (mk ((fl &&& (fByp + fHold + fMgmt)) + fBlock) [])

/-- The segment of a position without a cell for target `T`: BLOCK, no edges, epoch 0, with a request that waits for the nib
there (R42, R108, R118, R136). -/
def State.buildBlocked (s : State) (k T ci : Nat) (mgmt : List Byte) : State :=
  let d := s.dcell ci
  let w := s.wordAt T (K.SUP_BLK k)
  let cmd := (d.cmd + 1) % 256
  let fl := fAct + fBlock + (if mgmt = [] then 0 else fMgmt)
  let g := segBytes fl [] (s.cycle.toNat + T - s.mono) (W.SUP_BLK_BLANK w) (W.SUP_BLK_SOFT w) 0 cmd mgmt
  let s := s.setDcell ci { d with cmd := cmd, old := d.seg, seg := g }
  if mgmt = [] then s else
  let m := s.mg ci
  s.setMg ci { m with req := if m.req = mgmt then [] else m.req }

/-- Module state in the cycle of step `j`. -/
def State.modeOf (s : State) (j : Nat) : ModState :=
  if j < s.mono ∧ s.sys.lastChg = s.cycle.setWidth 32 then s.sys.prev else s.sys.mode

/-- The stack is modulated in step `j`: it is named in the inputs of a step in RUN. -/
def State.stepRuns (s : State) (k j : Nat) (inp : StepIn) : Bool :=
  inp.inputs.any (fun x => decide (x.stack = k)) && decide (s.modeOf j = .run)

/-- The stack's wanted transitions, with the cells that stepped and NLS saturation (R173, R191–R197, R225). -/
def State.stackWants (s : State) (c : StkCfg) (k T : Nat) (run : Bool) (ps : List Piece) (x : StackIn) :
    State × List Want × List Nat :=
  let pre := s.preStack c k T ps x
  if !run then (s, pre, [])
  else if c.mode = mdNls then
    if c.hold then
      let live := liveLevel (s.stackType k) ((s.insertedCells k).map fun ci => (s.nlsCell (s.stackType k) 0 ci).1)
      (s.setDstack k { s.dstack k with level := live }, [], []) else
    let r := s.nlsStack k T c x
    let s := s.setDstack k { s.dstack k with want := r.1.want, level := r.1.live }
    (s.judge 0x0503 k r.2 1000 0 52500, r.1.out ++ pre,
      r.1.cells.filterMap fun c => if c.stepped then some c.ci else none)
  else if c.mode = mdPsc then (s, s.pscStack k T ps x ++ pre, [])
  else (s, s.dpsStack c k ps x ++ pre, [])

/-- One stack's part of step `j`, built for its target. -/
def State.buildStack (s : State) (j : Nat) (inp : StepIn) (bad : Nat → Option (Nat × Nat)) (k : Nat) : State :=
  let T := j + 1 + s.look
  let c := s.stkCfg k T
  let typ := s.stackType k
  let d := s.dstack k
  let run := s.stepRuns k j inp && decide (c.mode ≠ 0)
  let x := (inp.inputs.find? fun x => x.stack = k).getD (s.post k)
  let blocked := s.segBlocked k
  let d := if run ∧ !d.run then d.restart T else d
  let stop := (s.dstack k).run && !run && !blocked
  let d := if stop then { d with mask := 0, level := 0, want := 0 } else if run then d else { d with level := 0, want := 0 }
  let d := if c.src = 1 ∧ c.mode ≠ 0 ∧ x.staged.mask ≠ 0 ∧ !stop then d.stage x.staged.mask (stagedSet x.staged) T else d
  let p := if c.mode = 0 then ([], d) else d.pieces c typ T (s.cycle.toNat + T - s.mono)
  let s := s.setDstack k { p.2 with run := run }
  let w := s.stackWants c k T run p.1 x
  let s := w.1.setDstack k { w.1.dstack k with vEnd := x.vEnd }
  let wants := if stop then [] else w.2.1
  let s := (s.stackCells k).foldl (fun (s : State) (ci : Nat) =>
    let f := inp.flags.find? fun f => f.ci = ci
    s.buildCell c k typ T ci
      { flags := match f with | some f => f.flags | none => 0, mgmt := match f with | some f => f.mgmt | none => [],
        wants := wants, stepped := decide (ci ∈ w.2.2), stop := stop,
        trim := match x.entries.find? (fun e => e.ci = ci ∧ 2 ≤ e.kind) with | some e => entryVal e | none => 0 } (bad ci)) s
  let s := (s.blockedPlaces k).foldl (fun (s : State) (ci : Nat) =>
    s.buildBlocked k T ci (match inp.flags.find? fun f => f.ci = ci with | some f => f.mgmt | none => [])) s
  if s.evt.active.any fun e => decide (e.code = 0x0502 ∧ e.inst = k ∧ e.last + 10000 ≤ s.mono) then s.clear 0x0502 k 52500
  else s

/-- A step built: every enabled stack for target step + 1 + LOOKAHEAD (R169, R356). -/
def State.buildStep (s : State) (j : Nat) (inp : StepIn) (bad : Nat → Option (Nat × Nat)) : State :=
  ((List.range 16).filter s.stackEn).foldl (State.buildStack · j inp bad ·) s

/-- No step is built: every segment is empty (R357, R364) (DEDUCED, log entry 24). -/
def State.emptySegs (s : State) : State :=
  { s with duct := { s.duct with cells := s.duct.cells.filterMap fun x =>
      let d : Duct := { x.2 with old := x.2.seg, seg := [] }
      if d = Duct.init then none else some (x.1, d) } }

/-- A posted code; a side that follows the holder takes its code as its own (R363 section 3) (DEDUCED, log entry 37). -/
def SupSw.post (e : SupSw) (on follow : Bool) (code : Nat) : SupSw :=
  if on then { e with postOn := code, wear := if follow then { e.wear with curOn := code } else e.wear }
  else { e with postOff := code, wear := if follow then { e.wear with curOff := code } else e.wear }

/-- Code changes carried with a step take effect (R267, R363 section 3). -/
def State.takeCodes (s : State) (follow : Bool) (cs : List CodeChange) : State :=
  cs.foldl (fun (s : State) (x : CodeChange) =>
    s.setSupSw (x.ci * 8 + x.sw) ((s.supSw (x.ci * 8 + x.sw)).post x.turnOn follow x.code)) s

/-- The own step is kept: the last four for resending (R364). -/
def State.keepOwn (s : State) (x : StepIn) (holder : Bool) : State :=
  let last4 (l : List StepIn) : List StepIn := keepLast 4 l
  { s with
    duct := { s.duct with own := some x },
    sup := { s.sup with codes := [] },
    shadow := if holder then
        { s.shadow with kept := last4 (s.shadow.kept ++ [x]), unack := last4 (s.shadow.unack ++ [x]) }
      else s.shadow }

/-- The kept inputs of step `back` cycles before the present one. -/
def State.keptStep (s : State) (back : Nat) : Option StepIn :=
  s.shadow.kept.find? fun x => x.cycle = s.cycle.setWidth 48 - BitVec.ofNat 48 back

/-- The step a holder at SHIFT 1 builds: the former holder's inputs where they came, else its own (R365). -/
def State.heldStep (s : State) : Option StepIn :=
  match s.keptStep 1 with
  | some x => some x
  | none => s.duct.own

/-- A step built from the holder's inputs, which are no longer needed then (R356) (DEDUCED, log entry 24). -/
def State.followStep (s : State) (bad : Nat → Option (Nat × Nat)) (back : Nat) (x : StepIn) : State :=
  let later (y : StepIn) : Bool := decide (y.cycle ≠ x.cycle ∧ (y.cycle - x.cycle).toNat < 2 ^ 47)
  let s := { s with shadow := { s.shadow with kept := s.shadow.kept.filter later } }
  (s.takeCodes true x.codes).buildStep (s.mono - back) x bad

/-- A side that follows the holder builds the oldest step it lacks, and the one after it while it lags; while some are
still to build its segments are empty (R356, R362, R364). -/
def State.followUp (s : State) (bad : Nat → Option (Nat × Nat)) : State :=
  let lag := s.shadow.lag
  let r : State × Nat := match s.keptStep (lag + 1) with
    | some x => (s.followStep bad (lag + 1) x, lag)
    | none => (s, lag + 1)
  let r : State × Nat := if lag = 0 ∨ r.2 ≠ lag then r else match r.1.keptStep lag with
    | some x => (r.1.followStep bad lag x, lag - 1)
    | none => r
  let s := { r.1 with shadow := { r.1.shadow with lag := r.2 } }
  if r.2 = 0 then s else s.emptySegs

/-- The latch of a pair side without the token (R356, R362, R364). A side that moves to SHIFT 1 builds nothing
(DEDUCED, log entry 24). -/
def State.standbyLatch (s : State) (bad : Nat → Option (Nat × Nat)) : State :=
  let own := s.ownStep
  let s := if s.pairOps.shiftMove = 1 then s
    else if s.pair.role = .standby ∨ (s.pair.role = .joining ∧ s.shadow.join = 2) then s.followUp bad
    else s.emptySegs
  s.keepOwn own false

/-- R169, R356: the Ductus latch of the present cycle, once in each. `bad` names segments that a fault inside the
module has spoilt: cell, leg and check. -/
def execDuctusLatch (bad : List (Fin 3072 × Fin 4 × Fin 10)) (s : State) : Host.Outcome State Fault Refusal :=
  let s := s.silent
  if !s.sys.powered ∨ s.duct.latchAt = s.mono + 1 then .next s else
  let s := { s with duct := { s.duct with latchAt := s.mono + 1 } }
  let b : Nat → Option (Nat × Nat) := fun ci => (bad.find? fun x => x.1 = ci).map fun x => ((x.2.1 : Nat), (x.2.2 : Nat))
  if s.pairSide ∧ s.pair.role ≠ .holder then .next (s.standbyLatch b)
  else if s.pairSide ∧ (s.pair.shift = 1 ∨ s.pairOps.shiftMove = 2) then
    let s : State := if s.pairOps.shiftMove = 1 then s else
      match s.heldStep with
      | some x => (s.takeCodes false x.codes).buildStep (s.mono - 1) x b
      | none => s.emptySegs
    let own := s.ownStep
    let s := if s.pairOps.shiftMove = 2 then (s.takeCodes false own.codes).buildStep s.mono own b else s
    .next (s.keepOwn own true)
  else
    let own := s.ownStep
    .next (((s.takeCodes false own.codes).buildStep s.mono own b).keepOwn own s.pairSide)

end Sys2Proof.Machine
end

