-- ==== Sys2Proof/Machine/Sched.lean ====
section
/-! DEFINITION. The energy and heat scheduler (R204–R214, R224–R228, R398): current estimates, predicted
voltages, ranking, swaps, trims, pre-charge commands, the spread, and the governor. All values binary32 unless a
rule gives another form. -/

namespace Sys2Proof.Machine

/-! ## Values at the cut-off -/

def State.cutOf (s : State) (ci : Nat) : CellCut := Tab.get (fun _ => CellCut.init) s.sched.cut ci

/-- VCAP1 and VCAP2 at the cut-off, 0.1 V per LSB, and point 18, 0.1 A per LSB (R23). -/
def CellCut.raw1 (c : CellCut) : Nat := beAt c.slot 4 2
def CellCut.raw2 (c : CellCut) : Nat := beAt c.slot 6 2
def CellCut.rawI (c : CellCut) : Int := signed 16 (beAt c.slot 8 2)

/-- The same as engineering values (R23). -/
def State.v1 (s : State) (ci : Nat) : Word := fOfRat (s.cutOf ci).raw1 10
def State.v2 (s : State) (ci : Nat) : Word := fOfRat (s.cutOf ci).raw2 10
def State.iCell (s : State) (ci : Nat) : Word := fOfRat (s.cutOf ci).rawI 10

/-- C1 and C2 in farad (R38). -/
def State.c1 (s : State) (ci : Nat) : Word := fOfRat (W.CELL_CAP_C1 (s.word (K.CELL ci 3))) 100000
def State.c2 (s : State) (ci : Nat) : Word := fOfRat (W.CELL_CAP_C2 (s.word (K.CELL ci 3))) 100000

/-- Cells of a stack that the cut-off found in a service state. -/
def State.cutCells (s : State) (k : Nat) (v : Svc) : List Nat :=
  (s.stackCells k).filter fun ci => decide ((s.cutOf ci).svc = v.code)

/-! ## Planned states -/

/-- States of legs 0 and 1 of a built target at elapsed tick `t` (R207). -/
def Built.legsAt (b : Built) (t : Nat) : Nat × Nat := (b.legAt 0 t, b.legAt 1 t)

/-- A leg of the cell is in dead time at elapsed tick `t`. -/
def Built.deadAt (b : Built) (t : Nat) : Bool := b.trs.any fun x => decide (x.t ≤ t ∧ t < x.te)

def Duct.builtFor (d : Duct) (T : Nat) : Option Built := d.hist.find? fun b => b.tgt = T

/-- Signed insertion time of a cell in target `T` from elapsed tick `a` on, in ticks (R207): positive while it
inserts +V. -/
def Duct.inserted (d : Duct) (typ T a : Nat) : Int :=
  match d.builtFor T with
  | none => 0
  | some b =>
    let e := (T + 1) * 62500
    let cuts := sortNat (a :: (b.trs.map (·.te)).filter fun t => decide (a < t ∧ t < e)) ++ [e]
    (cuts.zip (cuts.drop 1)).foldl (fun (acc : Int) x =>
      let l := b.legsAt x.1
      acc + insState typ l.1 l.2 * ((x.2 : Int) - x.1)) 0

/-- Insertion state planned for the end of the last built target (R205). -/
def State.planned (s : State) (typ ci : Nat) : Int :=
  insState typ ((s.dcell ci).leg 0).final ((s.dcell ci).leg 1).final

/-! ## Stack current and energy -/

/-- Insertion of a sorted list of values. -/
def insertF (v : Word) : List Word → List Word
  | [] => [v]
  | x :: r => if fLt v x then v :: x :: r else x :: insertF v r

/-- The median of R206. -/
def median (l : List Word) : Word :=
  let s := l.foldr insertF []
  let n := s.length
  if n = 0 then 0
  else if n % 2 = 1 then (s[n / 2]?).getD 0
  else fMul fHalf (fAdd ((s[n / 2 - 1]?).getD 0) ((s[n / 2]?).getD 0))

/-- Ī of a stack (R206). -/
def State.stackCurrent (s : State) (k : Nat) : Word :=
  let src := W.SCH_MODE_ISRC (s.word (K.SCH_MODE k))
  if src ≠ 0 then Tab.get (fun _ => 0) s.sched.ai (src - 1)
  else median ((s.cutCells k .inserted).filterMap fun ci =>
    let c := s.cutOf ci
    match (s.dcell ci).builtFor (c.samp - 1) with
    | none => none
    | some b =>
      let t := c.samp * 62500 - 6250
      let l := b.legsAt t
      let st := insState (s.stackType k) l.1 l.2
      if st = 0 ∨ b.deadAt t then none else if st < 0 then some (fNeg (s.iCell ci)) else some (s.iCell ci))

/-- Ī_B (R206). -/
def State.currentFloor (s : State) (k : Nat) (i : Word) : Word :=
  let m := fMax (fAbs i) (fOfInt (W.SCH_PRE_IFLOOR (s.word (K.SCH_PRE k))))
  if fLt i 0 then fNeg m else m

/-- V_pred of a cell at the start of target `T` (R207) (DEDUCED, log entry 42). -/
def State.vPred (s : State) (k T : Nat) (i : Word) (ci : Nat) : Word :=
  let c := s.stkCfg k T
  let v := s.v1 ci
  if !W.SCHED_CTL_PRED (s.word K.SCHED_CTL) ∨ c.mode = mdDps ∨ c.mode = 0 ∨ fIsZero (s.c1 ci) then v else
  let typ := s.stackType k
  let d := s.dcell ci
  let cs := (s.cutOf ci).samp
  let ticks := d.inserted typ (cs - 1) (cs * 62500 - 6250)
    + ((List.range (T - cs)).map fun j => d.inserted typ (cs + j) ((cs + j) * 62500)).foldl (· + ·) 0
  fAdd v (fMul (fDiv i (s.c1 ci)) (fOfRat (ticks * 16) 100000000000))

/-- E = ½ C V² (R208). -/
def energy (c v : Word) : Word := fMul (fMul fHalf c) (fMul v v)

/-- What the scheduler works with for one stack. -/
structure SchedIn where
  k : Nat
  T : Nat
  typ : Nat
  ins : List Nat
  chg : List Nat
  i : Word
  ib : Word
  /-- Predicted VCAP1 by cell. -/
  vp : List (Nat × Word)
deriving DecidableEq, Repr

def SchedIn.v (x : SchedIn) (ci : Nat) : Word := match x.vp.find? (fun p => p.1 = ci) with | some p => p.2 | none => 0

def State.schedIn (s : State) (k : Nat) : SchedIn :=
  let T := s.mono + 1 + s.look
  let ins := s.cutCells k .inserted
  let chg := s.cutCells k .charging
  let i := (s.schStack k).cur
  { k := k, T := T, typ := s.stackType k, ins := ins, chg := chg, i := i, ib := s.currentFloor k i,
    vp := (ins ++ chg).map fun ci => (ci, s.vPred k T i ci) }

/-- x of every INSERTED cell (R208), with the sign λ. -/
def State.deviations (s : State) (x : SchedIn) (lam : Int) : List (Nat × Word) :=
  let es := x.ins.map fun ci => energy (s.c1 ci) (x.v ci)
  let mean := fMean es
  let den := fMul (fMul x.ib fCycle) (fMean (x.ins.map x.v))
  let neg := decide ((fSign x.i) * lam < 0)
  (x.ins.zip es).map fun p =>
    let d := fDiv (fSub p.2 mean) den
    (p.1, if neg then fNeg d else d)

/-! ## Ranking -/

def State.thSw (s : State) (j : Nat) : ThSw := Tab.get (fun _ => ThSw.init) s.therm.sw j
def State.setThSw (s : State) (j : Nat) (x : ThSw) : State :=
  { s with therm := { s.therm with sw := Tab.put (fun _ => ThSw.init) s.therm.sw j x } }

/-- Headroom of a cell over the switches of its first `legs` legs (R209). -/
def State.headroom (s : State) (ci legs : Nat) : Word :=
  let l := (List.range (2 * legs)).map fun w => (s.thSw (ci * 8 + w)).head
  l.foldl fMin ((l.head?).getD 0)

/-- x + WH × h + WS × s of a cell, `x` with the sign of its list (R209, R210). -/
def State.heatSwitch (s : State) (x : SchedIn) (nMean dev : Word) (ci : Nat) : Word :=
  let w := s.word (K.SCH_WEIGHT x.k)
  let soft := fOfInt (W.TH_LIMIT_HR_SOFT (s.word (K.TH_LIMIT (W.SCH_MODE_TSET_LO (s.word (K.SCH_MODE x.k))))))
  let h := fMax 0 (fDiv (fSub soft (s.headroom ci (legCount x.typ))) soft)
  let sw := fDiv (fSub (s.sch ci).n nMean) (fMax nMean fOne)
  fAdd (fAdd dev (fMul (fOfRat (W.SCH_WEIGHT_WH w) 256) h)) (fMul (fOfRat (W.SCH_WEIGHT_WS w) 256) sw)

/-- A sorted insertion by key, ties to the lower CI (R210) (DEDUCED, log entry 42). -/
def insertKey (p : Nat × Word) : List (Nat × Word) → List (Nat × Word)
  | [] => [p]
  | x :: r => if fLt p.2 x.2 ∨ (!fLt x.2 p.2 ∧ p.1 < x.1) then p :: x :: r else x :: insertKey p r

def sortKeys (l : List (Nat × Word)) : List Nat := (l.foldr insertKey []).map (·.1)

/-- λ of R210 and μ of R212. -/
def State.lambda (s : State) (x : SchedIn) : Int := if x.typ = 2 then fSign (s.dstack x.k).vEnd else 1

/-- Swap count (R211): the leading pairs whose deviations differ by more than the threshold. -/
def swapCount (dev : Nat → Word) (th : Word) : Nat → List Nat → List Nat → Nat
  | k + 1, a :: r, b :: q => if fLt th (fSub (dev b) (dev a)) then 1 + swapCount dev th k r q else 0
  | _, _, _ => 0

def lookupF (l : List (Nat × Word)) (ci : Nat) : Word := match l.find? (fun p => p.1 = ci) with | some p => p.2 | none => 0

/-- NLS lists and swaps (R209–R211). -/
def State.rankNls (s : State) (x : SchedIn) : List ListEntry × Nat :=
  let lam := s.lambda x
  let dev := s.deviations x lam
  let nMean := fMean (x.ins.map fun ci => (s.sch ci).n)
  let key (sgn : Bool) (p : Nat × Word) : Nat × Word :=
    (p.1, s.heatSwitch x nMean (if sgn then fNeg p.2 else p.2) p.1)
  let away := sortKeys ((dev.filter fun p => decide (s.planned x.typ p.1 = 0)).map (key false))
  let toward := sortKeys ((dev.filter fun p => decide (s.planned x.typ p.1 = lam)).map (key true))
  let bal := s.word (K.SCH_BAL x.k)
  let n := swapCount (lookupF dev) (fOfRat (W.SCH_BAL_SWAP_TH bal) 16) (W.SCH_BAL_SWAP_MAX bal) away toward
  (away.map (fun ci => { ci := ci, kind := 0, value := 0 }) ++ toward.map (fun ci => { ci := ci, kind := 1, value := 0 }), n)

/-- A number as 16 bits of a posted entry. -/
def val16 (v : Int) : Nat := unsigned 16 v

def State.kp (s : State) (k : Nat) : Word := fOfRat (W.SCH_BAL_KP (s.word (K.SCH_BAL k))) 256

/-- A trim within ±TRIM_MAX. -/
def State.trimClamp (s : State) (x : SchedIn) (v : Word) : Int :=
  let m : Int := (s.stkCfg x.k x.T).trimMax
  clampI (-m) m (fRound v)

/-- PSC trims (R212). -/
def State.trimsPsc (s : State) (x : SchedIn) : List (Nat × Int) :=
  let mu := s.lambda x
  (s.deviations x 1).map fun p =>
    let v := fMul (fNeg (s.kp x.k)) p.2
    (p.1, s.trimClamp x (if mu < 0 then fNeg v else v))

/-- One DAB8 cell's trim against means of energy and voltage (R213). -/
def State.trimDab (s : State) (x : SchedIn) (e1 e2 vb1 vb2 : Word) (ci : Nat) : Int :=
  let ib := fAbs x.ib
  let y1 := fDiv (fSub (energy (s.c1 ci) (s.v1 ci)) e1) (fMul (fMul ib fCycle) vb1)
  let y2 := fDiv (fSub (energy (s.c2 ci) (s.v2 ci)) e2) (fMul (fMul (fMul ib (fDiv vb1 vb2)) fCycle) vb2)
  let u := if W.STACK_CFG_OUT_PAR (s.word (K.STACK_CFG x.k)) then y1 else fSub y1 y2
  s.trimClamp x (fMul (s.kp x.k) u)

/-- DPS trims (R213). -/
def State.trimsDps (s : State) (x : SchedIn) : List (Nat × Int) :=
  let e1 := fMean (x.ins.map fun ci => energy (s.c1 ci) (s.v1 ci))
  let e2 := fMean (x.ins.map fun ci => energy (s.c2 ci) (s.v2 ci))
  let vb1 := fMean (x.ins.map s.v1)
  let vb2 := fMean (x.ins.map s.v2)
  x.ins.map fun ci => (ci, s.trimDab x e1 e2 vb1 vb2 ci)

/-! ## Pre-charge -/

/-- PRE_TOL in volt. -/
def State.preTol (s : State) (k : Nat) : Word := fOfRat (W.SCH_PRE_PRE_TOL (s.word (K.SCH_PRE k))) 10

/-- Targets of R224: means over the INSERTED cells, or over the CHARGING ones. -/
def State.preTargets (s : State) (x : SchedIn) : Word × Word :=
  let base := if x.ins = [] then x.chg else x.ins
  (fMean (base.map s.v1), fMean (base.map s.v2))

/-- Insertion order by time of entry into CHARGING, then CI (R225) (DEDUCED, log entry 42). -/
def insertSince (s : State) (ci : Nat) : List Nat → List Nat
  | [] => [ci]
  | y :: r => if (s.sch ci).since ≤ (s.sch y).since then ci :: y :: r else y :: insertSince s ci r

/-- Insertion state commanded of a pre-charging HB2 or FB4 cell (R225). -/
def State.preCommand (s : State) (x : SchedIn) (target : Word) (ci : Nat) : Int :=
  let d := fSub target (x.v ci)
  let far := fLt (fDiv (s.preTol x.k) fTwo) (fAbs d)
  let strong := fLe (fOfInt (W.SCH_PRE_IFLOOR (s.word (K.SCH_PRE x.k)))) (fAbs x.i)
  if !(far && strong) then 0
  else if x.typ = 2 then fSign x.i * fSign d
  else if fSign x.i = fSign d then 1 else 0

/-- A voltage lies within PRE_TOL of a target. -/
def State.within (s : State) (k : Nat) (times : Nat) (v target : Word) : Bool :=
  fLe (fAbs (fSub v target)) (fMul (fOfInt times) (s.preTol k))

/-- Second target of stack-wide pre-charge: V̄1 × VNOM2 / VNOM1 (R398). -/
def State.nomRatio (s : State) (ci : Nat) (v : Word) : Word :=
  let n := s.word (K.CELL ci 2)
  fDiv (fMul v (fOfRat (W.CELL_NOM_VNOM2 n) 10)) (fOfRat (W.CELL_NOM_VNOM1 n) 10)

/-- A pair side builds the step of the cycle in which a cell recovers without edges for it (R306). -/
def State.justRecovered (s : State) (ci : Nat) : Bool :=
  s.pairSide && decide (s.mono + 2 ≤ Tab.get (fun _ => 0) s.evt.clrDue (16 + ci))

/-- Pre-charge commands of a stack (R225, R226, R398). -/
def State.preCommands (s : State) (x : SchedIn) : List (Nat × Int) :=
  let c := s.stkCfg x.k x.T
  let t := s.preTargets x
  let x := { x with chg := x.chg.filter fun ci => !s.justRecovered ci }
  if s.segBlocked x.k then []
  else if s.sys.mode = .charging then
    if x.typ ≠ 3 ∨ (s.schStack x.k).phase ≠ 2 ∨ c.mode ≠ mdDps then []
    else
      let m := fMean (x.chg.map s.v1)
      x.chg.map fun ci =>
        let m2 := s.nomRatio ci m
        (ci, s.trimDab x (energy (s.c1 ci) m) (energy (s.c2 ci) m2) m m2 ci)
  else if x.typ = 3 then
    if c.mode ≠ mdDps then []
    else (x.chg.filter fun ci => s.within x.k 10 (s.v1 ci) t.1 && s.within x.k 10 (s.v2 ci) t.2).map fun ci =>
      (ci, s.trimDab x (energy (s.c1 ci) t.1) (energy (s.c2 ci) t.2) t.1 t.2 ci)
  else if c.mode ≠ mdNls ∧ c.mode ≠ mdPsc then []
  else ((x.chg.foldr (insertSince s) []).take (W.SCH_MODE_PRE_MAX (s.word (K.SCH_MODE x.k)))).map fun ci =>
    (ci, s.preCommand x t.1 ci)

/-- VCAP1 of a cell is at least half its nominal value (R224). -/
def State.halfNominal (s : State) (ci : Nat) : Bool :=
  decide (W.CELL_NOM_VNOM1 (s.word (K.CELL ci 2)) ≤ 2 * (s.cutOf ci).raw1)

/-- The criterion of R224 at this cut-off, for a cell admitted by itself. -/
def State.preMet (s : State) (x : SchedIn) (cmds : List (Nat × Int)) (ci : Nat) : Bool :=
  let t := s.preTargets x
  let c := s.stkCfg x.k x.T
  let held := c.hold && decide (c.mode = mdNls) && s.modulated x.k x.T
  !(s.cutOf ci).stale && !held && s.within x.k 1 (s.v1 ci) t.1 && s.halfNominal ci
    && (decide (x.typ ≠ 3) || s.within x.k 1 (s.v2 ci) t.2)
    && (match cmds.find? (fun p => p.1 = ci) with | some p => decide (x.typ = 3 ∨ p.2 = 0) | none => false)

/-- The criterion of a stack-wide phase for one cell (R398) (DEDUCED, log entry 42). -/
def State.phaseMet (s : State) (x : SchedIn) (phase ci : Nat) : Bool :=
  let m := fMean (x.chg.map s.v1)
  !(s.cutOf ci).stale && (if phase = 1 then s.halfNominal ci && s.within x.k 1 (s.v1 ci) m
    else s.within x.k 1 (s.v2 ci) (s.nomRatio ci m))

/-- Runs of the pre-charge criterion after this cut-off's commands (R224, R398). Outside a stack-wide pre-charge the
100th cut-off inserts the cell (DEDUCED, log entry 42). -/
def State.preJudge (s : State) (x : SchedIn) (cmds : List (Nat × Int)) : State :=
  if s.sys.mode = .charging then
    let d := s.schStack x.k
    if d.phase = 0 then s else
    let last := decide (d.phase = 2 ∨ x.typ ≠ 3)
    let ready := decide (x.chg ≠ []) && (s.stackCells x.k).all fun ci => decide ((s.mg ci).step ∉ [1, 2, 3, 4])
    let s := x.chg.foldl (fun (s : State) (ci : Nat) =>
      let c := s.cell ci
      s.setCell ci { c with preRun := if last && s.phaseMet x d.phase ci then c.preRun + 1 else 0 }) s
    s.setSchStack x.k { d with phaseRun := if ready && x.chg.all (s.phaseMet x d.phase) then d.phaseRun + 1 else 0 }
  else x.chg.foldl (fun (s : State) (ci : Nat) =>
    let c := s.cell ci
    let run := if s.preMet x cmds ci then c.preRun + 1 else 0
    let s := s.setCell ci { c with preRun := run }
    if 100 ≤ run then s.insertCell ci else s) s

/-! ## The cut-off's figures -/

/-- B for VCAP1 and VCAP2 (R214). -/
def State.spreadHigh (s : State) (k : Nat) (ins : List Nat) (ib : Word) (sp1 sp2 : Nat) : Bool :=
  let i := fMul (fAbs ib) fCycle
  let b1 := fDiv i (fMean (ins.map s.c1))
  let r := fDiv (fMean (ins.map s.v1)) (fMean (ins.map s.v2))
  let b2 := fDiv (fMul (fMul (fAbs ib) r) fCycle) (fMean (ins.map s.c2))
  let ovr (b : Word) (sp : Nat) := fLt (fAdd (fMul (fOfRat 5 2) b) (fOfRat 3 10)) (fOfRat sp 10)
  ovr b1 sp1 || (decide (s.stackType k = 3) && ovr b2 sp2)

/-- Peak-to-peak of raw values. -/
def spreadOf (l : List Nat) : Nat := l.foldl max 0 - (l.min?).getD 0

/-- A stack's part of the cut-off: Ī, V_avg, the spread with its event, and the smoothed counts (R204, R206, R209,
R214) (DEDUCED, log entry 42). -/
def State.cutStack (s : State) (k : Nat) : State :=
  let ins := s.cutCells k .inserted
  let i := s.stackCurrent k
  let sp1 := spreadOf (ins.map fun ci => (s.cutOf ci).raw1)
  let sp2 := if s.stackType k = 3 then spreadOf (ins.map fun ci => (s.cutOf ci).raw2) else 0
  let high := (s.dstack k).run && decide (ins ≠ []) && s.spreadHigh k ins (s.currentFloor k i) sp1 sp2
  let d := s.schStack k
  let run := if high then d.spreadRun + 1 else 0
  let s := s.setSchStack k { d with
    cur := i, vAvg := if ins = [] then 0 else fMean (ins.map s.v1), spread1 := sp1, spread2 := sp2, spreadRun := run }
  let s := if (s.dstack k).run then s.judgeRun 0x0608 k high run 1000 10000 37500 else s
  let w := W.SCHED_CTL_SW_WIN (s.word K.SCHED_CTL) * 100
  let f := fSub fOne (fDiv fOne (fOfInt w))
  ins.foldl (fun (s : State) (ci : Nat) =>
    let c := s.sch ci
    let st := match (s.dcell ci).hist with | b :: _ => b.steps | [] => 0
    s.setSch ci { c with n := fAdd (fMul c.n f) (fOfInt st) }) s

/-! ## The posting -/

/-- Trims held at their limit (R213). -/
def State.trimJudge (s : State) (x : SchedIn) (trims : List (Nat × Int)) : State :=
  let m := (s.stkCfg x.k x.T).trimMax
  (s.stackCells x.k).foldl (fun (s : State) (ci : Nat) =>
    let at_ := match trims.find? (fun p => p.1 = ci) with | some p => decide (p.2.natAbs = m) | none => false
    let c := s.sch ci
    let run := if at_ then c.trimRun + 1 else 0
    let s := s.setSch ci { c with trimRun := run }
    s.judgeRun 0x0609 ci at_ run 1000 1000 50000) s

/-- A stack's posting (R204, R205) (DEDUCED, log entry 42). -/
def State.postStack (s : State) (late : BitVec 16) (k : Nat) : State :=
  let x := s.schedIn k
  let c := s.stkCfg k x.T
  let run := s.modulated k x.T && decide (x.ins ≠ [])
  let lists := if run ∧ c.mode = mdNls then s.rankNls x else ([], 0)
  let trims := if !run then [] else if c.mode = mdPsc then s.trimsPsc x else if c.mode = mdDps then s.trimsDps x else []
  let cmds := s.preCommands x
  let vPre := if x.typ = 3 then 0 else fSum (cmds.filterMap fun p =>
    if p.2 = 0 then none else some (if p.2 < 0 then fNeg (x.v p.1) else x.v p.1))
  let s := s.trimJudge x trims
  let d := s.schStack k
  if late.getLsbD k && s.modulated k x.T then
    let s := s.setSchStack k { d with lateRun := d.lateRun + 1 }
    let s := s.raise 0x0606 k 0 50000
    let s := if d.lateRun + 1 = 3 then s.raise 0x0607 k 0 50000 else s
    s.preJudge x []
  else
    let s := s.setSchStack k { d with lateRun := 0, pre := cmds.length }
    let s := if s.isActive 0x0606 k then s.judge 0x0606 k false 1000 0 50000 else s
    let s := { s with sched := { s.sched with
      ranked := mset s.sched.ranked k (s.modulated k x.T),
      sortMax := if run then max s.sched.sortMax (2 * x.ins.length + 96) else s.sched.sortMax } }
    let s := s.setPost k { s.post k with
      vPre := vPre, swaps := lists.2,
      entries := lists.1 ++ trims.map (fun p => { ci := p.1, kind := 2, value := val16 p.2 })
        ++ cmds.map (fun p => { ci := p.1, kind := 3, value := val16 p.2 }) }
    s.preJudge x cmds

/-- R204, R205: the scheduler's posting at 8 µs; `late` names the stacks whose posting is not complete. -/
def execSchedPost (late : BitVec 16) (s : State) : Host.Outcome State Fault Refusal :=
  let s := s.silent
  let s := { s with sched := { s.sched with ranked := 0, sortMax := 0 } }
  .next (((List.range 16).filter s.stackEn).foldl (fun (s : State) (k : Nat) => s.postStack late k) s)

/-! ## The governor -/

/-- LEVEL of R227 from the one before and the die temperature in 0.1 °C. -/
def govNext (old : Nat) (die amber red : Int) : Nat :=
  if old = 0 then (if red ≤ die then 2 else if amber ≤ die then 1 else 0)
  else if old = 1 then (if red ≤ die then 2 else if die < amber - 30 then 0 else 1)
  else if die < red - 30 then 1 else 2

/-- R227, R234: the governor's work of one cycle (DEDUCED, log entry 43). -/
def execGovernorUpdate (die : BitVec 16) (s : State) : Host.Outcome State Fault Refusal :=
  let s := s.silent
  let w := s.word K.GOV_CTL
  let old := s.sched.govLevel
  let new := govNext old die.toInt (10 * W.GOV_CTL_T_AMBER w) (10 * W.GOV_CTL_T_RED w)
  let s := { s with sched := { s.sched with govLevel := new, dieT := die } }
  let s := if new = 1 ∧ old ≠ 1 then s.raise 0x060A 0 0 0 else if new = 0 then s.clear 0x060A 0 0 else s
  .next (if new = 2 ∧ old ≠ 2 then s.raise 0x060B 0 0 0 else if new ≠ 2 then s.clear 0x060B 0 0 else s)

end Sys2Proof.Machine
end

