-- ==== Sys2Proof/Machine/Thermal.lean ====
section
/-! DEFINITION. The thermal array (R215–R223): losses from the built schedule, the Foster model, case temperatures,
headroom and its events, and the checking unit. A loss is computed exactly and rounded once to binary32 (DEDUCED,
log entry 8); every other step is binary32. -/

namespace Sys2Proof.Machine

/-- The exact value of a binary32 word, 0 for infinities and NaN. -/
def fVal (w : Word) : Rat := mkRat (fRat w).1 (fRat w).2

/-- A rational rounded to binary32. -/
def fOfVal (q : Rat) : Word := fOfRat q.num q.den

/-- Seconds of a number of ticks. -/
def secs (ticks : Rat) : Rat := ticks * 16 / 100000000000

/-- A thermal set (R232). -/
structure TSet where
  r : List Word
  tau : List Word
  v0 : Rat
  ron : Rat
  kon : Rat
  koff : Rat
  slope : Rat
  tjMax : Nat
  soft : Nat
  warn : Nat
  llk : Rat
deriving DecidableEq, Repr

def State.tset (s : State) (j : Nat) : TSet :=
  let w (i : Nat) := s.word (K.TH_R1 j + i)
  let l := s.word (K.TH_LIMIT j)
  { r := (List.range 4).map w, tau := (List.range 4).map fun i => w (4 + i), v0 := fVal (w 8), ron := fVal (w 9),
    kon := fVal (w 10), koff := fVal (w 11), slope := fVal (w 12), tjMax := W.TH_LIMIT_TJMAX l,
    soft := W.TH_LIMIT_HR_SOFT l, warn := W.TH_LIMIT_HR_WARN l, llk := fVal (w 14) }

/-- The set of a switch's legs (R215, R231). -/
def State.tsetOf (s : State) (k leg : Nat) : TSet :=
  let m := s.word (K.SCH_MODE k)
  s.tset (if leg < 2 then W.SCH_MODE_TSET_LO m else W.SCH_MODE_TSET_HI m)

/-- a_k and R_k × (1 − a_k) of R215 (DEDUCED, log entry 8). -/
def poleA (tau : Word) : Word := fExpNeg (fDiv fCycle tau)
def poleB (r tau : Word) : Word := fMul r (fSub fOne (poleA tau))

/-! ## The current -/

/-- A linear piece of a current over elapsed ticks [a, b): its value at `a` and at `b`, A. -/
structure ISeg where
  a : Nat
  b : Nat
  i0 : Rat
  i1 : Rat
deriving DecidableEq, Repr

/-- The current of a piece list at a tick. -/
def currentAt (l : List ISeg) (t : Nat) : Rat :=
  match l.find? fun x => decide (x.a ≤ t ∧ t ≤ x.b ∧ x.a < x.b) with
  | some x => x.i0 + (x.i1 - x.i0) * ((t : Int) - x.a : Int) / ((x.b : Int) - x.a : Int)
  | none => 0

/-- A linear current clipped to one sign: ∫|i| and ∫i² over its part of that sign, in A·ticks and A²·ticks. -/
def linInt (pos : Bool) (len i0 i1 : Rat) : Rat × Rat :=
  let j0 := if pos then i0 else -i0
  let j1 := if pos then i1 else -i1
  let full := ((j0 + j1) / 2 * len, (j0 * j0 + j0 * j1 + j1 * j1) / 3 * len)
  if 0 ≤ j0 ∧ 0 ≤ j1 then full
  else if j0 ≤ 0 ∧ j1 ≤ 0 then (0, 0)
  else
    let j := if 0 < j0 then j0 else j1
    let part := len * j / (if 0 < j0 then j0 - j1 else j1 - j0)
    (j / 2 * part, j * j / 3 * part)

/-- ∫|i| and ∫i² of a current over [a, b), with the parts of positive and of negative sign. -/
def intOver (l : List ISeg) (a b : Nat) : (Rat × Rat) × (Rat × Rat) :=
  l.foldl (fun acc x =>
    let lo := max a x.a
    let hi := min b x.b
    if hi ≤ lo then acc else
    let i0 := currentAt [x] lo
    let i1 := currentAt [x] hi
    let len : Rat := ((hi - lo : Nat) : Int)
    let p := linInt true len i0 i1
    let n := linInt false len i0 i1
    ((acc.1.1 + p.1, acc.1.2 + p.2), (acc.2.1 + n.1, acc.2.2 + n.2))) ((0, 0), (0, 0))

/-- States of the four DAB legs at position `p` of the period (R197): P where q lies below the duty. -/
def dabLeg (g : GenSet) (sg : Nat) (trim : Int) (leg p : Nat) : Bool :=
  let o2 := (sg : Int) + g.phi + trim
  let o : Int := if leg = 0 then 2 * (sg : Int) else if leg = 1 then 2 * (sg : Int) + 65536 - g.d1
    else if leg = 2 then 2 * o2 else 2 * o2 + 65536 - g.d2
  let off := (o % 131072).toNat * g.period / 131072
  decide ((p + g.period - off % g.period) % g.period < ticksOf g.duty g.period)

/-- Positions of the period at which a leg changes. -/
def dabCuts (g : GenSet) (sg : Nat) (trim : Int) : List Nat :=
  (List.range 4).flatMap fun leg =>
    let o2 := (sg : Int) + g.phi + trim
    let o : Int := if leg = 0 then 2 * (sg : Int) else if leg = 1 then 2 * (sg : Int) + 65536 - g.d1
      else if leg = 2 then 2 * o2 else 2 * o2 + 65536 - g.d2
    let off := (o % 131072).toNat * g.period / 131072
    [off % g.period, (off + ticksOf g.duty g.period) % g.period]

/-- Slope of the primary current in A per tick at position `p` (R217). -/
def dabSlope (g : GenSet) (sg : Nat) (trim : Int) (v1 v2 n llk : Rat) (p : Nat) : Rat :=
  let d (a b : Nat) : Rat := ((b2n (dabLeg g sg trim a p) : Int) - b2n (dabLeg g sg trim b p) : Int)
  secs ((d 0 1 * v1 - n * (d 2 3 * v2)) / llk)

/-- The wave over one period from position 0, with its starting value (R217): the second half-period is the
negative of the first (DEDUCED, log entry 8; DEDUCED, log entry 43). -/
def dabWave (g : GenSet) (sg : Nat) (trim : Int) (v1 v2 n llk : Rat) : List ISeg :=
  let half := g.period / 2
  let cuts := (sortNat (0 :: half :: g.period :: dabCuts g sg trim)).eraseDups
  let segs := (cuts.zip (cuts.drop 1)).map fun x => (x.1, x.2, dabSlope g sg trim v1 v2 n llk x.1)
  let rise := (segs.filter fun x => decide (x.1 < half)).foldl
    (fun (a : Rat) x => a + x.2.2 * ((x.2.1 - x.1 : Nat) : Int)) 0
  (segs.foldl (fun (acc : List ISeg × Rat) x =>
    let e := acc.2 + x.2.2 * ((x.2.1 - x.1 : Nat) : Int)
    (acc.1 ++ [⟨x.1, x.2.1, acc.2, e⟩], e)) ([], -rise / 2)).1

/-- The wave laid over a piece of the cycle that begins at position `p`. -/
def waveOver (w : List ISeg) (per : Nat) (pc : Piece) : List ISeg :=
  [0, 1].flatMap fun (n : Nat) => w.filterMap fun x =>
    let a := (pc.a + n * per + x.a : Int) - pc.p
    let b := (pc.a + n * per + x.b : Int) - pc.p
    let lo := max a pc.a
    let hi := min b pc.b
    if hi ≤ lo then none else
    let at_ (t : Int) : Rat := x.i0 + (x.i1 - x.i0) * (t - a) / (b - a)
    some ⟨lo.toNat, hi.toNat, at_ lo, at_ hi⟩

/-- The current of legs 0–1 of a cell in cycle `c` (R216, R217): point 18 held, or the bridge current. A blocked
DAB8 cell's primary carries point 18 through its diodes (DEDUCED, log entry 43). -/
def State.cellCurrent (s : State) (k ci c : Nat) (blocked : Bool) (trim : Int) : List ISeg :=
  let slot := (s.cell ci).slot
  let t0 := c * 62500
  if s.stackType k ≠ 3 ∨ blocked then
    let i : Rat := mkRat (signed 16 (beAt slot 8 2)) 10
    [⟨t0, t0 + 62500, i, i⟩]
  else
    let v1 : Rat := mkRat (beAt slot 4 2) 10
    let v2 : Rat := mkRat (beAt slot 6 2) 10
    let nom := s.word (K.CELL ci 2)
    let n : Rat := mkRat (W.CELL_NOM_VNOM1 nom) (W.CELL_NOM_VNOM2 nom)
    let llk := (s.tset (W.SCH_MODE_TSET_LO (s.word (K.SCH_MODE k)))).llk
    let sg := s.stagger (s.stkCfg k c) k ci
    ((s.dstack k).pcs.filter fun p => decide (t0 ≤ p.a ∧ p.a < t0 + 62500)).flatMap fun p =>
      waveOver (dabWave p.set sg trim v1 v2 n llk) p.set.period p

/-! ## Losses -/

/-- The switch whose diode carries a positive current of a leg: the upper one of legs 0 and 2, the lower one of
legs 1 and 3 (R216) (DEDUCED, log entry 43). -/
def posDiode (leg : Nat) : Nat := if leg % 2 = 0 then 2 * leg else 2 * leg + 1
def negDiode (leg : Nat) : Nat := if leg % 2 = 0 then 2 * leg + 1 else 2 * leg

/-- Energies of a cell in one cycle by switch, J, and the magnitude of the current at each switch's last edge. -/
structure LossAcc where
  e : Tab Rat
  iEv : Tab Rat
  t : Nat
  lv : Nat
deriving DecidableEq, Repr

def LossAcc.add (a : LossAcc) (sw : Nat) (q : Rat) : LossAcc :=
  { a with e := Tab.put (fun _ => 0) a.e sw (Tab.get (fun _ => 0) a.e sw + q) }

/-- Conduction from the running instant to `t` (R216). `scale` is n on legs 2–3 of a DAB8 cell. -/
def LossAcc.conduct (sets : Nat → TSet) (cur : List ISeg) (scale : Nat → Rat) (legs t : Nat) (a : LossAcc) : LossAcc :=
  let q := intOver cur a.t t
  let a' := (List.range legs).foldl (fun (acc : LossAcc) leg =>
    let m := scale leg
    let z := sets leg
    let loss (i : Rat × Rat) : Rat := secs (z.v0 * (i.1 * m) + z.ron * (i.2 * m * m))
    let up := a.lv.testBit (2 * leg)
    let lo := a.lv.testBit (2 * leg + 1)
    if up then acc.add (2 * leg) (loss q.1 + loss q.2)
    else if lo then acc.add (2 * leg + 1) (loss q.1 + loss q.2)
    else (acc.add (posDiode leg) (loss q.1)).add (negDiode leg) (loss q.2)) a
  { a' with t := t }

/-- Energy of one edge (R216). -/
def edgeEnergy (z : TSet) (on : Bool) (i vdc : Rat) (gate : Nat) : Rat :=
  (if on then z.kon else z.koff) * i * vdc * (1 + z.slope * ((15 - gate : Nat) : Int) / 15)

/-- One edge: conduction up to it, then its switching energy. -/
def LossAcc.edge (sets : Nat → TSet) (cur : List ISeg) (scale : Nat → Rat) (legs t0 : Nat) (vdc : Nat → Rat)
    (a : LossAcc) (w : Word) : LossAcc :=
  let t := t0 + recOffset w
  let sw := recSw w
  let a := a.conduct sets cur scale legs t
  let i := (currentAt cur t * scale (sw / 2)).abs
  let a := a.add sw (edgeEnergy (sets (sw / 2)) (recLevel w) i (vdc (sw / 2)) (recGate w))
  { a with lv := mset a.lv sw (recLevel w), iEv := Tab.put (fun _ => 0) a.iEv sw i }

/-- DC voltage of a leg (R216). -/
def State.legVdc (s : State) (ci leg : Nat) : Rat :=
  let slot := (s.cell ci).slot
  mkRat (if leg < 2 then beAt slot 4 2 else beAt slot 6 2) 10

/-- A cell's losses in cycle `c` (R216) (DEDUCED, log entry 8). -/
def State.cellLoss (s : State) (k ci c : Nat) : LossAcc :=
  let d := s.dcell ci
  let b := d.builtFor c
  let blocked := (match b with | some b => b.block | none => true)
    || decide (s.segFlags k ci false &&& fBlock ≠ 0)
  let typ := s.stackType k
  let t0 := c * 62500
  let trim := match b with | some b => b.trim | none => 0
  let cur := s.cellCurrent k ci c blocked trim
  let nom := s.word (K.CELL ci 2)
  let n : Rat := mkRat (W.CELL_NOM_VNOM1 nom) (W.CELL_NOM_VNOM2 nom)
  let scale (leg : Nat) : Rat := if leg < 2 then 1 else if blocked then 0 else n
  let sets := s.tsetOf k
  let legs := legCount typ
  let recs := match b with | some b => if blocked then [] else b.recs | none => []
  let lv := match b with | some b => if blocked then 0 else b.lv | none => 0
  (recs.foldl (LossAcc.edge sets cur scale legs t0 (s.legVdc ci)) { e := [], iEv := [], t := t0, lv := lv }).conduct
    sets cur scale legs (t0 + 62500)

/-! ## Case temperatures -/

/-- Raw temperature byte of a leg's case sensor: offset −40 °C (R23, R24). -/
def Cell.caseRaw (c : Cell) (leg : Nat) : Nat := (byteAt c.slot (10 + leg)).toNat

def State.thRef (s : State) (j : Nat) : ThRef := Tab.get (fun _ => ThRef.init) s.therm.refs j

/-- R218: a reading is implausible when it has changed by more than JUMP_LIM within 100 cycles. Its encoding keeps
it between −40 °C and +215 °C. -/
def ThRef.jump (r : ThRef) (now raw lim : Nat) : Bool :=
  let rec go : List (Nat × Nat) → Bool
    | [] => false
    | (c, v) :: rest => decide (lim < ((raw : Int) - v).natAbs) || (decide (now < c + 100) && go rest)
  go r.hist

/-- The reference's history with the present reading (DEDUCED, log entry 43). -/
def ThRef.note (r : ThRef) (now raw : Nat) (bad : Bool) : ThRef :=
  { hist := match r.hist with
      | (c, v) :: rest => if v = raw then (c, v) :: rest else ((now, raw) :: (c, v) :: rest).take 102
      | [] => [(now, raw)],
    badAt := if bad then now + 1 else r.badAt }

/-- A reading is used: plausible now and for the last 10,000 cycles (R218). -/
def ThRef.good (r : ThRef) (now : Nat) : Bool := decide (r.badAt = 0 ∨ r.badAt + 10000 ≤ now + 1)

/-- The case temperature of a leg in raw units: its own reading, or the highest valid one of the same leg among the
stack's INSERTED cells (R218); none where no such cell has one. -/
def State.caseOf (s : State) (k ci leg : Nat) : Option Nat :=
  if (s.thRef (ci * 4 + leg)).good s.mono then some ((s.cell ci).caseRaw leg)
  else ((s.insertedCells k).filterMap fun x =>
    if (s.thRef (x * 4 + leg)).good s.mono then some ((s.cell x).caseRaw leg) else none).max?

/-- T_ref of a leg (R215, R218): a free value where R218 has no reading to take (DESIGN CHOICE, log entry 2;
DEDUCED, log entry 43). -/
def State.caseTemp (s : State) (free k ci leg : Nat) : Word :=
  match s.caseOf k ci leg with
  | some raw => fOfInt ((raw : Int) - 40)
  | none => Config.freeWord (free + leg)

/-- Free values for the legs of a cell without a reading, each fresh (DESIGN CHOICE, log entry 2). -/
def State.caseDraw (s : State) (k ci : Nat) : State :=
  if (List.range 4).any fun leg => (s.caseOf k ci leg).isNone then { s with free := s.free + 4 } else s

/-- R218 for a cell: its legs' readings judged, with THERM_SENSOR (DEDUCED, log entry 43). -/
def State.judgeCase (s : State) (k ci : Nat) : State :=
  let lim := W.THERM_CTL_JUMP_LIM (s.word K.THERM_CTL)
  let legs := List.range (legCount (s.stackType k))
  let s := legs.foldl (fun (s : State) (leg : Nat) =>
    let r := s.thRef (ci * 4 + leg)
    let raw := (s.cell ci).caseRaw leg
    let bad := r.jump s.mono raw lim
    { s with therm := { s.therm with
      refs := Tab.put (fun _ => ThRef.init) s.therm.refs (ci * 4 + leg) (r.note s.mono raw bad) } }) s
  if legs.all fun leg => (s.thRef (ci * 4 + leg)).good s.mono then s.clear 0x0603 ci 0 else s.raise 0x0603 ci 0 0

/-! ## The step -/

/-- The next poles, junction temperature and headroom of a switch (R215, R220). -/
def thermNext (x : ThSw) (z : TSet) (p tref : Word) (iEv vdc : Rat) (gOn gOff : Nat) : ThSw :=
  let bs := (z.r.zip z.tau).map fun q => poleB q.1 q.2
  let nx (i : Nat) (th : Word) : Word :=
    fAdd (fMul (poleA ((z.tau[i]?).getD 0)) th) (fMul ((bs[i]?).getD 0) p)
  let t1 := nx 0 x.th1
  let t2 := nx 1 x.th2
  let t3 := nx 2 x.th3
  let t4 := nx 3 x.th4
  let tj := fAdd (fAdd (fAdd (fAdd tref t1) t2) t3) t4
  let ev := fOfVal ((edgeEnergy z true iEv vdc gOn + edgeEnergy z false iEv vdc gOff) * 100000)
  let dT := fMul ev (fSum bs)
  { th1 := t1, th2 := t2, th3 := t3, th4 := t4, tj := tj, head := fSub (fSub (fOfRat z.tjMax 10) tj) dT,
    iEv := fOfVal iEv }

/-- A cell's switches are stepped (R219), the losses kept while the side joins (R362). -/
def State.stepCell (s : State) (k ci : Nat) : State × List (Nat × Word) :=
  let s := s.judgeCase k ci
  let typ := s.stackType k
  let loss := s.cellLoss k ci (s.mono - 1)
  let point : Rat := (mkRat (signed 16 (beAt (s.cell ci).slot 8 2)) 10).abs
  (List.range (2 * legCount typ)).foldl (fun (a : State × List (Nat × Word)) (sw : Nat) =>
    let j := ci * 8 + sw
    let x := a.1.thSw j
    let p := fOfVal (Tab.get (fun _ => 0) loss.e sw * 100000)
    let i := if typ = 3 then
        (match loss.iEv.find? fun e => e.1 = sw with | some e => e.2 | none => fVal x.iEv)
      else point
    let tref := s.caseTemp s.free k ci (sw / 2)
    (a.1.setThSw j (thermNext x (s.tsetOf k (sw / 2)) p tref i (s.legVdc ci (sw / 2)) (s.codeOf ci sw true) (s.codeOf ci sw false)),
      a.2 ++ [(j, p)])) (s.caseDraw k ci, [])

/-- Events of a cell's headroom (R220, R234). -/
def State.judgeHeat (s : State) (k ci : Nat) : State :=
  let sws := List.range (2 * legCount (s.stackType k))
  let z (sw : Nat) := s.tsetOf k (sw / 2)
  let x (sw : Nat) := s.thSw (ci * 8 + sw)
  let low := sws.any fun sw => fLt (x sw).head (fOfInt (z sw).warn)
  let cool := sws.all fun sw => fLe (fOfInt ((z sw).warn + 2)) (x sw).head
  let ovr := sws.any fun sw => fLe (fOfRat (z sw).tjMax 10) (x sw).tj
  let hot := sws.any fun sw => fLe (fSub (fOfRat (z sw).tjMax 10) (fOfInt (z sw).soft)) (x sw).tj
  let run := if cool then Tab.get (fun _ => 0) s.therm.coolRun ci + 1 else 0
  let s := { s with therm := { s.therm with coolRun := Tab.put (fun _ => 0) s.therm.coolRun ci (min run 1000) } }
  let s := if low then s.raise 0x0601 ci 0 0 else if 1000 ≤ run then s.clear 0x0601 ci 0 else s
  if ovr then s.raise 0x0602 ci 0 0
  else { s with evt := { s.evt with active := s.evt.active.map fun e =>
    if e.code = 0x0602 ∧ e.inst = ci then { e with cond := hot, last := if hot then s.mono else e.last } else e } }

/-- Cells whose switches are modelled: CHARGING, INSERTED or FAULTED (R215) (DEDUCED, log entry 43). -/
def State.modelled (s : State) (k : Nat) : List Nat :=
  (s.stackCells k).filter fun ci => s.inService ci || decide (s.svc ci = .faulted)

/-- HR_MIN and HOT_CI of a stack (R220, R231). -/
def State.hottest (s : State) (k : Nat) : State :=
  let legs := legCount (s.stackType k)
  match s.modelled k with
  | [] => s.setSchStack k { s.schStack k with hrMin := 0, hotCi := 0 }
  | c :: r =>
    let b := r.foldl (fun (b : Nat × Word) ci => if fLt (s.headroom ci legs) b.2 then (ci, s.headroom ci legs) else b) (c, s.headroom c legs)
    s.setSchStack k { s.schStack k with
      hrMin := unsigned 16 (clampI (-32768) 32767 (fRound (fMul b.2 (fOfInt 10)))), hotCi := b.1 }

/-- The checking unit's switch of this cycle: the next modelled one in rotation (R222) (DEDUCED, log entry 43). -/
def State.checked (s : State) : Option Nat :=
  let js := (((List.range 16).filter s.stackEn).flatMap fun k =>
    (s.modelled k).flatMap fun ci => (List.range (2 * legCount (s.stackType k))).map (ci * 8 + ·))
  match (js.filter fun j => decide (s.therm.rot ≤ j)).min? with
  | some j => some j
  | none => js.min?

/-- R222: a mismatch of the checked switch. -/
def State.mismatch (s : State) (j : Nat) : State :=
  let lane := j % 48
  let was := Tab.get (fun _ => 0) s.therm.lanes lane
  let c := satInc s.therm.miscnt s.therm.misSat
  let s := { s with therm := { s.therm with
    miscnt := c.1, misSat := c.2.1, lanes := Tab.put (fun _ => 0) s.therm.lanes lane (s.mono + 1),
    fail := if bit s.therm.fail 31 then s.therm.fail
      else at_ 1 31 ||| at_ lane 25 ||| at_ (j / 8) 13 ||| at_ (j % 8) 10 } }
  let s := s.satEvent c.2.2 K.THERM_MISCNT 0
  let s := s.raise 0x0604 0 0 0
  if was ≠ 0 ∧ s.mono + 1 ≤ was + 100000 then s.raise 0x0605 0 0 0 else s

/-- R215–R222: the thermal step of the cycle just executed. `mis` names switches whose lane gave another result
than the checking unit (DEDUCED, log entry 43). -/
def execThermalStep (mis : List (Fin 3072 × Fin 8)) (s : State) : Host.Outcome State Fault Refusal :=
  let s := s.silent
  let ks := (List.range 16).filter s.stackEn
  let r := ks.foldl (fun (a : State × List (Nat × Word)) (k : Nat) =>
    (a.1.modelled k).foldl (fun (a : State × List (Nat × Word)) (ci : Nat) =>
      let x := a.1.stepCell k ci
      (x.1.judgeHeat k ci, a.2 ++ x.2)) a) (s, [])
  let s := ks.foldl State.hottest r.1
  let s := if s.pair.role = .joining then { s with therm := { s.therm with kept := s.therm.kept ++ [r.2] } } else s
  if !W.THERM_CTL_CHECK_EN (s.word K.THERM_CTL) then .next (s.judge 0x0604 0 false 100000 0 0) else
  match s.checked with
  | none => .next (s.judge 0x0604 0 false 100000 0 0)
  | some j =>
    let s := { s with therm := { s.therm with rot := j + 1 } }
    if mis.any fun m => (m.1 : Nat) * 8 + (m.2 : Nat) = j then .next (s.mismatch j)
    else .next (s.judge 0x0604 0 false 100000 0 0)

/-- R221: an admitted cell's poles and switching count start at 0, and its case readings are judged afresh
(DEDUCED, log entry 43). -/
def State.resetTherm (s : State) (ci : Nat) : State :=
  let s := (List.range 8).foldl (fun (s : State) (sw : Nat) => s.setThSw (ci * 8 + sw) ThSw.init) s
  let s := { s with therm := { s.therm with
    refs := (List.range 4).foldl (fun r leg => Tab.put (fun _ => ThRef.init) r (ci * 4 + leg) ThRef.init) s.therm.refs } }
  s.setSch ci { s.sch ci with n := 0 }

end Sys2Proof.Machine
end

