-- ==== Sys2Proof/Machine/Loops.lean ====
section
/-! DEFINITION. The control loop engine (R235–R260): sources, the ramp, the controller with its feed-forwards and
back-calculation, selector groups, frozen, suspended, open and closed slots, and the output stage. Every operation
is rounded to binary32 by itself, in the order of the pseudocode (R239). -/

namespace Sys2Proof.Machine

/-! ## Arithmetic -/

/-- The integer square root of `n`, built from bit `b` down. -/
def isqrtFrom (n : Nat) : Nat → Nat → Nat
  | 0, r => if (r + 1) * (r + 1) ≤ n then r + 1 else r
  | b + 1, r => isqrtFrom n b (if (r + 2 ^ (b + 1)) * (r + 2 ^ (b + 1)) ≤ n then r + 2 ^ (b + 1) else r)

/-- The correctly rounded square root of a value that is not negative (R239) (DEDUCED, log entry 8). -/
def fSqrt (w : Word) : Word :=
  match fDec w with
  | .fin _ m e =>
    let e2 := if e % 2 = 0 then e else e - 1
    let m2 := if e % 2 = 0 then m else 2 * m
    let n := m2 <<< 60
    let r := isqrtFrom n 43 0
    let v := 2 * r + (if r * r = n then 0 else 1)
    let f := fFrac v (e2 / 2 - 31)
    fEnc false f.1 f.2
  | _ => w

/-- A value when it is finite: a NaN or an infinity discards the sample (R245). -/
def fin? (w : Word) : Option Word := if fFinite w then some w else none

/-- R241: the ramp from r and v toward a, over one sample of Ts; `k` gives the coefficients. -/
def rampStep (k : Nat → Word) (ts a r v : Word) : Option (Word × Word) := do
  let d ← fin? (fSub a r)
  if fIsZero (k 9) then some (a, 0)
  else if fIsZero (k 10) then
    let rt ← fin? (fMul (k 9) ts)
    let step := fMin (fMax d (fNeg rt)) rt
    let r' ← fin? (fAdd r step)
    let v' ← fin? (fDiv step ts)
    some (r', v')
  else
    let ha ← fin? (fMul fHalf (k 10))
    let tt ← fin? (fMul ts ts)
    let lim ← fin? (fMul ha tt)
    let dv ← fin? (fMul (k 10) ts)
    if fLe (fAbs d) lim && fLe (fAbs v) dv then some (a, 0)
    else
      let a2 ← fin? (fMul fTwo (k 10))
      let q ← fin? (fMul a2 (fAbs d))
      let vs := if fLt d 0 then fNeg (fSqrt q) else fSqrt q
      let vd := fMin (fMax vs (fNeg (k 9))) (k 9)
      let dd ← fin? (fSub vd v)
      let vn ← fin? (fAdd v (fMin (fMax dd (fNeg dv)) dv))
      let sv ← fin? (fAdd v vn)
      let hv ← fin? (fMul fHalf sv)
      let st ← fin? (fMul hv ts)
      let r' ← fin? (fAdd r st)
      some (r', vn)

/-- What a slot's sources give it in a sample. -/
structure LoopIn where
  a : Word
  b : Word
  vin : Option Word
  lo : Word
  hi : Word
deriving DecidableEq, Repr

/-- A sample up to its candidate (R242). -/
structure Sample where
  r : Word
  v : Word
  I : Word
  e : Word
  w : Word
  g : Word
  u : Word
  c : Word
deriving DecidableEq, Repr

/-- The feed-forward ff = (KR × v + KC × r) + BIAS. -/
def feedForward (k : Nat → Word) (r v : Word) : Option Word := do
  let kv ← fin? (fMul (k 3) v)
  let kr ← fin? (fMul (k 4) r)
  let s ← fin? (fAdd kv kr)
  fin? (fAdd s (k 13))

/-- The input-voltage gain g of R242. -/
def gain (k : Nat → Word) : Option Word → Option Word
  | none => some fOne
  | some vin => do
    let v ← fin? vin
    fin? (fDiv (k 11) (fMax v (k 12)))

/-- An integrator held to ±ILIM. -/
def heldI (k : Nat → Word) (i : Word) : Word := fMin (fMax i (fNeg (k 6))) (k 6)

/-- R248: the states that a closing slot starts from. -/
def startStates (k : Nat → Word) (x : LoopIn) (g hold : Word) : Option (Word × Word × Word) := do
  let b ← fin? x.b
  let r ← fin? (fMul (k 5) b)
  let h ← fin? (fDiv hold g)
  let ff ← feedForward k r 0
  let i ← fin? (fSub h ff)
  some (r, 0, heldI k i)

/-- R241, R242: one sample up to its candidate, from the states before it. -/
def LoopSt.sample (l : LoopSt) (k : Nat → Word) (ts : Word) (x : LoopIn) : Option Sample := do
  let a ← fin? x.a
  let b ← fin? x.b
  let lo ← fin? x.lo
  let hi ← fin? x.hi
  let g ← gain k x.vin
  let s0 ← if l.starting then startStates k x g l.hold else some (l.r, l.v, l.I)
  let rv ← rampStep k ts a s0.1 s0.2.1
  let fb ← fin? (fMul (k 5) b)
  let e ← fin? (fSub rv.1 fb)
  let ff ← feedForward k rv.1 rv.2
  let pe ← fin? (fMul (k 0) e)
  let pi ← fin? (fAdd pe s0.2.2)
  let w ← fin? (fAdd pi ff)
  let u ← fin? (fMul g w)
  some { r := rv.1, v := rv.2, I := s0.2.2, e := e, w := w, g := g, u := u, c := fMin (fMax u lo) hi }

/-- The back-calculation of R242 with the output `y` that the slot takes (DEDUCED, log entry 8). -/
def Sample.integrate (p : Sample) (k : Nat → Word) (ts y : Word) : Option Word := do
  let ie ← fin? (fMul (k 1) p.e)
  let yg ← fin? (fDiv y p.g)
  let d ← fin? (fSub yg p.w)
  let kd ← fin? (fMul (k 2) d)
  let s ← fin? (fAdd ie kd)
  let st ← fin? (fMul ts s)
  let i ← fin? (fAdd p.I st)
  some (heldI k i)

/-! ## Slots and sources -/

def State.slot (s : State) (n : Nat) : LoopSt := Tab.get (fun _ => LoopSt.init) s.loops.slots n
def State.setSlot (s : State) (n : Nat) (l : LoopSt) : State :=
  { s with loops := { s.loops with slots := Tab.put (fun _ => LoopSt.init) s.loops.slots n l } }

/-- A structure word of a slot by its window offset (R253), and a coefficient (R257). -/
def State.slotWord (s : State) (n w : Nat) : Word := s.word (slotKey n w)
def State.coeff (s : State) (n i : Nat) : Word := s.slotWord n (0x18 + i)
def State.slotEn (s : State) (n : Nat) : Bool := W.SL_CFG_EN (s.slotWord n 0x10)
def State.slotGroup (s : State) (n : Nat) : Nat := W.SL_CFG_GROUP (s.slotWord n 0x10)
def State.slotDest (s : State) (n : Nat) : Nat := W.SL_OUT_DEST (s.slotWord n 0x16)
def State.slotStack (s : State) (n : Nat) : Nat := W.SL_OUT_STACK (s.slotWord n 0x16)

/-- A slot's output as others read it: 0.0 with EN = 0 (R236). -/
def State.slotOut (s : State) (n : Nat) : Word := if s.slotEn n then (s.slot n).out else 0

/-- Source words (R237). -/
def srcKind (w : Word) : Nat := field w 31 28
def srcIndex (w : Word) : Nat := field w 17 0

/-- Engineering value of a point of a cell image (R23, R236). -/
def pointValue (c : CellCut) (n : Nat) : Word :=
  let tail (i : Nat) : Nat := (byteAt c.tail i).toNat
  if n < 8 then fOfInt (b2n (c.lv.testBit n))
  else if n < 16 then fOfInt ((Tab.get (fun _ => 0) c.gates (n - 8) : Nat) : Int)
  else if n = 16 then fOfRat c.raw1 10
  else if n = 17 then fOfRat c.raw2 10
  else if n = 18 then fOfRat c.rawI 10
  else if n < 25 then fOfInt ((byteAt c.slot (n - 9)).toNat - 40)
  else if n = 25 then fOfInt (c.byp : Nat)
  else if n = 26 then fOfInt (tail 13)
  else if n < 35 then (if tail (n - 27) = 255 then fNaN else fOfInt (tail (n - 27)))
  else if n = 35 then fOfInt (tail 9 * 256 + tail 12 : Nat)
  else if n = 36 then fOfRat (beAt c.tail 14 2) 1000
  else if n = 37 then fOfRat (signed 16 (beAt c.tail 16 2)) 10
  else if n = 38 then fOfRat (signed 16 (beAt c.tail 18 2)) 10
  else if n = 39 then fOfRat (beAt c.tail 20 2) 10
  else 0

/-- Cycles in a row for which a point has been stale (R25, R244) (DEDUCED, log entry 37). -/
def State.pointStale (s : State) (id : Nat) : Nat := if id % 64 < 16 then 0 else (s.cell (id / 64)).staleRun

/-- A stack quantity of R238 as the engine reads it: from the cut-off before (R236). -/
def State.quantity (s : State) (k code : Nat) : Word :=
  if code = 6 then (s.post k).vPre else Tab.get (fun _ => 0) s.loops.quantOld (k * 8 + code)

/-- The value of a source (R236, R237). -/
def State.source (s : State) (w : Word) : Word :=
  let i := srcIndex w
  match srcKind w with
  | 1 => pointValue (s.cutOf (i / 64)) (i % 64)
  | 2 => Tab.get (fun _ => 0) s.sched.ai (i % 32)
  | 3 => s.word (K.SP (i % 128))
  | 4 => s.slotOut (i % 256)
  | 5 => s.quantity (i % 16) (i / 256 % 16)
  | _ => 0

/-- The source words of a slot: SL_REF, SL_FB, SL_VIN, SL_LO, SL_HI. -/
def State.slotSources (s : State) (n : Nat) : List Word := (List.range 5).map fun j => s.slotWord n (0x11 + j)

/-- Stale cycles of a slot's point sources, each (R244). -/
def State.slotStale (s : State) (n : Nat) : List Nat :=
  (s.slotSources n).filterMap fun w => if srcKind w = 1 then some (s.pointStale (srcIndex w)) else none

/-- What the sources give a slot in this cycle. -/
def State.slotIn (s : State) (n : Nat) : LoopIn :=
  let w (j : Nat) : Word := s.slotWord n (0x11 + j)
  { a := s.source (w 0), b := s.source (w 1), vin := if srcKind (w 2) = 0 then none else some (s.source (w 2)),
    lo := if srcKind (w 3) = 0 then s.coeff n 7 else s.source (w 3),
    hi := if srcKind (w 4) = 0 then s.coeff n 8 else s.source (w 4) }

/-- Stack quantities 0–5 of R238 of one stack at this cut-off. -/
def State.stackQuants (s : State) (k : Nat) : List Word :=
  let ins := s.cutCells k .inserted
  let v1 := ins.map s.v1
  let v2 := if s.stackType k = 3 then ins.map s.v2 else []
  let cur := (s.schStack k).cur
  if ins = [] then [cur, 0, 0, 0, 0, 0]
  else [cur, fSum v1, fSum v2, fMean v1, if v2 = [] then 0 else fMean v2, fOfInt ins.length]

/-- The quantities of every stack at the cut-off, those before kept for the engine (R236) (DEDUCED, log entry 54). -/
def State.cutQuants (s : State) : State :=
  let q := ((List.range 16).filter s.stackEn).foldl (fun (t : Tab Word) (k : Nat) =>
    ((s.stackQuants k).zipIdx).foldl (fun (t : Tab Word) p => Tab.put (fun _ => 0) t (k * 8 + p.2) p.1) t) []
  { s with loops := { s.loops with quantOld := s.loops.quant, quant := q } }

/-! ## A bank -/

/-- Ts of R240: the binary32 value nearest 2^DIV × 10 µs. -/
def State.slotTs (s : State) (n : Nat) : Word := fOfRat (2 ^ W.SL_CFG_DIV (s.slotWord n 0x10) : Nat) 100000

/-- R240: the slot samples in this cycle. -/
def State.samples (s : State) (n : Nat) : Bool := decide (s.cycle.toNat % 2 ^ W.SL_CFG_DIV (s.slotWord n 0x10) = 0)

/-- Members of a slot's selector group, or the slot alone (R243): slots of its bank. -/
def State.groupOf (s : State) (n : Nat) : List Nat :=
  let g := s.slotGroup n
  if g = 0 then [n]
  else ((List.range 16).map (· + n / 16 * 16)).filter fun j => s.slotEn j && decide (s.slotGroup j = g)

/-- R243, R247: a slot is suspended while it, or the wired member of its group, is wired to a stack that is not modulated
(DEDUCED, log entry 9). -/
def State.suspended (s : State) (n : Nat) : Bool :=
  (s.groupOf n).any fun j =>
    decide (s.slotDest j ≠ 0) && !s.modulated (s.slotStack j) (s.mono + 1 + s.look)

/-- LOOP_OPEN takes effect at a sample (R248, R249): y_hold becomes the value, or the present output
(DEDUCED, log entry 9). -/
def LoopSt.takeOpen (l : LoopSt) (now : Bool) : LoopSt :=
  if !now then l else
  match l.opening with
  | none => l
  | some v => { l with
      closed := false, susp := false, starting := false, opening := none,
      hold := match v with | none => l.out | some x => x }

/-- What a slot brings to the end of its bank: nothing, a held candidate, or a sample. -/
inductive Offer where
  | none
  | held (c : Word)
  | calc (p : Sample) (x : LoopIn)
deriving DecidableEq, Repr

/-- A suspended slot outputs Y0; a closed one will restart with y_hold = Y0 (R247, R248) (DEDUCED, log entry 9). -/
def LoopSt.suspend (l : LoopSt) (y0 : Word) : LoopSt :=
  if l.closed then { l with susp := true, starting := true, hold := y0, y := y0, out := y0 }
  else { l with susp := true, y := y0, out := y0 }

/-- One slot up to its candidate, with its new state and events still to be taken (R240–R248). `s` is the state
before the bank. The staleness of a point source counts in cycles, whether or not the slot samples (R244)
(DEDUCED, log entry 9). -/
def State.slotOffer (s : State) (n : Nat) : LoopSt × Offer :=
  let now := s.samples n
  if s.suspended n then ((s.slot n).suspend (s.coeff n 14), .none) else
  let l := (s.slot n).takeOpen now
  let runs := s.slotStale n
  let long := runs.any fun r => decide (W.LOOP_CTL_STALE_LIM (s.word K.LOOP_CTL) < r)
  if !now then (if l.closed && long then { l with stale := true } else l, .none)
  else if !l.closed then ({ l with susp := false, y := l.hold, cand := l.hold }, .held l.hold)
  else
    let l := { l with susp := false }
    if long || (l.stale && runs.any fun r => decide (0 < r)) then ({ l with stale := true, cand := l.y }, .held l.y)
    else
      let l := { l with stale := false, cyc := s.cycle.setWidth 16 }
      let x := s.slotIn n
      match l.sample (s.coeff n) (s.slotTs n) x with
      | none => ({ l with nonfin := true, cand := l.y }, .held l.y)
      | some p => (l, .calc p x)

def Offer.cand : Offer → Option Word
  | .none => .none
  | .held c => some c
  | .calc p _ => some p.c

/-- The lowest candidate of a group (R243) (DEDUCED, log entry 54). -/
def lowest (l : List Word) : Option Word :=
  match l with
  | [] => none
  | c :: cs => some (cs.foldl (fun m x => if fLt x m then x else m) c)

/-- The output that the holder sent for a slot in its last frame (R355) (DEDUCED, log entry 9; DEDUCED, log entry 54). -/
def State.trackedOut (s : State) (n : Nat) : Option Word :=
  if s.pairSide && decide (s.pair.role = .standby ∨ s.pair.role = .joining) && s.shadow.rxAt.isSome
      && decide (s.slotDest n ≠ 0)
  then some (Tab.get (fun _ => 0) s.shadow.outputs n) else none

/-- The output of a group: the lowest candidate, or on a standby the holder's output of its wired member (R355)
(DEDUCED, log entry 9). -/
def State.groupOut (s : State) (mem : List Nat) (cands : List Word) : Option Word :=
  match mem.findSome? s.trackedOut with
  | some y => some y
  | none => lowest cands

/-- Counts and states after a sample whose values are all finite (R242, R258, R260). -/
def LoopSt.finish (l : LoopSt) (p : Sample) (x : LoopIn) (i y : Word) (wired : Bool) : LoopSt :=
  let crossed := fLt x.hi x.lo
  let sat := crossed || !fEq p.c p.u
  { l with
    r := p.r, v := p.v, I := i, e := p.e, y := y, out := y, cand := p.c, starting := false, nonfin := false, sat := sat,
    ramp := !fEq p.r x.a,
    satRun := if sat && wired then l.satRun + 1 else 0,
    crossRun := if crossed then 0 else l.crossRun + 1 }

/-- The events of a slot's sample (R260). `old` is the slot before it. -/
def State.slotEvents (s : State) (n : Nat) (x : LoopIn) (old l : LoopSt) (t : Nat) : State :=
  let s := if old.stale then s.clear 0x0701 n t else s
  let s := if old.nonfin then s.clear 0x0702 n t else s
  let s := if fLt x.hi x.lo then s.raise 0x0703 n 0 t else if 1000 ≤ l.crossRun then s.clear 0x0703 n t else s
  if !l.sat then s.clear 0x0704 n t else if l.satRun = 1000 then s.raise 0x0704 n 0 t else s

/-- A slot at the end of its bank with the output of its group (R242, R243, R245). -/
def State.slotTake (s : State) (n : Nat) (l : LoopSt) (o : Offer) (yg : Option Word) (sel : Bool) (t : Nat) : State :=
  let old := s.slot n
  let grouped := decide (s.slotGroup n ≠ 0)
  match o, yg with
  | .calc p x, some y =>
    match p.integrate (s.coeff n) (s.slotTs n) y with
    | some i =>
      let l' := { l.finish p x i y (decide (s.slotDest n ≠ 0)) with sel := sel }
      (s.setSlot n l').slotEvents n x old l' t
    | none =>
      let s := s.setSlot n { l with
        nonfin := true, cand := l.y, sel := sel, out := if grouped then y else l.y }
      (if old.stale then s.clear 0x0701 n t else s).raise 0x0702 n 0 t
  | .held c, some y =>
    let s := s.setSlot n { l with sel := sel, out := if grouped then y else c }
    let s := if l.stale && l.closed then s.raise 0x0701 n 0 t else if old.stale && !l.stale then s.clear 0x0701 n t else s
    if l.nonfin && l.closed && !l.stale then s.raise 0x0702 n 0 t else s
  | _, _ => if l.stale && !old.stale then (s.setSlot n l).raise 0x0701 n 0 t else s.setSlot n l

/-- The lowest-numbered member whose candidate is the group's output (R243). -/
def selected (offers : List (Nat × LoopSt × Offer)) (yg : Option Word) : Option Nat :=
  match yg with
  | none => none
  | some y => (offers.find? fun o => match o.2.2.cand with | some c => fEq c y | none => false).map (·.1)

/-- One bank of 16 slots (R235, R243). -/
def State.runBank (s : State) (b : Nat) : State :=
  let t := 37500 + 768 * b
  let ns := ((List.range 16).map (· + 16 * b)).filter s.slotEn
  let offers := ns.map fun n => (n, s.slotOffer n)
  let s := { s with loops := { s.loops with
    ranNow := s.loops.ranNow + (offers.filter fun o =>
      o.2.1.closed && !o.2.1.susp && !o.2.1.stale && decide (o.2.2 ≠ .none)).length } }
  offers.foldl (fun (s : State) o =>
    let mem := s.groupOf o.1
    let mine := offers.filter fun p => decide (p.1 ∈ mem)
    let yg := s.groupOut mem (mine.filterMap fun p => p.2.2.cand)
    let sel := decide (mem.length = 1) || decide (selected mine yg = some o.1)
    s.slotTake o.1 o.2.1 o.2.2 yg sel t) s

/-- `LOOP_BANK_RUN`: bank `b` of the loop engine (DEDUCED, log entry 54). -/
def execLoopBankRun (b : Fin 16) (s : State) : Host.Outcome State Fault Refusal :=
  let s := s.silent
  .next (s.runBank b)

/-! ## The output stage -/

/-- PERIOD in ticks for a frequency (R246): 6.25 × 10⁹ / f rounded to binary64, then to the nearest tick. -/
def periodTicks (y : Word) : Nat :=
  let f := fRat (fMin (fMax y 0x447A0000) 0x47435000)
  let num := 6250000000 * f.2
  let den := f.1.toNat
  let k := Nat.log2 (num / den)
  let n := roundDiv ((num <<< (52 - k) : Nat) : Int) den
  (roundDiv n (1 <<< (52 - k))).toNat

/-- A fraction as a number of 2⁻¹⁶, held to a range (R246). -/
def fracField (y : Word) (lo hi : Int) : Int := clampI lo hi (roundDiv ((fRat y).1 * 65536) (fRat y).2)

/-- The posted fields with one converted output put in. -/
def putField (x : StackIn) (dest : Nat) (pre : Bool) (y : Word) : StackIn :=
  let g := x.staged
  match dest with
  | 1 => { x with vEnd := if pre then fSub y x.vPre else y }
  | 2 => { x with staged := { g with mask := g.mask ||| 16, period := periodTicks y } }
  | 3 => { x with staged := { g with mask := g.mask ||| 8, duty := (fracField y 0 65535).toNat } }
  | 4 => { x with staged := { g with mask := g.mask ||| 4, phi := unsigned 16 (fracField y (-32768) 32767) } }
  | 5 => { x with staged := { g with mask := g.mask ||| 2, d1 := (fracField y 0 65535).toNat } }
  | 6 => { x with staged := { g with mask := g.mask ||| 1, d2 := (fracField y 0 65535).toNat } }
  | _ => x

/-- Enabled slots wired to a stack. -/
def State.wiredTo (s : State) (k : Nat) : List Nat :=
  (List.range 256).filter fun n => s.slotEn n && decide (s.slotDest n ≠ 0 ∧ s.slotStack n = k)

/-- A stack's posted fields for its target (R246) (DEDUCED, log entry 54). -/
def State.stageOutputs (s : State) (k : Nat) : State :=
  let ns := s.wiredTo k
  let x0 := { s.post k with vEnd := 0, staged := (stackIn0 k).staged }
  let s := s.setPost k (ns.foldl (fun x n =>
    putField x (s.slotDest n) (W.SL_OUT_PRE_SUB (s.slotWord n 0x16)) (s.slotOut n)) x0)
  let md := (s.stkCfg k (s.mono + 1 + s.look)).mode
  if ns.any fun n => decide (s.slotDest n = 1) then s.clear 0x0705 k 50000
  else if s.modulated k (s.mono + 1 + s.look) && decide (md = mdNls ∨ md = mdPsc) then s.raise 0x0705 k 0 50000
  else s

/-- `LOOP_OUTPUT_STAGE`: the wired outputs become stack fields for target m + 1 + LOOKAHEAD (R246)
(DEDUCED, log entry 54). -/
def execLoopOutputStage (s : State) : Host.Outcome State Fault Refusal :=
  let s := s.silent
  .next (((List.range 16).filter s.stackEn).foldl State.stageOutputs s)

/-- `LOOP_OUTPUT_DEADLINE`: the output stage has not finished by 51,250 ticks (R235) (DEDUCED, log entry 54). -/
def execLoopOutputDeadline (s : State) : Host.Outcome State Fault Refusal :=
  let s := s.silent
  .next (s.raise 0x0706 0 0 51250)

/-! ## Opening, closing and coefficients -/

/-- The effect of LOOP_OPEN (R249): at the next sample of a closed slot; on an open one MODE 1 replaces y_hold
(DEDUCED, log entry 54; DEDUCED, log entry 9). -/
def State.openSlot (s : State) (n : Nat) (v : Option Word) : State :=
  let l := s.slot n
  if l.closed then s.setSlot n { l with opening := some v }
  else match v with
    | none => s
    | some x => s.setSlot n (if l.susp then { l with hold := x }
        else { l with hold := x, y := x, out := if s.slotGroup n = 0 then x else l.out })

/-- R250: the slot may close. -/
def State.mayClose (s : State) (n : Nat) : Bool :=
  let pos (w : Word) : Bool := fLt 0 w
  s.slotEn n
    && (decide (srcKind (s.slotWord n 0x13) = 0) || (pos (s.coeff n 11) && pos (s.coeff n 12)))
    && !(decide (srcKind (s.slotWord n 0x14) = 0) && decide (srcKind (s.slotWord n 0x15) = 0)
      && fLt (s.coeff n 8) (s.coeff n 7))

/-- The effect of LOOP_CLOSE (R248, R250). -/
def State.closeSlot (s : State) (n : Nat) : State :=
  let l := s.slot n
  if l.closed then s else s.setSlot n { l with closed := true, starting := true, opening := none, y := if l.susp then l.y else l.hold }

/-- The effect of LOOP_COEFF_SET (R251): values from coefficient `i` on. -/
def State.setCoeffs (s : State) (n : Nat) : Nat → List Word → State
  | _, [] => s
  | i, v :: vs => (s.setWord (slotKey n (0x18 + i)) v).setCoeffs n (i + 1) vs

/-- A value that LOOP_COEFF_SET may write at coefficient `i` (R251). -/
def coeffOk (i : Nat) (v : Word) : Bool :=
  fFinite v && !(decide (i = 9 ∨ i = 10 ∨ i = 6 ∨ i = 11 ∨ i = 12) && fLt v 0) && !(decide (i = 15) && !fIsZero v)

end Sys2Proof.Machine
end

