-- ==== Sys2Proof/Machine/Lanes.lean ====
section
/-! DEFINITION. The lane events (Optical Lanes, R81–R89, R98–R100): signal and sync, the equaliser sweep,
the comma hunt, code violations, the transmitter's bias and the electrical idle. -/

namespace Sys2Proof.Machine

/-- LANE_LOS and LANE_SYNC_LOSS are raised only for a lane with EN = 1, EIDLE = 0, LOOP = 0 and TEST = 0
(R100). -/
def State.lossReported (s : State) (i : Nat) : Bool := s.laneInUse i

/-- The equaliser code outside a sweep with EQ_AUTO = 0 (R85). -/
def State.eqFixed (s : State) (i : Nat) : Nat := W.LANE_CTL_EQ (s.laneCtl i)

/-- LANE_STAT.EQ_USED at the start of the present cycle (R85, R98): 0 in OFF, the code under measurement during a sweep,
which takes 1,024 symbols at each code, LANE_CTL.EQ under EQ_AUTO = 0, else the code kept. -/
def State.eqShown (s : State) (i : Nat) : Nat :=
  let l := s.lane i
  if l.state = 0 then 0
  else if l.sweeping then min 15 ((s.ticks 0 - l.sweepAt) / (1024 * symTicks (s.rateOf i)))
  else if W.LANE_CTL_EQ_AUTO (s.laneCtl i) then l.eqUsed
  else s.eqFixed i

/-- LANE_STAT.DECODE_OK at the start of the present cycle (R84, R98): in SYNC, no violation in the last 1,024 symbols. -/
def State.decodeShown (s : State) (i : Nat) : Bool :=
  let l := s.lane i
  if l.state = 5 then decide (l.badAt + 1024 * symTicks (s.rateOf i) ≤ s.ticks 0) else l.decodeOk

/-- The state in which a lane with light and a locked CDR looks for its word boundary: HUNT, or SLIP under ALIGN = 1
(R83). -/
def State.huntState (s : State) (i : Nat) : Nat := if W.LANE_CTL_ALIGN (s.laneCtl i) = 1 then 4 else 3

/-- A loopback or a test pattern is selected (R89). -/
def State.looped (s : State) (i : Nat) : Bool :=
  decide (W.LANE_CTL_LOOP (s.laneCtl i) ≠ 0 ∨ W.LANE_CTL_TEST (s.laneCtl i) ≠ 0)

/-- A lane begins acquisition at tick `t`: in TRAIN until it has light and a locked CDR, and while the sweep of EQ_AUTO = 1
runs (R85, R98). -/
def State.startAcquire (s : State) (i : Nat) (sweep : Bool) (t : Nat) : State :=
  let l := s.lane i
  let auto := W.LANE_CTL_EQ_AUTO (s.laneCtl i) && sweep && l.sig
  s.setLane i { l with
    state := if auto || !l.sig || !l.cdr then 2 else s.huntState i
    sweeping := auto
    sweepAt := if auto then s.ticks t else l.sweepAt
    decodeOk := false }

/-- The local receive mask changes at tick `t`. A marker shows the mask as it stood 500 ns, 3,125 ticks, before its
boundary (R93). -/
def State.setLocal (s : State) (m t : Nat) : State :=
  let b := s.bond
  { s with bond := { b with
    localMask := m, sample := if b.sample.isNone ∧ 59375 ≤ t then some b.localMask else b.sample } }

/-- A partner lane leaves the local receive mask as soon as it loses sync (R91, R94). -/
def State.dropLocal (s : State) (i t : Nat) : State :=
  if 64 ≤ i then s.setLocal (s.bond.localMask &&& (15 ^^^ (1 <<< (i - 64)))) t else s

/-- Sync declared: the loss events and the comma timeout clear (R82, R100). -/
def State.declareSync (s : State) (i t : Nat) : State :=
  let s := s.setLane i { s.lane i with
    sync := true, state := 5, decodeOk := true, cdr := true, leaving := false, level := 0 }
  let s := if (s.lane i).sig then s.clear 0x0201 i t else s
  (s.clear 0x0202 i t).clear 0x0203 i t

/-- R100, R86: signal detect deasserts; the lane leaves sync at once and reacquires. -/
def execLaneSignalLoss (l : Fin 68) (t : Tick) (s : State) : Host.Outcome State Fault Refusal :=
  let s := s.silent
  let x := s.lane l
  if !W.LANE_CTL_EN (s.laneCtl l) || !x.sig then .next s else
  let s := s.setLane l { x with
    sig := false, cdr := false, sync := false, decodeOk := false, sweeping := false,
    state := if s.looped l then 6 else if x.idle then 1 else 2 }
  let s := s.dropLocal l t
  .next (if s.lossReported l then s.raise 0x0201 l 0 t else s)

/-- R100: no signal for 1 ms since EN went to 1 or since the last idle exit. -/
def execLaneNoSignalTimeout (l : Fin 68) (t : Tick) (s : State) : Host.Outcome State Fault Refusal :=
  let s := s.silent
  let x := s.lane l
  .next (if s.lossReported l && !x.sig && !x.hadSig then s.raise 0x0201 l 0 t else s)

/-- R86, R85: signal detect asserts and acquisition starts, with the sweep except at an electrical-idle
exit. -/
def execLaneSignalDetect (e : LaneAt) (s : State) : Host.Outcome State Fault Refusal :=
  let s := s.silent
  let x := s.lane e.l
  if !W.LANE_CTL_EN (s.laneCtl e.l) || x.sig then .next s else
  let s := s.setLane e.l { x with sig := true, hadSig := true, cdr := true }
  .next (if x.state = 6 ∨ x.idle then s else s.startAcquire e.l (!x.leaving) e.t)

/-- Index of the widest eye, the lower code on a tie (R85). -/
def widest : List Nat → Nat → Nat → Nat → Nat
  | [], _, best, _ => best
  | e :: es, i, best, w => if w < e then widest es (i + 1) i e else widest es (i + 1) best w

/-- R85: the sweep over the 16 codes ends; `eyes` are the measured openings by code. -/
def execEqSweepDone (l : Fin 68) (eyes : List Nat) (t : Tick) (s : State) : Host.Outcome State Fault Refusal :=
  let s := s.silent
  let x := s.lane l
  if !x.sweeping then .next s else
  let code := match padEyes eyes with
    | [] => 0
    | e :: es => widest es 1 0 e
  let s := s.setLane l { x with
    sweeping := false, eqUsed := code, state := if x.sig ∧ x.cdr then s.huntState l else 2 }
  .next (if code = 0 ∨ code = 15 then s.raise 0x0206 l 0 t else s.clear 0x0206 l t)
where
  /-- Openings of the 16 codes. -/
  padEyes (e : List Nat) : List Nat := (e ++ List.replicate 16 0).take 16

/-- R82, R83: three commas at one alignment with no violation between; `pos` is the boundary found. While the lane hunts it
takes that boundary; in SLIP, and under ALIGN = 1, commas never move it. A lane whose CDR has only now locked is still in
TRAIN. -/
def execLaneSyncAcquire (l : Fin 68) (pos : Fin 20) (t : Tick) (s : State) : Host.Outcome State Fault Refusal :=
  let s := s.silent
  let x := s.lane l
  let st := if x.state = 2 ∧ !x.sweeping then s.huntState l else x.state
  if x.sig && !x.sync && decide (st = 3) then .next ((s.setLane l { x with slip := pos }).declareSync l t)
  else if x.sig && !x.sync && decide (st = 4 ∧ x.slip = (pos : Nat)) then .next (s.declareSync l t)
  else .next s

/-- Sync lost while signal detect stays asserted (R82, R88, R100). -/
def State.syncLost (s : State) (l : Nat) (cdrLost : Bool) (t : Nat) : State :=
  let x := s.lane l
  let s := s.setLane l { x with sync := false, cdr := !cdrLost, leaving := false }
  let s := (s.startAcquire l (!x.leaving) t).dropLocal l t
  if s.lossReported l then s.raise 0x0202 l 0 t else s

/-- R82, R88: sync lost on code violations or CDR loss while signal detect stays asserted, or not reached
by the end of a training burst. -/
def execLaneSyncDrop (l : Fin 68) (cdrLost : Bool) (t : Tick) (s : State) : Host.Outcome State Fault Refusal :=
  let s := s.silent
  let x := s.lane l
  .next (if x.sig && (x.sync || x.leaving) then s.syncLost l cdrLost t else s)

/-- The synchronisation state machine of Clause 36 at a violation (R82): the violations not yet cancelled, each run of four
good groups since the last one having cancelled one, and the new one. -/
def Lane.levelAt (x : Lane) (now rate : Nat) : Nat := x.level - ((now - x.badAt) / symTicks rate - 1) / 4 + 1

/-- R81, R82: LANE_ERR counts the invalid code group, or the bit error under a test pattern (R89). The fourth violation not
cancelled ends sync (DEDUCED, log entry 35). -/
def execLaneCodeViolation (l : Fin 68) (t : Tick) (s : State) : Host.Outcome State Fault Refusal :=
  let s := s.silent
  if !W.LANE_CTL_EN (s.laneCtl l) then .next s else
  let x := s.lane l
  let c := satInc x.err x.errSat
  let n := if x.sync then x.levelAt (s.ticks t) (s.rateOf l) else 0
  let s := s.setLane l { x with
    err := c.1, errSat := c.2.1, ival := x.ival + 1, decodeOk := false, level := n, badAt := s.ticks t,
    incs := if x.incAt = s.mono then x.incs + 1 else 1, incAt := s.mono }
  let s := s.satEvent c.2.2 (K.LANE_ERR l) t
  .next (if 4 ≤ n then s.syncLost l false t else s)

/-- R83: the hunt times out; under ALIGN = 0 it goes on, under ALIGN = 2 the lane enters SLIP. -/
def execCommaHuntExpiry (l : Fin 68) (t : Tick) (s : State) : Host.Outcome State Fault Refusal :=
  let s := s.silent
  let x := s.lane l
  if x.sync || decide (x.state ≠ 3) then .next s else
  let s := s.raise 0x0203 l 0 t
  .next (if W.LANE_CTL_ALIGN (s.laneCtl l) = 2 then
    s.setLane l { s.lane l with state := 4, decodeOk := false } else s)

/-- R84: 1,024 symbols without a violation set DECODE_OK, a further 1,024 declare sync. -/
def execSlipDecodeCount (l : Fin 68) (t : Tick) (s : State) : Host.Outcome State Fault Refusal :=
  let s := s.silent
  let x := s.lane l
  if x.state ≠ 4 then .next s
  else if x.decodeOk then .next (s.declareSync l t)
  else .next (s.setLane l { x with decodeOk := true })

/-- R99: the counts of a 100 ms interval against ERR_LIMIT; 0 switches the check off. -/
def execLaneErrInterval (l : Fin 68) (t : Tick) (s : State) : Host.Outcome State Fault Refusal :=
  let s := s.silent
  let x := s.lane l
  let lim := W.LANE_GLOBAL_ERR_LIMIT (s.word K.LANE_GLOBAL)
  let s := s.setLane l { x with ival := 0 }
  .next (if lim ≠ 0 ∧ lim ≤ x.ival then s.raise 0x0204 l 0 t else s.clear 0x0204 l t)

/-- R100: the laser bias leaves its range; the transmitter is held dark. -/
def execTxBiasFault (l : Fin 68) (t : Tick) (s : State) : Host.Outcome State Fault Refusal :=
  let s := s.silent
  if !W.LANE_CTL_EN (s.laneCtl l) then .next s else
  .next ((s.setLane l { s.lane l with txFault := true }).raise 0x0205 l 0 t)

/-- R100: the bias has been back in range for 100 ms; the transmitter is relit. -/
def execTxBiasRecover (l : Fin 68) (t : Tick) (s : State) : Host.Outcome State Fault Refusal :=
  let s := s.silent
  if !(s.lane l).txFault then .next s else
  .next ((s.setLane l { s.lane l with txFault := false }).clear 0x0205 l t)

/-- R86: at the boundary after EIDLE is set the transmitter enters electrical idle, and the receiver
expects no signal. /EIS/ announces it on a cell port (R102). -/
def execElectricalIdleEntry (l : Fin 68) (s : State) : Host.Outcome State Fault Refusal :=
  let s := s.silent
  let x := s.lane l
  if W.LANE_CTL_EN (s.laneCtl l) && W.LANE_CTL_EIDLE (s.laneCtl l) && !x.idle then
    let s := if (l : Nat) < 64 ∧ s.lit l then s.emit (.ordered l .eis) else s
    .next ((s.setLane l { x with
      idle := true, state := 1, sync := false, decodeOk := false, sweeping := false, leaving := false }).dropLocal l 0)
  else .next s

/-- R87: at the boundary after EIDLE clears the transmitter sends its training burst, then idle until the
stroke of the next cycle (DEDUCED, log entry 35). -/
def execIdleExit (l : Fin 68) (s : State) : Host.Outcome State Fault Refusal :=
  let s := s.silent
  let x := s.lane l
  if W.LANE_CTL_EN (s.laneCtl l) && !W.LANE_CTL_EIDLE (s.laneCtl l) && x.idle then
    let s := if s.lit l then (s.emit (.train l trainSyms)).emit (.idles l (idleSet (rdRun false trainSyms))) else s
    .next (s.setLane l { x with
      idle := false, leaving := true, hadSig := x.sig, resume := s.mono + 1,
      state := if x.sig ∧ x.cdr then s.huntState l else 2 })
  else .next s

end Sys2Proof.Machine
end

