-- ==== Sys2Proof/Machine/Clocks.lean ====
section
/-! DEFINITION. Clocks, islands and station time (R146–R168) and the partner bond (R91–R94): lock, loss and
coasting, the measured offset to the time source, slewing and stepping, bond markers and the bond's width. -/

namespace Sys2Proof.Machine

/-- Loop states of CLK_STAT.STATE (R167). -/
def clkAcquire : Nat := 1
def clkLocked : Nat := 2
def clkCoast : Nat := 3
def clkFreq : Nat := 4
def clkWalk : Nat := 5

/-- Time states of R161. -/
def timeFree : Nat := 0
def timeAcquire : Nat := 1
def timeLocked : Nat := 2
def timeHoldover : Nat := 3
def timeSlew : Nat := 4
def timeFreerun : Nat := 5

def State.loopOf (s : State) (i : Nat) : ClkLoop := Tab.get (fun _ => ClkLoop.init) s.clk.loops i
def State.setLoop (s : State) (i : Nat) (l : ClkLoop) : State :=
  { s with clk := { s.clk with loops := Tab.put (fun _ => ClkLoop.init) s.clk.loops i l } }

/-- Loops 0–16 have all declared lock (R156). -/
def State.allLocked (s : State) : Bool := (List.range 17).all fun i => decide ((s.loopOf i).state = clkLocked)

/-- Loop 0 or loop 1 is without lock: the time servo stays in HOLDOVER (R155, R161). -/
def State.refCoasts (s : State) : Bool := (s.loopOf 0).lostAt.isSome || (s.loopOf 1).lostAt.isSome

/-- Any of the 68 lanes is in use (R78). -/
def State.anyLaneUsed (s : State) : Bool := (List.range 68).any s.laneInUse

/-- Reference period in ps (R152) (DEDUCED, log entry 40). -/
def State.refPeriod (s : State) : Nat :=
  match W.CLK_LOOP_REF_MUL (s.word (K.CLK_LOOP 0)) with | 1 => 3200 | 2 => 12800 | _ => 6400

/-- The source that disciplines station time (R160): 1 N0, 2 N1, 3 partner, 0 none; `best` is the port that
the PTP selection prefers. -/
def State.timeSource (s : State) (best : Nat) : Nat :=
  match W.TIME_CTL_SRC (s.word K.TIME_CTL) with
  | 0 => if s.pairSide ∧ s.pair.role ≠ .holder ∧ s.bond.active ≠ 0 then 3 else best
  | 1 => 1
  | 2 => 2
  | _ => 0

/-- TIME_STATUS.SRC_USED (R160): none while no timeTransmitter is selected for the port that SRC names. -/
def State.sourceUsed (s : State) : Nat :=
  let best := match s.net.best with | some x => x.1 + 1 | none => 0
  let src := s.timeSource best
  if src = 3 ∨ src = best then src else 0

/-- The time state of R161 that the conditions give. SRC = 3 goes before HOLDOVER, and HOLDOVER before SLEW
(DESIGN CHOICE, log entry 5). -/
def State.timeState (s : State) : Nat :=
  let c := s.clk
  if W.TIME_CTL_SRC (s.word K.TIME_CTL) = 3 then timeFreerun
  else if s.refCoasts || c.quiet then timeHoldover
  else if c.pend ≠ 0 then timeSlew
  else if !c.hadOffset then timeFree
  else if 16 ≤ c.good then timeLocked
  else timeAcquire

/-- The time state follows its conditions (R155, R161). HOLDOVER and FREERUN hold the tuning value; TIME_HOLDOVER is raised
at HOLDOVER and clears at LOCKED (R168). -/
def State.timeJudge (s : State) (t : Nat) : State :=
  let n := s.timeState
  if n = s.clk.tstate then s else
  let held := decide (n = timeHoldover ∨ n = timeFreerun)
  let s := { s with clk := { s.clk with
    tstate := n, good := if held then 0 else s.clk.good, aim := if held then 0 else s.clk.aim } }
  if n = timeHoldover then s.raise 0x0408 0 0 t
  else if n = timeLocked then s.clear 0x0408 0 t
  else s

/-- Every stored WSTART and reversion stamp moves by a number of cycles (R489) (DEDUCED, log entry 56). -/
def State.moveStored (s : State) (d : BitVec 64) : State :=
  { s with
    evt := { s.evt with
      recs := s.evt.recs.foldl (fun t r => Tab.put (fun _ => RecSrc.init) t r.1 { r.2 with wstart := r.2.wstart + d }) s.evt.recs }
    jrnl := { s.jrnl with stamps := s.jrnl.stamps.map (· + d) } }

/-- Station time is stepped by an offset in ps at tick `t`: the cycle number, the tick within the cycle, and what is stored
in cycle numbers, unless that is yet to move for the time without power (R158, R162, R489). What is below one tick moves
the phase of the ticks, which State does not hold (DESIGN CHOICE, log entry 5). -/
def State.timeStep (s : State) (off : Int) (t : Nat) : State :=
  let at_ := (t : Int) * 160 + off
  let d := BitVec.ofInt 64 (at_.fdiv 10000000)
  let s := if s.jrnl.fresh then s else s.moveStored d
  let s := { s with
    cycle := s.cycle + d,
    clk := { s.clk with
      pend := 0, rate := 0, deferred := none, good := 0, keep := false,
      base := s.clk.base + t - at_.fmod 10000000 / 160 } }
  (((s.raise 0x0409 0 0 t).clear 0x0407 0 t).clear 0x040A 0 t).timeJudge t

/-- The servo takes an offset (R160): its integral part enters the tuning value, its proportional part the steering, within
SLEW_MAX. Beyond 1 ms with a lane in use it locks in frequency only (R162)
(DESIGN CHOICE, log entry 2; DESIGN CHOICE, log entry 5). -/
def State.servo (s : State) (src : Nat) (off : Int) : State :=
  let bw := W.TIME_SERVO_BW (s.word K.TIME_SERVO)
  let lim : Int := W.TIME_CTL_SLEW_MAX (s.word K.TIME_CTL) * 100000
  { s with clk := { s.clk with
    tune := s.clk.tune + Config.servoI src bw off,
    aim := if s.clk.deferred.isSome then 0 else max (-lim) (min lim (Config.servoP src bw off)) } }

/-- An offset of up to 1 ms, or one that may not step, is absorbed by slewing (R162–R164): it enters TIME_PENDING beyond the
100 ns within which the servo holds LOCKED (DEDUCED, log entry 5). -/
def State.absorb (s : State) (off : Int) (t : Nat) : State :=
  let s := ({ s with clk := { s.clk with
    deferred := none, pend := if off.natAbs ≤ 100000 then s.clk.pend else -off * 100000 } })
  if off.natAbs ≤ 1000000000 then s.clear 0x040A 0 t else s

/-- One offset measurement of the source in use, source minus station time in ps (R160–R162, R164): stepped only with no
lane in use, beyond STEP_LIMIT, first after FREE or kept from before; else absorbed, kept, or left to the servo
(DEDUCED, log entry 5). -/
def State.timeMeasure (s : State) (src : Nat) (off : Int) (t : Nat) : State :=
  let c := s.clk
  let near := decide (off.natAbs ≤ 100000)
  let keep := !near && (c.keep || (c.hadOffset && (decide (src = 3) || decide (c.srcUsed = 3))))
  let s := { s with clk := { c with offset := off, srcUsed := src, hadOffset := true, quiet := false, keep := keep } }
  if s.refCoasts ∨ W.TIME_CTL_SRC (s.word K.TIME_CTL) = 3 then s.timeJudge t else
  let s := { s with clk := { s.clk with good := if near then min 16 (c.good + 1) else 0 } }
  let lim := W.TIME_CTL_STEP_LIMIT (s.word K.TIME_CTL)
  if s.anyLaneUsed then
    let s := if off.natAbs ≤ 1000000000 then s.absorb off t
      else ({ s with clk := { s.clk with deferred := some off } }).raise 0x040A 0 0 t
    (s.servo src off).timeJudge t
  else if !c.hadOffset || c.deferred.isSome || (decide (lim ≠ 0 ∧ lim * 100000 < off.natAbs) && !keep) then s.timeStep off t
  else ((if keep then s.absorb off t else s).servo src off).timeJudge t

/-- A phase error in half per cent of the reference period, as PERR shows it (R167), rounded to the nearest
(DESIGN CHOICE, log entry 40). -/
def perrOf (period : Nat) (e : Int) : Byte := BitVec.ofInt 8 (max (-127) (min 127 (roundDiv (e * 200) period)))

/-- A phase error lies in a window of ± 0.5 % × `win` of the reference period (R152) (DEDUCED, log entry 40). -/
def inWindow (period win : Nat) (e : Int) : Bool := decide (200 * e.natAbs ≤ win * period)

/-- WIN and LOCKN of a loop (R167). -/
def State.loopWin (s : State) (i : Nat) : Nat := W.CLK_LOOP_WIN (s.word (K.CLK_LOOP i))
def State.loopCount (s : State) (i : Nat) : Nat := 1 <<< W.CLK_LOOP_LOCKN (s.word (K.CLK_LOOP i))

/-- A phase error as the loop judges it: less the offset that it holds (R154) (DEDUCED, log entry 40). -/
def ClkLoop.less (l : ClkLoop) (e : Int) : Int := if l.state = clkFreq ∨ l.state = clkWalk then e - l.held else e

/-- PERR shows the last of the measured phase errors (R167). -/
def State.loopMeasured (s : State) (i : Nat) (errs : List Int) : State :=
  match errs.getLast? with
  | some e => s.setLoop i { s.loopOf i with perr := perrOf s.refPeriod e }
  | none => s

/-- The last 2^LOCKN measurements lie within the window: lock (R152) (DEDUCED, log entry 40). -/
def State.loopLocks (s : State) (i : Nat) (errs : List Int) : Bool :=
  let n := s.loopCount i
  decide (n ≤ errs.length)
    && (errs.drop (errs.length - n)).all fun e => inWindow s.refPeriod (s.loopWin i) ((s.loopOf i).less e)

/-- The last 16 measurements lie outside the window: lock is lost (R153) (DEDUCED, log entry 40). -/
def State.loopLoses (s : State) (i : Nat) (errs : List Int) : Bool :=
  decide (16 ≤ errs.length)
    && (errs.drop (errs.length - 16)).all fun e => !inWindow s.refPeriod (s.loopWin i) ((s.loopOf i).less e)

/-- R149, R152, R154, R157: a loop that has measured the phase errors `errs` since it began to acquire, in ps, declares
lock: the replica of its island is aligned, a loop 0 offset passes to TIME_PENDING, a lane island walks its offset, the
others drop it (DEDUCED, log entry 40). -/
def execClockLockDeclare (i : Fin 17) (errs : List Int) (t : Tick) (s : State) : Host.Outcome State Fault Refusal :=
  let s := s.silent
  let s := s.loopMeasured i errs
  let l := s.loopOf i
  if (l.state ≠ clkAcquire ∧ l.state ≠ clkFreq) ∨ !s.loopLocks i errs then .next s else
  let lane := decide (2 ≤ (i : Nat)) && decide ((i : Nat) ≤ 9)
  let walks := lane && decide (l.held ≠ 0)
  let s := s.setLoop i { l with
    state := if walks then clkWalk else clkLocked, lostAt := none,
    held := if walks then l.held else 0, skew := 0, forced := false }
  let s := s.clear 0x0401 i t
  let s := if (i : Nat) = 0 then s.clear 0x0402 0 t else s.clear 0x0406 i t
  let s := if (List.range 17).any (fun j => (s.loopOf j).forced) then s else s.clear 0x0406 0 t
  let s := if (i : Nat) = 0 ∧ l.held ≠ 0 then
      ({ s with clk := { s.clk with pend := s.clk.pend + l.held * 100000 } }).raise 0x0407 0 0 t
    else s
  .next (s.timeJudge t)

/-- R153: a locked loop whose phase error stayed outside the window for 16 measurements coasts
(DEDUCED, log entry 40). -/
def execClockLockLoss (i : Fin 17) (errs : List Int) (t : Tick) (s : State) : Host.Outcome State Fault Refusal :=
  let s := s.silent
  let s := s.loopMeasured i errs
  let l := s.loopOf i
  if (l.state ≠ clkLocked ∧ l.state ≠ clkWalk) ∨ !s.loopLoses i errs then .next s else
  let s := s.setLoop i { l with state := clkCoast, lostAt := some s.mono }
  .next ((s.raise 0x0401 i 0 t).timeJudge t)

/-- Loops 0 and 1 lose their reference. -/
def State.refLost (s : State) (i : Nat) : State :=
  let l := s.loopOf i
  if l.state = clkLocked ∨ l.state = clkFreq ∨ l.state = clkCoast then
    s.setLoop i { l with state := clkCoast, lostAt := if l.lostAt.isSome then l.lostAt else some s.mono }
  else s

/-- R153: no reference edge for 4 reference periods. -/
def execReferenceEdgeMissing (t : Tick) (s : State) : Host.Outcome State Fault Refusal :=
  let s := s.silent
  if (s.loopOf 0).state ≤ clkAcquire ∧ (s.loopOf 1).state ≤ clkAcquire then .next s else
  .next ((((s.refLost 0).refLost 1).raise 0x0402 0 0 t).timeJudge t)

/-- A phase wrapped into ± half a reference period (R154). -/
def wrapPhase (p x : Int) : Int := (x + p / 2).emod p - p / 2

/-- R154: the input of a coasting loop is valid again; the phase is held as an offset (DEDUCED, log entry 40). -/
def execReferenceReturn (i : Fin 17) (phase : Int) (s : State) : Host.Outcome State Fault Refusal :=
  let s := s.silent
  let l := s.loopOf i
  if l.state ≠ clkCoast ∧ l.state ≠ clkFreq then .next s else
  .next (s.setLoop i { l with
    state := clkFreq, held := if (i : Nat) ≤ 1 then wrapPhase s.refPeriod phase else phase })

/-- A walked offset that has reached zero: the loop is LOCKED (R154). -/
def ClkLoop.walked (l : ClkLoop) : ClkLoop := if l.state = clkWalk ∧ l.held = 0 then { l with state := clkLocked } else l

/-- One cycle of the walk: the offset moves to zero by 1 ps (R154) (DEDUCED, log entry 40). -/
def ClkLoop.walk (l : ClkLoop) : ClkLoop :=
  if l.state = clkWalk then
    ({ l with held := if 0 < l.held then l.held - 1 else if l.held < 0 then l.held + 1 else 0 }).walked
  else l

/-- R154: a walked offset reaches zero (DEDUCED, log entry 40). -/
def execLaneWalkDone (i : Fin 17) (s : State) : Host.Outcome State Fault Refusal :=
  let s := s.silent
  .next (s.setLoop i (s.loopOf i).walked)

/-! ## The partner bond -/

/-- The groups of R92, widest first: lane masks. -/
def bondGroups : List Nat := [15, 3, 12, 1, 2, 4, 8]

def groupWidth (g : Nat) : Nat := if g = 15 then 4 else if g = 3 ∨ g = 12 then 2 else if g = 0 then 0 else 1

/-- The local receive mask as a marker shows it: as it stood 500 ns before the boundary (R93). -/
def Bond.sampled (b : Bond) : Nat := b.sample.getD b.localMask

/-- The group that two masks give, no wider than UPGRADE lets it be, 0 when none is usable or as wide as MIN_W asks
(R92, R94). -/
def State.groupBy (s : State) (own : Nat) : Nat :=
  let usable := own &&& s.bond.remote
  let need := 1 <<< W.BOND_CTL_MIN_W (s.word K.BOND_CTL)
  match bondGroups.find? (fun g => decide (g &&& usable = g ∧ groupWidth g ≤ s.bond.limit)) with
  | some g => if need ≤ groupWidth g then g else 0
  | none => 0

/-- The group that the present masks give. -/
def State.bondGroup (s : State) : Nat := s.groupBy s.bond.localMask

/-- The bond goes over to a group (R93, R94): BOND_CHANGES counts a change of width, and under UPGRADE = 0 the bond widens
no more. -/
def State.bondSet (s : State) (g t : Nat) : State :=
  let b := s.bond
  let c := if groupWidth g = groupWidth b.active then (b.changes, b.chgSat, false) else satInc b.changes b.chgSat
  let keep := !W.BOND_CTL_UPGRADE (s.word K.BOND_CTL)
  ({ s with bond := { b with
    active := g, prop := none, changes := c.1, chgSat := c.2.1,
    limit := if keep then groupWidth g else b.limit } }).satEvent c.2.2 K.BOND_CHANGES t

/-- The bond is down while no group is usable (R92). -/
def State.bondJudge (s : State) (t : Nat) : State :=
  if !W.BOND_CTL_EN (s.word K.BOND_CTL) then s
  else if s.bondGroup = 0 then (if s.bond.active = 0 then s else s.bondSet 0 t).raise 0x0208 0 0 t
  else s

/-- The bond takes a group at the agreed cycle (R93, R94, R100). -/
def State.bondTake (s : State) (g t : Nat) : State :=
  let s := (s.bondSet g t).clear 0x0208 0 t
  if g = 15 then s.clear 0x0207 0 t else s.raise 0x0207 0 0 t

/-- The later of two SWITCH_AT values, modulo 256 (DEDUCED, log entry 35). -/
def laterSwitch (a b : Nat) : Nat := if (b + 256 - a) % 256 < 128 then b else a

/-- A SWITCH_AT lies ahead of the present cycle: the marker carries a proposal (R93; DEDUCED, log entry 35). -/
def State.switchAhead (s : State) (sw : Nat) : Bool :=
  let d := (sw + 256 - s.cycle.toNat % 256) % 256
  decide (d ≠ 0 ∧ d < 128)

/-- A received proposal of width `w` at SWITCH_AT `sw` (R93): a side that has computed the same group adopts it,
or takes the later instant (DEDUCED, log entry 35). -/
def State.bondProposal (s : State) (w sw : Nat) : State :=
  let g := s.bondGroup
  if g ≠ 0 ∧ g ≠ s.bond.active ∧ w = groupWidth g ∧ s.switchAhead sw then
    let mine := s.bond.prop.filter fun p => decide (p.1 = g)
    let at' := match mine with | some p => laterSwitch p.2 sw | none => sw
    { s with bond := { s.bond with prop := some (g, at') } }
  else s

/-- PAIR_TIME as a marker measures it (R164): a side that follows its partner disciplines to it, and
PAIR_TIME_OFFSET is judged (DESIGN CHOICE, log entry 5). -/
def State.pairTimeTake (s : State) (off : Int) (t : Nat) : State :=
  if !s.pairSide then s else
  let s := { s with clk := { s.clk with pairTime := off } }
  let s := if s.timeSource 0 = 3 then s.timeMeasure 3 off t else s
  s.judge 0x040B 0 (decide (W.CLK_GLOBAL_PAIR_TOL (s.word K.CLK_GLOBAL) < off.natAbs)) 1000 0 t

/-- R92, R93, R164: a bond marker arrives on partner lane `l`; `offset` is the pair time measured with it, in
ps, two's complement. -/
def execBondMarkerReceive (l : Fin 4) (b1 b2 b3 : Byte) (offset : BitVec 32) (t : Tick) (s : State) :
    Host.Outcome State Fault Refusal :=
  let s := s.silent
  if !W.BOND_CTL_EN (s.word K.BOND_CTL) || !(s.lane (64 + (l : Nat))).sync || decide (b3 ≠ ~~~ b1) then .next s else
  let s := { s with bond := { s.bond with
    remote := b1.toNat / 16, seen := Tab.put (fun _ => 0) s.bond.seen l (s.ticks t + 1) } }
  .next (((s.bondJudge t).bondProposal (b1.toNat % 16) b2.toNat).pairTimeTake offset.toInt t)

/-- R93: both sides change the bond's width at the start of the agreed cycle. -/
def execBondWidthSwitch (s : State) : Host.Outcome State Fault Refusal :=
  let s := s.silent
  match s.bond.prop with
  | some (g, sw) => .next (if s.switchAhead sw then s else s.bondTake g 0)
  | none => .next s

/-- R94: a partner lane in sync for 10,000 cycles enters the local mask. -/
def execBondLaneRejoin (l : Fin 4) (s : State) : Host.Outcome State Fault Refusal :=
  let s := s.silent
  let x := s.lane (64 + (l : Nat))
  if x.sync && (s.loopOf 10).lostAt.isNone then
    .next (s.setLocal (s.bond.localMask ||| (1 <<< (l : Nat))) 0)
  else .next s

/-- R93, R94: the bond's work at a boundary: a proposal where the computed group differs, and a marker out of
every enabled partner lane in sync (R91) (DEDUCED, log entry 35). While nothing is proposed, where the spec is silent, a
marker carries the width in use and the low 8 bits of the present cycle (DESIGN CHOICE, log entry 58). -/
def State.bondBoundary (s : State) : State :=
  if !W.BOND_CTL_EN (s.word K.BOND_CTL) then s else
  let s := s.bondJudge 0
  let own := s.bond.sampled
  let g := s.groupBy own
  let s := { s with bond := { s.bond with sample := none, prop :=
      if g = s.bond.active then none else
      match s.bond.prop with
      | some (g', sw) => if g' = g then some (g', sw) else some (g, (s.cycle.toNat + 2) % 256)
      | none => if g = 0 then none else some (g, (s.cycle.toNat + 2) % 256) } }
  let (w, sw) := match s.bond.prop with
    | some (g, sw) => (groupWidth g, sw)
    | none => (groupWidth s.bond.active, s.cycle.toNat % 256)
  let b1 := BitVec.ofNat 8 (own * 16 + w)
  ([64, 65, 66, 67].filter fun i => (s.lane i).sync && s.lit i).foldl
    (fun (s : State) (i : Nat) => s.emit (.marker i (markerSyms b1 (BitVec.ofNat 8 sw)))) s

/-- The bytes of a payload that each of the active lanes carries: byte by byte, in ascending lane number (R91). -/
def stripe (lanes : List Nat) (l : List Byte) : List (Nat × List Byte) :=
  lanes.zipIdx.map fun p => (p.1, (l.zipIdx.filter fun b => decide (b.2 % lanes.length = p.2)).map (·.1))

/-- Lane indices of the active group. -/
def Bond.lanes (b : Bond) : List Nat := ([0, 1, 2, 3].filter b.active.testBit).map (· + 64)

/-- The active lanes can be deskewed: their last markers came within 64 symbols of one another (R91). -/
def Bond.aligned (b : Bond) : Bool :=
  let at_ (i : Nat) : Nat := Tab.get (fun _ => 0) b.seen i
  ([0, 1, 2, 3].filter b.active.testBit).all fun i => ([0, 1, 2, 3].filter b.active.testBit).all fun j =>
    decide (at_ i ≤ at_ j + 64 * symTicks 0)

/-- R155: a loop has coasted for COAST_MAX cycles from the loss of lock. -/
def execCoastLimitExpiry (i : Fin 17) (t : Tick) (s : State) : Host.Outcome State Fault Refusal :=
  let s := s.silent
  let long := match (s.loopOf i).lostAt with
    | some a => decide (a + W.CLK_GLOBAL_COAST_MAX (s.word K.CLK_GLOBAL) ≤ s.mono)
    | none => false
  if !long then .next s
  else if (i : Nat) = 0 then .next (s.raise 0x0403 0 0 t)
  else if 2 ≤ (i : Nat) ∧ (i : Nat) ≤ 9 then .next (s.raise 0x0404 i 0 t)
  else if (i : Nat) = 10 then .next ((s.setLocal 0 t).bondJudge t)
  else .next s

/-- R161: no valid measurement for 4 s (DESIGN CHOICE, log entry 6). HOLDOVER then goes before SLEW and stands through the
slew's end (DESIGN CHOICE, log entry 5). -/
def execHoldoverTimeout (t : Tick) (s : State) : Host.Outcome State Fault Refusal :=
  let s := s.silent
  .next (if s.clk.hadOffset then ({ s with clk := { s.clk with quiet := true } }).timeJudge t else s)

/-- TIME_PENDING is 0: CLK_PHASE_STEP clears, and the time state follows (R161, R168). -/
def State.slewDone (s : State) (t : Nat) : State := if s.clk.pend = 0 then (s.clear 0x0407 0 t).timeJudge t else s

/-- R154, R163: TIME_PENDING reaches 0 (DESIGN CHOICE, log entry 5). -/
def execSlewEnd (t : Tick) (s : State) : Host.Outcome State Fault Refusal :=
  let s := s.silent
  .next (s.slewDone t)

/-- R162: a kept offset is stepped at the first moment with no lane in use (DESIGN CHOICE, log entry 5). -/
def execDeferredTimeStep (t : Tick) (s : State) : Host.Outcome State Fault Refusal :=
  let s := s.silent
  match s.clk.deferred with
  | some off => .next (if s.anyLaneUsed then s else s.timeStep off t)
  | none => .next s

/-- A rate moves toward an aim by at most 0.1 ppm per ms: 1,000 × 10⁻¹² a cycle (R163) (DESIGN CHOICE, log entry 5). -/
def rateToward (v aim : Int) : Int := if v < aim then min (v + 1000) aim else max (v - 1000) aim

/-- A slew at rate `v` can still come to rest within the phase `far` at 1,000 × 10⁻¹² a cycle
(DESIGN CHOICE, log entry 5). -/
def slewCan (far v : Int) : Bool := decide (v * (v + 1000) / 2000 ≤ far)

/-- One cycle of a slew (R163): phase in 10⁻⁵ ps and rate in 10⁻¹²; the rate changes by at most 1,000 a cycle, rises to no
more than `lim`, and is 0 at the end. The profile within those bounds is the model's (DESIGN CHOICE,
log entry 5). -/
def slewStep (pend rate lim : Int) : Int × Int :=
  let dir : Int := if 0 < pend then -1 else 1
  let v := rate * dir
  let far : Int := pend.natAbs
  let v' := if v < 0 then v + 1000
    else if lim < v then v - 1000
    else if v + 1000 ≤ lim ∧ slewCan far (v + 1000) then v + 1000
    else if v = 0 ∨ slewCan far v then v
    else v - 1000
  if v = 0 ∧ far < 1000 then (0, 0) else (pend + dir * v', dir * v')

/-- The rate of station time over one cycle: while a phase is pending the servo's steering falls back to 0 and the slew
follows; else the steering moves to what the servo asks (R160, R163) (DESIGN CHOICE, log entry 5). -/
def Clk.cycleRate (c : Clk) (lim : Int) : Clk :=
  if c.pend = 0 ∧ c.rate = 0 then { c with steer := rateToward c.steer c.aim }
  else if c.steer ≠ 0 ∧ c.rate = 0 then { c with steer := rateToward c.steer 0 }
  else
    let sl := slewStep c.pend c.rate lim
    { c with pend := sl.1, rate := sl.2 }

/-- The replica of loop `i`'s island, 2–10, at a boundary (R149): one that differed has had its stacks blocked by the
event and is realigned; the difference then grows by what it gained over the cycle and is compared with one tick
(DEDUCED, log entry 40). -/
def State.replica (s : State) (i : Nat) (gain : Int) : State :=
  let l := s.loopOf i
  let s := s.setLoop i { l with skew := (if s.isActive 0x0405 i then 0 else l.skew) + gain }
  if 160 ≤ (s.loopOf i).skew.natAbs then s.raise 0x0405 i 0 0 else s.condGone 0x0405 i

/-- R149, R154, R158, R159, R163, R167: the clocks' part of a boundary, after the cycle number has advanced
(DESIGN CHOICE, log entry 5; DEDUCED, log entry 40). -/
def State.clockBoundary (s : State) (drift : List Int) : State :=
  let c := s.clk
  let lim : Int := W.TIME_CTL_SLEW_MAX (s.word K.TIME_CTL) * 100000
  let s := { s with clk := { c.cycleRate lim with
    snapReq := false, snapCyc := if c.snapReq then s.cycle else c.snapCyc } }
  let s := if c.pend ≠ 0 then s.slewDone 0 else s
  let s := (List.range' 2 8).foldl (fun (s : State) (i : Nat) => s.setLoop i (s.loopOf i).walk) s
  (List.range' 2 9).foldl (fun (s : State) (i : Nat) => s.replica i (drift.getD (i - 2) 0)) s

/-- R157: acquisition restarts. Without FORCE a loop re-acquires in phase; a forced restart coasts, re-acquires
on frequency only and raises CLK_FORCED (DEDUCED, log entry 40). -/
def State.restartLoops (s : State) (i : Nat) (force : Bool) (t : Nat) : State :=
  let ls := if i = 0 then List.range 17 else [i]
  let s := ls.foldl (fun (s : State) (j : Nat) =>
    let l := s.loopOf j
    s.setLoop j (if force then
        { l with state := clkFreq, held := 0, forced := true, lostAt := if l.lostAt.isSome then l.lostAt else some s.mono }
      else { l with state := clkAcquire, held := 0, forced := false, lostAt := none })) s
  if force then
    let s := s.raise 0x0406 i 0 t
    s.timeJudge t
  else s.timeJudge t

/-- R160, R161: TIME_CTL.SRC takes effect. -/
def State.timeSrcSet (s : State) : State := s.timeJudge 0

end Sys2Proof.Machine
end

