-- ==== Sys2Proof/Machine/Recovery.lean ====
section
/-! DEFINITION. Recovery and release (Faults and Reactions, R298–R308): quiet periods and lockouts, a cell's
return, the release of a stack with its /CLR/, FAULT_RESET's scope, the copy of the event queue, and the
journal's own events (R488, R490). -/

namespace Sys2Proof.Machine

/-! ## Conditions of active events -/

def State.recOf (s : State) (src : Nat) : RecSrc := Tab.get (fun _ => RecSrc.init) s.evt.recs src
def State.setRec (s : State) (src : Nat) (r : RecSrc) : State :=
  { s with evt := { s.evt with recs := Tab.put (fun _ => RecSrc.init) s.evt.recs src r } }

/-- Baseplate reading, 0.1 °C (R47). -/
def State.baseTemp (s : State) : Int := s.sys.baseT.toInt

/-- The condition of an active event is present (R298), with the conditions that an entry states beside
FAULT_RESET. -/
def State.present (s : State) (e : ActEv) : Bool :=
  if e.code ∈ singleOccurrence then decide (e.last = s.mono)
  else if e.code = 0x0905 then (s.recOf e.inst).locked
  else if e.code = 0x00E6 then decide (700 ≤ s.baseTemp)
  else if e.code = 0x0403 then decide ((s.loopOf 0).state ≠ clkLocked)
  else if e.code = 0x0404 then decide ((s.loopOf e.inst).state ≠ clkLocked)
  else if e.code = 0x0105 then (s.cell e.inst).bypClosed || !s.admitted e.inst
  else if e.code = 0x0302 then
    ((s.stringCells e.inst).filter s.enabled).any fun ci => decide ((s.cell ci).noSlot ≠ 0)
  else if e.code = 0x0B05 then decide (s.pair.role ≠ .holder)
  else e.cond

/-- CELL-class events that recover after a quiet period (the Cleared by entries). A short does so only under
SC_AUTO. -/
def State.quietAllowed (s : State) (e : ActEv) : Bool :=
  if e.code = 0x0801 ∨ e.code = 0x0802 then W.SUP_BLK_SC_AUTO (s.word (K.SUP_BLK (s.stackOf e.inst)))
  else decide (e.code ∈ [0x0305, 0x0602, 0x0805, 0x0901, 0x0902, 0x0904])

/-- Active events of a recovery source (R300): the CELL events of a cell, PROT_AI_STACK of a threshold. -/
def State.sourceEvents (s : State) (src : Nat) : List ActEv :=
  s.evt.active.filter fun e =>
    if src < 3072 then decide (e.inst = src) && decide (classOf e.code = .cell)
    else decide (e.code = 0x0902) && decide (e.inst = src - 3072)

/-- The quiet period of a source has passed since the last cycle that showed a condition of its events (R301)
(DESIGN CHOICE, log entry 6). -/
def State.quietOver (s : State) (src : Nat) : Bool :=
  (s.sourceEvents src).all fun e => decide (e.last + 1000 * W.FLT_CTL_QUIET (s.word K.FLT_CTL) ≤ s.mono)

/-- Automatic recovery of a source is allowed (R301) (DEDUCED, log entry 45). -/
def State.autoAllowed (s : State) (src : Nat) : Bool :=
  let w := s.word K.FLT_CTL
  (if src < 3072 then W.FLT_CTL_AUTO_CELL w && !(s.cell src).bypClosed
    else W.FLT_CTL_AUTO_STACK w && W.PROT_CFG_AUTO (s.word (K.PROT_CFG (src - 3072))))
  && !(s.recOf src).locked && (s.sourceEvents src).all fun e => s.quietAllowed e && !s.present e

/-- A CLEAR, RECOVER or RESET of an active event: out of the active list, with an entry of the given kind
(R308) (DEDUCED, log entry 45). -/
def State.endEvent (s : State) (e : ActEv) (kind : Nat) : State :=
  ({ s with evt := { s.evt with active := s.evt.active.filter fun x => !decide (x.code = e.code ∧ x.inst = e.inst) } }).enqueue
    e.code kind e.inst 0 0

/-- Cycles from a release decided at a boundary to its /CLR/ (R305, R306) (DEDUCED, log entry 45). -/
def State.clrDelay (s : State) : Nat := if s.pairSide then 2 else 1

/-- A cell whose last holding event is cleared recovers (R303): a cell that was admitted returns to CHARGING
with its epoch, and its string's /CLR/ is due. -/
def State.recoverCell (s : State) (ci : Nat) : State :=
  let c := s.cell ci
  if !c.heldOut ∨ s.faulted ci ∨ s.isActive 0x0803 ci then s else
  let s := s.setCell ci { c with heldOut := false, preRun := 0, adm := if s.admitted ci then .charging else c.adm }
  if c.bypClosed ∨ !s.admitted ci then s else
  let s := s.setMg ci { s.mg ci with step := 5, op := 0, since := s.mono }
  let s := s.setSch ci { s.sch ci with since := s.mono }
  { s with evt := { s.evt with clrDue := Tab.put (fun _ => 0) s.evt.clrDue (16 + ci) (s.mono + s.clrDelay) } }

/-- R301: the quiet period of a source ends at a boundary (DEDUCED, log entry 45; DESIGN CHOICE, log entry 6). -/
def execQuietPeriodEnd (src : Fin 3088) (s : State) : Host.Outcome State Fault Refusal :=
  let s := s.silent
  let evs := s.sourceEvents src
  if evs = [] ∨ !s.autoAllowed src ∨ !s.quietOver src then .next s else
  let r := s.recOf src
  let window := W.FLT_CTL_WINDOW (s.word K.FLT_CTL) * 6000000
  let fresh := decide (r.count = 0) || decide (window ≤ (s.cycle - r.wstart).toNat)
  let r := if fresh then { r with count := 0, wstart := s.cycle } else r
  if W.FLT_CTL_LIMIT (s.word K.FLT_CTL) ≤ r.count then
    .next ((s.setRec src { r with locked := true }).raise 0x0905 src 0 0)
  else
    let s := s.setRec src { r with count := r.count + 1 }
    let s := evs.foldl (fun (s : State) (e : ActEv) => s.endEvent e 4) s
    .next (if (src : Nat) < 3072 then s.recoverCell src else s)

/-- R304, R305: a stack that nothing holds blocked is released at a boundary in RUN; while the lane path carries frames,
the partner's frame of the cycle before must show it unblocked (R360). A standby follows the
holder's RELEASE mask instead (R360) (DEDUCED, log entry 27). -/
def execStackRelease (k : Fin 16) (s : State) : Host.Outcome State Fault Refusal :=
  let s := s.silent
  let held := s.blocked.testBit k || decide (Tab.get (fun _ => 0) s.evt.blkReq k = s.mono)
  let seen := decide (s.shadow.rxCycle = (s.cycle - 1).setWidth 48) && !s.shadow.pBlocked.testBit k
  let partner := s.pairSide && (s.pair.lane && !seen || decide (s.pair.role ≠ .holder))
  if s.sys.mode ≠ .run ∨ !s.evt.forced.testBit k ∨ held ∨ partner then .next s else
  .next { s with
    evt := { s.evt with
      forced := mset s.evt.forced k false,
      clrDue := Tab.put (fun _ => 0) s.evt.clrDue k (s.mono + s.clrDelay) },
    shadow := { s.shadow with release := mset s.shadow.release k true } }

/-- Position-0 ports of the strings that a due /CLR/ names. -/
def State.clrStrings (s : State) (idx : Nat) : List Nat :=
  if idx < 16 then s.stackStrings idx else [s.cellPort (idx - 16)]

/-- R305, R306: at the boundary after a release or recovery /CLR/ leaves on every lit port of the affected
strings. A side in role OUT sends none (R353) (DEDUCED, log entry 45). -/
def execClrSend (s : State) : Host.Outcome State Fault Refusal :=
  let s := s.silent
  let due := s.evt.clrDue.filter fun d => decide (d.2 ≤ s.mono)
  let ports := ((due.flatMap fun d => s.clrStrings d.1).flatMap s.usedPorts).eraseDups
  let s := { s with evt := { s.evt with clrDue := s.evt.clrDue.filter fun d => decide (s.mono < d.2) } }
  .next (if s.pair.role = .out then s else ports.foldl (fun (s : State) (p : Nat) => s.urgent p .clr 0) s)

/-! ## FAULT_RESET -/

/-- Events that carry a CI as their instance (DEDUCED, log entry 50). -/
def cellInst : List Nat :=
  [0x0101, 0x0102, 0x0103, 0x0104, 0x0105, 0x0303, 0x0304, 0x0305, 0x0306, 0x0307, 0x0601, 0x0602, 0x0603, 0x0609,
   0x0801, 0x0802, 0x0803, 0x0805, 0x0806, 0x0807, 0x0901, 0x0904]

/-- Events that carry a stack as their instance (DEDUCED, log entry 50). -/
def stackInst : List Nat := [0x0501, 0x0502, 0x0503, 0x0504, 0x0606, 0x0607, 0x0608, 0x0705, 0x0804, 0x0B07]

/-- An active event in the scope of a FAULT_RESET (R307). -/
def State.resetScope (s : State) (scope index inst : Nat) (e : ActEv) : Bool :=
  match scope with
  | 0 => true
  | 1 => decide (e.code ∈ stackInst ∧ e.inst = index) || (s.scope e.code e.inst).testBit index
      || (decide (e.code ∈ cellInst) && decide (s.stackOf e.inst = index))
      || (decide (e.code = 0x0905) && (if e.inst < 3072 then decide (s.stackOf e.inst = index)
            else (W.PROT_CFG_MASK (s.word (K.PROT_CFG (e.inst - 3072)))).testBit index))
  | 2 => (decide (e.code ∈ cellInst) || decide (e.code = 0x0905)) && decide (e.inst = index)
  | _ => decide (e.code = index ∧ e.inst = inst)

/-- Recovery sources in the scope of a FAULT_RESET (R307). -/
def State.resetSource (s : State) (scope index inst src : Nat) : Bool :=
  match scope with
  | 0 => true
  | 1 => if src < 3072 then decide (s.stackOf src = index)
      else (W.PROT_CFG_MASK (s.word (K.PROT_CFG (src - 3072)))).testBit index
  | 2 => decide (src = index)
  | _ =>
    if classOf index = .cell then decide (src = inst)
    else if index = 0x0902 then decide (src = 3072 + inst)
    else decide (index = 0x0905 ∧ src = inst)

/-- What FAULT_RESET does at its boundary (R307): the state, the events cleared and the events left
(DEDUCED, log entry 45). -/
def State.faultReset (s : State) (scope index inst : Nat) : State × Nat × Nat :=
  let s := (s.evt.recs.filter fun r => s.resetSource scope index inst r.1).foldl
    (fun (s : State) (r : Nat × RecSrc) => s.setRec r.1 { r.2 with count := 0, locked := false }) s
  let inS := s.evt.active.filter fun e => s.resetScope scope index inst e
  let go := inS.filter fun e => decide (e.code ∈ resetClears) && !s.present e
  let s := go.foldl (fun (s : State) (e : ActEv) => s.endEvent e 2) s
  let s := (go.filter fun e => decide (e.code ∈ faultedCodes ∨ e.code = 0x0803)).foldl
    (fun (s : State) (e : ActEv) => s.recoverCell e.inst) s
  let detail : Word := BitVec.ofNat 32 (scope * 65536 + index)
  (s.enqueue 0x0061 5 0 detail 0, go.length, inS.length - go.length)

/-! ## The journal -/

/-- R308: the entries not yet copied enter the journal's event log; entries lost before their copy raise
QUEUE_LOST (DEDUCED, log entry 45). -/
def State.copyEvents (s : State) : State :=
  let q := s.evt.queue
  let new := keepLast s.evt.uncopied q
  let all := s.jrnl.events ++ new
  { s with jrnl := { s.jrnl with events := keepLast 65536 all }, evt := { s.evt with uncopied := 0 } }

def execEventQueueCopy (s : State) : Host.Outcome State Fault Refusal :=
  let s := s.silent
  let s := s.copyEvents
  if s.evt.lost = s.evt.lostSeen then .next s else
  .next (({ s with evt := { s.evt with lostSeen := s.evt.lost } }).raise 0x0906 0 0 0)

/-- R488: a journal record is written and read back (`ok1`), and written again when it differs (`ok2`). An
event record lost in the second failure leaves the log (DESIGN CHOICE, log entry 16). -/
def execJournalWrite (region : Fin 9) (ok1 ok2 : Bool) (s : State) : Host.Outcome State Fault Refusal :=
  let s := s.silent
  if ok1 ∨ ok2 then .next s else
  let c := satInc s.jrnl.err s.jrnl.errSat
  let s := { s with jrnl := { s.jrnl with
    err := c.1, errSat := c.2.1, events := if (region : Nat) = 0 then s.jrnl.events.dropLast else s.jrnl.events } }
  .next ((s.raise 0x0F0B 0 (BitVec.ofNat 32 region) 0).satEvent c.2.2 K.JRNL_ERR 0)

/-- Baseplate band of R490 for a reading in 0.1 °C. -/
def baseBand (t : Int) : Nat :=
  if t < 250 then 0 else if t < 350 then 1 else if t < 450 then 2 else if t < 550 then 3
  else if t < 600 then 4 else if t < 650 then 5 else if t ≤ 700 then 6 else 7

/-- R489, R490: every second the lifetime counters and LAST_CYCLE are written. -/
def execLifetimeSecond (s : State) : Host.Outcome State Fault Refusal :=
  let s := s.silent
  if !s.sys.powered then .next s else
  let l := s.jrnl.life
  let b := baseBand s.baseTemp
  .next { s with jrnl := { s.jrnl with life := { l with
    onSeconds := l.onSeconds + 1,
    runSeconds := if s.sys.mode = .run then l.runSeconds + 1 else l.runSeconds,
    lastCycle := s.lastCycle,
    bands := Tab.put (fun _ => 0) l.bands b (Tab.get (fun _ => (0 : BitVec 64)) l.bands b + 1) } } }

end Sys2Proof.Machine
end

