-- ==== Sys2Proof/Machine/Supervise.lean ====
section
/-! DEFINITION. Switch supervision (R261–R289): correlating reports with built edges, strength adaptation, wear
records, and the short-circuit check of every valid slot. -/

namespace Sys2Proof.Machine

/-! ## Wear records -/

/-- A wear record started afresh (R272) for an identity at a cycle. -/
def Wear.fresh (ident : Word) (on off : Nat) (cyc : BitVec 48) : Wear :=
  { Wear.init with ident := ident, curOn := on, curOff := off, ton := 255, toff := 255, start := cyc }

/-- Switches of a cell by its stack's type. -/
def State.switches (s : State) (ci : Nat) : Nat := 2 * legCount (s.stackType (s.stackOf ci))

/-- SUP_CODE of a cell's stack. -/
def State.supCode (s : State) (ci : Nat) : Word := s.word (K.SUP_CODE (s.stackOf ci))

/-- A code that supervision sets for one direction, posted for the next latch (R267, R268). -/
def State.postCode (s : State) (ci sw : Nat) (on : Bool) (code : Nat) : State :=
  let e := s.supSw (ci * 8 + sw)
  let w := if on then { e.wear with curOn := code } else { e.wear with curOff := code }
  let s := s.setSupSw (ci * 8 + sw) { e with wear := w }
  { s with sup := { s.sup with codes := s.sup.codes ++ [{ ci := ci, sw := sw, turnOn := on, code := code }] } }

/-- The live records of a cell written to the journal (R273). -/
def State.storeWear (s : State) (ci : Nat) : State :=
  (List.range 8).foldl (fun (s : State) (sw : Nat) =>
    let j := ci * 8 + sw
    let e := s.supSw j
    if e.wear = Wear.init then s else
    let w := { e.wear with update := s.cycle.setWidth 48 }
    let s := s.setSupSw j { e with wear := w }
    { s with jrnl := { s.jrnl with wear := Tab.put (fun _ => Wear.init) s.jrnl.wear j w } }) s

/-- Cells with live records, enabled or not (R273). -/
def State.wearCells (s : State) : List Nat := (s.sup.sw.map fun x => x.1 / 8).eraseDups

/-- One switch at admission (R268, R272): the record continues with its codes, or starts afresh while the old one
is closed into the journal. The windows at a limit count on (R269) (DEDUCED, log entry 44). -/
def State.wearAdmit (s : State) (ci : Nat) (ident : Word) (sw : Nat) : State :=
  let j := ci * 8 + sw
  let e := s.supSw j
  let c := s.supCode ci
  let on := W.SUP_CODE_INIT_ON c
  let off := W.SUP_CODE_INIT_OFF c
  let same := decide (e.wear.ident = ident) && decide (e.wear ≠ Wear.init)
  let s := if same ∨ e.wear = Wear.init then s else
    let w := { e.wear with update := s.cycle.setWidth 48 }
    { s with jrnl := { s.jrnl with closed := keepLast 4096 (s.jrnl.closed ++ [(j, w)]) } }
  let w := if same then e.wear else Wear.fresh ident on off (s.cycle.setWidth 48)
  let s := s.setSupSw j { e with wear := w, sumOn := 0, cntOn := 0, sumOff := 0, cntOff := 0 }
  (s.postCode ci sw true w.curOn).postCode ci sw false w.curOff

/-- R263, R268, R272: step 3 of an admission. The SC bytes of the cell's last slot stay for R279. -/
def State.supAdmit (s : State) (ci : Nat) : State :=
  let ident := (s.cell ci).seen
  let fresh := (List.range (s.switches ci)).any fun sw => decide ((s.supSw (ci * 8 + sw)).wear.ident ≠ ident)
  let s := (List.range (s.switches ci)).foldl (fun (s : State) (sw : Nat) => s.wearAdmit ci ident sw) s
  let s := s.setSupCell ci { s.supCell ci with tag := 0, errRun := 0, errAt := 0 }
  if fresh then s.clear 0x0806 ci 0 else s

/-- R272: CELL_CFG.EN has gone from 0 to 1: the records of the cell's switches start fresh for the identity that CELL_SEEN
shows; those of absent switches are zero (DEDUCED, log entry 44). -/
def State.wearEnable (s : State) (ci : Nat) : State :=
  let c := s.supCode ci
  let w := Wear.fresh (s.cell ci).seen (W.SUP_CODE_INIT_ON c) (W.SUP_CODE_INIT_OFF c) (s.cycle.setWidth 48)
  let s := (List.range 8).foldl (fun (s : State) (sw : Nat) =>
    s.setSupSw (ci * 8 + sw) { s.supSw (ci * 8 + sw) with wear := if sw < s.switches ci then w else Wear.init }) s
  s.clear 0x0806 ci 0

/-- R268: a commit of SUP_TGT or SUP_CODE of a stack empties its windows and moves the codes into their range
(DEDUCED, log entry 44). -/
def State.supCommit (s : State) (k : Nat) : State :=
  let c := s.word (K.SUP_CODE k)
  let lim (v : Nat) : Nat := min (max v (W.SUP_CODE_CODE_MIN c)) (W.SUP_CODE_CODE_MAX c)
  (s.stackCells k).foldl (fun (s : State) (ci : Nat) =>
    (List.range (s.switches ci)).foldl (fun (s : State) (sw : Nat) =>
      let j := ci * 8 + sw
      let e := s.supSw j
      let s := s.setSupSw j { e with sumOn := 0, cntOn := 0, sumOff := 0, cntOff := 0 }
      if e.wear = Wear.init then s else
      let s := if lim e.wear.curOn = e.wear.curOn then s else s.postCode ci sw true (lim e.wear.curOn)
      if lim e.wear.curOff = e.wear.curOff then s else s.postCode ci sw false (lim e.wear.curOff)) s) s

/-! ## Adaptation -/

/-- Target time of a switch and direction (R266, R286); 0 = not adapted. -/
def State.supTarget (s : State) (ci sw : Nat) (on : Bool) : Nat :=
  let k := s.stackOf ci
  let w := s.word (if sw < 4 then K.SUP_TGT01 k else K.SUP_TGT23 k)
  if on then W.SUP_TGT01_TON w else W.SUP_TGT01_TOFF w

/-- How a window ends (R266): the code after it, whether it points beyond the limit, whether it lies within the
deadband. -/
structure WindowEnd where
  code : Nat
  stuck : Bool
  inside : Bool
deriving DecidableEq, Repr

/-- The end of a window with its sum (R266). -/
def windowEnd (n tgt db lo hi code sum : Nat) : WindowEnd :=
  let ovr := decide (n * (tgt + db) < sum)
  let under := decide ((sum : Int) < n * ((tgt : Int) - db))
  { code := if ovr && decide (code < hi) then code + 1 else if under && decide (lo < code) then code - 1 else code,
    stuck := (ovr && decide (hi ≤ code)) || (under && decide (code ≤ lo)),
    inside := !ovr && !under }

/-- Consecutive windows at the limit (R269): four hold the event until a window ends within the deadband. -/
def limRun (run : Nat) (x : WindowEnd) : Nat :=
  if x.inside then 0 else if x.stuck then run + 1 else if 4 ≤ run then run else 0

/-- A switch's direction after a window: codes, mean, baseline, limit run (R266, R269, R271). -/
def SupSw.window (e : SupSw) (on : Bool) (x : WindowEnd) (mean : Nat) : SupSw :=
  if on then
    { e with sumOn := 0, cntOn := 0, limOn := limRun e.limOn x,
             wear := { e.wear with
               ton := min mean 255, baseOn := if x.inside && !e.wear.bonV then x.code else e.wear.baseOn,
               bonV := e.wear.bonV || x.inside } }
  else
    { e with sumOff := 0, cntOff := 0, limOff := limRun e.limOff x,
             wear := { e.wear with
               toff := min mean 255, baseOff := if x.inside && !e.wear.boffV then x.code else e.wear.baseOff,
               boffV := e.wear.boffV || x.inside } }

/-- The drift of a switch reaches the limit (R271). -/
def Wear.drifts (w : Wear) (lim : Nat) : Bool :=
  let far (v : Bool) (a b : Nat) : Bool := v && decide (lim ≤ ((a : Int) - b).natAbs)
  decide (lim ≠ 0) && (far w.bonV w.curOn w.baseOn || far w.boffV w.curOff w.baseOff)

/-- SW_DRIFT and SW_CODE_LIMIT of a cell as its records stand (R269, R271, R289). -/
def State.supJudge (s : State) (ci : Nat) (t : Nat) : State :=
  let sws := List.range (s.switches ci)
  let lim := W.SUP_CODE_DRIFT_LIM (s.supCode ci)
  let s := match sws.find? fun sw => (s.supSw (ci * 8 + sw)).wear.drifts lim with
    | some sw => s.raise 0x0806 ci (BitVec.ofNat 32 sw) t
    | none => s.clear 0x0806 ci t
  match sws.find? fun sw => decide (4 ≤ (s.supSw (ci * 8 + sw)).limOn ∨ 4 ≤ (s.supSw (ci * 8 + sw)).limOff) with
  | some sw => s.raise 0x0807 ci (BitVec.ofNat 32 sw) t
  | none => s.clear 0x0807 ci t

/-- R266: one attributed report of `t` ns for an edge built at code `gate`. -/
def State.adapt (s : State) (ci sw : Nat) (on : Bool) (gate t : Nat) : State :=
  let k := s.stackOf ci
  let ctl := s.word K.SUP_CTL
  let tgt := s.supTarget ci sw on
  let j := ci * 8 + sw
  let e := s.supSw j
  let code := if on then e.wear.curOn else e.wear.curOff
  if !W.SUP_CTL_EN ctl ∨ !W.SUP_BLK_ADAPT (s.word (K.SUP_BLK k)) ∨ tgt = 0 ∨ gate ≠ code then s else
  let sum := (if on then e.sumOn else e.sumOff) + t
  let cnt := (if on then e.cntOn else e.cntOff) + 1
  let n := 2 ^ W.SUP_CTL_AVG ctl
  if cnt ≠ n then
    s.setSupSw j (if on then { e with sumOn := sum, cntOn := cnt } else { e with sumOff := sum, cntOff := cnt })
  else
    let c := s.supCode ci
    let x := windowEnd n tgt (W.SUP_CODE_DB c) (W.SUP_CODE_CODE_MIN c) (W.SUP_CODE_CODE_MAX c) code sum
    let s := s.setSupSw j (e.window on x (sum / n))
    if x.code = code then s else
    let s := s.postCode ci sw on x.code
    { s with sup := { s.sup with steps := s.sup.steps + 1 } }

/-! ## Correlation -/

/-- The nib state and TYFLT.REPLY of a slot (R111). -/
def slotState (slot : List Byte) : Nat := (byteAt slot 0).toNat % 16
def slotReply (slot : List Byte) : Bool := (byteAt slot 1).getLsbD 5

/-- Tag of the last record that Ductus built for a cell in a target up to `T` and still remembers (R263)
(DEDUCED, log entry 44). -/
def Duct.lastTag (d : Duct) (T : Nat) : Option Nat :=
  d.hist.findSome? fun b =>
    if b.tgt ≤ T then (match b.recs.getLast? with | some w => some (recTag w) | none => none) else none

/-- Confirmed turn-off edges counted in a wear record (R270); the flag says EDGES saturates now. -/
def Wear.confirm (w : Wear) (n : Nat) : Wear × Bool :=
  let r := w.edgeRes + n
  let v := w.edges.toNat + r / 65536
  let sat := decide (0xFFFFFFFF ≤ v)
  ({ w with edgeRes := r % 65536, edges := if sat then 0xFFFFFFFF else BitVec.ofNat 32 v, edgesSat := w.edgesSat || sat },
    sat && !w.edgesSat)

/-- COUNTER_SAT for a field of a wear record: DETAIL carries the CI and the switch (R315; DEDUCED layout,
log entry 10). -/
def State.wearSat (s : State) (now : Bool) (ci sw t : Nat) : State :=
  if now then s.raise 0x0907 0 (BitVec.ofNat 32 (ci * 8 + sw)) t else s

/-- Turn-offs of a segment whose slot passed the LTAG condition (R270). -/
def State.confirmEdges (s : State) (ci : Nat) (recs : List Word) (t : Nat) : State :=
  (List.range (s.switches ci)).foldl (fun (s : State) (sw : Nat) =>
    let n := (recs.filter fun w => decide (recSw w = sw) && !recLevel w).length
    if n = 0 then s else
    let j := ci * 8 + sw
    let e := s.supSw j
    let r := e.wear.confirm n
    (s.setSupSw j { e with wear := r.1 }).wearSat r.2 ci sw t) s

/-- A correlation error (R265): TAG_ERR, and SW_TAG_MISMATCH at TAG_LIM in consecutive cycles. -/
def State.tagError (s : State) (ci c t : Nat) : State :=
  let x := satInc s.sup.tagErr s.sup.tagSat
  let s := { s with sup := { s.sup with tagErr := x.1, tagSat := x.2.1 } }
  let s := s.satEvent x.2.2 K.TAG_ERR t
  let e := s.supCell ci
  let run := if e.errAt + 1 = c then e.errRun + 1 else 1
  let s := s.setSupCell ci { e with errRun := run, errAt := c }
  if W.SUP_CTL_TAG_LIM (s.word K.SUP_CTL) ≤ run then s.raise 0x0805 ci 0 t else s

/-- One cell's slot at the cut-off (R264–R266, R270). A slot with a reply carries no LTAG. -/
def State.supervise (s : State) (t ci : Nat) : State :=
  let cut := s.cutOf ci
  if cut.stale ∨ cut.slot = [] then s else
  let c := cut.samp
  let d := s.dcell ci
  let e := s.supCell ci
  let expect := (d.lastTag (c - 1)).getD e.tag
  let s := s.setSupCell ci { e with tag := expect }
  if slotReply cut.slot then s else
  let recs := match d.builtFor (c - 1) with | some b => b.recs | none => []
  let swt (n : Nat) : Nat := (byteAt cut.tail n).toNat
  let last (n : Nat) : Option Word := (recs.filter fun w => recSw w = n).getLast?
  let tagOk := decide ((byteAt cut.tail 8).toNat = expect)
  let ok := tagOk && (List.range 8).all fun n => (last n).isSome || decide (swt n = 255)
  let s := if tagOk then s.confirmEdges ci recs t else s
  if slotState cut.slot ≠ 2 then s else
  let s := if ok then s.setSupCell ci { s.supCell ci with errRun := 0 } else s.tagError ci c t
  if !ok ∨ ((cut.tail.drop 9).take 4).any (· ≠ 0) then s else
  let s := (List.range (s.switches ci)).foldl (fun (s : State) (n : Nat) =>
    match last n with
    | some w => if swt n = 255 then s else s.adapt ci n (recLevel w) (recGate w) (swt n)
    | none => s) s
  s.supJudge ci t

/-- `SUPERVISION_PROCESS` (R267): the slots of the cut-off, cell by cell (DEDUCED, log entry 44). -/
def execSupervisionProcess (s : State) : Host.Outcome State Fault Refusal :=
  let s := s.silent
  let s := { s with sup := { s.sup with steps := 0 } }
  .next (s.allCells.foldl (fun (s : State) (ci : Nat) => s.supervise 48500 ci) s)

/-- `WEAR_JOURNAL_PERIOD` (R273): every live record is written to the journal. -/
def execWearJournalPeriod (s : State) : Host.Outcome State Fault Refusal :=
  let s := s.silent
  .next (s.wearCells.foldl State.storeWear s)

/-! ## Shorts -/

/-- DETAIL of a short event: FLAGS in [15:8], KIND in [7:0] (R308; DEDUCED layout, log entry 10). -/
def shortDetail (sc : List Byte) : Word := at_ (byteAt sc 0).toNat 8 ||| at_ (byteAt sc 3).toNat 0

/-- The event of a short by its KIND (R279). -/
def shortCode (kind : Nat) : Nat := if kind = 1 then 0x0801 else if kind = 2 then 0x0802 else 0x0803

/-- The first short capture (R279, R285). -/
def State.shortCapture (s : State) (ci c : Nat) (sc : List Byte) (exact_ : Bool) : State :=
  if bit s.sup.scCap 31 then s else
  { s with sup := { s.sup with
      scCap := at_ 1 31 ||| at_ (b2n exact_) 30 ||| at_ ((byteAt sc 3).toNat % 4) 28 ||| at_ ci 16
        ||| at_ (byteAt sc 0).toNat 8,
      scTime := at_ ((s.cycle.toNat + c - s.mono) % 65536) 16 ||| at_ (beAt sc 1 2) 0 } }

/-- SC_CNT of every flagged switch that has a record (R272, R279, R288). -/
def State.shortCounts (s : State) (ci flags t : Nat) : State :=
  (List.range 8).foldl (fun (s : State) (sw : Nat) =>
    let j := ci * 8 + sw
    let e := s.supSw j
    if !flags.testBit sw ∨ s.switches ci ≤ sw ∨ e.wear = Wear.init then s else
    let x := satInc e.wear.scCnt e.wear.scSat
    (s.setSupSw j { e with wear := { e.wear with scCnt := x.1, scSat := x.2.1 } }).wearSat x.2.2 ci sw t) s

/-- R282: as many cells of the stack as SC_MULTI detected new shorts in one cycle (DEDUCED, log entry 44). -/
def State.shortMulti (s : State) (ci c t : Nat) : State :=
  let k := s.stackOf ci
  let n := ((s.stackCells k).filter fun x => decide ((s.supCell x).shortAt = c + 1)).length
  if W.SUP_LIM_SC_MULTI (s.word (K.SUP_LIM k)) ≤ n then s.raise 0x0804 k (BitVec.ofNat 32 ci) t else s

/-- R279–R282: the SC bytes of a valid slot of elapsed cycle `samp`; `prev` is that of the slot before it. -/
def State.shortCheck (s : State) (ci samp prev : Nat) (sc : List Byte) (t : Nat) : State :=
  let old := (s.supCell ci).sc
  let held := old.any (· ≠ 0)
  let now := sc.any (· ≠ 0)
  let e := s.supCell ci
  let c := samp - 1
  let s := s.setSupCell ci { e with sc := sc, shortAt := if now && !held then c + 1 else e.shortAt }
  if !now then s
  else if held then
    if byteAt old 0 = byteAt sc 0 ∧ byteAt old 3 = byteAt sc 3 then s
    else s.enqueue (shortCode (byteAt sc 3).toNat) 3 ci (shortDetail sc) t
  else
    let k := s.stackOf ci
    let byp := W.SUP_BLK_SC_BYP (s.word (K.SUP_BLK k)) || W.CELL_CFG_AUTO_BYP (s.cellCfg ci)
    let x := satInc s.sup.scCount s.sup.scSat
    let s := { s with sup := { s.sup with scCount := x.1, scSat := x.2.1 } }
    let s := (s.satEvent x.2.2 K.SC_COUNT t).shortCounts ci (byteAt sc 0).toNat t
    let s := s.shortCapture ci c sc (decide (prev + 1 = samp))
    (s.raiseB (shortCode (byteAt sc 3).toNat) ci (shortDetail sc) t byp).shortMulti ci c t

end Sys2Proof.Machine
end

