-- ==== Sys2Proof/Machine/Modes.lean ====
section
/-! DEFINITION. The transitions of the module state (R396, R397, R400, R401). -/

namespace Sys2Proof.Machine

/-- State codes of R396. -/
def modCode : ModState → Nat
  | .boot => 0 | .config => 1 | .standby => 2 | .charging => 3 | .ready => 4 | .run => 5 | .blocked => 6
  | .safeHold => 7 | .service => 8

/-- The state that a code names (R396). -/
def modOfCode : Nat → Option ModState
  | 0 => some .boot | 1 => some .config | 2 => some .standby | 3 => some .charging | 4 => some .ready
  | 5 => some .run | 6 => some .blocked | 7 => some .safeHold | 8 => some .service | _ => none

/-! ## Transitions -/

/-- SYS_STATE as it reads (R400). -/
def State.sysState (s : State) : Word :=
  at_ s.sys.reason 16 ||| at_ (modCode s.sys.prev) 12
    ||| at_ (match s.sys.modeReq with | some r => modCode r.target | none => 15) 8
    ||| at_ (b2n s.safeHoldRequest) 4 ||| at_ (modCode s.sys.mode) 0

/-- Ductus's stop and start of stacks (R174, R175) follow from the state that each step reads; a pre-charge phase
ends with CHARGING. -/
def State.clearPhases (s : State) : State :=
  { s with sched := { s.sched with stks := s.sched.stks.filterMap fun x =>
      let d : SchStack := { x.2 with phase := 0, phaseRun := 0 }
      if d = SchStack.init then none else some (x.1, d) } }

/-- A transition at a cycle boundary (R397): PREV, REASON, SYS_LASTCHG, and STATE_CHANGED with PREV, STATE and
REASON where SYS_STATE holds them. A pre-charge that it cuts short ends with NOT_IN_STATE (R398)
(DEDUCED, log entry 10). SYS_LASTCHG takes the cycle at the entry into CONFIG from BOOT too, where R400's Reset column
gives 0 and R399 says the cycle of the last transition (DESIGN CHOICE, log entry 58). -/
def State.setMode (s : State) (dst : ModState) (reason : Nat) : State :=
  let from_ := s.sys.mode
  let s := { s with sys := { s.sys with
    mode := dst, prev := from_, reason := reason, lastChg := s.cycle.setWidth 32,
    blockReq := s.sys.blockReq && decide (dst ≠ ModState.blocked) } }
  let s := if from_ = .charging then
      (match s.preOp with | some o => s.opEnd o.id 2 0x0201 | none => s).clearPhases
    else s
  s.raise 0x0003 0 (at_ reason 16 ||| at_ (modCode from_) 12 ||| at_ (modCode dst) 0) 0

/-- RETIRE to every admitted cell, on leaving STANDBY or SERVICE (R397). -/
def State.retireAll (s : State) : State :=
  (s.allCells.filter s.admitted).foldl (fun (s : State) (ci : Nat) => s.backToFound ci) s

/-- The island demands nothing of the module's state: it is in RUN and requests no SAFE_HOLD (R322). -/
def State.islandRuns (s : State) : Bool := decide (s.saf.island = islRun)

/-- Every enabled stack holds an INSERTED cell and, for READY, none in CHARGING (R397). -/
def State.stacksInserted (s : State) (noCharging : Bool) : Bool :=
  ((List.range 16).filter s.stackEn).all fun k =>
    (s.stackCells k).any (fun ci => decide (s.svc ci = .inserted))
      && (!noCharging || (s.stackCells k).all fun ci => decide (s.svc ci ≠ .charging))

def State.moduleEvent (s : State) : Bool := s.evt.active.any fun e => decide (classOf e.code = .module)

/-- Conditions of a MODE_SET from STANDBY (R397). -/
def State.fromStandby (s : State) (dst : ModState) (mask : Nat) : Bool :=
  match dst with
  | .config | .service | .standby => true
  | .ready => s.stacksInserted true
  | .charging =>
    !s.safeHoldRequest && (List.range 16).all fun k =>
      !mask.testBit k || (s.stackEn k && (s.stackCells k).any fun ci =>
        decide (s.svc ci = .found) || s.inService ci)
  | _ => false

/-- A MODE_SET transition is admitted from the present state (R397) (DEDUCED, log entry 31). -/
def State.mayMode (s : State) (dst : ModState) (mask : Nat) : Bool :=
  let left := decide (dst ∈ [ModState.ready, .standby, .config, .service]) && !s.moduleEvent && s.fromStandby dst mask
    && (decide (dst ≠ .standby) || s.islandRuns)
  match s.sys.mode, dst with
  | .config, .standby => s.cmd.txn.isNone && s.islandRuns
  | .config, .service => true
  | .standby, .config | .standby, .service | .standby, .charging | .standby, .ready => s.fromStandby dst mask
  | .service, .config => true
  | .service, .standby => s.islandRuns
  | .ready, .standby => true
  | .ready, .run =>
    s.stacksInserted false && ((List.range 16).filter s.stackEn).all fun k =>
      decide (W.STK_MODE_MODE (s.word (K.STK_MODE k)) ≠ 0)
  | .run, .ready => true
  | .blocked, _ => left
  | .safeHold, _ => left && !s.safeHoldRequest
  | _, _ => false

end Sys2Proof.Machine
end

