-- ==== Sys2Proof/Machine/NibOps.lean ====
section
/-! DEFINITION. What a nib does by itself (The Cell Link and the Nib, R101–R135, R141; Switch Supervision,
R261, R262, R275–R278): the shared operations of its events. Side 0 is the low side, side 1 the high. -/

namespace Sys2Proof.Machine

/-- Nib states of R112. -/
def nsPowerUp : Nat := 0
def nsNumbered : Nat := 1
def nsAdmitted : Nat := 2
def nsSafe : Nat := 3
def nsBlocked : Nat := 4
def nsLoopback : Nat := 5
def nsFault : Nat := 6

def Nib.side (n : Nib) (k : Nat) : NibSide := if k = 0 then n.low else n.high
def Nib.setSide (n : Nib) (k : Nat) (x : NibSide) : Nib := if k = 0 then { n with low := x } else { n with high := x }

/-- The side a set or a stroke leaves by: the opposite one, or the arrival side when the opposite one is in
wrap (R103, R117). -/
def Nib.outSide (n : Nib) (k : Nat) : Nat := if (n.side (1 - k)).wrap then k else 1 - k

/-- Every switch off. -/
def Nib.off (n : Nib) : Nib := { n with levels := [] }

/-- Wire cycle `a` lies after `b`: they are compared as differences modulo 2⁴⁸ (R159). -/
def ahead (a b : BitVec 48) : Bool := decide (a ≠ b ∧ (a - b).toNat < 2 ^ 47)

/-- What leaves a side of a nib. In far-end loopback the low transmitter retransmits what the low side receives and sends
nothing else (R89, R144; DEDUCED, log entry 36). -/
def State.nibSend (s : State) (p out : Nat) (o : Output) : State :=
  if (s.nib p).state = nsLoopback ∧ out = 0 then s else s.emit o

/-- What a nib in far-end loopback retransmits at its low side of what it receives there (R89, R144). -/
def State.nibEcho (s : State) (p side : Nat) (o : Output) : State :=
  if (s.nib p).state = nsLoopback ∧ side = 0 then s.emit o else s

/-- An ordered set received on a side is forwarded out of the opposite side, or back in wrap (R103). -/
def State.nibForward (s : State) (p side : Nat) (o : OSet) : State :=
  (s.nibEcho p side (.nibSet p 0 o)).nibSend p ((s.nib p).outSide side) (.nibSet p ((s.nib p).outSide side) o)

/-- Every switch of a nib turns off at the SOFT code of its last accepted segment, code 0 if it has accepted none
(R122, R123, R125, R134, R278). -/
def State.nibDown (s : State) (p : Nat) : State :=
  let a := s.aux p
  let on := decide ((s.nib p).levels ≠ [])
  let s := (s.setNib p (s.nib p).off).setAux p { a with cur := [] }
  if on then s.emit (.nibOff p a.soft) else s

/-- Header fields of R106. -/
def hdrType (h : List Byte) : Nat := beAt h 1 1
def hdrAct (h : List Byte) : Bool := (byteAt h 2).getLsbD 2
def hdrRly (h : List Byte) : Bool := (byteAt h 2).getLsbD 1
def hdrDir (h : List Byte) : Nat := b2n ((byteAt h 2).getLsbD 0)
def hdrCycle (h : List Byte) : BitVec 48 := BitVec.ofNat 48 (beAt h 4 6)
def hdrString (h : List Byte) : Nat := beAt h 10 1
def hdrSlots (h : List Byte) : Nat := beAt h 11 1
def hdrHops (h : List Byte) : Nat := beAt h 12 1
def hdrCorr (h : List Byte) : Nat := beAt h 14 6

/-- HCRC of a header: CRC-32C over bytes 1–27 (R106, R107). -/
def hdrCrc (h : List Byte) : Word := crc32c ((h.drop 1).take 27)

def hdrOk (h : List Byte) : Bool := decide (h.length = 32) && decide (BitVec.ofNat 32 (beAt h 28 4) = hdrCrc h)

/-- The header a nib forwards: HOPS and CORR raised, HCRC recomputed where the received one was correct (`ok`) and
left wrong otherwise (R107, R115). -/
def forwardHdr (h : List Byte) (res : Nat) (ok : Bool) : List Byte :=
  let body := h.take 12 ++ be 1 (hdrHops h + 1) ++ (h.drop 13).take 1 ++ be 6 (hdrCorr h + res) ++ (h.drop 20).take 8
  let good := hdrCrc body
  let was := BitVec.ofNat 32 (beAt h 28 4)
  body ++ wordBytes (if ok then good else if was = good then ~~~ good else was)

/-- Where the slot of position `p` lies behind the header of a stroke (R105). -/
def slotPlace (slots p : Nat) : Nat := 66 * slots + 40 * p

/-- The segments and slots a nib forwards: its own slot, where it has one, in place of the received bytes (R105, R116). -/
def forwardBody (body slot : List Byte) (at' : Nat) : List Byte :=
  if slot = [] then body else body.take at' ++ slot ++ body.drop (at' + slot.length)

/-- The places in the stroke at which /ERR/ leaves: the invalid symbols that the nib's own slot does not replace (R104). -/
def errPlaces (bad : List Nat) (slot : List Byte) (at' : Nat) : List Nat :=
  if slot = [] then bad else bad.filter fun i => !decide (32 + at' ≤ i ∧ i < 32 + at' + slot.length)

/-- An outward pass: the stroke arrives on the side that faces its origin, or the other side is in wrap
(R101, R117). -/
def Nib.outward (n : Nib) (k : Nat) (h : List Byte) : Bool :=
  decide (hdrDir h = k) || (n.side (1 - k)).wrap

/-- Segment fields of R108. -/
def segAct (g : List Byte) : Bool := (byteAt g 0).getLsbD 7
def segBlock (g : List Byte) : Bool := (byteAt g 0).getLsbD 6
def segByp (g : List Byte) : Bool := (byteAt g 0).getLsbD 5
def segHold (g : List Byte) : Bool := (byteAt g 0).getLsbD 4
def segMgmt (g : List Byte) : Bool := (byteAt g 0).getLsbD 3

/-- An empty segment: 66 bytes of 0x00 (R108). -/
def segEmpty (g : List Byte) : Bool := g.all fun b => decide (b = 0)

/-- An edge record from its 4 bytes (R109). -/
def edgeOf (w : Nat) : Edge :=
  { offset := w >>> 16, sw := (w >>> 13) % 8, level := (w >>> 12) % 2 = 1, gate := (w >>> 8) % 16, tag := w % 256 }

/-- The 4 bytes of an edge record (R109). -/
def Edge.num (e : Edge) : Nat := e.offset <<< 16 ||| e.sw <<< 13 ||| b2n e.level <<< 12 ||| e.gate <<< 8 ||| e.tag

/-- The edge records of a segment. -/
def segEdges (g : List Byte) : List Edge := (List.range (beAt g 1 1)).map fun i => edgeOf (beAt g (8 + 4 * i) 4)

/-- Switches that a cell type has (R13). -/
def switchesOf (typ : Nat) : Nat := match typ with | 1 => 2 | 2 => 4 | 3 => 8 | _ => 0

/-- Offsets in range and never decreasing (R110) (DEDUCED, log entry 18). -/
def edgesRise : Nat → List Edge → Bool
  | _, [] => true
  | lo, e :: es => decide (lo ≤ e.offset) && decide (e.offset ≤ 62499) && edgesRise e.offset es

/-- No two records name one switch at one OFFSET (R110) (DEDUCED, log entry 18). -/
def edgesApart : List Edge → Bool
  | [] => true
  | e :: es => (es.all fun x => !decide (x.offset = e.offset ∧ x.sw = e.sw)) && edgesApart es

/-- Switch levels as pairs of a table, after records in their order (DEDUCED, log entry 18). -/
def runEdges (lv : List (Nat × Bool)) (es : List Edge) : List (Nat × Bool) :=
  es.foldl (fun (l : List (Nat × Bool)) (e : Edge) => Tab.put (fun _ => false) l e.sw e.level) lv

/-- Both switches of a leg are on (DEDUCED, log entry 18). -/
def legShort (lv : List (Nat × Bool)) : Bool :=
  [0, 1, 2, 3].any fun k => Tab.get (fun _ => false) lv (2 * k) && Tab.get (fun _ => false) lv (2 * k + 1)

/-- Executing the records in order from `lv` leaves no leg with both switches on at the instant of any record; the
records of one OFFSET are one instant (R110; DEDUCED, log entry 18). -/
def legsApart (lv : List (Nat × Bool)) (es : List Edge) : Bool :=
  es.all fun e => !legShort (runEdges lv (es.filter fun x => decide (x.offset ≤ e.offset)))

/-- The levels a nib predicts for the start of target `t` from the records still to run and
the schedules it holds (R110, R119, R122) (DEDUCED, log entry 18). -/
def Nib.levelsAt (x : Nib) (cur : List Edge) (now : BitVec 48) (t : Option (BitVec 48)) : List (Nat × Bool) :=
  (List.range 6).foldl (fun (l : List (Nat × Bool)) (d : Nat) =>
    let u := now + BitVec.ofNat 48 d
    if (match t with | some t => decide ((t - now).toNat ≤ d) | none => false) then l else
    match (x.held ++ x.mirror).find? fun h => decide (h.target = u) with
    | some h => if h.hold then l else runEdges l h.edges
    | none => l) (runEdges x.levels cur)

/-- A segment that R110 lets pass but for its epoch, at a nib whose switches stand at `lv` when its target begins
(DEDUCED, log entry 18). -/
def segSound (typ : Nat) (lv : List (Nat × Bool)) (g : List Byte) (err : Bool) : Bool :=
  let es := segEdges g
  !err && decide (g.length = 66) && decide (BitVec.ofNat 16 (beAt g 64 2) = crc16 (g.take 64))
    && decide (beAt g 1 1 ≤ (if segMgmt g then 12 else 14))
    && edgesRise 0 es && es.all (fun e => decide (e.sw < switchesOf typ)) && edgesApart es && legsApart lv es

/-- Request codes that are taken at any epoch (R134). -/
def anyEpoch (code : Nat) : Bool := decide (code = 1 ∨ code = 3 ∨ code = 4)

/-- The target of a segment: the cycle 1 to 4 after the header's CYCLE whose low 16 bits equal TARGET
(R121). -/
def segTarget (c : BitVec 48) (g : List Byte) : Option (BitVec 48) :=
  [1, 2, 3, 4].findSome? fun d =>
    let t := c + BitVec.ofNat 48 d
    if t.toNat % 65536 = beAt g 2 2 then some t else none

/-- A block latched (R125): held schedules and mirror copies discarded, switches off, BLOCKED from ADMITTED
or SAFE; the arming is consumed (R126) (DEDUCED, log entry 36). -/
def State.nibLatch (s : State) (p : Nat) : State :=
  let s := s.nibDown p
  let n := s.nib p
  let st := if n.state = nsAdmitted ∨ n.state = nsSafe then nsBlocked else n.state
  s.setNib p { n with state := st, latch := true, armed := false, held := [], mirror := [] }

/-- FAULT entered from ADMITTED, SAFE or BLOCKED (R112, R278): switches off at the SOFT code, schedules
discarded. -/
def State.nibFault (s : State) (p : Nat) : State :=
  let s := s.nibDown p
  let n := s.nib p
  let st := if n.state = nsAdmitted ∨ n.state = nsSafe ∨ n.state = nsBlocked then nsFault else n.state
  s.setNib p { n with state := st, held := [], mirror := [] }

/-- A rejected segment counts in the health byte (R110, R111): the cycles of the last 15 are kept. -/
def NibAux.reject (a : NibAux) (c : BitVec 48) : NibAux := { a with rejects := keepLast 15 (a.rejects ++ [c]) }

/-- Rejections in the last 1,000 cycles, saturating at 15 (R111). -/
def NibAux.rejectCount (a : NibAux) (c : BitVec 48) : Nat :=
  min 15 (a.rejects.filter fun r => decide ((c - r).toNat < 1000)).length

/-- A SHORT is held while the SC bytes are not zero (R277). -/
def NibAux.shorted (a : NibAux) : Bool := a.sc.any fun b => decide (b ≠ 0)

/-- STAT, TYFLT, SC, SWT and LTAG as they stand at start(c) (R111, R262, R277). -/
def nibSnap (n : Nib) (a : NibAux) : List Byte :=
  [BitVec.ofNat 8 (b2n n.byp * 64 + b2n n.latch * 32 + n.state),
   BitVec.ofNat 8 (b2n a.dual * 16 + b2n (a.fGate || a.shorted) * 8 + b2n a.fTemp * 4 + b2n a.fAux * 2 + b2n a.timeErr)]
  ++ padTo 4 a.sc ++ (List.range 8).map (fun k => BitVec.ofNat 8 (Tab.get (fun _ => 255) a.swt k))
  ++ [BitVec.ofNat 8 a.ltag]

/-- Temperatures a cell type lacks read 0 (R24): T1–T3 on HB2, T2–T3 on FB4; points 37 and 38 exist on DAB8
only. -/
def maskMeas (typ : Nat) (m : List Byte) : List Byte :=
  (padTo 12 m).zipIdx.map fun (b, i) => if (typ = 1 ∧ 7 ≤ i ∧ i ≤ 9) ∨ (typ = 2 ∧ 8 ≤ i ∧ i ≤ 9) then 0 else b

def maskExt (typ : Nat) (e : List Byte) : List Byte :=
  (padTo 8 e).zipIdx.map fun (b, i) => if typ ≠ 3 ∧ 2 ≤ i ∧ i ≤ 5 then 0 else b

/-- The snapshot of start(c), or the nib as it stands while it has none (R111). -/
def snapOf (n : Nib) (a : NibAux) (c : BitVec 48) : List Byte :=
  match a.snaps.find? fun x => x.1 = c with | some x => x.2 | none => nibSnap n a

/-- Bytes 0–37 of a nib's slot for the strokes of cycle `c`, STAT[4] at 0 (R111, R113). -/
def nibBody (n : Nib) (a : NibAux) (c : BitVec 48) (meas ext : List Byte) (health : Nat) : List Byte :=
  let replying := decide (a.replyIn = some (c - 1))
  let snap := snapOf n a c
  padTo 38 ([BitVec.ofNat 8 (128 + (byteAt snap 0).toNat),
     BitVec.ofNat 8 (n.typ * 64 + b2n replying * 32 + (byteAt snap 1).toNat)]
    ++ be 2 (c.toNat % 65536) ++ maskMeas n.typ meas
    ++ (if replying then padTo 22 a.reply
        else (snap.drop 6).take 9 ++ (snap.drop 2).take 4
          ++ [BitVec.ofNat 8 (a.rejectCount c * 16 + health)] ++ maskExt n.typ ext))

/-- The bytes a nib sends for cycle `c`: those of its first pass in that cycle again in a second (R113). -/
def NibAux.bodyFor (a : NibAux) (n : Nib) (c : BitVec 48) (meas ext : List Byte) (health : Nat) : List Byte :=
  match a.sent.find? fun x => x.1 = c with | some x => x.2 | none => nibBody n a c meas ext health

/-- A slot as it leaves: the side of the segment under execution in STAT[4], and TCRC (R111). -/
def slotSent (body : List Byte) (dir : Nat) : List Byte :=
  let b := BitVec.ofNat 8 ((byteAt body 0).toNat + dir * 16) :: body.drop 1
  b ++ be 2 (crc16 b).toNat

/-! ## Time -/

/-- Units of the nib's clock: 2⁻¹⁶ ps. -/
def nibPs (ps : Nat) : Int := ps * 65536

/-- The start of cycle `c` that a header shows (R128): t_H − LEAD × 160 ps − (CORR + TRIM). -/
def startEst (tH lead corr : Nat) (trim : Int) : Int := nibPs tH - nibPs (lead * 160) - ((corr : Int) + trim) * 1000

/-- The start of cycle `c` as the nib predicts it. -/
def NibAux.predict (a : NibAux) (c : BitVec 48) : Option Int :=
  a.time.map fun t => t + (if ahead a.cyc c then -((a.cyc - c).toNat : Int) else ((c - a.cyc).toNat : Int)) * nibPs 10000000

/-- An estimate of start(c) is taken unless it lies more than 10 ns from the prediction (R128). -/
def NibAux.takes (a : NibAux) (c : BitVec 48) (e : Int) : Bool :=
  match a.predict c with | some p => decide ((e - p).natAbs ≤ 10000 * 65536) | none => true

/-- The nib's time with an estimate taken: filtered with a bandwidth of at most 1 kHz, here one sixteenth of the deviation
in each 10 µs cycle (R128; DESIGN CHOICE, log entry 58). The cycle never goes back. -/
def NibAux.estimate (a : NibAux) (c : BitVec 48) (e : Int) : NibAux :=
  let a := { a with timeBad := 0, timeErr := false }
  match a.time, a.predict c with
  | some t, some p =>
    let t := t + (e - p) / 16
    if ahead c a.cyc then { a with time := some (t + ((c - a.cyc).toNat : Int) * nibPs 10000000), cyc := c }
    else { a with time := some t }
  | _, _ => { a with time := some e, cyc := c }

/-- A segment for target `t` whose last byte arrives at `tS` ps comes too late: after start(t) − 1 µs (R121). -/
def NibAux.late (a : NibAux) (t : BitVec 48) (tS : Nat) : Bool :=
  match a.predict t with | some p => decide (p - nibPs 1000000 < nibPs tS) | none => true

/-- The nib's present tick count at tick `t` of its cycle. -/
def NibAux.now (a : NibAux) (t : Nat) : Nat := a.cyc.toNat * 62500 + t

/-! ## Switching times and shorts -/

/-- The code of a measured switching time (R261): a transition that began so many ns after the edge and lasted so long. -/
def swtCode (began lasted : Option Nat) : Nat :=
  match began, lasted with
  | some b, some d => if 280 < b then 255 else if 254 ≤ d ∨ 280 < b + d then 254 else d
  | some b, none => if 280 < b then 255 else 254
  | none, _ => 255

/-- Legs of the switches in a flag byte. -/
def legsOf (flags : Byte) : List Nat := (List.range 4).filter fun k => flags.getLsbD (2 * k) || flags.getLsbD (2 * k + 1)

/-- A detector trips (R275–R277): the desaturation detector is masked in its switch's blanking window; the hard comparator
gives KIND 1 inside a blanking window, both give KIND 2 outside; a second leg within 500 ns of the first makes KIND 3. -/
def NibAux.short (a : NibAux) (sw : Nat) (hard : Bool) (t : Nat) : Option NibAux :=
  let now := a.now t
  let blank (k : Nat) : Bool := decide (now < Tab.get (fun _ => 0) a.blankEnd k)
  let bit_ : Byte := BitVec.ofNat 8 (1 <<< sw)
  if !hard && blank sw then none
  else if a.shorted then
    let fl := byteAt a.sc 0 ||| bit_
    let two := decide (now ≤ a.scAt + 3125) && decide (1 < (legsOf fl).length)
    some { a with sc := [fl, byteAt a.sc 1, byteAt a.sc 2, if two then 3 else byteAt a.sc 3] }
  else
    let kind : Nat := if hard && (List.range 8).any blank then 1 else 2
    some { a with sc := [bit_] ++ be 2 t ++ [BitVec.ofNat 8 kind], scAt := now }

/-- TRIM of a side: ARR less the mean CORR of the 64 valid headers after SET_ARR (R129). -/
def NibSide.header (x : NibSide) (corr : Nat) : NibSide :=
  if x.corrLeft = 0 then x
  else if x.corrLeft = 1 then { x with trim := (x.arr : Int) - ((x.corrSum + corr) / 64 : Nat), corrSum := 0, corrLeft := 0 }
  else { x with corrSum := x.corrSum + corr, corrLeft := x.corrLeft - 1 }

/-- The reply to a request (R135), bytes 16–37, and the request marked as acted on. A repeated sequence number
is answered with the reply given before. -/
def State.nibReply (s : State) (p : Nat) (result : Nat) : State :=
  let n := s.nib p
  let a := s.aux p
  let bytes := [byteAt a.req 0, byteAt a.req 1, BitVec.ofNat 8 result, 1] ++ wordBytes n.ident
    ++ [BitVec.ofNat 8 n.epoch, 4] ++ be 2 n.turnLo ++ be 2 n.turnHi ++ be 2 n.fw ++ List.replicate 6 0
  s.setAux p { a with reply := bytes, replyIn := some a.cyc, lastReq := some (byteAt a.req 1).toNat, req := [] }

/-- The request a nib has taken is a repeat of the last one acted on (R133) (DEDUCED, log entry 36). -/
def NibAux.repeated (a : NibAux) : Bool := decide (a.lastReq = some (byteAt a.req 1).toNat)

/-- A repeated request is answered with the earlier reply and not acted on (R133) (DEDUCED, log entry 36). -/
def State.nibRepeat (s : State) (p : Nat) : State :=
  let a := s.aux p
  s.setAux p { a with replyIn := some a.cyc, req := [] }

end Sys2Proof.Machine
end

