-- ==== Sys2Proof/Machine/Strokes.lean ====
section
/-! DEFINITION. The module's side of the cell link (The Cell Link and the Nib, R105–R108, R114, R118, R120,
R129, R130, R132, R140): strokes sent, headers and echoes received. -/

namespace Sys2Proof.Machine

/-! ## Ends -/

/-- The nib side that faces a port: 0 low, 1 high (R16, R101). -/
def State.portSide (s : State) (q : Nat) : Nat :=
  let b := s.basePort q
  if W.PORT_CFG_MODE (s.portCfg b) = 3 then b2n s.sideB else b2n (decide (b ≠ q))

/-- A port sends strokes: it is in use and lit, and the cycle after an idle exit has come (R78, R87; DEDUCED, log
entry 37). -/
def State.sends (s : State) (q : Nat) : Bool :=
  decide (s.txMode q = .traffic) && s.laneInUse q && decide ((s.lane q).resume ≤ s.mono)

/-- Positions a string end reaches (R140): all, or those on its side of the break. -/
def State.reaches (s : State) (p pos side : Nat) : Bool :=
  let x := s.str p
  (s.usedPorts p).any (fun q => s.sends q && decide (s.portSide q = side))
    && (!x.wrap || (if side = 0 then decide (pos ≤ x.brk) else decide (x.brk < pos)))

/-! ## Strokes -/

/-- ACT of a header: a module that is no pair side sets it, a pair side while the quill hardware grants the token
(R120, R349). -/
def State.headerAct (s : State) : Bool := !s.pairSide || s.pair.grant

/-- The direction whose stroke carries segment ACT (R120): DIR 0 of a single module, the holder's own end in a
pair. -/
def State.actDir (s : State) (q : Nat) : Bool := if s.pairSide then s.pair.grant else decide (s.portSide q = 0)

/-- RLY (R120): the DIR = 1 stroke of a single module's ring, or a pair side that sees the partner's token. -/
def State.headerRly (s : State) (q : Nat) : Bool :=
  if s.pairSide then !s.pair.grant && s.pair.tokIn else decide (s.portSide q = 1)

/-- The stroke header of R106. -/
def State.strokeHeader (s : State) (q : Nat) : List Byte :=
  let b := s.basePort q
  let src := W.SYS_CTL_MODULE_ID (s.word K.SYS_CTL) * 16 + b2n s.sideB * 8 + b2n s.headerAct * 4
    + b2n (s.headerRly q) * 2 + s.portSide q
  let h : List Byte := [0xBC, 1, BitVec.ofNat 8 src, 1] ++ be 6 (s.cycle.toNat % 2 ^ 48)
    ++ [BitVec.ofNat 8 b, BitVec.ofNat 8 (s.slotsOf b), 0, BitVec.ofNat 8 s.look] ++ List.replicate 6 0
    ++ be 2 s.lead ++ List.replicate 6 0
  h ++ wordBytes (hdrCrc h)

/-- The segment that Ductus built for a position: BLOCK where no cell is expected (R118, R42). -/
def State.builtSeg (s : State) (b pos : Nat) : List Byte :=
  let d := s.dcell (48 * b + pos)
  if s.pairOps.shiftMove = 1 then d.old else d.seg

/-- A port's segments are mirror copies (R120, R143, R357): the P2k+1 end of a single module's ring, or the end of a pair
side that sees the partner hold the token, unless it relays nothing for the stack. -/
def State.sendsMirror (s : State) (q : Nat) : Bool :=
  if s.pairSide then
    !s.pair.grant && s.pair.tokIn && !s.shadow.relayOff.testBit (W.PORT_CFG_STACK (s.portCfg (s.basePort q)))
  else decide (s.portSide q = 1)

/-- A segment as a port sends it (R120, R357): as built, as a mirror copy, or empty. -/
def State.sentSeg (s : State) (q pos : Nat) : List Byte :=
  let g := padTo 66 (s.builtSeg (s.basePort q) pos)
  if s.actDir q then g
  else if !s.sendsMirror q then List.replicate 66 0
  else if segEmpty g then g else mirrorSeg g

/-- Echo requests leave a port (R130): under LINK_ECHO.EN, and while an enumeration or an admission of the string
measures. -/
def State.echoes (s : State) (b : Nat) : Bool :=
  W.LINK_ECHO_EN (s.word K.LINK_ECHO) || decide ((s.str b).enumOp ≠ 0)
    || (s.stringCells b).any fun ci => decide ((s.mg ci).step = 2)

/-- One port's stroke with its empty slots, the idle sets after it, and its echo request (R79, R105, R130). -/
def State.launchPort (s : State) (q : Nat) : State :=
  let b := s.basePort q
  let n := s.slotsOf b
  let segs := (List.range n).map (s.sentSeg q)
  let slots := List.replicate n (List.replicate 40 0)
  let x : Tx := { syms := strokeSyms (s.strokeHeader q) segs slots, start := s.ticks s.lead }
  let s := s.emit (.stroke q (s.strokeHeader q) segs slots)
  let s := (s.setTx q x).emit (.idles q (idleSet (rdRun false x.syms)))
  if !s.echoes b ∨ n = 0 then s else
  let x := s.str q
  let pos := x.echoNext % n
  (s.setStr q { x with echoNext := (pos + 1) % n }).emit (.ordered q (.ecq (BitVec.ofNat 8 pos) (~~~(BitVec.ofNat 8 pos))))

/-- `STROKE_LAUNCH` (R105): every lit port of a configured string sends the stroke of the present cycle
(DEDUCED, log entry 37). -/
def execStrokeLaunch (s : State) : Host.Outcome State Fault Refusal :=
  let s := s.silent
  if s.sys.mode = .boot then .next s else
  .next (((s.strings.flatMap s.usedPorts).filter s.sends).foldl (fun (s : State) (q : Nat) => s.launchPort q) s)

/-! ## Returned headers -/

/-- FOUND as one returned stroke shows it (R118) (DEDUCED, log entry 37). -/
def foundOf (hops : Nat) (returned : Bool) : Nat := if returned then (hops + 1) / 2 else hops

/-- STR_ERR raised by a count (R114, R310). -/
def State.strErr (s : State) (b n t : Nat) : State :=
  let x := s.str b
  let v := min 0xFFFFFFFF (x.err.toNat + n)
  let now := decide (v = 0xFFFFFFFF) && decide (x.err ≠ 0xFFFFFFFF)
  (s.setStr b { x with err := BitVec.ofNat 32 v, errSat := x.errSat || decide (v = 0xFFFFFFFF) }).satEvent now (K.STR_ERR b) t

/-- A line string's header (R140): WRAP, BRK and LINE_STRING_BROKEN. -/
def State.lineHeader (s : State) (b n t : Nat) : State :=
  let x := s.str b
  match x.enumCount with
  | none => s
  | some e =>
    if e ≤ n then s.setStr b { x with wrap := false, shortRun := 0 }
    else
      let s := s.setStr b { x with wrap := true, brk := n - 1, shortRun := x.shortRun + 1 }
      if W.LINK_LOSS_LOST_LIMIT (s.word K.LINK_LOSS) ≤ x.shortRun + 1 then s.raise 0x0302 b 0 t else s

/-- A ring or pair string's header: STRING_WRAPPED while strokes return to their origin end (R145). Before any enumeration
BRK at the far end counts from PORT_CFG.CELLS, and the cycles end to end are counted by the DIR 0 stroke at P2k+1, on a
pair side by the partner's (DESIGN CHOICE, log entry 58). -/
def State.ringHeader (s : State) (b side n : Nat) (returned : Bool) (t : Nat) : State :=
  let x := s.str b
  if returned then
    let all := x.enumCount.getD (W.PORT_CFG_CELLS (s.portCfg b))
    (s.setStr b { x with wrap := true, brk := if side = 0 then n - 1 else all - n - 1, wholeRun := 0 }).raise 0x0301 b 0 t
  else
    let run := x.wholeRun + (if side = 1 ∨ s.pairSide then 1 else 0)
    let s := s.setStr b { x with wrap := false, wholeRun := run }
    if 10000 ≤ run then s.clear 0x0301 b t else s

/-- `STROKE_HEADER_RETURN` (R118): a stroke's header is decoded at a port of a configured string
(DEDUCED, log entry 37). A pair side B shows a stroke at its own end P2k+1 in RX bit 1, as a single-module ring does
(DESIGN CHOICE, log entry 58). -/
def execStrokeHeaderReturn (p : Fin 64) (hdr : List Byte) (t : Tick) (s : State) : Host.Outcome State Fault Refusal :=
  let s := s.silent
  let b := s.basePort p
  let s := if s.txMode p = .farEnd then s.emit (.again p hdr) else s
  if !s.configured b ∨ (p : Nat) ∉ s.usedPorts b ∨ !s.lit p then .next s else
  let y := s.str p
  if !hdrOk hdr then
    .next ((s.setStr p { y with hdr := { y.hdr with ok := false } }).strErr b (s.slotsOf b) t)
  else if hdrType hdr ≠ 1 then .next s else
  let side := s.portSide p
  let ret := decide (hdrDir hdr = side)
  let h : RxHdr :=
    { ok := true, cycle := (hdrCycle hdr).setWidth 16, hops := hdrHops hdr, dir := hdrDir hdr, slots := hdrSlots hdr }
  let s := s.setStr p { y with hdr := h }
  let n := foundOf (hdrHops hdr) ret
  let x := s.str b
  let s := s.setStr b { x with
    foundRx := some (max n (x.foundRx.getD 0)), rx := mset x.rx (if (p : Nat) = b then 0 else 1) true }
  .next (if W.PORT_CFG_MODE (s.portCfg b) = 1 then s.lineHeader b n t else s.ringHeader b side n ret t)

/-! ## Echoes -/

/-- Lane latencies of R76 and byte time, in ps, by rate. -/
def txLatency (rate : Nat) : Nat := 12800 * 2 ^ rate
def rxLatency (rate : Nat) : Nat := 19200 * 2 ^ rate
def byteTime (rate : Nat) : Nat := 800 * 2 ^ rate

/-- ARR of R129 in 2⁻¹⁶ ns from a round trip and a turnaround in 2⁻⁸ ns, rounded down. The round trip is the
sum of `n`. -/
def arrOf (rate sum n turn : Nat) : Nat :=
  let tx : Int := txLatency rate
  let rx : Int := rxLatency rate
  let rt : Int := (sum : Int) * 256000 / n
  let half : Int := (rt - (tx + rx) * 65536 - (turn : Int) * 256000) / 2
  ((tx * 65536 + half) / 1000).toNat

/-- The arrival of segment `pos` meets R132 for D cycles. -/
def State.segInTime (s : State) (pos rate arr d : Nat) : Bool :=
  decide ((s.lead * 160 + (32 + 66 * (pos + 1)) * byteTime rate) * 65536 + arr * 1000 ≤ (d * 10000000 - 1000000) * 65536)

/-- D of R132 for the strokes of one end: one cycle less for pair mirror copies and at SHIFT 1 (R356)
(DEDUCED, log entry 22; DEDUCED, log entry 25). -/
def State.deadline (s : State) : Nat :=
  if s.pairSide ∧ (s.pair.role ≠ .holder ∨ s.pair.shift = 1) then s.look - 1 else s.look

/-- Ends whose strokes carry mirror copies: the high end of a single module's ring, or a pair side without the
token. -/
def State.mirrors (s : State) (q : Nat) : Bool :=
  if s.pairSide then decide (s.pair.role ≠ .holder) else decide (s.portSide q = 1)

/-- Positions of a string with a measured ARR that miss the deadline, on mirror copies or on ACT segments
(R132). -/
def State.lateSegs (s : State) (b : Nat) (mirror : Bool) : Bool :=
  ((s.usedPorts b).filter fun q => s.mirrors q == mirror).any fun q =>
    (List.range (s.slotsOf b)).any fun pos =>
      match (s.echoOf ((48 * b + pos) * 2 + s.portSide q)).arr with
      | some a => !s.segInTime pos (s.rateOf q) a s.deadline
      | none => false

/-- MIRROR_LATE of a string as its measured positions stand (R132) (DEDUCED, log entry 24). -/
def State.mirrorJudge (s : State) (b t : Nat) : State :=
  if s.lateSegs b true then s.raise 0x0309 b 0 t else s.clear 0x0309 b t

/-- SET_ARR to a cell for one side (R134) (DEDUCED, log entry 19; DEDUCED, log entry 37). -/
def State.sendArr (s : State) (ci side arr : Nat) : State :=
  let e := s.echoOf (ci * 2 + side)
  (s.setEcho (ci * 2 + side) { e with arr := some arr, sum := 0, count := 0 }).request ci 2
    (BitVec.ofNat 8 side :: be 4 arr)

/-- A mean of 16 echoes (R130): ECHO_JUMP against the last ARR, and the ARR sent: at once to a cell not in service,
else moved by at most 10 ps. -/
def State.echoMean (s : State) (ci side mean t : Nat) : State :=
  let e := s.echoOf (ci * 2 + side)
  match e.arr with
  | none => s.sendArr ci side mean
  | some a =>
    let d : Int := (mean : Int) - a
    let jump := decide ((W.LINK_ECHO_ECHO_TOL (s.word K.LINK_ECHO) * 10 * 65536 : Nat) < d.natAbs * 1000)
    let s := if jump then s.raise 0x0307 ci 0 t else s.clear 0x0307 ci t
    if d.natAbs * 1000 ≤ 2 * 65536 then s.setEcho (ci * 2 + side) { e with sum := 0, count := 0 }
    else if s.inService ci then s.sendArr ci side ((a : Int) + clampI (-655) 655 d).toNat
    else s.sendArr ci side mean

/-- An echo reply decoded at a port of the module with its round trip in 2⁻⁸ ns (R129, R130). Sixteen make a mean; while
a request to the nib still waits, the mean is taken again at the next echo. -/
def State.echoTake (s : State) (p pos rt t : Nat) : State :=
  let b := s.basePort p
  if !s.configured b ∨ p ∉ s.usedPorts b ∨ !s.sends p ∨ s.slotsOf b ≤ pos then s else
  let ci := 48 * b + pos
  if !s.occupied ci then s else
  let side := s.portSide p
  let e := s.echoOf (ci * 2 + side)
  let sum := e.sum + rt
  if e.count + 1 < 16 then s.setEcho (ci * 2 + side) { e with sum := sum, count := e.count + 1 }
  else if (s.mg ci).req ≠ [] then s
  else (s.echoMean ci side (arrOf (s.rateOf p) sum 16 e.turn) t).mirrorJudge b t

/-- `ECR` (R102, R103, R129): an echo reply reaches a port of the module, which acts on it when its four symbols are valid
(`ok`) and the complement matches, or a nib, which passes it on. -/
def execEcr (a : EchoAt) (d : SetData) (ok : Bool) (at_ : EchoStamp) (s : State) : Host.Outcome State Fault Refusal :=
  let s := s.silent
  match a with
  | .nib n side => .next (if (s.nib n).powered then s.nibForward n side (.ecr d.p d.q) else s)
  | .port l => .next (if ok ∧ d.q = ~~~d.p then s.echoTake l d.p.toNat at_.rt.toNat at_.t else s)

end Sys2Proof.Machine
end

