-- ==== Sys2Proof/Machine/Cells.lean ====
section
/-! DEFINITION. Telemetry received and the cut-off (R25, R42, R114, R118, R131, R138, R139, R314, R315), enumeration and
admission (R135–R138), and the stack-wide pre-charge (R398). -/

namespace Sys2Proof.Machine

/-! ## Management replies -/

/-- What an IDENTIFY reply tells of a cell (R41, R136, R43): identity and type recorded, mismatches judged
(DEDUCED, log entry 19; DEDUCED, log entry 10). -/
def State.identified (s : State) (ci : Nat) (ident : Word) (typ t : Nat) : State :=
  let s := s.setCell ci { s.cell ci with seen := ident, typ := typ }
  let s := if typ = s.stackType (s.stackOf ci) then s.clear 0x0102 ci t else s.raise 0x0102 ci (BitVec.ofNat 32 typ) t
  let want := s.word (K.CELL ci 1)
  if want = 0 ∨ want = ident then s.clear 0x0103 ci t else s.raise 0x0103 ci ident t

/-- One more position of an enumeration completed. -/
def State.enumDone (s : State) (b ci : Nat) : State :=
  let x := s.str b
  (s.setStr b { x with enumLeft := x.enumLeft.filter (· ≠ ci - 48 * b) }).opUpd x.enumOp fun o => { o with done := o.done + 1 }

/-- An enumeration reaches a cell (R136 step 3): FOUND, with RETIRED, MISSING and a loss ended
(DEDUCED, log entry 32). -/
def State.enumFound (s : State) (b ci : Nat) (ident : Word) (typ t : Nat) : State :=
  let s := s.setCell ci { s.cell ci with adm := .found, lost := false, retired := false }
  let s := (s.clear 0x0101 ci t).clear 0x0303 ci t
  (s.identified ci ident typ t).enumDone b ci

/-- A cell that is not admitted whose nib still holds an epoch is sent RETIRE, so that the nib takes the SET_ARR that
follows in segments of epoch 0 (R108, R110, R134, R137; DEDUCED, log entries 19 and 32). -/
def State.endEpoch (s : State) (ci : Nat) : State :=
  if beAt (s.mg ci).seenReply 8 1 ≠ 0 ∧ !s.admitted ci then s.sendRetire ci else s

/-- A reply of R135 in bytes 16–37 of a valid slot: taken when it answers the request awaited. -/
def State.takeReply (s : State) (b ci : Nat) (slot : List Byte) (t : Nat) : State :=
  let r := slot.drop 16
  let m := s.mg ci
  if m.await = 0 ∨ beAt r 0 1 ≠ m.await ∨ beAt r 1 1 ≠ m.seq then s else
  let s := s.setMg ci { m with await := 0, seenReply := r.take 16 }
  let s := s.setEcho (ci * 2) { s.echoOf (ci * 2) with turn := beAt r 10 2 }
  let s := s.setEcho (ci * 2 + 1) { s.echoOf (ci * 2 + 1) with turn := beAt r 12 2 }
  if beAt r 0 1 = 1 ∧ (s.str b).enumOp ≠ 0 ∧ ci - 48 * b ∈ (s.str b).enumLeft then
    (s.enumFound b ci (BitVec.ofNat 32 (beAt r 4 4)) (beAt slot 1 1 / 64) t).endEpoch ci
  else s

/-! ## Protection of a valid slot -/

/-- Effective overvoltage limits of a cell, 0 = none (R314). -/
def State.vmax1 (s : State) (ci : Nat) : Nat :=
  let v := W.CELL_LIMIT_VMAX1 (s.word (K.CELL ci 4))
  if v ≠ 0 then v else field (s.word (K.STK_VMAX (s.stackOf ci))) 31 16

def State.vmax2 (s : State) (ci : Nat) : Nat :=
  let v := W.CELL_LIMIT_VMAX2 (s.word (K.CELL ci 4))
  if v ≠ 0 then v else field (s.word (K.STK_VMAX (s.stackOf ci))) 15 0

/-- CELL_OVERVOLT (R314): above a limit raises it, both below 98 % ends its condition. -/
def State.overvolt (s : State) (ci : Nat) (slot : List Byte) (t : Nat) : State :=
  let v1 := beAt slot 4 2
  let v2 := beAt slot 6 2
  let m1 := s.vmax1 ci
  let m2 := s.vmax2 ci
  let ovr := (decide (m1 ≠ 0) && decide (m1 < v1)) || (decide (m2 ≠ 0) && decide (m2 < v2))
  let below := (decide (m1 = 0) || decide (v1 * 100 < m1 * 98)) && (decide (m2 = 0) || decide (v2 * 100 < m2 * 98))
  if ovr ∨ (s.isActive 0x0901 ci ∧ !below) then s.raise 0x0901 ci (at_ v1 16 ||| at_ v2 0) t
  else s.condGone 0x0901 ci

/-- NIB_FAULT (R139); a slot with REPLY shows no SC bytes and raises nothing (DEDUCED, log entry 32). -/
def State.nibFaultJudge (s : State) (ci : Nat) (slot : List Byte) (t : Nat) : State :=
  let bits := beAt slot 1 1 % 16
  let clean := !slotReply slot && (((slot.drop 25).take 4).all fun b => decide (b = 0))
  if bits = 0 then s.condGone 0x0305 ci
  else if s.isActive 0x0305 ci ∨ (s.inService ci ∧ clean) then s.raise 0x0305 ci (BitVec.ofNat 32 bits) t
  else s

/-- The bypass element as a slot reports it (R14, R15): a closure without command is an event, and takes the cell
out of its admission; a reopening ends the command. -/
def State.bypassSeen (s : State) (ci : Nat) (closed : Bool) (t : Nat) : State :=
  let c := s.cell ci
  if closed = c.bypClosed then s
  else if closed then
    let s := s.opEnd (s.mg ci).op 2 0x0201
    let s := s.setMg ci { s.mg ci with step := 0, op := 0 }
    let s := s.setCell ci { c with
      bypClosed := true, bypReq := false, preRun := 0, adm := if c.adm = .none then .none else .found }
    if c.bypCmd then s else s.raise 0x0105 ci 0 t
  else s.setCell ci { c with bypClosed := false, bypCmd := false }

/-- What protection makes of the first valid slot of a cycle: R124, R139, R15, R279, R314, R315
(DEDUCED, log entry 37). -/
def State.slotChecks (s : State) (b ci samp prev : Nat) (slot : List Byte) (t : Nat) : State :=
  let s := s.bypassSeen ci ((byteAt slot 0).getLsbD 6) t
  let s := if (byteAt slot 1).getLsbD 4 then (s.setStr b { s.str b with dual := true }).raise 0x0304 ci 0 t else s
  let s := if slotReply slot then s else s.shortCheck ci samp prev ((slot.drop 25).take 4) t
  let s := s.nibFaultJudge ci slot t
  let s := if slotState slot = 3 ∧ s.inService ci then s.raise 0x0904 ci 0 t else s
  s.overvolt ci slot t

/-! ## Slots -/

/-- The stroke of a header reached a position outward (R114, R118). -/
def State.slotReached (s : State) (b side pos : Nat) (h : RxHdr) : Bool :=
  let ret := decide (h.dir = side)
  let n := foundOf h.hops ret
  if h.dir = 0 then decide (pos < n)
  else
    let all := if ret then (s.str b).enumCount.getD (W.PORT_CFG_CELLS (s.portCfg b)) else n
    decide (all - n ≤ pos ∧ pos < all)

/-- A slot that R114 accepts, under the header of its stroke. -/
def slotValid (h : RxHdr) (slot : List Byte) (err : Bool) : Bool :=
  !err && decide (slot.length = 40) && decide (BitVec.ofNat 16 (beAt slot 38 2) = crc16 (slot.take 38))
    && (byteAt slot 0).getLsbD 7 && decide (BitVec.ofNat 16 (beAt slot 2 2) = h.cycle)

/-- The first valid copy of a cell's slot for a stroke enters the cell image (R25, R114). -/
def State.slotEnter (s : State) (b ci samp : Nat) (slot : List Byte) (t : Nat) : State :=
  let c := s.cell ci
  let rep := slotReply slot
  let s := s.setCell ci { c with
    slot := slot, tail := if rep then c.tail else (slot.drop 16).take 22, samp := samp, fresh := true,
    replied := rep, noSlot := 0, health := if rep then c.health else byteAt slot 29 }
  let s := s.slotChecks b ci samp c.samp slot t
  if rep then s.takeReply b ci slot t else s

/-- `TELEMETRY_SLOT_RECEIVE` (R114): the slot of a position of the stroke whose header port `p` decoded last. -/
def execTelemetrySlotReceive (p : Fin 64) (pos : Fin 96) (slot : List Byte) (err : Bool) (t : Tick) (s : State) :
    Host.Outcome State Fault Refusal :=
  let s := s.silent
  let b := s.basePort p
  let h := (s.str p).hdr
  if !s.configured b ∨ (p : Nat) ∉ s.usedPorts b ∨ !h.ok ∨ h.slots ≤ (pos : Nat) then .next s else
  let ci := 48 * b + (pos : Nat)
  if !slotValid h slot err then
    .next (if s.slotReached b (s.portSide p) pos h then s.strErr b 1 t else s)
  else
    let samp := s.mono - (s.cycle.setWidth 16 - h.cycle).toNat
    let c := s.cell ci
    if !s.enabled ci ∨ !s.occupied ci then
      let s := (s.setCell ci { c with fresh := true }).raise 0x0104 ci 0 t
      .next (if slotReply slot then s.takeReply b ci slot t else s)
    else if samp ≤ c.samp ∧ c.slot ≠ [] then .next s
    else .next (s.slotEnter b ci samp slot t)

/-! ## Losses -/

/-- `LOST_LIMIT_EXPIRY` (R138): no valid slot for LOST_LIMIT consecutive cycles (DESIGN CHOICE, log entry 6). -/
def execLostLimitExpiry (ci : Fin 3072) (s : State) : Host.Outcome State Fault Refusal :=
  let s := s.silent
  let c := s.cell ci
  if !s.enabled ci ∨ c.lost ∨ c.adm = .none ∨ c.noSlot < W.LINK_LOSS_LOST_LIMIT (s.word K.LINK_LOSS) then .next s
  else .next ((s.opEnd (s.mg ci).op 2 0x0201).raise 0x0303 ci 0 0)

/-! ## The cut-off -/

/-- A cell's telemetry tiles in the cell image memory are poisoned (R429, R433). -/
def State.tilePoisoned (s : State) (ci : Nat) : Bool :=
  s.ink.cimPoison.any fun t => decide (t = 4 * ci ∨ t = 4 * ci + 1)

/-- One cell at the cut-off (R25, R131, R138): what the engines read of it, and its stale and missing runs. -/
def State.cutCell (s : State) (ci : Nat) : State :=
  let c := s.cell ci
  let bad := s.tilePoisoned ci
  let stale := !c.fresh || bad
  let gone := decide (c.epoch ≠ 0) && !s.inService ci
  let old := s.cutOf ci
  let cut : CellCut :=
    { svc := (s.svc ci).code, slot := if bad then old.slot else c.slot, tail := if bad then old.tail else c.tail,
      samp := if bad then old.samp else c.samp, stale := stale,
      lv := (s.dcell ci).ptLv, gates := (s.dcell ci).gates, byp := 2 * b2n c.bypCmd + b2n c.bypClosed }
  let s := { s with sched := { s.sched with cut := Tab.put (fun _ => CellCut.init) s.sched.cut ci cut } }
  let s := s.setCell ci { c with
    fresh := false, stale := stale, staleRun := if stale || gone then c.staleRun + 1 else 0,
    noSlot := if c.fresh then 0 else c.noSlot + 1 }
  if old.svc = Svc.inserted.code ∧ cut.svc ≠ Svc.inserted.code then s.storeWear ci else s

/-- A position without a cell that has sent no valid slot for LOST_LIMIT cycles ends its CELL_UNEXPECTED (R42)
(DEDUCED, log entry 32). -/
def State.unexpectedGone (s : State) : State :=
  let lim := W.LINK_LOSS_LOST_LIMIT (s.word K.LINK_LOSS)
  (s.evt.active.filter fun e => decide (e.code = 0x0104)).foldl (fun (s : State) (e : ActEv) =>
    let c := s.cell e.inst
    let n := if c.fresh then 0 else c.noSlot + 1
    let s := s.setCell e.inst { c with noSlot := n, fresh := false }
    if lim ≤ n then s.clear 0x0104 e.inst 37500 else s) s

/-- FOUND of every string from the strokes returned since the last cut-off (R118). -/
def State.cutFound (s : State) : State :=
  s.strings.foldl (fun (s : State) (b : Nat) =>
    let x := s.str b
    s.setStr b { x with found := x.foundRx.getD x.found, foundRx := none }) s

/-- Inputs that source words name (R237). -/
def aiOf (ws : List Word) : List Nat := ws.filterMap fun w => if srcKind w = 2 then some (srcIndex w % 32) else none

/-- Analogue inputs in use (R465): of enabled loop slots, ISRC, streams, Blotter channels and protection thresholds. -/
def State.aiNamed (s : State) : List Nat :=
  let slots := (List.range 256).filter s.slotEn
  let isrc := ((List.range 16).filter s.stackEn).filterMap fun k =>
    let i := W.SCH_MODE_ISRC (s.word (K.SCH_MODE k))
    if i = 0 then none else some (i - 1)
  let strm := (List.range 4).flatMap fun j =>
    let w := s.word (K.STRM_CTL j)
    if W.STRM_CTL_EN w then (List.range (W.STRM_CTL_COUNT w)).map fun n => s.word (K.STRM_SRC j n) else []
  let blot := (List.range (W.BLOT_CTL_N (s.word K.BLOT_CTL))).map fun i => s.word (K.BLOT_SRC i)
  let prot := (List.range 16).filterMap fun j =>
    let w := s.word (K.PROT_CFG j)
    if W.PROT_CFG_EN w then some (W.PROT_CFG_AI w) else none
  (slots.flatMap fun n => aiOf (s.slotSources n)) ++ isrc ++ aiOf strm ++ aiOf blot ++ prot

def State.aiRes (s : State) (n : Nat) : AiRes := Tab.get (fun _ => AiRes.init) s.ai.res n

/-- AI_RESULT_OLD of every input in use (R465). -/
def State.aiAges (s : State) : State :=
  let lim := W.AI_CTL_AGE_LIM (s.word K.AI_CTL)
  let used := s.aiNamed
  (List.range 24).foldl (fun (s : State) (n : Nat) =>
    let r := s.aiRes n
    let old := !r.valid || decide (r.at_ + lim < s.mono)
    if old then (if n ∈ used ∧ lim ≠ 0 then s.raise 0x0E02 n 0 37500 else s) else s.clear 0x0E02 n 37500) s

/-- The analogue results that the engines read of this cut-off; 0.0 where an input has none (R465). A poisoned tile
leaves the value read last (R433) (DEDUCED, log entry 48). -/
def State.cutAi (s : State) : State :=
  { s with sched := { s.sched with
    ai := (List.range 24).foldl (fun (t : Tab Word) (n : Nat) =>
      if 12288 + n ∈ s.ink.cimPoison then t else Tab.put (fun _ => 0) t n (s.aiRes n).eng) s.sched.ai } }

/-- Cells that a commit has taken out of INSERTED with their CI: their wear records are written (R273). -/
def State.cutLeft (s : State) : State :=
  (s.sched.cut.filter fun x => decide (x.2.svc = Svc.inserted.code ∧ x.1 ∉ s.allCells)).foldl
    (fun (s : State) (x : Nat × CellCut) =>
      let s := { s with sched := { s.sched with
        cut := Tab.put (fun _ => CellCut.init) s.sched.cut x.1 { x.2 with svc := (s.svc x.1).code } } }
      s.storeWear x.1) s

/-- `TELEMETRY_CUTOFF` (R131): the cell image, the analogue results and the stack quantities that the engines work
from in this cycle. -/
def execTelemetryCutoff (s : State) : Host.Outcome State Fault Refusal :=
  let s := s.silent
  if !s.sys.powered then .next s else
  let s := s.allCells.foldl (fun (s : State) (ci : Nat) => s.cutCell ci) s
  let s := s.cutLeft.unexpectedGone.cutFound.aiAges.cutAi
  let s := { s with sched := { s.sched with cutAt := s.mono } }
  .next (((List.range 16).filter s.stackEn).foldl (fun (s : State) (k : Nat) => s.cutStack k) s).cutQuants

/-! ## Enumeration -/

/-- An enumeration finds no nib at a position (R39, R40, R136): no identity and no type, RETIRED ended; an enabled cell is
MISSING. A loss stands until an enumeration finds the nib (R138) (DEDUCED, log entry 32). -/
def State.enumMissing (s : State) (ci : Nat) : State :=
  let s := s.setCell ci { s.cell ci with adm := .none, retired := false, seen := 0, typ := 0 }
  if s.enabled ci then s.raise 0x0101 ci 0 0 else s

/-- `ENUM_REPLY_TIMEOUT` (R136): a position gives no valid reply. -/
def execEnumReplyTimeout (ci : Fin 3072) (s : State) : Host.Outcome State Fault Refusal :=
  let s := s.silent
  let b := s.cellPort ci
  let x := s.str b
  if x.enumOp = 0 ∨ (ci : Nat) - 48 * b ∉ x.enumLeft then .next s else
  let s := s.setMg ci { s.mg ci with await := 0, req := [] }
  .next ((s.enumMissing ci).enumDone b ci)

/-- The sides of a cell that this module reaches have a measured ARR (R136 step 5, R137 step 2). -/
def State.measured (s : State) (b ci : Nat) : Bool :=
  [0, 1].all fun side => !s.reaches b (ci - 48 * b) side || (s.echoOf (ci * 2 + side)).arr.isSome

/-- `ENUMERATION_COMPLETE` (R136): every position has answered or is MISSING and is measured; FOUND is judged against
CELLS. The operation is done with its last string. -/
def execEnumerationComplete (p : Fin 64) (s : State) : Host.Outcome State Fault Refusal :=
  let s := s.silent
  let x := s.str p
  let open_ := (s.stringCells p).any fun ci =>
    decide ((s.cell ci).adm = .found) && !s.measured p ci
  if x.enumOp = 0 ∨ x.enumLeft ≠ [] ∨ open_ then .next s else
  let s := s.setStr p { x with enumOp := 0 }
  let s := if x.found = W.PORT_CFG_CELLS (s.portCfg p) then s.clear 0x0308 p 0
    else s.raise 0x0308 p (BitVec.ofNat 32 x.found) 0
  .next (if s.strings.any fun b => decide ((s.str b).enumOp = x.enumOp) then s else s.opEnd x.enumOp 1 0)

/-! ## Admission -/

/-- The last reply of a cell answers a request with result 0 (R135). -/
def Mgmt.done (m : Mgmt) (code : Nat) : Bool :=
  decide (m.await = 0) && decide (beAt m.seenReply 0 1 = code) && decide (m.seenReply ≠ [])
    && decide (beAt m.seenReply 2 1 = 0)

/-- The epoch that ADMIT offers: E + 1, skipping 0 (R137). -/
def nextEpoch (e : Nat) : Nat := if e = 255 then 1 else e + 1

/-- An admission enters a step (R137) (DEDUCED, log entry 19). -/
def State.toStep (s : State) (ci n : Nat) : State :=
  let m := s.mg ci
  (s.setMg ci { m with step := n }).opUpd m.op fun o => { o with done := n - 1 }

/-- Admission starts with IDENTIFY (R137 step 1) (DEDUCED, log entry 32). -/
def State.startAdmit (s : State) (ci op : Nat) : State :=
  let s := s.setMg ci { s.mg ci with step := 1, op := op, since := s.mono, seenReply := [] }
  s.request ci 1 []

/-- The reply to step 1 matches the stack's type and, unless 0, CELL_IDENT (DEDUCED, log entry 32). -/
def State.admitMatches (s : State) (ci : Nat) (ident : Word) : Bool :=
  let want := s.word (K.CELL ci 1)
  decide ((beAt ((s.cell ci).slot) 1 1) / 64 = s.stackType (s.stackOf ci)) && (decide (want = 0) || decide (want = ident))

/-- Step 2 begins: both sides are measured afresh. -/
def State.admitMeasure (s : State) (ci : Nat) : State :=
  let s := s.setEcho (ci * 2) { s.echoOf (ci * 2) with arr := none, sum := 0, count := 0 }
  s.setEcho (ci * 2 + 1) { s.echoOf (ci * 2 + 1) with arr := none, sum := 0, count := 0 }

/-- Step 3 is done: the epoch is the cell's, its schedules, counters, codes and thermal states start afresh (R137, R179,
R221, R263, R272). -/
def State.admitGranted (s : State) (ci epoch : Nat) : State :=
  let s := s.setCell ci { s.cell ci with epoch := epoch, adm := .charging, preRun := 0, heldOut := false }
  let s := s.setSch ci { s.sch ci with since := s.mono }
  let s := s.setDcell ci { (s.dcell ci).off with tag := 0, hist := [] }
  (s.supAdmit ci).resetTherm ci

/-- `ADMISSION_STEP_PROCEED` (R137): the present step of a cell's admission meets its condition. The end of step 5 is
judged at the posting (R224). -/
def execAdmissionStepProceed (ci : Fin 3072) (s : State) : Host.Outcome State Fault Refusal :=
  let s := s.silent
  let b := s.cellPort ci
  let m := s.mg ci
  let ident : Word := BitVec.ofNat 32 (beAt m.seenReply 4 4)
  let e := nextEpoch (s.cell ci).epoch
  match m.step with
  | 1 =>
    if m.done 1 && s.admitMatches ci ident then
      .next (((s.toStep ci 2).admitMeasure ci).endEpoch ci)
    else .next s
  | 2 =>
    if m.done 2 && s.measured b ci then
      .next ((s.toStep ci 3).request ci 3 (BitVec.ofNat 8 e :: wordBytes ident))
    else .next s
  | 3 =>
    if m.done 3 && decide (beAt m.seenReply 8 1 = e) then .next ((s.toStep ci 4).admitGranted ci e) else .next s
  | 4 =>
    if decide (slotState (s.cell ci).slot = 2) && decide ((s.cell ci).noSlot = 0) then .next (s.toStep ci 5) else .next s
  | _ => .next s

/-- The cell belongs to a stack-wide pre-charge, which has no ADMIT_TMO (R398). -/
def State.inPrecharge (s : State) (ci : Nat) : Bool :=
  decide (s.sys.mode = .charging) && (match s.preOp with | some o => o.arg.testBit (s.stackOf ci) | none => false)

/-- `ADMISSION_TIMER_EXPIRY` (R137, R303): RETIRE is sent and the cell returns to FOUND. -/
def execAdmissionTimerExpiry (ci : Fin 3072) (s : State) : Host.Outcome State Fault Refusal :=
  let s := s.silent
  let m := s.mg ci
  if m.step = 0 ∨ s.inPrecharge ci ∨ s.mono < m.since + 1000 * W.LINK_LOSS_ADMIT_TMO (s.word K.LINK_LOSS) then .next s else
  .next (((s.opEnd m.op 2 0x0401).raise 0x0306 ci (BitVec.ofNat 32 m.step) 0).backToFound ci)

/-! ## Stack-wide pre-charge -/

/-- A stack's last phase is over (R398): its cells are INSERTED. -/
def State.phaseEnd (s : State) (k : Nat) : State :=
  let s := (s.chargingCells k).foldl (fun (s : State) (ci : Nat) => s.insertCell ci) s
  s.setSchStack k { s.schStack k with phase := 0, phaseRun := 0 }

/-- Thousandths of the cells that have been inserted (R392). -/
def State.preDone (s : State) (o : OpRec) : Nat :=
  let cells := o.stacks.flatMap fun k => s.insertedCells k ++ s.chargingCells k
  1000 * (cells.filter fun ci => decide (s.svc ci = .inserted)).length / max 1 cells.length

/-- `PRECHARGE_PHASE_COMPLETE` (R398): the phase's criterion has held for 100 cut-offs. The module enters READY when
every stack has completed. -/
def execPrechargePhaseComplete (k : Fin 16) (s : State) : Host.Outcome State Fault Refusal :=
  let s := s.silent
  let d := s.schStack k
  match s.preOp with
  | none => .next s
  | some o =>
    if s.sys.mode ≠ .charging ∨ !o.arg.testBit k ∨ d.phase = 0 ∨ d.phaseRun < 100 then .next s
    else if d.phase = 1 ∧ s.stackType k = 3 then .next (s.setSchStack k { d with phase := 2, phaseRun := 0 })
    else
      let s := s.phaseEnd k
      let s := s.opUpd o.id fun x => { x with done := s.preDone o }
      if o.stacks.any fun j => decide ((s.schStack j).phase ≠ 0) then .next s
      else .next (((s.opUpd o.id fun x => { x with done := 1000 }).opEnd o.id 1 0).setMode .ready 4)

/-- A pre-charge ends before its time (R398, R394): the cells that meet the criterion are INSERTED, the others return to
FOUND, and the module to STANDBY. -/
def State.endPrecharge (s : State) (o : OpRec) (fail : Bool) : State :=
  let first := (o.stacks.find? fun j => decide ((s.schStack j).phase ≠ 0)).getD 0
  let cells := o.stacks.flatMap s.stackCells
  let s := cells.foldl (fun (s : State) (ci : Nat) =>
    if s.svc ci = .charging then
      if 100 ≤ (s.cell ci).preRun then s.insertCell ci else s.backToFound ci
    else if (s.mg ci).step ≠ 0 ∧ (s.cell ci).adm = .found then s.setMg ci { s.mg ci with step := 0, op := 0 }
    else s) s
  let s := if fail then s.opEnd o.id 2 0x0401 else s.opEnd o.id 3 0
  let s := if fail then s.raise 0x0004 first (BitVec.ofNat 32 first) 0 else s
  s.setMode .standby 5

/-- `PRECHARGE_TIMEOUT` (R398): SYS_PRE.TMO has passed. -/
def execPrechargeTimeout (s : State) : Host.Outcome State Fault Refusal :=
  let s := s.silent
  match s.preOp with
  | none => .next s
  | some o =>
    let due := o.last + 100000 * W.SYS_PRE_TMO (s.word K.SYS_PRE)
    .next (if s.sys.mode = .charging ∧ due ≤ s.mono then s.endPrecharge o true else s)

end Sys2Proof.Machine
end

