-- ==== Sys2Proof/Machine/Adc.lean ====
section
/-! DEFINITION. The analogue inputs (R454–R469): the converters' tables and urgent conversions on the slot grid,
results, and the protection thresholds (R313, R464). -/

namespace Sys2Proof.Machine

/-- States of ADC_STAT.STATE (R467). -/
def adcOff : Nat := 0
def adcConvert : Nat := 1
def adcWait : Nat := 2
def adcDown : Nat := 3
def adcStartUp : Nat := 4
def adcUrgent : Nat := 5

def State.conv (s : State) (k : Nat) : Conv := Tab.get (fun _ => Conv.init) s.ai.conv k
def State.setConv (s : State) (k : Nat) (c : Conv) : State :=
  { s with ai := { s.ai with conv := Tab.put (fun _ => Conv.init) s.ai.conv k c } }

/-- The whole of a cell image tile is written: its poison clears (R431, R433). -/
def State.cimWrite (s : State) (tile : Nat) : State :=
  if tile ∈ s.ink.cimPoison then
    { s with ink := { s.ink with
      cimPoison := s.ink.cimPoison.filter (· ≠ tile),
      cimClear := Tab.put (fun _ => 0) s.ink.cimClear tile (s.mono + 1) } }
  else s

/-- The settings of one converter in a slot: ADC_CTL, PD_TH, its table, and the grid position (R459–R461). -/
structure AdcSet where
  ctl : Word
  pd : Nat
  tab : List Word
  cycle : Nat
  slot : Nat
deriving DecidableEq, Repr

def State.adcSet (s : State) (k sl : Nat) : AdcSet :=
  { ctl := s.word (K.ADC_CTL k), pd := W.AI_CTL_PD_TH (s.word K.AI_CTL),
    tab := (List.range 32).map fun e => s.word (K.ADC_TAB k e), cycle := s.cycle.toNat, slot := sl }

def AdcSet.ent (x : AdcSet) (e : Nat) : Word := (x.tab[e]?).getD 0
def AdcSet.rep (x : AdcSet) (e : Nat) : Nat := W.ADC_TAB_REPM1 (x.ent e) + 1

/-- A cycle-locked conversion falls in the slot `d` slots from now (R461) (DEDUCED, log entry 48). -/
def AdcSet.lockedIn (x : AdcSet) (d : Nat) : Bool :=
  let g := x.slot + d
  W.ADC_CTL_URG_EN x.ctl && decide (g % 20 = W.ADC_CTL_URG_SLOT x.ctl)
    && decide ((x.cycle + g / 20) % 2 ^ W.ADC_CTL_URG_DIV x.ctl = 0)

/-- A cycle-locked conversion lies within the next three slots (R460). -/
def AdcSet.lockedSoon (x : AdcSet) : Bool := x.lockedIn 1 || x.lockedIn 2 || x.lockedIn 3

/-- A powered converter's table in this slot (R459, R460): a slot of the wait, or a conversion. -/
def Conv.tableSlot (c : Conv) (x : AdcSet) : Conv :=
  if !W.ADC_CTL_EN x.ctl then { c with st := adcWait }
  else if c.wleft ≠ 0 then
    if x.pd < c.wleft ∧ !x.lockedSoon then { c with st := adcDown, powered := false, wleft := c.wleft - 1 }
    else { c with st := adcWait, wleft := c.wleft - 1 }
  else
    let e := if c.rem = 0 then (c.entry + 1) % max 1 (W.ADC_CTL_LEN x.ctl) else c.entry
    let rem := if c.rem = 0 then x.rep e else c.rem
    let w := x.ent e
    { c with st := adcConvert, entry := e, rem := rem - 1, wleft := W.ADC_TAB_DELAY w, run := some (W.ADC_TAB_CH w) }

/-- A powered converter in this slot: cycle-locked, then host, then the table (R461, R462) (DEDUCED, log entry 48). -/
def Conv.poweredSlot (c : Conv) (x : AdcSet) : Conv :=
  if c.due then { c with st := adcUrgent, due := false, run := some (W.ADC_CTL_URG_CH x.ctl) }
  else match c.host with
    | some n => { c with st := adcUrgent, taken := true, run := some n }
    | none => c.tableSlot x

/-- A converter that is down, or starting up, in this slot (R460, R462): the table's wait does not count while it
starts up (DEDUCED, log entry 48). -/
def Conv.downSlot (c : Conv) (x : AdcSet) : Conv :=
  if c.su = 1 then ({ c with su := 0, powered := true }).poweredSlot x
  else if c.su ≠ 0 then { c with su := c.su - 1 }
  else if x.lockedSoon ∨ c.due ∨ c.host.isSome ∨ c.wleft = 0 then { c with st := adcStartUp, su := 3 }
  else { c with wleft := c.wleft - 1 }

/-- One converter at the start of a slot (R459–R462) (DEDUCED, log entry 48). -/
def Conv.slot (c : Conv) (x : AdcSet) : Conv :=
  let c := { c with run := none, taken := false, due := c.due || x.lockedIn 0 }
  if !W.ADC_CTL_EN x.ctl && !W.ADC_CTL_URG_EN x.ctl then { c with st := adcOff, powered := false, su := 0, due := false }
  else if c.powered then c.poweredSlot x
  else if c.st = adcOff then ({ c with powered := true }).poweredSlot x
  else c.downSlot x

/-- A commit of ADC_CTLk or of an entry restarts the table at entry 0 (R459) (DEDUCED, log entry 48). -/
def State.adcRestart (s : State) (k : Nat) : State :=
  let c := s.conv k
  s.setConv k { c with
    st := adcWait, entry := 0, rem := W.ADC_TAB_REPM1 (s.word (K.ADC_TAB k 0)) + 1, wleft := 0, powered := true,
    su := 0 }

/-- `ADC_CONVERSION_SLOT` (R454): slot `sl` starts. A conversion of the slot before that gave no result stalls its
converter (R469) (DEDUCED, log entry 48). -/
def execAdcConversionSlot (sl : Fin 20) (s : State) : Host.Outcome State Fault Refusal :=
  let s := s.silent
  if !s.sys.powered then .next s else
  let s := { s with ai := { s.ai with slot := sl } }
  .next ((List.range 4).foldl (fun (s : State) (k : Nat) =>
    let c := s.conv k
    let s := s.setConv k (c.slot (s.adcSet k sl))
    if c.run.isSome then s.raise 0x0E03 k 0 (3125 * (sl : Nat)) else s) s)

/-- E of R458, in binary32. -/
def engineering (scale offs : Word) (code : BitVec 18) : Word :=
  fAdd (fMul scale (fDiv (fMul (fOfInt code.toInt) (fOfInt 10)) (fOfInt 131072))) offs

/-- One threshold at a result of its input (R313, R464). -/
def State.threshold (s : State) (code : BitVec 18) (ovr : Bool) (t j : Nat) : State :=
  let w := s.word (K.PROT_CFG j)
  let l := s.word (K.PROT_LIM j)
  let v := code.toInt / 4
  let trip := decide (signed 16 (W.PROT_LIM_HI l) < v) || decide (v < signed 16 (W.PROT_LIM_LO l))
    || (W.PROT_CFG_OVR w && ovr)
  let ev := if W.PROT_CFG_MODULE w then 0x0903 else 0x0902
  let run := if trip then min 15 (Tab.get (fun _ => 0) s.ai.prot j + 1) else 0
  let s := { s with ai := { s.ai with prot := Tab.put (fun _ => 0) s.ai.prot j run } }
  if !trip then s.condGone ev j
  else if W.PROT_CFG_PERSIST w ≤ run ∨ s.isActive ev j then s.raise ev j (code.signExtend 32) t
  else s

/-- AI_OVERRANGE and AI_OVRCNT at a result (R469, R310) (DEDUCED, log entry 48). -/
def State.overRange (s : State) (n clean : Nat) (ovr : Bool) (t : Nat) : State :=
  if ovr then
    let c := satInc s.ai.ovrCnt s.ai.ovrSat
    (({ s with ai := { s.ai with ovrCnt := c.1, ovrSat := c.2.1 } }).raise 0x0E01 n 0 t).satEvent c.2.2 K.AI_OVRCNT t
  else if 1000 ≤ clean then s.clear 0x0E01 n t else s

/-- The code of a differential voltage of `uv` microvolts: V × 131,072 / 10 V, to the nearest code, held to the range
(R456) (DEDUCED, log entry 48). -/
def adcCode (uv : Int) : BitVec 18 := BitVec.ofInt 18 (max (-131072) (min 131071 ((2048 * uv + 78125) / 156250)))

/-- The over-range flag of an input whose pins lie at `pos` and `neg` microvolts against the housing (R457): the
common-mode range of ±12 V per pin (R70), and the differential window of ±10.10 V, inside whose tolerance of ±20 mV the
comparator answers `edge` (DEDUCED, log entry 48). -/
def adcOver (pos neg : Int) (edge : Bool) : Bool :=
  let d := (pos - neg).natAbs
  decide (12000000 < pos.natAbs) || decide (12000000 < neg.natAbs) || decide (10120000 < d) || (decide (10080000 < d) && edge)

/-- A result becomes its input's newest; one that a higher-numbered converter completed in the same slot stays (R463). -/
def State.adcResult (s : State) (n : Nat) (r : AiRes) : State :=
  let o := s.aiRes n
  if o.valid ∧ o.cycle = r.cycle ∧ o.slot = r.slot ∧ r.adc < o.adc then s else
  { s with ai := { s.ai with res := Tab.put (fun _ => AiRes.init) s.ai.res n r } }

/-- `ADC_CONVERSION_COMPLETE` (R463): converter `k` completes the conversion of this slot, with the voltages of the input's
two pins against the housing, in microvolts. -/
def execAdcConversionComplete (k : Fin 4) (pins : PinPair) (edge : Bool) (s : State) :
    Host.Outcome State Fault Refusal :=
  let s := s.silent
  let code := adcCode (pins.pos - pins.neg)
  let ovr := adcOver pins.pos pins.neg edge
  let c := s.conv k
  match c.run with
  | none => .next s
  | some n =>
    let t := 3125 * s.ai.slot + 3000
    let s := s.setConv k { c with run := none, host := if c.taken then none else c.host, taken := false }
    let clean := if ovr then 0 else (s.aiRes n).clean + 1
    let r : AiRes :=
      { valid := true, ovr := ovr, adc := k, code := code, cycle := s.cycle.setWidth 48, slot := s.ai.slot,
        eng := engineering (s.word (K.AI_SCALE n)) (s.word (K.AI_OFFS n)) code, clean := clean, at_ := s.mono }
    let s := s.adcResult n r
    let s := (s.cimWrite (12288 + n)).overRange n clean ovr t
    let hit := (List.range 16).filter fun j =>
      let w := s.word (K.PROT_CFG j)
      W.PROT_CFG_EN w && decide (W.PROT_CFG_AI w = n)
    .next (hit.foldl (fun (s : State) (j : Nat) => s.threshold code ovr t j) s)

end Sys2Proof.Machine
end

