-- ==== Sys2Proof/Machine/Boot.lean ====
section
/-! DEFINITION. Start-up (R470–R478, R482, R485, R488–R491): the settings store and its generations, the choice
and verification of a firmware slot, the start of the module and its entry into CONFIG. -/

namespace Sys2Proof.Machine

/-! ## Settings generations -/

def State.gen (s : State) (g : Nat) : Gen := Tab.get (fun _ => Gen.blank) s.boot.gens g
def State.setGen (s : State) (g : Nat) (x : Gen) : State :=
  { s with boot := { s.boot with gens := Tab.put (fun _ => Gen.blank) s.boot.gens g x } }

/-- Bytes 0–4,095 of a generation (R482). -/
def Gen.bytes (x : Gen) : List Byte :=
  padTo 4084 x.content ++ wordBytes x.check ++ [0, 0, 0, 0] ++ wordBytes x.sealWord

/-- The seal word of generation `g` (R482). -/
def sealOf (g : Nat) : Word := BitVec.ofNat 32 (0x5EA10000 + g * 0x100 + (0xFF - g))

/-- R482: HDR, CHECK and SEAL hold. -/
def Gen.valid (x : Gen) (g : Nat) : Bool :=
  decide (beAt x.content 0 1 = g) && decide (beAt x.content 1 1 = 1) && decide (x.sealWord = sealOf g)
    && decide (x.check = crc32c (padTo 4084 x.content))

def Gen.isBlank (x : Gen) : Bool := x.content.all (· = 0) && decide (x.check = 0) && decide (x.sealWord = 0)

/-- The highest valid generation (R482). -/
def State.bestGen (s : State) : Option Nat := [5, 4, 3, 2, 1, 0].find? fun g => (s.gen g).valid g

/-- Content of the active generation. -/
def State.genContent (s : State) : List Byte := match s.boot.active with | some g => (s.gen g).content | none => []

/-- A word of the active generation's content, by its byte offset. -/
def State.otpWord (s : State) (off : Nat) : Word := BitVec.ofNat 32 (beAt s.genContent off 4)

/-! ## Firmware slots -/

def State.fwSlot (s : State) (k : Nat) : FwSlot := if k = 0 then s.boot.slot0 else s.boot.slot1
def State.setFwSlot (s : State) (k : Nat) (x : FwSlot) : State :=
  { s with boot := if k = 0 then { s.boot with slot0 := x } else { s.boot with slot1 := x } }

/-- Header fields of R474. -/
def imgType (b : List Byte) : Nat := beAt b 4 1
def imgSvn (b : List Byte) : Nat := beAt b 5 1
def imgVersion (b : List Byte) : Word := BitVec.ofNat 32 (beAt b 8 4)
def imgBodyLen (b : List Byte) : Nat := beAt b 16 4

/-- Reserved bytes 6–7, 14–15, 84–127 and the fill 3,501–4,095 are 0 (R474). -/
def imgReserved (b : List Byte) : Bool :=
  ((b.drop 6).take 2 ++ (b.drop 14).take 2 ++ (b.drop 84).take 44 ++ (b.drop 3501).take 595).all (· = 0)

/-- Checks 1–3 of R475. -/
def State.imgChecks (s : State) (b : List Byte) : Bool :=
  decide (beAt b 0 4 = 0x44584657) && decide (imgType b = 1) && imgReserved b && decide (imgBodyLen b ≤ 16773120)
    && decide (beAt b 12 1 ≤ beAt s.genContent 8 1) && decide (beAt s.genContent 8 1 ≤ beAt b 13 1)
    && decide (s.boot.counter ≤ imgSvn b)

/-- A slot shows VALID (R477, R493). -/
def State.slotValidFw (s : State) (k : Nat) : Bool :=
  (s.fwSlot k).valid && decide (s.boot.counter ≤ imgSvn (s.fwSlot k).image)

/-! ## The journal at a stop and a start -/

/-- Everything pending is written to the journal (R53, R479, R488). -/
def State.flushJournal (s : State) : State :=
  let s := s.wearCells.foldl (fun (s : State) (ci : Nat) => s.storeWear ci) s.copyEvents
  { s with jrnl := { s.jrnl with life := { s.jrnl.life with lastCycle := s.lastCycle } } }

/-- SYS_FW of the running image. -/
def State.runVersion (s : State) : Word := imgVersion (s.fwSlot s.boot.run).image

/-- A boot record (R491); the ring keeps 64. The cause is that of the previous stop
(DEDUCED, log entry 34; DEDUCED, log entry 49). -/
def State.bootRecord (s : State) (result ms : Nat) : State :=
  let r : BootRec :=
    { boots := s.jrnl.life.boots, slot := s.boot.run, svn := imgSvn (s.fwSlot s.boot.run).image,
      gen := s.boot.active.getD 0, result := result, cause := s.boot.cause, ms := ms, fw := s.runVersion }
  let all := s.jrnl.boots ++ [r]
  { s with jrnl := { s.jrnl with boots := keepLast 64 all }, boot := { s.boot with cause := 0 } }

/-- What a stop or restart leaves (R378, R470, R471): the stores and the journal, each session slot's generation,
and the nibs, which are no part of the module. Elapsed cycles go on: they number steps, not station time. The
event sequence goes on from the journal's (DEDUCED, log entries 13 and 34). SUPPLY_LOST and RAIL_FAULT end with the start
(R73) and no KIND 2 entry is queued for them, of which the spec says nothing (DESIGN CHOICE, log entry 58). -/
def State.fromBoot (s : State) : State :=
  { State.reset with
    pending := s.pending
    out := s.out
    mono := s.mono
    evt := { Evt.reset with
      recs := s.evt.recs
      seq := match s.jrnl.events.getLast? with | some e => e.seq | none => 0 }
    cmd := { Cmd.reset with
      sess := (s.cmd.sess.filter fun x => decide (x.2.gen ≠ 0)).map fun x => (x.1, { Sess.init with gen := x.2.gen }) }
    boot := { s.boot with
      active := none, fallback := false, result := 0, loading := false, held := [], entered := false, burn := none,
      meas := [] }
    jrnl := s.jrnl
    nibs := s.nibs
    nibx := s.nibx
    free := s.free }

/-! ## Power-up -/

/-- A stored copy of the safety parameter set is valid by its CRC-32C (R491). -/
def SafCopy.valid (c : SafCopy) : Bool :=
  decide (c.crc = crc32c (wordBytes c.seq ++ wordBytes c.pcrc ++ c.words.flatMap wordBytes))
    && decide (c.words.length = 33)

/-- The CRC of R342 as a channel computes it over a stored set. -/
def SafCopy.check (c : SafCopy) : Word := crcSafe (c.words.flatMap wordBytes)

/-- The valid copy with the higher SEQ (R491). -/
def State.safCopy (s : State) : Option SafCopy :=
  (s.jrnl.safety.filter SafCopy.valid).foldl (fun (b : Option SafCopy) (c : SafCopy) => match b with
    | none => some c
    | some d => if d.seq.toNat < c.seq.toNat then some c else some d) none

/-- The words that R342 covers: 0x01 and 0x10–0x2F of page 0x0A. -/
def safKeys : List Nat := 0xA01 :: (List.range 32).map (· + 0xA10)

/-- Every page word at its Reset value, but the OTP words of the active generation and the stored safety set
(R471). -/
def State.resetPages (s : State) : State :=
  let s := { s with regs := [], nextW := [] }
  let id := s.word K.SYS_ID
  let s := (s.setWord K.SYS_SERIAL (s.otpWord 4)).setWord K.SYS_ID (id ||| at_ (beAt s.genContent 8 1) 0)
  let s := s.setWord K.PAIR_ID (at_ (beAt s.genContent 9 1 % 2) 0)
  let s := [0, 1, 2].foldl (fun (s : State) (i : Nat) =>
    ((s.setWord (K.PORT_IP i) (s.otpWord (12 + 4 * i))).setWord (K.PORT_GW i) (s.otpWord (24 + 4 * i))).setWord
      (K.NPORT_CFG i) (s.otpWord (36 + 4 * i))) s
  match s.safCopy with
  | some c =>
    ((safKeys.zip c.words).foldl (fun (s : State) p => s.setWord p.1 p.2) s).setWord K.SAF_PCRC c.pcrc
  | none => s

/-- The module starts from BOOT (R472): converters and rails, settings store, safety channels in START, clock
loops in acquisition. With no valid generation it stays there (R473) (DEDUCED, log entry 13). Each channel verifies the
stored safety set; without a valid copy, or with one that fails, the island goes to FAULT (R342, R491). -/
def State.bootStart (s : State) : State :=
  let s := s.fromBoot
  let s := { s with
    sys := { s.sys with powered := true }
    jrnl := { s.jrnl with life := { s.jrnl.life with boots := s.jrnl.life.boots + 1 } }
    clk := { s.clk with loops := (List.range 17).map fun i => (i, { ClkLoop.init with state := clkAcquire }) } }
  match s.bestGen with
  | none => ({ s with sys := { s.sys with stuck := true } }).bootRecord 4 0
  | some g =>
    let bad := [0, 1, 2, 3, 4, 5].filter fun h => decide (g < h) && !(s.gen h).isBlank
    let s := ({ s with boot := { s.boot with active := some g, held := bad.map fun h => (0x0F01, h) } }).resetPages
    let fail (s : State) : State :=
      { s with saf := { s.saf with island := islFault }, boot := { s.boot with held := s.boot.held ++ [(0x0A0D, 0)] } }
    match s.safCopy with
    | some c =>
      let s := { s with saf := { s.saf with
        chA := { s.saf.chA with crc := c.check }, chB := { s.saf.chB with crc := c.check } } }
      if c.check = c.pcrc then s else fail s
    | none => if s.jrnl.safety = [] then s else fail s

/-- R472: a feed rises above the start threshold. In a power-down it changes nothing (R53) (DEDUCED, log entry 49). -/
def execPowerUp (_f : Feed) (s : State) : Host.Outcome State Fault Refusal :=
  let s := s.silent
  .next (if s.sys.powered then s else s.bootStart)

/-- R476: which slot runs, with the flags and the events it leaves; `none`: neither verifies. -/
def Boot.choose (b : Boot) (ok : Nat → Bool) : Boot × Option Nat × List (Nat × Nat) :=
  let failed := b.trial && b.trialUsed
  let b := if failed then { b with pref := 1 - b.pref, trial := false } else b
  let ev : List (Nat × Nat) := if failed then [(0x0F05, 0)] else []
  let b := if b.trial then { b with trialUsed := true } else b
  if ok b.pref then ({ b with run := b.pref, result := if failed then 2 else 0 }, some b.pref, ev)
  else
    let o := 1 - b.pref
    if ok o then
      ({ b with pref := o, run := o, trial := false, fallback := true, result := 1 }, some o, ev ++ [(0x0F04, 0)])
    else (b, none, ev)

/-- R473, R475, R476: the boot ROM has verified the slots; `ok0` and `ok1` are the outcomes of checks 4 and 5. The
firmware starts and raises what was held for it (R472) (DEDUCED, log entry 49). -/
def execImageVerifyComplete (ok0 ok1 : Bool) (s : State) : Host.Outcome State Fault Refusal :=
  let s := s.silent
  if !s.sys.powered ∨ s.sys.stopping ∨ s.sys.stuck ∨ s.sys.fwRuns ∨ s.sys.mode ≠ .boot then .next s else
  let ok (k : Nat) : Bool := (if k = 0 then ok0 else ok1) && s.slotValidFw k && s.imgChecks (s.fwSlot k).image
  let (b, run, ev) := s.boot.choose ok
  let s := { s with boot := b }
  match run with
  | none => .next (({ s with sys := { s.sys with stuck := true } }).bootRecord 3 0)
  | some k =>
    let s := { s with
      sys := { s.sys with fwRuns := true }
      boot := { s.boot with meas := Config.sha512 (padTo 128 (s.fwSlot k).image), held := [] } }
    let put (s : State) (e : Nat × Nat) : State :=
      if classOf e.1 = .safety then s.safRaise 2 e.1 e.2 0 else s.raise e.1 e.2 0 0
    .next ((b.held ++ ev).foldl put s)

/-- Bytes of a record of a journal region that holds records of one size (R487). -/
def recordSize (region : Nat) : Nat :=
  match region with
  | 0 => 32 | 1 => 32 | 2 => 32 | 3 => 16 | 6 => 8 | _ => 1

/-- A journal record that fails its CRC at the start, treated by its region (R488): an event record of the ring
place `n` is skipped, a wear record restarts fresh, a recovery source restarts locked out, a reversion stamp
counts from now, once the first boundary has moved it by R489 (DESIGN CHOICE, log entry 16; DEDUCED, log entry 10). -/
def State.recordBad (s : State) (region n : Nat) : State :=
  let j := s.jrnl
  let s :=
    if region = 0 then
      { s with jrnl := { j with events := j.events.filter fun e => decide (e.seq.toNat % 65536 ≠ n) } }
    else if region = 1 then { s with jrnl := { j with wear := Tab.put (fun _ => Wear.init) j.wear n Wear.init } }
    else if region = 3 then s.setRec n { s.recOf n with count := 0, locked := true }
    else if region = 6 then { s with jrnl := { j with stamps := j.stamps.set n s.jrnl.life.lastCycle } }
    else s
  s.raise 0x0F0A 0 (at_ region 24 ||| at_ (n * recordSize region) 0) 0

/-- SHA-512 over an owner slot's keys is the active OWNER_DIG (R485). -/
def State.ownerOk (s : State) : Bool :=
  match s.boot.active with
  | some g => decide (Config.sha512 (Tab.get (fun _ => []) s.jrnl.owners g) = (s.genContent.drop 48).take 64)
  | none => false

/-- R472: with the image running and loops 0–16 locked the module enters CONFIG; `ms` is the time since the start
threshold and `bad` names the journal records that failed their check
(DESIGN CHOICE, log entry 16; DEDUCED, log entry 44). -/
def execStartComplete (ms : BitVec 16) (bad : List (Fin 9 × Nat)) (s : State) : Host.Outcome State Fault Refusal :=
  let s := s.silent
  if !s.sys.fwRuns ∨ s.sys.stopping ∨ s.sys.stuck ∨ s.sys.mode ≠ .boot ∨ !s.allLocked then .next s else
  let s := bad.foldl (fun (s : State) (e : Fin 9 × Nat) => s.recordBad e.1 e.2) s
  let s := s.resetPages.setWord K.SYS_FW s.runVersion
  let s := s.jrnl.wear.foldl (fun (s : State) (w : Nat × Wear) => s.setSupSw w.1 { SupSw.init with wear := w.2 }) s
  let s := if s.ownerOk then s else s.raise 0x0F09 0 0 0
  let svn := imgSvn (s.fwSlot s.boot.run).image
  let up := decide (s.boot.counter < svn)
  let s := { s with
    boot := { s.boot with trial := false, entered := true, counter := if up then svn else s.boot.counter }
    sys := { s.sys with live := true, uptime := 0, subSec := 0 }
    jrnl := { s.jrnl with fresh := true, err := 0, errSat := false } }
  let s := if up then s.raise 0x0F07 0 (BitVec.ofNat 32 svn) 0 else s
  .next ((s.setMode .config 0).bootRecord s.boot.result ms.toNat)

/-- R473: loops 0–16 are not all locked 10 s after power-up (DEDUCED, log entry 49). -/
def execBootLockTimeout (s : State) : Host.Outcome State Fault Refusal :=
  let s := s.silent
  if !s.sys.powered ∨ s.sys.stuck ∨ s.sys.mode ≠ .boot ∨ s.allLocked then .next s else
  .next (({ s with sys := { s.sys with stuck := true } }).bootRecord 5 0)

/-- R476: an image has not entered CONFIG 10 s after its verification: the watchdog restarts the module
(DEDUCED, log entry 49). -/
def execWatchdogRestart (s : State) : Host.Outcome State Fault Refusal :=
  let s := s.silent
  if !s.sys.fwRuns ∨ s.boot.entered ∨ s.sys.stopping ∨ s.sys.stuck then .next s else
  .next ({ s with boot := { s.boot with cause := 3 } }).bootStart

end Sys2Proof.Machine
end

