-- ==== Sys2Proof/Machine/Inkwell.lean ====
section
/-! DEFINITION. The Inkwell: its bytes and tiles (R428–R433), the lottery arbiter (R434–R437), the DMA engine
(R438–R445) and the Blotter's rows (R446–R448). -/

namespace Sys2Proof.Machine

/-! ## Bytes and tiles -/

/-- The 32 bytes of a wear record (R270). -/
def wearBytes (w : Wear) : List Byte :=
  wordBytes w.ident ++ wordBytes w.edges ++ wordBytes w.scCnt
    ++ [BitVec.ofNat 8 (w.baseOn * 16 + w.baseOff), BitVec.ofNat 8 (b2n w.bonV * 128 + b2n w.boffV * 64),
        BitVec.ofNat 8 (w.curOn * 16 + w.curOff), 0, BitVec.ofNat 8 w.ton, BitVec.ofNat 8 w.toff]
    ++ be 2 w.edgeRes ++ be 6 w.start.toNat ++ be 6 w.update.toNat

/-- Regions of R428: 0 Blotter, 1 wear records, 2 firmware area, 3 general area. -/
def inkRegion (a : Nat) : Nat :=
  if a < 0x1000000 then 0 else if a < 0x10C0000 then 1 else if a < 0x1800000 then 2 else 3

/-- A byte of the Inkwell. The wear region shows the live records. Bytes that nothing has written read 0 (DESIGN
CHOICE, log entry 11). -/
def State.inkByte (s : State) (a : Nat) : Byte :=
  if inkRegion a = 1 then
    byteAt (wearBytes (s.supSw ((a - 0x1000000) / 32)).wear) (a % 32)
  else Tab.get (fun _ => 0) s.ink.mem a

def State.inkBytes (s : State) (a n : Nat) : List Byte := (List.range n).map fun i => s.inkByte (a + i)

def State.inkPoisoned (s : State) (tile : Nat) : Bool := decide (tile ∈ s.ink.poison)

/-- The canonical form of the Inkwell's bytes: addresses strictly rising, no entry equal to what an unlisted address reads
as, 0 (log entry 11). -/
def Memory.wf (m : List Host.Cell) : Bool := Tab.wf (fun _ => (0 : Byte)) m

/-- Bytes written one after another. -/
def putBytes (m : Tab Byte) : Nat → List Byte → Tab Byte
  | _, [] => m
  | a, b :: r => putBytes (Tab.put (fun _ => 0) m a b) (a + 1) r

/-- Tiles that a range of bytes touches. -/
def tilesOf (a n : Nat) : List Nat := if n = 0 then [] else (List.range ((a + n - 1) / 128 + 1 - a / 128)).map (· + a / 128)

/-- A write of bytes (R431, R433): a poisoned tile is filled with 0 before and its poison clears
(DESIGN CHOICE, log entry 11). -/
def State.inkWrite (s : State) (a : Nat) (bytes : List Byte) : State :=
  let hit := (tilesOf a bytes.length).filter fun t => decide (t ∈ s.ink.poison)
  let m := hit.foldl (fun (m : Tab Byte) (t : Nat) => putBytes m (t * 128) (List.replicate 128 0)) s.ink.mem
  { s with ink := { s.ink with
    mem := putBytes m a bytes, poison := s.ink.poison.filter fun t => decide (t ∉ hit) } }

/-- Bytes 0–45 and 46 of a cell's tile 0 (R429). -/
def State.cellTile (s : State) (ci : Nat) : List Byte :=
  let c := s.cell ci
  let cyc := (s.cycle.toNat + c.samp - s.mono) % 2 ^ 48
  padTo 128 (padTo 40 c.slot ++ be 6 (if c.slot = [] then 0 else cyc) ++ [BitVec.ofNat 8 (min 255 c.staleRun)])

/-- AI_RESn (R467). -/
def aiResWord (r : AiRes) : Word :=
  at_ (b2n r.ovr) 31 ||| at_ (b2n r.valid) 30 ||| at_ r.adc 28 ||| at_ r.code.toNat 0

/-- A tile of the cell image memory (R429). What the spec does not place is a free value. -/
def State.cimTile (s : State) (tile : Nat) : List Byte :=
  let ci := tile / 4
  if tile < 12288 then
    let c := s.cell ci
    let cut : CellCut := { CellCut.init with 
      slot := c.slot, tail := c.tail, samp := c.samp, lv := (s.dcell ci).ptLv, gates := (s.dcell ci).gates,
      byp := 2 * b2n c.bypCmd + b2n c.bypClosed }
    let v (n : Nat) : List Byte := wordBytes (pointValue cut n)
    match tile % 4 with
    | 0 => s.cellTile ci
    | 1 => padTo 128 ((List.range 24).flatMap fun i => v (16 + i))
    | 2 => padTo 128 ((List.range 16).flatMap v)
    | _ => List.replicate 128 0
  else if tile < 12288 + 24 then
    let r := s.aiRes (tile - 12288)
    padTo 128 (wordBytes r.eng ++ wordBytes (aiResWord r) ++ be 6 r.cycle.toNat ++ [BitVec.ofNat 8 r.slot])
  else if tile < 14336 then padTo 128 (Config.freeBytes (s.free + tile) 128)
  else List.replicate 128 0

def State.cimBytes (s : State) (a n : Nat) : List Byte :=
  ((tilesOf a n).flatMap s.cimTile).drop (a % 128) |>.take n

/-! ## Poison -/

/-- INK_FIRST (R433, R451). -/
def State.firstPoison (s : State) (cim : Bool) (tile : Nat) : State :=
  if W.INK_FIRST_VALID s.ink.first then s else
  { s with ink := { s.ink with first := at_ 1 31 ||| at_ (b2n cim) 30 ||| at_ tile 0 } }

/-- DETAIL of a tile event (R453): region in [31:24], tile in [17:0] (DEDUCED layout, log entry 10). -/
def tileDetail (region tile : Nat) : Word := at_ region 24 ||| at_ tile 0

/-- A wear tile is reloaded from the journal's copy of its four records and rewritten (R433) (DEDUCED, log entry 47). -/
def State.wearReload (s : State) (tile : Nat) : State :=
  let j0 := (tile * 128 - 0x1000000) / 32
  (List.range 4).foldl (fun (s : State) (i : Nat) =>
    s.setSupSw (j0 + i) { s.supSw (j0 + i) with wear := Tab.get (fun _ => Wear.init) s.jrnl.wear (j0 + i) }) s

/-- The first failure of an Inkwell tile (R433). -/
def State.poisonInk (s : State) (tile t : Nat) : State :=
  if tile ∈ s.ink.poison then s else
  let r := inkRegion (tile * 128)
  let c := satInc s.ink.pcnt s.ink.pcntSat
  let s := { s with ink := { s.ink with
    pcnt := c.1, pcntSat := c.2.1, poison := if r = 1 then s.ink.poison else insertNat tile s.ink.poison } }
  let s := (s.firstPoison false tile).satEvent c.2.2 K.INK_PCNT t
  let s := if r = 1 then s.wearReload tile else s
  s.raise (if r = 2 then 0x0D04 else 0x0D01) 0 (tileDetail r tile) t

/-- The first failure of a cell image tile; a second within 100,000 cycles of the write that cleared it is stuck
(R433). -/
def State.poisonCim (s : State) (tile t : Nat) : State :=
  if tile ∈ s.ink.cimPoison then s else
  let c := satInc s.ink.cpcnt s.ink.cpcntSat
  let at0 := Tab.get (fun _ => 0) s.ink.cimClear tile
  let s := { s with ink := { s.ink with cpcnt := c.1, cpcntSat := c.2.1, cimPoison := insertNat tile s.ink.cimPoison } }
  let s := (s.firstPoison true tile).satEvent c.2.2 K.CIM_PCNT t
  let s := s.raise 0x0D02 0 (tileDetail 4 tile) t
  if at0 ≠ 0 ∧ s.mono + 1 ≤ at0 + 100000 then s.raise 0x0D03 0 (tileDetail 4 tile) t else s

/-! ## The arbiter -/

def State.arb (s : State) (i : Nat) : Arb := Tab.get (fun _ => Arb.init) s.ink.arb i
def State.setArb (s : State) (i : Nat) (a : Arb) : State :=
  { s with ink := { s.ink with arb := Tab.put (fun _ => Arb.init) s.ink.arb i a } }

/-- Tickets of a requester (R434): ARB_TKT, or the running channel's. -/
def State.tickets (s : State) (i : Nat) : Nat :=
  if i < 6 then (s.word K.ARB_TKT).toNat / 16 ^ i % 16
  else if i = 6 then (match s.ink.dma.run with | some c => W.DMA_CFG_TKT (s.word (K.DMA_CFG c.ch)) | none => 0)
  else 0

def State.frozen (s : State) : Bool := W.ARB_CTL_FREEZE (s.word K.ARB_CTL)

/-- Tiles that the governor lets the scrubber read in a cycle: of the cell image memory, or of the Inkwell (R228)
(DEDUCED, log entry 47). -/
def State.scrubGrant (s : State) (cim : Bool) : Nat :=
  match s.sched.govLevel with
  | 0 => if cim then 16 else 64
  | 1 => if cim then 8 else 16
  | _ => 4

/-- The governor lets a requester draw (R228, R437). -/
def State.govAllows (s : State) (i : Nat) : Bool :=
  if i = 5 then decide (s.ink.scrubs < s.scrubGrant false) else
  !(decide (i = 2) || decide (i = 6)) || decide (s.sched.govLevel = 0)
    || (decide (s.sched.govLevel = 1) && decide (s.ink.used < 3906))

/-- Eligibility of R435. -/
def State.eligible (s : State) (i : Nat) : Bool :=
  (s.arb i).req && decide (s.tickets i ≠ 0) && !(s.frozen && decide (i ≠ 0)) && s.govAllows i

/-- A requester's transfer can run: it holds the port, or neither a freeze, nor the governor, nor a want of tickets keeps it
from a grant (R434, R437) (DEDUCED, log entry 47). -/
def State.portOpen (s : State) (i : Nat) : Bool :=
  decide (s.ink.hold = some i) || (decide (s.tickets i ≠ 0) && !(s.frozen && decide (i ≠ 0)) && s.govAllows i)

/-- `SCRUB_TILE_READ` (R432): the scrubber reads its next tile of a memory, within the governor's grant (R228) and, in the
Inkwell, while it holds the port or no freeze and no want of tickets keeps it out (R434, R437); `bad` is a checksum that fails
(DEDUCED, log entry 47). -/
def execScrubTileRead (cim bad : Bool) (t : Tick) (s : State) : Host.Outcome State Fault Refusal :=
  let s := s.silent
  if cim then
    if s.scrubGrant true ≤ s.ink.cimScrubs then .next s else
    let tile := s.ink.scrubCim
    let s := { s with ink := { s.ink with scrubCim := (tile + 1) % 16384, cimScrubs := s.ink.cimScrubs + 1 } }
    .next (if bad then s.poisonCim tile t else s)
  else
    if s.scrubGrant false ≤ s.ink.scrubs ∨ s.portOpen 5 = false then .next s else
    let tile := s.ink.scrubInk
    let s := { s with ink := { s.ink with scrubInk := (tile + 1) % 262144, scrubs := s.ink.scrubs + 1 } }
    .next (if bad then s.poisonInk tile t else s)

/-- One step of the LFSR (R435). -/
def lfsrStep (x : BitVec 16) : BitVec 16 :=
  let b := x.getLsbD 15 ^^ x.getLsbD 13 ^^ x.getLsbD 12 ^^ x.getLsbD 10
  (x <<< 1) ||| (if b then 1 else 0)

/-- The first of the eligible requesters at which the running sum of tickets exceeds `w` (R435). -/
def lotteryWalk (tk : Nat → Nat) (w : Nat) : Nat → List Nat → Nat
  | _, [] => 0
  | sum, i :: r => if w < sum + tk i then i else lotteryWalk tk w (sum + tk i) r

/-- A loser after a draw (R435): LOSSES, and its turn estimate with them (DEDUCED, log entry 47). -/
def Arb.lose (a : Arb) (T tk : Nat) : Arb :=
  let l := min 64 (a.losses + 1)
  { a with losses := l, est := min ((T - tk + tk - 1) / tk) (64 - l) }

/-- The draw among the eligible requesters (R435). -/
def State.draw (s : State) (el : List Nat) : State :=
  let x := lfsrStep s.ink.lfsr
  let T := (el.map s.tickets).foldl (· + ·) 0
  let win := match el.find? fun i => decide ((s.arb i).losses = 64) with
    | some i => i
    | none => lotteryWalk s.tickets (x.toNat * T / 65536) 0 el
  let s := { s with ink := { s.ink with lfsr := x, hold := some win } }
  el.foldl (fun (s : State) (i : Nat) =>
    s.setArb i (if i = win then { s.arb i with losses := 0, est := 0 } else (s.arb i).lose T (s.tickets i))) s

/-- Requester `i` requests: the Blotter writer while rows wait in its FIFO, the DMA engine while a chain runs, any other
one as it asks (R434, R438, R446) (DEDUCED, log entry 47). -/
def State.requests (s : State) (req : BitVec 7) (i : Nat) : Bool :=
  if i = 1 then decide (s.ink.blot.fifo ≠ []) else if i = 6 then s.ink.dma.run.isSome else req.getLsbD i

/-- `ARBITER_DRAW` (R435): the port is free; `req` are the requesters that request. One that has withdrawn leaves with
LOSSES 0 (R437). -/
def execArbiterDraw (req : BitVec 7) (s : State) : Host.Outcome State Fault Refusal :=
  let s := s.silent
  if s.ink.hold.isSome then .next s else
  let s := (List.range 7).foldl (fun (s : State) (i : Nat) =>
    s.setArb i (if s.requests req i then { s.arb i with req := true } else Arb.init)) s
  let el := (List.range 7).filter s.eligible
  .next (if el = [] then s else s.draw el)

/-- Row stride R in values (R446). -/
def rowStride (n : Nat) : Nat := if n ≤ 1 then 1 else 2 ^ (Nat.log2 (n - 1) + 1)

def State.blotN (s : State) : Nat := W.BLOT_CTL_N (s.word K.BLOT_CTL)

/-- Depth of the ring in rows (R446). -/
def State.blotDepth (s : State) : Nat := 4194304 / rowStride s.blotN

/-- The oldest row of the writer's FIFO is stored (R446). -/
def State.storeRow (s : State) : State :=
  match s.ink.blot.fifo with
  | [] => s
  | (i, vs) :: r =>
    let s := { s with ink := { s.ink with blot := { s.ink.blot with fifo := r } } }
    s.inkWrite (i % s.blotDepth * rowStride s.blotN * 4) (vs.flatMap wordBytes)

/-- `INKWELL_TRANSFER_DONE` (R434, R437): the holder's transfer of `tiles` + 1 tiles, at 2 clocks each, completes and the
port is free (DEDUCED, log entry 47). -/
def execInkwellTransferDone (tiles : Fin 16) (s : State) : Host.Outcome State Fault Refusal :=
  let s := s.silent
  match s.ink.hold with
  | none => .next s
  | some h =>
    let s := s.setArb h { s.arb h with req := false }
    let s := { s with ink := { s.ink with
      hold := none, used := if h = 2 ∨ h = 6 then s.ink.used + 2 * ((tiles : Nat) + 1) else s.ink.used } }
    .next (if h = 1 then s.storeRow else s)

/-- `FREEZE_TIMER` (R437): a freeze has been held for more than 100 ms (10,000 cycles)
(DESIGN CHOICE, log entry 6; DEDUCED, log entry 47). -/
def execFreezeTimer (t : Tick) (s : State) : Host.Outcome State Fault Refusal :=
  let s := s.silent
  .next (if s.frozen ∧ s.ink.freezeAt + 10000 < s.mono then s.raise 0x0D05 0 0 t else s)

/-! ## DMA -/

/-- A descriptor's fields (R439). -/
def dSrc (d : List Byte) : Nat := beAt d 0 1 / 64
def dDst (d : List Byte) : Nat := beAt d 0 1 / 16 % 4
def dLast (d : List Byte) : Bool := (byteAt d 0).getLsbD 3
def dTag (d : List Byte) : Nat := beAt d 2 2
def dFrom (d : List Byte) : Nat := beAt d 4 4
def dTo (d : List Byte) : Nat := beAt d 8 4
def dLen (d : List Byte) : Nat := beAt d 12 4
def dNext (d : List Byte) : Nat := beAt d 16 4
def dFill (d : List Byte) : List Byte := (d.drop 20).take 4

/-- Descriptors of a channel may lie at an address (R439). -/
def descAt (ch a : Nat) : Bool :=
  decide (a % 32 = 0) && decide (a < 0x2000000)
    && (decide (inkRegion a = 3) || (decide (ch < 4) && decide (inkRegion a = 2)))

/-- A descriptor is bad (R439) (DEDUCED, log entry 47). -/
def descBad (ch : Nat) (d : List Byte) : Bool :=
  decide (dSrc d = 3) || decide (dDst d ≠ 0) || decide (dLen d = 0) || decide (16777216 < dLen d)
    || decide (0x2000000 < dTo d + dLen d)
    || (decide (dSrc d = 0) && decide (0x2000000 < dFrom d + dLen d))
    || (decide (dSrc d = 1) && decide (0x200000 < dFrom d + dLen d))
    || decide (byteAt d 1 ≠ 0) || ((d.drop 24).take 8).any (fun b => decide (b ≠ 0))
    || (!dLast d && !descAt ch (dNext d))
    || (decide (4 ≤ ch) && (decide (dTo d < 0x1800000)
        || (decide (dSrc d = 0) && decide (dFrom d < 0x1800000) && decide (0x10C0000 < dFrom d + dLen d))))

/-- Source and destination overlap (R441). -/
def descOverlaps (d : List Byte) : Bool :=
  decide (dSrc d = 0) && decide (dFrom d < dTo d + dLen d) && decide (dTo d < dFrom d + dLen d)

/-- The copy runs downward (R441). -/
def descBackward (d : List Byte) : Bool := descOverlaps d && decide (dFrom d < dTo d)

def State.setDma (s : State) (d : Dma) : State := { s with ink := { s.ink with dma := d } }

/-- A channel's chain starts at its head descriptor (DEDUCED, log entry 47). -/
def State.dmaBegin (s : State) (ch : Nat) : State :=
  let a := W.DMA_HEAD_ADDR (s.word (K.DMA_HEAD ch)) * 32
  s.setDma { s.ink.dma with
    run := some { ch := ch, head := a, addr := a, desc := [], phase := 0, count := 0, moved := 0, cancel := false },
    wait := mset s.ink.dma.wait ch false }

/-- The chain ends: the first waiting channel after it, wrapping from 7 to 0, runs next (R438). -/
def State.dmaEnd (s : State) (ch : Nat) : State :=
  let s := s.setDma { s.ink.dma with run := none }
  match ((List.range 8).map fun i => (ch + 1 + i) % 8).find? fun c => s.ink.dma.wait.testBit c with
  | some c => s.dmaBegin c
  | none => s

/-- Records in a channel's completion queue (R443). -/
def State.cqSize (s : State) (ch : Nat) : Nat := 16 * 2 ^ W.DMA_CFG_CQ_LOG (s.word (K.DMA_CFG ch))

def State.cqHead (s : State) (ch : Nat) : Nat := Tab.get (fun _ => 0) s.ink.dma.head ch

/-- A completion record appended, or dropped when the queue is full (R442, R443) (DEDUCED, log entry 47). -/
def State.dmaRecord (s : State) (ch tag status flags bytes desc t : Nat) : State :=
  let n := s.cqSize ch
  let h := s.cqHead ch
  if (h + 1) % n = W.DMA_CQP_TAIL (s.word (K.DMA_CQP ch)) % n then
    let c := satInc s.ink.dma.lost s.ink.dma.lostSat
    ((s.setDma { s.ink.dma with lost := c.1, lostSat := c.2.1 }).raise 0x0D09 ch 0 t).satEvent c.2.2 K.DMA_LOST t
  else
    let r := be 2 tag ++ [BitVec.ofNat 8 ch, BitVec.ofNat 8 status, BitVec.ofNat 8 flags, 0] ++ be 4 bytes
      ++ be 4 desc ++ be 2 (s.cycle.toNat % 65536)
    let s := s.inkWrite (W.DMA_CQ_BASE (s.word (K.DMA_CQ ch)) * 128 + 16 * h) r
    s.setDma { s.ink.dma with head := Tab.put (fun _ => 0) s.ink.dma.head ch ((h + 1) % n) }

/-- TAG of a record whose descriptor was not executed: the spec gives none, so it is a free value
(DESIGN CHOICE, log entry 2). -/
def State.freeTag (s : State) : Nat := (Config.freeWord s.free).toNat % 65536

/-- A record without a descriptor ends the chain (R444, R445). -/
def State.dmaStop (s : State) (c : Chain) (status t : Nat) : State :=
  ((s.dmaRecord c.ch s.freeTag status 4 0 c.addr t).drawn).dmaEnd c.ch

/-- FLAGS of R442. -/
def descFlags (d : List Byte) (ended : Bool) : Nat :=
  b2n (descOverlaps d) + 2 * b2n (descBackward d) + 4 * b2n ended

/-- The present descriptor is over with a status: its record, and the next descriptor, a cancellation or the chain's end
(R442, R445). -/
def State.dmaNext (s : State) (c : Chain) (status t : Nat) : State :=
  let d := c.desc
  let s := s.dmaRecord c.ch (dTag d) status (descFlags d (dLast d)) c.moved c.addr t
  if dLast d then s.dmaEnd c.ch
  else
    let n : Chain := { c with addr := dNext d, desc := [], phase := 0, count := c.count + 1, moved := 0 }
    if c.cancel then s.dmaStop n 6 t else s.setDma { s.ink.dma with run := some n }

/-- `DMA_DESCRIPTOR_FETCH` (R439, R444): the next descriptor is fetched and checked; `bad` is a tile checksum that
fails (DEDUCED, log entry 47). -/
def execDmaDescriptorFetch (bad : Bool) (t : Tick) (s : State) : Host.Outcome State Fault Refusal :=
  let s := s.silent
  match s.ink.dma.run with
  | none => .next s
  | some c =>
    if c.phase ≠ 0 ∨ s.portOpen 6 = false then .next s
    else if c.count ≠ 0 ∧ c.addr = c.head then .next ((s.dmaStop c 5 t).raise 0x0D08 c.ch 0 t)
    else if W.DMA_CTL_CHAIN_MAX (s.word K.DMA_CTL) ≤ c.count then .next ((s.dmaStop c 4 t).raise 0x0D08 c.ch 0 t)
    else
      let tile := c.addr / 128
      let s := if bad then s.poisonInk tile t else s
      let d := s.inkBytes c.addr 32
      if s.inkPoisoned tile ∨ !descAt c.ch c.addr ∨ descBad c.ch d then
        let st := if s.inkPoisoned tile then 1 else 3
        .next (((s.dmaRecord c.ch (dTag d) st 4 0 c.addr t).dmaEnd c.ch).raise 0x0D06 c.ch 0 t)
      else
        let still := decide (dSrc d = 0) && decide (dFrom d = dTo d)
        .next (s.setDma { s.ink.dma with run := some { c with desc := d, moved := 0, phase := if still then 2 else 1 } })

/-- The burst that follows (R440, R441): its offset from the start of the range and its length, cut at 16 source tiles
(for a fill, destination tiles). -/
def burstOf (d : List Byte) (moved : Nat) : Nat × Nat :=
  let base := if dSrc d = 2 then dTo d else dFrom d
  if descBackward d then
    let hi := base + dLen d - moved
    let lo := max base (((hi - 1) / 128 - min 15 ((hi - 1) / 128)) * 128)
    (lo - base, hi - lo)
  else
    let lo := base + moved
    let hi := min (base + dLen d) ((lo / 128 + 16) * 128)
    (moved, hi - lo)

/-- The bytes that a burst reads. -/
def State.burstBytes (s : State) (d : List Byte) (off n : Nat) : List Byte :=
  if dSrc d = 0 then s.inkBytes (dFrom d + off) n
  else if dSrc d = 1 then s.cimBytes (dFrom d + off) n
  else (List.range n).map fun i => byteAt (dFill d) ((off + i) % 4)

/-- A source tile of a burst is poisoned. -/
def State.burstPoisoned (s : State) (d : List Byte) (off n : Nat) : Bool :=
  let ts := tilesOf (dFrom d + off) n
  if dSrc d = 0 then ts.any s.inkPoisoned
  else if dSrc d = 1 then ts.any fun x => decide (x ∈ s.ink.cimPoison)
  else false

/-- A tile of the burst fails its checksum as it is read. -/
def State.burstBad (s : State) (d : List Byte) (off n : Nat) (bad : Option (Fin 17)) (t : Nat) : State :=
  match bad with
  | none => s
  | some i =>
    match (tilesOf (dFrom d + off) n)[(i : Nat)]? with
    | none => s
    | some x => if dSrc d = 0 then s.poisonInk x t else if dSrc d = 1 then s.poisonCim x t else s

/-- `DMA_BURST_COMPLETE` (R440): one burst is read and written; `bad` is the source tile in it that fails its checksum.
A poisoned source tile ends the descriptor. -/
def execDmaBurstComplete (bad : Option (Fin 17)) (t : Tick) (s : State) : Host.Outcome State Fault Refusal :=
  let s := s.silent
  match s.ink.dma.run with
  | none => .next s
  | some c =>
    if c.phase ≠ 1 ∨ s.portOpen 6 = false then .next s else
    let d := c.desc
    let b := burstOf d c.moved
    let s := s.burstBad d b.1 b.2 bad t
    if s.burstPoisoned d b.1 b.2 then .next (s.dmaNext c 1 t)
    else
      let bytes := s.burstBytes d b.1 b.2
      let s := if dSrc d = 1 then s.drawn else s
      let s := s.inkWrite (dTo d + b.1) bytes
      let moved := c.moved + b.2
      .next (s.setDma { s.ink.dma with run := some { c with
        moved := moved, phase := if dLen d ≤ moved then 2 else 1 } })

/-- `DMA_READBACK_DONE` (R442): the last tile written is read back; only then is the record appended. -/
def execDmaReadbackDone (same : Bool) (t : Tick) (s : State) : Host.Outcome State Fault Refusal :=
  let s := s.silent
  match s.ink.dma.run with
  | none => .next s
  | some c =>
    if c.phase ≠ 2 ∨ s.portOpen 6 = false then .next s
    else if same then .next (s.dmaNext c 0 t)
    else .next ((s.raise 0x0D0A c.ch 0 t).dmaNext c 7 t)

/-- `DMA_MEMORY_TIMEOUT` (R445): a transfer of the DMA engine, which holds the port, has had no response for 2 µs. The
engine withdraws it, which frees the port (R437). -/
def execDmaMemoryTimeout (t : Tick) (s : State) : Host.Outcome State Fault Refusal :=
  let s := s.silent
  match s.ink.dma.run with
  | none => .next s
  | some c =>
    if s.ink.hold ≠ some 6 then .next s else
    let s := ({ s with ink := { s.ink with hold := none } }).setArb 6 Arb.init
    let tag := if c.desc = [] then s.freeTag else dTag c.desc
    let s := if c.desc = [] then s.drawn else s
    let fl := if c.desc = [] then 4 else descFlags c.desc true
    .next (((s.dmaRecord c.ch tag 2 fl c.moved c.addr t).dmaEnd c.ch).raise 0x0D07 c.ch 0 t)

/-! ## The Blotter -/

/-- Pre-trigger length in rows (R446). -/
def State.blotPre (s : State) : Nat := W.BLOT_CTL_PRE (s.word K.BLOT_CTL) * s.blotDepth / 256

/-- The level trigger's condition (R448). -/
def levelMet (cond : Nat) (level : Word) (prev : Option Word) (v : Word) : Bool :=
  if fIsNaN v then false else
  match cond, prev with
  | 0, some p => fLt p level && !fLt v level
  | 1, some p => fLt level p && !fLt level v
  | 2, _ => fLt level v
  | 3, _ => fLt v level
  | _, _ => false

/-- The state of the capture after its rows so far (R447). -/
def State.blotState (s : State) : State :=
  let b := s.ink.blot
  let st := if b.st = 1 ∧ s.blotPre ≤ b.total then 2
    else match b.st, b.trig with
      | 3, some r => if s.blotDepth - s.blotPre ≤ b.total - r.1 then 4 else 3
      | x, _ => x
  { s with ink := { s.ink with blot := { b with st := st } } }

/-- A row enters the writer's FIFO, or is lost when it is full (R446). -/
def State.pushRow (s : State) (vs : List Word) (t : Nat) : State :=
  let b := s.ink.blot
  let put (b : Blot) : State := { s with ink := { s.ink with blot := { b with total := b.total + 1, lastCyc := s.cycle } } }
  if b.fifo.length < 8 then put { b with fifo := b.fifo ++ [(b.total, vs)] }
  else
    let c := satInc b.lost b.lostSat
    ((put { b with lostRows := (b.lostRows ++ [b.total]).filter fun i => decide (b.total < i + s.blotDepth), lost := c.1, lostSat := c.2.1, lostAt := s.mono + 1 }).raise 0x0D0C 0 0
      t).satEvent c.2.2 K.BLOT_LOST t

/-- `BLOTTER_ROW` (R446–R448): in a sampled cycle one row is written and the level trigger judged. -/
def execBlotterRow (t : Tick) (s : State) : Host.Outcome State Fault Refusal :=
  let s := s.silent
  let b := s.ink.blot
  let due := decide (b.st = 1 ∨ b.st = 2 ∨ b.st = 3)
    && decide (s.cycle.toNat % 2 ^ W.BLOT_CTL_DIV (s.word K.BLOT_CTL) = 0)
    && !(decide (b.total ≠ 0) && decide (b.lastCyc = s.cycle))
  if !due then .next s else
  let vs := (List.range s.blotN).map fun i => s.source (s.word (K.BLOT_SRC i))
  let w := s.word K.BLOT_TRIG
  let v := (vs[W.BLOT_TRIG_TCH w]?).getD 0
  let row := b.total
  let s := s.pushRow vs t
  let s := { s with ink := { s.ink with blot := { s.ink.blot with prev := some v } } }
  let hit := decide (W.BLOT_TRIG_KIND w = 1) && levelMet (W.BLOT_TRIG_COND w) (s.word K.BLOT_LEVEL) b.prev v
  .next ((if hit then s.blotTrigger row t else s).blotState)

end Sys2Proof.Machine
end

