-- ==== Sys2Proof/Machine/Network.lean ====
section
/-! DEFINITION. The station network (R402–R413): filtering, ARP and ICMP, PTP with its transparent clock, timed
launches and telemetry streams. -/

namespace Sys2Proof.Machine

/-! ## Reception -/

/-- NET_DROP counts a frame discarded under R403. -/
def State.netDrop (s : State) (t : Nat) : State :=
  let c := satInc s.net.drop s.net.dropSat
  ({ s with net := { s.net with drop := c.1, dropSat := c.2.1 } }).satEvent c.2.2 K.NET_DROP t

/-- SYS_REJECT counts a discarded record (R375). -/
def State.sysReject (s : State) (t : Nat) : State :=
  let c := satInc s.sys.reject s.sys.rejSat
  ({ s with sys := { s.sys with reject := c.1, rejSat := c.2.1 } }).satEvent c.2.2 K.SYS_REJECT t

/-- Consumed connections on the station network (DEDUCED, log entry 39). -/
def State.netConns (s : State) : List Nat :=
  (List.range 8).filter fun j =>
    s.consumed j && decide (W.SFL_CFG_MEDIUM (s.sflCfg j) = 0)

/-- Port `p` has joined a group (R410) (DEDUCED, log entry 39). -/
def State.joined (s : State) (p : Nat) (ip : Word) : Bool :=
  s.netConns.any fun j =>
    multicast ip && decide (s.word (K.SFL_ADDR j) = ip) && (W.SFL_PATH_PORTS (s.word (K.SFL_PATH j))).testBit p

/-- A request on a port can be answered (R404) (DEDUCED, log entry 39). -/
def State.reachable (s : State) (p : Nat) (ip : Word) : Bool :=
  s.inPrefix p ip || decide (s.word (K.PORT_GW p) ≠ 0)

/-- The frame's address and VLAN pass the filter of R403 (DEDUCED, log entry 39). -/
def State.frameOk (s : State) (p : Nat) (f : NetFrame) : Bool :=
  let cfg := s.word (K.NPORT_CFG p)
  let dst := match f.dst with
    | .own => true
    | .broadcast => decide (f.body = .arp)
    | .ptp => true
    | .group => s.joined p f.dip
    | .other => false
  f.fcs && dst && decide (f.vid = if W.NPORT_CFG_TAG cfg then some (W.NPORT_CFG_VID cfg) else none)

/-- An IPv4 datagram passes the filter of R403 (DEDUCED, log entry 39). -/
def State.ipOk (s : State) (p : Nat) (f : NetFrame) : Bool :=
  !f.ip || (f.hdrOk && !f.opts && !f.frag && (decide (f.dip = s.portIp p) || s.joined p f.dip))

/-- The counters of a new second (R403) (DEDUCED, log entry 39). -/
def State.netSecond (s : State) : State :=
  let sec := s.mono / 100000
  if s.net.sec = sec then s else { s with net := { s.net with sec := sec, cmds := 0, echoes := [] } }

/-- A datagram on port 51402 (R410): to the mailbox of every consumed connection that its address names
(DEDUCED, log entry 39). -/
def State.safeArrives (s : State) (f : NetFrame) (data : List Byte) (t : Nat) : State :=
  let dst := s.netConns.filter fun j =>
    let a := s.word (K.SFL_ADDR j)
    decide (f.sip = a) || (multicast a && decide (f.dip = a))
  if dst = [] ∨ data.length ≠ 24 then s.netDrop t else
  { s with net := { s.net with mail := dst.foldl (fun m j => Tab.put (fun _ => []) m j data) s.net.mail } }

/-- R404: an ARP request or reply. The cache learns from messages for the port and keeps 64 entries
(DEDUCED, log entry 39). -/
def execArpMessage (p : Fin 3) (req : Bool) (sip tip : Word) (mac : BitVec 48) (s : State) :
    Host.Outcome State Fault Refusal :=
  let s := s.silent
  if s.portIp p = 0 ∨ tip ≠ s.portIp p then .next s else
  let rest := s.net.arp.filter fun e => !decide (e.1 = (p : Nat) ∧ e.2.1 = sip)
  let mine := rest.filter fun e => decide (e.1 = (p : Nat))
  let rest := if 64 ≤ mine.length then rest.erase (mine.headD (0, 0, 0, 0)) else rest
  let s := { s with net := { s.net with arp := rest ++ [((p : Nat), sip, mac, s.mono)] } }
  .next (if req then s.sendNet p 4 (.arp true sip) else s)

/-- R404: an ARP cache entry ages out after 60 s. -/
def execArpEntryAge (p : Fin 3) (ip : Word) (s : State) : Host.Outcome State Fault Refusal :=
  let s := s.silent
  let old (e : Nat × Word × BitVec 48 × Nat) : Bool := decide (e.1 = (p : Nat) ∧ e.2.1 = ip ∧ e.2.2.2 + 6000000 ≤ s.mono)
  .next { s with net := { s.net with arp := s.net.arp.filter fun e => !old e } }

/-- R402, R403: an ICMP echo request, at most 64 per second on its port (DEDUCED, log entry 39). -/
def execIcmpEchoRequest (p : Fin 3) (sip : Word) (data : List Byte) (t : Tick) (s : State) :
    Host.Outcome State Fault Refusal :=
  let s := s.silent
  if s.portIp p = 0 then .next s else
  let s := s.netSecond
  let n := Tab.get (fun _ => 0) s.net.echoes p
  if 64 ≤ n ∨ !s.reachable p sip then .next (s.netDrop t) else
  .next (({ s with net := { s.net with echoes := Tab.put (fun _ => 0) s.net.echoes p (n + 1) } }).sendNet p 4
    (.icmp (s.nextHop p sip) sip data))

/-- A gratuitous ARP out of a port with an address (R404, R405). -/
def State.announceIp (s : State) (p : Nat) : State :=
  if s.portIp p = 0 then s else s.sendNet p 4 (.arp false (s.portIp p))

/-- Sessions of a port learn of its link (R378): `at_` is the elapsed cycle of the loss. -/
def State.sessLink (s : State) (p : Nat) (at_ : Option Nat) : State :=
  (List.range 8).foldl (fun (s : State) (i : Nat) =>
    let x := s.sess i
    if x.isOpen ∧ x.port = p then s.setSess i { x with linkDown := at_ } else s) s

/-- R404: a link comes up. -/
def execNetLinkUp (p : Fin 3) (t : Tick) (s : State) : Host.Outcome State Fault Refusal :=
  let s := s.silent
  let s := { s with net := { s.net with link := mset s.net.link p true } }
  .next (((s.clear 0x0C01 p t).sessLink p none).announceIp p)

/-- R427: a link goes down. -/
def execNetLinkLoss (p : Fin 3) (t : Tick) (s : State) : Host.Outcome State Fault Refusal :=
  let s := s.silent
  let s := { s with net := { s.net with link := mset s.net.link p false } }
  .next ((s.sessLink p (some s.mono)).raise 0x0C01 p 0 t)

/-! ## PTP -/

def State.ptpOn (s : State) (p : Nat) : Bool := (W.PTP_CTL_EN (s.word K.PTP_CTL)).testBit p

/-- TIME_CTL.SRC allows a port (R160, R407). -/
def State.srcAllows (s : State) (p : Nat) : Bool :=
  match W.TIME_CTL_SRC (s.word K.TIME_CTL) with
  | 0 => true | 1 => decide (p = 0) | 2 => decide (p = 1) | _ => false

/-- The Announce messages that the selection considers (R406, R407) (PRESUMED, log entry 12). -/
def State.qualifies (s : State) (p : Nat) (a : PtpAnn) : Bool :=
  s.ptpOn p && s.srcAllows p && decide (a.domain = W.PTP_CTL_DOMAIN (s.word K.PTP_CTL))
    && decide (a.cls ≤ W.PTP_CTL_CLASS_MAX (s.word K.PTP_CTL)) && decide (a.steps < 255) && decide (a.interval = 0)

/-- Order of the default best timeTransmitter algorithm (PRESUMED from IEEE 1588-2019,
log entry 12). -/
def Foreign.keys (f : Foreign) : List Nat :=
  [f.ann.prio1, f.ann.cls, f.ann.accuracy, f.ann.variance, f.ann.prio2, f.ann.gm.toNat, f.ann.steps,
   f.ann.src.toNat, f.port]

/-- The first of two rows of keys in their order (PRESUMED, log entry 12). -/
def keysBefore : List Nat → List Nat → Bool
  | x :: a, y :: b => decide (x < y) || (decide (x = y) && keysBefore a b)
  | _, _ => false

/-- The best timeTransmitter heard, on a port that takes part (PRESUMED, log entry 12). -/
def State.ptpBest (s : State) : Option Foreign :=
  (s.net.foreign.filter fun f => s.qualifies f.port f.ann && !(s.ptpPort f.port).failed).foldl
    (fun (b : Option Foreign) (f : Foreign) => match b with
      | none => some f
      | some g => if keysBefore f.keys g.keys then some f else some g) none

/-- The selection runs again: the UTC offset that the timeTransmitter announces is taken (R158), and a change of
timeTransmitter or port raises PTP_TT_CHANGED (R407)
(PRESUMED, log entry 12). -/
def State.ptpSelect (s : State) (t : Nat) : State :=
  let new := s.ptpBest.map fun f => (f.port, f.ann)
  let old := s.net.best
  let s := { s with
    net := { s.net with best := new }
    clk := { s.clk with utc := match new with | some x => x.2.utc | none => s.clk.utc } }
  let id (b : Option (Nat × PtpAnn)) : Option (Nat × BitVec 80) := b.map fun x => (x.1, x.2.src)
  if id new = id old then s
  else s.raise 0x0C02 (match new, old with | some x, _ => x.1 | none, some x => x.1 | none, none => 0) 0 t

/-- The transparent clock forwards (R408). -/
def State.forwards (s : State) : Bool := W.PTP_CTL_TC_EN (s.word K.PTP_CTL) && decide (s.sys.mode ≠ .boot)

/-- Mean link delay of a port in 2⁻¹⁶ ns; a free value while it is not measured
(DESIGN CHOICE, log entry 2; PRESUMED, log entry 12). -/
def State.linkDelay (s : State) (p : Nat) : Int :=
  let d := (s.ptpPort p).delay
  (if d = 0xFFFFFFFF then ((Config.freeWord s.free).toNat : Int) else (d.toNat : Int)) * 4096

/-- A measured offset goes to the time servo (R160, R406, R407). An unmeasured link delay gives none
(PRESUMED, log entry 12). -/
def State.ptpOffset (s : State) (p : Nat) (m : PtpMsg) (t : Nat) : State :=
  let d := (s.ptpPort p).delay
  match s.net.best with
  | some (q, a) =>
    if q = p ∧ a.src = m.src ∧ a.domain = m.domain ∧ d ≠ 0xFFFFFFFF ∧ s.ptpOn p ∧ -4 ≤ m.interval ∧ m.interval ≤ 0 ∧
        s.timeSource (q + 1) = p + 1 then
      s.timeMeasure (p + 1) ((d.toNat : Int) * 1000 / 16 - m.offset) t
    else s
  | none => s

/-- R407, R408: a Sync arrives; `res` is its residence time in the transparent clock, 2⁻¹⁶ ns. -/
def execPtpSyncReceive (p : Fin 2) (m : PtpMsg) (res : Nat) (t : Tick) (s : State) :
    Host.Outcome State Fault Refusal :=
  let s := s.silent
  let add := (res : Int) + s.linkDelay p
  let s := s.drawn
  let x := s.ptpPort p
  if m.twoStep then
    let rest := x.syncs.filter fun e => !decide (e.1.src = m.src ∧ e.1.domain = m.domain)
    let s := s.setPtpPort p { x with syncs := rest ++ [(m, add)] }
    .next (if s.forwards then s.sendNet (1 - (p : Nat)) 1 (.ptpSync m) else s)
  else
    let s := if s.forwards then s.sendNet (1 - (p : Nat)) 1 (.ptpSync { m with corr := m.corr + add }) else s
    .next (s.ptpOffset p m t)

/-- R407, R408: a Follow_Up completes a two-step Sync. -/
def execPtpFollowUpReceive (p : Fin 2) (m : PtpMsg) (t : Tick) (s : State) : Host.Outcome State Fault Refusal :=
  let s := s.silent
  let x := s.ptpPort p
  let mine (e : PtpMsg × Int) : Bool := decide (e.1.src = m.src ∧ e.1.domain = m.domain ∧ e.1.seq = m.seq)
  match x.syncs.find? mine with
  | some e =>
    let s := s.setPtpPort p { x with syncs := x.syncs.filter fun e => !mine e }
    let s := if s.forwards then s.sendNet (1 - (p : Nat)) 1 (.ptpFollow { m with corr := m.corr + e.2 }) else s
    .next (s.ptpOffset p m t)
  | none => .next (if s.forwards then s.sendNet (1 - (p : Nat)) 1 (.ptpFollow m) else s)

/-- R407, R408: an Announce arrives. -/
def execPtpAnnounceReceive (p : Fin 2) (m : PtpAnn) (t : Tick) (s : State) : Host.Outcome State Fault Refusal :=
  let s := s.silent
  let s := if s.forwards then s.sendNet (1 - (p : Nat)) 1 (.ptpAnnounce m) else s
  if !s.qualifies p m then .next s else
  let rest := s.net.foreign.filter fun f => !decide (f.port = (p : Nat) ∧ f.ann.src = m.src)
  let s := { s with net := { s.net with foreign := rest ++ [Foreign.mk p m s.mono] } }
  .next (s.ptpSelect t)

/-- R406: no Announce of a timeTransmitter for its receipt timeout, three intervals of 1 s (PRESUMED, log entry 12). -/
def execPtpAnnounceTimeout (p : Fin 2) (src : BitVec 80) (t : Tick) (s : State) : Host.Outcome State Fault Refusal :=
  let s := s.silent
  .next (({ s with net := { s.net with
    foreign := s.net.foreign.filter fun f =>
      !decide (f.port = (p : Nat) ∧ f.ann.src = src ∧ f.heard + 300000 ≤ s.mono) } }).ptpSelect t)

/-- R406, R407: once per second a port sends Pdelay_Req; three in a row without answer take it out of the
selection (DEDUCED, log entry 39). -/
def execPtpPdelayTimer (p : Fin 2) (t : Tick) (s : State) : Host.Outcome State Fault Refusal :=
  let s := s.silent
  if !s.ptpOn p ∨ s.portIp p = 0 then .next s else
  let x := s.ptpPort p
  let missed := if x.waiting then x.missed + 1 else x.missed
  let fails := decide (3 ≤ missed)
  let s := s.setPtpPort p { x with
    seq := x.seq + 1, waiting := true, missed := missed, answered := if x.waiting then 0 else x.answered,
    failed := x.failed || fails }
  let s := if fails then (s.raise 0x0C03 p 0 t).ptpSelect t else s
  .next (s.sendNet p 1 (.pdelayReq (x.seq + 1)))

/-- R406: a Pdelay_Req is answered two-step. -/
def execPtpPdelayReqReceive (p : Fin 2) (src : BitVec 80) (seq : BitVec 16) (s : State) :
    Host.Outcome State Fault Refusal :=
  let s := s.silent
  .next (if s.ptpOn p ∧ s.portIp p ≠ 0 then s.sendNet p 1 (.pdelayResp src seq) else s)

/-- R406, R407: a peer-delay response; `rt` is the time from request to response and `turn` the responder's
turnaround, both in 1/16 ns. -/
def execPtpPdelayRespReceive (p : Fin 2) (seq : BitVec 16) (rt turn : Nat) (t : Tick) (s : State) :
    Host.Outcome State Fault Refusal :=
  let s := s.silent
  let x := s.ptpPort p
  if !x.waiting ∨ x.seq ≠ seq then .next s else
  let back := x.failed && decide (3 ≤ x.answered + 1)
  let s := s.setPtpPort p { x with
    delay := BitVec.ofNat 32 ((rt - turn) / 2), waiting := false, missed := 0, answered := x.answered + 1,
    failed := x.failed && !back }
  .next (if back then (s.clear 0x0C03 p t).ptpSelect t else s)

/-! ## Timed launch and streams -/

/-- The last instant at which the first bit of a planned frame may leave (R409): LATE_TOL is in 10 ns, 62.5 ticks. -/
def State.launchLimit (s : State) (x : Launch) : Nat :=
  x.tick + W.NET_LAUNCH_LATE_TOL (s.word K.NET_LAUNCH) * 125 / 2

/-- R409: the next planned launch of a port is due. Its first bit can leave when the port, busy for `busy` ticks with the
frame in transmission and those of higher classes, is free: by then it is sent, or late and discarded
(DESIGN CHOICE, log entry 6). -/
def execTimedLaunch (p : Fin 2) (busy : Nat) (t : Tick) (s : State) : Host.Outcome State Fault Refusal :=
  let s := s.silent
  match Tab.get (fun _ => []) s.net.launches p with
  | [] => .next s
  | x :: r =>
    if s.ticks t < x.tick then .next s else
    let s := { s with net := { s.net with launches := Tab.put (fun _ => []) s.net.launches p r } }
    if s.portIp p = 0 then .next s
    else if s.ticks t + busy ≤ s.launchLimit x then
      .next (s.sendUdp p x.cls x.ip (if x.cls = 2 then 51402 else 51401) x.dport x.bytes)
    else
      let c := satInc s.net.late s.net.lateSat
      let s := { s with net := { s.net with
        late := c.1, lateSat := c.2.1, lateAt := Tab.put (fun _ => 0) s.net.lateAt p (s.mono + 1) } }
      .next ((s.satEvent c.2.2 K.NET_LATE t).raise 0x0C04 p 0 t)

def State.strmCtl (s : State) (j : Nat) : Word := s.word (K.STRM_CTL j)

/-- Sources of a stream (R411). -/
def State.strmSrcs (s : State) (j : Nat) : List Word :=
  (List.range (W.STRM_CTL_COUNT (s.strmCtl j))).map fun n => s.word (K.STRM_SRC j n)

/-- Staleness bits of a stream's sources (R413). -/
def State.strmStale (s : State) (j : Nat) : Nat :=
  ((s.strmSrcs j).zipIdx).foldl (fun (m : Nat) e =>
    if srcKind e.1 = 1 ∧ 0 < s.pointStale (srcIndex e.1) then m ||| (1 <<< e.2) else m) 0

/-- The values of a stream's sources, binary32 (R411). -/
def State.strmValues (s : State) (j : Nat) : List Byte := (s.strmSrcs j).flatMap fun w => wordBytes (s.source w)

/-- The smallest CAN FD data length that holds `n` bytes (R416). -/
def fdLen (n : Nat) : Nat :=
  (([8, 12, 16, 20, 24, 32, 48, 64].find? fun l => decide (n ≤ l))).getD 64

/-- A record under AES-256-GCM (R374, R375): the header, which is the AAD, then the ciphertext with its tag. `dir` is the
direction word of the IV. -/
def protectRec (key : List Byte) (kind dir sid ctr : Nat) (plain : List Byte) : List Byte :=
  let h := be 1 1 ++ be 1 kind ++ be 2 sid ++ be 8 ctr
  h ++ Config.gcmSeal key (be 4 dir ++ be 8 ctr) h plain

/-- Plaintext of a telemetry datagram (R413). -/
def State.strmPlain (s : State) (j : Nat) (entries : List (List Byte)) : List Byte :=
  let w := s.strmCtl j
  [BitVec.ofNat 8 j, BitVec.ofNat 8 (W.STRM_CTL_BATCH w), BitVec.ofNat 8 (W.STRM_CTL_COUNT w), 0]
    ++ entries.flatten

/-- The record of a telemetry datagram (R412), under the owner's key from module to host. -/
def State.strmRecord (s : State) (j : Nat) (x : Strm) (entries : List (List Byte)) : List Byte :=
  protectRec (s.sess (x.owner.toNat % 8)).keyOut 3 (16 + j) x.owner.toNat x.ctr (s.strmPlain j entries)

/-- R411–R413, R416: a running stream samples in a sampled cycle. -/
def execTelemetryStreamSample (j : Fin 4) (s : State) : Host.Outcome State Fault Refusal :=
  let s := s.silent
  let w := s.strmCtl j
  let x := s.stream j
  if !x.run ∨ !W.STRM_CTL_EN w ∨ s.cycle.toNat % 2 ^ W.STRM_CTL_DIV w ≠ 0 then .next s else
  let tail := be 2 (s.strmStale j) ++ s.strmValues j
  let can := be 2 (s.cycle.toNat % 65536) ++ tail
  let can := padTo (fdLen can.length) can
  let s := (s.canFill 0 3 j can).canFill 1 3 j can
  let entries := x.batch ++ [be 6 (s.cycle.toNat % 2 ^ 48) ++ tail]
  if entries.length < W.STRM_CTL_BATCH w then .next (s.setStream j { x with batch := entries }) else
  let u := s.word (K.STRM_UDP j)
  let l : Launch := { tick := s.ticks (W.STRM_CTL_PHASE w), cls := 3, ip := s.word (K.STRM_DST j),
                      dport := W.STRM_UDP_PORT u, bytes := s.strmRecord j x entries }
  let s := s.setStream j { x with batch := [], ctr := x.ctr + 1 }
  .next (([0, 1].filter (W.STRM_UDP_PORTS u).testBit).foldl (fun (s : State) (p : Nat) => s.planLaunch p l) s)

/-- SID of a session slot (R374). -/
def State.sidOf (s : State) (i : Nat) : BitVec 16 := BitVec.ofNat 16 ((s.sess i).gen * 8 + i)

/-- An open session has the SID. -/
def State.sidOpen (s : State) (sid : BitVec 16) : Bool :=
  (List.range 8).any fun i => (s.sess i).isOpen && decide (s.sidOf i = sid)

/-- R412: streams whose owner session has closed stop at the boundary. -/
def execStreamStop (s : State) : Host.Outcome State Fault Refusal :=
  let s := s.silent
  .next ((List.range 4).foldl (fun (s : State) (j : Nat) =>
    let x := s.stream j
    if x.run && !s.sidOpen x.owner then (s.setStream j { x with run := false, batch := [] }).raise 0x0C05 j 0 0 else s) s)

/-- A commit that writes STRM_CTLj (R412): the committing session owns the stream, which starts or stops. -/
def State.streamCommit (s : State) (j : Nat) (owner : BitVec 16) : State :=
  (s.setStream j { run := W.STRM_CTL_EN (s.strmCtl j), owner := owner, ctr := 1, batch := [] }).clear 0x0C05 j 0

end Sys2Proof.Machine
end

