-- ==== Sys2Proof/Machine/CanBus.lean ====
section
/-! DEFINITION. The CAN FD controllers (R414–R421): the schedule matrix, retries, error counters, frame stamps
and host buffers. -/

namespace Sys2Proof.Machine

def State.canCtl (s : State) (c : Nat) : Word := s.word (K.CAN_CTL c)
def State.canSlot (s : State) (c k : Nat) : Word := s.word (K.CAN_SLOT c k)

/-- The controller takes part in the bus; with ROM = 1 it only listens and acknowledges (R418). -/
def State.canOn (s : State) (c : Nat) : Bool := s.canEn c && !(s.canOf c).busOff
def State.canRom (s : State) (c : Nat) : Bool := W.CAN_CTL_ROM (s.canCtl c)

/-- Basic cycle of the present cycle, and the cycles into it (R415). -/
def State.basicCycle (s : State) (c : Nat) : Nat := s.cycle.toNat / W.CAN_MATRIX_BC_LEN (s.word (K.CAN_MATRIX c))
def State.basicPos (s : State) (c : Nat) : Nat := s.cycle.toNat % W.CAN_MATRIX_BC_LEN (s.word (K.CAN_MATRIX c))

/-- The window of transmit slot `k` is open (R415). -/
def State.windowOpen (s : State) (c k : Nat) : Bool :=
  let w := s.canSlot c k
  let ix := s.basicCycle c % 2 ^ W.CAN_MATRIX_MC (s.word (K.CAN_MATRIX c))
  let pos := s.basicPos c
  decide (2 ≤ W.CAN_SLOT_KIND w) && decide (ix % 2 ^ W.CAN_SLOT_REPEAT w = W.CAN_SLOT_BASE w)
    && decide (W.CAN_SLOT_START w ≤ pos) && decide (pos < W.CAN_SLOT_START w + 25 * (W.CAN_SLOT_LEN w + 1))

/-- Slot `k` has a message that it may offer now: an exclusive slot waits for its next window after a failure
(R417). -/
def State.mayOffer (s : State) (c k : Nat) : Bool :=
  let x := s.canOf c
  s.windowOpen c k && decide (Tab.get (fun _ => []) x.pend k ≠ [])
    && (W.CAN_SLOT_WIN (s.canSlot c k) || decide (Tab.get (fun _ => 0) x.tried k ≠ s.basicCycle c + 1))

/-- Bits by which an identifier wins arbitration (ISO 11898-1): the 11-bit base, then IDE, then the rest
(PRESUMED, log entry 38). -/
def canPriority (w : Word) : Nat :=
  if W.CAN_ID_IDE w then (W.CAN_ID_ID w / 2 ^ 18) * 2 ^ 19 + 2 ^ 18 + W.CAN_ID_ID w % 2 ^ 18
  else (W.CAN_ID_ID w % 2 ^ 11) * 2 ^ 19

/-- The arbitrating slot whose message would win arbitration (R417), if any offers one (PRESUMED, log entry 38). -/
def State.canWinner (s : State) (c : Nat) : Option Nat :=
  ((List.range 16).filter fun k => W.CAN_SLOT_WIN (s.canSlot c k) && s.mayOffer c k).foldl
    (fun (b : Option Nat) (k : Nat) => match b with
      | none => some k
      | some j => if canPriority (s.word (K.CAN_ID c k)) < canPriority (s.word (K.CAN_ID c j)) then some k else some j) none

/-- A frame starts: the pending message of slot `k` goes on the bus. -/
def State.canStart (s : State) (c k : Nat) : State :=
  let x := s.canOf c
  let b := Tab.get (fun _ => []) x.pend k
  (s.setCan c { x with tx := some (k, b), pend := Tab.put (fun _ => []) x.pend k [] }).emit
    (.can c (s.word (K.CAN_ID c k)).toNat b)

/-- Error states of R427 after a move of the counters. -/
def State.canJudge (s : State) (c t : Nat) : State :=
  let x := s.canOf c
  let s := if 96 ≤ x.tec ∨ 96 ≤ x.rec_ then s.raise 0x0C06 c 0 t else s.clear 0x0C06 c t
  let s := if x.busOff then s
    else if 127 < x.tec ∨ 127 < x.rec_ then s.raise 0x0C07 c 0 t
    else s.clear 0x0C07 c t
  if x.busOff then s.raise 0x0C08 c 0 t else s.clear 0x0C08 c t

/-- R415, R417: an open window offers its pending message; `fits`: the frame would end within the window. -/
def execCanWindowOpen (c : Fin 2) (k : Fin 16) (fits : Bool) (s : State) : Host.Outcome State Fault Refusal :=
  let s := s.silent
  if !s.canOn c || s.canRom c || (s.canOf c).tx.isSome || !fits || !s.mayOffer c k then .next s
  else if W.CAN_SLOT_WIN (s.canSlot c k) && decide (s.canWinner c ≠ some (k : Nat)) then .next s
  else .next (s.canStart c k)

/-- R419: a frame is sent successfully. -/
def execCanFrameTransmitted (c : Fin 2) (stamp : BitVec 32) (t : Tick) (s : State) :
    Host.Outcome State Fault Refusal :=
  let s := s.silent
  let x := s.canOf c
  match x.tx with
  | none => .next s
  | some (k, _) =>
    let n := satInc x.cnt x.cntSat
    let s := s.setCan c { x with
      tx := none, tec := x.tec - 1, lastSlot := k, txStamp := stamp, cnt := n.1, cntSat := n.2.1 }
    .next ((s.satEvent n.2.2 (K.CAN_CNT c) t).canJudge c t)

/-- R417: a transmission loses arbitration or meets an error; `ack`: an acknowledgement error, which an error
passive transmitter does not count. `fits`: the frame offered next would end within its window
(PRESUMED, log entry 38). -/
def execCanTxError (c : Fin 2) (lost ack : Bool) (fits : Bool) (t : Tick) (s : State) :
    Host.Outcome State Fault Refusal :=
  let s := s.silent
  let x := s.canOf c
  match x.tx with
  | none => .next s
  | some (k, b) =>
    let passive := decide (127 < x.tec) || decide (127 < x.rec_)
    let tec := if lost || (ack && passive) then x.tec else x.tec + 8
    let pend := if Tab.get (fun _ => []) x.pend k = [] then Tab.put (fun _ => []) x.pend k b else x.pend
    let s := s.setCan c { x with
      tx := none, tec := tec, busOff := decide (255 < tec), pend := pend,
      tried := if W.CAN_SLOT_WIN (s.canSlot c k) then x.tried else Tab.put (fun _ => 0) x.tried k (s.basicCycle c + 1) }
    let s := s.canJudge c t
    if !s.canOn c || !fits then .next s else
    match s.canWinner c with
    | some j => .next (s.canStart c j)
    | none => .next s

/-- R414, R418: a bus error while receiving raises the receive error counter by 1 or 8 (ISO 11898-1)
(PRESUMED, log entry 38). -/
def execCanRxError (c : Fin 2) (eight : Bool) (t : Tick) (s : State) : Host.Outcome State Fault Refusal :=
  let s := s.silent
  if !s.canOn c || s.canRom c then .next s else
  let x := s.canOf c
  .next ((s.setCan c { x with rec_ := x.rec_ + (if eight then 8 else 1) }).canJudge c t)

/-- R417: 128 sequences of 11 recessive bits in bus-off: error active again (PRESUMED, log entry 38). -/
def execCanBusOffRecovery (c : Fin 2) (t : Tick) (s : State) : Host.Outcome State Fault Refusal :=
  let s := s.silent
  let x := s.canOf c
  if !x.busOff ∨ !s.canEn c then .next s else
  .next ((s.setCan c { x with busOff := false, tec := 0, rec_ := 0 }).canJudge c t)

/-! ## Reception -/

def Can.buf (x : Can) (k : Nat) : RxBuf := Tab.get (fun _ => RxBuf.init) x.bufs k
def Can.setBuf (x : Can) (k : Nat) (b : RxBuf) : Can := { x with bufs := Tab.put (fun _ => RxBuf.init) x.bufs k b }

/-- The receive slot that accepts an identifier (R420). -/
def State.canMatch (s : State) (c : Nat) (f : CanFrame) : Option Nat :=
  (List.range 16).find? fun k =>
    let w := s.canSlot c k
    let i := s.word (K.CAN_ID c k)
    (decide (W.CAN_SLOT_KIND w = 1) || (decide (W.CAN_SLOT_KIND w = 2) && s.consumed (W.CAN_SLOT_REF w)))
      && decide (W.CAN_ID_IDE i = f.ide) && decide ((if f.ide then W.CAN_ID_ID i else W.CAN_ID_ID i % 2048) = f.id)

/-- The receive error counter after a frame received without error (ISO 11898-1): above 127 it takes a value from
119 to 127 that the standard leaves open (DESIGN CHOICE, log entry 2; PRESUMED, log entry 38). -/
def recGood (rec_ free : Nat) : Nat := if 127 < rec_ then 119 + free % 9 else rec_ - 1

/-- A frame for a host buffer (R421) (DEDUCED, log entry 52). -/
def State.bufTake (s : State) (c k : Nat) (f : CanFrame × BitVec 32) (t : Nat) : State :=
  let x := s.canOf c
  let b := x.buf k
  if b.lock.isSome then
    let ovr := b.shadow.isSome
    let s := s.setCan c (x.setBuf k { b with shadow := some f, ovr := b.ovr || ovr })
    if ovr then s.raise 0x0C09 c 0 t else s
  else s.setCan c (x.setBuf k { b with frame := some f, ovr := b.ovr || b.new, new := true })

/-- R418, R420, R421: a data frame arrives. -/
def execCanFrameReceive (c : Fin 2) (f : CanFrame) (stamp : BitVec 32) (t : Tick) (s : State) :
    Host.Outcome State Fault Refusal :=
  let s := s.silent
  if !s.canOn c || (f.fdf && !W.CAN_CTL_FD (s.canCtl c)) then .next s else
  let x := s.canOf c
  let s := if s.canRom c then s else
    ((s.setCan c { x with rec_ := recGood x.rec_ (Config.freeWord s.free).toNat }).drawn).canJudge c t
  match s.canMatch c f with
  | none => .next s
  | some k =>
    let w := s.canSlot c k
    if W.CAN_SLOT_KIND w = 1 then .next (s.bufTake c k (f, stamp) t)
    else if f.data.length = 24 then
      .next { s with net := { s.net with mail := Tab.put (fun _ => []) s.net.mail (W.CAN_SLOT_REF w) f.data } }
    else .next s

/-- A host buffer's lock ends (R421): NEW clears and a shadow becomes the content. -/
def RxBuf.release (b : RxBuf) : RxBuf :=
  match b.shadow with
  | some f => { frame := some f, new := true, ovr := false, lock := none, lockAt := 0, shadow := none }
  | none => { b with new := false, ovr := false, lock := none, lockAt := 0 }

/-- The buffer of a slot released where `hold` names the holder, or whoever holds it. -/
def State.bufRelease (s : State) (c k : Nat) (hold : Option Nat) : State :=
  let x := s.canOf c
  let b := x.buf k
  if b.lock.isSome ∧ (hold = none ∨ b.lock = hold) then s.setCan c (x.setBuf k b.release) else s

/-- Every buffer that a session has locked is released (R421) (DEDUCED, log entry 53). -/
def State.bufReleaseAll (s : State) (slot : Nat) : State :=
  [0, 1].foldl (fun (s : State) (c : Nat) =>
    (List.range 16).foldl (fun (s : State) (k : Nat) => s.bufRelease c k (some slot)) s) s

/-- R421: a lock has been held for 1 s. -/
def execCanRxLockTimeout (c : Fin 2) (k : Fin 16) (s : State) : Host.Outcome State Fault Refusal :=
  let s := s.silent
  .next (if ((s.canOf c).buf k).lockAt + 100000 ≤ s.mono then s.bufRelease c k none else s)

/-- A commit changed a word of an enabled controller (R426): it leaves the bus and starts again
(PRESUMED, log entry 38). -/
def State.canReset (s : State) (c : Nat) : State :=
  s.setCan c { s.canOf c with pend := [], bufs := [], tx := none, tried := [] }

end Sys2Proof.Machine
end

