-- ==== Sys2Proof/Machine/Hash.lean ====
section
/-! DEFINITION. The configuration hashes: TOPO_HASH (R28), SYS_CFGHASH (R399) and the pair's CFG_HASH (R363). -/

namespace Sys2Proof.Machine

/-- The words that each session holds for itself (R254, R284, R312, R421, R452): the selectors, and the window that
INK_WBASE places (DESIGN CHOICE, log entry 14; DEDUCED, log entry 53). -/
def sessionWord (k : Nat) : Bool :=
  decide (k ∈ [K.LOOP_SEL, K.SUP_SEL, K.FLT_RSEL, K.CAN_RXSEL, K.INK_WBASE]) || decide (0xDC0 ≤ k ∧ k ≤ 0xDFF)

/-- Offsets of the RW words of a page that are no session's own, ascending (DESIGN CHOICE, log entry 14). -/
def rwOffsets (page : Nat) : List Nat :=
  (List.range 256).filter fun o => match wordRow page o with
    | some r => decide (r.acc = Acc.rw) && !sessionWord (key page o)
    | none => false

/-- The RW words of a page in offset order; a window word of page 0x07 stands for its word of every slot, in slot
order, and the coefficients follow at their offsets 0x18–0x27 (R253, R399). A GEN word counts as written, not as the
live value that the loops may drive (DESIGN CHOICE, log entry 14). -/
def State.pageWords (s : State) (page : Nat) : List Word :=
  if page = 7 then
    (List.range 256).flatMap fun o =>
      if 0x10 ≤ o ∧ o ≤ 0x27 ∧ o ≠ 0x17 then (List.range 256).map fun n => s.word (slotKey n o)
      else if o ∈ rwOffsets 7 then [s.word (key 7 o)] else []
  else (rwOffsets page).map fun o => s.word (key page o)

/-- Numbers of the cell-record pages (R9). -/
def cellPages : List Nat := (List.range 96).map (· + 0x100)

/-- SYS_CFGHASH (R399) (DESIGN CHOICE, log entry 14). -/
def State.cfgHash (s : State) : Word :=
  crc32c ((((List.range 15).map (· + 1) ++ cellPages).flatMap s.pageWords).flatMap wordBytes)

/-- The replicated pages (R359). -/
def replicatedPages : List Nat := [1, 3, 5, 6, 7, 8, 9] ++ cellPages

/-- CFG_HASH of a partner frame: every replicated RW word and every loop coefficient, then PAIR_CTL (R363)
(DESIGN CHOICE, log entry 14). -/
def State.pairHash (s : State) : Word :=
  crc32c ((replicatedPages.flatMap s.pageWords ++ [s.word K.PAIR_CTL]).flatMap wordBytes)

/-- TOPO_HASH: offsets 0x10–0x5F of page 0x01, then word 0 of every cell record in CI order (R28). -/
def State.topoHash (s : State) : Word :=
  crc32c (((List.range 80).map (fun o => s.word (0x110 + o)) ++ (List.range 3072).map s.cellCfg).flatMap wordBytes)

end Sys2Proof.Machine
end

