-- ==== Sys2Proof/Machine/System.lean ====
section
/-! DEFINITION. The hardware monitor and the module's supply (R50–R53, R73, R74), the liveness signal (R348) and
the end of a give-up (R353), and the lockstep comparator (R401). -/

namespace Sys2Proof.Machine

/-- Code of a feed's loss event (R73). -/
def feedCode : Feed → Nat | .a => 0x00E1 | .b => 0x00E2

def State.setFeedLow (s : State) (f : Feed) (low : Bool) : State :=
  match f with
  | .a => { s with sys := { s.sys with feedALow := low } }
  | .b => { s with sys := { s.sys with feedBLow := low } }

/-- A 32-bit lifetime counter raised by one, held at its largest value (R310, R490) (DEDUCED, log entry 10). -/
def lifeInc (w : Word) : Word := if w = 0xFFFFFFFF then w else w + 1

/-- A lifetime counter changed with COUNTER_SAT when it has just reached its largest value. -/
def State.lifeCount (s : State) (get : Lifetime → Word) (put : Lifetime → Word → Lifetime) (off t : Nat) : State :=
  let l := s.jrnl.life
  let w := lifeInc (get l)
  let s := { s with jrnl := { s.jrnl with life := put l w } }
  if get l ≠ 0xFFFFFFFF ∧ w = 0xFFFFFFFF then s.raise 0x0907 0 (BitVec.ofNat 32 (0xFFFF * 65536 + off)) t else s

/-- R50: a feed stays below 17.0 V for 1 ms; the module goes on with the other. -/
def execFeedLossDetect (f : Feed) (t : Tick) (s : State) : Host.Outcome State Fault Refusal :=
  let s := s.silent
  if !s.sys.powered then .next s else
  let new := !s.isActive (feedCode f) 0
  let s := (s.setFeedLow f true).raise (feedCode f) 0 0 t
  if !new then .next s else
  match f with
  | .a => .next (s.lifeCount (·.feedALosses) (fun l w => { l with feedALosses := w }) 36 t)
  | .b => .next (s.lifeCount (·.feedBLosses) (fun l w => { l with feedBLosses := w }) 40 t)

/-- R73: a lost feed has stayed above 17.5 V for 100 ms (DESIGN CHOICE, log entry 6). -/
def execFeedRestoreTimer (f : Feed) (t : Tick) (s : State) : Host.Outcome State Fault Refusal :=
  let s := s.silent
  .next ((s.setFeedLow f false).clear (feedCode f) 0 t)

/-- R50: a feed stays above 33.0 V for 1 ms. -/
def execFeedHighDetect (t : Tick) (s : State) : Host.Outcome State Fault Refusal :=
  let s := s.silent
  .next (if s.sys.powered then s.raise 0x00E3 0 0 t else s)

/-- R73: both feeds have stayed below 32.5 V for 100 ms. -/
def execFeedHighClear (s : State) : Host.Outcome State Fault Refusal :=
  let s := s.silent
  .next (s.clear 0x00E3 0 0)

/-- R53: both feeds are lost: SUPPLY_LOST with its reaction, then the journal flush, with the safety outputs off
and the power-down begun (DEDUCED, log entry 49). Whether FEED_A_LOST or FEED_B_LOST is raised with it the spec does not
say: SUPPLY_LOST alone is, and no feed loss counts (DESIGN CHOICE, log entry 58). -/
def execSupplyLoss (t : Tick) (s : State) : Host.Outcome State Fault Refusal :=
  let s := s.silent
  if !s.sys.powered ∨ s.sys.stopping then .next s else
  let s := (s.raise 0x00E4 0 0 t).lifeCount (·.supplyLosses) (fun l w => { l with supplyLosses := w }) 32 t
  let s := { s with
    sys := { s.sys with stopping := true, feedALow := true, feedBLow := true }
    boot := { s.boot with cause := if s.boot.cause = 0 then 1 else s.boot.cause } }
  .next (s.safDrive s.islandMask t).flushJournal

/-- The owner's transaction ends with LEASE_EXPIRED, carrying its SID (R391) (DEDUCED, log entry 10). -/
def State.dropTxn (s : State) : State :=
  match s.cmd.txn with
  | none => s
  | some x =>
    let sid := x.gen * 8 + x.slot
    ({ s with cmd := { s.cmd with txn := none } }).raise 0x0002 0 (BitVec.ofNat 32 sid) 0

/-- R53: the power-down has ended: the module is stopped and starts afresh from BOOT (DEDUCED, log entry 49). -/
def execPowerDownComplete (s : State) : Host.Outcome State Fault Refusal :=
  let s := s.silent
  if !s.sys.stopping then .next s else .next s.dropTxn.copyEvents.fromBoot

/-- R74: the baseplate reading has exceeded 70 °C for 1 s. -/
def execBaseplateHotTimer (t : Tick) (s : State) : Host.Outcome State Fault Refusal :=
  let s := s.silent
  .next (if s.sys.powered then s.raise 0x00E5 0 0 t else s)

/-- R73: the reading has stayed below 68 °C for 1 s. -/
def execBaseplateHotClear (s : State) : Host.Outcome State Fault Refusal :=
  let s := s.silent
  .next (s.clear 0x00E5 0 0)

/-- R74: the baseplate reading has exceeded 80 °C for 1 s. -/
def execBaseplateOvertempTimer (t : Tick) (s : State) : Host.Outcome State Fault Refusal :=
  let s := s.silent
  if !s.sys.powered then .next s else
  let new := !s.isActive 0x00E6 0
  let s := s.raise 0x00E6 0 0 t
  .next (if new then s.lifeCount (·.overtemps) (fun l w => { l with overtemps := w }) 44 t else s)

/-- LIVE falls (R348): the claim and the light of the shared ports end with it (DEDUCED, log entry 23). -/
def State.liveFalls (s : State) : State :=
  { s with sys := { s.sys with live := false }, pair := { s.pair with tokOut := false, grant := false } }

/-- R74, R348: a rail stays out of tolerance; the collapse condition also drops LIVE of a pair side. -/
def execRailMonitorTrip (collapse : Bool) (t : Tick) (s : State) : Host.Outcome State Fault Refusal :=
  let s := s.silent
  if !s.sys.powered then .next s else
  let s := if collapse && s.pairSide then s.liveFalls else s
  .next (s.raise 0x00E7 0 0 t)

/-- The module restarts from BOOT after FW_ACTIVATE (R479) (DEDUCED, log entry 34). -/
def State.restart (s : State) : State := ({ s with boot := { s.boot with cause := 2 } }).bootStart

/-- R353: the 20 µs of heartbeat after a give-up have passed: LIVE falls. A restart that waited for it begins
(DEDUCED, log entry 23; DEDUCED, log entry 34). -/
def execGiveupEnd (s : State) : Host.Outcome State Fault Refusal :=
  let s := s.silent
  if !s.pairOps.giveUp then .next s
  else if s.cmd.restartDue then .next s.restart
  else
    let s := s.liveFalls
    .next { s with boot := { s.boot with cause := if s.boot.cause = 0 then 4 else s.boot.cause } }

/-- R348: loop 0 gives no output edge for 100 ns. -/
def execLoop0EdgeLoss (s : State) : Host.Outcome State Fault Refusal :=
  let s := s.silent
  .next s.liveFalls

/-- R401: the comparator finds the lockstep command cores disagreeing. -/
def execLockstepDisagree (t : Tick) (s : State) : Host.Outcome State Fault Refusal :=
  let s := s.silent
  .next (if s.sys.powered then s.raise 0x0005 0 0 t else s)

end Sys2Proof.Machine
end

