-- ==== Sys2Proof/Machine/Pages.lean ====
section
/-! DEFINITION. What every word of every page reads as (R5, R6, R385): the writable words from their one home, the
status words from the state they show, page by page. -/

namespace Sys2Proof.Machine

/-! ## Pages 0x00–0x04 -/

/-- Lease left, at 100 ms per LSB; it stands still while a commit is pending (R390, R400). -/
def State.leaseLeft (s : State) : Nat :=
  match s.cmd.txn with
  | none => 0
  | some x => (if x.due.isSome then x.leaseEnd else x.leaseEnd - s.mono) / 10000

/-- Page 0x00 (R399, R400) as session slot `i` reads it (DEDUCED, log entry 49). -/
def State.read00 (s : State) (i off : Nat) : Option Word :=
  match off with
  | 0x04 => some s.sysState
  | 0x05 => some s.sys.lastChg
  | 0x08 => some (at_ s.sys.baseT.toNat 0)
  | 0x09 => some (at_ s.sys.feedA.toNat 16 ||| at_ s.sys.feedB.toNat 0)
  | 0x0A => some (at_ (b2n s.sys.rejSat) 31 ||| at_ (maskOf 8 fun n => (s.sess n).isOpen) 8 ||| at_ i 0)
  | 0x0B => match s.cmd.txn with
    | none => some 0
    | some x => some (at_ 1 31 ||| at_ (b2n x.due.isSome) 30 ||| at_ (min 100 s.leaseLeft) 16
        ||| at_ (x.gen * 8 + x.slot) 0)
  | 0x0C => some s.sys.reject
  | 0x0D => some s.sys.uptime
  | 0x0E => some s.cfgHash
  | _ => none

/-- Page 0x01 (R28, R31, R32). -/
def State.read01 (s : State) (off : Nat) : Option Word :=
  if off = 0x01 then some s.topoHash
  else if off = 0x02 then
    some (at_ s.strings.length 20 ||| at_ ((List.range 16).filter s.stackEn).length 15 ||| at_ s.allCells.length 0)
  else if off = 0x03 then some s.cmd.topoStatus
  else if 0x60 ≤ off ∧ off < 0x70 then
    let k := off - 0x60
    some (at_ ((s.stackCells k).filter fun ci => (s.cell ci).bypClosed).length 20 ||| at_ (s.stackAdmitted k) 10
      ||| at_ (s.stackCells k).length 0)
  else none

/-- The read-only words of a cell record (R39). -/
def State.readCell (s : State) (ci w : Nat) : Option Word :=
  let c := s.cell ci
  match w with
  | 5 => some (at_ (b2n c.bypCmd) 17 ||| at_ (b2n c.bypClosed) 16 ||| at_ c.epoch 8 ||| at_ (s.svc ci).code 0)
  | 6 => some c.seen
  | 7 => some (at_ c.health.toNat 8 ||| at_ c.typ 0)
  | _ => none

/-- Page 0x02 (R98, R99). -/
def State.read02 (s : State) (off : Nat) : Option Word :=
  if off = 0x03 then
    some (at_ (b2n s.bond.chgSat) 31 ||| at_ (groupWidth s.bond.active) 16 ||| at_ s.bond.active 12
      ||| at_ s.bond.remote 8 ||| at_ s.bond.localMask 4)
  else if off = 0x04 then some s.bond.changes
  else if 0x54 ≤ off ∧ off < 0x98 then
    let l := s.lane (off - 0x54)
    some (at_ (b2n l.errSat) 31 ||| at_ (s.eqShown (off - 0x54)) 20 ||| at_ l.slip 15 ||| at_ l.state 8
      ||| at_ (b2n (s.decodeShown (off - 0x54))) 3
      ||| at_ (b2n l.sig) 2 ||| at_ (b2n l.cdr) 1 ||| at_ (b2n l.sync) 0)
  else if 0x98 ≤ off ∧ off < 0xDC then some (s.lane (off - 0x98)).err
  else none

/-- Page 0x03 (R142, R143). The words of the odd port of a ring read 0. -/
def State.read03 (s : State) (off : Nat) : Option Word :=
  if off = 0x04 then some 37500
  else if 0x10 ≤ off ∧ off < 0x50 then
    let p := off - 0x10
    let x := s.str p
    if s.basePort p ≠ p then some 0 else
    some (at_ (b2n x.errSat) 31 ||| at_ (b2n x.wrap) 30 ||| at_ x.brk 23 ||| at_ x.found 16 ||| at_ (s.slotsOf p) 9
      ||| at_ (b2n (s.configured p && (s.usedPorts p).any fun q => s.sends q && s.sendsMirror q)) 3 ||| at_ (b2n x.dual) 2
      ||| at_ x.rx 0)
  else if 0x50 ≤ off ∧ off < 0x90 then some (if s.basePort (off - 0x50) ≠ off - 0x50 then 0 else (s.str (off - 0x50)).err)
  else none

/-- A number as a word. -/
def natWord (n : Nat) : Word := BitVec.ofNat 32 n

/-- An integer as a signed word (R4). -/
def intWord (i : Int) : Word := BitVec.ofInt 32 i

/-- Page 0x04 (R158, R166, R167). -/
def State.read04 (s : State) (off : Nat) : Option Word :=
  let c := s.clk
  let snap := c.snapCyc.toNat
  match off with
  | 0x04 => some (at_ s.sourceUsed 24 ||| at_ c.tstate 0)
  | 0x05 => some (intWord (roundDiv c.offset 1000))
  | 0x06 => some (intWord (c.rate + c.steer))
  | 0x07 => some (intWord (roundDiv c.pend 100000))
  | 0x08 => some (intWord (if s.pairSide then c.pairTime else 0))
  | 0x09 => some (at_ c.utc.toNat 0)
  | 0x0B => some (natWord (snap / 100000 / 4294967296))
  | 0x0C => some (natWord (snap / 100000))
  | 0x0D => some (natWord (snap % 100000 * 10000))
  | 0x0F => some (natWord (snap / 4294967296))
  | 0x10 => some (natWord snap)
  | _ =>
    if 0x40 ≤ off ∧ off < 0x51 then
      let l := s.loopOf (off - 0x40)
      some (at_ l.perr.toNat 8 ||| at_ l.state 0)
    else none

/-! ## Pages 0x05–0x09 -/

/-- A GEN word reads back the live value (R198). -/
def State.genLive (s : State) (k w : Nat) : Word :=
  let g := (s.dstack k).live
  match w with
  | 0 => at_ g.period 0
  | 1 => at_ g.duty 16 ||| at_ (unsigned 16 g.phi) 0
  | _ => at_ g.d1 16 ||| at_ g.d2 0

/-- The GEN word at an offset of page 0x05: stack and word 0–2. -/
def genWord (off : Nat) : Option (Nat × Nat) :=
  if 0x10 ≤ off ∧ off < 0x90 ∧ 5 ≤ off % 8 then some ((off - 0x10) / 8, off % 8 - 5) else none

/-- STK_STAT (R202). -/
def State.stkStat (s : State) (k : Nat) : Word :=
  let d := s.dstack k
  let w := s.word (K.STK_MODE k)
  let st :=
    if W.STK_MODE_MODE w = 0 then 0 else if s.blocked.testBit k then 4
    else if d.run then (if W.STK_MODE_HOLD w then 3 else 2) else 1
  at_ (b2n d.dropSat) 31 ||| at_ (b2n d.strSat) 30 ||| at_ d.lastLoad 24 ||| at_ (b2n (decide (d.mask ≠ 0))) 23
    ||| at_ d.clamp 16 ||| at_ st 12 ||| at_ (if W.STK_MODE_MODE w = 1 then unsigned 12 d.level else 0) 0

/-- Page 0x05 (R198–R202). -/
def State.read05 (s : State) (off : Nat) : Option Word :=
  match genWord off with
  | some g => some (s.genLive g.1 g.2)
  | none =>
    if off = 0x02 then some (at_ s.look 16 ||| at_ (maskOf 16 fun k => (s.dstack k).run) 0)
    else if off = 0x03 then some s.duct.clampCap
    else if off = 0x04 then some s.duct.failCap
    else if 0x90 ≤ off ∧ off < 0xA0 then some (s.stkStat (off - 0x90))
    else if 0xA0 ≤ off ∧ off < 0xB0 then some (s.dstack (off - 0xA0)).drops
    else if 0xB0 ≤ off ∧ off < 0xC0 then some (s.dstack (off - 0xB0)).stretches
    else none

/-- Page 0x06 (R229, R230). -/
def State.read06 (s : State) (off : Nat) : Option Word :=
  if off = 0x02 then some (at_ s.sched.ranked 16 ||| at_ (min 4095 s.sched.sortMax) 0)
  else if off = 0x03 then some (at_ (b2n s.therm.misSat) 31 ||| s.word K.THERM_CTL)
  else if off = 0x04 then some s.therm.fail
  else if off = 0x05 then some s.therm.miscnt
  else if off = 0x07 then some (at_ s.sched.govLevel 16 ||| at_ s.sched.dieT.toNat 0)
  else if 0x50 ≤ off ∧ off < 0x60 then
    let x := s.schStack (off - 0x50)
    some (at_ x.hrMin 16 ||| at_ (min 15 x.pre) 12 ||| at_ x.hotCi 0)
  else if 0x60 ≤ off ∧ off < 0x70 then
    let x := s.schStack (off - 0x60)
    some (at_ x.spread1 16 ||| at_ x.spread2 0)
  else none

/-- SL_STAT (R258). -/
def slStat (l : LoopSt) : Word :=
  at_ l.cyc.toNat 16 ||| at_ (b2n l.closed) 7 ||| at_ (b2n l.susp) 6 ||| at_ (b2n l.sel) 5 ||| at_ (b2n l.sat) 4
    ||| at_ (b2n l.stale) 3 ||| at_ (b2n l.nonfin) 2 ||| at_ (b2n l.ramp) 1

/-- The window onto loop slot `n` (R253, R258). -/
def State.readSlot (s : State) (n off : Nat) : Option Word :=
  let l := s.slot n
  match off with
  | 0x17 => some (slStat l)
  | 0x28 => some (if !s.slotEn n then 0 else if l.sel then l.y else l.cand)
  | 0x29 => some l.r
  | 0x2A => some l.e
  | 0x2B => some l.I
  | 0x2C => some l.v
  | _ => if 0x10 ≤ off ∧ off < 0x28 then some (s.slotWord n off) else none

/-- Page 0x07 (R253–R258). -/
def State.read07 (s : State) (x : Sess) (off : Nat) : Option Word :=
  let shut (n : Nat) : Bool := (s.slot n).closed
  if off = 0x02 then some (at_ s.loops.ran 16 ||| at_ ((List.range 256).filter shut).length 0)
  else if off = 0x03 then some x.loopSel
  else if off = 0x04 then some s.cmd.loopCheck
  else if 0x08 ≤ off ∧ off < 0x10 then some (natWord (maskOf 32 fun n => shut (32 * (off - 8) + n)))
  else if 0x10 ≤ off ∧ off < 0x30 then s.readSlot x.loopSel.toNat off
  else if 0x40 ≤ off ∧ off < 0x50 then some (s.post (off - 0x40)).vEnd
  else none

/-- The wear record that a word of the window shows; none where the cell type lacks the switch (R288)
(DEDUCED, log entry 44). -/
def State.wearOf (s : State) (ci n : Nat) : Option Wear :=
  let w := (s.supSw (ci * 8 + n)).wear
  if n < s.switches ci ∧ w ≠ Wear.init then some w else none

/-- The window onto the cell that SUP_SEL names (R288). -/
def State.readWear (s : State) (ci off : Nat) : Word :=
  if off = 0xB8 then (s.supSw (ci * 8)).wear.ident else
  match s.wearOf ci (off % 8) with
  | none => 0
  | some w =>
    if off < 0xA8 then at_ w.curOn 28 ||| at_ w.curOff 24 ||| at_ w.ton 8 ||| at_ w.toff 0
    else if off < 0xB0 then at_ w.baseOn 28 ||| at_ w.baseOff 24 ||| at_ (b2n w.bonV) 23 ||| at_ (b2n w.boffV) 22
    else w.scCnt

/-- Page 0x08 (R284–R288). -/
def State.read08 (s : State) (x : Sess) (off : Nat) : Option Word :=
  if off = 0x02 then
    some (at_ (b2n s.sup.tagSat) 31 ||| at_ (b2n s.sup.scSat) 30 ||| at_ (min 65535 s.sup.steps) 0)
  else if off = 0x03 then some x.supSel
  else if off = 0x04 then some s.sup.scCap
  else if off = 0x05 then some s.sup.scTime
  else if off = 0x06 then some s.sup.tagErr
  else if off = 0x07 then some s.sup.scCount
  else if 0xA0 ≤ off ∧ off ≤ 0xB8 then some (s.readWear x.supSel.toNat off)
  else none

/-- Recovery source that FLT_RSEL names (R300, R313). -/
def rselSource (w : Word) : Nat := if W.FLT_RSEL_KIND w then 3072 + W.FLT_RSEL_INDEX w else W.FLT_RSEL_INDEX w

/-- Page 0x09 (R312, R313). -/
def State.read09 (s : State) (x : Sess) (off : Nat) : Option Word :=
  match off with
  | 0x02 => some (at_ (b2n s.evt.lostSat) 31 ||| at_ (s.evt.recs.filter fun r => r.2.locked).length 16
      ||| at_ s.blocked 0)
  | 0x03 => some s.evt.seq
  | 0x04 => some s.evt.lost
  | 0x05 => some s.evt.feInfo
  | 0x06 => some s.evt.feCyc
  | 0x07 => some s.evt.feTick
  | 0x08 => some s.evt.feDetail
  | 0x09 => some x.fltRsel
  | 0x0A => let r := s.recOf (rselSource x.fltRsel)
    some (at_ (b2n r.locked) 31 ||| at_ r.count 0)
  | _ => none

/-! ## Pages 0x0A–0x0F -/

/-- Bit j of the connection states for which either channel's view holds (R344). -/
def State.sflMask (s : State) (p : Sfl → Bool) : Nat :=
  maskOf 8 fun j => s.consumed j && (p (s.saf.chA.conn j) || p (s.saf.chB.conn j))

/-- The more restrictive of two function states: DEMAND, then LOCKED (R328, R344). -/
def worse (a b : Nat) : Nat := if a = fnDemand ∨ b = fnDemand then fnDemand else max a b

/-- Page 0x0A (R344). Where the channels differ, the word shows the more restrictive state (DEDUCED, log entry 46). -/
def State.read0A (s : State) (off : Nat) : Option Word :=
  let f := s.saf
  let a := f.chA
  let b := f.chB
  match off with
  | 0x03 => some (at_ f.island 24 ||| at_ (worse a.stb b.stb) 22 ||| at_ (worse a.spb b.spb) 20 ||| at_ f.energised 12
      ||| at_ (maskOf 8 fun n => s.inputDemanded a n || s.inputDemanded b n) 0)
  | 0x04 => some (at_ (a.discF ||| b.discF) 24 ||| at_ (a.testF ||| b.testF) 16 ||| at_ b.lineB 8 ||| at_ a.lineA 0)
  | 0x05 => some (at_ (b2n f.sovOk) 20 ||| at_ f.ovl 16 ||| at_ (a.lsOn ||| b.lsOn) 12 ||| at_ (a.hsOn ||| b.hsOn) 8)
  | 0x06 => some (at_ (s.sflMask fun x => x.latched) 16 ||| at_ (s.sflMask fun x => x.fault) 8
      ||| at_ (maskOf 8 fun j => (s.consumed j && (a.conn j).run && (b.conn j).run) || s.produced j) 0)
  | 0x07 => some (at_ (b2n f.fValid) 31 ||| at_ (b2n f.fB) 30 ||| at_ (b2n f.fA) 29 ||| at_ f.fInst 16
      ||| at_ f.fCode 0)
  | 0x08 => some a.crc
  | 0x09 => some b.crc
  | _ => none

/-- Codes of PAIR_STATUS.ROLE (R371). -/
def roleCode : Role → Nat
  | .single => 0 | .holder => 1 | .standby => 2 | .joining => 3 | .out => 4 | .wait => 5

/-- Reversions in the last 60 min: the stored stamps whose cycle lies within it (R368) (DEDUCED, log entry 56). -/
def State.reversions (s : State) : Nat :=
  (s.jrnl.stamps.filter fun c => decide ((s.cycle - c).toNat < 360000000)).length

/-- Page 0x0B (R370, R371). -/
def State.read0B (s : State) (off : Nat) : Option Word :=
  let p := s.pair
  let h := s.shadow
  match off with
  | 0x03 => some (at_ (b2n p.takSat) 31 ||| at_ (b2n p.hndSat) 30 ||| at_ (b2n p.misSat) 29 ||| at_ (roleCode p.role) 24
      ||| at_ (b2n p.ready) 23 ||| at_ (b2n p.pReady) 22 ||| at_ (b2n p.grant) 21 ||| at_ (b2n p.tokOut) 20
      ||| at_ (b2n p.tokIn) 19 ||| at_ (b2n p.quill) 18 ||| at_ (b2n p.lane) 17 ||| at_ p.shift 16
      ||| at_ (min 15 s.reversions) 12 ||| at_ (b2n p.revLock) 11)
  | 0x04 => some (at_ h.pMstate 24 ||| at_ h.pRole 21 ||| at_ (b2n h.topoEq) 20 ||| at_ (b2n h.cfgEq) 19)
  | 0x05 => some (at_ h.relayOff 16 ||| at_ (min 15 h.lag) 4 ||| at_ h.join 0)
  | 0x06 => some p.last
  | 0x07 => some p.takeovers
  | 0x08 => some p.handovers
  | 0x09 => some p.mismatch
  | 0x0A => some (at_ h.frameLen 16 ||| at_ (min 255 h.lost) 0)
  | _ => none

/-- PTP_STATUS.STATE of a port, with the states' meaning in IEEE 1588 (R423; PRESUMED, log entry 12). -/
def State.ptpState (s : State) (p : Nat) : Nat :=
  if !s.ptpOn p then 0 else if (s.ptpPort p).failed then 5
  else match s.net.best with
    | some b =>
      if b.1 = p then (if s.clk.srcUsed = p + 1 ∧ s.clk.tstate ≠ timeAcquire then 3 else 2)
      else if s.net.foreign.any fun f => decide (f.port = p) && s.qualifies p f.ann then 4 else 1
    | none => 1

/-- CAN_STAT (R425). No rule gives the block the recessive sequences one by one: while bus-off RECOV is a free
value of 0–128. -/
def State.canStat (s : State) (c : Nat) : Word :=
  let x := s.canOf c
  let st := if !s.canEn c ∨ s.canRom c then 3 else if x.busOff then 2 else if 127 < x.tec ∨ 127 < x.rec_ then 1 else 0
  at_ (min 255 x.tec) 24 ||| at_ (min 255 x.rec_) 16 ||| at_ x.lastSlot 12 ||| at_ st 10 ||| at_ (b2n x.cntSat) 9
    ||| at_ (if x.busOff then (Config.freeWord s.free).toNat % 129 else 0) 0

/-- The host buffer that CAN_RXSEL selects; none when the slot is no host buffer (R421, R425). -/
def State.rxBuf (s : State) (x : Sess) : Option RxBuf :=
  let c := b2n (W.CAN_RXSEL_CTRL x.canRxsel)
  let k := W.CAN_RXSEL_SLOT x.canRxsel
  if W.CAN_SLOT_KIND (s.canSlot c k) = 1 then some ((s.canOf c).buf k) else none

/-- The window onto a host buffer (R421, R425). -/
def State.readRx (s : State) (x : Sess) (off : Nat) : Word :=
  match s.rxBuf x with
  | none => 0
  | some b =>
    let flags := at_ (b2n b.new) 31 ||| at_ (b2n b.ovr) 30
    match b.frame with
    | none => if off = 0xA1 then flags else 0
    | some (f, stamp) =>
    if off = 0xA1 then flags ||| at_ (b2n f.ide) 29 ||| at_ f.id 0
    else if off = 0xA2 then
      at_ (b2n f.fdf) 15 ||| at_ (b2n f.brs) 14 ||| at_ (b2n f.esi) 13 ||| at_ f.data.length 0
    else if off = 0xA3 then stamp
    else natWord (beAt f.data (4 * (off - 0xA4)) 4)

/-- Page 0x0C (R422–R425). -/
def State.read0C (s : State) (x : Sess) (off : Nat) : Option Word :=
  let n := s.net
  let gm : Nat := match n.best with | some b => b.2.gm.toNat | none => 0
  match off with
  | 0x01 => some (at_ (b2n n.dropSat) 31 ||| at_ (b2n n.lateSat) 30 ||| at_ n.link 0)
  | 0x03 => some (at_ (s.ptpState 1) 28 ||| at_ (s.ptpState 0) 24 ||| (match n.best with
      | some b => at_ b.2.cls 8 ||| at_ (b.2.steps % 256) 0
      | none => 0))
  | 0x04 => some (natWord (gm / 4294967296))
  | 0x05 => some (natWord gm)
  | 0x06 => some (s.ptpPort 0).delay
  | 0x07 => some (s.ptpPort 1).delay
  | 0x09 => some n.drop
  | 0x0A => some n.late
  | 0xA0 => some x.canRxsel
  | _ =>
    if 0x30 ≤ off ∧ off < 0x40 ∧ off % 4 = 3 then
      let t := s.stream ((off - 0x30) / 4)
      some (at_ t.owner.toNat 16 ||| at_ (b2n t.run) 15)
    else if 0x40 ≤ off ∧ off < 0x60 then
      let c := (off - 0x40) / 16
      match off % 16 with
      | 4 => some (s.canStat c)
      | 5 => some (s.canOf c).ts
      | 6 => some (s.canOf c).txStamp
      | 7 => some (s.canOf c).cnt
      | _ => none
    else if 0xA1 ≤ off ∧ off < 0xB4 then some (s.readRx x off)
    else none

/-- Absolute row at which the capture in the ring begins (R446–R449). -/
def State.blotFirst (s : State) : Nat :=
  match s.ink.blot.trig with
  | some r => r.1 - s.blotPre
  | none => s.ink.blot.total - s.blotDepth

/-- Rows of the present capture. -/
def State.blotRows (s : State) : Nat := min s.blotDepth (s.ink.blot.total - s.blotFirst)

/-- ARB_STAT (R451). -/
def State.arbStat (s : State) (i : Nat) : Word :=
  let a := s.arb i
  at_ (b2n a.req) 31 ||| at_ (b2n (decide (s.ink.hold = some i))) 30 ||| at_ (b2n (s.eligible i)) 29
    ||| at_ (min 64 a.losses) 16 ||| at_ (min 64 a.est) 8 ||| at_ (s.tickets i) 4

/-- The 256 bytes that the window shows: a poisoned tile reads 0 (R452). -/
def State.winWord (s : State) (x : Sess) (n : Nat) : Word :=
  let a := x.inkBase.toNat + 4 * n
  if s.inkPoisoned (a / 128) then 0 else natWord (beAt (s.inkBytes a 4) 0 4)

/-- Page 0x0D (R450–R452). -/
def State.read0D (s : State) (x : Sess) (off : Nat) : Option Word :=
  let k := s.ink
  let b := k.blot
  let tcyc : Nat := match b.trig with | some r => r.2.toNat | none => 0
  match off with
  | 0x01 => some (at_ (b2n k.pcntSat) 31 ||| at_ (b2n k.cpcntSat) 30 ||| at_ (b2n k.dma.lostSat) 29
      ||| at_ (b2n b.lostSat) 28 ||| at_ (b2n (s.frozen && decide (k.hold = none ∨ k.hold = some 0))) 1
      ||| at_ (b2n s.frozen) 0)
  | 0x02 => some (at_ k.scrubInk 14 ||| at_ k.scrubCim 0)
  | 0x03 => some k.pcnt
  | 0x04 => some k.cpcnt
  | 0x05 => some k.first
  | 0x09 => some x.inkBase
  | 0x0A => some (natWord x.wstat)
  | 0x19 => some (at_ k.dma.wait 24 ||| (match k.dma.run with | some c => at_ 1 19 ||| at_ c.ch 16 | none => 0))
  | 0x1B => some k.dma.lost
  | 0x43 => some (at_ b.st 28 ||| at_ (b2n b.trig.isSome) 27 ||| at_ s.blotRows 0)
  | 0x44 => some (natWord (tcyc / 4294967296))
  | 0x45 => some (natWord tcyc)
  | 0x46 => some b.lost
  | _ =>
    if 0x10 ≤ off ∧ off < 0x18 then some (s.arbStat (off - 0x10))
    else if 0x20 ≤ off ∧ off < 0x40 ∧ off % 4 = 3 then
      let n := (off - 0x20) / 4
      some (at_ (s.cqHead n) 16 ||| at_ (W.DMA_CQP_TAIL (s.word (K.DMA_CQP n))) 0)
    else if 0xC0 ≤ off then some (s.winWord x (off - 0xC0))
    else none

/-- Page 0x0E (R466, R467). -/
def State.read0E (s : State) (off : Nat) : Option Word :=
  match off with
  | 0x02 => some (at_ (b2n s.ai.ovrSat) 31 ||| at_ (maskOf 4 fun k => (s.conv k).powered) 0)
  | 0x03 => some (at_ (maskOf 24 fun n => (s.aiRes n).ovr) 0)
  | 0x04 => some s.ai.ovrCnt
  | _ =>
    if 0x0C ≤ off ∧ off < 0x10 then
      let c := s.conv (off - 0x0C)
      some (at_ c.st 29 ||| at_ c.entry 24 ||| at_ (c.rem - 1) 16 ||| at_ c.wleft 0)
    else if 0x50 ≤ off ∧ off < 0x68 then some (aiResWord (s.aiRes (off - 0x50)))
    else none

/-- The operator key list in force, header and body: the one of the bank in force, while its OWNER digest is the active
OWNER_DIG (R486). -/
def State.keyList (s : State) : Option (List Byte) :=
  match s.jrnl.bank with
  | none => none
  | some b =>
    let l := if b = 0 then s.jrnl.bank0 else s.jrnl.bank1
    if Config.sha512 ((l.drop 4096).take 1984) = (s.genContent.drop 48).take 64 then some l else none

/-- The entries of a key list (R486). -/
def keyEntries (l : List Byte) : List (List Byte) :=
  (List.range (beAt l (4096 + 1984) 1)).map fun i => (l.drop (4096 + 1992 * (i + 1))).take 1992

/-- Page 0x0F (R492, R493). -/
def State.read0F (s : State) (off : Nat) : Option Word :=
  let ver (k : Nat) : Word := if s.slotValidFw k then imgVersion (s.fwSlot k).image else 0
  match off with
  | 0x01 => some (at_ (s.boot.active.getD 0) 24 ||| at_ (maskOf 6 fun g => (s.gen g).valid g) 18
      ||| at_ (maskOf 6 fun g => !(s.gen g).isBlank) 12 ||| at_ (b2n s.boot.fallback) 8 ||| at_ s.boot.run 0)
  | 0x02 => some (at_ s.boot.counter 8 ||| at_ (imgSvn (s.fwSlot s.boot.run).image) 0)
  | 0x03 => some (ver 0)
  | 0x04 => some (ver 1)
  | 0x05 => some (at_ (imgSvn s.boot.slot1.image) 24 ||| at_ (imgSvn s.boot.slot0.image) 16
      ||| at_ (b2n s.boot.loading) 3 ||| at_ (b2n s.boot.trial) 2 ||| at_ (b2n (s.slotValidFw 1)) 1
      ||| at_ (b2n (s.slotValidFw 0)) 0)
  | 0x06 => match s.keyList with
    | none => some 0
    | some l => some (at_ (beAt l 10 2) 16
        ||| at_ ((keyEntries l).filter fun e => (byteAt e 5).getLsbD 0).length 8 ||| at_ (beAt l 6080 1) 0)
  | 0x07 => some (at_ (b2n s.jrnl.errSat) 31 ||| at_ s.jrnl.events.length 0)
  | 0x08 => some s.jrnl.err
  | _ => none

/-! ## Every word -/

/-- The word at an offset of a page as session slot `i` reads it: a WO word and a reserved offset read 0 (R5, R6,
R385). -/
def State.readWord (s : State) (i page off : Nat) : Word :=
  let x := s.sess i
  match wordRow page off with
  | none => 0
  | some r =>
    if r.acc = .wo then 0 else
    let special :=
      match page with
      | 0 => s.read00 i off | 1 => s.read01 off | 2 => s.read02 off | 3 => s.read03 off | 4 => s.read04 off
      | 5 => s.read05 off | 6 => s.read06 off | 7 => s.read07 x off | 8 => s.read08 x off | 9 => s.read09 x off
      | 10 => s.read0A off | 11 => s.read0B off | 12 => s.read0C x off | 13 => s.read0D x off | 14 => s.read0E off
      | 15 => s.read0F off
      | p => s.readCell ((p - 0x100) * 32 + off / 8) (off % 8)
    special.getD (s.word (key page off))

end Sys2Proof.Machine
end

