-- ==== Sys2Proof/Machine/Checks.lean ====
section
/-! DEFINITION. What a write is checked for: the field rules of every page's table (R5, R6 and the field tables of the
chapters), word by word, and the commit checks of the chapters over the configuration as it would stand. -/

namespace Sys2Proof.Machine

/-! ## Status codes and refusals -/

/-- Status codes of R383. -/
def stOk : Nat := 0
def stAccepted : Nat := 1
def stBadOpcode : Nat := 0x0101
def stBadParam : Nat := 0x0102
def stBadPage : Nat := 0x0103
def stNotInState : Nat := 0x0201
def stLocked : Nat := 0x0202
def stLoopClosed : Nat := 0x0203
def stLanesActive : Nat := 0x0204
def stAuthFail : Nat := 0x0301
def stSigFail : Nat := 0x0302
def stBusy : Nat := 0x0401
def stNoSpace : Nat := 0x0402
def stOtpExhausted : Nat := 0x0501

/-- A refusal: its status and the page, word or byte, and check code that its DETAIL carries (R381). -/
structure Refuse where
  status : Nat
  page : Nat
  place : Nat
  check : Nat
deriving DecidableEq, Repr

/-- A refusal that names no page (DEDUCED, log entry 10). -/
def Refuse.at (status place : Nat) : Refuse := { status := status, page := 0xFFFF, place := place, check := 0 }

/-- The page that a key belongs to. -/
def keyPage (k : Nat) : Nat := if 0x200000 ≤ k then 13 else if 0x100000 ≤ k then 7 else k / 256

/-- Offset of a key's word in its page: a slot's words lie in the window of page 0x07 (DEDUCED, log entry 10). -/
def keyPlace (k : Nat) : Nat := if 0x100000 ≤ k ∧ k < 0x200000 then k % 64 else k % 256

/-- A refusal of a word (DEDUCED, log entry 10). -/
def Refuse.word (status k check : Nat) : Refuse :=
  { status := status, page := keyPage k, place := keyPlace k, check := check }

/-! ## Field rules -/

/-- `lo ≤ n ≤ hi`. -/
def inRange (lo hi n : Nat) : Bool := decide (lo ≤ n) && decide (n ≤ hi)

/-- A source word uses only the bits of its KIND, 0–5 (R237). -/
def sourceOk (w : Word) : Bool :=
  let used : Nat := match srcKind w with
    | 1 => 0x3FFFF | 2 => 0x1F | 3 => 0xFF | 4 => 0xFF | 5 => 0xF0F | _ => 0
  decide (srcKind w ≤ 5) && decide (mclr (srcIndex w) used = 0)

/-- Pages 0x00–0x04 (R29, R90, R97, R98, R142, R143, R166, R167, R400) (DEDUCED, log entry 29). -/
def fieldLow (page off : Nat) (w : Word) : Bool :=
  match page, off with
  | 0, 0x06 => inRange 5 255 (W.SYS_CTL_IDLE_TO w)
  | 0, 0x07 => inRange 1 3600 (W.SYS_PRE_TMO w)
  | 1, o => if inRange 0x10 0x4F o then decide (W.PORT_CFG_MODE w ≤ 3) && decide (W.PORT_CFG_CELLS w ≤ 96) else true
  | 2, 0x02 => decide (W.BOND_CTL_MIN_W w ≠ 3)
  | 2, 0xE0 => inRange 1 2 (W.LANE_CMD_CMD w) && decide (W.LANE_CMD_LANE w < 68)
  | 2, o =>
    if inRange 0x10 0x53 o then
      decide (W.LANE_CTL_ALIGN w ≠ 3) && decide (W.LANE_CTL_TEST w ≠ 3) && decide (W.LANE_CTL_RATE w ≠ 3)
        && !(W.LANE_CTL_EIDLE w && decide (W.LANE_CTL_LOOP w ≠ 0 ∨ W.LANE_CTL_TEST w ≠ 0))
        && (decide (o < 0x50) || decide (W.LANE_CTL_RATE w = 0))
    else true
  | 3, 0x01 => inRange 1250 12500 (W.LINK_TIMING_LEAD w)
  | 3, 0x02 => decide (W.LINK_LOSS_ADMIT_TMO w ≠ 0) && inRange 1 16 (W.LINK_LOSS_LOST_LIMIT w)
  | 3, 0x05 => inRange 1 2 (W.LINK_CMD_CMD w)
  | 4, 0x01 => decide (W.CLK_GLOBAL_COAST_MAX w ≠ 0) && decide (W.CLK_GLOBAL_PAIR_TOL w ≠ 0)
  | 4, 0x02 => inRange 1 100 (W.TIME_CTL_SLEW_MAX w)
  | 4, 0x03 => decide (W.TIME_SERVO_BW w ≤ 4)
  | 4, o =>
    if inRange 0x20 0x30 o then
      decide (W.CLK_LOOP_REF_MUL w ≤ (if o = 0x20 then 2 else 0)) && inRange 8 15 (W.CLK_LOOP_LOCKN w)
        && inRange 1 20 (W.CLK_LOOP_WIN w)
    else true
  | _, _ => true

/-- Pages 0x05–0x09 (R199, R200, R230–R232, R237, R255, R256, R285, R286, R313) (DEDUCED, log entry 29). -/
def fieldMid (page off : Nat) (w : Word) : Bool :=
  match page, off with
  | 5, 0x01 => decide (W.DUCT_CTL_SWAP_AT w ≤ 249) && inRange 2 4 (W.DUCT_CTL_LOOK w)
  | 5, o =>
    if inRange 0x10 0x8F o ∧ o % 8 = 0 then
      decide (W.STK_MODE_FB_CYC w ≠ 0) && decide (W.STK_MODE_LOAD w ≤ 1) && decide (W.STK_MODE_SRC w ≤ 1)
        && decide (W.STK_MODE_STAGGER w ≤ 2) && decide (W.STK_MODE_KIND w ≤ 2) && decide (W.STK_MODE_MODE w ≤ 3)
    else if inRange 0x10 0x8F o ∧ o % 8 = 4 then decide (W.STK_LIM_PHI_MAX w ≤ 0x4000)
    else true
  | 6, 0x01 => decide (W.SCHED_CTL_SW_WIN w ≠ 0)
  | 6, 0x03 => decide (W.THERM_CTL_JUMP_LIM w ≠ 0)
  | 6, 0x06 => decide (W.GOV_CTL_T_AMBER w < W.GOV_CTL_T_RED w) && decide (W.GOV_CTL_T_RED w ≤ 110)
  | 6, o =>
    if inRange 0x10 0x4F o then
      match o % 4 with
      | 0 => decide (W.SCH_MODE_PRE_MAX w ≠ 0) && decide (W.SCH_MODE_ISRC w ≤ 24)
      | 2 => decide (W.SCH_BAL_SWAP_MAX w ≤ 256)
      | 3 => decide (W.SCH_PRE_PRE_TOL w ≠ 0) && decide (W.SCH_PRE_IFLOOR w ≠ 0)
      | _ => true
    else true
  | 7, 0x01 => decide (W.LOOP_CTL_STALE_LIM w ≠ 0)
  | 7, 0x16 => decide (W.SL_OUT_DEST w ≤ 6)
  | 7, o => if inRange 0x11 0x15 o then sourceOk w else if 0x80 ≤ o then fFinite w else true
  | 8, 0x01 => decide (W.SUP_CTL_TAG_LIM w ≠ 0) && decide (W.SUP_CTL_WEAR_PER w ≠ 0)
  | 8, o =>
    if inRange 0x10 0x8F o ∧ o % 8 = 0 then decide (W.SUP_BLK_BLANK w ≠ 0)
    else if inRange 0x10 0x8F o ∧ o % 8 = 4 then decide (2 ≤ W.SUP_LIM_SC_MULTI w)
    else true
  | 9, 0x01 =>
    decide (W.FLT_CTL_LIMIT w ≠ 0) && decide (W.FLT_CTL_QUIET w ≠ 0) && decide (W.FLT_CTL_WINDOW w ≠ 0)
  | 9, 0x09 => decide (W.FLT_RSEL_INDEX w < if W.FLT_RSEL_KIND w then 16 else 3072)
  | _, _ => true

/-- A CAN word (R425) (DEDUCED, log entry 29). -/
def fieldCan (off : Nat) (w : Word) : Bool :=
  if inRange 0x40 0x5F off then
    match off % 16 with
    | 1 => inRange 1 32 (W.CAN_NBT_PRESC w) && decide (W.CAN_NBT_TSEG1 w ≠ 0) && inRange 1 127 (W.CAN_NBT_TSEG2 w)
        && inRange 1 (W.CAN_NBT_TSEG2 w) (W.CAN_NBT_SJW w)
    | 2 => inRange 1 32 (W.CAN_DBT_PRESC w) && inRange 1 31 (W.CAN_DBT_TSEG1 w) && inRange 1 15 (W.CAN_DBT_TSEG2 w)
        && inRange 1 (W.CAN_DBT_TSEG2 w) (W.CAN_DBT_SJW w)
    | 3 => inRange 10 8191 (W.CAN_MATRIX_BC_LEN w) && decide (W.CAN_MATRIX_MC w ≤ 6)
    | _ => true
  else if inRange 0x60 0x9F off then
    if off % 2 = 0 then decide (W.CAN_SLOT_KIND w ≠ 3) || decide (W.CAN_SLOT_REF w ≤ 3)
    else W.CAN_ID_IDE w || decide (W.CAN_ID_ID w < 2048)
  else true

/-- PORT_CFG of the network: TAG not on the service port, VID as TAG asks (R423) (DEDUCED, log entry 29). -/
def fieldPort (i : Nat) (w : Word) : Bool :=
  if W.NPORT_CFG_TAG w then decide (i ≠ 2) && inRange 1 4094 (W.NPORT_CFG_VID w) else decide (W.NPORT_CFG_VID w = 0)

/-- Pages 0x0A–0x0F (R343, R371, R423–R425, R438, R451, R467) (DEDUCED, log entry 29). -/
def fieldHigh (page off : Nat) (w : Word) : Bool :=
  match page, off with
  | 10, 0x01 =>
    decide (W.SAF_CTL_SO_TP_PER w ≠ 0) && decide (W.SAF_CTL_IN_TP_PER w ≠ 0) && decide (W.SAF_CTL_TP_W w ≤ 9)
  | 10, o =>
    if inRange 0x10 0x17 o then inRange 10 2000 (W.SI_CFG_DISC w)
    else if inRange 0x20 0x2F o ∧ o % 2 = 1 then decide (W.SFL_CFG_MEDIUM w ≠ 3) && inRange 5 1000 (W.SFL_CFG_TEXP w)
    else true
  | 11, 0x02 => inRange 10 3600 (W.PAIR_CTL_HOLDOFF w)
  | 12, 0x02 => decide (W.PTP_CTL_DOMAIN w ≤ 127)
  | 12, 0x08 => decide (W.NET_LAUNCH_SFL_PHASE w ≤ 900) && decide (W.NET_LAUNCH_LATE_TOL w ≠ 0)
  | 12, o =>
    if inRange 0x10 0x1B o ∧ o % 4 = 2 then fieldPort ((o - 0x10) / 4) w
    else if inRange 0x30 0x3F o ∧ o % 4 = 0 then
      inRange 1 8 (W.STRM_CTL_BATCH w) && inRange 1 12 (W.STRM_CTL_COUNT w) && inRange 43750 62499 (W.STRM_CTL_PHASE w)
    else if inRange 0xC0 0xEF o then sourceOk w
    else fieldCan o w
  | 13, 0x06 => decide (W.ARB_CTL_SEED w ≠ 0)
  | 13, 0x07 => decide (W.ARB_TKT_T0 w ≠ 0) && decide (W.ARB_TKT_T1 w ≠ 0) && decide (W.ARB_TKT_T3 w ≠ 0)
  | 13, 0x08 => decide (W.ARB_CMD_CMD w = 1) && inRange 1 6 (W.ARB_CMD_REQ w)
  | 13, 0x09 => decide (inkRegion (W.INK_WBASE_BASE w * 256) ≠ 2)
  | 13, 0x18 => decide (W.DMA_CTL_CHAIN_MAX w ≠ 0)
  | 13, 0x1A => inRange 1 2 (W.DMA_CMD_CMD w) && decide (4 ≤ W.DMA_CMD_CH w)
  | 13, 0x40 => inRange 1 64 (W.BLOT_CTL_N w)
  | 13, 0x42 => fFinite w
  | 13, o =>
    if inRange 0x20 0x3F o then
      decide (0x30 ≤ o)
        && (decide (o % 4 ≠ 1) || (decide (W.DMA_CFG_TKT w ≠ 0) && decide (W.DMA_CFG_CQ_LOG w ≤ 8)))
    else if inRange 0x80 0xBF o then sourceOk w
    else true
  | 14, 0x10 => decide (W.ADC_URG_CH w ≤ 23)
  | _, _ => true

/-- R5, R6, R387: the word may be written and every bit set is one that a write may set and holds a value its table
allows. `none` for a reserved word written 0, which has no effect (DEDUCED, log entry 29). -/
def wordOk (page off : Nat) (w : Word) : Option WordRow × Bool :=
  match wordRow page off with
  | none => (none, decide (w = 0))
  | some r =>
    (some r, decide (r.acc ≠ .ro) && decide (r.acc ≠ .otp) && decide (mclr w.toNat r.mask = 0)
      && (if page < 5 then fieldLow page off w else if page < 10 then fieldMid page off w
          else if page < 16 then fieldHigh page off w else true))

/-! ## Checks over the configuration as it would stand

`v` is the state with the new words in force; `s` the state as it is. -/

/-- First of a list that fails, with the check's code (DEDUCED, log entry 29). -/
def firstBad (chk : Nat) (l : List Nat) (bad : Nat → Bool) : Option (Nat × Nat) := (l.find? bad).map fun i => (chk, i)

/-- The first word of a list of checks that fails, by its key. -/
def badKey (l : List (Nat × Bool)) : Option Nat := (l.find? fun (x : Nat × Bool) => x.2).map (·.1)

/-- The first of several checks that fails. -/
def orElse (l : List (Option (Nat × Nat))) : Option (Nat × Nat) := l.findSome? id

/-- R34: check code and index of the first failure. The line rates are those in force (R19). -/
def State.topoCheck (v : State) : Option (Nat × Nat) :=
  let ports := List.range 64
  let mode (p : Nat) : Nat := W.PORT_CFG_MODE (v.portCfg p)
  let cells (p : Nat) : Nat := W.PORT_CFG_CELLS (v.portCfg p)
  let stks := List.range 16
  let dab (ci : Nat) : Bool := decide (v.stackType (v.stackOf ci) = 3)
  let nom (ci : Nat) : Word := v.word (K.CELL ci 2)
  let cap (ci : Nat) : Word := v.word (K.CELL ci 3)
  orElse [
    firstBad 1 ports fun p => decide (p % 2 = 1) && (decide (mode p = 2)
      || (decide (mode (p - 1) = 2) && decide (v.portCfg p ≠ 0))),
    firstBad 2 ports fun p => decide ((mode p ≠ 0 ∧ cells p = 0) ∨ (mode p = 0 ∧ cells p ≠ 0)),
    firstBad 3 ports fun p => decide (mode p ≠ 0) && ((v.usedPorts p).any (fun q =>
      decide (cellLimit (mode p) (v.rateOf q) < cells p) || decide (v.rateOf q ≠ v.rateOf (v.ratePort p)))),
    firstBad 4 ports fun p => decide (mode p ≠ 0) && !v.stackEn (W.PORT_CFG_STACK (v.portCfg p)),
    firstBad 5 stks fun k => v.stackEn k && (decide (v.stackType k = 0) || decide (v.stackStrings k = [])
      || decide (512 < (v.stackCells k).length)),
    firstBad 6 stks fun k => W.STACK_CFG_OUT_PAR (v.word (K.STACK_CFG k)) && decide (v.stackType k ≠ 3),
    firstBad 7 ports fun p => v.pairSide && decide (mode p = 1),
    (firstBad 8 (List.range 3072) fun ci => v.enabled ci && !v.occupied ci).map fun x => (x.1, x.2 / 32),
    (firstBad 9 (List.range 3072) fun ci =>
      (v.occupied ci && !dab ci && decide (W.CELL_NOM_VNOM2 (nom ci) ≠ 0 ∨ W.CELL_CAP_C2 (cap ci) ≠ 0))
        || (v.enabled ci && decide (W.CELL_NOM_VNOM1 (nom ci) = 0 ∨ W.CELL_CAP_C1 (cap ci) = 0))
        || (v.enabled ci && dab ci && decide (W.CELL_NOM_VNOM2 (nom ci) = 0 ∨ W.CELL_CAP_C2 (cap ci) = 0))).map
      fun x => (x.1, x.2 / 32)]

/-- Legs of a stack's cells (R13). -/
def State.legs (v : State) (k : Nat) : Nat := legCount (v.stackType k)

/-- R201: the word for which stack `k` with MODE ≠ 0 is refused. -/
def State.ductCheck (v : State) (k : Nat) : Option Nat :=
  let w := v.word (K.STK_MODE k)
  let m := W.STK_MODE_MODE w
  let a := v.word (K.STK_DT01 k)
  let b := v.word (K.STK_DT23 k)
  let dts := [W.STK_DT01_DT0 a, W.STK_DT01_DT1 a, W.STK_DT23_DT2 b, W.STK_DT23_DT3 b].take (v.legs k)
  let on := decide (m ≠ 0)
  badKey [
    (K.STK_MODE k, on && (!v.stackEn k || (decide (m ≤ 2) && decide (v.stackType k = 3))
      || (decide (m = 3) && decide (v.stackType k ≠ 3)) || (W.STK_MODE_HOLD w && decide (m ≠ 1)))),
    (K.STK_DT01 k, on && (dts.take 2).any (fun d => decide (d = 0))),
    (K.STK_DT23 k, on && (dts.drop 2).any (fun d => decide (d = 0))),
    (K.STK_PULSE k, on && decide (62500 < 16 * dts.foldl max 0 + W.STK_PULSE_MINP (v.word (K.STK_PULSE k)) * 8))]

/-- `lo ≤ w ≤ hi` for finite binary32 values, the bounds given in binary32. -/
def fWithin (lo hi w : Word) : Bool := fLe lo w && fLe w hi

/-- R233: a word of a thermal set that an enabled stack names breaks its range. -/
def State.thermWordBad (v : State) (j i : Nat) : Bool :=
  let z := v.word (K.TH_R1 j + i)
  if i ∈ [0, 1, 2, 3, 8, 9, 10, 11] then fLt z 0
  else if i ∈ [4, 5, 6, 7] then !fWithin 0x3727C5AC 0x447A0000 z
  else if i = 12 then !fWithin 0 0x40800000 z
  else if i = 13 then !inRange 500 2000 (W.TH_LIMIT_TJMAX z)
    || decide (W.TH_LIMIT_HR_SOFT z ≤ W.TH_LIMIT_HR_WARN z) || decide (W.TH_LIMIT_HR_SOFT z = 0)
  else false

/-- R233: the word that fails. -/
def State.thermCheck (v : State) : Option Nat :=
  let stks := (List.range 16).filter v.stackEn
  let all := (List.range 8).flatMap fun j => (List.range 15).map fun i =>
    (K.TH_R1 j + i, decide (i ≠ 13) && !fFinite (v.word (K.TH_R1 j + i)))
  let set (j : Nat) : List (Nat × Bool) := (List.range 14).map fun i => (K.TH_R1 j + i, v.thermWordBad j i)
  let of (k : Nat) : List (Nat × Bool) :=
    let w := v.word (K.SCH_MODE k)
    let llk := K.TH_LLK (W.SCH_MODE_TSET_LO w)
    set (W.SCH_MODE_TSET_LO w) ++ set (W.SCH_MODE_TSET_HI w)
      ++ [(K.SCH_MODE k, decide (v.stackType k = 3) && decide (W.SCH_MODE_ISRC w = 0)),
        (llk, decide (v.stackType k = 3) && !fWithin 0x33D6BF95 0x3C23D70A (v.word llk))]
  badKey (all ++ stks.flatMap of)

/-- Points that a cell type lacks (R22). -/
def pointLacks (typ n : Nat) : Bool :=
  let sw := if typ = 1 then 2 else if typ = 2 then 4 else 8
  let t := if typ = 1 then 1 else if typ = 2 then 2 else 4
  decide (n < 8 ∧ sw ≤ n) || decide (8 ≤ n ∧ n < 16 ∧ sw ≤ n - 8) || decide (27 ≤ n ∧ n < 35 ∧ sw ≤ n - 27)
    || decide (19 ≤ n ∧ n < 23 ∧ t ≤ n - 19) || (decide (typ ≠ 3) && decide (n = 17 ∨ n = 37 ∨ n = 38))

/-- A source fails check 1 of R259. -/
def State.sourceBad (v : State) (w : Word) : Bool :=
  let i := srcIndex w
  match srcKind w with
  | 0 => false
  | 1 =>
    let ci := i / 64
    decide (40 ≤ i % 64) || decide (3072 ≤ ci) || !v.occupied ci || !v.enabled ci
      || pointLacks (v.stackType (v.stackOf ci)) (i % 64)
  | 2 => decide (24 ≤ i)
  | 3 => decide (128 ≤ i)
  | 4 => !v.slotEn i
  | _ => !v.stackEn (i % 16) || decide (6 < i / 256)

/-- A destination is barred for a stack's mode (R246). -/
def destBarred (dest mode : Nat) : Bool :=
  match dest with
  | 1 => decide (mode = 3) | 2 => decide (mode = 1) | 3 => decide (mode ≠ 3) | 4 => decide (mode = 1)
  | 5 => decide (mode ≠ 3) | 6 => decide (mode ≠ 3) | _ => false

/-- R259: check code and slot of the first failure over the enabled slots. -/
def State.loopCheckOf (v : State) : Option (Nat × Nat) :=
  let on := (List.range 256).filter v.slotEn
  let members (n : Nat) : List Nat := on.filter fun m => decide (v.slotGroup m = v.slotGroup n)
  let div (n : Nat) : Nat := W.SL_CFG_DIV (v.slotWord n 0x10)
  let grouped (n : Nat) : Bool := decide (v.slotGroup n ≠ 0)
  let mode (n : Nat) : Nat := W.STK_MODE_MODE (v.word (K.STK_MODE (v.slotStack n)))
  orElse [
    firstBad 1 on fun n => (v.slotSources n).any v.sourceBad,
    firstBad 2 on fun n => grouped n &&
      (let m := members n
       let lo := (m.head?).getD 0
       decide (m.length < 2) || decide (m ≠ (List.range m.length).map (· + lo))
         || m.any (fun x => decide (x / 16 ≠ lo / 16) || decide (div x ≠ div lo))),
    firstBad 3 on fun n =>
      (grouped n && decide (v.slotDest n ≠ 0) && decide ((members n).getLast? ≠ some n))
        || (W.SL_OUT_PRE_SUB (v.slotWord n 0x16) && decide (v.slotDest n ≠ 1)),
    firstBad 4 on fun n => decide (v.slotDest n ≠ 0) && (!v.stackEn (v.slotStack n) || decide (mode n = 0)
      || destBarred (v.slotDest n) (mode n)
      || (decide (2 ≤ v.slotDest n) && decide (W.STK_MODE_SRC (v.word (K.STK_MODE (v.slotStack n))) = 0))),
    firstBad 5 on fun n => decide (v.slotDest n ≠ 0) && on.any fun m =>
      decide (m ≠ n) && decide (v.slotDest m = v.slotDest n) && decide (v.slotStack m = v.slotStack n)]

/-- R287: the word for which stack `k` is refused. -/
def State.supCheck (v : State) (k : Nat) : Option Nat :=
  let c := v.word (K.SUP_CODE k)
  let lo := W.SUP_CODE_CODE_MIN c
  let hi := W.SUP_CODE_CODE_MAX c
  let a := v.word (K.SUP_TGT01 k)
  let b := v.word (K.SUP_TGT23 k)
  let bad (w : Word) : Bool := decide (254 ≤ field w 15 8) || decide (254 ≤ field w 7 0)
  badKey [
    (K.SUP_CODE k, decide (hi < lo) || !inRange lo hi (W.SUP_CODE_INIT_ON c) || !inRange lo hi (W.SUP_CODE_INIT_OFF c)),
    (K.SUP_TGT01 k, bad a || (decide (v.legs k = 0) && decide (a ≠ 0))),
    (K.SUP_TGT23 k, bad b || (decide (v.legs k ≤ 2) && decide (b ≠ 0)))]

/-- R314: the word for which the whole configuration is refused. -/
def State.limitCheck (v : State) : Option Nat :=
  let lim (ci : Nat) : Word := v.word (K.CELL ci 4)
  let vm (k : Nat) : Word := v.word (K.STK_VMAX k)
  let lacking : List (Nat × Bool) := v.allCells.map fun ci =>
    let k := v.stackOf ci
    (K.STK_VMAX k, v.stackEn k && (decide (field (lim ci) 31 16 = 0 ∧ field (vm k) 31 16 = 0)
        || (decide (v.stackType k = 3) && decide (field (lim ci) 15 0 = 0 ∧ field (vm k) 15 0 = 0))))
  let extra (k : Nat) : List (Nat × Bool) :=
    if v.stackType k = 3 then []
    else (K.STK_VMAX k, decide (field (vm k) 15 0 ≠ 0))
      :: ((v.stackStrings k).flatMap v.stringCells).map fun ci => (K.CELL ci 4, decide (field (lim ci) 15 0 ≠ 0))
  let prot (j : Nat) : List (Nat × Bool) :=
    let c := v.word (K.PROT_CFG j)
    let l := v.word (K.PROT_LIM j)
    [(K.PROT_CFG j, W.PROT_CFG_EN c && (decide (24 ≤ W.PROT_CFG_AI c) || decide (W.PROT_CFG_PERSIST c = 0)
        || (!W.PROT_CFG_MODULE c && (decide (W.PROT_CFG_MASK c = 0)
          || (List.range 16).any fun k => (W.PROT_CFG_MASK c).testBit k && !v.stackEn k)))),
      (K.PROT_LIM j, W.PROT_CFG_EN c && decide (signed 16 (field l 31 16) < signed 16 (field l 15 0)))]
  badKey (lacking ++ (List.range 16).flatMap extra ++ (List.range 16).flatMap prot)

/-- R342, R343: the word that fails. -/
def State.safCheck (v : State) : Option Nat :=
  let js := List.range 8
  let en (j : Nat) : Bool := W.SFL_CFG_EN (v.sflCfg j)
  let id (j : Nat) : Word := v.word (K.SFL_ID j)
  let dir (j : Nat) : Bool := W.SFL_CFG_DIR (v.sflCfg j)
  let conn (j : Nat) : List (Nat × Bool) :=
    [(K.SFL_CFG j, en j && dir j && (W.SFL_CFG_SPB (v.sflCfg j) || W.SFL_CFG_STB (v.sflCfg j))),
      (K.SFL_ID j, en j && (decide (id j = 0)
        || js.any fun i => decide (i ≠ j) && en i && decide (id i = id j) && (dir i == dir j)))]
  badKey ((K.SAF_PCRC, decide (v.word K.SAF_PCRC ≠ crcSafe (safKeys.flatMap fun k => wordBytes (v.word k))))
    :: js.flatMap conn
    ++ [K.SPB_CFG, K.STB_CFG].map fun k =>
      (k, (List.range 16).any fun n => (field (v.word k) 15 0).testBit n && !v.stackEn n))

/-- Windows of a transmit slot that share a controller: the slots' occupied spans, in cycles from the start of the
basic cycle (R416). -/
def canSpan (w : Word) : Nat × Nat := (W.CAN_SLOT_START w, W.CAN_SLOT_START w + (W.CAN_SLOT_LEN w + 1) * 25)

/-- Two windows fall in a common basic cycle: their matrix indices agree modulo the smaller repeat (R416). -/
def canMeet (a b : Word) : Bool :=
  let r := 2 ^ min (W.CAN_SLOT_REPEAT a) (W.CAN_SLOT_REPEAT b)
  decide (W.CAN_SLOT_BASE a % r = W.CAN_SLOT_BASE b % r)
    && decide ((canSpan a).1 < (canSpan b).2) && decide ((canSpan b).1 < (canSpan a).2)

/-- Whether connection `j` is carried out of the block by a slot: a produced connection's slot transmits. -/
def State.slotSends (v : State) (w : Word) : Bool :=
  decide (W.CAN_SLOT_KIND w = 3)
    || (decide (W.CAN_SLOT_KIND w = 2) && W.SFL_CFG_DIR (v.sflCfg (W.CAN_SLOT_REF w)))

/-- Bit rate test: 50 MHz over PRESC × (1 + TSEG1 + TSEG2) lies in `lo`–`hi` kbit/s (R425). -/
def rateIn (div lo hi : Nat) : Bool := decide (lo * div ≤ 50000) && decide (50000 ≤ hi * div)

/-- Checks 2–7 of R426 for controller `c`. -/
def State.canCheck (v : State) (c : Nat) : Option Nat :=
  let n := v.word (K.CAN_NBT c)
  let d := v.word (K.CAN_DBT c)
  let nd := W.CAN_NBT_PRESC n * (1 + W.CAN_NBT_TSEG1 n + W.CAN_NBT_TSEG2 n)
  let dd := W.CAN_DBT_PRESC d * (1 + W.CAN_DBT_TSEG1 d + W.CAN_DBT_TSEG2 d)
  let m := v.word (K.CAN_MATRIX c)
  let w (k : Nat) : Word := v.canSlot c k
  let ks := List.range 16
  let sends := ks.filter fun k => v.slotSends (w k)
  let recv := ks.filter fun k => decide (W.CAN_SLOT_KIND (w k) ≠ 0) && !v.slotSends (w k)
  let idOf (k : Nat) : Word := v.word (K.CAN_ID c k)
  let named (j : Nat) : Nat := (ks.filter fun k => decide (W.CAN_SLOT_KIND (w k) = 2 ∧ W.CAN_SLOT_REF (w k) = j)).length
  let bad2 := !rateIn nd 125 1000 || !rateIn dd 500 5000 || decide (nd < dd)
    || decide (W.CAN_NBT_TSEG2 n < W.CAN_NBT_SJW n) || decide (W.CAN_DBT_TSEG2 d < W.CAN_DBT_SJW d)
    || (!W.CAN_DBT_TDC d && decide (dd < 50))
  let bad3 := sends.any fun k => decide (W.CAN_MATRIX_BC_LEN m < (canSpan (w k)).2)
    || decide (2 ^ W.CAN_SLOT_REPEAT (w k) ≤ W.CAN_SLOT_BASE (w k)) || decide (W.CAN_MATRIX_MC m < W.CAN_SLOT_REPEAT (w k))
  let bad4 := sends.any fun k => !W.CAN_SLOT_WIN (w k) && sends.any fun i => decide (i ≠ k) && canMeet (w k) (w i)
  let bad5 := recv.any fun k => decide (field (w k) 26 0 ≠ 0)
    || recv.any fun i => decide (i ≠ k) && decide (W.CAN_ID_ID (idOf i) = W.CAN_ID_ID (idOf k))
      && (W.CAN_ID_IDE (idOf i) == W.CAN_ID_IDE (idOf k))
  let bad6 := (List.range 8).any (fun j => W.SFL_CFG_EN (v.sflCfg j)
      && decide (W.SFL_CFG_MEDIUM (v.sflCfg j) = c + 1) && decide (named j ≠ 1))
    || ks.any fun k => decide (W.CAN_SLOT_KIND (w k) = 2)
      && (decide (W.SFL_CFG_MEDIUM (v.sflCfg (W.CAN_SLOT_REF (w k))) ≠ c + 1)
        || (v.slotSends (w k) && !W.CAN_ID_FDF (idOf k)))
  let bad7 := ks.any fun k => decide (W.CAN_SLOT_KIND (w k) = 3) && !W.STRM_CTL_EN (v.strmCtl (W.CAN_SLOT_REF (w k)))
  [(2, bad2), (3, bad3), (4, bad4), (5, bad5), (6, bad6), (7, bad7)].findSome? fun (x : Nat × Bool) =>
    if x.2 then some x.1 else none

/-- Check 1 of R426: the service port's prefix overlaps that of a station port, or an enabled port's PREFIX lies outside
8–30. A port is enabled while its address is not 0. -/
def State.netAddrBad (v : State) : Bool :=
  let ip (i : Nat) : Nat := (v.portIp i).toNat
  let pre (i : Nat) : Nat := W.NPORT_CFG_PREFIX (v.word (K.NPORT_CFG i))
  let ovr (i : Nat) : Bool := decide (ip i ≠ 0) && decide (ip 2 ≠ 0)
    && decide (ip i / 2 ^ (32 - min (pre i) (pre 2)) = ip 2 / 2 ^ (32 - min (pre i) (pre 2)))
  ovr 0 || ovr 1 || [0, 1, 2].any fun i => decide (ip i ≠ 0) && !inRange 8 30 (pre i)

/-- R426: the check that fails. -/
def State.netCheck (v : State) : Option Nat :=
  let bad8 := (List.range 4).any fun j => W.STRM_CTL_EN (v.strmCtl j)
    && ((v.strmSrcs j).any v.sourceBad || decide (W.STRM_UDP_PORTS (v.word (K.STRM_UDP j)) = 0)
      || decide (W.STRM_UDP_PORT (v.word (K.STRM_UDP j)) = 0))
  let bad9 := (List.range 8).any fun j => W.SFL_CFG_EN (v.sflCfg j) && decide (W.SFL_CFG_MEDIUM (v.sflCfg j) = 0)
    && decide (field (v.word (K.SFL_PATH j)) 1 0 = 0 ∨ v.word (K.SFL_ADDR j) = 0)
  if v.netAddrBad then some 1 else match v.canCheck 0 with
    | some x => some x
    | none => match v.canCheck 1 with
      | some x => some x
      | none => if bad8 then some 8 else if bad9 then some 9 else none

/-- R452, for the channels whose queue words are among the keys: the word that fails. -/
def State.inkCheck (v : State) (ks : List Nat) : Option Nat :=
  let w := v.word K.BLOT_TRIG
  let n := W.BLOT_CTL_N (v.word K.BLOT_CTL)
  let ring (c : Nat) : Bool :=
    let size := v.cqSize c * 16
    let a := W.DMA_CQ_BASE (v.word (K.DMA_CQ c)) * 128
    decide (K.DMA_CFG c ∈ ks ∨ K.DMA_CQ c ∈ ks)
      && (decide (a % size ≠ 0) || decide (a < 0x1800000) || decide (0x2000000 < a + size))
  badKey ((List.range n).map (fun i => (K.BLOT_SRC i, v.sourceBad (v.word (K.BLOT_SRC i))))
    ++ [(K.BLOT_TRIG, (decide (W.BLOT_TRIG_KIND w = 1) && decide (n ≤ W.BLOT_TRIG_TCH w))
      || (decide (W.BLOT_TRIG_KIND w = 3) && !inRange 1 5 (W.BLOT_TRIG_CODE w % 8)))]
    ++ (List.range 8).map fun c => (K.DMA_CQ c, ring c))

/-- R468: the word that fails. -/
def State.aiCheck (v : State) : Option Nat :=
  let c (k : Nat) : Word := v.word (K.ADC_CTL k)
  let conv (k : Nat) : List (Nat × Bool) :=
    (K.ADC_CTL k, !inRange 1 32 (W.ADC_CTL_LEN (c k)) || decide (19 < W.ADC_CTL_URG_SLOT (c k))
        || decide (23 < W.ADC_CTL_URG_CH (c k))
        || (List.range 4).any fun i => decide (i ≠ k) && W.ADC_CTL_URG_EN (c k) && W.ADC_CTL_URG_EN (c i)
          && decide (W.ADC_CTL_URG_SLOT (c k) = W.ADC_CTL_URG_SLOT (c i)
            ∧ W.ADC_CTL_URG_DIV (c k) = W.ADC_CTL_URG_DIV (c i) ∧ W.ADC_CTL_URG_CH (c k) = W.ADC_CTL_URG_CH (c i)))
      :: (List.range (min 32 (W.ADC_CTL_LEN (c k)))).map fun e =>
        (K.ADC_TAB k e, decide (23 < W.ADC_TAB_CH (v.word (K.ADC_TAB k e))))
  let input (n : Nat) : List (Nat × Bool) :=
    [(K.AI_SCALE n, !fFinite (v.word (K.AI_SCALE n)) || fIsZero (v.word (K.AI_SCALE n))),
      (K.AI_OFFS n, !fFinite (v.word (K.AI_OFFS n)))]
  badKey ((List.range 4).flatMap conv ++ (List.range 24).flatMap input)

end Sys2Proof.Machine
end

