-- ==== Sys2Proof/Machine/Effects.lean ====
section
/-! DEFINITION. What a word does at the moment it takes effect (R8): the words of the next cycle, the immediate ones,
and the words of a commit (R33–R35, R268, R272, R132, R341, R342, R346, R405, R412, R426,
R459, R491). -/

namespace Sys2Proof.Machine

/-! ## Words that act when written -/

/-- A string's count of nibs starts afresh: FOUND reads 0 until its first stroke returns, and SLOTS is CELLS (R118). -/
def State.foundReset (s : State) (b : Nat) : State := s.setStr b { s.str b with found := 0, foundRx := none }

/-- A lane's state under a new LANE_CTL (R83–R90, R97): a dark lane is off, a loopback or test pattern shows LOOP, and a
change of RATE, ALIGN or EN restarts acquisition. A lane that has had signal and comes out of a loopback or test pattern
without any reports it then (R100; DEDUCED, log entry 35). -/
def State.laneRestate (s : State) (i : Nat) (old w : Word) : State :=
  let l := s.lane i
  let was := W.LANE_CTL_EN old
  let loops (x : Word) : Bool := decide (W.LANE_CTL_LOOP x ≠ 0 ∨ W.LANE_CTL_TEST x ≠ 0)
  if !W.LANE_CTL_EN w then
    (s.setLane i { l with
      state := 0, sig := false, cdr := false, sync := false, decodeOk := false, sweeping := false, hadSig := false,
      idle := false, leaving := false }).dropLocal i 0
  else if loops w then
    (s.setLane i { l with state := 6, sync := false, decodeOk := false, sweeping := false }).dropLocal i 0
  else if !was ∨ loops old ∨ W.LANE_CTL_RATE old ≠ W.LANE_CTL_RATE w ∨ W.LANE_CTL_ALIGN old ≠ W.LANE_CTL_ALIGN w then
    let s := s.setLane i { l with
      sync := false, hadSig := l.hadSig && was, eqUsed := if was then l.eqUsed else W.LANE_CTL_EQ w }
    let s := (s.startAcquire i true 0).dropLocal i 0
    if loops old ∧ was ∧ l.hadSig ∧ !l.sig ∧ s.lossReported i then s.raise 0x0201 i 0 0 else s
  else s

/-- LANE_CTL takes effect (R83–R90, R97, R118) (DEDUCED, log entry 35). -/
def State.laneApply (s : State) (i : Nat) (w : Word) : State :=
  let old := s.laneCtl i
  let was := s.txMode i
  let s := s.setWord (K.LANE_CTL i) w
  let s := s.laneRestate i old w
  let s := if i < 64 ∧ !W.LANE_CTL_EN old ∧ W.LANE_CTL_EN w then s.foundReset (s.basePort i) else s
  if s.txMode i = was then s else s.emit (.txMode i (s.txMode i))

/-- BOND_CTL takes effect (R91–R94) (DEDUCED, log entry 35). With EN 0 BOND_STATUS.REMOTE reads 0 until the next valid marker,
which the spec leaves open (DESIGN CHOICE, log entry 58). -/
def State.bondApply (s : State) (w : Word) : State :=
  let was := W.BOND_CTL_EN (s.word K.BOND_CTL)
  let s := s.setWord K.BOND_CTL w
  let b := s.bond
  if !W.BOND_CTL_EN w then
    (({ s with bond := { b with remote := 0, active := 0, prop := none, limit := 4 } }).clear 0x0207 0 0).clear 0x0208 0 0
  else { s with bond := { b with
    limit := if !was || W.BOND_CTL_UPGRADE w then 4 else if b.active = 0 then b.limit else groupWidth b.active } }

/-- A W1C word: VALID is cleared where a 1 is written, and the capture is armed again (R6). -/
def State.w1c (s : State) (k : Nat) (w : Word) : State :=
  let off (x : Word) : Word := if bit w 31 then x &&& 0x7FFFFFFF else x
  if k = K.DUCT_CLAMP then { s with duct := { s.duct with clampCap := off s.duct.clampCap } }
  else if k = K.DUCT_FAIL then { s with duct := { s.duct with failCap := off s.duct.failCap } }
  else if k = K.THERM_FAIL then { s with therm := { s.therm with fail := off s.therm.fail } }
  else if k = K.SC_CAPTURE then { s with sup := { s.sup with scCap := off s.sup.scCap } }
  else if k = K.FE_INFO then
    { s with evt := { s.evt with feInfo := off s.evt.feInfo, feValid := s.evt.feValid && !bit w 31 } }
  else if k = K.SAF_FAULT then
    { s with saf := { s.saf with fValid := s.saf.fValid && !bit w 31, fOpen := s.saf.fOpen && !bit w 31 } }
  else if k = K.INK_FIRST then { s with ink := { s.ink with first := off s.ink.first } }
  else s

/-- ARB_CTL takes effect (R435, R437). -/
def State.arbCtl (s : State) (w : Word) : State :=
  let s := { s with ink := { s.ink with
    lfsr := BitVec.ofNat 16 (W.ARB_CTL_SEED w), freezeAt := if s.frozen then s.ink.freezeAt else s.mono } }
  let s := s.setWord K.ARB_CTL w
  if W.ARB_CTL_FREEZE w then s else s.clear 0x0D05 0 0

/-- ARB_TKT takes effect: a waiting requester put to 0 tickets loses its count and its estimate (R437). -/
def State.arbTkt (s : State) (w : Word) : State :=
  let s := s.setWord K.ARB_TKT w
  (List.range 7).foldl (fun (s : State) (i : Nat) =>
    if s.tickets i = 0 then s.setArb i { s.arb i with losses := 0, est := 0 } else s) s

/-- ARB_CMD: the holder's transfer stops; it keeps its request with LOSSES = 1 (R437). -/
def State.arbRevoke (s : State) (i : Nat) : State :=
  if s.ink.hold = some i then
    (({ s with ink := { s.ink with hold := none } }).setArb i { s.arb i with req := true, losses := 1 })
  else s

/-- DMA_CMD start: the channel waits, and the engine starts it when it is free (R438). -/
def State.dmaStart (s : State) (ch : Nat) : State :=
  let s := s.setDma { s.ink.dma with wait := mset s.ink.dma.wait ch true }
  if s.ink.dma.run.isNone then s.dmaBegin ch else s

/-- DMA_CMD cancel (R445). -/
def State.dmaCancel (s : State) (ch : Nat) : State :=
  let d := s.ink.dma
  let d := { d with wait := mset d.wait ch false }
  s.setDma (match d.run with
    | some c => if c.ch = ch then { d with run := some { c with cancel := true } } else d
    | none => d)

/-- LANE_CMD: a bit slip, or the error count cleared, ahead of the counts of the present cycle (R84, R99, R311). -/
def State.laneCmd (s : State) (i cmd : Nat) : State :=
  let l := s.lane i
  if cmd = 1 then s.setLane i { l with slip := (l.slip + 1) % 20 } 
  else s.setLane i { l with err := BitVec.ofNat 32 (if l.incAt = s.mono then l.incs else 0), errSat := false }

/-- LINK_CMD: /LBK/ out of the end of the string that this module uses, where it is lit (R16, R102, R144). -/
def State.sendLbk (s : State) (b pos cmd : Nat) : State :=
  match (s.usedPorts b).find? s.sends with
  | some q => s.emit (.ordered q (.lbk (BitVec.ofNat 8 pos) (if cmd = 1 then 1 else 0)))
  | none => s

/-- A word that takes effect outside a commit: immediately or at the start of a cycle (R8). The session's own words
and the CLK_LOOP words are handled with their requests. -/
def State.applyWord (s : State) (k : Nat) (w : Word) (t : Nat) : State :=
  if K.LANE_CTL 0 ≤ k ∧ k < K.LANE_STAT 0 then s.laneApply (k - K.LANE_CTL 0) w
  else if k = K.BOND_CTL then s.bondApply w
  else if k = K.LANE_CMD then s.laneCmd (W.LANE_CMD_LANE w) (W.LANE_CMD_CMD w)
  else if k = K.LINK_CMD then
    s.sendLbk (W.LINK_CMD_PORT w) (W.LINK_CMD_POS w) (W.LINK_CMD_CMD w)
  else if k = K.TIME_CTL then ((s.setWord k w).timeSrcSet).ptpSelect t
  else if k = K.TIME_SNAP then (if bit w 0 then { s with clk := { s.clk with snapReq := true } } else s)
  else if k = K.ARB_CTL then s.arbCtl w
  else if k = K.ARB_TKT then s.arbTkt w
  else if k = K.ARB_CMD then s.arbRevoke (W.ARB_CMD_REQ w)
  else if k = K.DMA_CMD then
    (if W.DMA_CMD_CMD w = 1 then s.dmaStart (W.DMA_CMD_CH w) else s.dmaCancel (W.DMA_CMD_CH w))
  else if k = K.BLOT_CMD then (if bit w 0 then s.blotTrigger s.blotRow t else s)
  else if k = K.ADC_URG then s.setConv (W.ADC_URG_ADC w) { s.conv (W.ADC_URG_ADC w) with host := some (W.ADC_URG_CH w) }
  else if k = K.DUCT_LOADALL then s
  else match wordRow (k / 256) (k % 256) with
    | some r => if r.acc = .w1c then s.w1c k w else s.setWord k w
    | none => s.setWord k w

/-! ## Words that a session holds for itself -/

/-- A session's own word takes effect (R254, R284, R312, R421, R452): a change of CAN_RXSEL releases the locks that the
session holds (DEDUCED, log entry 53). -/
def State.applySess (s : State) (i k : Nat) (w : Word) : State :=
  let x := s.sess i
  if k = K.LOOP_SEL then s.setSess i { x with loopSel := w }
  else if k = K.SUP_SEL then s.setSess i { x with supSel := w }
  else if k = K.FLT_RSEL then s.setSess i { x with fltRsel := w }
  else if k = K.INK_WBASE then s.setSess i { x with inkBase := w }
  else if k = K.CAN_RXSEL then
    let s := if x.canRxsel = w then s else s.bufReleaseAll i
    s.setSess i { s.sess i with canRxsel := w }
  else s

/-- Key of a word of the Inkwell that a window word is bound to when the packet is accepted. -/
def winKey (a : Nat) : Nat := 0x200000 + a / 4

/-! ## A commit -/

/-- The value a staged list holds for a word, or the word in force. -/
def State.stagedWord (s : State) (l : List (Nat × Word)) (k : Nat) : Word :=
  match l.find? fun p => p.1 = k with | some p => p.2 | none => s.word k

/-- Every staged word in force, as the configuration would stand. A GEN word and a load-all mask take effect through
Ductus, and a W1C bit clears. -/
def State.withWords (s : State) (l : List (Nat × Word)) : State :=
  l.foldl (fun (s : State) p => if p.1 = K.DUCT_LOADALL ∨ sessionWord p.1 ∨ 0x200000 ≤ p.1 then s else s.setWord p.1 p.2) s

/-- Cells that a changed topology word affects (R35), under the old and the new strings. -/
def State.topoCells (s : State) (k : Nat) : List Nat :=
  if K.PORT_CFG 0 ≤ k ∧ k < K.STACK_CFG 0 then s.stringCells (s.basePort (k - K.PORT_CFG 0))
  else if K.STACK_CFG 0 ≤ k ∧ k < K.STACK_INFO 0 then (s.stackStrings (k - K.STACK_CFG 0)).flatMap s.stringCells
  else if 0x10000 ≤ k ∧ k < 0x16000 ∧ k % 8 < 4 then [(k - 0x10000) / 8]
  else []

/-- A topology word or a word 0–3 of a cell record (R33). -/
def topoWord (k : Nat) : Bool :=
  decide (K.PORT_CFG 0 ≤ k ∧ k < K.STACK_INFO 0) || decide (0x10000 ≤ k ∧ k < 0x16000 ∧ k % 8 < 4)

/-- The admission of a cell is withdrawn: it returns to FOUND or MISSING, from RETIRED too, and an admission under way ends
(R35, R40). -/
def State.withdraw (s : State) (ci : Nat) : State :=
  let m := s.mg ci
  let busy := decide (m.step ≠ 0)
  let s := if busy then s.opEnd m.op 2 0x0201 else s
  let s := s.setCell ci { s.cell ci with retired := false }
  if s.admitted ci ∨ busy then
    (if (s.cell ci).adm = .none then s.setMg ci { m with step := 0, op := 0 } else s.backToFound ci)
  else s

/-- A string whose PORT_CFG word has changed is configured afresh: FOUND and its enumerated count start anew (R118, R140,
R143). -/
def State.stringFresh (s : State) (b : Nat) : State :=
  let s := s.foundReset b
  s.setStr b { s.str b with enumCount := none, wrap := false, brk := 0, shortRun := 0, wholeRun := 0 }

/-- The topology words of a commit (R35, R42, R43, R272). `o` is the state before it. -/
def State.commitTopo (s o : State) (ks : List Nat) : State :=
  let changed := ks.filter fun k => topoWord k && decide (s.word k ≠ o.word k)
  let cells := (changed.flatMap fun k => o.topoCells k ++ s.topoCells k).eraseDups
  let s := cells.foldl (fun (s : State) (ci : Nat) => s.withdraw ci) s
  let ports := (changed.filter fun k => decide (K.PORT_CFG 0 ≤ k ∧ k < K.STACK_CFG 0)).map fun k => s.basePort (k - K.PORT_CFG 0)
  let s := ports.eraseDups.foldl State.stringFresh s
  -- the stroke of this cycle already carries BLOCK where no cell is expected (R118)
  let s := if changed = [] then s else s.strings.foldl (fun (s : State) (b : Nat) =>
    ((s.blockedOf b).filter fun ci => decide (ci ∈ cells)).foldl (fun (s : State) (ci : Nat) =>
      s.buildBlocked (W.PORT_CFG_STACK (s.portCfg b)) (s.mono + s.look) ci []) s) s
  changed.foldl (fun (s : State) (k : Nat) =>
    if k < 0x10000 then
      (s.evt.active.filter fun e => decide (e.code = 0x0104) && s.occupied e.inst && s.enabled e.inst).foldl
        (fun (s : State) (e : ActEv) => s.clear 0x0104 e.inst 0) s
    else
      let ci := (k - 0x10000) / 8
      let s := if k % 8 = 0 ∧ !o.enabled ci ∧ s.enabled ci then
          let s := s.setCell ci { s.cell ci with adm := .none, fresh := false, noSlot := 0 }
          (s.wearEnable ci).clear 0x0104 ci 0
        else s
      if k % 8 = 1 ∧ s.word k = 0 then s.clear 0x0103 ci 0 else s) s

/-- Both SAFETY copies after a commit of page 0x0A: the older one is overwritten (R491). -/
def State.storeSafety (s : State) : State :=
  let seq := s.jrnl.safety.foldl (fun (m : Nat) (c : SafCopy) => max m c.seq.toNat) 0 + 1
  let words := safKeys.map s.word
  let pcrc := s.word K.SAF_PCRC
  let sq := natWord seq
  let c : SafCopy := { seq := sq, pcrc := pcrc, words := words,
                       crc := crc32c (wordBytes sq ++ wordBytes pcrc ++ words.flatMap wordBytes) }
  let l := s.jrnl.safety
  { s with jrnl := { s.jrnl with safety := keepLast 1 l ++ [c] } }

/-- A commit of page 0x0A: the set is stored, and the functions lock (R342, R491). -/
def State.commitSafety (s : State) : State :=
  let pcrc := s.word K.SAF_PCRC
  let s := s.storeSafety.safLock
  { s with saf := { s.saf with chA := { s.saf.chA with crc := pcrc }, chB := { s.saf.chB with crc := pcrc } } }

/-- Membership reports for the group of connection `j` on the ports of its path (R402, R410). -/
def State.joinGroup (s : State) (j : Nat) : State :=
  let g := s.word (K.SFL_ADDR j)
  if j ∈ s.netConns ∧ multicast g then
    ([0, 1].filter fun p => (W.SFL_PATH_PORTS (s.word (K.SFL_PATH j))).testBit p).foldl
      (fun (s : State) (p : Nat) => if s.portIp p = 0 then s else s.sendNet p 4 (.igmp g)) s
  else s

/-- The network and CAN words of a commit (R405, R410, R412, R426). -/
def State.commitNet (s o : State) (ks : List Nat) (owner : BitVec 16) : State :=
  let new (k : Nat) : Bool := decide (k ∈ ks) && decide (s.word k ≠ o.word k)
  let s := [0, 1, 2].foldl (fun (s : State) (p : Nat) =>
    if new (K.PORT_IP p) || new (K.PORT_GW p) || new (K.NPORT_CFG p) then
      let s := (List.range 8).foldl (fun (s : State) (i : Nat) =>
        if (s.sess i).isOpen ∧ (s.sess i).port = p then s.setSess i { s.sess i with closing := true } else s) s
      if new (K.PORT_IP p) then s.announceIp p else s
    else s) s
  let s := [0, 1].foldl (fun (s : State) (c : Nat) =>
    if o.canEn c ∧ (new (K.CAN_CTL c) || new (K.CAN_NBT c) || new (K.CAN_DBT c) || new (K.CAN_MATRIX c)) then s.canReset c
    else s) s
  let s := (List.range 8).foldl (fun (s : State) (j : Nat) =>
    if new (K.SFL_ADDR j) || new (K.SFL_PATH j) || new (K.SFL_CFG j) then s.joinGroup j else s) s
  let s := (List.range 4).foldl (fun (s : State) (j : Nat) =>
    if K.STRM_CTL j ∈ ks then s.streamCommit j owner else s) s
  if K.PTP_CTL ∈ ks then s.ptpSelect 0 else s

/-- PAIR_CTL.EN changes (R346, R350): a new pair side waits for its role, and a former one is a single module. -/
def State.commitPair (s o : State) : State :=
  if !o.pairSide && s.pairSide then
    { s with
      pair := { s.pair with role := .wait, ready := false, tokOut := false, grant := false, shift := 0 }
      shadow := { Shadow.reset with waitAt := s.mono } }
  else if o.pairSide && !s.pairSide then
    let p := s.pair
    { s with
      pair := { Pair.reset with
        revLock := p.revLock, last := p.last, takeovers := p.takeovers, takSat := p.takSat, handovers := p.handovers,
        hndSat := p.hndSat, mismatch := p.mismatch, misSat := p.misSat }
      shadow := Shadow.reset, pairOps := PairOps.reset }
  else s

/-- The staged words take effect together at their boundary (R8, R389, R390). -/
def State.commitWords (s : State) (l : List (Nat × Word)) (slot : Nat) (owner : BitVec 16) : State :=
  let ks := l.map (·.1)
  let o := s
  let lane (k : Nat) : Bool := decide (K.LANE_CTL 0 ≤ k ∧ k < K.LANE_STAT 0 ∨ k = K.BOND_CTL)
  let acts (k : Nat) : Bool :=
    lane k || decide (k ∈ [K.TIME_CTL, K.ARB_CTL, K.ARB_TKT])
  let s := l.foldl (fun (s : State) (p : Nat × Word) =>
    if acts p.1 then s.applyWord p.1 p.2 0
    else if K.CLK_LOOP 0 ≤ p.1 ∧ p.1 < K.CLK_STAT 0 then
      (s.setWord p.1 (p.2 &&& 0x7FFFFFFF)).restartLoops (p.1 - K.CLK_LOOP 0) (bit p.2 31) 0
    else if p.1 = K.DUCT_LOADALL then s
    else if sessionWord p.1 then s.applySess slot p.1 p.2
    else if 0x200000 ≤ p.1 then s.inkWrite ((p.1 - 0x200000) * 4) (wordBytes p.2)
    else s.setWord p.1 p.2) s
  let s := s.commitTopo o ks
  let s := if ks.any (fun k => decide (k / 256 = 10)) then s.commitSafety else s
  let s := s.commitNet o ks owner
  let s := (List.range 16).foldl (fun (s : State) (k : Nat) =>
    if K.SUP_TGT01 k ∈ ks ∨ K.SUP_TGT23 k ∈ ks ∨ K.SUP_CODE k ∈ ks then s.supCommit k else s) s
  let s := (List.range 4).foldl (fun (s : State) (k : Nat) =>
    if K.ADC_CTL k ∈ ks ∨ ks.any (fun x => decide (K.ADC_TAB k 0 ≤ x ∧ x < K.ADC_TAB k 32)) then s.adcRestart k else s) s
  let slots := ks.any fun k => decide (0x100000 ≤ k ∧ k < 0x200000)
  let s := if slots || ks.any fun k => decide (keyPage k = 5 ∨ keyPage k = 1) then
      { s with cmd := { s.cmd with loopCheck := if slots then 1 else s.cmd.loopCheck &&& 1 } }
    else s
  let s := if ks.any topoWord then { s with cmd := { s.cmd with topoStatus := 1 } } else s
  let s := if K.PAIR_CTL ∈ ks then s.commitPair o else s
  s.strings.foldl (fun (s : State) (b : Nat) => s.mirrorJudge b 0) s

/-- What a pending commit prepares at its acceptance for the targets that Ductus builds before the boundary: the
fall-back base of a stack that gets a MODE, the load-all mask, and the GEN words with the boundary as their target
(R172, R187, R188). -/
def State.commitAhead (s : State) (l : List (Nat × Word)) (due : Nat) : State :=
  l.foldl (fun (s : State) (p : Nat × Word) =>
    let k := (p.1 - K.STK_MODE 0) / 8
    if p.1 = K.DUCT_LOADALL then
      (List.range 16).foldl (fun (s : State) (n : Nat) =>
        if (W.DUCT_LOADALL_MASK p.2).testBit n ∧ W.STK_MODE_MODE (s.stagedWord l (K.STK_MODE n)) ≠ 0 then
          s.setDstack n { s.dstack n with loadAll := some due }
        else s) s
    else if K.STK_MODE 0 ≤ p.1 ∧ p.1 < K.STK_STAT 0 then
      match (p.1 - K.STK_MODE 0) % 8 with
      | 0 =>
        if W.STK_MODE_MODE (s.word p.1) = 0 ∧ W.STK_MODE_MODE p.2 ≠ 0 then s.setDstack k { s.dstack k with fbBase := due }
        else s
      | 5 => s.stageGen k 0 p.2 due
      | 6 => s.stageGen k 1 p.2 due
      | 7 => s.stageGen k 2 p.2 due
      | _ => s
    else s) s

end Sys2Proof.Machine
end

