-- ==== Sys2Proof/Machine/Requests.lean ====
section
/-! DEFINITION. Sessions and the packet layer: the handshake (R376, R377), protected records (R375), a session's end
(R378), the packet and its reply (R379–R382), and the common path of every request, with the reply that waits for a
boundary or for the partner's acknowledgement (R359). -/

namespace Sys2Proof.Machine

/-! ## Packets out -/

/-- The session's end (R378): its locks, its lease and its requests go with it; the generation stays
(DEDUCED, log entry 53). -/
def State.closeSess (s : State) (i : Nat) : State :=
  if !(s.sess i).isOpen then s else
  let s := s.bufReleaseAll i
  let s := match s.cmd.txn with
    | some x => if x.slot = i ∧ x.gen = (s.sess i).gen ∧ x.due.isNone then s.dropTxn else s
    | none => s
  let s := s.setSess i { Sess.init with gen := (s.sess i).gen }
  { s with pairOps := { s.pairOps with unacked := s.pairOps.unacked.filter fun u => decide (u.1 ≠ i) } }

/-- A protected record to a session, out of the port and to the address of its last request (R375, R404); the session
closes when its counter would pass 2⁶⁴ − 1. -/
def State.sendPacket (s : State) (i : Nat) (b : List Byte) : State :=
  let x := s.sess i
  if 2 ^ 64 ≤ x.txCtr then s.closeSess i
  else (s.setSess i { x with txCtr := x.txCtr + 1 }).sendUdp x.port 4 x.ip 51400 x.sport
    (protectRec x.keyOut 2 2 (s.sidOf i).toNat x.txCtr b)

/-- A reply packet (R379). -/
def packet (opcode status : Nat) (seq : Word) (payload : List Byte) : List Byte :=
  be 2 opcode ++ [1, 0] ++ wordBytes seq ++ be 2 payload.length ++ be 2 status ++ payload

/-- The 4-byte DETAIL of a refusal (R381). -/
def State.detail (s : State) (e : Refuse) : List Byte :=
  if e.status = stLocked then
    (match s.cmd.txn with
    | some x => be 2 (x.gen * 8 + x.slot) ++ be 2 s.leaseLeft
    | none => [0, 0, 0, 0])
  else be 2 e.page ++ be 1 e.place ++ be 1 e.check

/-- The reply to the request that session `i` has outstanding: stored for a repetition (R380), and sent, unless
records of it still wait for the partner's acknowledgement (R359). -/
def State.reply (s : State) (i op : Nat) (seq : Word) (status : Nat) (payload : List Byte) : State :=
  let b := packet op status seq payload
  let held := s.pair.pReady && s.pairOps.unacked.any fun u => decide (u.1 = i)
  let s := s.setSess i { s.sess i with reply := b, wait := if held then some (op, seq, .ack) else none }
  if held then s else s.sendPacket i b

/-- The reply that waited for a boundary, where its session still waits for it. -/
def State.replyTo (s : State) (i : Nat) (w : Wait) (status : Nat) (payload : List Byte) : State :=
  match (s.sess i).wait with
  | some (op, seq, v) => if v = w then s.reply i op seq status payload else s
  | none => s

/-- The reply of a session whose last acknowledgement has come (DEDUCED, log entry 26). -/
def State.ackReply (s : State) (i : Nat) : State :=
  match (s.sess i).wait with
  | some (_, _, .ack) =>
    if s.pairOps.unacked.any fun u => decide (u.1 = i) then s
    else (s.setSess i { s.sess i with wait := none }).sendPacket i (s.sess i).reply
  | _ => s

/-- Every acknowledgement still awaited counts as given: the partner is not READY (R359). -/
def State.flushAcks (s : State) : State :=
  let s := { s with pairOps := { s.pairOps with unacked := [] } }
  (List.range 8).foldl (fun (s : State) (i : Nat) => s.ackReply i) s

/-! ## Records in -/

/-- R375: the record names an open session and its counter is acceptable (DESIGN CHOICE, log entry 21). -/
def State.recordOk (s : State) (r : Req) : Bool :=
  let x := s.sess (r.sid.toNat % 8)
  x.isOpen && decide (s.sidOf (r.sid.toNat % 8) = r.sid) && decide (x.rxHigh < r.ctr.toNat + 64)
    && decide (r.ctr.toNat ∉ x.rxSeen)

/-- An accepted record: its counter is spent, the idle timeout starts afresh, and replies go to its source (R375, R378,
R404). -/
def State.takeRecord (s : State) (r : Req) : State :=
  let x := s.sess (r.sid.toNat % 8)
  let high := max x.rxHigh r.ctr.toNat
  s.setSess (r.sid.toNat % 8) { x with
    rxHigh := high, rxSeen := (x.rxSeen ++ [r.ctr.toNat]).filter fun c => decide (high < c + 64), idleFrom := s.mono,
    port := r.peer.port, ip := r.peer.ip, sport := r.peer.sport.toNat }

/-- R380: the SEQ is the one to execute next. -/
def Sess.nextSeq (x : Sess) (seq : Word) : Bool :=
  match x.lastSeq with
  | none => true
  | some q => decide (seq = q + 1)

/-! ## Requests -/

/-- What executing a request gives: a refusal, a refusal that status words record, a reply with its status, a reply that
waits, or a reply after which the session ends or the module restarts. -/
inductive Answer where
  | refuse (e : Refuse)
  | fails (s : State) (e : Refuse)
  | done (s : State) (status : Nat) (payload : List Byte)
  | later (s : State) (w : Wait)
  | closes (s : State)
  | restarts (s : State)

/-- A request that is executed: role (R381 step 2), then the command's own checks and effect (DEDUCED, log entry 34). -/
def State.execute (s : State) (r : Req) (op minRole : Nat) (f : State → Nat → Answer) : State :=
  let i := r.sid.toNat % 8
  let s := s.setSess i { s.sess i with lastSeq := some r.seq }
  if (s.sess i).role < minRole then s.reply i op r.seq stAuthFail (s.detail (Refuse.at stAuthFail 0)) else
  match f s i with
  | .refuse e => s.reply i op r.seq e.status (s.detail e)
  | .fails s e => s.reply i op r.seq e.status (s.detail e)
  | .done s status payload => s.reply i op r.seq status payload
  | .later s w => s.setSess i { s.sess i with wait := some (op, r.seq, w) }
  | .closes s => (s.reply i op r.seq stOk []).closeSess i
  | .restarts s =>
    let s := s.reply i op r.seq stOk []
    let s := s.dropTxn.flushJournal
    if s.pairSide ∧ s.pair.tokOut then
      let s := s.startGiveUp
      { s with cmd := { s.cmd with restartDue := true } }
    else s.restart

/-- The common path of a request (R375, R380, R381): `op` its opcode, `minRole` the lowest role that R384 accepts
(DEDUCED, log entry 28). -/
def State.serve (s : State) (r : Req) (op minRole : Nat) (f : State → Nat → Answer) : State :=
  let i := r.sid.toNat % 8
  if !s.recordOk r then s.sysReject r.tick else
  let s := s.takeRecord r
  let x := s.sess i
  if x.wait.isSome then s.sysReject r.tick
  else if x.nextSeq r.seq then s.execute r op minRole f
  else if x.lastSeq = some r.seq then s.sendPacket i x.reply
  else s.sysReject r.tick

/-- Roles of R384. -/
def roMonitor : Nat := 0
def roControl : Nat := 1
def roMaint : Nat := 2

/-- A refusal that names no page and no byte. -/
def no (status : Nat) : Answer := .refuse (Refuse.at status 0)

/-- BAD_PARAM at a parameter byte. -/
def badAt (place : Nat) : Answer := .refuse (Refuse.at stBadParam place)

/-- A request without parameters. -/
def noParams (p : List Byte) (a : Answer) : Answer := if p = [] then a else badAt 0

/-- The replicated set is refused on a pair side that is not the holder (R359, R384) (DEDUCED, log entry 55). -/
def State.follows (s : State) : Bool := s.pairSide && decide (s.pair.role ≠ .holder)

/-- The module is a holder: it forwards the replicated set as records (R359) (DEDUCED, log entry 55). -/
def State.leads (s : State) : Bool := s.pairSide && decide (s.pair.role = .holder)

/-- A replicated word outside a commit (log entry 15). -/
def rkWord : Nat := 1

/-- A record of a replicated write, due at EFFECT on both sides (R359) (DEDUCED, log entry 55). -/
def State.addRecord (s : State) (kind slot page offset effect : Nat) (value : Word) : State :=
  let o := s.pairOps
  let rec_ : RepRec :=
    { seq := o.recSeq + 1, kind := kind, slot := slot, page := page, offset := offset, effect := effect, value := value }
  { s with pairOps := { o with recSeq := o.recSeq + 1, records := o.records ++ [rec_], toSend := o.toSend ++ [rec_] } }

/-- Session `i` waits for the acknowledgement of the records it has just caused: 65,536 marks a frame not yet sent. -/
def State.awaitAck (s : State) (i : Nat) : State :=
  if s.leads && s.pair.pReady then
    { s with pairOps := { s.pairOps with unacked := s.pairOps.unacked ++ [(i, 65536)] } }
  else s

/-! ## Opening and closing a session -/

/-- Keys (Ed25519, then ML-DSA-65) and stored role of a KEY_ID that R377 knows (R485, R486). -/
def State.findKey (s : State) (id : Word) : Option (List Byte × Nat) :=
  if id = 0 then
    match s.boot.active with
    | some g => if s.ownerOk then some (Tab.get (fun _ => []) s.jrnl.owners g, 2) else none
    | none => none
  else match s.keyList with
    | none => none
    | some l =>
      match (keyEntries l).find? fun e => decide (beAt e 0 4 = id.toNat) with
      | some e => if (byteAt e 5).getLsbD 0 then none else some (e.drop 8, beAt e 4 1)
      | none => none

/-- Bytes of a list in pieces of `n`. -/
def pieces (n : Nat) (l : List Byte) : List (List Byte) :=
  (List.range ((l.length + n - 1) / n)).map fun k => (l.drop (n * k)).take n

/-- A handshake message to the host, in fragments of 1,400 bytes, each a record with its header (R374, R376)
(DESIGN CHOICE, log entry 21). -/
def State.sendHandshake (s : State) (q : Peer) (sid msg : Nat) (body : List Byte) : State :=
  let fs := pieces 1400 body
  fs.zipIdx.foldl (fun (s : State) (x : List Byte × Nat) =>
    s.sendUdp q.port 4 q.ip 51400 q.sport.toNat
      (be 1 1 ++ be 1 1 ++ be 2 sid ++ be 1 msg ++ be 1 x.2 ++ be 1 fs.length ++ [0, 0, 0, 0, 0] ++ x.1)) s

/-- The handshake ends with ALERT and nothing is kept (R377) (DEDUCED, log entry 28). -/
def State.alert (s : State) (q : Peer) (sid status : Nat) (keyId : Word) (t : Nat) : State :=
  let s := s.sendHandshake q sid 4 (be 2 status)
  if status = stAuthFail then s.raise 0x0001 0 keyId t else s

/-- Slot of a new attempt: one neither open nor under way, else that of the oldest attempt (DEDUCED, log entry 28). -/
def State.freeSlot (s : State) : Option Nat :=
  match (List.range 8).find? fun i => !(s.sess i).isOpen && !s.cmd.attempts.any fun a => decide (a.slot = i) with
  | some i => some i
  | none => s.cmd.attempts.head?.map (·.slot)

/-- R376, R377: a HELLO message (DESIGN CHOICE, log entry 21; DEDUCED, log entry 28). -/
def execHello (peer : Peer) (body : List Byte) (t : Tick) (s : State) : Host.Outcome State Fault Refusal :=
  let s := s.silent
  if s.sys.mode = .boot ∨ s.portIp peer.port = 0 then .next s else
  let keyId : Word := BitVec.ofNat 32 (beAt body 4 4)
  if body.length ≠ 1256 ∨ 2 < beAt body 0 1 ∨ beAt body 1 3 ≠ 0 then .next (s.alert peer 0 stBadParam keyId t) else
  match s.findKey keyId with
  | none => .next (s.alert peer 0 stAuthFail keyId t)
  | some k =>
  match s.freeSlot with
  | none => .next (s.alert peer 0 stBusy keyId t)
  | some i =>
    let others := s.cmd.attempts.filter fun a => decide (a.slot ≠ i)
    let last := (s.cmd.attempts.filter fun a => decide (a.slot = i)).foldl (fun (m : Nat) (a : Attempt) => max m a.gen)
      (s.sess i).gen
    let gen := (last + 1) % 8192
    let role := min (beAt body 0 1) k.2
    let part := be 2 (gen * 8 + i) ++ be 1 role ++ [0] ++ padTo 32 (Config.freeBytes s.free 32)
      ++ padTo 1120 (Config.kemReply (body.drop 40) s.free)
    let th := Config.sha512 (body ++ part)
    let a : Attempt :=
      { slot := i, gen := gen, role := role, keyId := keyId, port := peer.port, hello := body, reply := part,
        secret := Config.kemSecret (body.drop 40) s.free, started := s.mono }
    let s := { s.drawn with cmd := { s.cmd with attempts := others ++ [a] } }
    .next (s.sendHandshake peer (gen * 8 + i) 2 (part ++ padTo 64 (Config.edSign th) ++ padTo 3309 (Config.mlSign th)))

/-- Both FINISH signatures verify (R376, R377) (DESIGN CHOICE, log entry 21). -/
def finishOk (a : Attempt) (keys body : List Byte) : Bool :=
  let th := Config.sha512 (a.hello ++ a.reply)
  let msg := Config.sha512 (th ++ padTo 64 (Config.edSign th) ++ padTo 3309 (Config.mlSign th))
  Config.edVerify (keys.take 32) msg (body.take 64) && Config.mlVerify (keys.drop 32) msg (body.drop 64)

/-- HMAC-SHA-512 (RFC 2104), for HKDF (DESIGN CHOICE, log entry 21). -/
def hmac512 (key msg : List Byte) : List Byte :=
  let k := padTo 128 (if 128 < key.length then Config.sha512 key else key)
  Config.sha512 (k.map (· ^^^ 0x5C) ++ Config.sha512 (k.map (· ^^^ 0x36) ++ msg))

/-- The 64 bytes of HKDF-SHA-512 (RFC 5869) that make the session keys of a handshake (R377)
(DESIGN CHOICE, log entry 21). -/
def Attempt.keys (a : Attempt) : List Byte :=
  let salt := (a.hello.drop 8).take 32 ++ (a.reply.drop 4).take 32
  let info := "DX3072 session".toList.map (fun c => BitVec.ofNat 8 c.toNat) ++ be 2 (a.gen * 8 + a.slot)
  hmac512 (hmac512 salt a.secret) (info ++ [1])

/-- The session of a completed handshake, with its SESSION_OPEN reply (R377, R378)
(DEDUCED, log entry 28; DEDUCED, log entry 53). -/
def State.openSess (s : State) (a : Attempt) (q : Peer) : State :=
  let s := s.setSess a.slot { Sess.init with
    isOpen := true, gen := a.gen, role := a.role, keyId := a.keyId, port := q.port, ip := q.ip, sport := q.sport.toNat,
    keyIn := a.keys.take 32, keyOut := a.keys.drop 32, idleFrom := s.mono }
  s.sendPacket a.slot (packet 1 stOk 0 (be 2 (a.gen * 8 + a.slot) ++ be 1 a.role
    ++ be 1 (W.SYS_CTL_IDLE_TO (s.word K.SYS_CTL))))

/-- R377: a FINISH message (DESIGN CHOICE, log entry 21; DEDUCED, log entry 28). -/
def execFinish (peer : Peer) (sid : BitVec 16) (body : List Byte) (t : Tick) (s : State) :
    Host.Outcome State Fault Refusal :=
  let s := s.silent
  if s.sys.mode = .boot ∨ s.portIp peer.port = 0 then .next s else
  match s.cmd.attempts.find? fun a => decide (a.gen * 8 + a.slot = sid.toNat) && decide (a.port = (peer.port : Nat)) with
  | none => .next (s.sysReject t)
  | some a =>
    let s := { s with cmd := { s.cmd with attempts := s.cmd.attempts.filter fun b => decide (b.slot ≠ a.slot) } }
    if 500000 < s.mono - a.started then .next (s.sysReject t)
    else if body.length ≠ 3373 then .next (s.alert peer sid.toNat stBadParam a.keyId t)
    else match s.findKey a.keyId with
      | none => .next (s.alert peer sid.toNat stAuthFail a.keyId t)
      | some k => .next (if finishOk a k.1 body then s.openSess a peer else s.alert peer sid.toNat stAuthFail a.keyId t)

/-- R377: FINISH has not completed within 5 s of the first HELLO fragment. -/
def execHandshakeTimeout (slot : Fin 8) (_t : Tick) (s : State) : Host.Outcome State Fault Refusal :=
  let s := s.silent
  let over_ (a : Attempt) : Bool := decide (a.slot = (slot : Nat)) && decide (a.started + 500000 ≤ s.mono)
  .next { s with cmd := { s.cmd with attempts := s.cmd.attempts.filter fun a => !over_ a } }

/-- The protected record as it arrives (R374, R375): its session, counter and plaintext; none where its SID, its counter or
its tag fails (DESIGN CHOICE, log entry 21; DEDUCED, log entry 28). -/
def State.openRecord (s : State) (rec : List Byte) : Option (Req × List Byte) :=
  let sid : BitVec 16 := BitVec.ofNat 16 (beAt rec 2 2)
  let x := s.sess (sid.toNat % 8)
  match Config.gcmOpen x.keyIn (be 4 1 ++ be 8 (beAt rec 4 8)) (rec.take 12) (rec.drop 12) with
  | none => none
  | some b =>
    let r : Req := { peer := { port := 0, ip := 0, sport := 0 }, sid := sid, ctr := BitVec.ofNat 64 (beAt rec 4 8),
                     seq := BitVec.ofNat 32 (beAt b 4 4), tick := 0 }
    if rec.length < 28 ∨ !s.recordOk r then none else some (r, b)

/-- R375, R380: a protected record that fails its tag, its SID, its counter or its sequence is discarded and counted; one
that passes has a command of its own (DEDUCED, log entry 28). -/
def execRecordDiscarded (e : RecIn) (t : Tick) (s : State) : Host.Outcome State Fault Refusal :=
  let s := s.silent
  if beAt e.bytes 0 1 ≠ 1 ∨ beAt e.bytes 1 1 ≠ 2 then .next s else
  match s.openRecord e.bytes with
  | none => .next (s.sysReject t)
  | some (r, _) =>
    let x := s.sess (r.sid.toNat % 8)
    if x.wait.isSome ∨ (!x.nextSeq r.seq ∧ x.lastSeq ≠ some r.seq) then
      .next ((s.takeRecord { r with peer := e.peer, tick := t }).sysReject t)
    else .next s

/-- Opcodes that a packet may carry (R384). -/
def opcodes : List Nat :=
  [0x02, 0x03, 0x10, 0x11, 0x12, 0x14, 0x15, 0x16, 0x17, 0x20, 0x21, 0x30, 0x31, 0x32, 0x33, 0x40, 0x41, 0x42, 0x50, 0x51,
   0x60, 0x61, 0x70, 0x71, 0x80, 0x81, 0x82, 0x83, 0x84, 0x90, 0x91]

/-- The fields of a request packet outside its parameters stand as R379 has them: FLAGS, the reserved byte and STATUS 0, and
LEN the bytes that follow. -/
def packetOk (b : List Byte) : Bool :=
  decide (beAt b 2 2 = 0) && decide (beAt b 10 2 = 0) && decide (beAt b 8 2 = b.length - 12) && decide (b.length ≤ 1444)

/-- A protected record whose packet has no command of its own: an opcode that R384 does not list (R381 step 1), or a
malformed packet (DEDUCED, log entry 28). -/
def State.strayPacket (s : State) (peer : Peer) (rec : List Byte) (t : Tick) : State :=
  match s.openRecord rec with
  | none => s
  | some (r, b) =>
    let op := beAt b 0 2
    let r := { r with peer := peer, tick := t }
    if b.length < 12 then (s.takeRecord r).sysReject t
    else if op ∉ opcodes then s.serve r op roMonitor fun _ _ => no stBadOpcode
    else if !packetOk b then s.serve r op roMonitor fun _ _ => badAt 2
    else s

/-- A command record (R373, R374, R403): its own command follows unless it is discarded or answered here
(DEDUCED, log entry 28). -/
def State.recordArrives (s : State) (p : Fin 3) (f : NetFrame) (sport : BitVec 16) (data : List Byte) (t : Tick) : State :=
  if !s.reachable p f.sip ∨ 2000 ≤ s.net.cmds then s.netDrop t else
  let s := { s with net := { s.net with cmds := s.net.cmds + 1 } }
  let kind := beAt data 1 1
  if 1472 < data.length ∨ beAt data 0 1 ≠ 1 ∨ (kind ≠ 1 ∧ kind ≠ 2) then s.sysReject t
  else if kind = 2 then s.strayPacket { port := p, ip := f.sip, sport := sport } data t else s

/-- A PTP message, all that a port without an address accepts (R405). -/
def netPtp (b : NetBody) : Bool :=
  match b with
  | .ptp | .ptpOther _ => true
  | _ => false

/-- R403: a frame arrives on a station or service port. A PTP message that no command of its own takes is forwarded
(R408). -/
def execNetFrameReceive (p : Fin 3) (f : NetFrame) (t : Tick) (s : State) : Host.Outcome State Fault Refusal :=
  let s := s.silent
  if 1522 < f.len then .next s
  else if s.portIp p = 0 ∧ !netPtp f.body then .next s
  else if !s.frameOk p f ∨ !s.ipOk p f then .next (s.netDrop t)
  else match f.body with
  | .udp sport dport sumOk data =>
    let s := s.netSecond
    if !sumOk then .next (s.netDrop t)
    else if dport = 51400 then .next (s.recordArrives p f sport data t)
    else if dport = 51402 ∧ (p : Nat) < 2 then .next (s.safeArrives f data t)
    else .next (s.netDrop t)
  | .ptpOther data =>
    .next (if (p : Nat) < 2 ∧ s.forwards then s.sendNet (1 - (p : Nat)) 1 (.ptpOther data) else s)
  | _ => .next s

/-- IDLE_TO seconds have passed for a session without an accepted record, or with its port's link down (R378)
(DESIGN CHOICE, log entry 6). -/
def State.sessIdle (s : State) (i : Nat) : Bool :=
  let x := s.sess i
  let lim := 100000 * W.SYS_CTL_IDLE_TO (s.word K.SYS_CTL)
  decide (x.idleFrom + lim ≤ s.mono) || (match x.linkDown with | some d => decide (d + lim < s.mono) | none => false)

/-- R378: IDLE_TO has passed without an accepted record, or the port's link has been down longer
(DESIGN CHOICE, log entry 6). -/
def execSessionIdleTimeout (slot : Fin 8) (s : State) : Host.Outcome State Fault Refusal :=
  let s := s.silent
  .next (if s.sessIdle slot then s.closeSess slot else s)

/-- SESSION_CLOSE (0x0002). -/
def execSessionClose (r : Req) (p : List Byte) (s : State) : Host.Outcome State Fault Refusal :=
  let s := s.silent
  .next (s.serve r 0x0002 roMonitor fun s _ => noParams p (.closes s))

end Sys2Proof.Machine
end

