-- ==== Sys2Proof/Machine/Writes.lean ====
section
/-! DEFINITION. Reading and writing pages: PAGE_GET (R385), the checks of a write in the order of R381, the commit
checks of every chapter (R390), and what an accepted write does (R8, R387, R388); with the commands of the table that
write one word. -/

namespace Sys2Proof.Machine

/-! ## Keys -/

/-- The key of a page word as the session's selectors bind it when the packet is accepted (R254, R452)
(DEDUCED, log entry 29). -/
def State.bindKey (s : State) (i page off : Nat) : Nat :=
  let x := s.sess i
  if page = 7 ∧ 0x10 ≤ off ∧ off < 0x28 then slotKey x.loopSel.toNat off
  else if page = 13 ∧ 0xC0 ≤ off then winKey (x.inkBase.toNat + 4 * (off - 0xC0))
  else key page off

/-- A key of the replicated set's pages (R359). -/
def replicated (k : Nat) : Bool := decide (keyPage k ∈ replicatedPages)

/-- The state in which a commit is under way for a session: it owns the lock (R389). -/
def State.owns (s : State) (i : Nat) : Bool :=
  match s.cmd.txn with
  | some x => decide (x.slot = i) && decide (x.gen = (s.sess i).gen)
  | none => false

/-- Another session holds the lock. -/
def State.lockedOut (s : State) (i : Nat) : Bool := s.cmd.txn.isSome && !s.owns i

/-! ## Lane words (R19, R90, R98) -/

/-- A configured string whose ports do not carry its cells at their rates, or run at different rates (R18, R19)
(DEDUCED, log entry 30). -/
def State.ratesBad (v : State) : Bool :=
  v.strings.any fun p => (v.usedPorts p).any fun q =>
    decide (cellLimit (W.PORT_CFG_MODE (v.portCfg p)) (v.rateOf q) < W.PORT_CFG_CELLS (v.portCfg p))
      || decide (v.rateOf q ≠ v.rateOf (v.ratePort p))

/-- R90: a change of a lane under traffic (DEDUCED, log entry 35). -/
def State.laneBusy (s : State) (i : Nat) (w : Word) : Bool :=
  let o := s.laneCtl i
  let changes := W.LANE_CTL_EN o != W.LANE_CTL_EN w || decide (W.LANE_CTL_RATE o ≠ W.LANE_CTL_RATE w)
    || decide (W.LANE_CTL_ALIGN o ≠ W.LANE_CTL_ALIGN w) || decide (W.LANE_CTL_LOOP o ≠ W.LANE_CTL_LOOP w)
    || decide (W.LANE_CTL_TEST o ≠ W.LANE_CTL_TEST w) || (!W.LANE_CTL_EIDLE o && W.LANE_CTL_EIDLE w)
  let live := if i < 64 then s.configured (s.basePort i) && s.stringLive (s.basePort i)
    else W.BOND_CTL_EN (s.word K.BOND_CTL)
  changes && live

/-- The lane of a LANE_CTL key. -/
def laneKey (k : Nat) : Option Nat :=
  if K.LANE_CTL 0 ≤ k ∧ k < K.LANE_STAT 0 then some (k - K.LANE_CTL 0) else none

/-- R90, R157: a lane or clock word that lanes in use refuse. -/
def State.lanesActive (s : State) (p : Nat × Word) : Bool :=
  match laneKey p.1 with
  | some i => s.laneBusy i p.2
  | none => decide (K.CLK_LOOP 0 ≤ p.1 ∧ p.1 < K.CLK_STAT 0) && !bit p.2 31 && s.anyLaneUsed

/-- A change of BOND_CTL.EN outside CONFIG, STANDBY and SERVICE (R98) (DEDUCED, log entry 30). -/
def State.bondBarred (s : State) (p : Nat × Word) : Bool :=
  decide (p.1 = K.BOND_CTL) && (W.BOND_CTL_EN (s.word K.BOND_CTL) != W.BOND_CTL_EN p.2)
    && !decide (s.sys.mode = .config ∨ s.sys.mode = .standby ∨ s.sys.mode = .service)

/-! ## Commit checks (R390) -/

/-- BAD_PARAM with a page and a check code, where a check fails. -/
def badIf (b : Bool) (page place check : Nat) : Option Refuse :=
  if b then some { status := stBadParam, page := page, place := place, check := check } else none

/-- BAD_PARAM for the word on which a check fails (R381). -/
def badWord (k : Option Nat) : Option Refuse := k.map fun k => Refuse.word stBadParam k 0

/-- Place of a failed topology check (R34): its port or stack word, or its cell page. -/
def topoPlace (x : Nat × Nat) : Refuse :=
  if 8 ≤ x.1 then { status := stBadParam, page := 0x100 + x.2, place := 0, check := x.1 }
  else if x.1 = 5 ∨ x.1 = 6 then { status := stBadParam, page := 1, place := 0x50 + x.2, check := x.1 }
  else { status := stBadParam, page := 1, place := 0x10 + x.2, check := x.1 }

/-- SYS_PRE.PHI above the PHI_MAX of an enabled DAB8 stack (R400) (DEDUCED, log entry 30). -/
def State.prePhiBad (v : State) : Bool :=
  (List.range 16).any fun k => v.stackEn k && decide (v.stackType k = 3)
    && decide ((W.STK_LIM_PHI_MAX (v.word (K.STK_LIM k)) : Int) < signed 16 (W.SYS_PRE_PHI (v.word K.SYS_PRE)))

/-- The staged words as the configuration would stand, with the writes already accepted for the next cycle. -/
def State.viewOf (s : State) (l : List (Nat × Word)) : State := s.withWords (s.nextW ++ l)

/-- The commit checks that refuse with BAD_PARAM: R34, R19, R17, R132, R201, R233, R259, R287, R314, R342, R343, R346,
R347, R426, R452, R468, R400 (DEDUCED, log entry 30). -/
def State.commitBad (s : State) (l : List (Nat × Word)) : Option Refuse :=
  let v := s.viewOf l
  let ks := l.map (·.1)
  let pg (n : Nat) : Bool := ks.any fun k => decide (keyPage k = n)
  let cells := ks.any fun k => decide (0x10000 ≤ k ∧ k < 0x16000)
  let slots := ks.any fun k => decide (0x100000 ≤ k ∧ k < 0x200000)
  let staged (k : Nat) : Bool := decide (k ∈ ks)
  [if ks.any topoWord then v.topoCheck.map topoPlace else none,
   (ks.find? fun k => (laneKey k).isSome && v.ratesBad).map fun k => Refuse.word stBadParam k 0,
   badIf ((pg 1 || pg 11) && v.pairSide && v.strings.any fun p => decide (W.PORT_CFG_MODE (v.portCfg p) = 1)) 11 2 0,
   if v.strings.any fun p => v.lateSegs p false then
     some (Refuse.word stBadParam (if staged K.DUCT_CTL && !staged K.LINK_TIMING then K.DUCT_CTL else K.LINK_TIMING) 0)
   else none,
   if pg 5 || pg 1 then badWord ((List.range 16).findSome? v.ductCheck) else none,
   if pg 6 || pg 1 then badWord v.thermCheck else none,
   if slots || pg 5 || pg 1 then
     v.loopCheckOf.map fun x => { status := stBadParam, page := 7, place := 0x10, check := x.1 }
   else none,
   if pg 8 || pg 1 then badWord ((List.range 16).findSome? v.supCheck) else none,
   if pg 1 || pg 9 || cells then badWord v.limitCheck else none,
   if pg 10 then badWord v.safCheck else none,
   badIf (staged K.PAIR_CTL && v.pairSide && !W.BOND_CTL_EN (v.word K.BOND_CTL)) 11 2 0,
   badIf ((pg 1 || pg 11) && !W.PAIR_CTL_DETECT (v.word K.PAIR_CTL) && decide (1536 < v.allCells.length)) 11 2 0,
   if pg 12 || pg 10 then
     v.netCheck.map fun c => { status := stBadParam, page := 12, place := 0, check := c }
   else none,
   if pg 13 then badWord (v.inkCheck ks) else none,
   if pg 14 then badWord v.aiCheck else none,
   badIf (staged K.SYS_PRE && v.prePhiBad) 0 7 0].findSome? id

/-- A trace readout runs (R447, R449). -/
def State.readoutRuns (s : State) : Bool := decide (s.opsRunning 0x51 ≠ [])

/-- A word of the Blotter's settings. -/
def blotWord (k : Nat) : Bool := decide (0xD40 ≤ k ∧ k ≤ 0xD42 ∨ 0xD80 ≤ k ∧ k ≤ 0xDBF)

/-- Channel `ch` runs or waits (R438). -/
def State.dmaBusy (s : State) (ch : Nat) : Bool :=
  s.ink.dma.wait.testBit ch || (match s.ink.dma.run with | some c => decide (c.ch = ch) | none => false)

/-- A staged word that the module's or an object's state refuses (R33, R94, R98, R143, R171, R201, R341, R346, R400,
R447, R452). -/
def State.commitBarred (s : State) (p : Nat × Word) : Bool :=
  let k := p.1
  let o := s.word k
  let setup := decide (s.sys.mode = .config ∨ s.sys.mode = .standby)
  let config := decide (s.sys.mode = .config)
  let duct := decide (K.STK_MODE 0 ≤ k ∧ k < K.STK_STAT 0) && decide ((k - K.STK_MODE 0) % 8 ≤ 3)
  (topoWord k && !setup) || (decide (k = K.LINK_TIMING) && !setup)
    || (decide (k = K.DUCT_CTL) && !setup && decide (W.DUCT_CTL_LOOK o ≠ W.DUCT_CTL_LOOK p.2))
    || (duct && decide (s.sys.mode = .run) && decide (o ≠ p.2))
    || (decide (k / 256 = 10) && !config)
    || (decide (k = K.PAIR_CTL) && !config && (W.PAIR_CTL_EN o != W.PAIR_CTL_EN p.2))
    || (decide (k = K.SYS_CTL) && !config && decide (W.SYS_CTL_MODULE_ID o ≠ W.SYS_CTL_MODULE_ID p.2))
    || (blotWord k && (!decide (s.ink.blot.st = 0 ∨ s.ink.blot.st = 4) || s.readoutRuns))
    || ((List.range 8).any fun c => decide (k = K.DMA_CFG c ∨ k = K.DMA_CQ c) && s.dmaBusy c)
    || s.bondBarred p

/-- NOT_IN_STATE for a commit. -/
def State.commitState (s : State) (l : List (Nat × Word)) : Option Refuse :=
  if s.follows && l.any (fun p => replicated p.1) then some (Refuse.at stNotInState 0)
  else (l.find? s.commitBarred).map fun p =>
    Refuse.word stNotInState p.1 0

/-- A word 0–6 of a slot that is closed or suspended (R252). -/
def State.slotShut (s : State) (k : Nat) : Bool :=
  let n := (k - 0x100000) / 64
  decide (0x100000 ≤ k ∧ k < 0x200000) && inRange 0x10 0x16 ((k - 0x100000) % 64) && ((s.slot n).closed || (s.slot n).susp)

/-- LOOP_CLOSED or LANES_ACTIVE for a commit. -/
def State.commitLock (s : State) (l : List (Nat × Word)) : Option Refuse :=
  match l.find? fun p => s.slotShut p.1 with
  | some p => some (Refuse.word stLoopClosed p.1 0)
  | none => (l.find? s.lanesActive).map fun p => Refuse.word stLanesActive p.1 0

/-- TOPO_STATUS and LOOP_CHECK after a commit was refused (R32, R255, R259): LOOP_CHECK.OK falls with a commit that touches
slot words. -/
def State.noteRefused (s : State) (l : List (Nat × Word)) : State :=
  let v := s.viewOf l
  let ks := l.map (·.1)
  let slots := ks.any fun k => decide (0x100000 ≤ k ∧ k < 0x200000)
  let s := if ks.any topoWord then
      { s with cmd := { s.cmd with topoStatus := match v.topoCheck with
          | some x => at_ x.2 16 ||| at_ x.1 8
          | none => 0 } }
    else s
  if slots || ks.any fun k => decide (keyPage k = 5 ∨ keyPage k = 1) then
    match v.loopCheckOf with
    | some x => { s with cmd := { s.cmd with
        loopCheck := at_ x.2 16 ||| at_ x.1 8 ||| (if slots then 0 else s.cmd.loopCheck &&& 1) } }
    | none => if slots then { s with cmd := { s.cmd with loopCheck := 0 } } else s
  else s

/-- E of R390: cycles from acceptance to the earliest allowed boundary. -/
def State.commitLead (s : State) (l : List (Nat × Word)) : Nat :=
  let duct := l.any fun p => decide (keyPage p.1 = 5)
    || (List.range 16).any fun k => decide (p.1 = K.SUP_BLK k)
  max (if duct then s.look + 1 else 1) (if s.pairSide then 2 else 1)

/-- The earliest allowed boundary after acceptance at tick `t` (R390). -/
def State.earliest (s : State) (l : List (Nat × Word)) (t : Nat) : Nat :=
  s.mono + s.commitLead l + (if t = 0 then 0 else 1)

/-- An accepted commit is pending (R390): its lease no longer runs, Ductus prepares its targets, and a holder forwards
its words (R359) (DEDUCED, log entry 30). -/
def State.startCommit (s : State) (i : Nat) (x : Txn) (due : Nat) : State :=
  let s := { s with cmd := { s.cmd with txn := some { x with due := some due } } }
  let s := s.commitAhead x.staged due
  if s.leads then
    let ws := x.staged.filter fun p => replicated p.1
    let s := ws.foldl (fun (s : State) (p : Nat × Word) =>
      let o := s.pairOps
      let slot := if 0x100000 ≤ p.1 then (p.1 - 0x100000) / 64 else 0
      let off := if 0x100000 ≤ p.1 then p.1 % 64 else p.1 % 256
      let rec_ : RepRec :=
        { seq := o.recSeq + 1, kind := rkCommit, slot := slot, page := keyPage p.1, offset := off, effect := due, value := p.2 }
      { s with pairOps := { o with recSeq := o.recSeq + 1, toSend := o.toSend ++ [rec_] } }) s
    if ws = [] then s else s.awaitAck i
  else s

/-- The boundary cycle in a reply: 6 bytes. -/
def State.cycleBytes (s : State) (due : Nat) : List Byte := be 6 ((s.cycle.toNat + (due - s.mono)) % 2 ^ 48)

/-! ## A write (R387) -/

/-- The words of a write that are no reserved words: offset, value and row. -/
def liveWords (page : Nat) (ws : List (Nat × Word)) : List (Nat × Word × WordRow) :=
  ws.filterMap fun p => (wordRow page p.1).map fun r => (p.1, p.2, r)

/-- A selector word, which R387 leaves to every session. -/
def selectorWord (k : Nat) : Bool := decide (k ∈ [K.LOOP_SEL, K.SUP_SEL, K.FLT_RSEL, K.CAN_RXSEL, K.INK_WBASE])

/-- A word's own rules beyond its field table: POS and PORT of LINK_CMD (R144), TAIL of a completion ring (R442), the
window of the general area (R452) (DEDUCED, log entry 29). -/
def State.wordBad (s : State) (i page off : Nat) (w : Word) : Bool :=
  let k := key page off
  (decide (k = K.LINK_CMD) && (let p := W.LINK_CMD_PORT w
    !s.configured p || decide (s.basePort p ≠ p) || decide (s.slotsOf p ≤ W.LINK_CMD_POS w)))
    || ((List.range 8).any fun c => decide (k = K.DMA_CQP c) && decide (s.cqSize c ≤ W.DMA_CQP_TAIL w))
    || (decide (page = 13 ∧ 0xC0 ≤ off) && decide (inkRegion ((s.sess i).inkBase.toNat + 4 * (off - 0xC0)) ≠ 3))

/-- BAD_PARAM of a write that is no commit. -/
def State.writeBad (s : State) (i page : Nat) (ws : List (Nat × Word)) : Option Refuse :=
  let live := liveWords page ws
  let l := ws.map fun p => (key page p.1, p.2)
  let lanes := decide (page = 2) && live.any fun p => inRange 0x10 0x53 p.1
  let late : List (Nat × Word) := match s.cmd.txn with
    | some x => if x.due.isSome then x.staged else []
    | none => []
  let limit := live.any fun p => decide (0x100 ≤ page) && decide (p.1 % 8 = 4)
  [(ws.find? fun p => !(wordOk page p.1 p.2).2).map fun p => Refuse.word stBadParam (key page p.1) 0,
   badIf (live.any (fun p => decide (p.2.2.term = .commit)) && live.any fun p => decide (p.2.2.term ≠ .commit)) page
     (((live.map (·.1)).head?).getD 0) 0,
   badIf (decide (page = 10) && live.any fun p => decide (p.2.2.acc = .rw)) page (((live.map (·.1)).head?).getD 0) 0,
   (live.find? fun p => s.wordBad i page p.1 p.2.1).map fun p => Refuse.word stBadParam (key page p.1) 0,
   badIf (lanes && ((s.viewOf l).ratesBad || ((s.withWords (s.nextW ++ late ++ l))).ratesBad)) 2 0x10 0,
   if limit then badWord (s.viewOf l).limitCheck else none].findSome? id

/-- A word that its unit's state refuses (R84, R98, R438, R468). -/
def State.writeBarred (s : State) (p : Nat × Word) : Bool :=
  s.bondBarred p
    || (decide (p.1 = K.LANE_CMD) && decide (W.LANE_CMD_CMD p.2 = 1) && decide ((s.lane (W.LANE_CMD_LANE p.2)).state ≠ 4))
    || (decide (p.1 = K.DMA_CMD) && decide (W.DMA_CMD_CMD p.2 = 1) && s.dmaBusy (W.DMA_CMD_CH p.2))
    || (decide (p.1 = K.ADC_URG) && (let c := s.word (K.ADC_CTL (W.ADC_URG_ADC p.2))
      !W.ADC_CTL_EN c && !W.ADC_CTL_URG_EN c))

/-- LANES_ACTIVE of a word written outside a commit (R90, R144, R157). -/
def State.writeActive (s : State) (p : Nat × Word) : Bool :=
  s.lanesActive p || (decide (p.1 = K.LINK_CMD) && s.stringLive (W.LINK_CMD_PORT p.2))

/-- The first refusal of a write, in the order of R381. `cl` is the list to stage when the write is a commit
(DEDUCED, log entry 29). -/
def State.writeRefuse (s : State) (i page : Nat) (ws : List (Nat × Word)) (commit : Bool) (cl : List (Nat × Word)) :
    Option Refuse :=
  let live := liveWords page ws
  let l := live.map fun p => (key page p.1, p.2.1)
  let first := key page (((live.map (·.1)).head?).getD 0)
  let word (st : Nat) (p : Nat × Word) : Refuse := Refuse.word st p.1 0
  [s.writeBad i page ws,
   if commit then s.commitBad cl else none,
   if s.follows ∧ page ∈ replicatedPages then some (Refuse.word stNotInState first 0) else none,
   if commit ∧ s.owns i then some (Refuse.word stNotInState first 0) else none,
   (l.find? s.writeBarred).map (word stNotInState),
   if commit then s.commitState cl else none,
   if s.lockedOut i ∧ (commit ∨ live.any fun p => !(selectorWord (key page p.1) || decide (p.2.2.acc = .w1c)
     || decide (p.2.2.acc = .wo) || (decide (page = 7) && decide (0x80 ≤ p.1)))) then some (Refuse.at stLocked 0) else none,
   if commit then s.commitLock cl else none,
   (l.find? s.writeActive).map (word stLanesActive),
   (l.find? fun p => decide (p.1 = K.ADC_URG) && (s.conv (W.ADC_URG_ADC p.2)).host.isSome).map (word stBusy)].findSome? id

/-- Bits of the window's two tiles that a range of its words touches and that are poisoned (R451, R452)
(DEDUCED, log entry 47). -/
def State.windowPoison (s : State) (i lo hi : Nat) : Nat :=
  let a := (s.sess i).inkBase.toNat
  maskOf 2 fun k => decide (lo < 32 * (k + 1) ∧ 32 * k < hi) && s.inkPoisoned (a / 128 + k)

/-- One accepted word takes effect, or waits for its term (R8). -/
def State.putWord (s : State) (i page off : Nat) (w : Word) (r : WordRow) (t : Nat) : State :=
  let k := s.bindKey i page off
  if sessionWord k then s.applySess i k w
  else if page = 13 ∧ 0xC0 ≤ off then s
  else if s.leads ∧ page ∈ replicatedPages then s.addRecord rkWord 0 page off (s.mono + 2) w
  else match r.term with
    | .nextCycle => { s with nextW := s.nextW ++ [(k, w)] }
    | .target => match genWord off with
      | some g => (s.setWord k w).stageGen g.1 g.2 w s.genTarget
      | none => s.setWord k w
    | .acquisition => (s.setWord k (w &&& 0x7FFFFFFF)).restartLoops (k - K.CLK_LOOP 0) (bit w 31) t
    | _ => s.applyWord k w t

/-- Window words written through requester 0 as one access (R431, R452). -/
def State.putWindow (s : State) (i : Nat) (ws : List (Nat × Word)) : State :=
  match ws.head? with
  | none => s
  | some p =>
    let lo := p.1 - 0xC0
    let bad := s.windowPoison i lo (lo + ws.length)
    let s := s.inkWrite ((s.sess i).inkBase.toNat + 4 * lo) (ws.flatMap fun q => wordBytes q.2)
    s.setSess i { s.sess i with wstat := bad }

/-- A page that exists (R9). -/
def pageExists (page : Nat) : Bool := (pageRows page).isSome

/-- A write of consecutive words (R387, R388). -/
def State.write (s : State) (i page : Nat) (ws : List (Nat × Word)) (t : Nat) : Answer :=
  if !pageExists page then .refuse { status := stBadPage, page := page, place := 0, check := 0 } else
  let live := liveWords page ws
  let commit := decide (live ≠ []) && live.all fun p => decide (p.2.2.term = .commit)
  let staged := live.map fun p => (s.bindKey i page p.1, p.2.1)
  match s.writeRefuse i page ws commit staged with
  | some e =>
    -- a write refused before its transaction is one changes nothing (R5, R388)
    let tried := commit && (s.writeBad i page ws).isNone && !(s.follows && decide (page ∈ replicatedPages)) && !s.owns i
      && !s.lockedOut i
    if tried then .fails (s.noteRefused staged) e else .refuse e
  | none =>
    if commit then
      let x : Txn :=
        { slot := i, gen := (s.sess i).gen, number := s.cmd.txnCount, leaseEnd := 1000000, staged := staged, due := none,
          implicit := true }
      .later (s.startCommit i x (s.earliest staged t)) .commit
    else
      let had := s.pairOps.recSeq
      let s := s.putWindow i (ws.filter fun p => decide (page = 13 ∧ 0xC0 ≤ p.1))
      let s := live.foldl (fun (s : State) (p : Nat × Word × WordRow) => s.putWord i page p.1 p.2.1 p.2.2 t) s
      let s := if s.pairOps.recSeq = had then s else s.awaitAck i
      if live.any fun p => decide (key page p.1 = K.TIME_SNAP) && bit p.2.1 0 then .later s .snap else .done s stOk []

/-! ## PAGE_GET, PAGE_SET and the rows that write one word -/

/-- The reads' side effects: a host buffer locked by RX_ID and released at the frame's last word (R421), and the
window's poison (R452). -/
def State.readEffects (s : State) (i page lo hi : Nat) : State :=
  let inn (o : Nat) : Bool := decide (lo ≤ o ∧ o < hi)
  let x := s.sess i
  if page = 12 then
    match s.rxBuf x with
    | none => s
    | some b =>
      let c := b2n (W.CAN_RXSEL_CTRL x.canRxsel)
      let k := W.CAN_RXSEL_SLOT x.canRxsel
      let s := if inn 0xA1 && b.lock.isNone then s.setCan c ((s.canOf c).setBuf k { b with lock := some i, lockAt := s.mono }) else s
      let last := match b.frame with
        | some f => if f.1.data.length = 0 then 0xA2 else 0xA4 + (f.1.data.length - 1) / 4
        | none => 0xA2
      if inn last then s.bufRelease c k (some i) else s
  else if page = 13 ∧ 0xC0 < hi then
    s.setSess i { x with wstat := s.windowPoison i (lo - 0xC0) (hi - 0xC0) }
  else s

/-- PAGE_GET (0x0010), R385. -/
def execPageGet (r : Req) (p : List Byte) (s : State) : Host.Outcome State Fault Refusal :=
  let s := s.silent
  .next (s.serve r 0x0010 roMonitor fun s i =>
    let page := beAt p 0 2
    let off := beAt p 2 1
    let n := if beAt p 3 1 = 0 then 256 else beAt p 3 1
    if 2 ≤ p.length ∧ !pageExists page then .refuse { status := stBadPage, page := page, place := 0, check := 0 }
    else if p.length ≠ 4 ∨ 256 < off + n then badAt 3
    else
      let words := (List.range n).flatMap fun o => wordBytes (s.readWord i page (off + o))
      .done ((s.readEffects i page off (off + n)).drawn) stOk (p ++ words))

/-- The words of a PAGE_SET or PAGE_STAGE packet (R384): page and words, or none for a bad length. -/
def pageWordsOf (p : List Byte) : Option (List (Nat × Word)) :=
  let off := beAt p 2 1
  let n := if beAt p 3 1 = 0 then 256 else beAt p 3 1
  if p.length ≠ 4 + 4 * n ∨ 256 < off + n then none
  else some ((List.range n).map fun o => (off + o, BitVec.ofNat 32 (beAt p (4 + 4 * o) 4)))

/-- PAGE_SET (0x0011), R387. -/
def execPageSet (r : Req) (p : List Byte) (s : State) : Host.Outcome State Fault Refusal :=
  let s := s.silent
  .next (s.serve r 0x0011 roControl fun s i =>
    let page := beAt p 0 2
    if 2 ≤ p.length ∧ !pageExists page then .refuse { status := stBadPage, page := page, place := 0, check := 0 }
    else match pageWordsOf p with
      | none => badAt 3
      | some ws => s.write i page ws r.tick)

/-- A request that writes one word by PAGE_SET. -/
def State.setOne (s : State) (r : Req) (k : Nat) (w : Word) : State :=
  s.serve r 0x0011 roControl fun s i => s.write i (k / 256) [(k % 256, w)] r.tick

/-- R90: a write of LANE_CTL. -/
def execLaneCtlWrite (r : Req) (i : Fin 68) (w : Word) (s : State) : Host.Outcome State Fault Refusal :=
  let s := s.silent
  .next (s.setOne r (K.LANE_CTL i) w)

/-- R84: LANE_CMD with CMD = 1, a bit slip. -/
def execLaneCmdBitSlip (r : Req) (i : Fin 68) (s : State) : Host.Outcome State Fault Refusal :=
  let s := s.silent
  .next (s.setOne r K.LANE_CMD (at_ 1 8 ||| at_ i 0))

/-- R99: LANE_CMD with CMD = 2, the error counter cleared. -/
def execLaneCmdClear (r : Req) (i : Fin 68) (s : State) : Host.Outcome State Fault Refusal :=
  let s := s.silent
  .next (s.setOne r K.LANE_CMD (at_ 2 8 ||| at_ i 0))

/-- R94: a write of BOND_CTL. -/
def execBondCtlWrite (r : Req) (w : Word) (s : State) : Host.Outcome State Fault Refusal :=
  let s := s.silent
  .next (s.setOne r K.BOND_CTL w)

/-- R144: LINK_CMD with CMD = 1, far-end loopback at a nib starts. -/
def execLinkCmdLoopbackStart (r : Req) (p : Fin 64) (pos : Fin 128) (s : State) : Host.Outcome State Fault Refusal :=
  let s := s.silent
  .next (s.setOne r K.LINK_CMD (at_ 1 24 ||| at_ pos 8 ||| at_ p 0))

/-- R144: LINK_CMD with CMD = 2, far-end loopback at a nib ends. -/
def execLinkCmdLoopbackEnd (r : Req) (p : Fin 64) (pos : Fin 128) (s : State) : Host.Outcome State Fault Refusal :=
  let s := s.silent
  .next (s.setOne r K.LINK_CMD (at_ 2 24 ||| at_ pos 8 ||| at_ p 0))

/-- R157: a write of CLK_LOOP (DEDUCED, log entry 40). -/
def execClkLoopWrite (r : Req) (i : Fin 17) (w : Word) (s : State) : Host.Outcome State Fault Refusal :=
  let s := s.silent
  .next (s.setOne r (K.CLK_LOOP i) w)

/-- R167: a write of TIME_SNAP. -/
def execTimeSnap (r : Req) (s : State) : Host.Outcome State Fault Refusal :=
  let s := s.silent
  .next (s.setOne r K.TIME_SNAP 1)

/-- R199: a 1 written to DUCT_CLAMP.VALID. -/
def execDuctClampRearm (r : Req) (s : State) : Host.Outcome State Fault Refusal :=
  let s := s.silent
  .next (s.setOne r K.DUCT_CLAMP 0x80000000)

/-- R199: a 1 written to DUCT_FAIL.VALID. -/
def execDuctFailRearm (r : Req) (s : State) : Host.Outcome State Fault Refusal :=
  let s := s.silent
  .next (s.setOne r K.DUCT_FAIL 0x80000000)

/-- R230: a 1 written to THERM_FAIL.VALID. -/
def execThermFailRearm (r : Req) (s : State) : Host.Outcome State Fault Refusal :=
  let s := s.silent
  .next (s.setOne r K.THERM_FAIL 0x80000000)

/-- R285: a 1 written to SC_CAPTURE.VALID. -/
def execScCaptureRearm (r : Req) (s : State) : Host.Outcome State Fault Refusal :=
  let s := s.silent
  .next (s.setOne r K.SC_CAPTURE 0x80000000)

/-- R309: a 1 written to FE_INFO.VALID. -/
def execFeInfoRearm (r : Req) (s : State) : Host.Outcome State Fault Refusal :=
  let s := s.silent
  .next (s.setOne r K.FE_INFO 0x80000000)

/-- R344: a 1 written to SAF_FAULT.VALID. -/
def execSafFaultRearm (r : Req) (s : State) : Host.Outcome State Fault Refusal :=
  let s := s.silent
  .next (s.setOne r K.SAF_FAULT 0x80000000)

/-- R451: a 1 written to INK_FIRST.VALID. -/
def execInkFirstRearm (r : Req) (s : State) : Host.Outcome State Fault Refusal :=
  let s := s.silent
  .next (s.setOne r K.INK_FIRST 0x80000000)

/-- R421: a write of CAN_RXSEL. -/
def execCanRxselWrite (r : Req) (w : Word) (s : State) : Host.Outcome State Fault Refusal :=
  let s := s.silent
  .next (s.setOne r K.CAN_RXSEL w)

/-- R461: a write of ADC_URG (DEDUCED, log entry 48). -/
def execAdcUrg (r : Req) (adc : Fin 4) (ch : Fin 32) (s : State) : Host.Outcome State Fault Refusal :=
  let s := s.silent
  .next (s.setOne r K.ADC_URG (at_ adc 8 ||| at_ ch 0))

/-- R437: a write of ARB_CTL. -/
def execArbCtlWrite (r : Req) (w : Word) (s : State) : Host.Outcome State Fault Refusal :=
  let s := s.silent
  .next (s.setOne r K.ARB_CTL w)

/-- R437: ARB_CMD revokes requester `i`. -/
def execArbCmdRevoke (r : Req) (i : Fin 8) (s : State) : Host.Outcome State Fault Refusal :=
  let s := s.silent
  .next (s.setOne r K.ARB_CMD (at_ 1 4 ||| at_ i 0))

/-- R452: a write of window words from word `k`. -/
def execInkWinWrite (r : Req) (k : Fin 64) (ws : List Word) (s : State) : Host.Outcome State Fault Refusal :=
  let s := s.silent
  .next (s.serve r 0x0011 roControl fun s i =>
    if ws = [] ∨ 64 < k + ws.length then badAt 3
    else s.write i 13 ((List.range ws.length).map fun n => (0xC0 + k + n, (ws[n]?).getD 0)) r.tick)

/-- R438: DMA_CMD starts a channel. -/
def execDmaStart (r : Req) (ch : Fin 8) (s : State) : Host.Outcome State Fault Refusal :=
  let s := s.silent
  .next (s.setOne r K.DMA_CMD (at_ 1 8 ||| at_ ch 0))

/-- R445: DMA_CMD cancels a channel. -/
def execDmaCancel (r : Req) (ch : Fin 8) (s : State) : Host.Outcome State Fault Refusal :=
  let s := s.silent
  .next (s.setOne r K.DMA_CMD (at_ 2 8 ||| at_ ch 0))

/-- R448: a write of BLOT_CMD.TRIGGER. -/
def execBlotCmdTrigger (r : Req) (s : State) : Host.Outcome State Fault Refusal :=
  let s := s.silent
  .next (s.setOne r K.BLOT_CMD 1)

end Sys2Proof.Machine
end

