-- ==== Sys2Proof/Machine/Txns.lean ====
section
/-! DEFINITION. The configuration lock and its transactions (R389–R391). -/

namespace Sys2Proof.Machine

/-- The refusal of a request that needs the session's own open transaction (R389, R390). -/
def State.needsTxn (s : State) (i : Nat) : Option Refuse :=
  match s.cmd.txn with
  | none => some (Refuse.at stNotInState 0)
  | some x =>
    if !s.owns i then some (Refuse.at stLocked 0)
    else if x.due.isSome then some (Refuse.at stNotInState 0) else none

def State.putTxn (s : State) (x : Txn) : State := { s with cmd := { s.cmd with txn := some x } }

/-- TXN_BEGIN (0x0014), R389 (DEDUCED, log entry 30). -/
def execTxnBegin (r : Req) (p : List Byte) (s : State) : Host.Outcome State Fault Refusal :=
  let s := s.silent
  .next (s.serve r 0x0014 roControl fun s i => noParams p
    (if s.lockedOut i then no stLocked else if s.owns i then no stNotInState else
      let n := (s.cmd.txnCount + 1) % 65536
      let x : Txn :=
        { slot := i, gen := (s.sess i).gen, number := n, leaseEnd := s.mono + 1000000 + b2n (decide (0 < r.tick.val)),
          staged := [], due := none, implicit := false }
      .done { s with cmd := { s.cmd with txn := some x, txnCount := n } } stOk (be 2 n ++ be 2 100)))

/-- LOCK_RENEW (0x0017), R389 (DEDUCED, log entry 30). -/
def execLockRenew (r : Req) (p : List Byte) (s : State) : Host.Outcome State Fault Refusal :=
  let s := s.silent
  .next (s.serve r 0x0017 roControl fun s i => noParams p
    (match s.cmd.txn with
    | none => no stNotInState
    | some x =>
      if !s.owns i then no stLocked else
      let left := 1000000 + b2n (decide (0 < r.tick.val))
      .done (s.putTxn { x with leaseEnd := if x.due.isSome then left else s.mono + left }) stOk (be 2 100)))

/-- TXN_ABORT (0x0016), R390. -/
def execTxnAbort (r : Req) (p : List Byte) (s : State) : Host.Outcome State Fault Refusal :=
  let s := s.silent
  .next (s.serve r 0x0016 roControl fun s i => noParams p
    (match s.needsTxn i with
    | some e => .refuse e
    | none => .done { s with cmd := { s.cmd with txn := none } } stOk []))

/-- The staged list with a later staging of words in place of earlier ones (R389). -/
def restage (old new : List (Nat × Word)) : List (Nat × Word) :=
  (old.filter fun p => !(new.any fun q => decide (q.1 = p.1))) ++ new

/-- PAGE_STAGE (0x0012), R389: RW words, and the load-all mask, which takes effect by commit. -/
def execPageStage (r : Req) (p : List Byte) (s : State) : Host.Outcome State Fault Refusal :=
  let s := s.silent
  .next (s.serve r 0x0012 roControl fun s i =>
    let page := beAt p 0 2
    if 2 ≤ p.length ∧ !pageExists page then .refuse { status := stBadPage, page := page, place := 0, check := 0 } else
    match pageWordsOf p with
    | none => badAt 3
    | some ws =>
      let live := liveWords page ws
      let bad (q : Nat × Word) : Bool := !(wordOk page q.1 q.2).2 || s.wordBad i page q.1 q.2
        || (match wordRow page q.1 with
          | some w => !decide (w.acc = .rw) && !decide (w.acc = .wo ∧ w.term = .commit)
          | none => false)
      match ws.find? bad with
      | some q => .refuse (Refuse.word stBadParam (key page q.1) 0)
      | none =>
        if s.follows ∧ page ∈ replicatedPages then .refuse (Refuse.word stNotInState (key page (beAt p 2 1)) 0) else
        match s.needsTxn i, s.cmd.txn with
        | some e, _ => .refuse e
        | none, none => no stNotInState
        | none, some x =>
          let all := restage x.staged (live.map fun q => (s.bindKey i page q.1, q.2.1))
          if 4096 < all.length then no stNoSpace else .done (s.putTxn { x with staged := all }) stOk [])

/-- The boundary that a TXN_COMMIT names, as an elapsed cycle; none when R390 refuses it (DEDUCED, log entry 30). -/
def State.commitDue (s : State) (l : List (Nat × Word)) (p : List Byte) (t : Nat) : Option Nat :=
  let first := s.earliest l t
  if beAt p 0 1 = 0 then some first else
  let d := (2 ^ 48 + beAt p 2 6 - s.cycle.toNat % 2 ^ 48) % 2 ^ 48
  if s.mono + d < first ∨ 100000 < d then none else some (s.mono + d)

/-- TXN_COMMIT (0x0015), R390 (DEDUCED, log entry 30). A refused commit of the owner's transaction leaves its mark in
TOPO_STATUS and LOOP_CHECK, whatever refused it (R32, R255). -/
def execTxnCommit (r : Req) (p : List Byte) (s : State) : Host.Outcome State Fault Refusal :=
  let s := s.silent
  .next (s.serve r 0x0015 roControl fun s i =>
    if p.length ≠ 8 then badAt 0 else
    let form : Option Refuse :=
      if 1 < beAt p 0 1 then some (Refuse.at stBadParam 0) else if beAt p 1 1 ≠ 0 then some (Refuse.at stBadParam 1) else none
    match s.cmd.txn, form with
    | none, some e => .refuse e
    | none, none => no stNotInState
    | some x, form =>
      if !s.owns i then (match form with | some e => .refuse e | none => no stLocked)
      else if x.due.isSome then (match form with | some e => .refuse e | none => no stNotInState) else
      let due := s.commitDue x.staged p r.tick
      let late := if due.isNone then some (Refuse.at stBadParam 2) else none
      match ([form, late, s.commitBad x.staged, s.commitState x.staged, s.commitLock x.staged] : List (Option Refuse)).findSome? id,
        due with
      | some e, _ => .fails (s.noteRefused x.staged) e
      | none, some due => .later (s.startCommit i { x with leaseEnd := x.leaseEnd - s.mono } due) .commit
      | none, none => no stBadParam)

/-- R390: the pending commit's boundary has come: every staged word takes effect together, the lock is released and the
reply goes out (DEDUCED, log entry 30). -/
def execCommitTakesEffect (s : State) : Host.Outcome State Fault Refusal :=
  let s := s.silent
  match s.cmd.txn with
  | none => .next s
  | some x =>
    match x.due with
    | none => .next s
    | some due =>
      if s.mono < due then .next s else
      let s := s.commitWords x.staged x.slot (BitVec.ofNat 16 (x.gen * 8 + x.slot))
      let s := { s with cmd := { s.cmd with txn := none } }
      .next (s.replyTo x.slot .commit stOk (be 6 ((s.cycle.toNat - (s.mono - due)) % 2 ^ 48)))

/-- R391: the first cycle boundary at or after the lease's end (DESIGN CHOICE, log entry 6; DEDUCED, log entry 30). -/
def execLeaseTimeout (s : State) : Host.Outcome State Fault Refusal :=
  let s := s.silent
  match s.cmd.txn with
  | none => .next s
  | some x => .next (if x.due.isNone ∧ x.leaseEnd ≤ s.mono then s.dropTxn else s)

end Sys2Proof.Machine
end

