-- ==== Sys2Proof/Machine/Commands.lean ====
section
/-! DEFINITION. The commands on module states, cells and loops (R136, R137, R249–R251, R384, R397, R398), with the records
by which a pair holder forwards them (R359). -/

namespace Sys2Proof.Machine

/-! ## Replicated commands -/

/-- Record kinds of the model (R363 gives a KIND byte without its values: DESIGN CHOICE, log entry 15). -/
def rkOpen : Nat := 2
def rkClose : Nat := 3
def rkCoeff : Nat := 4
def rkEnum : Nat := 5
def rkAdmit : Nat := 6
def rkRetire : Nat := 7
def rkBypass : Nat := 8
def rkReset : Nat := 9
def rkMode : Nat := 10

/-- A record that only the partner applies from the frame: the own side holds the command in its own queue
(DEDUCED, log entry 55). -/
def State.sendRecord (s : State) (kind slot page offset effect : Nat) (value : Word) : State :=
  let o := s.pairOps
  let rec_ : RepRec :=
    { seq := o.recSeq + 1, kind := kind, slot := slot, page := page, offset := offset, effect := effect, value := value }
  { s with pairOps := { o with recSeq := o.recSeq + 1, toSend := o.toSend ++ [rec_] } }

/-! ## Module states -/

/-- The stack mask of a CHARGING request: 0 stands for every enabled stack (R384). -/
def State.preMask (s : State) (mask : Nat) : Nat := if mask = 0 then maskOf 16 s.stackEn else mask

/-- A commit is pending (R390). -/
def State.commitPending (s : State) : Bool := match s.cmd.txn with | some x => x.due.isSome | none => false

/-- MODE_SET (0x0020), R397 (DEDUCED, log entry 31). -/
def execModeSet (r : Req) (p : List Byte) (s : State) : Host.Outcome State Fault Refusal :=
  let s := s.silent
  .next (s.serve r 0x0020 roControl fun s i =>
    if p.length ≠ 4 then badAt 0 else if beAt p 1 1 ≠ 0 then badAt 1 else
    match modOfCode (beAt p 0 1) with
    | none => badAt 0
    | some dst =>
      if s.follows then no stNotInState
      else if dst = s.sys.mode then .done s stOk []
      else
        let mask := s.preMask (beAt p 2 2)
        if !s.mayMode dst mask then no stNotInState
        else if s.commitPending ∨ s.sys.modeReq.isSome then no stBusy
        else
          let due := s.mono + (if s.pairSide then 2 else 1)
          let s := { s with sys := { s.sys with modeReq := some { target := dst, mask := mask, due := due, slot := i } } }
          let s := if s.leads then
              (s.sendRecord rkMode i 0 (modCode dst) due (BitVec.ofNat 32 mask)).awaitAck i
            else s
          .later s .mode)

/-- The stack-wide pre-charge begins (R398): its operation, phase 1 of every stack and the admission of FOUND cells. -/
def State.startPrecharge (s : State) (mask : Nat) : State :=
  let s := s.opStart 0x20 0 1000 mask
  ((List.range 16).filter fun k => mask.testBit k).foldl (fun (s : State) (k : Nat) =>
    let s := s.setSchStack k { s.schStack k with phase := 1, phaseRun := 0 }
    (s.stackCells k).foldl (fun (s : State) (ci : Nat) =>
      if s.svc ci = .found ∧ (s.mg ci).step = 0 then s.startAdmit ci 0 else s) s) s

/-- A MODE_SET's transition with its actions (R397) (DEDUCED, log entry 31). -/
def State.enterMode (s : State) (dst : ModState) (mask : Nat) : State :=
  let s := if dst = .config ∨ dst = .service then s.retireAll else s
  let s := s.setMode dst 1
  if dst = .charging then s.startPrecharge mask else s

/-- The reply of a transition at its boundary: ACCEPTED with the OPID for a pre-charge, else OK. -/
def State.modeReply (s : State) (q : ModeReq) : State :=
  if q.target = .charging then s.replyTo q.slot .mode stAccepted (be 2 s.cmd.lastOp) else s.replyTo q.slot .mode stOk []

/-- The automatic transition whose cause has been detected: an island request governs over a MODULE-class event
(R397). -/
def State.autoTarget (s : State) : Option (ModState × Nat) :=
  if s.sys.mode = .boot ∨ s.sys.mode = .safeHold then none
  else if s.safeHoldRequest then some (.safeHold, 3)
  else if s.sys.blockReq ∧ s.sys.mode ≠ .blocked then some (.blocked, 2) else none

/-- `MODE_TRANSITION` (R397): at a boundary an automatic transition governs over a MODE_SET that is due, whose
conditions are checked again (DEDUCED, log entry 31). -/
def execModeTransition (s : State) : Host.Outcome State Fault Refusal :=
  let s := s.silent
  let auto := s.autoTarget
  let s := match auto with
    | some a => s.setMode a.1 a.2
    | none => { s with sys := { s.sys with blockReq := s.sys.blockReq && decide (s.sys.mode = ModState.boot) } }
  match s.sys.modeReq with
  | none => .next s
  | some q =>
    if s.mono < q.due then .next s else
    let s := { s with sys := { s.sys with modeReq := none } }
    if auto.isSome ∨ !s.mayMode q.target q.mask then
      .next (s.replyTo q.slot .mode stNotInState (s.detail (Refuse.at stNotInState 0)))
    else .next ((s.enterMode q.target q.mask).modeReply q)

/-- MODE_GET (0x0021), R384 (DEDUCED, log entry 31). -/
def execModeGet (r : Req) (p : List Byte) (s : State) : Host.Outcome State Fault Refusal :=
  let s := s.silent
  .next (s.serve r 0x0021 roMonitor fun s _ => noParams p
    (.done s stOk (wordBytes s.sysState ++ wordBytes s.sys.lastChg ++ be 4 s.blocked)))

/-- Station time at tick `t` of the present cycle (R158): seconds, nanoseconds, 2⁻¹⁶ ns. -/
def State.stationTime (s : State) (t : Nat) : Nat × Nat × Nat :=
  let n := s.cycle.toNat
  let ps := t * 160
  (n / 100000, n % 100000 * 10000 + ps / 1000, ps % 1000 * 65536 / 1000)

/-- PING (0x0003), R384. -/
def execPing (r : Req) (p : List Byte) (s : State) : Host.Outcome State Fault Refusal :=
  let s := s.silent
  .next (s.serve r 0x0003 roMonitor fun s _ =>
    if 64 < p.length then badAt 64 else
    let x := s.stationTime r.tick
    .done s stOk (be 8 x.1 ++ be 4 x.2.1 ++ be 2 x.2.2 ++ be 1 (modCode s.sys.mode) ++ [0] ++ p))

/-! ## Cells -/

/-- A string is lit: one of its ports is enabled and out of electrical idle (R136). -/
def State.stringLit (s : State) (b : Nat) : Bool :=
  (s.usedPorts b).any fun q => W.LANE_CTL_EN (s.laneCtl q) && !W.LANE_CTL_EIDLE (s.laneCtl q)

/-- Positions that an enumeration completes: every one not in CHARGING or INSERTED on a lit string, the enabled ones among
them on a dark one (R136; DEDUCED, log entry 32). -/
def State.enumCells (s : State) (b : Nat) : List Nat :=
  (s.stringCells b).filter fun ci => !s.inService ci && (s.stringLit b || s.enabled ci)

/-- One string of an enumeration (R136): IDENTIFY to every position of a lit string, MISSING at once in a dark one
(DEDUCED, log entry 32). -/
def State.enumString (s : State) (op b : Nat) : State :=
  let cells := s.enumCells b
  if s.stringLit b then
    let x := s.str b
    let s := s.setStr b { x with
      enumOp := op, enumCount := some x.found, enumLeft := cells.map fun ci => ci - 48 * b }
    cells.foldl (fun (s : State) (ci : Nat) => (s.admitMeasure ci).request ci 1 []) s
  else
    let s := cells.foldl (fun (s : State) (ci : Nat) =>
      s.enumMissing ci) s
    s.opUpd op fun o => { o with done := o.done + cells.length }

/-- Strings in the scope of an enumeration. -/
def State.enumScope (s : State) (scope port : Nat) : List Nat := if scope = 0 then s.strings else [port]

/-- An enumeration starts; with no lit string in scope it is done at once (DEDUCED, log entry 32). -/
def State.enumerate (s : State) (op scope port : Nat) : State :=
  let bs := s.enumScope scope port
  let s := bs.foldl (fun (s : State) (b : Nat) => s.enumString op b) s
  if bs.any s.stringLit then s else s.opEnd op 1 0

/-- CELL_ENUMERATE (0x0030), R136. -/
def execCellEnumerate (r : Req) (p : List Byte) (s : State) : Host.Outcome State Fault Refusal :=
  let s := s.silent
  .next (s.serve r 0x0030 roControl fun s i =>
    let scope := beAt p 0 1
    let port := beAt p 1 1
    if p.length ≠ 2 ∨ 1 < scope then badAt 0
    else if scope = 1 ∧ (64 ≤ port ∨ !s.configured port ∨ s.basePort port ≠ port) then badAt 1
    else if s.follows then no stNotInState
    else if s.opsRunning 0x30 ≠ [] then no stBusy
    else
      let total := ((s.enumScope scope port).flatMap s.enumCells).length
      let s := s.opStart 0x30 1 total port
      let op := s.cmd.lastOp
      let s := if s.leads then
          (s.addRecord rkEnum 0 op 0 (s.mono + 2) (BitVec.ofNat 32 (scope * 256 + port))).awaitAck i
        else s.enumerate op scope port
      .done s stAccepted (be 2 op))

/-- CELL_ADMIT (0x0031), R137. -/
def execCellAdmit (r : Req) (p : List Byte) (s : State) : Host.Outcome State Fault Refusal :=
  let s := s.silent
  .next (s.serve r 0x0031 roControl fun s i =>
    let ci := beAt p 0 2
    let m := s.sys.mode
    if p.length ≠ 2 ∨ 3072 ≤ ci then badAt 0
    else if s.follows ∨ !(decide (m = .standby ∨ m = .charging ∨ m = .ready ∨ m = .run)) ∨ s.svc ci ≠ .found
        ∨ (s.mg ci).step ≠ 0 ∨ (s.opsRunning 0x31).any (fun o => decide (o.arg = ci)) then no stNotInState
    else if 64 ≤ (s.opsRunning 0x31).length then no stBusy
    else
      let s := s.opStart 0x31 1 6 ci
      let op := s.cmd.lastOp
      let s := if s.leads then (s.addRecord rkAdmit 0 op 0 (s.mono + 2) (BitVec.ofNat 32 ci)).awaitAck i
        else s.startAdmit ci op
      .done s stAccepted (be 2 op))

/-- A cell is RETIRED (R384): RETIRE is sent, and an admission under way ends. -/
def State.retire (s : State) (ci : Nat) : State :=
  let s := if (s.mg ci).step = 0 then s else s.opEnd (s.mg ci).op 2 0x0201
  (s.backToFound ci).setCell ci { (s.backToFound ci).cell ci with retired := true }

/-- CELL_RETIRE (0x0032), R384. -/
def execCellRetire (r : Req) (p : List Byte) (s : State) : Host.Outcome State Fault Refusal :=
  let s := s.silent
  .next (s.serve r 0x0032 roControl fun s i =>
    let ci := beAt p 0 2
    if p.length ≠ 2 ∨ 3072 ≤ ci then badAt 0
    else if s.follows ∨ s.sys.mode = .config then no stNotInState
    else match s.svc ci with
      | .retired => .done s stOk []
      | .disabled | .missing | .bypassed => no stNotInState
      | _ =>
        .done (if s.leads then (s.addRecord rkRetire 0 0 0 (s.mono + 2) (BitVec.ofNat 32 ci)).awaitAck i else s.retire ci)
          stOk [])

/-- The bypass element of a cell is commanded closed (R14, R123). -/
def State.commandBypass (s : State) (ci : Nat) : State :=
  s.setCell ci { s.cell ci with bypReq := true, bypCmd := true }

/-- CELL_BYPASS (0x0033), R14, R384. -/
def execCellBypass (r : Req) (p : List Byte) (s : State) : Host.Outcome State Fault Refusal :=
  let s := s.silent
  .next (s.serve r 0x0033 roControl fun s i =>
    let ci := beAt p 0 2
    if p.length ≠ 8 ∨ 3072 ≤ ci then badAt 0
    else if beAt p 2 2 ≠ 0 then badAt 2
    else if beAt p 4 4 ≠ (s.cell ci).seen.toNat then badAt 4
    else if s.follows then no stNotInState
    else match s.svc ci with
      | .bypassed => .done s stOk []
      | .disabled | .missing => no stNotInState
      | _ =>
        .done (if s.leads then (s.addRecord rkBypass 0 0 0 (s.mono + 2) (BitVec.ofNat 32 ci)).awaitAck i
          else s.commandBypass ci) stOk [])

/-! ## Loops -/

/-- LOOP_OPEN (0x0040), R249. -/
def execLoopOpen (r : Req) (p : List Byte) (s : State) : Host.Outcome State Fault Refusal :=
  let s := s.silent
  .next (s.serve r 0x0040 roControl fun s i =>
    let n := beAt p 0 1
    let v : Word := BitVec.ofNat 32 (beAt p 2 4)
    let hold := decide (beAt p 1 1 = 1)
    if p.length ≠ 6 then badAt 0 else if 1 < beAt p 1 1 then badAt 1
    else if !fFinite v then badAt 2
    else if !s.slotEn n then badAt 0
    else if s.follows then no stNotInState
    else
      .done (if s.leads then (s.addRecord rkOpen n 0 (beAt p 1 1) (s.mono + 2) v).awaitAck i
        else s.openSlot n (if hold then some v else none)) stOk [])

/-- LOOP_CLOSE (0x0041), R250. -/
def execLoopClose (r : Req) (p : List Byte) (s : State) : Host.Outcome State Fault Refusal :=
  let s := s.silent
  .next (s.serve r 0x0041 roControl fun s i =>
    let n := beAt p 0 1
    if p.length ≠ 1 then badAt 0
    else if !(s.slot n).closed ∧ !s.mayClose n then badAt 0
    else if s.follows then no stNotInState
    else if (s.slot n).closed then .done s stOk []
    else .done (if s.leads then (s.addRecord rkClose n 0 0 (s.mono + 2) 0).awaitAck i else s.closeSlot n) stOk [])

/-- LOOP_COEFF_SET (0x0042), R251. -/
def execLoopCoeffSet (r : Req) (p : List Byte) (s : State) : Host.Outcome State Fault Refusal :=
  let s := s.silent
  .next (s.serve r 0x0042 roControl fun s i =>
    let n := beAt p 0 1
    let f := beAt p 1 1
    let c := beAt p 2 1
    let vs := bytesWords c (p.drop 4)
    if p.length ≠ 4 + 4 * c ∨ c = 0 ∨ 16 < f + c then badAt 2
    else if beAt p 3 1 ≠ 0 then badAt 3
    else match (List.range c).find? fun k => !coeffOk (f + k) ((vs[k]?).getD 0) with
      | some k => badAt (4 + 4 * k)
      | none =>
        if s.follows then no stNotInState
        else if (s.slot n).closed ∨ (s.slot n).susp then
          .refuse { status := stLoopClosed, page := 0xFFFF, place := 0, check := 0 }
        else if s.leads then
          let s := (List.range c).foldl (fun (s : State) (k : Nat) =>
            s.addRecord rkCoeff n 0 (f + k) (s.mono + 2) ((vs[k]?).getD 0)) s
          .done (s.awaitAck i) stOk []
        else .done (s.setCoeffs n f vs) stOk [])

/-! ## FAULT_RESET -/

/-- FAULT_RESET (0x0061), R307: it acts at the first boundary after acceptance, or at EFFECT in a pair
(DEDUCED, log entry 31). -/
def execFaultReset (r : Req) (p : List Byte) (s : State) : Host.Outcome State Fault Refusal :=
  let s := s.silent
  .next (s.serve r 0x0061 roControl fun s i =>
    let scope := beAt p 0 1
    let index := beAt p 1 2
    let inst := beAt p 3 2
    if p.length ≠ 5 ∨ 3 < scope then badAt 0
    else if (scope = 1 ∧ 16 ≤ index) ∨ (scope = 2 ∧ 3072 ≤ index) then badAt 1
    else if scope ≠ 3 ∧ inst ≠ 0 then badAt 3
    else if s.follows then no stNotInState
    else
      let due := s.mono + (if s.pairSide then 2 else 1)
      let s := { s with evt := { s.evt with resets := s.evt.resets ++ [(scope, index, inst, due, i)] } }
      let s := if s.leads then
          (s.sendRecord rkReset i index scope due (BitVec.ofNat 32 inst)).awaitAck i
        else s
      .later s .reset)

/-- `FAULT_RESET_APPLY` (R307): the boundary of an accepted FAULT_RESET has come. -/
def execFaultResetApply (s : State) : Host.Outcome State Fault Refusal :=
  let s := s.silent
  let due := s.evt.resets.filter fun x => decide (x.2.2.2.1 ≤ s.mono)
  let s := { s with evt := { s.evt with resets := s.evt.resets.filter fun x => decide (s.mono < x.2.2.2.1) } }
  .next (due.foldl (fun (s : State) (x : Nat × Nat × Nat × Nat × Nat) =>
    let y := s.faultReset x.1 x.2.1 x.2.2.1
    y.1.replyTo x.2.2.2.2 .reset stOk (be 2 y.2.1 ++ be 2 y.2.2)) s)

/-! ## The pair -/

/-- PAIR_STATUS (0x0090), R369. -/
def execPairStatus (r : Req) (p : List Byte) (s : State) : Host.Outcome State Fault Refusal :=
  let s := s.silent
  .next (s.serve r 0x0090 roMonitor fun s i => noParams p
    (.done s stOk ([3, 4, 5, 6].flatMap fun o => wordBytes (s.readWord i 11 o))))

/-- The boundary of a handover agreed now (R367): three cycles after the next frame to leave, which leaves at tick
52,500 (DEDUCED, log entry 22). -/
def State.handoverAt (s : State) (t : Nat) : Nat := s.mono + (if t < 52500 then 3 else 4)

/-- PAIR_HANDOVER (0x0091), R369. -/
def execPairHandover (r : Req) (p : List Byte) (s : State) : Host.Outcome State Fault Refusal :=
  let s := s.silent
  .next (s.serve r 0x0091 roControl fun s _ =>
    let dst := beAt p 0 1
    if p.length ≠ 1 ∨ 1 < dst then badAt 0
    else if !s.leads then no stNotInState
    else if dst = b2n s.sideB then .done s stOk []
    else if !s.pair.pReady then no stNotInState
    else
      let h := s.pairOps.handover.getD (s.handoverAt r.tick)
      let s := { s with pairOps := { s.pairOps with handover := some h, isReversion := false } }
      .done s stOk (be 2 ((s.cycle.toNat + (h - s.mono)) % 65536)))

end Sys2Proof.Machine
end

