-- ==== Sys2Proof/Machine/Trust.lean ====
section
/-! DEFINITION. Long operations and the stores: OP_STATUS and OP_CANCEL (R393–R395), the Blotter's readout (R447, R449),
EVENTS_READ (R386), firmware images and key lists (R474–R479, R486), attestation (R481), settings generations
(R482–R484) and the journal as it reads (R487–R491). -/

namespace Sys2Proof.Machine

/-! ## Long operations -/

/-- DONE of a burn that has run for `n` cycles: a word takes 100 µs (10 cycles), 1,023 words make 950, and the comparison
of CHECK makes 975 (R484) (DEDUCED, log entry 34). -/
def burnDone (n : Nat) : Nat := if n / 10 < 1023 then n / 10 * 950 / 1023 else 975

/-- The record of OP_STATUS (R393). A burn shows 0.1 % steps (R392, R484), not the bytes of its payload
(DEDUCED, log entry 34). -/
def State.opBytes (s : State) (o : OpRec) : List Byte :=
  let burns := decide (o.opcode = 0x83 ∧ o.state = 0) && s.boot.burn.isSome
  be 2 o.id ++ be 2 o.opcode ++ be 1 o.state ++ be 1 o.kind ++ be 2 o.status
    ++ be 4 (if burns then burnDone (s.mono - o.last) else o.done) ++ be 4 (if o.opcode = 0x83 then 1000 else o.total)

/-- OP_STATUS (0x0070), R393. -/
def execOpStatus (r : Req) (p : List Byte) (s : State) : Host.Outcome State Fault Refusal :=
  let s := s.silent
  .next (s.serve r 0x0070 roMonitor fun s _ =>
    if p.length ≠ 2 then badAt 0 else
    match s.opRec (beAt p 0 2) with
    | none => badAt 0
    | some o => .done s stOk (s.opBytes o))

/-- An enumeration stops; the positions done keep their results (R394). -/
def State.stopEnum (s : State) (op : Nat) : State :=
  (s.strings.filter fun b => decide ((s.str b).enumOp = op)).foldl (fun (s : State) (b : Nat) =>
    let x := s.str b
    let s := x.enumLeft.foldl (fun (s : State) (i : Nat) => s.setMg (48 * b + i) { s.mg (48 * b + i) with await := 0, req := [] }) s
    s.setStr b { s.str b with enumOp := 0, enumLeft := [] }) s

/-- The slot that FW_LOAD writes: the one that is not running (R479). -/
def State.otherSlot (s : State) : Nat := 1 - s.boot.run

/-- A firmware load ends without a valid image: what the slot holds is discarded. -/
def State.dropImage (s : State) (o : OpRec) : State :=
  if o.opcode = 0x80 ∧ beAt o.data 4 1 = 1 then
    let s := s.setFwSlot s.otherSlot { valid := false, image := [] }
    { s with boot := { s.boot with loading := false } }
  else s

/-- What OP_CANCEL does to a running operation (R394); none when it is refused (DEDUCED, log entry 33). -/
def State.cancelOp (s : State) (o : OpRec) : Option State :=
  match o.opcode with
  | 0x30 => some ((s.stopEnum o.id).opEnd o.id 3 0)
  | 0x31 => some ((s.opEnd o.id 3 0).backToFound o.arg)
  | 0x20 => some (s.endPrecharge o false)
  | 0x83 => if s.boot.burn.isSome then none else some (s.opEnd o.id 3 0)
  | _ => some ((s.dropImage o).opEnd o.id 3 0)

/-- OP_CANCEL (0x0071), R394 (DEDUCED, log entry 33). -/
def execOpCancel (r : Req) (p : List Byte) (s : State) : Host.Outcome State Fault Refusal :=
  let s := s.silent
  .next (s.serve r 0x0071 roControl fun s _ =>
    if p.length ≠ 2 then badAt 0 else
    match s.opRec (beAt p 0 2) with
    | none => badAt 0
    | some o =>
      if o.state ≠ 0 then .done s stOk []
      else match s.cancelOp o with
        | none => no stNotInState
        | some t => .done t stOk [])

/-- `CHUNK_TIMEOUT` (R395): 30 s without a chunk; a burn that has begun runs to its own end (DEDUCED, log entry 33). -/
def execChunkTimeout (op : BitVec 16) (s : State) : Host.Outcome State Fault Refusal :=
  let s := s.silent
  match s.opRec op.toNat with
  | none => .next s
  | some o =>
    if o.state ≠ 0 ∨ o.opcode ∉ [0x80, 0x83, 0x51] ∨ (o.opcode = 0x83 ∧ s.boot.burn.isSome)
        ∨ s.mono < o.last + 3000000 then .next s
    else .next ((s.dropImage o).opEnd o.id 2 stBusy)

/-! ## The Blotter's readout -/

/-- TRACE_ARM (0x0050), R447 (DEDUCED, log entry 33). -/
def execTraceArm (r : Req) (p : List Byte) (s : State) : Host.Outcome State Fault Refusal :=
  let s := s.silent
  .next (s.serve r 0x0050 roControl fun s _ =>
    if p.length ≠ 1 ∨ 1 < beAt p 0 1 then badAt 0
    else if s.readoutRuns then no stNotInState
    else
      let b := s.ink.blot
      let running := decide (b.st = 1 ∨ b.st = 2 ∨ b.st = 3)
      let put (b : Blot) : State := { s with ink := { s.ink with blot := b } }
      let s := if beAt p 0 1 = 0 then put { b with st := if running then 4 else 0 }
        else if running then s
        else (put { b with st := 1, total := 0, trig := none, prev := none, fifo := [], lostRows := [] }).blotState
      .done s stOk [])

/-- A value of an absolute row of the capture, from the writer's FIFO while it stands there (R446, R449). -/
def State.rowValue (s : State) (row n : Nat) : List Byte :=
  let a := (row % s.blotDepth * rowStride s.blotN + n) * 4
  if row ∈ s.ink.blot.lostRows then wordBytes 0x7FC00001
  else match s.ink.blot.fifo.find? fun x => decide (x.1 = row) with
  | some x => wordBytes ((x.2[n]?).getD 0)
  | none => if s.inkPoisoned (a / 128) then wordBytes 0x7FC00002 else s.inkBytes a 4

/-- The readout's header (R449). -/
def State.traceHeader (s : State) : List Byte :=
  let b := s.ink.blot
  let n := s.blotN
  let rows := s.blotRows
  let first := s.blotFirst
  let div := W.BLOT_CTL_DIV (s.word K.BLOT_CTL)
  let lost := b.lostRows.any fun i => decide (first ≤ i ∧ i < first + rows)
  let fcyc := (b.lastCyc.toNat + 2 ^ 64 - (b.total - 1 - first) * 2 ^ div) % 2 ^ 48
  be 4 (32 + 4 * n) ++ be 1 n ++ be 1 (rowStride n) ++ be 1 div ++ be 1 (b2n b.trig.isSome + 2 * b2n lost) ++ be 4 rows
    ++ (match b.trig with | some x => be 4 (x.1 - first) | none => be 4 0xFFFFFFFF)
    ++ be 6 fcyc ++ (match b.trig with | some x => be 6 (x.2.toNat % 2 ^ 48) | none => be 6 0) ++ be 4 0
    ++ (List.range n).flatMap fun i => wordBytes (s.word (K.BLOT_SRC i))

/-- TOTAL of a readout (R449). -/
def State.traceTotal (s : State) : Nat := 32 + 4 * s.blotN + 4 * s.blotN * s.blotRows

/-- Up to `n` bytes of the readout from an offset. -/
def State.traceBytes (s : State) (off n : Nat) : List Byte :=
  let h := s.traceHeader
  (List.range (min n (s.traceTotal - off))).map fun i =>
    let a := off + i
    if a < h.length then byteAt h a
    else
      let v := (a - h.length) / 4
      byteAt (s.rowValue (s.blotFirst + v / max 1 s.blotN) (v % max 1 s.blotN)) (a % 4)

/-- TRACE_READ (0x0051), R395, R449 (DEDUCED, log entry 33). -/
def execTraceRead (r : Req) (p : List Byte) (s : State) : Host.Outcome State Fault Refusal :=
  let s := s.silent
  .next (s.serve r 0x0051 roMonitor fun s i =>
    let id := beAt p 0 2
    let off := beAt p 2 4
    let me := (s.sidOf i).toNat
    if p.length ≠ 6 then badAt 0
    else if id = 0 then
      if s.ink.blot.st ≠ 4 then no stNotInState
      else if (s.opsRunning 0x51).any fun o => decide (o.arg = me) then no stBusy
      else
        let s := s.opStart 0x51 1 s.traceTotal me
        .done s stAccepted (be 2 s.cmd.lastOp ++ be 4 s.traceTotal)
    else match s.opRec id with
      | none => badAt 0
      | some o =>
        if o.opcode ≠ 0x51 ∨ o.state ≠ 0 ∨ o.arg ≠ me then no stNotInState
        else
          let data := s.traceBytes off 1024
          let got := if data = [] then o.done else min o.total (max o.done (off + data.length))
          let s := s.opUpd id fun x => { x with done := got, last := s.mono }
          .done (if got = o.total then s.opEnd id 1 0 else s) stOk data)

/-! ## Events -/

/-- The 24 bytes of a queue entry (R308). -/
def EvEntry.bytes (e : EvEntry) : List Byte :=
  be 2 e.code.toNat ++ be 2 (e.kind.toNat * 4096 + e.inst.toNat) ++ wordBytes e.seq ++ be 6 e.cycle.toNat
    ++ be 2 e.tick.toNat ++ wordBytes e.detail ++ [0, 0, 0, 0]

/-- The event log and the entries not yet copied into it (R386) (DEDUCED, log entry 13). -/
def State.allEvents (s : State) : List EvEntry :=
  s.jrnl.events ++ keepLast s.evt.uncopied s.evt.queue

/-- Entries that follow one another without a gap, from sequence `q`: a gap ends a reply, so that the next one shows
LOST (R386, R488) (DEDUCED, log entry 13). -/
def contiguous : Word → List EvEntry → List EvEntry
  | _, [] => []
  | q, e :: r => if e.seq = q then e :: contiguous (q + 1) r else []

/-- EVENTS_READ (0x0060), R386 (DEDUCED, log entry 13). -/
def execEventsRead (r : Req) (p : List Byte) (s : State) : Host.Outcome State Fault Refusal :=
  let s := s.silent
  .next (s.serve r 0x0060 roMonitor fun s _ =>
    let from_ : Word := BitVec.ofNat 32 (beAt p 0 4)
    let n := beAt p 4 1
    if p.length ≠ 5 then badAt 0 else if !inRange 1 42 n then badAt 4 else
    let l := s.allEvents.dropWhile fun e => decide (2 ^ 31 ≤ (e.seq - from_).toNat)
    match l with
    | [] => .done s stOk (wordBytes from_ ++ [0, 0, 0, 0])
    | e :: _ =>
      let got := (contiguous e.seq l).take n
      let lost := decide (e.seq ≠ from_) && !(decide (from_ = 0) && decide (e.seq = 1))
      .done s stOk (wordBytes (e.seq + BitVec.ofNat 32 got.length) ++ be 1 got.length ++ be 1 (b2n lost) ++ [0, 0]
        ++ got.flatMap EvEntry.bytes))

/-! ## Chunked writes -/

/-- The reply to a chunk: ACCEPTED with the OPID for the first, the bytes received for a later one (R395). -/
def chunkReply (s : State) (first : Bool) (id got : Nat) : Answer :=
  if first then .done s stAccepted (be 2 id) else .done s stOk (be 4 got)

/-- A chunk enters its operation; `finish` sees the operation that has reached TOTAL (DEDUCED, log entry 33). -/
def State.takeChunk (s : State) (first : Bool) (id : Nat) (data : List Byte) (each : State → OpRec → State)
    (finish : State → OpRec → State) : Answer :=
  match s.opRec id with
  | none => badAt 0
  | some o =>
    let o := { o with data := o.data ++ data, done := o.data.length + data.length, last := s.mono }
    let s := each (s.opUpd id fun _ => o) o
    chunkReply (if o.data.length = o.total then finish s o else s) first id o.data.length

/-- A chunked write (R395), where the module's state allows it: `refuse1` and `fails1` judge the first chunk's TOTAL and
data and may fail the operation at once (DEDUCED, log entry 33). -/
def State.chunk (s : State) (opcode kind : Nat) (allowed : Bool) (p : List Byte) (refuse1 : Nat → List Byte → Option Answer)
    (fails1 : Nat → List Byte → Bool) (each finish : State → OpRec → State) : Answer :=
  let id := beAt p 0 2
  let off := beAt p 2 4
  let total := beAt p 6 4
  let data := p.drop 10
  if p.length < 10 ∨ 1024 < data.length then badAt 0
  else if id = 0 then
    if off ≠ 0 then badAt 2
    else if total < data.length then badAt 6
    else if !allowed then no stNotInState
    else match refuse1 total data with
      | some a => a
      | none =>
        if s.opsRunning opcode ≠ [] then no stBusy else
        let s := s.opStart opcode kind total 0
        let n := s.cmd.lastOp
        if fails1 total data then .done (s.opEnd n 2 stBadParam) stAccepted (be 2 n)
        else s.takeChunk true n data each finish
  else match s.opRec id with
    | none => badAt 0
    | some o =>
      if off ≠ o.data.length then badAt 2
      else if total ≠ o.total ∨ o.total < off + data.length then badAt 6
      else if !allowed ∨ o.opcode ≠ opcode ∨ o.state ≠ 0 then no stNotInState
      else s.takeChunk false id data each finish

/-! ## Images and key lists -/

/-- Both header signatures verify under a pair of public keys, Ed25519 then ML-DSA-65 (R474)
(DESIGN CHOICE, log entry 21). -/
def imgSigned (keys b : List Byte) : Bool :=
  Config.edVerify (keys.take 32) (b.take 128) ((b.drop 128).take 64)
    && Config.mlVerify (keys.drop 32) (b.take 128) ((b.drop 192).take 3309)

/-- BODY_HASH holds (R474) (DESIGN CHOICE, log entry 21). -/
def imgHashed (b : List Byte) : Bool := decide ((b.drop 20).take 64 = Config.sha512 ((b.drop 4096).take (imgBodyLen b)))

/-- R474: an image's header fails with BAD_PARAM, or its length is not the one the header gives. -/
def State.imgBad (s : State) (b : List Byte) : Bool := !s.imgChecks b || decide (b.length ≠ 4096 + imgBodyLen b)

/-- The end of a firmware image's load (R475, R479). -/
def State.imageLoaded (s : State) (o : OpRec) : State :=
  let b := o.data
  let k := s.otherSlot
  let s := { s with boot := { s.boot with loading := false } }
  if s.imgBad b then s.opEnd o.id 2 stBadParam
  else if !imgSigned Config.romKeys b || !imgHashed b then s.opEnd o.id 2 stSigFail
  else ((s.setFwSlot k { valid := true, image := b }).opEnd o.id 1 stOk).raise 0x0F06 k 0 0

/-- An entry of a key list keeps the table of R486. -/
def keyEntryOk (e : List Byte) : Bool :=
  decide (beAt e 0 4 ≠ 0) && decide (beAt e 4 1 ≤ 2) && decide (beAt e 5 1 ≤ 1) && decide (beAt e 6 2 = 0)

def entryId (e : List Byte) : Nat := beAt e 0 4
def entryWithdrawn (e : List Byte) : Bool := (byteAt e 5).getLsbD 0

/-- R474, R486: a key list fails with BAD_PARAM. -/
def State.keyListBad (s : State) (b : List Byte) : Bool :=
  let es := keyEntries b
  let n := beAt b (4096 + 1984) 1
  let newer := match s.keyList with
    | none => true
    | some l => decide (beAt l 8 4 < beAt b 8 4) && ((keyEntries l).filter entryWithdrawn).all fun e =>
        es.any fun f => decide (entryId f = entryId e) && entryWithdrawn f
  decide (beAt b 0 4 ≠ 0x44584657) || decide (imgSvn b ≠ 0) || !imgReserved b || !imgHashed b
    || decide (b.length ≠ 4096 + imgBodyLen b) || decide (imgBodyLen b ≠ 1992 * (n + 1)) || !inRange 1 16 n
    || decide (beAt b (4096 + 1985) 7 ≠ 0) || es.any (fun e => !keyEntryOk e) || !decide ((es.map entryId).Nodup) || !newer

/-- Sessions whose key is withdrawn, absent or lowered close at the next boundary (R486). -/
def State.judgeKeys (s : State) : State :=
  (List.range 8).foldl (fun (s : State) (i : Nat) =>
    let x := s.sess i
    let keep := match s.findKey x.keyId with | some k => decide (x.role ≤ k.2) | none => false
    if x.isOpen ∧ x.keyId ≠ 0 ∧ !keep then s.setSess i { x with closing := true } else s) s

/-- The end of a key list's load (R486). -/
def State.keysLoaded (s : State) (o : OpRec) : State :=
  let b := o.data
  let owner := (b.drop 4096).take 1984
  if s.keyListBad b then s.opEnd o.id 2 stBadParam
  else if Config.sha512 owner ≠ (s.genContent.drop 48).take 64 ∨ !imgSigned owner b then s.opEnd o.id 2 stSigFail
  else
    let k := match s.jrnl.bank with | some 0 => 1 | _ => 0
    let s := { s with jrnl := if k = 0 then { s.jrnl with bank0 := b, bank := some 0 }
                              else { s.jrnl with bank1 := b, bank := some 1 } }
    ((s.opEnd o.id 1 stOk).judgeKeys).raise 0x0F08 0 0 0

/-- FW_LOAD (0x0080), R395, R479, R486 (DEDUCED, log entry 33). -/
def execFwLoad (r : Req) (p : List Byte) (s : State) : Host.Outcome State Fault Refusal :=
  let s := s.silent
  .next (s.serve r 0x0080 roMaint fun s _ =>
    s.chunk 0x80 1 true p
      (fun total data => if data.length < 16 then some (badAt 10) else if 16777216 < total then some (no stNoSpace) else none)
      (fun _ data => decide (beAt data 4 1 ≠ 1 ∧ beAt data 4 1 ≠ 2))
      (fun s o =>
        if imgType o.data = 1 then
          let s := s.setFwSlot s.otherSlot { valid := false, image := o.data }
          { s with boot := { s.boot with loading := true } }
        else s)
      (fun s o => if imgType o.data = 1 then s.imageLoaded o else s.keysLoaded o))

/-- FW_ACTIVATE (0x0081), R479 (DEDUCED, log entry 34). -/
def execFwActivate (r : Req) (p : List Byte) (s : State) : Host.Outcome State Fault Refusal :=
  let s := s.silent
  .next (s.serve r 0x0081 roMaint fun s _ =>
    let k := beAt p 0 1
    let m := s.sys.mode
    if p.length ≠ 1 ∨ 1 < k then badAt 0
    else if !decide (m = .config ∨ m = .standby ∨ m = .service) || !s.slotValidFw k then no stNotInState
    else if s.opsRunning 0x80 ≠ [] ∨ s.opsRunning 0x83 ≠ [] then no stBusy
    else if k = s.boot.run then .restarts s
    else .restarts { s with boot := { s.boot with pref := k, trial := true, trialUsed := false } })

/-! ## Attestation -/

/-- Bytes 0–275 of the attestation report (R481). -/
def State.attestHead (s : State) (nonce : List Byte) (t : Nat) : List Byte :=
  let x := s.stationTime t
  let img := (s.fwSlot s.boot.run).image
  let gen := match s.boot.active with | some g => (s.gen g).bytes | none => []
  be 4 0x44584154 ++ nonce ++ be 6 (s.cycle.toNat % 2 ^ 48) ++ be 8 x.1 ++ be 4 x.2.1 ++ be 1 s.clk.tstate
    ++ be 1 (modCode s.sys.mode) ++ wordBytes (s.word K.SYS_SERIAL) ++ be 1 (field (s.word K.SYS_ID) 7 0)
    ++ be 1 (b2n s.sideB) ++ be 1 (s.boot.active.getD 0) ++ be 1 s.boot.run ++ padTo 64 s.boot.meas
    ++ wordBytes s.runVersion ++ be 1 (imgSvn img) ++ be 1 s.boot.counter ++ [0, 0] ++ wordBytes s.cfgHash
    ++ padTo 64 (Config.sha512 gen)
    ++ (match s.keyList with | some l => padTo 64 (Config.sha512 l) | none => List.replicate 64 0)
    ++ wordBytes s.saf.chA.crc ++ be 4 Config.certs.length

/-- The whole report, signed over "DX3072 attest" and bytes 0–275 (R481) (DESIGN CHOICE, log entry 21). -/
def State.attestReport (s : State) (nonce : List Byte) (t : Nat) : List Byte :=
  let h := s.attestHead nonce t
  let msg := ("DX3072 attest".toList.map fun c => BitVec.ofNat 8 c.toNat) ++ h
  h ++ padTo 64 (Config.edSign msg) ++ padTo 3309 (Config.mlSign msg) ++ Config.certs

/-- ATTEST (0x0082), R384, R481. -/
def execAttest (r : Req) (p : List Byte) (s : State) : Host.Outcome State Fault Refusal :=
  let s := s.silent
  .next (s.serve r 0x0082 roMonitor fun s _ =>
    let nonce := p.take 32
    let off := beAt p 32 4
    if p.length ≠ 36 then badAt 0
    else if off ≠ 0 ∧ (s.cmd.attReport = [] ∨ s.cmd.attNonce ≠ nonce) then badAt 0
    else
      let s := if off = 0 then
          { s with cmd := { s.cmd with attNonce := nonce, attReport := s.attestReport nonce r.tick } }
        else s
      .done s stOk (be 4 s.cmd.attReport.length ++ (s.cmd.attReport.drop off).take 1024))

/-! ## Settings generations -/

/-- The lowest blank generation (R483). -/
def State.blankGen (s : State) : Option Nat := (List.range 6).find? fun g => (s.gen g).isBlank

/-- NET breaks the field rules of R423 or check 1 of R426. -/
def State.netBad (s : State) (c : List Byte) : Bool :=
  let w (i : Nat) : Word := BitVec.ofNat 32 (beAt c (12 + 4 * i) 4)
  let v := [0, 1, 2].foldl (fun (s : State) (i : Nat) =>
    ((s.setWord (K.PORT_IP i) (w i)).setWord (K.PORT_GW i) (w (3 + i))).setWord (K.NPORT_CFG i) (w (6 + i))) s
  v.netAddrBad || [0, 1, 2].any fun i => !(wordOk 12 (0x12 + 4 * i) (w (6 + i))).2

/-- Order 1 of R483: BAD_PARAM. -/
def State.burnBad (s : State) (b : List Byte) : Bool :=
  let zero (l : List Byte) : Bool := l.all fun x => decide (x = 0)
  let dig := (b.drop 48).take 64
  (match s.blankGen with | some g => decide (beAt b 0 1 ≠ g) | none => false)
    || decide (beAt b 1 1 ≠ 1) || decide (beAt b 4 4 ≠ (s.word K.SYS_SERIAL).toNat)
    || decide (beAt b 8 1 ≠ field (s.word K.SYS_ID) 7 0) || !zero ((b.drop 2).take 2) || decide (1 < beAt b 9 1)
    || !zero ((b.drop 10).take 2) || !zero ((b.drop 112).take 3972) || s.netBad b || zero dig
    || decide (dig ≠ Config.sha512 ((b.drop 4084).take 1984))

/-- Order 2 of R483: SIG_FAIL. -/
def State.burnUnsigned (s : State) (b : List Byte) : Bool :=
  let keys := (b.drop 6068).take 1984
  decide (Config.sha512 keys ≠ (s.genContent.drop 48).take 64)
    || !Config.edVerify (keys.take 32) (b.take 6068) ((b.drop 8052).take 64)
    || !Config.mlVerify (keys.drop 32) (b.take 6068) ((b.drop 8116).take 3309)

/-- The last chunk of a burn (R483, R484). A payload that passes begins to be written: from here the generation is not
blank, and until its seal it is not valid (DEDUCED, log entry 34). -/
def State.burnStart (s : State) (o : OpRec) : State :=
  let b := o.data
  if s.burnBad b then s.opEnd o.id 2 stBadParam
  else if s.burnUnsigned b then s.opEnd o.id 2 stSigFail
  else match s.blankGen with
    | none => s.opEnd o.id 2 stOtpExhausted
    | some g =>
      let s := s.setGen g { content := b.take 4084, check := 0, sealWord := 0 }
      { s with
        boot := { s.boot with burn := some (g, o.id) }
        jrnl := { s.jrnl with owners := Tab.put (fun _ => []) s.jrnl.owners g ((b.drop 4084).take 1984) } }

/-- OTP_BURN (0x0083), R395, R483. -/
def execOtpBurn (r : Req) (p : List Byte) (s : State) : Host.Outcome State Fault Refusal :=
  let s := s.silent
  .next (s.serve r 0x0083 roMaint fun s _ =>
    s.chunk 0x83 0 (decide (s.sys.mode = .config ∨ s.sys.mode = .service)) p (fun _ _ => none) (fun total _ => decide (total ≠ 11425))
      (fun s o => s.opUpd o.id fun x => { x with done := 0 }) (fun s o => s.burnStart o))

/-- `OTP_BURN_PROGRAM` (R484): the words have been written and read back, or a read-back differed
(DEDUCED, log entry 34). -/
def execOtpBurnProgram (ok : Bool) (s : State) : Host.Outcome State Fault Refusal :=
  let s := s.silent
  match s.boot.burn with
  | none => .next s
  | some (g, id) =>
    let s := { s with boot := { s.boot with burn := none } }
    if ok then
      let c := (s.gen g).content
      let s := s.setGen g { content := c, check := crc32c (padTo 4084 c), sealWord := sealOf g }
      .next (((s.opUpd id fun o => { o with done := 1000 }).opEnd id 1 stOk).raise 0x0F02 g 0 0)
    else .next ((s.opEnd id 2 stNoSpace).raise 0x0F03 g 0 0)

/-! ## The journal as it reads -/

/-- Length of a region (R487). -/
def regionLen (n : Nat) : Nat :=
  match n with
  | 0 => 2097152 | 1 => 786432 | 2 => 131072 | 3 => 65536 | 4 => 131072 | _ => 4096

/-- The 16 bytes of a recovery source (R487). -/
def RecSrc.bytes (x : RecSrc) : List Byte := be 2 x.count ++ be 1 (b2n x.locked) ++ [0] ++ be 8 x.wstart.toNat ++ be 4 0

/-- The LIFETIME region (R490). -/
def Lifetime.bytes (l : Lifetime) : List Byte :=
  be 8 l.boots.toNat ++ be 8 l.onSeconds.toNat ++ be 8 l.runSeconds.toNat ++ be 8 l.lastCycle.toNat
    ++ wordBytes l.supplyLosses ++ wordBytes l.feedALosses ++ wordBytes l.feedBLosses ++ wordBytes l.overtemps
    ++ (List.range 8).flatMap fun b => be 8 (Tab.get (fun _ => (0 : BitVec 64)) l.bands b).toNat

/-- A stored copy of the safety set (R491). -/
def SafCopy.bytes (c : SafCopy) : List Byte :=
  wordBytes c.seq ++ wordBytes c.pcrc ++ c.words.flatMap wordBytes ++ wordBytes c.crc

/-- A boot record (R491). -/
def BootRec.bytes (b : BootRec) : List Byte :=
  be 8 b.boots.toNat ++ be 1 b.slot ++ be 1 b.svn ++ be 1 b.gen ++ be 1 b.result ++ be 1 b.cause ++ [0] ++ be 2 b.ms
    ++ wordBytes b.fw ++ List.replicate 12 0

/-- A byte of a journal region (R487–R491). Ring places that the spec does not give: log entry 16. -/
def State.journalByte (s : State) (region a : Nat) : Byte :=
  let j := s.jrnl
  match region with
  | 0 => match j.events.find? fun e => decide (e.seq.toNat % 65536 = a / 32) with
    | some e => byteAt e.bytes (a % 32)
    | none => 0
  | 1 => byteAt (wearBytes (Tab.get (fun _ => Wear.init) j.wear (a / 32))) (a % 32)
  | 2 => match j.closed[a / 32]? with
    | some x => byteAt (wearBytes x.2) (a % 32)
    | none => 0
  | 3 => if a / 16 < 3088 then byteAt (s.recOf (a / 16)).bytes (a % 16) else 0
  | 4 =>
    if a < 0x3000 then byteAt (Tab.get (fun _ => []) j.owners (a / 2048)) (a % 2048)
    else if a < 0x4000 then 0
    else if a < 0x10000 then byteAt j.bank0 (a - 0x4000)
    else if a < 0x1C000 then byteAt j.bank1 (a - 0x10000) else 0
  | 5 => byteAt j.life.bytes a
  | 6 => match j.stamps[a / 8]? with
    | some c => byteAt (be 8 c.toNat) (a % 8)
    | none => 0
  | 7 => match j.safety.find? fun c => decide ((c.seq.toNat + 1) % 2 = a / 256) with
    | some c => byteAt c.bytes (a % 256)
    | none => 0
  | _ =>
    if a = 0 then BitVec.ofNat 8 (s.boot.pref + 2 * b2n s.boot.trial + 4 * b2n s.boot.trialUsed)
    else if a < 64 then 0
    else match j.boots.find? fun b => decide ((b.boots.toNat + 63) % 64 = (a - 64) / 32) with
      | some b => byteAt b.bytes ((a - 64) % 32)
      | none => 0

/-- JOURNAL_READ (0x0084), R487 (DESIGN CHOICE, log entry 16). -/
def execJournalRead (r : Req) (p : List Byte) (s : State) : Host.Outcome State Fault Refusal :=
  let s := s.silent
  .next (s.serve r 0x0084 roMonitor fun s _ =>
    let g := beAt p 0 1
    let off := beAt p 4 4
    let n := beAt p 8 2
    if p.length ≠ 10 then badAt 0 else if 8 < g then badAt 0 else if beAt p 1 3 ≠ 0 then badAt 1
    else if !inRange 1 1024 n then badAt 8 else if regionLen g < off + n then badAt 4
    else .done s stOk (be 4 (regionLen g) ++ (List.range n).map fun i => s.journalByte g (off + i)))

end Sys2Proof.Machine
end

