-- ==== Sys2Proof/Machine/PairFrame.lean ====
section
/-! DEFINITION. The partner frame (R363, R364): its bytes, the stack CRCs (R358), the holder's own frame, and the state
image that a joining side is given (R362). Where R363 names a section's content without its bytes, the layout is the
model's (DESIGN CHOICE, log entry 17). -/

namespace Sys2Proof.Machine

/-! ## Bytes -/

/-- Section 1 content of one stack. -/
def stackInBytes (x : StackIn) : List Byte :=
  be 1 x.stack ++ wordBytes x.vEnd ++ wordBytes x.vPre ++ be 1 x.staged.mask ++ be 4 x.staged.period ++ be 2 x.staged.duty
    ++ be 2 x.staged.phi ++ be 2 x.staged.d1 ++ be 2 x.staged.d2 ++ be 2 x.swaps ++ be 2 x.entries.length
    ++ x.entries.flatMap fun e => wordBytes (at_ e.ci 20 ||| at_ e.kind 18 ||| at_ e.value 0)

/-- Section 2 content of one cell. -/
def cellFlagBytes (x : CellFlag) : List Byte := be 3 (x.ci * 4096 + x.flags) ++ x.mgmt

/-- Section 3 content of one code change. -/
def codeBytes (x : CodeChange) : List Byte :=
  be 3 (x.ci * 4096 + x.sw * 512 + b2n x.turnOn * 256 + x.code * 16)

/-- A section: ID, a reserved byte, its length and its content. -/
def sectionBytes (id : Nat) (b : List Byte) : List Byte := be 1 id ++ [0] ++ be 2 b.length ++ b

/-- Sections 1–3 of a step. -/
def stepBytes (inputs : List StackIn) (flags : List CellFlag) (codes : List CodeChange) : List Byte :=
  sectionBytes 1 (inputs.flatMap stackInBytes) ++ sectionBytes 2 (flags.flatMap cellFlagBytes)
    ++ sectionBytes 3 (codes.flatMap codeBytes)

/-- A resent step, preceded by its CYCLE. -/
def resendBytes (x : StepIn) : List Byte := be 6 x.cycle.toNat ++ stepBytes x.inputs x.flags x.codes

/-- A record of section 6. -/
def recordBytes (x : FrameRec) : List Byte :=
  be 4 x.seq ++ be 1 x.kind ++ be 1 x.slot ++ be 2 x.page ++ be 1 x.offset ++ [0] ++ be 2 (x.effect % 65536) ++ wordBytes x.value

/-- A record of section 8. The content that R362 gives KIND 6 does not fit the 20 bytes of the others
(DESIGN CHOICE, log entry 17). -/
def imageBytes : ImageRec → List Byte
  | .cell ci legs tag cmd epoch ages =>
    padTo 20 (be 1 1 ++ be 2 ci ++ legs.flatMap (be 1) ++ be 1 tag ++ be 1 cmd ++ be 1 epoch ++ ages.flatMap (be 2))
  | .carry ci cs => padTo 20 (be 1 2 ++ be 2 ci ++ cs.flatMap fun c => be 4 (unsigned 32 c))
  | .spill ci e => padTo 20 (be 1 3 ++ be 2 ci ++ wordBytes e)
  | .stack k p per duty phi d1 d2 level =>
    padTo 20 (be 1 4 ++ be 1 k ++ be 4 p ++ be 4 per ++ be 2 duty ++ be 2 (unsigned 16 phi) ++ be 2 d1 ++ be 2 d2
      ++ be 2 (unsigned 16 level))
  | .staged k mask per duty phi d1 d2 =>
    padTo 20 (be 1 5 ++ be 1 k ++ be 1 mask ++ be 4 per ++ be 2 duty ++ be 2 (unsigned 16 phi) ++ be 2 d1 ++ be 2 d2)
  | .switch i th n on off => padTo 24 (be 1 6 ++ be 2 i ++ th.flatMap wordBytes ++ wordBytes n ++ be 1 (on * 16 + off))

/-- Sections 1–6, which the holder alone fills: ROLE 1 (DESIGN CHOICE, log entry 17). -/
def frameMain (f : PFrame) : List Byte :=
  if f.role ≠ 1 then [] else
  stepBytes f.inputs f.flags f.codes ++ sectionBytes 4 (f.crcs.flatMap wordBytes)
    ++ sectionBytes 5 (f.outputs.flatMap fun o => be 1 o.1 ++ [0] ++ wordBytes o.2)
    ++ sectionBytes 6 (f.records.flatMap recordBytes)

/-- All sections of a frame (DESIGN CHOICE, log entry 17). -/
def frameSections (f : PFrame) : List Byte :=
  frameMain f ++ (if f.resend = [] then [] else sectionBytes 7 (f.resend.flatMap resendBytes))
    ++ (if f.image = [] then [] else sectionBytes 8 (f.image.flatMap imageBytes))

/-- LEN of a frame. -/
def frameLen (f : PFrame) : Nat := 36 + (frameSections f).length

/-- The frame's bytes: the header with HCRC, the sections, FCRC (DESIGN CHOICE, log entry 17). -/
def frameBytes (f : PFrame) : List Byte :=
  let flags := f.side * 128 + b2n f.claim * 64 + b2n f.ready * 32 + b2n f.giveup * 16 + b2n f.hnd * 8 + f.shift * 4 + b2n f.req * 2
  let h := be 1 1 ++ be 1 flags ++ be 6 f.cycle.toNat ++ be 1 f.mstate ++ be 1 (f.role * 16 + f.lag) ++ be 2 f.handoverAt.toNat
    ++ wordBytes f.topo ++ wordBytes f.cfg ++ be 2 f.blocked ++ be 2 f.release ++ be 2 f.ack.toNat ++ be 2 (frameLen f % 65536)
  h ++ wordBytes (crc32c h) ++ frameSections f ++ wordBytes (crc32c (frameSections f))

/-- Most bytes that fit the bond (R364). -/
def State.frameRoom (s : State) : Nat := 11500 * groupWidth s.bond.active

/-! ## The holder's content -/

/-- CRC-32C of a stack's segments, those of the step before the one just built where `old` (R358). -/
def State.stackCrc (s : State) (k : Nat) (old : Bool) : Word :=
  crc32c ((s.stackCells k).flatMap fun ci => padTo 66 (if old then (s.dcell ci).old else (s.dcell ci).seg))

/-- The CRC section: one word for each stack (R358). At SHIFT 0 the previous step is the one before the last built. -/
def State.stackCrcs (s : State) : List Word := (List.range 16).map fun k => s.stackCrc k (decide (s.pair.shift = 0))

/-- Outputs of the wired slots (R363 section 5). -/
def State.wiredOutputs (s : State) : List (Nat × Word) :=
  ((List.range 256).filter fun n => s.slotEn n && decide (s.slotDest n ≠ 0)).map fun n => (n, s.slotOut n)

/-- A record as the frame carries it. -/
def RepRec.frame (r : RepRec) (shift : Nat) : FrameRec :=
  { seq := r.seq, kind := r.kind, slot := r.slot, page := r.page, offset := r.offset, effect := (r.effect + shift) % 65536,
    value := r.value }

/-- The frame without its RESEND and IMAGE sections. Elapsed cycles turn into cycle numbers by the difference of the
two counts. -/
def State.baseFrame (s : State) : PFrame :=
  let lead := s.leads
  let at16 (h : Nat) : Nat := (s.cycle.toNat + (h - s.mono)) % 65536
  let hnd : Option Nat := s.pairOps.handover.filter fun h => lead && decide (s.mono < h ∧ h ≤ s.mono + 3)
  let own : Option StepIn := s.duct.own.filter fun x => decide (x.cycle = s.cycle.setWidth 48)
  { side := b2n s.sideB, claim := s.pair.tokOut, ready := s.pair.ready, giveup := s.pairOps.giveUp, hnd := hnd.isSome,
    shift := s.pair.shift, req := s.pairOps.req, cycle := s.cycle.setWidth 48, mstate := modCode s.sys.mode,
    role := roleCode s.pair.role, lag := min 15 s.shadow.lag,
    handoverAt := BitVec.ofNat 16 (at16 (hnd.getD s.mono)),
    topo := s.topoHash, cfg := s.pairHash, blocked := s.blocked, release := s.shadow.release,
    ack := s.shadow.rxCycle.setWidth 16,
    inputs := if lead then (own.map (·.inputs)).getD [] else [],
    flags := if lead then (own.map (·.flags)).getD [] else [],
    codes := if lead then (own.map (·.codes)).getD [] else [],
    crcs := if lead then s.stackCrcs else [],
    outputs := if lead then s.wiredOutputs else [],
    records := if lead then s.pairOps.toSend.map fun r =>
        r.frame (s.cycle.toNat % 65536 + 65536 - s.mono % 65536) else [],
    resend := [], image := [] }

/-- The longest front part of a list whose bytes fit the room (DEDUCED, log entry 26). -/
def takeFit {α : Type} (bytes : α → List Byte) (room : Nat) : List α → List α
  | [] => []
  | x :: xs => if (bytes x).length ≤ room then x :: takeFit bytes (room - (bytes x).length) xs else []

/-- The frame of this cycle: RESEND, oldest first, and IMAGE take only the room left (R364) (DEDUCED, log entry 26). -/
def State.ownFrame (s : State) : PFrame :=
  let f := s.baseFrame
  if !s.leads then f else
  let old := s.shadow.unack.filter fun x => decide (x.cycle ≠ s.cycle.setWidth 48)
  let f := { f with resend := takeFit resendBytes (s.frameRoom - frameLen f - 4) old }
  { f with image := takeFit imageBytes (s.frameRoom - frameLen f - 4) s.shadow.imageOut }

/-! ## The state image -/

/-- The target that follows the last step built. -/
def State.nextTarget (s : State) : Nat := s.mono + 2 + s.look - s.pair.shift

/-- Age of a transition at the start of a target: 65,535 also stands for none. -/
def ageAt (t0 : Nat) : Option Nat → Nat
  | none => 65535
  | some l => min 65535 (t0 - l)

/-- The records of one cell (DESIGN CHOICE, log entry 17). -/
def State.cellImage (s : State) (typ ci : Nat) : List ImageRec :=
  let d := s.dcell ci
  let t0 := s.nextTarget * 62500
  let legs := (List.range 4).map d.leg
  [ImageRec.cell ci (legs.map (·.st)) d.tag d.cmd (s.cell ci).epoch (legs.map fun l => ageAt t0 l.last),
   ImageRec.carry ci (legs.map (·.carry))]
    ++ (d.spill.map fun e => ImageRec.spill ci (edgeRecord t0 (s.codeOf ci e.2.1 e.2.2) 0 e))
    ++ (List.range (2 * legCount typ)).map fun sw =>
      let th := s.thSw (ci * 8 + sw)
      ImageRec.switch (ci * 8 + sw) [th.th1, th.th2, th.th3, th.th4] (s.sch ci).n
        (s.supSw (ci * 8 + sw)).postOn (s.supSw (ci * 8 + sw)).postOff

/-- The records of one stack: position at the start of the next target, live set, level, staged set
(DESIGN CHOICE, log entry 17). -/
def State.stackImage (s : State) (k : Nat) : List ImageRec :=
  let d := s.dstack k
  let c := s.stkCfg k s.nextTarget
  let per := if c.mode = mdPsc ∨ c.mode = mdDps then d.build.period else 0
  let g := d.build
  let h := d.staged
  [ImageRec.stack k (d.posAt per s.nextTarget) g.period g.duty g.phi g.d1 g.d2 d.level,
   ImageRec.staged k d.mask h.period h.duty h.phi h.d1 h.d2]

/-- The image that the holder captures at the end of a step (R362) (DESIGN CHOICE, log entry 17). -/
def State.captureImage (s : State) : List ImageRec :=
  ((List.range 16).filter s.stackEn).flatMap fun k =>
    s.stackImage k ++ (s.stackCells k).flatMap fun ci => s.cellImage (s.stackType k) ci

/-- Switch levels in which a leg state leaves its two switches (R176). -/
def legLevels (legs : List Nat) : Nat :=
  ((List.range legs.length).zip legs).foldl (fun (m : Nat) (x : Nat × Nat) =>
    mset (mset m (2 * x.1) (decide (x.2 = lgP))) (2 * x.1 + 1) (decide (x.2 = lgN))) 0

/-- One record of the image is taken over; `T` is the target that follows its step. What the image does not hold starts
afresh: the origin of a carry, transitions past their target, the checker's times (DESIGN CHOICE, log entry 17). -/
def State.takeImage (s : State) (T : Nat) : ImageRec → State
  | .cell ci legs tag cmd epoch ages =>
    let s := s.setCell ci { s.cell ci with epoch := epoch }
    let ls := (List.range 4).map fun j =>
      let age := (ages[j]?).getD 65535
      (j, { Leg.init with st := (legs[j]?).getD 0, last := if age = 65535 then none else some (T * 62500 - age) : Leg })
    let lv := legLevels legs
    s.setDcell ci (ls.foldl (fun (d : Duct) (x : Nat × Leg) => d.setLeg x.1 x.2)
      { Duct.init with tag := tag, cmd := cmd, lv := lv, ckLv := lv, gates := (s.dcell ci).gates })
  | .carry ci cs =>
    s.setDcell ci (((List.range 4).zip cs).foldl (fun (d : Duct) (x : Nat × Int) =>
      d.setLeg x.1 { d.leg x.1 with carry := x.2, org := if x.2 = 0 then 0 else T * 62500 }) (s.dcell ci))
  | .spill ci e =>
    let d := s.dcell ci
    let lv := mset d.lv (recSw e) (!recLevel e)
    s.setDcell ci { d with
      spill := d.spill ++ [(T * 62500 + recOffset e, recSw e, recLevel e)], lv := lv, ckLv := lv }
  | .stack k p per duty phi d1 d2 level =>
    let g : GenSet := { period := per, duty := duty, phi := phi, d1 := d1, d2 := d2 }
    s.setDstack k { s.dstack k with
      run := s.modulated k T, build := g, live := g, p := p, pAt := T, started := false, level := level, want := level,
      loads := [], pcs := [] }
  | .staged k mask per duty phi d1 d2 =>
    s.setDstack k { s.dstack k with
      mask := mask, staged := { period := per, duty := duty, phi := phi, d1 := d1, d2 := d2 }, target := T }
  | .switch i th n on off =>
    let x := s.thSw i
    let w (j : Nat) : Word := (th[j]?).getD 0
    let s := s.setThSw i { x with th1 := w 0, th2 := w 1, th3 := w 2, th4 := w 3 }
    let s := s.setSch (i / 8) { s.sch (i / 8) with n := n }
    s.setSupSw i (((s.supSw i).post true true on).post false true off)

/-- The captured θ stepped through one kept cycle's losses (R215, R362). -/
def State.stepTheta (s : State) (l : List (Nat × Word)) : State :=
  l.foldl (fun (s : State) (x : Nat × Word) =>
    let z := s.tsetOf (s.stackOf (x.1 / 8)) (x.1 % 8 / 2)
    let y := s.thSw x.1
    let nx (i : Nat) (th : Word) : Word :=
      let tau := (z.tau[i]?).getD 0
      fAdd (fMul (poleA tau) th) (fMul (poleB ((z.r[i]?).getD 0) tau) x.2)
    s.setThSw x.1 { y with th1 := nx 0 y.th1, th2 := nx 1 y.th2, th3 := nx 2 y.th3, th4 := nx 3 y.th4 }) s

/-- The whole image is taken over, and θ stepped forward through the kept losses (R362) (DESIGN CHOICE, log entry 17). -/
def State.loadImage (s : State) (T : Nat) : State :=
  let s := s.shadow.imageBuf.foldl (fun (s : State) (r : ImageRec) => s.takeImage T r) s
  s.therm.kept.foldl State.stepTheta s

end Sys2Proof.Machine
end

