-- ==== Sys2Proof/Machine/Pair.lean ====
section
/-! DEFINITION. The redundant pair (R346–R372): its paths, the token, give-up of the partner, takeover, handover and
reversion, the frames' exchange, the join, and the replicated records. -/

namespace Sys2Proof.Machine

/-! ## Joining and READY -/

/-- A side begins to join (R362): nothing of its partner's state is held, and every stack is relayed empty
(DEDUCED, log entry 24). -/
def State.startJoin (s : State) : State :=
  { s with
    pair := { s.pair with role := Role.joining, ready := false, shift := 1 }
    shadow := { s.shadow with
      join := 1, lag := 0, matchRun := 0, kept := [], imageBuf := [], imageCyc := none, relayOff := maskOf 16 s.stackEn }
    therm := { s.therm with kept := [] } }

/-- The conditions of R361, on a standby. An own STACK event of computation or clocks keeps READY withdrawn (R354)
(DEDUCED, log entry 27; DEDUCED, log entry 24). -/
def State.readyNow (s : State) : Bool :=
  let h := s.shadow
  decide (s.pair.role = Role.standby) && decide (h.lag = 0) && h.topoEq && h.cfgEq && decide (h.pMstate = modCode s.sys.mode)
    && decide (s.bond.active ≠ 0) && h.fits && decide (1000 ≤ h.matchRun) && !s.anyActive 0x0309 && !s.anyActive 0x040B
    && !ownStackCodes.any s.anyActive

/-- READY judged on a side without the token: regained, it clears PAIR_RELAY_OFF; withdrawn, it cancels a handover (R361,
R367, R372). -/
def State.readyJudge (s : State) (t : Nat) : State :=
  if !s.pairSide ∨ s.pair.role = .holder ∨ s.pair.role = .out then s
  else if s.readyNow then
    let s := (s.evt.active.filter fun e => decide (e.code = 0x0B07)).foldl
      (fun (s : State) (e : ActEv) => s.clear 0x0B07 e.inst t) s
    { s with pair := { s.pair with ready := true, readyAt := if s.pair.ready then s.pair.readyAt else s.mono } }
  else { s with pair := { s.pair with ready := false }, pairOps := { s.pairOps with handover := none } }

/-- The partner counts as not READY: a handover ends, and replies no longer wait for it (R359, R367)
(DEDUCED, log entry 23). -/
def State.partnerDown (s : State) : State :=
  ({ s with pair := { s.pair with pReady := false }, pairOps := { s.pairOps with handover := none } }).flushAcks

/-! ## Paths and failure -/

/-- A path is lost (R351, R352): PAIR_PATH_LOST; with both gone the partner counts as not READY, and a side that may not
declare failure by it raises PAIR_PARTNER_LOST (DEDUCED, log entry 23). -/
def State.pathLost (s : State) (t : Nat) : State :=
  let s := ({ s with pair := { s.pair with pathRun := 0 } }).raise 0x0B01 0 0 t
  if s.pair.quill ∨ s.pair.lane then s else
  let at0 := s.ticks t
  let s := ({ s with pair := { s.pair with bothLost := some at0 } }).partnerDown
  if decide (s.pair.role = Role.holder) || !W.PAIR_CTL_DETECT (s.word K.PAIR_CTL) then s.raise 0x0B04 0 0 t else s

/-- `QUILL_PATH_LOSS` (R351). TOK_IN of a dead cable reads released (DEDUCED, log entry 23). -/
def execQuillPathLoss (t : Tick) (s : State) : Host.Outcome State Fault Refusal :=
  let s := s.silent
  if !s.pairSide ∨ !s.pair.quill then .next s
  else .next (({ s with pair := { s.pair with quill := false, tokIn := false } }).pathLost t)

/-- `QUILL_PATH_RETURN` (R351). -/
def execQuillPathReturn (_t : Tick) (s : State) : Host.Outcome State Fault Refusal :=
  let s := s.silent
  .next (if s.pairSide then { s with pair := { s.pair with quill := true, bothLost := none } } else s)

/-- The lane path is absent (R351): no lane of the active group is in sync, or two frames in a row are missing
(DEDUCED, log entry 23). -/
def State.laneGone (s : State) : Bool :=
  !(s.bond.lanes.any fun i => (s.lane i).sync) || decide (2 ≤ s.shadow.lost)

/-- `LANE_PATH_LOSS` (R351). Without frames the partner's READY is not known, so it counts as withdrawn
(DEDUCED, log entry 23). -/
def execLanePathLoss (t : Tick) (s : State) : Host.Outcome State Fault Refusal :=
  let s := s.silent
  if !s.pairSide ∨ !s.pair.lane ∨ !s.laneGone then .next s
  else .next ((({ s with pair := { s.pair with lane := false } }).partnerDown).pathLost t)

/-- Failure of the holder is declared (R352); a side that is not READY is orphaned. -/
def State.declareFailure (s : State) (t : Nat) : State :=
  let s := ({ s with pair := { s.pair with declared := true } }).raise 0x0B04 0 0 t
  if s.pair.ready then s else s.raise 0x0B05 0 0 t

/-- A side that may declare failure of the holder. -/
def State.mayDeclare (s : State) : Bool :=
  s.pairSide && !s.pair.declared && decide (s.pair.role ≠ .holder) && decide (s.pair.role ≠ .out)

/-- `GIVEUP_SIGNAL_DETECT` (R351, R352). -/
def execGiveupSignalDetect (t : Tick) (s : State) : Host.Outcome State Fault Refusal :=
  let s := s.silent
  if !s.mayDeclare then .next s
  else .next (({ s with pair := { s.pair with tokIn := false } }).declareFailure t)

/-- `FAILURE_DECLARE` (R352): under dual heartbeat both paths have been absent for 3 µs
(DESIGN CHOICE, log entry 6; DEDUCED, log entry 23). -/
def execFailureDeclare (t : Tick) (s : State) : Host.Outcome State Fault Refusal :=
  let s := s.silent
  let long := match s.pair.bothLost with | some b => decide (b + 18750 ≤ s.ticks t) | none => false
  if s.mayDeclare && W.PAIR_CTL_DETECT (s.word K.PAIR_CTL) && !s.pair.quill && !s.pair.lane && long then
    .next (s.declareFailure t)
  else .next s

/-! ## The token -/

/-- The cases of R350. -/
inductive Claim where
  | start | takeover | orphan | handover
deriving DecidableEq, Repr

/-- Every enabled stack is blocked (DEDUCED, log entry 25). -/
def State.allBlocked (s : State) : Bool := (List.range 16).all fun k => !s.stackEn k || s.blocked.testBit k

/-- The case in which a side may claim at start(d) − 1 µs of the cycle d that follows (R350)
(DEDUCED, log entry 22; DEDUCED, log entry 25). -/
def State.claimCase (s : State) (tokIn : Bool) : Option Claim :=
  let p := s.pair
  let quiet (since n : Nat) : Bool := decide (since + n ≤ s.mono)
  if !s.pairSide ∨ !s.sys.live ∨ p.role = .holder ∨ p.role = .out then none
  else if p.role = .standby ∧ p.ready ∧ s.pairOps.handover = some (s.mono + 1) ∧ !tokIn then some .handover
  else if p.declared ∧ p.role = .standby ∧ p.ready then some .takeover
  else if (p.declared ∨ s.isActive 0x0B04 0) ∧ s.allBlocked then some .orphan
  else if p.role = .wait ∧ !tokIn ∧
      (if s.sideB then quiet (max s.shadow.waitAt (s.shadow.rxAt.getD 0)) 100000
        else s.shadow.claimAt = 0 ∨ quiet s.shadow.claimAt 99) then some .start
  else none

/-- Token and shift of a side that becomes holder; its own open transaction ends (R349, R356, R365, R391)
(DEDUCED, log entry 22; DEDUCED, log entry 25). -/
def State.takeToken (s : State) (c : Claim) (tokIn released : Bool) : State :=
  let p := s.pair
  let open_ := match s.cmd.txn with | some x => x.due.isNone | none => false
  { s with
    pair := { p with
      role := Role.holder, tokOut := true, tokIn := tokIn, grant := released && !tokIn, ready := false, pReady := false,
      declared := false, last := (s.cycle + 1).setWidth 32,
      shift := if s.sideB then 1 else match c with | .start => 0 | .orphan => p.shift | _ => 1 }
    shadow := { s.shadow with
      join := 0, lag := 0, matchRun := 0, relayOff := 0, imageBuf := [], imageOut := [], imageCyc := none, unack := [] }
    pairOps := { s.pairOps with handover := none, isReversion := false, req := false, toSend := [], unacked := [] }
    cmd := { s.cmd with txn := if open_ then none else s.cmd.txn } }

/-- A completed handover counts on either side (R371). -/
def State.countHandover (s : State) : State :=
  let c := satInc s.pair.handovers s.pair.hndSat
  ({ s with pair := { s.pair with handovers := c.1, hndSat := c.2.1 } }).satEvent c.2.2 K.PAIR_HANDOVERS 56250

/-- What a claim brings with it: the takeover's event and count, a handover's count, a reversion's stamp, or the end of
REV_LOCK (R365, R368, R369) (DEDUCED, log entry 22; DEDUCED, log entry 56). -/
def State.claimed (s o : State) : Claim → State
  | .takeover =>
    let c := satInc s.pair.takeovers s.pair.takSat
    let s := ({ s with pair := { s.pair with takeovers := c.1, takSat := c.2.1 } }).satEvent c.2.2 K.PAIR_TAKEOVERS 56250
    s.raise 0x0B02 0 0 56250
  | .handover =>
    let s := s.countHandover
    if o.pairOps.req then
      let l := s.jrnl.stamps ++ [s.cycle + 1]
      { s with jrnl := { s.jrnl with stamps := keepLast 15 l } }
    else ({ s with pair := { s.pair with revLock := false } }).clear 0x0B09 0 56250
  | _ => s

/-- `TOKEN_CLAIM` (R350): at start(d) − 1 µs. A side that claims already only takes what the quill hardware shows. -/
def execTokenClaim (tokIn released : Bool) (s : State) : Host.Outcome State Fault Refusal :=
  let s := s.silent
  if s.pair.tokOut then .next { s with pair := { s.pair with tokIn := tokIn, grant := released && !tokIn } }
  else
    match s.claimCase tokIn with
    | none => .next { s with pair := { s.pair with tokIn := if s.pairSide then tokIn else s.pair.tokIn } }
    | some c => .next ((s.takeToken c tokIn released).claimed s c)

/-- `TOK_IN_ASSERT` (R349, R350): side B withdraws its claim and joins, side A keeps it without GRANT meanwhile. -/
def execTokInAssert (t : Tick) (s : State) : Host.Outcome State Fault Refusal :=
  let s := s.silent
  if !s.pairSide then .next s else
  let s := { s with pair := { s.pair with tokIn := true } }
  if !s.pair.tokOut then .next s
  else if !s.sideB then .next { s with pair := { s.pair with grant := false } }
  else
    let s := { s with pair := { s.pair with tokOut := false, grant := false, last := s.cycle.setWidth 32 } }
    .next (s.startJoin.partnerDown.raise 0x0B06 0 0 t)

/-- `TOKEN_RELEASE_HANDOVER` (R367): at start(h) − 2 µs the holder releases TOK_OUT; without a READY partner the handover is
cancelled. The cycle is still its own: its latch and frame are a holder's, and its role changes at the boundary h
(DEDUCED, log entry 22). -/
def execTokenReleaseHandover (s : State) : Host.Outcome State Fault Refusal :=
  let s := s.silent
  match s.pairOps.handover with
  | none => .next s
  | some h =>
    if s.pair.role ≠ .holder ∨ !s.pair.tokOut ∨ s.mono + 1 < h then .next s
    else if s.mono + 1 ≠ h ∨ !s.pair.pReady then .next { s with pairOps := { s.pairOps with handover := none } }
    else
      let s := { s with pair := { s.pair with tokOut := false, grant := false, last := (s.cycle + 1).setWidth 32 } }
      .next s.countHandover

/-- At boundary h the side that released the token is the standby (R356, R367) (DEDUCED, log entry 22). -/
def State.stepDown (s : State) : State :=
  if s.pair.role ≠ .holder ∨ s.pair.tokOut ∨ s.pairOps.handover ≠ some s.mono ∨ !s.sys.live then s else
  let s := { s with
    pair := { s.pair with role := Role.standby, ready := false }
    shadow := { s.shadow with lag := 0, join := 3, matchRun := 0, relayOff := 0, imageOut := [], imageCyc := none }
    pairOps := { s.pairOps with handover := none, isReversion := false, req := false, toSend := [] } }
  s.partnerDown

/-! ## Frames out -/

/-- The image is captured once for a partner that joins, at the end of the step just built (R362). -/
def State.imageFor (s : State) : State :=
  if !s.leads then s
  else if s.shadow.pRole ≠ 3 then { s with shadow := { s.shadow with imageOut := [], imageCyc := none } }
  else if s.shadow.imageCyc.isSome then s
  else { s with shadow := { s.shadow with
    imageOut := s.captureImage, imageCyc := some ((s.cycle - BitVec.ofNat 64 s.pair.shift).setWidth 48) } }

/-- `PARTNER_FRAME_SEND` (R363, R364): the frame of this cycle leaves over the bond, while LIVE is high. -/
def execPartnerFrameSend (s : State) : Host.Outcome State Fault Refusal :=
  let s := s.silent
  if !s.pairSide ∨ !s.sys.live ∨ s.bond.active = 0 then .next s else
  let s := s.imageFor
  let f := s.ownFrame
  let n := frameLen f
  let long := decide (s.frameRoom < n)
  let low := s.cycle.toNat % 65536
  let s := { s with
    shadow := { s.shadow with
      frameLen := min 65535 n, fitRun := if long then 0 else min 1000 (s.shadow.fitRun + 1),
      imageOut := s.shadow.imageOut.drop f.image.length }
    pairOps := { s.pairOps with
      toSend := [], unacked := s.pairOps.unacked.map fun (u : Nat × Nat) => if u.2 = 65536 then (u.1, low) else u } }
  let s := s.emit (.partner (stripe s.bond.lanes (frameBytes f)))
  .next (if long then s.raise 0x0B0A 0 (BitVec.ofNat 32 n) 52500
    else if 1000 ≤ s.shadow.fitRun then s.clear 0x0B0A 0 52500 else s)

/-! ## Frames in -/

/-- Elapsed cycle that a cycle number of a frame names. -/
def State.elapsedOf (s : State) (c : BitVec 48) : Nat :=
  let back := (s.cycle.setWidth 48 - c).toNat
  if back < 2 ^ 47 then s.mono - back else s.mono + (2 ^ 48 - back)

/-- What a frame shows of the partner (R363, R371). A holder with MIRROR_LATE active has no READY partner (R361). -/
def State.seePartner (s : State) (f : PFrame) : State :=
  let h := s.shadow
  let top := decide (f.topo = s.topoHash)
  let cfg := decide (f.cfg = s.pairHash)
  { s with
    pair := { s.pair with lane := true, bothLost := none, pReady := f.ready && !f.giveup && !(s.leads && s.anyActive 0x0309) }
    shadow := { h with
      pMstate := f.mstate, pRole := f.role, topoEq := top, cfgEq := cfg, pBlocked := f.blocked, pRelease := f.release,
      rxCycle := f.cycle, rxAt := some s.mono, claimAt := if f.claim then s.mono + 1 else h.claimAt, lost := 0, pReq := f.req,
      fits := decide (frameLen f ≤ s.frameRoom),
      outputs := if f.role = 1 then f.outputs.foldl (fun (t : Tab Word) o => Tab.put (fun _ => 0) t o.1 o.2) [] else h.outputs } }

/-- PAIR_CFG_MISMATCH and PAIR_PARTNER_LOST as the frame decides them (R372). -/
def State.pairEvents (s : State) (t : Nat) : State :=
  let s := if s.shadow.topoEq && s.shadow.cfgEq then s.clear 0x0B08 0 t else s.raise 0x0B08 0 0 t
  if s.pair.pReady then s.clear 0x0B04 0 t else s

/-- The acknowledgement of a frame: its step needs no resending, and the records up to it are acknowledged (R359, R364)
(DEDUCED, log entry 26). -/
def State.takeAck (s : State) (ack : BitVec 16) : State :=
  let acked (c : Nat) : Bool := decide (c < 65536 ∧ (ack.toNat + 65536 - c) % 65536 < 32768)
  let s := { s with
    shadow := { s.shadow with unack := s.shadow.unack.filter fun x => decide (x.cycle.setWidth 16 ≠ ack) }
    pairOps := { s.pairOps with unacked := s.pairOps.unacked.filter fun u => !acked u.2 } }
  (List.range 8).foldl (fun (s : State) (i : Nat) => s.ackReply i) s

/-- The first step whose inputs a side still needs. A side whose image has not begun needs all. -/
def State.needsFrom (s : State) : Option (BitVec 48) :=
  let h := s.shadow
  if s.pair.role = .standby ∨ h.join = 2 then
    some (s.cycle.setWidth 48 - BitVec.ofNat 48 (h.lag + (if s.duct.latchAt = s.mono + 1 then 0 else 1)))
  else h.imageCyc.map (· + 1)

/-- Steps worth keeping: needed and not yet held (R362, R364) (DEDUCED, log entry 26). -/
def State.keepSteps (s : State) (l : List StepIn) : State :=
  let ok (x : StepIn) : Bool := match s.needsFrom with
    | some c => decide ((x.cycle - c).toNat < 2 ^ 47)
    | none => true
  let s := { s with shadow := { s.shadow with kept := s.shadow.kept.filter ok } }
  l.foldl (fun (s : State) (x : StepIn) =>
    if ok x && !(s.shadow.kept.any fun y => decide (y.cycle = x.cycle)) then
      { s with shadow := { s.shadow with kept := s.shadow.kept ++ [x] } }
    else s) s

/-- Image records received by a joining side; the first show the end of the step that SHIFT gives (R362). -/
def State.takeImages (s : State) (f : PFrame) : State :=
  if s.pair.role ≠ .joining ∨ s.shadow.join ≠ 1 ∨ f.image = [] then s else
  let first := s.shadow.imageCyc.isNone
  { s with
    shadow := { s.shadow with
      imageBuf := s.shadow.imageBuf ++ f.image,
      imageCyc := if first then some (f.cycle - BitVec.ofNat 48 f.shift) else s.shadow.imageCyc }
    therm := if first then { s.therm with kept := [] } else s.therm }

/-- Key of the word that a record names. -/
def RepRec.wordKey (r : RepRec) : Nat :=
  if r.page = 7 ∧ 0x10 ≤ r.offset ∧ r.offset < 0x28 then slotKey r.slot r.offset else key r.page r.offset

/-- Records of the holder's frame (R359): a FAULT_RESET or MODE_SET waits in its own queue; the words of a commit are
prepared for at once (DEDUCED, log entry 55). -/
def State.takeRecords (s : State) (f : PFrame) : State :=
  let at0 := s.elapsedOf f.cycle
  let rs : List RepRec := f.records.map fun r =>
    { seq := r.seq, kind := r.kind, slot := r.slot, page := r.page, offset := r.offset,
      effect := at0 + (r.effect + 65536 - f.cycle.toNat % 65536) % 65536, value := r.value }
  let s := rs.foldl (fun (s : State) (r : RepRec) =>
    let s := { s with pairOps := { s.pairOps with recSeq := r.seq } }
    if r.kind = rkReset then
      { s with evt := { s.evt with resets := s.evt.resets ++ [(r.offset, r.page, r.value.toNat, r.effect, r.slot)] } }
    else if r.kind = rkMode then
      match modOfCode r.offset with
      | some dst =>
        { s with sys := { s.sys with
          modeReq := some { target := dst, mask := r.value.toNat, due := r.effect, slot := r.slot } } }
      | none => s
    else { s with pairOps := { s.pairOps with records := s.pairOps.records ++ [r] } }) s
  let cs := rs.filter fun r => decide (r.kind = rkCommit)
  match cs with
  | [] => s
  | c :: _ => s.commitAhead (cs.map fun r => (r.wordKey, r.value)) c.effect

/-- The stacks that the holder releases (R306, R360). -/
def State.followRelease (s : State) (mask cyc : Nat) : State :=
  (List.range 16).foldl (fun (s : State) (k : Nat) =>
    if mask.testBit k then
      { s with evt := { s.evt with
        forced := mset s.evt.forced k false, clrDue := Tab.put (fun _ => 0) s.evt.clrDue k (cyc + 2) } }
    else s) s

/-- Stacks whose CRC in a frame differs from the own rebuild (R358); judged while the own last step is the frame's. -/
def State.crcFaults (s : State) (f : PFrame) : List Nat :=
  (List.range 16).filter fun k => s.stackEn k && decide ((f.crcs[k]?).getD 0 ≠ s.stackCrc k false)

/-- The CRC section on a standby (R358, R361): a mismatch relays the stacks empty and starts a join. -/
def State.checkCrcs (s : State) (f : PFrame) (t : Nat) : State :=
  if s.pair.role ≠ .standby ∨ s.shadow.lag ≠ 0 ∨ f.crcs = [] ∨ s.duct.latchAt ≠ s.elapsedOf f.cycle + 1 then s else
  match s.crcFaults f with
  | [] => { s with shadow := { s.shadow with matchRun := min 1000 (s.shadow.matchRun + 1) } }
  | ks =>
    let c := satAdd s.pair.mismatch s.pair.misSat ks.length
    let s := ({ s with pair := { s.pair with mismatch := c.1, misSat := c.2.1 } }).satEvent c.2.2 K.PAIR_MISMATCH t
    (ks.foldl (fun (s : State) (k : Nat) => s.raise 0x0B07 k 0 t) s).startJoin

/-- A holder's frame on a side that follows it. -/
def State.followFrame (s : State) (f : PFrame) (t : Nat) : State :=
  let s := (s.takeImages f).takeRecords f
  let x : StepIn := { cycle := f.cycle, inputs := f.inputs, flags := f.flags, codes := f.codes }
  let s := s.keepSteps (f.resend ++ [x])
  let s := s.followRelease f.release (s.elapsedOf f.cycle)
  let h := s.elapsedOf f.cycle + (f.handoverAt.toNat + 65536 - f.cycle.toNat % 65536) % 65536
  (({ s with pairOps := { s.pairOps with handover := if f.hnd then some h else none } }).checkCrcs f t)

/-- A standby's frame on the holder: a request to revert is answered with a handover (R368); a partner that withdraws READY
ends one (R367). -/
def State.leadFrame (s : State) (f : PFrame) (t : Nat) : State :=
  if !s.pair.pReady then s.partnerDown
  else if f.req ∧ s.pairOps.handover.isNone then
    { s with pairOps := { s.pairOps with handover := some (s.handoverAt t), isReversion := true } }
  else s

/-- A frame can come whole over the bond (R91): the active group has lanes, in sync, that can be deskewed. -/
def State.bondCarries (s : State) : Bool :=
  decide (s.bond.active ≠ 0) && (s.bond.lanes.all fun i => (s.lane i).sync) && s.bond.aligned

/-- `PARTNER_FRAME_RECEIVE` (R91, R363): a frame that arrives whole. In role OUT none is taken (R353). -/
def execPartnerFrameReceive (f : PFrame) (crcOk : Bool) (t : Tick) (s : State) : Host.Outcome State Fault Refusal :=
  let s := s.silent
  if !s.pairSide ∨ !crcOk ∨ s.pair.role = .out ∨ !s.bondCarries then .next s else
  let s := ((s.seePartner f).pairEvents t).takeAck f.ack
  let s := if s.pair.role = .wait ∧ f.claim then s.startJoin else s
  .next (if s.pair.role = .holder then s.leadFrame f t
    else if (s.pair.role = .standby ∨ s.pair.role = .joining) ∧ f.role = 1 then (s.followFrame f t).readyJudge t
    else s.readyJudge t)

/-- `PBK` (R360): the stacks are held blocked as by an own STACK block; no /PBK/ goes back. -/
def execPbk (mask : BitVec 16) (t : Tick) (s : State) : Host.Outcome State Fault Refusal :=
  let s := s.silent
  if !s.pairSide ∨ s.pair.role = .out then .next s else .next ((s.sendBlk mask.toNat t).force mask.toNat)

/-! ## Replicated records -/

/-- One record other than a commit's takes effect (R359). Operations belong to the holder
(DEDUCED, log entry 26; DEDUCED, log entry 55). -/
def State.applyRecord (s : State) (r : RepRec) : State :=
  let op := if s.leads then r.page else 0
  let v := r.value.toNat
  if r.kind = rkWord then
    match wordRow r.page r.offset with
    | some w =>
      if w.term = .target then
        match genWord r.offset with
        | some g => (s.setWord r.wordKey r.value).stageGen g.1 g.2 r.value s.genTarget
        | none => s.setWord r.wordKey r.value
      else s.applyWord r.wordKey r.value 0
    | none => s
  else if r.kind = rkOpen then s.openSlot r.slot (if r.offset = 1 then some r.value else none)
  else if r.kind = rkClose then s.closeSlot r.slot
  else if r.kind = rkCoeff then s.setCoeffs r.slot r.offset [r.value]
  else if r.kind = rkEnum then s.enumerate op (v / 256) (v % 256)
  else if r.kind = rkAdmit then s.startAdmit v op
  else if r.kind = rkRetire then s.retire v
  else if r.kind = rkBypass then s.commandBypass v
  else s

/-- `REPLICATED_RECORD_APPLY` (R359): at EFFECT both sides apply the records; the words of a commit take effect together
(DEDUCED, log entry 55). -/
def execReplicatedRecordApply (s : State) : Host.Outcome State Fault Refusal :=
  let s := s.silent
  let due := s.pairOps.records.filter fun r => decide (r.effect ≤ s.mono)
  let s := { s with pairOps := { s.pairOps with records := s.pairOps.records.filter fun r => decide (s.mono < r.effect) } }
  let cs : List (Nat × Word) := (due.filter fun r => decide (r.kind = rkCommit)).map fun r => (r.wordKey, r.value)
  let s : State := if cs.isEmpty then s else s.commitWords cs 0 0
  .next ((due.filter fun r => decide (r.kind ≠ rkCommit)).foldl State.applyRecord s)

/-! ## Joining -/

/-- `JOIN_IMAGE_COMPLETE` (R362): the whole image has come; the steps after it are to build (DEDUCED, log entry 24). -/
def execJoinImageComplete (s : State) : Host.Outcome State Fault Refusal :=
  let s := s.silent
  if s.pair.role ≠ .joining ∨ s.shadow.join ≠ 1 then .next s else
  match s.shadow.imageCyc with
  | none => .next s
  | some j =>
    let s := s.loadImage (s.elapsedOf j + 2 + s.look)
    let behind := s.mono - s.elapsedOf j
    .next { s with
      shadow := { s.shadow with
        join := 2, imageBuf := [], lag := behind - (if s.duct.latchAt = s.mono + 1 then 1 else 2) }
      therm := { s.therm with kept := [] } }

/-- `JOIN_CATCHUP_COMPLETE` (R362): LAG has reached 0 (DEDUCED, log entry 24). -/
def execJoinCatchupComplete (s : State) : Host.Outcome State Fault Refusal :=
  let s := s.silent
  if s.pair.role ≠ .joining ∨ s.shadow.join ≠ 2 ∨ s.shadow.lag ≠ 0 then .next s
  else .next { s with
    pair := { s.pair with role := Role.standby }
    shadow := { s.shadow with join := 3, relayOff := 0, matchRun := 0 } }

/-! ## Reversion -/

/-- `REVERSION_HOLDOFF_EXPIRY` (R368): side A, READY for HOLDOFF, asks for the token, or locks at the limit
(DEDUCED, log entry 56). -/
def execReversionHoldoffExpiry (t : Tick) (s : State) : Host.Outcome State Fault Refusal :=
  let s := s.silent
  let c := s.word K.PAIR_CTL
  let held := decide (s.pair.readyAt + W.PAIR_CTL_HOLDOFF c * 100000 ≤ s.mono)
  if !s.pairSide ∨ s.sideB ∨ s.pair.role ≠ .standby ∨ !s.pair.ready ∨ !W.PAIR_CTL_AUTO_REV c ∨ s.pair.revLock ∨ !held then
    .next s
  else if s.reversions < W.PAIR_CTL_REV_MAX c then .next { s with pairOps := { s.pairOps with req := true } }
  else .next (({ s with pair := { s.pair with revLock := true } }).raise 0x0B09 0 0 t)

end Sys2Proof.Machine
end

