-- ==== Sys2Proof/Machine/Boundary.lean ====
section
/-! DEFINITION. `CYCLE_BOUNDARY` (R158): what the module does at the start of a control cycle by the clock alone. What a
rule lays down for a boundary under a row of its own (mode transitions, commits, releases, resets, timers) is that row. -/

namespace Sys2Proof.Machine

/-- The cycle number advances with the readings of the module's own sensors (R158, R400) (DEDUCED, log entry 52). -/
def State.advance (s : State) (e : Env) : State :=
  let y := s.sys
  let n := if y.mode = .boot then 0 else y.subSec + 1
  { s with
    mono := s.mono + 1
    cycle := s.cycle + 1
    sys := { y with
      baseT := e.baseT, feedA := e.feedA, feedB := e.feedB,
      subSec := if n = 100000 then 0 else n,
      uptime := if n = 100000 then lifeInc y.uptime else y.uptime } }

/-- R489: at the first boundary after a start the stored cycle numbers move by the powered-off time. -/
def State.shiftStored (s : State) : State :=
  if !s.jrnl.fresh then s else
  let s := s.moveStored (s.cycle - s.jrnl.life.lastCycle)
  { s with jrnl := { s.jrnl with fresh := false } }

/-- The words written for the next cycle (R8). -/
def State.applyNext (s : State) : State :=
  s.nextW.foldl (fun (s : State) (p : Nat × Word) => s.applyWord p.1 p.2 0) { s with nextW := [] }

/-- R356: a side without the token moves to SHIFT 1; side A as holder returns to SHIFT 0 while nothing is modulated and side
B is READY. -/
def State.moveShift (s : State) : State :=
  let p := s.pair
  let still := (List.range 16).all fun k => !s.modulated k (s.mono + 1 + s.look) && !(s.dstack k).run
  let m := if s.pairSide && decide (p.role = Role.standby ∧ p.shift = 0) then 1
    else if s.leads && !s.sideB && decide (p.shift = 1) && p.pReady && still then 2 else 0
  { s with
    pair := { p with shift := if m = 1 then 1 else if m = 2 then 0 else p.shift }
    pairOps := { s.pairOps with shiftMove := m } }

/-- R169, R203: stacks with a segment still incomplete at the boundary. -/
def State.overrun (s : State) (incomplete : List (Fin 16)) : State :=
  incomplete.foldl (fun (s : State) (k : Fin 16) => s.raise 0x0505 k 0 0) s

/-- R295, R360: /BLK/ on the strings of every blocked stack, the partner's included (DEDUCED, log entry 27). -/
def State.repeatBlk (s : State) : State :=
  s.sendBlk (s.blocked ||| (if s.pairSide && s.pair.lane then s.shadow.pBlocked else 0)) 0

/-- Sessions whose key or port was withdrawn close (R405, R486), and the replies of a snapshot leave (R167). -/
def State.sessBoundary (s : State) (snap : Bool) : State :=
  (List.range 8).foldl (fun (s : State) (i : Nat) =>
    let s := if snap then s.replyTo i .snap stOk [] else s
    if (s.sess i).closing then s.closeSess i else s) s

/-- The network's part: CAN_TS (R419) and the quiet time of NET_LAUNCH_LATE. -/
def State.netBoundary (s : State) : State :=
  let s := [0, 1].foldl (fun (s : State) (c : Nat) => s.setCan c { s.canOf c with ts := (s.canOf c).ts + 500 }) s
  [0, 1, 2].foldl (fun (s : State) (p : Nat) =>
    if Tab.get (fun _ => 0) s.net.lateAt p + 9999 ≤ s.mono then s.clear 0x0C04 p 0 else s) s

/-- The Inkwell's part: the governor's budget (R228), the cell image tiles written in every cycle (R429, R433), and the
quiet time of BLOT_OVERRUN (DEDUCED, log entry 47). -/
def State.inkBoundary (s : State) : State :=
  let each (t : Nat) : Bool := if t < 12288 then s.enabled (t / 4) && decide (t % 4 ≠ 3) else decide (12312 ≤ t ∧ t < 14336)
  let s := { s with ink := { s.ink with used := 0, scrubs := 0, cimScrubs := 0 } }
  let s := (s.ink.cimPoison.filter each).foldl (fun (s : State) (t : Nat) => s.cimWrite t) s
  if s.ink.blot.lostAt + 999 ≤ s.mono then s.clear 0x0D0C 0 0 else s

/-- Strings: what STR_STAT shows of the last cycle is dropped; a string that returned nothing breaks the run that clears
STRING_WRAPPED, and one whose other stroke alone came neither counts nor restarts it (R143, R145; DESIGN CHOICE, log
entry 58). -/
def State.strBoundary (s : State) : State :=
  s.strings.foldl (fun (s : State) (b : Nat) =>
    let x := s.str b
    s.setStr b { x with rx := 0, dual := false, wholeRun := if x.rx = 0 then 0 else x.wholeRun }) s

/-- The pair's part: paths, missing frames, a LAG above 4 and READY (R351, R361, R362, R371); READY stands while the failure
of the holder is being declared (DEDUCED, log entry 23). -/
def State.pairBoundary (s : State) : State :=
  if !s.pairSide then s else
  let both := s.pair.quill && s.pair.lane
  let came := match s.shadow.rxAt with | some r => decide (s.mono ≤ r + 1) | none => false
  let s := { s with
    pair := { s.pair with pathRun := if both then min 1000 (s.pair.pathRun + 1) else 0 }
    shadow := { s.shadow with release := 0, lost := if came then 0 else min 255 (s.shadow.lost + 1) } }
  let s := if 1000 ≤ s.pair.pathRun then s.clear 0x0B01 0 0 else s
  let s := if s.pair.role = .standby ∧ 4 < s.shadow.lag then s.startJoin else s
  let s := if s.pair.pReady then s else s.flushAcks
  if s.pair.declared ∨ (s.pair.bothLost.isSome ∧ W.PAIR_CTL_DETECT (s.word K.PAIR_CTL) = true) then s else s.readyJudge 0

/-- `CYCLE_BOUNDARY` (R158). -/
def execCycleBoundary (e : Env) (s : State) : Host.Outcome State Fault Refusal :=
  let s := s.silent
  if !s.sys.powered then .next s else
  let s := (s.advance e).shiftStored.stepDown.applyNext
  let snap := s.clk.snapReq
  let s := (s.clockBoundary e.drift).bondBoundary
  let s := (s.overrun e.incomplete).moveShift.repeatBlk
  let s := { s with loops := { s.loops with ran := s.loops.ranNow, ranNow := 0 } }
  .next (((s.sessBoundary snap).netBoundary.inkBoundary.strBoundary.pairBoundary).safRun 0)

end Sys2Proof.Machine
end

