-- ==== Sys2Proof/Machine/Nib.lean ====
section
/-! DEFINITION. The events of a nib (The Cell Link and the Nib; Switch Supervision and Gate Strength). A nib
is named by its physical place. An event that the nib's state does not allow leaves the state as it is. -/

namespace Sys2Proof.Machine

/-- R141: the nib powers up in POWERUP with every switch off. The bypass element is a one-way device and
stays as it was (R14) (DEDUCED, log entry 36). -/
def execNibPowerUp (n : Fin 3072) (ident : Word) (typ : Fin 4) (turnLo turnHi fw : BitVec 16) (s : State) :
    Host.Outcome State Fault Refusal :=
  let s := s.silent
  if (s.nib n).powered then .next s else
  .next ((s.setNib n { Nib.init with
    powered := true, ident := ident, typ := typ, fw := fw.toNat, turnLo := turnLo.toNat, turnHi := turnHi.toNat,
    byp := (s.nib n).byp, low := { NibSide.init with wrap := true }, high := { NibSide.init with wrap := true } }).setAux n
      NibAux.init)

/-- R115: the nib loses power, forgets its position and state, and its ports go dark (DEDUCED, log entry 36). -/
def execNibPowerLoss (n : Fin 3072) (s : State) : Host.Outcome State Fault Refusal :=
  let s := s.silent
  .next ((s.setNib n { Nib.init with byp := (s.nib n).byp }).setAux n NibAux.init)

/-- The position from an outward pass of a DIR = 0 stroke (R115): a nib that finds another one than it holds turns off,
takes epoch 0 and is NUMBERED. -/
def State.nibPlace (s : State) (p hops : Nat) : State :=
  if (s.nib p).pos = some hops then s else
  let s := s.nibDown p
  s.setNib p { s.nib p with pos := some hops, epoch := 0, state := nsNumbered, held := [], mirror := [], armed := false }

/-- What a nib takes from a header with a correct HCRC: the mean of CORR for TRIM (R129), the time (R128), the position
(R115). -/
def State.nibHeader (s : State) (p : Nat) (v : StrokePass) : State :=
  let x := s.nib p
  let a := s.aux p
  let y := (x.side v.side).header (hdrCorr v.hdr)
  let e := startEst v.tH (beAt v.hdr 20 2) (hdrCorr v.hdr) (x.side v.side).trim
  let c := hdrCycle v.hdr
  let a := if (hdrAct v.hdr || hdrRly v.hdr) && a.takes c e then a.estimate c e else a
  let s := (s.setNib p (x.setSide v.side y)).setAux p a
  if x.outward v.side v.hdr ∧ hdrDir v.hdr = 0 then s.nibPlace p (hdrHops v.hdr) else s

/-- The slot that a nib fills in a passing stroke, [] where it fills none (R111, R113, R116); what it sends for a cycle is
kept for the second stroke of that cycle. -/
def State.nibFill (s : State) (p : Nat) (v : StrokePass) : State × List Byte :=
  let x := s.nib p
  let a := s.aux p
  let c := hdrCycle v.hdr
  match x.pos with
  | none => (s, [])
  | some q =>
    if !(x.outward v.side v.hdr && decide (q < hdrSlots v.hdr)) then (s, []) else
    let b := a.bodyFor x c v.meas v.ext v.health
    (s.setAux p { a with sent := keepLast 4 ((a.sent.filter fun y => decide (y.1 ≠ c)) ++ [(c, b)]) }, slotSent b a.dirNow)

/-- R104–R107, R111–R117, R128: a stroke passes the nib. A side out of sync handles none (R88); of a header that is not
type 1, or damaged, the nib takes nothing (DEDUCED, log entry 36). -/
def execNibStrokePass (n : Fin 3072) (v : StrokePass) (s : State) : Host.Outcome State Fault Refusal :=
  let s := s.silent
  let x := s.nib n
  if !x.powered || !(x.side v.side).sync then .next s else
  let out := x.outSide v.side
  let s := s.nibEcho n v.side (.nibStroke n 0 v.hdr v.body v.bad)
  if hdrType v.hdr ≠ 1 then .next (s.nibSend n out (.nibStroke n out v.hdr v.body v.bad)) else
  let ok := hdrOk v.hdr && v.bad.all fun i => decide (32 ≤ i)
  let fwd := forwardHdr v.hdr v.res ok
  if !ok then .next (s.nibSend n out (.nibStroke n out fwd v.body v.bad)) else
  let r := (s.nibHeader n v).nibFill n v
  let at' := slotPlace (hdrSlots v.hdr) (((r.1.nib n).pos).getD 0)
  .next (r.1.nibSend n out (.nibStroke n out fwd (forwardBody v.body r.2 at') (errPlaces v.bad r.2 at')))

/-- An armed nib in BLOCKED, SAFE or FAULT clears at a segment it would obey that carries BLOCK = 0 (R126): it returns to
ADMITTED from the segment's target on, unless its fault is still there. The spec does not say what becomes of the arming in
that case, and when TYFLT.DUAL_ACTIVE falls: the arming is used up, and the bit falls here (DESIGN CHOICE, log entry 58). -/
def State.nibRelease (s : State) (p : Nat) (t : BitVec 48) : State :=
  let x := s.nib p
  let a := s.aux p
  if x.state ≠ nsBlocked ∧ x.state ≠ nsSafe ∧ x.state ≠ nsFault then s.setNib p { x with armed := false }
  else if x.state = nsFault ∧ (a.fGate ∨ a.fTemp ∨ a.fAux) then s.setNib p { x with armed := false }
  else
    (s.setNib p { x with
      armed := false, latch := false, state := nsAdmitted, held := x.held.filter (fun h => !ahead t h.target),
      mirror := x.mirror.filter (fun h => !ahead t h.target) }).setAux p { a with sc := [], first := some t, dual := false }

/-- ACT from both sides in strokes of one CYCLE (R124): neither is obeyed; again in the next cycle latches a block
(DEDUCED, log entry 37). -/
def State.nibDual (s : State) (p : Nat) (c t : BitVec 48) : State :=
  let x := s.nib p
  let a := s.aux p
  let s := (s.setNib p { x with held := x.held.filter fun h => decide (h.target ≠ t) }).setAux p
    { a with dual := true, dualAt := some c }
  if a.dualAt = some (c - 1) then s.nibLatch p else s

/-- BYPASS_REQ is accepted (R123): every switch off, every held schedule and mirror copy discarded; not in POWERUP or
LOOPBACK. -/
def State.nibByp (s : State) (p : Nat) : State :=
  if (s.nib p).state = nsPowerUp ∨ (s.nib p).state = nsLoopback then s else
  let s := s.nibDown p
  s.setNib p { s.nib p with bypReq := true, held := [], mirror := [] }

/-- The first ACT segment accepted for a target governs it (R119, R121, R123, R133). -/
def State.nibHold (s : State) (p dir : Nat) (c t : BitVec 48) (sched : NibSched) : State :=
  let x := s.nib p
  let a := s.aux p
  if x.held.any (fun h => decide (h.target = t)) then s else
  let a := { a with
    actAt := if sched.obeyed then some (c, dir) else a.actAt, req := if sched.mgmt.isEmpty then a.req else sched.mgmt,
    soft := if sched.obeyed ∧ !sched.hold then sched.soft else a.soft,
    first := if sched.obeyed ∧ a.first.isNone ∧ x.state = nsAdmitted then some t else a.first }
  let s := s.setAux p a
  let s := if sched.obeyed && sched.byp then s.nibByp p else s
  s.setNib p { s.nib p with held := (s.nib p).held ++ [sched] }

/-- A mirror copy waits until its target lacks an ACT segment (R119). -/
def State.nibCopy (s : State) (p : Nat) (t : BitVec 48) (sched : NibSched) : State :=
  let x := s.nib p
  if x.mirror.any (fun h => decide (h.target = t)) then s else s.setNib p { x with mirror := x.mirror ++ [sched] }

/-- What a nib takes from a sound segment of its own epoch or, for BLOCK and the any-epoch requests, of any
(R110, R119–R126, R133). `act` tells an ACT segment from a mirror copy; `dir` is the end the stroke came from; `tS` is the
arrival of its last byte (DEDUCED, log entry 36). -/
def State.nibTake (s : State) (p side dir : Nat) (c : BitVec 48) (g : List Byte) (act : Bool) (tS : Nat) : State :=
  let x := s.nib p
  let match_ := decide (beAt g 6 1 = x.epoch)
  let mg := if segMgmt g ∧ (match_ ∨ anyEpoch (beAt g 56 1)) then (g.drop 56).take 8 else []
  -- another epoch counts as a rejection where the epoch check applies (R110, R111)
  let s := if match_ || segBlock g || !mg.isEmpty then s else s.setAux p ((s.aux p).reject c)
  -- BLOCK acts at once (R119, R125)
  let s := if segBlock g then s.nibLatch p else s
  match (segTarget c g).filter fun t => !(s.aux p).late t tS with
  | none => s
  | some t =>
    let s := if match_ && (s.nib p).armed && !segBlock g then s.nibRelease p t else s
    let sched : NibSched :=
      { target := t, side := side, hold := segHold g, blank := beAt g 4 1, soft := beAt g 5 1 % 16,
        edges := if segBlock g ∨ segByp g ∨ x.bypReq ∨ !match_ then [] else segEdges g, mgmt := mg, obeyed := match_, byp := segByp g }
    if !match_ && !segBlock g && mg.isEmpty then s
    else if act && match_ && decide (∃ q, (s.aux p).actAt = some q ∧ q.1 = c ∧ q.2 ≠ dir) then s.nibDual p c t
    else if act then s.nibHold p dir c t sched
    else s.nibCopy p t sched

/-- R110, R119–R126: a command segment reaches the nib at its position, its last byte at `tS` ps of the nib's clock. -/
def execNibSegmentReceive (n : Fin 3072) (side : Fin 2) (hdr seg : List Byte) (err : Bool) (tS : Nat) (s : State) :
    Host.Outcome State Fault Refusal :=
  let s := s.silent
  let x := s.nib n
  if !x.powered || !hdrOk hdr || decide (hdrType hdr ≠ 1) || (segEmpty seg && !err) then .next s else
  let c := hdrCycle hdr
  let lv := x.levelsAt (s.aux n).cur (s.aux n).cyc (segTarget c seg)
  if !segSound x.typ lv seg err then .next (s.setAux n ((s.aux n).reject c)) else
  if hdrAct hdr && segAct seg then .next (s.nibTake n side (hdrDir hdr) c seg true tS)
  else if hdrRly hdr && !segAct seg then .next (s.nibTake n side (hdrDir hdr) c seg false tS)
  else .next s

/-- R134: IDENTIFY is answered with the reply only. -/
def execIdentify (n : Fin 3072) (s : State) : Host.Outcome State Fault Refusal :=
  let s := s.silent
  let a := s.aux n
  if beAt a.req 0 1 ≠ 1 ∨ a.req = [] then .next s
  else if a.repeated then .next (s.nibRepeat n) else .next (s.nibReply n 0)

/-- R129, R134: SET_ARR takes a new arrival offset for a side; TRIM follows from the next 64 headers. -/
def execSetArr (n : Fin 3072) (s : State) : Host.Outcome State Fault Refusal :=
  let s := s.silent
  let a := s.aux n
  if beAt a.req 0 1 ≠ 2 ∨ a.req = [] then .next s
  else if a.repeated then .next (s.nibRepeat n)
  else
    let k := beAt a.req 2 1
    if 1 < k then .next (s.nibReply n 4) else
    let x := s.nib n
    .next ((s.setNib n (x.setSide k { x.side k with arr := beAt a.req 3 4, corrSum := 0, corrLeft := 64 })).nibReply n 0)

/-- R134: ADMIT with the nib's own identity discards schedules, copies and latches and enters ADMITTED
(DEDUCED, log entry 36). TYFLT.DUAL_ACTIVE goes back to 0 here and at a release (DESIGN CHOICE, log entry 58). -/
def execAdmitCi (n : Fin 3072) (s : State) : Host.Outcome State Fault Refusal :=
  let s := s.silent
  let a := s.aux n
  let x := s.nib n
  if beAt a.req 0 1 ≠ 3 ∨ a.req = [] then .next s
  else if a.repeated then .next (s.nibRepeat n)
  else if BitVec.ofNat 32 (beAt a.req 3 4) ≠ x.ident then .next (s.nibReply n 3)
  else if x.state = nsFault ∨ x.state = nsPowerUp ∨ x.state = nsLoopback then .next (s.nibReply n 2)
  else if beAt a.req 2 1 = 0 then .next (s.nibReply n 4)
  else
    let s := s.nibDown n
    let s := (s.setNib n { s.nib n with
      held := [], mirror := [], latch := false, armed := false, epoch := beAt a.req 2 1, state := nsAdmitted }).setAux n
        { s.aux n with first := none, ltag := 0, dual := false, dualAt := none }
    .next (s.nibReply n 0)

/-- R134: RETIRE turns every switch off at soft-off strength, sets epoch 0 and enters NUMBERED. -/
def execRetire (n : Fin 3072) (s : State) : Host.Outcome State Fault Refusal :=
  let s := s.silent
  let a := s.aux n
  if beAt a.req 0 1 ≠ 4 ∨ a.req = [] then .next s
  else if a.repeated then .next (s.nibRepeat n)
  else
    let s := s.nibDown n
    .next ((s.setNib n { s.nib n with
      epoch := 0, state := nsNumbered, held := [], mirror := [], armed := false }).nibReply n 0)

/-- R134: any other code is answered with result 1. -/
def execMgmtUnknownRequest (n : Fin 3072) (s : State) : Host.Outcome State Fault Refusal :=
  let s := s.silent
  let a := s.aux n
  let code := beAt a.req 0 1
  if a.req = [] ∨ (1 ≤ code ∧ code ≤ 4) then .next s
  else if a.repeated then .next (s.nibRepeat n) else .next (s.nibReply n 1)

/-- The segment that governs a target at its start: the ACT segment, else the mirror copy (R119). A copy's request and
BYPASS_REQ count from then on (R123, R133). -/
def State.nibGoverned (s : State) (p : Nat) (own : Bool) (h : NibSched) : State :=
  if own then s else
  let a := s.aux p
  let s := s.setAux p { a with
    req := if h.mgmt.isEmpty then a.req else h.mgmt, soft := if h.obeyed ∧ !h.hold then h.soft else a.soft,
    first := if h.obeyed ∧ a.first.isNone ∧ (s.nib p).state = nsAdmitted then some a.cyc else a.first }
  if h.obeyed && h.byp then s.nibByp p else s

/-- R122, R123: a target cycle begins; the nib takes its held schedule, else the mirror copy, else turns off
and enters SAFE. -/
def execNibTargetCycleStart (n : Fin 3072) (s : State) : Host.Outcome State Fault Refusal :=
  let s := s.silent
  let x := s.nib n
  if !x.powered then .next s else
  let a := s.aux n
  let t := a.cyc + 1
  let own := x.held.find? fun h => decide (h.target = t)
  let copy := x.mirror.find? fun h => decide (h.target = t)
  let s := (s.setNib n { x with
    held := x.held.filter (fun h => ahead h.target t), mirror := x.mirror.filter (fun h => ahead h.target t) }).setAux n
      { a with
        cyc := t, time := a.time.map (· + nibPs 10000000), timeBad := a.timeBad + 1,
        snaps := keepLast 4 (a.snaps ++ [(t, nibSnap x a)]), swt := [], cur := [] }
  let gov := if own.isSome then own else copy
  let s := match gov with | some h => s.nibGoverned n own.isSome h | none => s
  let y := s.nib n
  let a := s.aux n
  match gov.filter (·.obeyed) with
  | some h =>
    let run := decide (y.state = nsAdmitted) && !y.bypReq && !h.hold
    .next (s.setAux n { a with
      cur := if run then h.edges else [], blank := if h.hold then a.blank else h.blank, dirNow := h.side })
  | none =>
    let exhausted := decide (y.state = nsAdmitted) && !y.bypReq &&
      (match a.first with | some f => !ahead f t | none => false)
    .next (if exhausted then (s.nibDown n).setNib n { (s.nibDown n).nib n with state := nsSafe } else s)

/-- R109, R261, R262, R275: the next edge record executes at its GATE code; `seen` is what the nib sees of the
transition. A turn-on opens the blanking window of its switch. -/
def execNibEdgeExecute (n : Fin 3072) (seen : EdgeSeen) (s : State) : Host.Outcome State Fault Refusal :=
  let s := s.silent
  let x := s.nib n
  let a := s.aux n
  match a.cur with
  | [] => .next s
  | e :: es =>
    if x.state ≠ nsAdmitted ∨ x.bypReq then .next (s.setAux n { a with cur := [] }) else
    let s := (s.setNib n { x with levels := Tab.put (fun _ => false) x.levels e.sw e.level }).setAux n { a with
      cur := es, ltag := e.tag, swt := Tab.put (fun _ => 255) a.swt e.sw (swtCode seen.began seen.lasted),
      gates := Tab.put (fun _ => 0) a.gates e.sw e.gate,
      blankEnd := if e.level then Tab.put (fun _ => 0) a.blankEnd e.sw (a.now e.offset + a.blank * 250) else a.blankEnd }
    .next (s.emit (.nibDrive n e.sw e.level e.gate))

/-- R103, R125: /BLK/ is forwarded and latches a block. -/
def execBlk (n : Fin 3072) (side : Fin 2) (s : State) : Host.Outcome State Fault Refusal :=
  let s := s.silent
  if !(s.nib n).powered then .next s else .next ((s.nibForward n side .blk).nibLatch n)

/-- R126: /CLR/ is forwarded and arms a nib in BLOCKED, SAFE or FAULT. -/
def execClr (n : Fin 3072) (side : Fin 2) (s : State) : Host.Outcome State Fault Refusal :=
  let s := s.silent
  let x := s.nib n
  if !x.powered then .next s else
  let s := s.nibForward n side .clr
  .next (if x.state = nsBlocked ∨ x.state = nsSafe ∨ x.state = nsFault then s.setNib n { x with armed := true } else s)

/-- R117: /BRK/ received on a side puts that side in wrap (DEDUCED, log entry 36). -/
def execBrk (n : Fin 3072) (side : Fin 2) (s : State) : Host.Outcome State Fault Refusal :=
  let s := s.silent
  let x := s.nib n
  if !x.powered then .next s else
  .next (s.setNib n (x.setSide side { x.side side with wrap := true, brk := true }))

/-- R117: /EIS/ is forwarded and the side enters wrap for the electrical idle. -/
def execEis (n : Fin 3072) (side : Fin 2) (s : State) : Host.Outcome State Fault Refusal :=
  let s := s.silent
  let x := s.nib n
  if !x.powered then .next s else
  let s := s.nibForward n side .eis
  .next (s.setNib n (x.setSide side { x.side side with wrap := true, eis := true }))

/-- R102, R129: the nib at position `p` answers an /ECQ/ whose four symbols are valid (`ok`) and whose complement matches;
any other one is forwarded as it came (DEDUCED, log entry 36). -/
def execEcq (n : Fin 3072) (side : Fin 2) (d : SetData) (ok : Bool) (s : State) : Host.Outcome State Fault Refusal :=
  let s := s.silent
  let x := s.nib n
  if !x.powered then .next s
  else if ok ∧ d.q = ~~~d.p ∧ x.pos = some d.p.toNat then .next (s.nibSend n side (.nibSet n side (.ecr d.p d.q)))
  else .next (s.nibForward n side (.ecq d.p d.q))

/-- R102, R112, R144: /LBK/ with four valid symbols (`ok`) starts or ends the far-end loopback of the low side of the nib
it addresses; a nib in ADMITTED ignores it, and a block or clear that had armed the nib counts no more. Any other one is
forwarded as it came (DEDUCED, log entry 36). -/
def execLbk (n : Fin 3072) (side : Fin 2) (d : SetData) (ok : Bool) (s : State) : Host.Outcome State Fault Refusal :=
  let s := s.silent
  let x := s.nib n
  if !x.powered then .next s
  else if !ok ∨ x.pos ≠ some d.p.toNat then .next (s.nibForward n side (.lbk d.p d.q))
  else if d.q = 1 ∧ x.state ≠ nsAdmitted then
    let s := s.nibDown n
    .next (s.setNib n { s.nib n with state := nsLoopback, armed := false })
  else if d.q = 0 ∧ x.state = nsLoopback then .next (s.setNib n { x with state := nsNumbered })
  else .next s

/-- R117: signal or sync lost on a side: the side enters wrap. -/
def execNibSideLoss (n : Fin 3072) (side : Fin 2) (s : State) : Host.Outcome State Fault Refusal :=
  let s := s.silent
  let x := s.nib n
  if !x.powered then .next s else
  .next (s.setNib n (x.setSide side { x.side side with sync := false, wrap := true }))

/-- R117: once per µs /BRK/ leaves each wrapped side that lacks signal or sync. -/
def execNibBrkTimer (n : Fin 3072) (s : State) : Host.Outcome State Fault Refusal :=
  let s := s.silent
  let x := s.nib n
  if !x.powered then .next s else
  let s := if x.low.wrap && !x.low.sync then s.nibSend n 0 (.nibSet n 0 .brk) else s
  .next (if x.high.wrap && !x.high.sync then s.nibSend n 1 (.nibSet n 1 .brk) else s)

/-- R117: a wrapped side in sync without /BRK/ for 10 ms: the nib leaves wrap there. -/
def execNibWrapExit (n : Fin 3072) (side : Fin 2) (s : State) : Host.Outcome State Fault Refusal :=
  let s := s.silent
  let x := s.nib n
  if x.powered && (x.side side).wrap && (x.side side).sync then
    .next (s.setNib n (x.setSide side { x.side side with wrap := false, brk := false, eis := false }))
  else .next s

/-- R117: a side regains sync and stops sending /BRK/; after an announced idle it leaves wrap at once, and the training
burst that ended the idle is forwarded (R88). -/
def execNibSideSyncAcquire (n : Fin 3072) (side : Fin 2) (s : State) : Host.Outcome State Fault Refusal :=
  let s := s.silent
  let x := s.nib n
  if !x.powered then .next s else
  let y := x.side side
  let s := if y.eis then s.nibSend n (x.outSide side) (.nibTrain n (x.outSide side)) else s
  .next (s.setNib n (x.setSide side { y with
    sync := true, wrap := y.wrap && !y.eis, brk := y.brk && !y.eis, eis := false }))

/-- R128: no estimate accepted for 100 cycles sets the time-error flag. -/
def execNibTimeError (n : Fin 3072) (s : State) : Host.Outcome State Fault Refusal :=
  let s := s.silent
  let a := s.aux n
  if (s.nib n).powered && decide (100 ≤ a.timeBad) then .next (s.setAux n { a with timeErr := true }) else .next s

/-- R275–R278: a detector of switch `sw`, the hard comparator or the desaturation detector, trips at tick `t` of the nib's
cycle: SC bytes taken or added to, switches off, FAULT. -/
def execNibShortDetect (n : Fin 3072) (sw : Fin 8) (hard : Bool) (t : Tick) (s : State) :
    Host.Outcome State Fault Refusal :=
  let s := s.silent
  if !(s.nib n).powered then .next s else
  match (s.aux n).short sw hard t with
  | none => .next s
  | some a => .next ((s.setAux n a).nibFault n)

/-- R112: a gate-driver, over-temperature or auxiliary supply fault. A nib in POWERUP, NUMBERED or LOOPBACK
reports the flag and keeps its state. -/
def execNibFaultDetect (n : Fin 3072) (f : NibFault) (s : State) : Host.Outcome State Fault Refusal :=
  let s := s.silent
  if !(s.nib n).powered then .next s else
  let a := s.aux n
  let a := match f with
    | .gate => { a with fGate := true } | .temp => { a with fTemp := true } | .aux => { a with fAux := true }
  .next ((s.setAux n a).nibFault n)

/-- R112: the fault is gone; its TYFLT bit clears while the nib stays in FAULT (DEDUCED, log entry 36). -/
def execNibFaultGone (n : Fin 3072) (f : NibFault) (s : State) : Host.Outcome State Fault Refusal :=
  let s := s.silent
  let a := s.aux n
  .next (s.setAux n (match f with
    | .gate => { a with fGate := false } | .temp => { a with fTemp := false } | .aux => { a with fAux := false }))

/-- R123: the bypass element closes after the request and STAT.BYP is set. -/
def execNibBypassClose (n : Fin 3072) (s : State) : Host.Outcome State Fault Refusal :=
  let s := s.silent
  let x := s.nib n
  if x.bypReq then .next (s.setNib n { x with byp := true }) else .next s

/-- R141: the nib closes its bypass element by itself on overvoltage. -/
def execNibOvervoltBypass (n : Fin 3072) (s : State) : Host.Outcome State Fault Refusal :=
  let s := s.silent
  let x := s.nib n
  if x.powered then .next (s.setNib n { x with byp := true }) else .next s

/-- R15: maintenance reopens the element and the nib stops reporting STAT.BYP (DEDUCED, log entry 36). -/
def execBypassElementReopened (ci : Fin 3072) (s : State) : Host.Outcome State Fault Refusal :=
  let s := s.silent
  .next (s.setNib ci { s.nib ci with byp := false, bypReq := false })

end Sys2Proof.Machine
end

