-- ==== Sys2Proof/Machine/Dispatch.lean ====
section
/-! DEFINITION. One arm for each command of the opcode table: a direct call of its meaning. -/

namespace Sys2Proof.Machine

/-- The effect of a command on everything but the queue (DESIGN CHOICE, log entry 6). -/
def exec (i : Instr) (s : State) : Host.Outcome State Fault Refusal :=
  match i with
  | .powerUp f => Sys2Proof.Machine.execPowerUp f s
  | .imageVerifyComplete ok0 ok1 => Sys2Proof.Machine.execImageVerifyComplete ok0 ok1 s
  | .startComplete ms bad => Sys2Proof.Machine.execStartComplete ms bad s
  | .bootLockTimeout => Sys2Proof.Machine.execBootLockTimeout s
  | .watchdogRestart => Sys2Proof.Machine.execWatchdogRestart s
  | .feedLossDetect f t => Sys2Proof.Machine.execFeedLossDetect f t s
  | .feedRestoreTimer f t => Sys2Proof.Machine.execFeedRestoreTimer f t s
  | .feedHighDetect t => Sys2Proof.Machine.execFeedHighDetect t s
  | .supplyLoss t => Sys2Proof.Machine.execSupplyLoss t s
  | .powerDownComplete => Sys2Proof.Machine.execPowerDownComplete s
  | .baseplateHotTimer t => Sys2Proof.Machine.execBaseplateHotTimer t s
  | .baseplateOvertempTimer t => Sys2Proof.Machine.execBaseplateOvertempTimer t s
  | .railMonitorTrip collapse t => Sys2Proof.Machine.execRailMonitorTrip collapse t s
  | .giveupEnd => Sys2Proof.Machine.execGiveupEnd s
  | .loop0EdgeLoss => Sys2Proof.Machine.execLoop0EdgeLoss s
  | .lockstepDisagree t => Sys2Proof.Machine.execLockstepDisagree t s
  | .cycleBoundary e => Sys2Proof.Machine.execCycleBoundary e s
  | .strokeLaunch => Sys2Proof.Machine.execStrokeLaunch s
  | .telemetryCutoff => Sys2Proof.Machine.execTelemetryCutoff s
  | .thermalStep mis => Sys2Proof.Machine.execThermalStep mis s
  | .loopBankRun b => Sys2Proof.Machine.execLoopBankRun b s
  | .supervisionProcess => Sys2Proof.Machine.execSupervisionProcess s
  | .schedPost late => Sys2Proof.Machine.execSchedPost late s
  | .loopOutputStage => Sys2Proof.Machine.execLoopOutputStage s
  | .loopOutputDeadline => Sys2Proof.Machine.execLoopOutputDeadline s
  | .ductusLatch bad => Sys2Proof.Machine.execDuctusLatch bad s
  | .generatorLoad k => Sys2Proof.Machine.execGeneratorLoad k s
  | .governorUpdate die => Sys2Proof.Machine.execGovernorUpdate die s
  | .telemetrySlotReceive p pos slot err t => Sys2Proof.Machine.execTelemetrySlotReceive p pos slot err t s
  | .strokeHeaderReturn p hdr t => Sys2Proof.Machine.execStrokeHeaderReturn p hdr t s
  | .lostLimitExpiry ci => Sys2Proof.Machine.execLostLimitExpiry ci s
  | .ecr a d ok stamp => Sys2Proof.Machine.execEcr a d ok stamp s
  | .enumReplyTimeout ci => Sys2Proof.Machine.execEnumReplyTimeout ci s
  | .enumerationComplete p => Sys2Proof.Machine.execEnumerationComplete p s
  | .admissionStepProceed ci => Sys2Proof.Machine.execAdmissionStepProceed ci s
  | .admissionTimerExpiry ci => Sys2Proof.Machine.execAdmissionTimerExpiry ci s
  | .prechargePhaseComplete k => Sys2Proof.Machine.execPrechargePhaseComplete k s
  | .prechargeTimeout => Sys2Proof.Machine.execPrechargeTimeout s
  | .quietPeriodEnd src => Sys2Proof.Machine.execQuietPeriodEnd src s
  | .stackRelease k => Sys2Proof.Machine.execStackRelease k s
  | .clrSend => Sys2Proof.Machine.execClrSend s
  | .faultResetApply => Sys2Proof.Machine.execFaultResetApply s
  | .eventQueueCopy => Sys2Proof.Machine.execEventQueueCopy s
  | .journalWrite region ok1 ok2 => Sys2Proof.Machine.execJournalWrite region ok1 ok2 s
  | .lifetimeSecond => Sys2Proof.Machine.execLifetimeSecond s
  | .wearJournalPeriod => Sys2Proof.Machine.execWearJournalPeriod s
  | .laneSignalLoss l t => Sys2Proof.Machine.execLaneSignalLoss l t s
  | .laneNoSignalTimeout l t => Sys2Proof.Machine.execLaneNoSignalTimeout l t s
  | .laneSignalDetect x => Sys2Proof.Machine.execLaneSignalDetect x s
  | .eqSweepDone l eyes t => Sys2Proof.Machine.execEqSweepDone l eyes t s
  | .laneSyncAcquire l pos t => Sys2Proof.Machine.execLaneSyncAcquire l pos t s
  | .laneSyncDrop l cdrLost t => Sys2Proof.Machine.execLaneSyncDrop l cdrLost t s
  | .laneCodeViolation l t => Sys2Proof.Machine.execLaneCodeViolation l t s
  | .commaHuntExpiry l t => Sys2Proof.Machine.execCommaHuntExpiry l t s
  | .slipDecodeCount l t => Sys2Proof.Machine.execSlipDecodeCount l t s
  | .laneErrInterval l t => Sys2Proof.Machine.execLaneErrInterval l t s
  | .txBiasFault l t => Sys2Proof.Machine.execTxBiasFault l t s
  | .txBiasRecover l t => Sys2Proof.Machine.execTxBiasRecover l t s
  | .electricalIdleEntry l => Sys2Proof.Machine.execElectricalIdleEntry l s
  | .idleExit l => Sys2Proof.Machine.execIdleExit l s
  | .bondMarkerReceive l b1 b2 b3 offset t => Sys2Proof.Machine.execBondMarkerReceive l b1 b2 b3 offset t s
  | .bondWidthSwitch => Sys2Proof.Machine.execBondWidthSwitch s
  | .bondLaneRejoin l => Sys2Proof.Machine.execBondLaneRejoin l s
  | .clockLockDeclare k errs t => Sys2Proof.Machine.execClockLockDeclare k errs t s
  | .clockLockLoss k errs t => Sys2Proof.Machine.execClockLockLoss k errs t s
  | .referenceEdgeMissing t => Sys2Proof.Machine.execReferenceEdgeMissing t s
  | .referenceReturn j phase => Sys2Proof.Machine.execReferenceReturn j phase s
  | .laneWalkDone j => Sys2Proof.Machine.execLaneWalkDone j s
  | .coastLimitExpiry j t => Sys2Proof.Machine.execCoastLimitExpiry j t s
  | .holdoverTimeout t => Sys2Proof.Machine.execHoldoverTimeout t s
  | .slewEnd t => Sys2Proof.Machine.execSlewEnd t s
  | .deferredTimeStep t => Sys2Proof.Machine.execDeferredTimeStep t s
  | .ptpSyncReceive p m res t => Sys2Proof.Machine.execPtpSyncReceive p m res t s
  | .ptpFollowUpReceive p m t => Sys2Proof.Machine.execPtpFollowUpReceive p m t s
  | .ptpAnnounceReceive p m t => Sys2Proof.Machine.execPtpAnnounceReceive p m t s
  | .ptpAnnounceTimeout p src t => Sys2Proof.Machine.execPtpAnnounceTimeout p src t s
  | .ptpPdelayTimer p t => Sys2Proof.Machine.execPtpPdelayTimer p t s
  | .ptpPdelayReqReceive p src seq => Sys2Proof.Machine.execPtpPdelayReqReceive p src seq s
  | .ptpPdelayRespReceive p seq rt turn t => Sys2Proof.Machine.execPtpPdelayRespReceive p seq rt turn t s
  | .netFrameReceive p f t => Sys2Proof.Machine.execNetFrameReceive p f t s
  | .arpMessage p req sip tip mac => Sys2Proof.Machine.execArpMessage p req sip tip mac s
  | .arpEntryAge p ip => Sys2Proof.Machine.execArpEntryAge p ip s
  | .icmpEchoRequest p sip data t => Sys2Proof.Machine.execIcmpEchoRequest p sip data t s
  | .netLinkUp p t => Sys2Proof.Machine.execNetLinkUp p t s
  | .netLinkLoss p t => Sys2Proof.Machine.execNetLinkLoss p t s
  | .timedLaunch p busy t => Sys2Proof.Machine.execTimedLaunch p busy t s
  | .telemetryStreamSample j => Sys2Proof.Machine.execTelemetryStreamSample j s
  | .streamStop => Sys2Proof.Machine.execStreamStop s
  | .canWindowOpen c k fits => Sys2Proof.Machine.execCanWindowOpen c k fits s
  | .canFrameTransmitted c stamp t => Sys2Proof.Machine.execCanFrameTransmitted c stamp t s
  | .canTxError c lost ack fits t => Sys2Proof.Machine.execCanTxError c lost ack fits t s
  | .canBusOffRecovery c t => Sys2Proof.Machine.execCanBusOffRecovery c t s
  | .canFrameReceive c f stamp t => Sys2Proof.Machine.execCanFrameReceive c f stamp t s
  | .canRxLockTimeout c k => Sys2Proof.Machine.execCanRxLockTimeout c k s
  | .canRxselWrite r w => Sys2Proof.Machine.execCanRxselWrite r w s
  | .adcConversionSlot sl => Sys2Proof.Machine.execAdcConversionSlot sl s
  | .adcConversionComplete k pins edge => Sys2Proof.Machine.execAdcConversionComplete k pins edge s
  | .adcUrg r adc ch => Sys2Proof.Machine.execAdcUrg r adc ch s
  | .arbiterDraw req => Sys2Proof.Machine.execArbiterDraw req s
  | .inkwellTransferDone tiles => Sys2Proof.Machine.execInkwellTransferDone tiles s
  | .scrubTileRead cim bad t => Sys2Proof.Machine.execScrubTileRead cim bad t s
  | .arbCtlWrite r w => Sys2Proof.Machine.execArbCtlWrite r w s
  | .freezeTimer t => Sys2Proof.Machine.execFreezeTimer t s
  | .arbCmdRevoke r j => Sys2Proof.Machine.execArbCmdRevoke r j s
  | .inkWinWrite r k ws => Sys2Proof.Machine.execInkWinWrite r k ws s
  | .dmaStart r ch => Sys2Proof.Machine.execDmaStart r ch s
  | .dmaCancel r ch => Sys2Proof.Machine.execDmaCancel r ch s
  | .dmaDescriptorFetch bad t => Sys2Proof.Machine.execDmaDescriptorFetch bad t s
  | .dmaBurstComplete bad t => Sys2Proof.Machine.execDmaBurstComplete bad t s
  | .dmaReadbackDone same t => Sys2Proof.Machine.execDmaReadbackDone same t s
  | .dmaMemoryTimeout t => Sys2Proof.Machine.execDmaMemoryTimeout t s
  | .blotterRow t => Sys2Proof.Machine.execBlotterRow t s
  | .blotCmdTrigger r => Sys2Proof.Machine.execBlotCmdTrigger r s
  | .safetyInputSample ch a b srst t => Sys2Proof.Machine.execSafetyInputSample ch a b srst t s
  | .discrepancySample ch t => Sys2Proof.Machine.execDiscrepancySample ch t s
  | .inputTestPulseStart src => Sys2Proof.Machine.execInputTestPulseStart src s
  | .inputTestPulseEnd src t => Sys2Proof.Machine.execInputTestPulseEnd src t s
  | .functionLockTimer ch f => Sys2Proof.Machine.execFunctionLockTimer ch f s
  | .blockConfirmTimeout isl ch t => Sys2Proof.Machine.execBlockConfirmTimeout isl ch t s
  | .outputReadback ch pins sov t => Sys2Proof.Machine.execOutputReadback ch pins sov t s
  | .outputOverload k ch t => Sys2Proof.Machine.execOutputOverload k ch t s
  | .sovLoss t => Sys2Proof.Machine.execSovLoss t s
  | .outputTestPulse k ch => Sys2Proof.Machine.execOutputTestPulse k ch s
  | .outputTestPulseEnd k ch off t => Sys2Proof.Machine.execOutputTestPulseEnd k ch off t s
  | .safetyReset t => Sys2Proof.Machine.execSafetyReset t s
  | .resetStuckTimer t => Sys2Proof.Machine.execResetStuckTimer t s
  | .crossLinkExchange clockOk t => Sys2Proof.Machine.execCrossLinkExchange clockOk t s
  | .safetyStartTestsDone outBad inBad clockOk t => Sys2Proof.Machine.execSafetyStartTestsDone outBad inBad clockOk t s
  | .safeFrameReceive j ch frame t => Sys2Proof.Machine.execSafeFrameReceive j ch frame t s
  | .safeFrameProduce j t => Sys2Proof.Machine.execSafeFrameProduce j t s
  | .sflWatchdogExpiry j ch t => Sys2Proof.Machine.execSflWatchdogExpiry j ch t s
  | .quillPathLoss t => Sys2Proof.Machine.execQuillPathLoss t s
  | .lanePathLoss t => Sys2Proof.Machine.execLanePathLoss t s
  | .giveupSignalDetect t => Sys2Proof.Machine.execGiveupSignalDetect t s
  | .failureDeclare t => Sys2Proof.Machine.execFailureDeclare t s
  | .tokenClaim tokIn released => Sys2Proof.Machine.execTokenClaim tokIn released s
  | .tokInAssert t => Sys2Proof.Machine.execTokInAssert t s
  | .tokenReleaseHandover => Sys2Proof.Machine.execTokenReleaseHandover s
  | .partnerFrameSend => Sys2Proof.Machine.execPartnerFrameSend s
  | .partnerFrameReceive f crcOk t => Sys2Proof.Machine.execPartnerFrameReceive f crcOk t s
  | .pbk mask t => Sys2Proof.Machine.execPbk mask t s
  | .replicatedRecordApply => Sys2Proof.Machine.execReplicatedRecordApply s
  | .joinImageComplete => Sys2Proof.Machine.execJoinImageComplete s
  | .joinCatchupComplete => Sys2Proof.Machine.execJoinCatchupComplete s
  | .reversionHoldoffExpiry t => Sys2Proof.Machine.execReversionHoldoffExpiry t s
  | .hello peer body t => Sys2Proof.Machine.execHello peer body t s
  | .finish peer sid body t => Sys2Proof.Machine.execFinish peer sid body t s
  | .handshakeTimeout slot t => Sys2Proof.Machine.execHandshakeTimeout slot t s
  | .recordDiscarded x t => Sys2Proof.Machine.execRecordDiscarded x t s
  | .sessionIdleTimeout slot => Sys2Proof.Machine.execSessionIdleTimeout slot s
  | .sessionClose r p => Sys2Proof.Machine.execSessionClose r p s
  | .ping r p => Sys2Proof.Machine.execPing r p s
  | .pageGet r p => Sys2Proof.Machine.execPageGet r p s
  | .pageSet r p => Sys2Proof.Machine.execPageSet r p s
  | .pageStage r p => Sys2Proof.Machine.execPageStage r p s
  | .txnBegin r p => Sys2Proof.Machine.execTxnBegin r p s
  | .txnCommit r p => Sys2Proof.Machine.execTxnCommit r p s
  | .commitTakesEffect => Sys2Proof.Machine.execCommitTakesEffect s
  | .txnAbort r p => Sys2Proof.Machine.execTxnAbort r p s
  | .lockRenew r p => Sys2Proof.Machine.execLockRenew r p s
  | .leaseTimeout => Sys2Proof.Machine.execLeaseTimeout s
  | .modeSet r p => Sys2Proof.Machine.execModeSet r p s
  | .modeTransition => Sys2Proof.Machine.execModeTransition s
  | .modeGet r p => Sys2Proof.Machine.execModeGet r p s
  | .cellEnumerate r p => Sys2Proof.Machine.execCellEnumerate r p s
  | .cellAdmit r p => Sys2Proof.Machine.execCellAdmit r p s
  | .cellRetire r p => Sys2Proof.Machine.execCellRetire r p s
  | .cellBypass r p => Sys2Proof.Machine.execCellBypass r p s
  | .loopOpen r p => Sys2Proof.Machine.execLoopOpen r p s
  | .loopClose r p => Sys2Proof.Machine.execLoopClose r p s
  | .loopCoeffSet r p => Sys2Proof.Machine.execLoopCoeffSet r p s
  | .traceArm r p => Sys2Proof.Machine.execTraceArm r p s
  | .traceRead r p => Sys2Proof.Machine.execTraceRead r p s
  | .eventsRead r p => Sys2Proof.Machine.execEventsRead r p s
  | .faultReset r p => Sys2Proof.Machine.execFaultReset r p s
  | .opStatus r p => Sys2Proof.Machine.execOpStatus r p s
  | .opCancel r p => Sys2Proof.Machine.execOpCancel r p s
  | .chunkTimeout op => Sys2Proof.Machine.execChunkTimeout op s
  | .fwLoad r p => Sys2Proof.Machine.execFwLoad r p s
  | .fwActivate r p => Sys2Proof.Machine.execFwActivate r p s
  | .attest r p => Sys2Proof.Machine.execAttest r p s
  | .otpBurn r p => Sys2Proof.Machine.execOtpBurn r p s
  | .otpBurnProgram ok => Sys2Proof.Machine.execOtpBurnProgram ok s
  | .journalRead r p => Sys2Proof.Machine.execJournalRead r p s
  | .pairStatus r p => Sys2Proof.Machine.execPairStatus r p s
  | .pairHandover r p => Sys2Proof.Machine.execPairHandover r p s
  | .laneCtlWrite r j w => Sys2Proof.Machine.execLaneCtlWrite r j w s
  | .laneCmdBitSlip r j => Sys2Proof.Machine.execLaneCmdBitSlip r j s
  | .laneCmdClear r j => Sys2Proof.Machine.execLaneCmdClear r j s
  | .bondCtlWrite r w => Sys2Proof.Machine.execBondCtlWrite r w s
  | .linkCmdLoopbackStart r p pos => Sys2Proof.Machine.execLinkCmdLoopbackStart r p pos s
  | .linkCmdLoopbackEnd r p pos => Sys2Proof.Machine.execLinkCmdLoopbackEnd r p pos s
  | .clkLoopWrite r j w => Sys2Proof.Machine.execClkLoopWrite r j w s
  | .timeSnap r => Sys2Proof.Machine.execTimeSnap r s
  | .ductClampRearm r => Sys2Proof.Machine.execDuctClampRearm r s
  | .ductFailRearm r => Sys2Proof.Machine.execDuctFailRearm r s
  | .thermFailRearm r => Sys2Proof.Machine.execThermFailRearm r s
  | .scCaptureRearm r => Sys2Proof.Machine.execScCaptureRearm r s
  | .feInfoRearm r => Sys2Proof.Machine.execFeInfoRearm r s
  | .safFaultRearm r => Sys2Proof.Machine.execSafFaultRearm r s
  | .inkFirstRearm r => Sys2Proof.Machine.execInkFirstRearm r s
  | .nibPowerUp n ident typ turnLo turnHi fw => Sys2Proof.Machine.execNibPowerUp n ident typ turnLo turnHi fw s
  | .nibStrokePass n v => Sys2Proof.Machine.execNibStrokePass n v s
  | .nibSegmentReceive n side hdr seg err tS => Sys2Proof.Machine.execNibSegmentReceive n side hdr seg err tS s
  | .identify n => Sys2Proof.Machine.execIdentify n s
  | .setArr n => Sys2Proof.Machine.execSetArr n s
  | .admitCi n => Sys2Proof.Machine.execAdmitCi n s
  | .retire n => Sys2Proof.Machine.execRetire n s
  | .mgmtUnknownRequest n => Sys2Proof.Machine.execMgmtUnknownRequest n s
  | .nibTargetCycleStart n => Sys2Proof.Machine.execNibTargetCycleStart n s
  | .nibEdgeExecute n seen => Sys2Proof.Machine.execNibEdgeExecute n seen s
  | .blk n side => Sys2Proof.Machine.execBlk n side s
  | .clr n side => Sys2Proof.Machine.execClr n side s
  | .brk n side => Sys2Proof.Machine.execBrk n side s
  | .eis n side => Sys2Proof.Machine.execEis n side s
  | .ecq n side d ok => Sys2Proof.Machine.execEcq n side d ok s
  | .lbk n side d ok => Sys2Proof.Machine.execLbk n side d ok s
  | .nibSideLoss n side => Sys2Proof.Machine.execNibSideLoss n side s
  | .nibBrkTimer n => Sys2Proof.Machine.execNibBrkTimer n s
  | .nibWrapExit n side => Sys2Proof.Machine.execNibWrapExit n side s
  | .nibTimeError n => Sys2Proof.Machine.execNibTimeError n s
  | .nibShortDetect n sw hard t => Sys2Proof.Machine.execNibShortDetect n sw hard t s
  | .nibFaultDetect n f => Sys2Proof.Machine.execNibFaultDetect n f s
  | .nibBypassClose n => Sys2Proof.Machine.execNibBypassClose n s
  | .nibOvervoltBypass n => Sys2Proof.Machine.execNibOvervoltBypass n s
  | .feedHighClear => Sys2Proof.Machine.execFeedHighClear s
  | .baseplateHotClear => Sys2Proof.Machine.execBaseplateHotClear s
  | .sovReturn => Sys2Proof.Machine.execSovReturn s
  | .canRxError c eight t => Sys2Proof.Machine.execCanRxError c eight t s
  | .nibFaultGone n f => Sys2Proof.Machine.execNibFaultGone n f s
  | .nibPowerLoss n => Sys2Proof.Machine.execNibPowerLoss n s
  | .nibSideSyncAcquire n side => Sys2Proof.Machine.execNibSideSyncAcquire n side s
  | .bypassElementReopened ci => Sys2Proof.Machine.execBypassElementReopened ci s
  | .quillPathReturn t => Sys2Proof.Machine.execQuillPathReturn t s

end Sys2Proof.Machine
end

