-- ==== Sys2Proof/Safety.lean ====
section
/-! DEFINITION. What every run keeps, in the terms the claims use: the token discipline of the pair hardware, the bounds
of the event stores, and the canonical form of the Inkwell's bytes. -/

namespace Sys2Proof.Machine

/-- The invariant of the block. -/
structure State.Inv (s : State) : Prop where
  /-- GRANT is given only to a side that claims (R349). -/
  grant : s.pair.grant = true → s.pair.tokOut = true
  /-- TOK_OUT is asserted only while LIVE is high (R348). -/
  live : s.pair.tokOut = true → s.sys.live = true
  /-- A side in role OUT does not claim (R353). -/
  out : s.pair.role = .out → s.pair.tokOut = false
  /-- The hardware queue holds at most 64 entries (R308). -/
  queue : s.evt.queue.length ≤ 64
  /-- The journal's event log holds at most 65,536 records (R491). -/
  log : s.jrnl.events.length ≤ 65536
  /-- The reversion stamps fit their list (R368). -/
  stamps : s.jrnl.stamps.length ≤ 15
  /-- The Inkwell's bytes are in their canonical form. -/
  mem : Memory.wf s.ink.mem = true

/-- What raising or clearing an event leaves alone: everything but the events, the cells' service, the management
requests, the pair's standing, the module's request for BLOCKED, the Blotter and what is sent. -/
structure State.EventReach (s t : State) : Prop where
  pending : t.pending = s.pending
  cycle : t.cycle = s.cycle
  mono : t.mono = s.mono
  regs : t.regs = s.regs
  nextW : t.nextW = s.nextW
  cmd : t.cmd = s.cmd
  shadow : t.shadow = s.shadow
  boot : t.boot = s.boot
  jrnl : t.jrnl = s.jrnl
  echo : t.echo = s.echo
  strs : t.strs = s.strs
  lanes : t.lanes = s.lanes
  bond : t.bond = s.bond
  nibs : t.nibs = s.nibs
  nibx : t.nibx = s.nibx
  clk : t.clk = s.clk
  saf : t.saf = s.saf
  duct : t.duct = s.duct
  sched : t.sched = s.sched
  therm : t.therm = s.therm
  sup : t.sup = s.sup
  loops : t.loops = s.loops
  ai : t.ai = s.ai
  net : t.net = s.net
  free : t.free = s.free
  sys : t.sys = { s.sys with blockReq := t.sys.blockReq }
  ink : t.ink = { s.ink with blot := t.ink.blot }

/-- The session slot that a request names (R375). -/
def reqSlot (r : Req) : Nat := r.sid.toNat % 8

/-- A request is executed (R375, R380, R381, R384): its record is acceptable, its session waits for no reply, its
sequence number is the next and its role is at least `minRole`. -/
def State.Accepts (s : State) (r : Req) (minRole : Nat) : Prop :=
  s.recordOk r = true ∧ (s.sess (reqSlot r)).wait = none ∧ (s.sess (reqSlot r)).nextSeq r.seq = true
    ∧ minRole ≤ (s.sess (reqSlot r)).role

/-- The state in which an executed request begins its effect: its record is taken and its sequence number is spent. -/
def State.begun (s : State) (r : Req) : State :=
  let u := s.silent.takeRecord r
  u.setSess (reqSlot r) { u.sess (reqSlot r) with lastSeq := some r.seq }

/-- A one-word write outside a commit is executed and refused by no rule of R381. -/
def State.WritesFreely (s : State) (r : Req) (k : Nat) (w : Word) : Prop :=
  s.Accepts r roControl
    ∧ (s.begun r).writeRefuse (reqSlot r) (k / 256) [(k % 256, w)] false
        ((liveWords (k / 256) [(k % 256, w)]).map fun q =>
          ((s.begun r).bindKey (reqSlot r) (k / 256) q.1, q.2.1)) = none

end Sys2Proof.Machine
end

