-- ==== Sys2Proof/Certificates/Slice0/Obligations.lean ====
section
/-! DEFINITION. The obligations: what the commands of the spec do to the block, family by family, with the invariant that
every step keeps. Each docstring says what its statement states. `s.silent` is `s` with the list of what the command before
it sent emptied; a command "leaves the state as it was" where it answers that state. -/

open Sys2Proof Sys2Proof.Machine

/-- For every command `c`, every rest `cs` of the queue and every state, a step with `c` at the front of the queue
answers what `exec` answers for `c` in the state whose queue is `cs`. -/
def Obligations.FrontCommandRunsWithTheQueuesRest : Prop :=
  ∀ (c : Instr) (cs : List Instr) (s : State),
    step { s with pending := c :: cs } = exec c { s with pending := cs }

/-- The state after reset meets the invariant of the block that every step keeps: GRANT only while TOK_OUT is
asserted, TOK_OUT only while LIVE is high and never in role OUT, at most 64 queue entries, at most 65,536 journal
event records, at most 15 reversion stamps, the Inkwell's bytes in canonical form. -/
def Obligations.ResetMeetsTheInvariant : Prop :=
  State.reset.Inv

/-- From every state that meets the invariant of the block, a step that answers a next state answers one that meets
it: GRANT only while TOK_OUT is asserted, TOK_OUT only while LIVE is high and never in role OUT, at most 64 queue
entries, at most 65,536 journal event records, at most 15 reversion stamps, the Inkwell's bytes in canonical form. -/
def Obligations.EveryStepKeepsTheInvariant : Prop :=
  ∀ s t : State, s.Inv → step s = .next t → t.Inv

/-- In every state every command answers a next state, and the queue of waiting commands is in it as it was: no
command and no data end a run. A step in a state whose queue is empty answers that state unchanged. This last is the
model's choice (DESIGN CHOICE, log entry 1), not a rule of the spec. -/
def Obligations.EveryCommandAnswersAndLeavesTheQueue : Prop :=
  (∀ (c : Instr) (s : State), ∃ t, exec c s = .next t ∧ t.pending = s.pending)
  ∧ (∀ s : State, s.pending = [] → step s = .next s)

/-- POWER_UP in an unpowered module answers a state that is powered, in BOOT, with LIVE low, no firmware running,
nothing sent, the boot count one up, loops 0 to 16 in acquisition, every lane's record as at reset and the nibs as
they were; it is stuck exactly where no settings generation is valid. In a powered module it leaves the state as it
was. POWER_DOWN_COMPLETE while a power-down runs answers a state in which the module's record (powered among it), the
page words, the lanes and the safety island are as at State.reset, no event is active, the event queue is empty, no
transaction is held, and the nibs are as they were; while none runs it leaves the state as it was. -/
def Obligations.PowerUpAndPowerDownStartFromBoot : Prop :=
  (∀ (s : State) (f : Feed), s.sys.powered = false → ∃ t, exec (.powerUp f) s = .next t
    ∧ t.sys.powered = true ∧ t.sys.mode = .boot ∧ t.sys.live = false ∧ t.sys.fwRuns = false ∧ t.out = []
    ∧ t.jrnl.life.boots = s.jrnl.life.boots + 1
    ∧ (∀ i, i < 17 → (t.loopOf i).state = clkAcquire)
    ∧ (s.bestGen = none → t.sys.stuck = true) ∧ (s.bestGen ≠ none → t.sys.stuck = false)
    ∧ t.lanes = [] ∧ t.nibs = s.nibs)
  ∧ (∀ (s : State) (f : Feed), s.sys.powered = true → exec (.powerUp f) s = .next s.silent)
  ∧ (∀ s : State, s.sys.stopping = true → ∃ t, exec .powerDownComplete s = .next t
    ∧ t.sys = State.reset.sys ∧ t.regs = [] ∧ t.lanes = [] ∧ t.saf = State.reset.saf ∧ t.evt.active = []
    ∧ t.evt.queue = [] ∧ t.cmd.txn = none ∧ t.nibs = s.nibs)
  ∧ ∀ s : State, s.sys.stopping = false → exec .powerDownComplete s = .next s.silent

/-- In a powered module in BOOT, with no power-down, not stuck and no firmware running: when no trial runs, nothing is
held to be raised, and the image of the preferred slot k passes the checks, IMAGE_VERIFY_COMPLETE starts the firmware
on slot k with the SHA-512 of bytes 0 to 127 of its header as the measurement; when no trial runs and the signature
and hash checks of neither slot pass, the module is stuck and a boot record with result 3 is written.
BOOT_LOCK_TIMEOUT with loops 0 to 16 not all locked leaves a module in BOOT stuck with a boot record of result 5.
WATCHDOG_RESTART before the running image has entered CONFIG starts the module from BOOT with 3 as the cause that its
boot record will show. -/
def Obligations.BootVerificationAndTimeouts : Prop :=
  (∀ (s : State) (ok0 ok1 : Bool), s.sys.powered = true → s.sys.stopping = false → s.sys.stuck = false →
    s.sys.fwRuns = false → s.sys.mode = .boot → s.boot.trial = false →
    (∀ k, k < 2 → s.boot.pref = k → (if k = 0 then ok0 else ok1) = true → s.slotValidFw k = true →
        s.imgChecks (s.fwSlot k).image = true → s.boot.held = [] →
      exec (.imageVerifyComplete ok0 ok1) s = .next { s.silent with
        sys := { s.sys with fwRuns := true }
        boot := { s.boot with run := k, result := 0, meas := Config.sha512 (padTo 128 (s.fwSlot k).image) } })
    ∧ (ok0 = false → ok1 = false →
      exec (.imageVerifyComplete ok0 ok1) s = .next
        (({ s.silent with sys := { s.sys with stuck := true } }).bootRecord 3 0)))
  ∧ (∀ s : State, s.sys.powered = true → s.sys.stuck = false → s.sys.mode = .boot → s.allLocked = false →
    exec .bootLockTimeout s = .next (({ s.silent with sys := { s.sys with stuck := true } }).bootRecord 5 0))
  ∧ (∀ s : State, s.sys.fwRuns = true → s.boot.entered = false → s.sys.stopping = false → s.sys.stuck = false →
    exec .watchdogRestart s = .next ({ s.silent with boot := { s.boot with cause := 3 } }).bootStart)

/-- With the firmware running in BOOT, no power-down, the module not stuck and loops 0 to 16 locked, START_COMPLETE
answers a state in CONFIG with PREV BOOT and REASON 0, LIVE high, SYS_UPTIME 0, no trial running, the entry of the
image into CONFIG noted, a boot record with the time of the start at the end of its ring, and an entry of
STATE_CHANGED in the event queue. -/
def Obligations.StartEntersConfigWithLiveHigh : Prop :=
  ∀ (s : State) (ms : BitVec 16) (bad : List (Fin 9 × Nat)),
    s.sys.fwRuns = true → s.sys.stopping = false → s.sys.stuck = false → s.sys.mode = .boot → s.allLocked = true →
    ∃ t, exec (.startComplete ms bad) s = .next t
      ∧ t.sys.mode = .config ∧ t.sys.prev = .boot ∧ t.sys.reason = 0 ∧ t.sys.live = true ∧ t.sys.uptime = 0
      ∧ t.boot.trial = false ∧ t.boot.entered = true
      ∧ (t.jrnl.boots.getLast?.map fun r => r.ms) = some ms.toNat
      ∧ (∃ e ∈ t.evt.queue, e.code = 0x0003 ∧ e.kind = 1)

/-- In a powered module BASEPLATE_HOT_TIMER raises BASEPLATE_HOT; BASEPLATE_OVERTEMP_TIMER raises BASEPLATE_OVERTEMP
and counts it in the lifetime record where it was not active; RAIL_MONITOR_TRIP raises RAIL_FAULT, in the collapse
condition of a pair side after LIVE, TOK_OUT and GRANT have fallen; LOCKSTEP_DISAGREE raises event 0x0005.
BASEPLATE_HOT_CLEAR clears BASEPLATE_HOT. LOOP0_EDGE_LOSS takes LIVE, TOK_OUT and GRANT down and nothing else.
GIVEUP_END takes them down and notes the cause 4 of the stop where none is noted; with a restart waiting for it, it
restarts the module instead; without a give-up it leaves the state as it was. -/
def Obligations.BaseplateAndCoreFaultsAreRaised : Prop :=
  (∀ (s : State) (t : Tick),
      (s.sys.powered = true →
        exec (.baseplateHotTimer t) s = .next (s.silent.raise 0x00E5 0 0 t)
        ∧ (s.isActive 0x00E6 0 = true → exec (.baseplateOvertempTimer t) s = .next (s.silent.raise 0x00E6 0 0 t))
        ∧ (s.isActive 0x00E6 0 = false → exec (.baseplateOvertempTimer t) s =
            .next ((s.silent.raise 0x00E6 0 0 t).lifeCount (·.overtemps) (fun l w => { l with overtemps := w }) 44 t))
        ∧ exec (.railMonitorTrip false t) s = .next (s.silent.raise 0x00E7 0 0 t)
        ∧ (s.pairSide = false → exec (.railMonitorTrip true t) s = .next (s.silent.raise 0x00E7 0 0 t))
        ∧ (s.pairSide = true → exec (.railMonitorTrip true t) s =
            .next (({ s.silent with
              sys := { s.sys with live := false }
              pair := { s.pair with tokOut := false, grant := false } }).raise 0x00E7 0 0 t))
        ∧ exec (.lockstepDisagree t) s = .next (s.silent.raise 0x0005 0 0 t))
      ∧ exec .baseplateHotClear s = .next (s.silent.clear 0x00E5 0 0))
  ∧ (∀ s : State,
      exec .loop0EdgeLoss s = .next { s.silent with
        sys := { s.sys with live := false }, pair := { s.pair with tokOut := false, grant := false } }
      ∧ (s.pairOps.giveUp = true → s.cmd.restartDue = false → exec .giveupEnd s = .next { s.silent with
          sys := { s.sys with live := false }, pair := { s.pair with tokOut := false, grant := false }
          boot := { s.boot with cause := if s.boot.cause = 0 then 4 else s.boot.cause } })
      ∧ (s.pairOps.giveUp = true → s.cmd.restartDue = true → exec .giveupEnd s = .next s.silent.restart)
      ∧ (s.pairOps.giveUp = false → exec .giveupEnd s = .next s.silent))

/-- SUPPLY_LOSS in a powered module with no power-down running answers a state in which the power-down runs, both
feeds are marked low, SUPPLY_LOST is active, both safety channels command every output off, no queue entry is uncopied
and LAST_CYCLE is the cycle number in force; in a module without a partner in which SUPPLY_LOST was not active, every
stack is held blocked. In a powered module FEED_LOSS_DETECT marks its feed low and raises its event, and counts the
loss in the lifetime record exactly where the event was not active; FEED_HIGH_DETECT raises FEED_HIGH.
FEED_RESTORE_TIMER unmarks its feed and clears its event. FEED_HIGH_CLEAR clears FEED_HIGH. In an unpowered module
SUPPLY_LOSS, FEED_LOSS_DETECT and FEED_HIGH_DETECT leave the state as it was. -/
def Obligations.SupplyLossStopsTheModule : Prop :=
  (∀ (s : State) (tk : Tick), s.sys.powered = true → s.sys.stopping = false →
      ∃ t, exec (.supplyLoss tk) s = .next t
        ∧ t.sys.stopping = true ∧ t.sys.feedALow = true ∧ t.sys.feedBLow = true
        ∧ t.isActive 0x00E4 0 = true ∧ t.evt.uncopied = 0 ∧ t.jrnl.life.lastCycle = s.lastCycle
        ∧ t.saf.chA.cmd = 0 ∧ t.saf.chB.cmd = 0
        ∧ (s.pairSide = false → s.isActive 0x00E4 0 = false → ∀ k : Fin 16, t.evt.forced.testBit k = true))
  ∧ (∀ (s : State) (t : Tick), s.sys.powered = true →
      (∀ f, s.isActive (feedCode f) 0 = true →
        exec (.feedLossDetect f t) s = .next ((s.silent.setFeedLow f true).raise (feedCode f) 0 0 t))
      ∧ (s.isActive 0x00E1 0 = false → exec (.feedLossDetect .a t) s =
          .next ((({ s.silent with sys := { s.sys with feedALow := true } }).raise 0x00E1 0 0 t).lifeCount
            (·.feedALosses) (fun l w => { l with feedALosses := w }) 36 t))
      ∧ (s.isActive 0x00E2 0 = false → exec (.feedLossDetect .b t) s =
          .next ((({ s.silent with sys := { s.sys with feedBLow := true } }).raise 0x00E2 0 0 t).lifeCount
            (·.feedBLosses) (fun l w => { l with feedBLosses := w }) 40 t))
      ∧ exec (.feedHighDetect t) s = .next (s.silent.raise 0x00E3 0 0 t))
  ∧ (∀ (s : State) (t : Tick),
      exec (.feedRestoreTimer .a t) s = .next (({ s.silent with sys := { s.sys with feedALow := false } }).clear 0x00E1 0 t)
      ∧ exec (.feedRestoreTimer .b t) s =
          .next (({ s.silent with sys := { s.sys with feedBLow := false } }).clear 0x00E2 0 t)
      ∧ exec .feedHighClear s = .next (s.silent.clear 0x00E3 0 0))
  ∧ (∀ (s : State) (t : Tick), s.sys.powered = false →
      exec (.supplyLoss t) s = .next s.silent ∧ (∀ f, exec (.feedLossDetect f t) s = .next s.silent)
      ∧ exec (.feedHighDetect t) s = .next s.silent)

/-- On a lane with EN = 1 whose signal detect is asserted, LANE_SIGNAL_LOSS takes down the signal, the CDR lock, sync,
decoding and a running sweep, shows LOOP in a loop or test, IDLE in electrical idle and TRAIN else, takes a partner
lane out of the local receive mask, and raises LANE_LOS exactly where a loss is reported. On a lane with EN = 1
without signal detect, LANE_SIGNAL_DETECT sets the signal and the CDR lock and, outside electrical idle and the loop
state, starts acquisition, with the equaliser sweep exactly where the lane is not leaving electrical idle.
LANE_NO_SIGNAL_TIMEOUT raises LANE_LOS where a loss is reported and the lane has seen no signal, and else leaves the
state as it was. Signal loss and signal detect leave the state as it was on a lane with EN = 0, the loss also without
signal and the detect also with one. -/
def Obligations.LaneSignalEdgesStartAndEndAcquisition : Prop :=
  ∀ (s : State) (l : Fin 68) (t : Tick),
    (W.LANE_CTL_EN (s.laneCtl l) = true → (s.lane l).sig = true →
      let r := (s.silent.setLane l { s.lane l with
        sig := false, cdr := false, sync := false, decodeOk := false, sweeping := false,
        state := if s.looped l then 6 else if (s.lane l).idle then 1 else 2 }).dropLocal l t
      exec (.laneSignalLoss l t) s = .next (if r.lossReported l then r.raise 0x0201 l 0 t else r))
    ∧ (W.LANE_CTL_EN (s.laneCtl l) = true → (s.lane l).sig = false →
      let r := s.silent.setLane l { s.lane l with sig := true, hadSig := true, cdr := true }
      ((s.lane l).state ≠ 6 → (s.lane l).idle = false →
        exec (.laneSignalDetect ⟨l, t⟩) s = .next (r.startAcquire l (!(s.lane l).leaving) t))
      ∧ ((s.lane l).state = 6 ∨ (s.lane l).idle = true → exec (.laneSignalDetect ⟨l, t⟩) s = .next r))
    ∧ (s.lossReported l = true → (s.lane l).sig = false → (s.lane l).hadSig = false →
      exec (.laneNoSignalTimeout l t) s = .next (s.silent.raise 0x0201 l 0 t))
    ∧ (s.lossReported l = false ∨ (s.lane l).sig = true ∨ (s.lane l).hadSig = true →
      exec (.laneNoSignalTimeout l t) s = .next s.silent)
    ∧ (W.LANE_CTL_EN (s.laneCtl l) = false ∨ (s.lane l).sig = false → exec (.laneSignalLoss l t) s = .next s.silent)
    ∧ (W.LANE_CTL_EN (s.laneCtl l) = false ∨ (s.lane l).sig = true → exec (.laneSignalDetect ⟨l, t⟩) s = .next s.silent)

/-- On a lane with signal and no sync: LANE_SYNC_ACQUIRE in HUNT takes the boundary found and declares sync; in SLIP
it declares sync where the boundary in use is the one found; elsewhere it leaves the state as it was. A lane in TRAIN
with no sweep running counts as in the state in which its hunt would start. LANE_SYNC_DROP on a lane with signal that
is in sync or leaving electrical idle takes sync down, starts acquisition, with the sweep exactly where the lane is
not leaving electrical idle, takes a partner lane out of the local receive mask, and raises LANE_SYNC_LOSS exactly
where a loss is reported. In SLIP the first SLIP_DECODE_COUNT sets DECODE_OK and one after it declares sync. After
LANE_SYNC_ACQUIRE in HUNT the lane is in sync in state SYNC at the boundary found, decoding, LANE_SYNC_LOSS and the
comma timeout of the lane are not active, and the other lanes, the registers, the cells and the bond are as they were.
-/
def Obligations.LaneSyncIsDeclaredAndLost : Prop :=
  (∀ (s : State) (l : Fin 68) (t : Tick),
      (∀ pos : Fin 20,
        let st := if (s.lane l).state = 2 ∧ (s.lane l).sweeping = false then s.huntState l else (s.lane l).state
        ((s.lane l).sig = true → (s.lane l).sync = false →
          (st = 3 → exec (.laneSyncAcquire l pos t) s =
            .next ((s.silent.setLane l { s.lane l with slip := pos }).declareSync l t))
          ∧ (st = 4 → (s.lane l).slip = pos → exec (.laneSyncAcquire l pos t) s = .next (s.silent.declareSync l t))
          ∧ (st ≠ 3 → st ≠ 4 ∨ (s.lane l).slip ≠ pos → exec (.laneSyncAcquire l pos t) s = .next s.silent))
        ∧ ((s.lane l).sig = false ∨ (s.lane l).sync = true → exec (.laneSyncAcquire l pos t) s = .next s.silent))
      ∧ (∀ cdrLost : Bool, (s.lane l).sig = true → (s.lane l).sync = true ∨ (s.lane l).leaving = true →
        let r := ((s.silent.setLane l { s.lane l with sync := false, cdr := !cdrLost, leaving := false }).startAcquire l
          (!(s.lane l).leaving) t).dropLocal l t
        exec (.laneSyncDrop l cdrLost t) s = .next (if r.lossReported l then r.raise 0x0202 l 0 t else r))
      ∧ ((s.lane l).state = 4 → (s.lane l).decodeOk = false →
        exec (.slipDecodeCount l t) s = .next (s.silent.setLane l { s.lane l with decodeOk := true }))
      ∧ ((s.lane l).state = 4 → (s.lane l).decodeOk = true →
        exec (.slipDecodeCount l t) s = .next (s.silent.declareSync l t)))
  ∧ (∀ (s : State) (l : Fin 68) (pos : Fin 20) (tk : Tick),
      (s.lane l).sig = true → (s.lane l).sync = false → (s.lane l).state = 3 →
      ∃ t, exec (.laneSyncAcquire l pos tk) s = .next t
        ∧ (t.lane l).sync = true ∧ (t.lane l).slip = pos ∧ (t.lane l).decodeOk = true ∧ (t.lane l).state = 5
        ∧ t.isActive 0x0202 l = false ∧ t.isActive 0x0203 l = false
        ∧ (∀ j, j ≠ (l : Nat) → t.lane j = s.lane j) ∧ t.regs = s.regs ∧ t.cells = s.cells ∧ t.bond = s.bond)

/-- On a lane with EN = 1 LANE_CODE_VIOLATION raises LANE_ERR by one, or leaves it at its largest value with its
saturation flag set, raises the count of the interval by one, clears DECODE_OK, notes the violation in the
synchronisation state machine, and raises COUNTER_SAT exactly as the count gets to its largest value; where the
violations not cancelled are four or more, the lane then loses sync. With EN = 0 it leaves the state as it was.
LANE_ERR_INTERVAL starts the count of the interval afresh and raises LANE_ERR_RATE exactly where ERR_LIMIT is not 0
and the count has reached it, else clears it. COMMA_HUNT_EXPIRY on a lane in HUNT without sync raises event 0x0203,
and under ALIGN = 2 the lane goes on in SLIP with DECODE_OK 0. -/
def Obligations.LaneErrorsAreCountedAndJudged : Prop :=
  ∀ (s : State) (l : Fin 68) (t : Tick),
    (W.LANE_CTL_EN (s.laneCtl l) = true →
      let x := s.lane l
      let full := decide (x.err = 0xFFFFFFFF)
      let last := decide (x.err = 0xFFFFFFFE)
      let n := if x.sync then x.levelAt (s.ticks t) (s.rateOf l) else 0
      let r := s.silent.setLane l { x with
        err := if full then x.err else x.err + 1, errSat := x.errSat || full || last, ival := x.ival + 1
        decodeOk := false, level := n, badAt := s.ticks t
        incs := if x.incAt = s.mono then x.incs + 1 else 1, incAt := s.mono }
      let r := r.satEvent last (K.LANE_ERR l) t
      exec (.laneCodeViolation l t) s = .next (if 4 ≤ n then r.syncLost l false t else r))
    ∧ (W.LANE_CTL_EN (s.laneCtl l) = false → exec (.laneCodeViolation l t) s = .next s.silent)
    ∧ (let lim := W.LANE_GLOBAL_ERR_LIMIT (s.word K.LANE_GLOBAL)
       let r := s.silent.setLane l { s.lane l with ival := 0 }
       (lim ≠ 0 → lim ≤ (s.lane l).ival → exec (.laneErrInterval l t) s = .next (r.raise 0x0204 l 0 t))
       ∧ (lim = 0 ∨ (s.lane l).ival < lim → exec (.laneErrInterval l t) s = .next (r.clear 0x0204 l t)))
    ∧ ((s.lane l).sync = false → (s.lane l).state = 3 →
      let r := s.silent.raise 0x0203 l 0 t
      (W.LANE_CTL_ALIGN (s.laneCtl l) ≠ 2 → exec (.commaHuntExpiry l t) s = .next r)
      ∧ (W.LANE_CTL_ALIGN (s.laneCtl l) = 2 → exec (.commaHuntExpiry l t) s =
          .next (r.setLane l { r.lane l with state := 4, decodeOk := false })))

/-- TX_BIAS_FAULT on a lane with EN = 1 marks the transmitter faulted and raises event 0x0205; TX_BIAS_RECOVER on a
marked lane unmarks it and clears the event. With EN = 1 and EIDLE = 1, ELECTRICAL_IDLE_ENTRY puts a lane that is not
idle into electrical idle: out of sync, decoding and sweeping, in state IDLE and out of the local receive mask; a lit
cell port sends /EIS/ before, any other lane sends nothing. With EN = 1 and EIDLE = 0, IDLE_EXIT takes an idle lane
out of it: it is leaving, sends strokes again only from the next cycle on, and shows the state in which its hunt
starts where signal and CDR lock are there, else TRAIN; a lit lane sends its training burst and idles, a dark one
nothing. Else both leave the state as it was. -/
def Obligations.TransmitterBiasAndIdleOfALane : Prop :=
  ∀ (s : State) (l : Fin 68) (t : Tick),
    (W.LANE_CTL_EN (s.laneCtl l) = true → exec (.txBiasFault l t) s =
      .next ((s.silent.setLane l { s.lane l with txFault := true }).raise 0x0205 l 0 t))
    ∧ ((s.lane l).txFault = true → exec (.txBiasRecover l t) s =
      .next ((s.silent.setLane l { s.lane l with txFault := false }).clear 0x0205 l t))
    ∧ (W.LANE_CTL_EN (s.laneCtl l) = true → W.LANE_CTL_EIDLE (s.laneCtl l) = true → (s.lane l).idle = false →
      let x : Lane := { s.lane l with
        idle := true, state := 1, sync := false, decodeOk := false, sweeping := false, leaving := false }
      ((l : Nat) < 64 → s.lit l = true → exec (.electricalIdleEntry l) s =
        .next (((s.silent.emit (.ordered l .eis)).setLane l x).dropLocal l 0))
      ∧ (64 ≤ (l : Nat) ∨ s.lit l = false → exec (.electricalIdleEntry l) s =
        .next ((s.silent.setLane l x).dropLocal l 0)))
    ∧ (W.LANE_CTL_EN (s.laneCtl l) = true → W.LANE_CTL_EIDLE (s.laneCtl l) = false → (s.lane l).idle = true →
      let x : Lane := { s.lane l with
        idle := false, leaving := true, hadSig := (s.lane l).sig, resume := s.mono + 1
        state := if (s.lane l).sig = true ∧ (s.lane l).cdr = true then s.huntState l else 2 }
      (s.lit l = true → exec (.idleExit l) s = .next
        (((s.silent.emit (.train l trainSyms)).emit (.idles l (idleSet (rdRun false trainSyms)))).setLane l x))
      ∧ (s.lit l = false → exec (.idleExit l) s = .next (s.silent.setLane l x)))
    ∧ (W.LANE_CTL_EN (s.laneCtl l) = false ∨ W.LANE_CTL_EIDLE (s.laneCtl l) = false ∨ (s.lane l).idle = true →
      exec (.electricalIdleEntry l) s = .next s.silent)
    ∧ (W.LANE_CTL_EN (s.laneCtl l) = false ∨ W.LANE_CTL_EIDLE (s.laneCtl l) = true ∨ (s.lane l).idle = false →
      exec (.idleExit l) s = .next s.silent)

/-- When a sweep ends, the code used is one of the 16 whose eye no other of them exceeds, every lower code's eye is
smaller, and a code that was not measured counts as an eye of 0. The sweep no longer runs, the lane shows the state in
which its hunt starts where signal and CDR lock are there, else TRAIN; event 0x0206 of the lane is active exactly
where the code is 0 or 15. No other lane changes. -/
def Obligations.EqualiserTakesTheWidestEye : Prop :=
  ∀ (s : State) (l : Fin 68) (eyes : List Nat) (tk : Tick), (s.lane l).sweeping = true →
    ∃ t, exec (.eqSweepDone l eyes tk) s = .next t
      ∧ (t.lane l).eqUsed < 16
      ∧ (∀ c, c < 16 → eyes.getD c 0 ≤ eyes.getD (t.lane l).eqUsed 0)
      ∧ (∀ c, c < (t.lane l).eqUsed → eyes.getD c 0 < eyes.getD (t.lane l).eqUsed 0)
      ∧ (t.lane l).sweeping = false
      ∧ (t.lane l).state = (if (s.lane l).sig = true ∧ (s.lane l).cdr = true then s.huntState l else 2)
      ∧ (t.isActive 0x0206 l = true ↔ (t.lane l).eqUsed = 0 ∨ (t.lane l).eqUsed = 15)
      ∧ (∀ j, j ≠ (l : Nat) → t.lane j = s.lane j)

/-- CLOCK_LOCK_DECLARE on a loop in acquisition or frequency lock whose measurements lock it answers a state in which
the loop is LOCKED, or walks its held phase first where it is a lane island's loop with one, has no loss to count, and
CLK_UNLOCK of the loop is not active. CLOCK_LOCK_LOSS on a locked or walking loop whose measurements lose it makes it
coast from this cycle and raises CLK_UNLOCK, and the state of the station time is judged anew. REFERENCE_RETURN on a
coasting loop, or one in frequency lock, puts it in frequency lock with the phase held, wrapped to half a reference
period for loops 0 and 1. LANE_WALK_DONE on a walking loop with no phase left makes it LOCKED, and leaves any other
loop as it was. -/
def Obligations.LoopsDeclareAndLoseLock : Prop :=
  ∀ (s : State) (i : Fin 17) (errs : List Int) (tk : Tick),
    (((s.loopOf i).state = clkAcquire ∨ (s.loopOf i).state = clkFreq) → (s.silent.loopMeasured i errs).loopLocks i errs = true →
      ∃ t, exec (.clockLockDeclare i errs tk) s = .next t
        ∧ (t.loopOf i).state
            = (if 2 ≤ (i : Nat) ∧ (i : Nat) ≤ 9 ∧ (s.loopOf i).held ≠ 0 then clkWalk else clkLocked)
        ∧ (t.loopOf i).lostAt = none ∧ t.isActive 0x0401 i = false)
    ∧ ((s.loopOf i).state = clkLocked ∨ (s.loopOf i).state = clkWalk → (s.silent.loopMeasured i errs).loopLoses i errs = true →
      let r := s.silent.loopMeasured i errs
      exec (.clockLockLoss i errs tk) s = .next (((r.setLoop i { r.loopOf i with
        state := clkCoast, lostAt := some s.mono }).raise 0x0401 i 0 tk).timeJudge tk))
    ∧ (∀ phase : Int, (s.loopOf i).state = clkCoast ∨ (s.loopOf i).state = clkFreq →
      exec (.referenceReturn i phase) s = .next (s.silent.setLoop i { s.loopOf i with
        state := clkFreq, held := if (i : Nat) ≤ 1 then wrapPhase s.refPeriod phase else phase }))
    ∧ ((s.loopOf i).state = clkWalk → (s.loopOf i).held = 0 →
      exec (.laneWalkDone i) s = .next (s.silent.setLoop i { s.loopOf i with state := clkLocked }))
    ∧ ((s.loopOf i).state ≠ clkWalk ∨ (s.loopOf i).held ≠ 0 →
      exec (.laneWalkDone i) s = .next (s.silent.setLoop i (s.loopOf i)))

/-- With loop 0 or 1 beyond acquisition REFERENCE_EDGE_MISSING makes both coast as far as they follow the reference,
raises event 0x0402 and judges the state of the station time anew; with both in acquisition or off it leaves the state
as it was. COAST_LIMIT_EXPIRY on a loop without lock for COAST_MAX raises event 0x0403 for loop 0 and 0x0404 for a
lane island's loop, empties the local receive mask and judges the bond for the bond's loop, and leaves the state as it
was for the other loops; on a loop with a shorter loss or none it leaves the state as it was. HOLDOVER_TIMEOUT marks a
clock that has had a measurement as quiet and judges the state of the station time anew; one that has had none it
leaves as it was. SLEW_END with no offset pending clears event 0x0407 and judges the state of the station time anew;
with one pending it leaves the state as it was. DEFERRED_TIME_STEP steps the offset kept for later while no lane is in
use, and leaves the state as it was while one is or where none is kept. -/
def Obligations.ReferenceLossCoastAndHoldover : Prop :=
  ∀ (s : State) (t : Tick),
    (clkAcquire < (s.loopOf 0).state ∨ clkAcquire < (s.loopOf 1).state →
      exec (.referenceEdgeMissing t) s = .next ((((s.silent.refLost 0).refLost 1).raise 0x0402 0 0 t).timeJudge t))
    ∧ ((s.loopOf 0).state ≤ clkAcquire → (s.loopOf 1).state ≤ clkAcquire →
      exec (.referenceEdgeMissing t) s = .next s.silent)
    ∧ (∀ (i : Fin 17) (a : Nat), (s.loopOf i).lostAt = some a →
      (a + W.CLK_GLOBAL_COAST_MAX (s.word K.CLK_GLOBAL) ≤ s.mono →
        ((i : Nat) = 0 → exec (.coastLimitExpiry i t) s = .next (s.silent.raise 0x0403 0 0 t))
        ∧ (2 ≤ (i : Nat) → (i : Nat) ≤ 9 → exec (.coastLimitExpiry i t) s = .next (s.silent.raise 0x0404 i 0 t))
        ∧ ((i : Nat) = 10 → exec (.coastLimitExpiry i t) s = .next ((s.silent.setLocal 0 t).bondJudge t))
        ∧ ((i : Nat) = 1 ∨ 11 ≤ (i : Nat) → exec (.coastLimitExpiry i t) s = .next s.silent))
      ∧ (s.mono < a + W.CLK_GLOBAL_COAST_MAX (s.word K.CLK_GLOBAL) → exec (.coastLimitExpiry i t) s = .next s.silent))
    ∧ (∀ i : Fin 17, (s.loopOf i).lostAt = none → exec (.coastLimitExpiry i t) s = .next s.silent)
    ∧ (s.clk.hadOffset = true → exec (.holdoverTimeout t) s =
        .next (({ s.silent with clk := { s.clk with quiet := true } }).timeJudge t))
    ∧ (s.clk.hadOffset = false → exec (.holdoverTimeout t) s = .next s.silent)
    ∧ (s.clk.pend = 0 → exec (.slewEnd t) s = .next ((s.silent.clear 0x0407 0 t).timeJudge t))
    ∧ (s.clk.pend ≠ 0 → exec (.slewEnd t) s = .next s.silent)
    ∧ (∀ off, s.clk.deferred = some off →
        (s.anyLaneUsed = false → exec (.deferredTimeStep t) s = .next (s.silent.timeStep off t))
        ∧ (s.anyLaneUsed = true → exec (.deferredTimeStep t) s = .next s.silent))
    ∧ (s.clk.deferred = none → exec (.deferredTimeStep t) s = .next s.silent)

/-- With the bond enabled, BOND_MARKER_RECEIVE on a partner lane in sync with a marker whose third byte is the
complement of its first takes the partner's receive mask from its high nibble and notes the marker's time, before the
bond is judged, the proposal of its low nibble and second byte and the pair time are taken; a marker with another
third byte leaves the state as it was. BOND_LANE_REJOIN puts a partner lane in sync whose bond loop has its lock into
the local receive mask, and leaves the state as it was on any other. BOND_WIDTH_SWITCH at or after the agreed cycle
takes the proposed group; before it, or without a proposal, it leaves the state as it was. After a switch the active
group is the proposed one, nothing is proposed, BOND_DOWN is not active, BOND_DEGRADED is active exactly where the
group is not all four lanes, and the lanes, the registers and the clocks are as they were. -/
def Obligations.BondMasksAndWidthSwitch : Prop :=
  (∀ (s : State) (l : Fin 4) (b1 b2 b3 : Byte) (off : BitVec 32) (t : Tick),
      (W.BOND_CTL_EN (s.word K.BOND_CTL) = true → (s.lane (64 + (l : Nat))).sync = true → b3 = ~~~ b1 →
        exec (.bondMarkerReceive l b1 b2 b3 off t) s =
          .next (((({ s.silent with bond := { s.bond with
              remote := b1.toNat / 16, seen := Tab.put (fun _ => 0) s.bond.seen l (s.ticks t + 1) } }).bondJudge
            t).bondProposal (b1.toNat % 16) b2.toNat).pairTimeTake off.toInt t))
      ∧ (b3 ≠ ~~~ b1 → exec (.bondMarkerReceive l b1 b2 b3 off t) s = .next s.silent)
      ∧ ((s.lane (64 + (l : Nat))).sync = true → (s.loopOf 10).lostAt = none → exec (.bondLaneRejoin l) s =
        .next (s.silent.setLocal (s.bond.localMask ||| (1 <<< (l : Nat))) 0))
      ∧ ((s.lane (64 + (l : Nat))).sync = false ∨ (s.loopOf 10).lostAt ≠ none →
        exec (.bondLaneRejoin l) s = .next s.silent)
      ∧ (∀ g sw, s.bond.prop = some (g, sw) → s.switchAhead sw = true → exec .bondWidthSwitch s = .next s.silent)
      ∧ (s.bond.prop = none → exec .bondWidthSwitch s = .next s.silent))
  ∧ (∀ (s : State) (g sw : Nat), s.bond.prop = some (g, sw) → s.switchAhead sw = false →
      ∃ t, exec .bondWidthSwitch s = .next t ∧ t.bond.active = g ∧ t.bond.prop = none
        ∧ t.isActive 0x0208 0 = false ∧ (t.isActive 0x0207 0 = true ↔ g ≠ 15)
        ∧ t.lanes = s.lanes ∧ t.regs = s.regs ∧ t.clk = s.clk)

/-- NIB_POWER_UP of an unpowered nib answers a state in which the nib is powered, in POWERUP, with its identity, its
type and its turn figures, without a position, at epoch 0, every switch off, both sides in wrap, and its auxiliary
record as after reset; a powered nib is left as it was. NIB_POWER_LOSS leaves the nib unpowered, without a position,
with every switch off and no schedule or mirror copy held. Through both its bypass element and every other nib stay as
they were. NIB_OVERVOLT_BYPASS closes the element of a powered nib, NIB_BYPASS_CLOSE that of a nib that has accepted
BYPASS_REQ; else both leave the state as it was. BYPASS_ELEMENT_REOPENED opens the element and forgets the request. -/
def Obligations.NibPowersUpAndForgetsOnLoss : Prop :=
  ∀ (s : State) (n : Fin 3072),
    (∀ ident typ lo hi fw, (s.nib n).powered = false →
      ∃ t, exec (.nibPowerUp n ident typ lo hi fw) s = .next t
        ∧ (t.nib n).powered = true ∧ (t.nib n).state = nsPowerUp ∧ (t.nib n).levels = [] ∧ (t.nib n).epoch = 0
        ∧ (t.nib n).pos = none ∧ (t.nib n).ident = ident ∧ (t.nib n).typ = typ ∧ (t.nib n).byp = (s.nib n).byp
        ∧ (t.nib n).turnLo = lo.toNat ∧ (t.nib n).turnHi = hi.toNat ∧ t.aux n = NibAux.init
        ∧ (t.nib n).low.wrap = true ∧ (t.nib n).high.wrap = true ∧ ∀ j, j ≠ (n : Nat) → t.nib j = s.nib j)
    ∧ (∀ ident typ lo hi fw, (s.nib n).powered = true →
      exec (.nibPowerUp n ident typ lo hi fw) s = .next s.silent)
    ∧ (∃ t, exec (.nibPowerLoss n) s = .next t ∧ (t.nib n).powered = false ∧ (t.nib n).pos = none
        ∧ (t.nib n).levels = [] ∧ (t.nib n).held = [] ∧ (t.nib n).mirror = [] ∧ (t.nib n).byp = (s.nib n).byp
        ∧ ∀ j, j ≠ (n : Nat) → t.nib j = s.nib j)
    ∧ ((s.nib n).powered = true → exec (.nibOvervoltBypass n) s = .next (s.silent.setNib n { s.nib n with byp := true }))
    ∧ ((s.nib n).powered = false → exec (.nibOvervoltBypass n) s = .next s.silent)
    ∧ ((s.nib n).bypReq = true → exec (.nibBypassClose n) s = .next (s.silent.setNib n { s.nib n with byp := true }))
    ∧ ((s.nib n).bypReq = false → exec (.nibBypassClose n) s = .next s.silent)
    ∧ exec (.bypassElementReopened n) s = .next (s.silent.setNib n { s.nib n with byp := false, bypReq := false })

/-- At a nib with a waiting request: IDENTIFY, code 1, is answered with result 0; SET_ARR, code 2, for side 0 or 1
takes the arrival offset, begins the mean of the next 64 headers anew and is answered with result 0, and for any other
side is answered with result 4; any code but 1 to 4 is answered with result 1. A request whose sequence number is that
of the last one acted on gets the earlier reply again. Without a waiting request each of the three commands leaves the
state as it was, and so it does with a request of a code not its own. -/
def Obligations.NibAnswersIdentifyAndSetArr : Prop :=
  ∀ (s : State) (n : Fin 3072),
    let code := beAt (s.aux n).req 0 1
    ((s.aux n).req ≠ [] → (s.aux n).repeated = false →
      (code = 1 → exec (.identify n) s = .next (s.silent.nibReply n 0))
      ∧ (code = 2 →
        let k := beAt (s.aux n).req 2 1
        (k ≤ 1 → exec (.setArr n) s = .next ((s.silent.setNib n ((s.nib n).setSide k { (s.nib n).side k with
          arr := beAt (s.aux n).req 3 4, corrSum := 0, corrLeft := 64 })).nibReply n 0))
        ∧ (1 < k → exec (.setArr n) s = .next (s.silent.nibReply n 4)))
      ∧ (code = 0 ∨ 4 < code → exec (.mgmtUnknownRequest n) s = .next (s.silent.nibReply n 1)))
    ∧ ((s.aux n).req ≠ [] → (s.aux n).repeated = true →
      (code = 1 → exec (.identify n) s = .next (s.silent.nibRepeat n))
      ∧ (code = 2 → exec (.setArr n) s = .next (s.silent.nibRepeat n))
      ∧ (code = 0 ∨ 4 < code → exec (.mgmtUnknownRequest n) s = .next (s.silent.nibRepeat n)))
    ∧ ((s.aux n).req = [] ∨ code ≠ 1 → exec (.identify n) s = .next s.silent)
    ∧ ((s.aux n).req = [] ∨ code ≠ 2 → exec (.setArr n) s = .next s.silent)
    ∧ ((s.aux n).req = [] ∨ (1 ≤ code ∧ code ≤ 4) → exec (.mgmtUnknownRequest n) s = .next s.silent)

/-- A new ADMIT request, code 3, with the nib's identity and an epoch other than 0 at a nib not in FAULT, POWERUP or
LOOPBACK answers a state in which the nib is ADMITTED at that epoch with every switch off, no schedule, mirror copy or
latched block, and no other nib changed. With another identity it is answered with result 3; with the nib's identity
in FAULT, POWERUP or LOOPBACK with result 2, elsewhere for epoch 0 with result 4; nothing else happens then. A new
RETIRE request, code 4, answers a state in which the nib is NUMBERED at epoch 0 with every switch off and no schedule
or mirror copy held, and no other nib changed. A request whose sequence number is that of the last one acted on gets
the earlier reply again. Without a waiting request, or with one of another code, both leave the state as it was. -/
def Obligations.NibAdmitsAndRetires : Prop :=
  ∀ (s : State) (n : Fin 3072),
    let code := beAt (s.aux n).req 0 1
    let own := decide (BitVec.ofNat 32 (beAt (s.aux n).req 3 4) = (s.nib n).ident)
    let barred := (s.nib n).state = nsFault ∨ (s.nib n).state = nsPowerUp ∨ (s.nib n).state = nsLoopback
    ((s.aux n).req ≠ [] → (s.aux n).repeated = false →
      (code = 3 → own = true → ¬ barred → beAt (s.aux n).req 2 1 ≠ 0 →
        ∃ t, exec (.admitCi n) s = .next t ∧ (t.nib n).state = nsAdmitted
          ∧ (t.nib n).epoch = beAt (s.aux n).req 2 1 ∧ (t.nib n).levels = [] ∧ (t.nib n).held = []
          ∧ (t.nib n).mirror = [] ∧ (t.nib n).latch = false ∧ ∀ j, j ≠ (n : Nat) → t.nib j = s.nib j)
      ∧ (code = 3 → own = false → exec (.admitCi n) s = .next (s.silent.nibReply n 3))
      ∧ (code = 3 → own = true → barred → exec (.admitCi n) s = .next (s.silent.nibReply n 2))
      ∧ (code = 3 → own = true → ¬ barred → beAt (s.aux n).req 2 1 = 0 →
        exec (.admitCi n) s = .next (s.silent.nibReply n 4))
      ∧ (code = 4 →
        ∃ t, exec (.retire n) s = .next t ∧ (t.nib n).state = nsNumbered ∧ (t.nib n).epoch = 0
          ∧ (t.nib n).levels = [] ∧ (t.nib n).held = [] ∧ (t.nib n).mirror = []
          ∧ ∀ j, j ≠ (n : Nat) → t.nib j = s.nib j))
    ∧ ((s.aux n).req ≠ [] → (s.aux n).repeated = true →
      (code = 3 → exec (.admitCi n) s = .next (s.silent.nibRepeat n))
      ∧ (code = 4 → exec (.retire n) s = .next (s.silent.nibRepeat n)))
    ∧ ((s.aux n).req = [] ∨ code ≠ 3 → exec (.admitCi n) s = .next s.silent)
    ∧ ((s.aux n).req = [] ∨ code ≠ 4 → exec (.retire n) s = .next s.silent)

/-- At a powered nib: /BLK/ is forwarded and latches a block; /CLR/ is forwarded and arms the nib exactly in BLOCKED,
SAFE and FAULT; /EIS/ is forwarded and puts its side in wrap for the announced idle; /BRK/ puts its side in wrap and
is not forwarded; /ECQ/ with valid symbols, a matching complement and the nib's position is answered with /ECR/ by the
side it came from, any other is forwarded as it came. Outside LOOPBACK forwarding sends the set by the opposite side,
by the side of arrival where the opposite one is in wrap. At an unpowered nib each of the five leaves the state as it
was. After /BLK/ at a powered nib its block is latched, its arming is gone, every switch is off and no schedule or
mirror copy is held; from ADMITTED or SAFE it is BLOCKED, from any other state it keeps that state; its epoch, its
position and every other nib are as before. -/
def Obligations.OrderedSetsPassANib : Prop :=
  (∀ (s : State) (n : Fin 3072) (side : Fin 2),
      ((s.nib n).powered = true →
        exec (.blk n side) s = .next ((s.silent.nibForward n side .blk).nibLatch n)
        ∧ ((s.nib n).state = nsBlocked ∨ (s.nib n).state = nsSafe ∨ (s.nib n).state = nsFault →
            exec (.clr n side) s = .next ((s.silent.nibForward n side .clr).setNib n { s.nib n with armed := true }))
        ∧ ((s.nib n).state ≠ nsBlocked → (s.nib n).state ≠ nsSafe → (s.nib n).state ≠ nsFault →
            exec (.clr n side) s = .next (s.silent.nibForward n side .clr))
        ∧ exec (.eis n side) s = .next ((s.silent.nibForward n side .eis).setNib n
            ((s.nib n).setSide side { (s.nib n).side side with wrap := true, eis := true }))
        ∧ exec (.brk n side) s = .next (s.silent.setNib n
            ((s.nib n).setSide side { (s.nib n).side side with wrap := true, brk := true }))
        ∧ (∀ p q : Byte, q = ~~~ p → (s.nib n).pos = some p.toNat →
            exec (.ecq n side ⟨p, q⟩ true) s = .next (s.silent.nibSend n side (.nibSet n side (.ecr p q))))
        ∧ (∀ (p q : Byte) (ok : Bool), ok = false ∨ q ≠ ~~~ p ∨ (s.nib n).pos ≠ some p.toNat →
            exec (.ecq n side ⟨p, q⟩ ok) s = .next (s.silent.nibForward n side (.ecq p q)))
        ∧ ((s.nib n).state ≠ nsLoopback → ∀ o : OSet, s.silent.nibForward n side o =
            s.silent.emit (.nibSet n (if ((s.nib n).side (1 - side)).wrap = true then side else 1 - side) o)))
      ∧ ((s.nib n).powered = false →
        exec (.blk n side) s = .next s.silent ∧ exec (.clr n side) s = .next s.silent
        ∧ exec (.eis n side) s = .next s.silent ∧ exec (.brk n side) s = .next s.silent
        ∧ ∀ p q ok, exec (.ecq n side ⟨p, q⟩ ok) s = .next s.silent))
  ∧ (∀ (s : State) (n : Fin 3072) (side : Fin 2), (s.nib n).powered = true →
      ∃ t, exec (.blk n side) s = .next t
        ∧ (t.nib n).latch = true ∧ (t.nib n).armed = false ∧ (t.nib n).levels = [] ∧ (t.nib n).held = []
        ∧ (t.nib n).mirror = [] ∧ (t.nib n).epoch = (s.nib n).epoch ∧ (t.nib n).pos = (s.nib n).pos
        ∧ ((s.nib n).state = nsAdmitted ∨ (s.nib n).state = nsSafe → (t.nib n).state = nsBlocked)
        ∧ ((s.nib n).state ≠ nsAdmitted → (s.nib n).state ≠ nsSafe → (t.nib n).state = (s.nib n).state)
        ∧ ∀ j, j ≠ (n : Nat) → t.nib j = s.nib j)

/-- At a powered nib: NIB_SIDE_LOSS puts the side out of sync and in wrap. NIB_BRK_TIMER sends /BRK/ by each side that
is in wrap without sync. NIB_SIDE_SYNC_ACQUIRE after an announced idle puts the side in sync and out of wrap and
forwards the training burst; without one it puts the side in sync and leaves its wrap as it was. NIB_WRAP_EXIT takes a
wrapped side in sync out of wrap and leaves the state as it was on any other side. NIB_TIME_ERROR sets the time-error
flag exactly where no estimate has been accepted for 100 cycles. At an unpowered nib each leaves the state as it was.
-/
def Obligations.NibSidesWrapAndUnwrap : Prop :=
  ∀ (s : State) (n : Fin 3072) (side : Fin 2),
    let x := s.nib n
    let y := x.side side
    let low := x.low.wrap = true ∧ x.low.sync = false
    let high := x.high.wrap = true ∧ x.high.sync = false
    let out := x.outSide side
    (x.powered = true →
      exec (.nibSideLoss n side) s = .next (s.silent.setNib n (x.setSide side { y with sync := false, wrap := true }))
      ∧ (low → ¬ high → exec (.nibBrkTimer n) s = .next (s.silent.nibSend n 0 (.nibSet n 0 .brk)))
      ∧ (high → ¬ low → exec (.nibBrkTimer n) s = .next (s.silent.nibSend n 1 (.nibSet n 1 .brk)))
      ∧ (low → high → exec (.nibBrkTimer n) s =
          .next ((s.silent.nibSend n 0 (.nibSet n 0 .brk)).nibSend n 1 (.nibSet n 1 .brk)))
      ∧ (¬ low → ¬ high → exec (.nibBrkTimer n) s = .next s.silent)
      ∧ (y.eis = true → exec (.nibSideSyncAcquire n side) s = .next ((s.silent.nibSend n out (.nibTrain n out)).setNib n
          (x.setSide side { y with sync := true, wrap := false, brk := false, eis := false })))
      ∧ (y.eis = false → exec (.nibSideSyncAcquire n side) s = .next (s.silent.setNib n
          (x.setSide side { y with sync := true })))
      ∧ (y.wrap = true → y.sync = true → exec (.nibWrapExit n side) s = .next (s.silent.setNib n
          (x.setSide side { y with wrap := false, brk := false, eis := false })))
      ∧ (y.wrap = false ∨ y.sync = false → exec (.nibWrapExit n side) s = .next s.silent)
      ∧ (100 ≤ (s.aux n).timeBad →
          exec (.nibTimeError n) s = .next (s.silent.setAux n { s.aux n with timeErr := true }))
      ∧ ((s.aux n).timeBad < 100 → exec (.nibTimeError n) s = .next s.silent))
    ∧ (x.powered = false →
      exec (.nibSideLoss n side) s = .next s.silent ∧ exec (.nibBrkTimer n) s = .next s.silent
      ∧ exec (.nibSideSyncAcquire n side) s = .next s.silent ∧ exec (.nibWrapExit n side) s = .next s.silent
      ∧ exec (.nibTimeError n) s = .next s.silent)

/-- At a powered nib: a desaturation detection in the blanking window of its switch leaves the state as it was. Any
other detection, where no short is held, records the switch's flag, the tick and KIND, 1 of the hard comparator in a
blanking window of any switch and 2 else, and where one is held adds the switch's flag and makes KIND 3 where the
flags name two legs within 500 ns of the first detection; the nib then faults. A gate, temperature or supply fault
sets its flag and the nib faults. A nib that faults has every switch off and no schedule or mirror copy held; from
ADMITTED, SAFE or BLOCKED it is in FAULT, from any other state it keeps that state. At an unpowered nib both leave the
state as it was. A fault that is gone clears its own flag and nothing else. -/
def Obligations.NibFaultsOpenTheSwitches : Prop :=
  ∀ (s : State) (n : Fin 3072),
    let a := s.aux n
    ((s.nib n).powered = true →
      (∀ (sw : Fin 8) (hard : Bool) (t : Tick),
        let now := a.now t
        let win (k : Nat) : Prop := now < Tab.get (fun _ => 0) a.blankEnd k
        let flag : Byte := BitVec.ofNat 8 (1 <<< (sw : Nat))
        let flags := byteAt a.sc 0 ||| flag
        (hard = false → win sw → exec (.nibShortDetect n sw hard t) s = .next s.silent)
        ∧ (hard = true ∨ ¬ win sw → a.shorted = false → (hard = true ∧ ∃ k, k < 8 ∧ win k) →
          exec (.nibShortDetect n sw hard t) s = .next
            ((s.silent.setAux n { a with sc := [flag] ++ be 2 t ++ [1], scAt := now }).nibFault n))
        ∧ (hard = true ∨ ¬ win sw → a.shorted = false → ¬ (hard = true ∧ ∃ k, k < 8 ∧ win k) →
          exec (.nibShortDetect n sw hard t) s = .next
            ((s.silent.setAux n { a with sc := [flag] ++ be 2 t ++ [2], scAt := now }).nibFault n))
        ∧ (hard = true ∨ ¬ win sw → a.shorted = true → exec (.nibShortDetect n sw hard t) s = .next
            ((s.silent.setAux n { a with sc := [flags, byteAt a.sc 1, byteAt a.sc 2,
              if now ≤ a.scAt + 3125 ∧ 1 < (legsOf flags).length then 3 else byteAt a.sc 3] }).nibFault n)))
      ∧ exec (.nibFaultDetect n .gate) s = .next ((s.silent.setAux n { a with fGate := true }).nibFault n)
      ∧ exec (.nibFaultDetect n .temp) s = .next ((s.silent.setAux n { a with fTemp := true }).nibFault n)
      ∧ exec (.nibFaultDetect n .aux) s = .next ((s.silent.setAux n { a with fAux := true }).nibFault n))
    ∧ (∀ r : State, ((r.nibFault n).nib n).levels = [] ∧ ((r.nibFault n).nib n).held = []
        ∧ ((r.nibFault n).nib n).mirror = [] ∧ ((r.nibFault n).aux n).cur = []
        ∧ ((r.nibFault n).nib n).state =
          if (r.nib n).state = nsAdmitted ∨ (r.nib n).state = nsSafe ∨ (r.nib n).state = nsBlocked then nsFault
          else (r.nib n).state)
    ∧ ((s.nib n).powered = false →
      (∀ sw hard t, exec (.nibShortDetect n sw hard t) s = .next s.silent)
      ∧ ∀ f, exec (.nibFaultDetect n f) s = .next s.silent)
    ∧ exec (.nibFaultGone n .gate) s = .next (s.silent.setAux n { a with fGate := false })
    ∧ exec (.nibFaultGone n .temp) s = .next (s.silent.setAux n { a with fTemp := false })
    ∧ exec (.nibFaultGone n .aux) s = .next (s.silent.setAux n { a with fAux := false })

/-- At the start of a target cycle a powered nib in ADMITTED without a bypass request whose held schedule for that
cycle is to be obeyed, or which has no held schedule for it but a mirror copy to be obeyed that asks for no bypass,
has exactly that segment's edge records to run (none where it says HOLD) and keeps its switches and its state; what it
still holds is for later targets. With neither, a nib whose first target is reached turns every switch off and is
SAFE, and one whose first target is not reached or not known keeps its switches and its state; both have no edge
record to run. An unpowered nib is left as it was. NIB_EDGE_EXECUTE at a nib in ADMITTED without a bypass request sets
the first record's switch to its level, takes the record's tag and gate code and the code of the switching time, opens
the blanking window of a switch turned on, and drives the gate at that code; elsewhere the records are dropped; with
no record to run the state is left as it was. -/
def Obligations.NibRunsItsScheduleOrGoesSafe : Prop :=
  ∀ (s : State) (n : Fin 3072),
    let now := (s.aux n).cyc + 1
    let own := (s.nib n).held.find? (fun h => decide (h.target = now))
    let copy := (s.nib n).mirror.find? (fun h => decide (h.target = now))
    ((s.nib n).powered = true → (s.nib n).state = nsAdmitted → (s.nib n).bypReq = false →
      (∀ h, own = some h ∨ (own = none ∧ copy = some h ∧ h.byp = false) → h.obeyed = true →
        ∃ t, exec (.nibTargetCycleStart n) s = .next t
          ∧ (t.aux n).cur = (if h.hold then [] else h.edges) ∧ (t.aux n).cyc = now
          ∧ (t.nib n).levels = (s.nib n).levels ∧ (t.nib n).state = nsAdmitted
          ∧ (∀ x ∈ (t.nib n).held, ahead x.target now = true) ∧ (∀ x ∈ (t.nib n).mirror, ahead x.target now = true))
      ∧ (own = none → copy = none → ∀ f, (s.aux n).first = some f → ahead f now = false →
        ∃ t, exec (.nibTargetCycleStart n) s = .next t ∧ (t.nib n).state = nsSafe ∧ (t.nib n).levels = []
          ∧ (t.aux n).cur = [] ∧ (t.aux n).cyc = now)
      ∧ (own = none → copy = none → (s.aux n).first = none ∨ (∃ f, (s.aux n).first = some f ∧ ahead f now = true) →
        ∃ t, exec (.nibTargetCycleStart n) s = .next t ∧ (t.nib n).state = nsAdmitted
          ∧ (t.nib n).levels = (s.nib n).levels ∧ (t.aux n).cur = [] ∧ (t.aux n).cyc = now))
    ∧ ((s.nib n).powered = false → exec (.nibTargetCycleStart n) s = .next s.silent)
    ∧ (∀ (began lasted : Option Nat), (s.aux n).cur = [] → exec (.nibEdgeExecute n ⟨began, lasted⟩) s = .next s.silent)
    ∧ (∀ e es (began lasted : Option Nat), (s.aux n).cur = e :: es →
      let a := s.aux n
      ((s.nib n).state = nsAdmitted → (s.nib n).bypReq = false →
        exec (.nibEdgeExecute n ⟨began, lasted⟩) s = .next (((s.silent.setNib n
          { s.nib n with levels := Tab.put (fun _ => false) (s.nib n).levels e.sw e.level }).setAux n { a with
            cur := es, ltag := e.tag, swt := Tab.put (fun _ => 255) a.swt e.sw (swtCode began lasted)
            gates := Tab.put (fun _ => 0) a.gates e.sw e.gate
            blankEnd := if e.level then Tab.put (fun _ => 0) a.blankEnd e.sw (a.now e.offset + a.blank * 250)
              else a.blankEnd }).emit (.nibDrive n e.sw e.level e.gate)))
      ∧ ((s.nib n).state ≠ nsAdmitted ∨ (s.nib n).bypReq = true →
        exec (.nibEdgeExecute n ⟨began, lasted⟩) s = .next (s.silent.setAux n { a with cur := [] })))

/-- A type 1 stroke whose header check holds and none of whose header symbols is invalid, at a powered nib outside
LOOPBACK whose side is in sync, answers a state in which the last thing sent is the stroke, by the opposite side or
the side of arrival where that one is in wrap, with HOPS and CORR advanced in its header, the nib's slot in place of
the bytes at the nib's place, and /ERR/ at the invalid symbols that the slot does not replace. At a nib whose position
is HOPS the switches, the state and the schedules stay as they were; passing outward below SLOTS, in the first pass of
that cycle, the slot has 40 bytes; passing inward, or at or beyond SLOTS, there is no slot. A stroke of DIR 0 that
passes outward with another HOPS than the nib's position leaves the nib at HOPS as its position, NUMBERED at epoch 0
with every switch off, nothing held and no arming. -/
def Obligations.AStrokePassesTheNibWithItsSlot : Prop :=
  ∀ (s : State) (n : Fin 3072) (v : StrokePass),
    (s.nib n).powered = true → ((s.nib n).side v.side).sync = true → (s.nib n).state ≠ nsLoopback →
    hdrType v.hdr = 1 → hdrOk v.hdr = true → (∀ i ∈ v.bad, 32 ≤ i) →
    ∃ t slot, exec (.nibStrokePass n v) s = .next t
      ∧ (let place := slotPlace (hdrSlots v.hdr) (((t.nib n).pos).getD 0)
         t.out.getLast? = some (.nibStroke n ((s.nib n).outSide v.side) (forwardHdr v.hdr v.res true)
           (forwardBody v.body slot place) (errPlaces v.bad slot place)))
      ∧ ((s.nib n).pos = some (hdrHops v.hdr) →
          (t.nib n).levels = (s.nib n).levels ∧ (t.nib n).state = (s.nib n).state ∧ (t.nib n).held = (s.nib n).held
          ∧ (t.nib n).mirror = (s.nib n).mirror ∧ (t.nib n).pos = (s.nib n).pos
          ∧ ((s.nib n).outward v.side v.hdr = true → hdrHops v.hdr < hdrSlots v.hdr →
              (∀ y ∈ (s.aux n).sent, y.1 ≠ hdrCycle v.hdr) → slot.length = 40)
          ∧ ((s.nib n).outward v.side v.hdr = false ∨ hdrSlots v.hdr ≤ hdrHops v.hdr → slot = []))
      ∧ ((s.nib n).outward v.side v.hdr = true → hdrDir v.hdr = 0 → (s.nib n).pos ≠ some (hdrHops v.hdr) →
          (t.nib n).pos = some (hdrHops v.hdr) ∧ (t.nib n).levels = [] ∧ (t.nib n).held = [] ∧ (t.nib n).mirror = []
          ∧ (t.nib n).state = nsNumbered ∧ (t.nib n).epoch = 0 ∧ (t.nib n).armed = false)

/-- At a powered nib whose side is in sync, outside LOOPBACK, a stroke of another type than 1 is forwarded as it came,
and one of type 1 with a failing header check or an invalid symbol in its header with the header advanced and its
check left wrong, and no slot; in LOOPBACK a stroke that arrives on the low side leaves by it first as it came.
Without sync on the side it is not handled. A segment of a type 1 stroke with a sound header that is not empty: where
it is not sound it counts as rejected and nothing else happens; sound and with ACT in both it is taken as a command,
sound without ACT in a relay stroke as a mirror copy, and sound in any other combination, or at a damaged header, it
is left alone. /LBK/ with an invalid symbol or another position is forwarded as it came; with the nib's position, m =
1 outside ADMITTED turns every switch off and enters LOOPBACK without arming, m = 0 in LOOPBACK enters NUMBERED, and
any other leaves the state as it was. At an unpowered nib all of them leave the state as it was. -/
def Obligations.StrokesAndLoopbackAtANib : Prop :=
  ∀ (s : State) (n : Fin 3072) (side : Fin 2),
    let x := s.nib n
    (∀ v : StrokePass,
      (x.powered = true → (x.side v.side).sync = true →
        (x.state ≠ nsLoopback → hdrType v.hdr ≠ 1 → exec (.nibStrokePass n v) s =
          .next (s.silent.emit (.nibStroke n (x.outSide v.side) v.hdr v.body v.bad)))
        ∧ (x.state ≠ nsLoopback → hdrType v.hdr = 1 → hdrOk v.hdr = false ∨ (∃ i ∈ v.bad, i < 32) →
          exec (.nibStrokePass n v) s =
            .next (s.silent.emit (.nibStroke n (x.outSide v.side) (forwardHdr v.hdr v.res false) v.body v.bad)))
        ∧ (x.state = nsLoopback → v.side = 0 → ∃ t, exec (.nibStrokePass n v) s = .next t
          ∧ t.out.head? = some (.nibStroke n 0 v.hdr v.body v.bad)))
      ∧ (x.powered = false ∨ (x.side v.side).sync = false → exec (.nibStrokePass n v) s = .next s.silent))
    ∧ (∀ (hdr seg : List Byte) (err : Bool) (tS : Nat),
      let c := hdrCycle hdr
      let sound := segSound x.typ (x.levelsAt (s.aux n).cur (s.aux n).cyc (segTarget c seg)) seg err
      (x.powered = true → hdrOk hdr = true → hdrType hdr = 1 → segEmpty seg = false ∨ err = true →
        (sound = false → exec (.nibSegmentReceive n side hdr seg err tS) s =
          .next (s.silent.setAux n ((s.aux n).reject c)))
        ∧ (sound = true → hdrAct hdr = true → segAct seg = true → exec (.nibSegmentReceive n side hdr seg err tS) s =
          .next (s.silent.nibTake n side (hdrDir hdr) c seg true tS))
        ∧ (sound = true → hdrRly hdr = true → segAct seg = false → exec (.nibSegmentReceive n side hdr seg err tS) s =
          .next (s.silent.nibTake n side (hdrDir hdr) c seg false tS))
        ∧ (sound = true → hdrAct hdr = false ∨ segAct seg = false → hdrRly hdr = false ∨ segAct seg = true →
          exec (.nibSegmentReceive n side hdr seg err tS) s = .next s.silent))
      ∧ (x.powered = false ∨ hdrOk hdr = false ∨ hdrType hdr ≠ 1 ∨ (segEmpty seg = true ∧ err = false) →
        exec (.nibSegmentReceive n side hdr seg err tS) s = .next s.silent))
    ∧ (∀ (p m : Byte) (ok : Bool),
      (x.powered = true → ok = false ∨ x.pos ≠ some p.toNat →
        exec (.lbk n side ⟨p, m⟩ ok) s = .next (s.silent.nibForward n side (.lbk p m)))
      ∧ (x.powered = true → ok = true → x.pos = some p.toNat →
        (m = 1 → x.state ≠ nsAdmitted →
          let r := s.silent.nibDown n
          exec (.lbk n side ⟨p, m⟩ ok) s = .next (r.setNib n { r.nib n with state := nsLoopback, armed := false }))
        ∧ (m = 0 → x.state = nsLoopback → exec (.lbk n side ⟨p, m⟩ ok) s =
          .next (s.silent.setNib n { x with state := nsNumbered }))
        ∧ (m ≠ 1 ∨ x.state = nsAdmitted → m ≠ 0 ∨ x.state ≠ nsLoopback →
          exec (.lbk n side ⟨p, m⟩ ok) s = .next s.silent))
      ∧ (x.powered = false → exec (.lbk n side ⟨p, m⟩ ok) s = .next s.silent))

/-- The first set that a stack's build has loaded becomes its live set when its instant's cycle has come and waits no
longer, with LAST_LOAD as the load recorded it; no other stack's generator, no register and no lane changes. Before
that cycle, and with no set loaded, GENERATOR_LOAD leaves the state as it was. The latch of a powered module happens
once in a cycle: the latch of the cycle is noted, the step's own inputs, of this cycle, are kept, the code changes are
taken, and no register and no cycle number changes. A second one in the same cycle, and one in an unpowered module,
leave the state as it was. -/
def Obligations.GeneratorLoadsAndTheDuctusLatch : Prop :=
  (∀ (s : State) (k : Fin 16) (l : GenLoad) (ls : List GenLoad), (s.dstack k).loads = l :: ls →
    (l.tick / 62500 ≤ s.mono → ∃ t, exec (.generatorLoad k) s = .next t
      ∧ (t.dstack k).live = l.set ∧ (t.dstack k).lastLoad = l.how ∧ (t.dstack k).loads = ls
      ∧ (∀ j, j ≠ (k : Nat) → t.dstack j = s.dstack j) ∧ t.regs = s.regs ∧ t.lanes = s.lanes)
    ∧ (s.mono < l.tick / 62500 → exec (.generatorLoad k) s = .next s.silent))
  ∧ (∀ (s : State) (k : Fin 16), (s.dstack k).loads = [] → exec (.generatorLoad k) s = .next s.silent)
  ∧ (∀ (s : State) (bad : List (Fin 3072 × Fin 4 × Fin 10)),
    (s.sys.powered = true → s.duct.latchAt ≠ s.mono + 1 → ∃ t, exec (.ductusLatch bad) s = .next t
      ∧ t.duct.latchAt = s.mono + 1 ∧ (t.duct.own.map fun o => o.cycle) = some (s.cycle.setWidth 48)
      ∧ t.sup.codes = [] ∧ t.regs = s.regs ∧ t.cycle = s.cycle)
    ∧ (s.sys.powered = false ∨ s.duct.latchAt = s.mono + 1 → exec (.ductusLatch bad) s = .next s.silent))

/-- The posting starts its counts of the cycle afresh and posts each enabled stack, in rising order. The governor's
level becomes that of its bands over the die temperature; entering level 1 makes event 0x060A active, entering level 2
event 0x060B, level 0 leaves neither active, and no register and no lane changes. With the amber threshold not above
the red one: at or above red the level is 2 whatever it was; from amber up to red, level 0 and level 1 go to 1;
between amber less 3 °C and amber, levels 0 and 1 stay; below amber less 3 °C the level falls by one to no less than
0; level 2 stays from red less 3 °C on and goes to 1 below it. -/
def Obligations.SchedulerPostsAndGovernorRanks : Prop :=
  ((∀ (s : State) (late : BitVec 16), exec (.schedPost late) s =
      .next (((List.range 16).filter s.stackEn).foldl (fun (u : State) (k : Nat) => u.postStack late k)
        { s.silent with sched := { s.sched with ranked := 0, sortMax := 0 } }))
    ∧ (∀ (s : State) (die : BitVec 16),
      let w := s.word K.GOV_CTL
      let new := govNext s.sched.govLevel die.toInt (10 * W.GOV_CTL_T_AMBER w) (10 * W.GOV_CTL_T_RED w)
      ∃ t, exec (.governorUpdate die) s = .next t ∧ t.sched.govLevel = new ∧ t.sched.dieT = die
        ∧ (new = 1 → s.sched.govLevel ≠ 1 → t.isActive 0x060A 0 = true)
        ∧ (new = 2 → s.sched.govLevel ≠ 2 → t.isActive 0x060B 0 = true)
        ∧ (new = 0 → t.isActive 0x060A 0 = false ∧ t.isActive 0x060B 0 = false)
        ∧ t.regs = s.regs ∧ t.lanes = s.lanes))
  ∧ (∀ (old : Nat) (die amber red : Int), old ≤ 2 → amber ≤ red →
      (red ≤ die → govNext old die amber red = 2)
      ∧ (amber ≤ die → die < red → old ≤ 1 → govNext old die amber red = 1)
      ∧ (amber - 30 ≤ die → die < amber → old ≤ 1 → govNext old die amber red = old)
      ∧ (die < amber - 30 → govNext old die amber red = old - 1)
      ∧ (red - 30 ≤ die → old = 2 → govNext old die amber red = 2)
      ∧ (die < red - 30 → old = 2 → govNext old die amber red = 1))

/-- The thermal step of a module that is not joining steps every modelled cell of every enabled stack, in rising
order, judges each after its step, and then ranks the headroom of each enabled stack; without CHECK_EN, or with no
switch to check, the mismatch event is judged as absent, and with one the checking unit goes on behind the switch
checked and reports a mismatch exactly where that switch is among those that differ. In a joining module the step's
losses go behind those kept. A bank is run over its slots, and one with no enabled slot leaves the state as it was.
The output stage stages the wired outputs of each enabled stack in rising order, and LOOP_OUTPUT_DEADLINE raises event
0x0706 at tick 51,250. -/
def Obligations.ThermalStepAndLoopEngineRun : Prop :=
  (∀ (s : State) (mis : List (Fin 3072 × Fin 8)),
    let ks := (List.range 16).filter s.stackEn
    let r := ks.foldl State.hottest (ks.foldl (fun (u : State) (k : Nat) =>
      (u.modelled k).foldl (fun (v : State) (ci : Nat) => ((v.stepCell k ci).1).judgeHeat k ci) u) s.silent)
    let absent (u : State) : State := u.judge 0x0604 0 false 100000 0 0
    (r.pair.role ≠ .joining →
      (W.THERM_CTL_CHECK_EN (r.word K.THERM_CTL) = false ∨ r.checked = none →
        exec (.thermalStep mis) s = .next (absent r))
      ∧ (∀ j, W.THERM_CTL_CHECK_EN (r.word K.THERM_CTL) = true → r.checked = some j →
        let u : State := { r with therm := { r.therm with rot := j + 1 } }
        ((∃ m ∈ mis, (m.1 : Nat) * 8 + (m.2 : Nat) = j) → exec (.thermalStep mis) s = .next (u.mismatch j))
        ∧ ((∀ m ∈ mis, (m.1 : Nat) * 8 + (m.2 : Nat) ≠ j) → exec (.thermalStep mis) s = .next (absent u))))
    ∧ (r.pair.role = .joining → ∃ t, exec (.thermalStep mis) s = .next t
      ∧ ∃ losses, t.therm.kept = r.therm.kept ++ [losses]))
  ∧ (∀ (s : State) (b : Fin 16), exec (.loopBankRun b) s = .next (s.silent.runBank b)
    ∧ ((∀ i, i < 16 → s.slotEn (i + 16 * (b : Nat)) = false) → exec (.loopBankRun b) s = .next s.silent))
  ∧ (∀ s : State, exec .loopOutputStage s = .next (((List.range 16).filter s.stackEn).foldl State.stageOutputs s.silent)
    ∧ exec .loopOutputDeadline s = .next (s.silent.raise 0x0706 0 0 51250))

/-- Supervision starts its count of steps afresh and supervises the enabled cells in order. The wear period writes
every wear record of a switch that differs from the one after reset to the journal, stamped with the present cycle,
and changes no register, no event and no cell. -/
def Obligations.SupervisionAndTheWearJournal : Prop :=
  ∀ s : State,
    exec .supervisionProcess s = .next (s.allCells.foldl (fun (u : State) (ci : Nat) => u.supervise 48500 ci)
      { s.silent with sup := { s.sup with steps := 0 } })
    ∧ ∃ t, exec .wearJournalPeriod s = .next t
      ∧ (∀ ci ∈ s.wearCells, ∀ sw, sw < 8 → (s.supSw (ci * 8 + sw)).wear ≠ Wear.init →
          Tab.get (fun _ => Wear.init) t.jrnl.wear (ci * 8 + sw)
            = { (s.supSw (ci * 8 + sw)).wear with update := s.cycle.setWidth 48 })
      ∧ t.regs = s.regs ∧ t.evt = s.evt ∧ t.cells = s.cells

/-- Outside BOOT every sending port of a configured string launches its stroke: the header, the segment sent to each
position below SLOTS, and SLOTS telemetry slots of 40 bytes 0x00; no register and no cell changes. In BOOT none
leaves. At a lit port in use of a configured string a header with a correct check and type 1 is latched as that port's
header with its cycle, HOPS, DIR and SLOTS, and no register and no lane changes; a header with a wrong check marks the
port's header bad and counts every slot of the string in STR_ERR; a sound one of another type is not taken; a port in
far-end loopback sends the header again before. At any other port nothing but this last happens. An echo reply with
valid symbols and a matching complement for an occupied position below SLOTS at a sending port in use of a configured
string adds its round trip to the sum of its end while fewer than sixteen are there, and with the sixteenth, where no
request to the cell waits, the mean is taken and the string's mirror deadline judged. A reply with other symbols is
ignored. A powered nib forwards /ECR/ as it came; an unpowered one does nothing. -/
def Obligations.StrokesLeaveAndHeadersReturn : Prop :=
  (∀ s : State, s.sys.mode = .boot → exec .strokeLaunch s = .next s.silent)
  ∧ (∀ s : State, s.sys.mode ≠ .boot → ∃ t, exec .strokeLaunch s = .next t ∧ t.regs = s.regs ∧ t.cells = s.cells
    ∧ ∀ q ∈ s.strings.flatMap s.usedPorts, s.sends q = true →
      .stroke q (s.strokeHeader q) ((List.range (s.slotsOf (s.basePort q))).map (s.sentSeg q))
        (List.replicate (s.slotsOf (s.basePort q)) (List.replicate 40 0)) ∈ t.out)
  ∧ (∀ (s : State) (p : Fin 64) (hdr : List Byte) (tk : Tick),
    let b := s.basePort p
    let there := s.configured b = true ∧ (p : Nat) ∈ s.usedPorts b ∧ s.lit p = true
    let u := if s.txMode p = .farEnd then s.silent.emit (.again p hdr) else s.silent
    (there → hdrOk hdr = true → hdrType hdr = 1 → ∃ t, exec (.strokeHeaderReturn p hdr tk) s = .next t
      ∧ (t.str p).hdr.ok = true ∧ (t.str p).hdr.cycle = (hdrCycle hdr).setWidth 16 ∧ (t.str p).hdr.hops = hdrHops hdr
      ∧ (t.str p).hdr.dir = hdrDir hdr ∧ (t.str p).hdr.slots = hdrSlots hdr ∧ t.regs = s.regs ∧ t.lanes = s.lanes)
    ∧ (there → hdrOk hdr = false → exec (.strokeHeaderReturn p hdr tk) s =
      .next ((u.setStr p { s.str p with hdr := { (s.str p).hdr with ok := false } }).strErr b (s.slotsOf b) tk))
    ∧ (there → hdrOk hdr = true → hdrType hdr ≠ 1 → exec (.strokeHeaderReturn p hdr tk) s = .next u)
    ∧ (¬ there → exec (.strokeHeaderReturn p hdr tk) s = .next u))
  ∧ (∀ (s : State) (l : Fin 64) (p q : Byte) (ok : Bool) (rt : BitVec 32) (tk : Tick),
    let b := s.basePort l
    let ci := 48 * b + p.toNat
    let j := ci * 2 + s.portSide l
    let sum := (s.echoOf j).sum + rt.toNat
    (ok = true → q = ~~~ p → s.configured b = true → (l : Nat) ∈ s.usedPorts b → s.sends l = true →
      p.toNat < s.slotsOf b → s.occupied ci = true →
      ((s.echoOf j).count + 1 < 16 → exec (.ecr (.port l) ⟨p, q⟩ ok ⟨rt, tk⟩) s =
        .next (s.silent.setEcho j { s.echoOf j with sum := sum, count := (s.echoOf j).count + 1 }))
      ∧ (16 ≤ (s.echoOf j).count + 1 → (s.mg ci).req = [] → exec (.ecr (.port l) ⟨p, q⟩ ok ⟨rt, tk⟩) s =
        .next ((s.silent.echoMean ci (s.portSide l) (arrOf (s.rateOf l) sum 16 (s.echoOf j).turn) tk).mirrorJudge b tk)))
    ∧ (ok = false ∨ q ≠ ~~~ p → exec (.ecr (.port l) ⟨p, q⟩ ok ⟨rt, tk⟩) s = .next s.silent))
  ∧ (∀ (s : State) (n : Fin 3072) (side : Fin 2) (p q : Byte) (ok : Bool) (rt : BitVec 32) (tk : Tick),
    ((s.nib n).powered = true → exec (.ecr (.nib n side) ⟨p, q⟩ ok ⟨rt, tk⟩) s = .next (s.silent.nibForward n side (.ecr p q)))
    ∧ ((s.nib n).powered = false → exec (.ecr (.nib n side) ⟨p, q⟩ ok ⟨rt, tk⟩) s = .next s.silent))

/-- An executed write that no rule of the order of checks refuses, of LANE_CTL, BOND_CTL, or of 1 to the VALID bit of
SAF_FAULT or INK_FIRST, and in a module that is not the holder of a pair also of 1 to the VALID bit of DUCT_CLAMP,
DUCT_FAIL, THERM_FAIL, SC_CAPTURE or FE_INFO, puts the word behind those that wait for the next cycle and is answered
OK; a write of TIME_SNAP does likewise and is answered at the snapshot. In the holder of a pair a write of one of
those five, whose pages are replicated, becomes a record due two cycles on, and its reply waits for the partner's
acknowledgement where the partner is ready. Nothing else changes but the session's record of the request and its
reply. -/
def Obligations.WordsOfTheNextCycleWait : Prop :=
  ∀ (s : State) (r : Req),
    let i := reqSlot r
    let waits (k : Nat) (w : Word) : Host.Outcome State Fault Refusal :=
      .next (({ s.begun r with nextW := (s.begun r).nextW ++ [(k, w)] }).reply i 0x0011 r.seq stOk [])
    let copied (k : Nat) (w : Word) : Host.Outcome State Fault Refusal :=
      .next ((((s.begun r).addRecord rkWord 0 (k / 256) (k % 256) (s.mono + 2) w).awaitAck i).reply i 0x0011 r.seq stOk [])
    let both (c : Instr) (k : Nat) : Prop := s.WritesFreely r k 0x80000000 →
      (s.leads = false → exec c s = waits k 0x80000000) ∧ (s.leads = true → exec c s = copied k 0x80000000)
    (∀ (l : Fin 68) (w : Word), s.WritesFreely r (K.LANE_CTL l) w →
      exec (.laneCtlWrite r l w) s = waits (K.LANE_CTL l) w)
    ∧ (∀ w : Word, s.WritesFreely r K.BOND_CTL w → exec (.bondCtlWrite r w) s = waits K.BOND_CTL w)
    ∧ (s.WritesFreely r K.SAF_FAULT 0x80000000 → exec (.safFaultRearm r) s = waits K.SAF_FAULT 0x80000000)
    ∧ (s.WritesFreely r K.INK_FIRST 0x80000000 → exec (.inkFirstRearm r) s = waits K.INK_FIRST 0x80000000)
    ∧ both (.ductClampRearm r) K.DUCT_CLAMP ∧ both (.ductFailRearm r) K.DUCT_FAIL
    ∧ both (.thermFailRearm r) K.THERM_FAIL ∧ both (.scCaptureRearm r) K.SC_CAPTURE ∧ both (.feInfoRearm r) K.FE_INFO
    ∧ (s.WritesFreely r K.TIME_SNAP 1 →
      let u : State := { s.begun r with nextW := (s.begun r).nextW ++ [(K.TIME_SNAP, 1)] }
      exec (.timeSnap r) s = .next (u.setSess i { u.sess i with wait := some (0x0011, r.seq, .snap) }))

/-- An executed write that no rule of the order of checks refuses acts before its reply, which is OK: CAN_RXSEL sets
the session's selection; ADC_URG gives a converter its host request; ARB_CTL and the revocation of ARB_CMD act on the
arbiter; DMA_CMD starts or cancels a channel; BLOT_CMD triggers the Blotter; LANE_CMD slips a lane one bit of 20, or
puts its error count to what it has counted in the present cycle and clears its saturation flag; CLK_LOOP sets its
word without bit 31 and restarts its loop, by force with bit 31. LINK_CMD, whose page is replicated, in a module that
is not the holder of a pair sends /LBK/ to the position, with 1 to start and 0 to end the loopback, by the string's
first end that sends, and nothing where none does; in the holder of a pair it becomes a record due two cycles on, and
its reply waits for the partner's acknowledgement where the partner is ready. Nothing else changes but the session's
record of the request and its reply. -/
def Obligations.ImmediateWordsActAtOnce : Prop :=
  ∀ (s : State) (r : Req),
    let i := reqSlot r
    let u := s.begun r
    let ok (t : State) : Host.Outcome State Fault Refusal := .next (t.reply i 0x0011 r.seq stOk [])
    let link (c : Instr) (p : Fin 64) (pos : Fin 128) (cmd : Nat) : Prop :=
      let w := at_ cmd 24 ||| at_ pos 8 ||| at_ p 0
      s.WritesFreely r K.LINK_CMD w →
        (s.leads = false →
          (∀ q, (s.usedPorts p).find? s.sends = some q →
            exec c s = ok (u.emit (.ordered q (.lbk (BitVec.ofNat 8 pos) (if cmd = 1 then 1 else 0)))))
          ∧ ((s.usedPorts p).find? s.sends = none → exec c s = ok u))
        ∧ (s.leads = true → exec c s =
          ok ((u.addRecord rkWord 0 (K.LINK_CMD / 256) (K.LINK_CMD % 256) (s.mono + 2) w).awaitAck i))
    (∀ w : Word, s.WritesFreely r K.CAN_RXSEL w → exec (.canRxselWrite r w) s = ok (u.applySess i K.CAN_RXSEL w))
    ∧ (∀ (adc : Fin 4) (ch : Fin 32), s.WritesFreely r K.ADC_URG (at_ adc 8 ||| at_ ch 0) →
      exec (.adcUrg r adc ch) s = ok (u.setConv adc { u.conv adc with host := some (ch : Nat) }))
    ∧ (∀ w : Word, s.WritesFreely r K.ARB_CTL w → exec (.arbCtlWrite r w) s = ok (u.arbCtl w))
    ∧ (∀ n : Fin 8, s.WritesFreely r K.ARB_CMD (at_ 1 4 ||| at_ n 0) → exec (.arbCmdRevoke r n) s = ok (u.arbRevoke n))
    ∧ (∀ ch : Fin 8, s.WritesFreely r K.DMA_CMD (at_ 1 8 ||| at_ ch 0) → exec (.dmaStart r ch) s = ok (u.dmaStart ch))
    ∧ (∀ ch : Fin 8, s.WritesFreely r K.DMA_CMD (at_ 2 8 ||| at_ ch 0) → exec (.dmaCancel r ch) s = ok (u.dmaCancel ch))
    ∧ (s.WritesFreely r K.BLOT_CMD 1 → exec (.blotCmdTrigger r) s = ok (u.blotTrigger u.blotRow r.tick))
    ∧ (∀ l : Fin 68, s.WritesFreely r K.LANE_CMD (at_ 1 8 ||| at_ l 0) →
      exec (.laneCmdBitSlip r l) s = ok (u.setLane l { u.lane l with slip := ((u.lane l).slip + 1) % 20 }))
    ∧ (∀ l : Fin 68, s.WritesFreely r K.LANE_CMD (at_ 2 8 ||| at_ l 0) →
      exec (.laneCmdClear r l) s = ok (u.setLane l { u.lane l with
        err := BitVec.ofNat 32 (if (u.lane l).incAt = u.mono then (u.lane l).incs else 0), errSat := false }))
    ∧ (∀ (p : Fin 64) (pos : Fin 128), link (.linkCmdLoopbackStart r p pos) p pos 1)
    ∧ (∀ (p : Fin 64) (pos : Fin 128), link (.linkCmdLoopbackEnd r p pos) p pos 2)
    ∧ (∀ (n : Fin 17) (w : Word), s.WritesFreely r (K.CLK_LOOP n) w → exec (.clkLoopWrite r n w) s =
      ok ((u.setWord (K.CLK_LOOP n) (w &&& 0x7FFFFFFF)).restartLoops n (bit w 31) r.tick))

/-- Each row that writes one word (LANE_CTL, LANE_CMD, BOND_CTL, LINK_CMD, CLK_LOOP, TIME_SNAP, DUCT_CLAMP, DUCT_FAIL,
THERM_FAIL, SC_CAPTURE, FE_INFO, SAF_FAULT, INK_FIRST, CAN_RXSEL, ADC_URG, ARB_CTL, ARB_CMD, DMA_CMD, BLOT_CMD) is, in
every state, the same as a PAGE_SET request with the parameters page, offset, count 1 and the word, whatever that
request is answered. -/
def Obligations.OneWordRowsArePageSets : Prop :=
  ∀ (s : State) (r : Req),
    let same (c : Instr) (k : Nat) (w : Word) : Prop :=
      exec c s = exec (.pageSet r (be 2 (k / 256) ++ be 1 (k % 256) ++ be 1 1 ++ wordBytes w)) s
    let rearm : Word := 0x80000000
    (∀ w : Word, (∀ l : Fin 68, same (.laneCtlWrite r l w) (K.LANE_CTL l) w)
      ∧ (∀ n : Fin 17, same (.clkLoopWrite r n w) (K.CLK_LOOP n) w)
      ∧ same (.bondCtlWrite r w) K.BOND_CTL w ∧ same (.arbCtlWrite r w) K.ARB_CTL w
      ∧ same (.canRxselWrite r w) K.CAN_RXSEL w)
    ∧ (∀ l : Fin 68, same (.laneCmdBitSlip r l) K.LANE_CMD (at_ 1 8 ||| at_ l 0)
      ∧ same (.laneCmdClear r l) K.LANE_CMD (at_ 2 8 ||| at_ l 0))
    ∧ (∀ (p : Fin 64) (pos : Fin 128),
      same (.linkCmdLoopbackStart r p pos) K.LINK_CMD (at_ 1 24 ||| at_ pos 8 ||| at_ p 0)
      ∧ same (.linkCmdLoopbackEnd r p pos) K.LINK_CMD (at_ 2 24 ||| at_ pos 8 ||| at_ p 0))
    ∧ (∀ (adc : Fin 4) (ch : Fin 32), same (.adcUrg r adc ch) K.ADC_URG (at_ adc 8 ||| at_ ch 0))
    ∧ (∀ n : Fin 8, same (.arbCmdRevoke r n) K.ARB_CMD (at_ 1 4 ||| at_ n 0)
      ∧ same (.dmaStart r n) K.DMA_CMD (at_ 1 8 ||| at_ n 0) ∧ same (.dmaCancel r n) K.DMA_CMD (at_ 2 8 ||| at_ n 0))
    ∧ same (.blotCmdTrigger r) K.BLOT_CMD 1 ∧ same (.timeSnap r) K.TIME_SNAP 1
    ∧ same (.ductClampRearm r) K.DUCT_CLAMP rearm ∧ same (.ductFailRearm r) K.DUCT_FAIL rearm
    ∧ same (.thermFailRearm r) K.THERM_FAIL rearm ∧ same (.scCaptureRearm r) K.SC_CAPTURE rearm
    ∧ same (.feInfoRearm r) K.FE_INFO rearm ∧ same (.safFaultRearm r) K.SAF_FAULT rearm
    ∧ same (.inkFirstRearm r) K.INK_FIRST rearm

/-- Outside BOOT on a port with an address: a well-formed HELLO of a known key with a free session slot is answered
with message 2 and leaves one attempt for that slot, of that key, begun now, its role the lower of the one asked and
the key's, and no session and no register changes; with no free slot it is answered BUSY, of an unknown key AUTH_FAIL,
and a malformed one BAD_PARAM. There a FINISH that names no attempt of its port is counted in SYS_REJECT; one that
names one ends the slot's attempts: more than 5 s after the HELLO it is counted in SYS_REJECT, with another length
than 3,373 bytes answered BAD_PARAM, with an unknown key or signatures that do not verify AUTH_FAIL, and with both
signatures verified the slot holds an open session of the attempt's role, generation and key. In BOOT or on a port
without an address both leave the state as it was. HANDSHAKE_TIMEOUT drops the slot's attempts that are 5 s old or
older. RECORD_DISCARDED counts a protected record that does not open, or that opens with a sequence number out of turn
or while a reply is outstanding, and leaves the state as it was else. SESSION_IDLE_TIMEOUT closes the session exactly
where it is idle, and an executed SESSION_CLOSE is answered OK before the session closes; a session that closes is not
open. -/
def Obligations.SessionsOpenAndClose : Prop :=
  (∀ (s : State) (q : Peer) (t : Tick) (body : List Byte),
    let key : Word := BitVec.ofNat 32 (beAt body 4 4)
    let formed := body.length = 1256 ∧ beAt body 0 1 ≤ 2 ∧ beAt body 1 3 = 0
    (s.sys.mode ≠ .boot → s.portIp q.port ≠ 0 →
      (∀ k i, formed → s.findKey key = some k → s.freeSlot = some i →
        ∃ (v : State) (sid : Nat) (msg : List Byte), exec (.hello q body t) s = .next (v.sendHandshake q sid 2 msg)
          ∧ (∃ a : Attempt, v.cmd.attempts.filter (fun a => decide (a.slot = i)) = [a] ∧ a.keyId = key ∧ a.port = q.port
              ∧ a.role = min (beAt body 0 1) k.2 ∧ a.started = s.mono)
          ∧ v.cmd.sess = s.cmd.sess ∧ v.regs = s.regs)
      ∧ (∀ k, formed → s.findKey key = some k → s.freeSlot = none →
        exec (.hello q body t) s = .next (s.silent.alert q 0 stBusy key t))
      ∧ (formed → s.findKey key = none → exec (.hello q body t) s = .next (s.silent.alert q 0 stAuthFail key t))
      ∧ (¬ formed → exec (.hello q body t) s = .next (s.silent.alert q 0 stBadParam key t)))
    ∧ (s.sys.mode = .boot ∨ s.portIp q.port = 0 → exec (.hello q body t) s = .next s.silent))
  ∧ (∀ (s : State) (q : Peer) (t : Tick) (sid : BitVec 16) (body : List Byte),
    let find := s.cmd.attempts.find? fun a => decide (a.gen * 8 + a.slot = sid.toNat) && decide (a.port = (q.port : Nat))
    (s.sys.mode ≠ .boot → s.portIp q.port ≠ 0 →
      (∀ a, find = some a →
        let v : State := { s.silent with cmd := { s.cmd with
          attempts := s.cmd.attempts.filter fun b => decide (b.slot ≠ a.slot) } }
        let late := 500000 < s.mono - a.started
        (late → exec (.finish q sid body t) s = .next (v.sysReject t))
        ∧ (¬ late → body.length ≠ 3373 →
          exec (.finish q sid body t) s = .next (v.alert q sid.toNat stBadParam a.keyId t))
        ∧ (¬ late → body.length = 3373 → (∀ k, s.findKey a.keyId = some k → finishOk a k.1 body = false) →
          exec (.finish q sid body t) s = .next (v.alert q sid.toNat stAuthFail a.keyId t))
        ∧ (∀ k, ¬ late → body.length = 3373 → s.findKey a.keyId = some k → finishOk a k.1 body = true →
          ∃ u, exec (.finish q sid body t) s = .next u
            ∧ (u.sess a.slot).isOpen = true ∧ (u.sess a.slot).role = a.role ∧ (u.sess a.slot).gen = a.gen
            ∧ (u.sess a.slot).keyId = a.keyId ∧ u.regs = s.regs))
      ∧ (find = none → exec (.finish q sid body t) s = .next (s.silent.sysReject t)))
    ∧ (s.sys.mode = .boot ∨ s.portIp q.port = 0 → exec (.finish q sid body t) s = .next s.silent))
  ∧ (∀ (s : State) (slot : Fin 8) (t : Tick), exec (.handshakeTimeout slot t) s = .next { s.silent with cmd := { s.cmd with
      attempts := s.cmd.attempts.filter fun a => decide (a.slot ≠ slot) || decide (s.mono < a.started + 500000) } })
  ∧ (∀ (s : State) (q : Peer) (rec : List Byte) (t : Tick),
    (beAt rec 0 1 = 1 → beAt rec 1 1 = 2 →
      (s.openRecord rec = none → exec (.recordDiscarded ⟨q, rec⟩ t) s = .next (s.silent.sysReject t))
      ∧ (∀ r b, s.openRecord rec = some (r, b) →
        let x := s.sess (r.sid.toNat % 8)
        let odd := x.wait.isSome = true ∨ (x.nextSeq r.seq = false ∧ x.lastSeq ≠ some r.seq)
        (odd → exec (.recordDiscarded ⟨q, rec⟩ t) s =
          .next ((s.silent.takeRecord { r with peer := q, tick := t }).sysReject t))
        ∧ (¬ odd → exec (.recordDiscarded ⟨q, rec⟩ t) s = .next s.silent)))
    ∧ (beAt rec 0 1 ≠ 1 ∨ beAt rec 1 1 ≠ 2 → exec (.recordDiscarded ⟨q, rec⟩ t) s = .next s.silent))
  ∧ (∀ (s : State) (slot : Fin 8),
    (s.sessIdle slot = true → exec (.sessionIdleTimeout slot) s = .next (s.silent.closeSess slot))
    ∧ (s.sessIdle slot = false → exec (.sessionIdleTimeout slot) s = .next s.silent))
  ∧ (∀ (s : State) (r : Req), s.Accepts r 0 → exec (.sessionClose r []) s =
      .next (((s.begun r).reply (reqSlot r) 0x0002 r.seq stOk []).closeSess (reqSlot r)))
  ∧ (∀ (s : State) (i : Nat), ((s.closeSess i).sess i).isOpen = false)

/-- For an executed request of role CONTROL: TXN_BEGIN with no owner of the lock opens a transaction of the session
with its number, nothing staged and a lease of 1,000,000 cycles from the next boundary; while another session owns it,
it is refused LOCKED, and while the session does, NOT_IN_STATE. For the owner of an open transaction without a pending
commit: TXN_ABORT drops it; LOCK_RENEW gives it a new lease; PAGE_STAGE of RW words, or load-all masks, that are in
range and break no rule of their own puts them in place of earlier stagings while no more than 4,096 words are staged,
on a pair side without the token only of a page that is not replicated; TXN_COMMIT that names a boundary it may name
and whose checks all pass makes the commit pending at it, with the reply to come. At that boundary COMMIT_TAKES_EFFECT
puts all staged words in force, frees the lock and answers; before it, and with no commit pending, it leaves the state
as it was. LEASE_TIMEOUT drops a transaction without a pending commit whose lease has ended, with no register and no
cycle changed, and leaves any other, and a state without one, as it was. -/
def Obligations.TransactionsStageAndCommit : Prop :=
  (∀ (s : State) (r : Req), s.Accepts r 1 →
    let u := s.begun r
    let i := reqSlot r
    let lease := 1000000 + b2n (decide (0 < r.tick.val))
    (u.lockedOut i = false → u.owns i = false →
      let n := (u.cmd.txnCount + 1) % 65536
      let x : Txn :=
        { slot := i, gen := (u.sess i).gen, number := n, leaseEnd := u.mono + lease, staged := [], due := none,
          implicit := false }
      exec (.txnBegin r []) s = .next (({ u with cmd := { u.cmd with txn := some x, txnCount := n } }).reply i 0x0014
        r.seq stOk (be 2 n ++ be 2 100)))
    ∧ (u.lockedOut i = true →
      exec (.txnBegin r []) s = .next (u.reply i 0x0014 r.seq stLocked (u.detail (Refuse.at stLocked 0))))
    ∧ (u.owns i = true →
      exec (.txnBegin r []) s = .next (u.reply i 0x0014 r.seq stNotInState (u.detail (Refuse.at stNotInState 0))))
    ∧ (∀ x, u.cmd.txn = some x → u.owns i = true → x.due = none →
      exec (.txnAbort r []) s = .next (({ u with cmd := { u.cmd with txn := none } }).reply i 0x0016 r.seq stOk [])
      ∧ exec (.lockRenew r []) s =
          .next ((u.putTxn { x with leaseEnd := u.mono + lease }).reply i 0x0017 r.seq stOk (be 2 100))
      ∧ (∀ p ws,
        let page := beAt p 0 2
        let all := restage x.staged ((liveWords page ws).map fun q => (u.bindKey i page q.1, q.2.1))
        pageWordsOf p = some ws → pageExists page = true → u.follows = false ∨ page ∉ replicatedPages →
        (∀ q ∈ ws, (wordOk page q.1 q.2).2 = true ∧ u.wordBad i page q.1 q.2 = false ∧
          ∀ row, wordRow page q.1 = some row → row.acc = .rw ∨ (row.acc = .wo ∧ row.term = .commit)) →
        all.length ≤ 4096 →
        exec (.pageStage r p) s = .next ((u.putTxn { x with staged := all }).reply i 0x0012 r.seq stOk []))
      ∧ (∀ p due, p.length = 8 → beAt p 0 1 ≤ 1 → beAt p 1 1 = 0 → u.commitDue x.staged p r.tick = some due →
        u.commitBad x.staged = none → u.commitState x.staged = none → u.commitLock x.staged = none →
        let v := u.startCommit i { x with leaseEnd := x.leaseEnd - u.mono } due
        exec (.txnCommit r p) s = .next (v.setSess i { v.sess i with wait := some (0x0015, r.seq, .commit) }))))
  ∧ (∀ (s : State) (x : Txn), s.cmd.txn = some x →
    (∀ due, x.due = some due → due ≤ s.mono →
      let v := s.silent.commitWords x.staged x.slot (BitVec.ofNat 16 (x.gen * 8 + x.slot))
      exec .commitTakesEffect s = .next (({ v with cmd := { v.cmd with txn := none } }).replyTo x.slot .commit stOk
        (be 6 ((v.cycle.toNat - (v.mono - due)) % 2 ^ 48))))
    ∧ ((∀ due, x.due = some due → s.mono < due) → exec .commitTakesEffect s = .next s.silent)
    ∧ (x.due = none → x.leaseEnd ≤ s.mono → ∃ t, exec .leaseTimeout s = .next t ∧ t.cmd.txn = none ∧ t.regs = s.regs
        ∧ t.cycle = s.cycle)
    ∧ (x.due ≠ none ∨ s.mono < x.leaseEnd → exec .leaseTimeout s = .next s.silent))
  ∧ (∀ s : State, s.cmd.txn = none →
    exec .commitTakesEffect s = .next s.silent ∧ exec .leaseTimeout s = .next s.silent)

/-- An executed PAGE_GET of an existing page and a range inside it returns its parameters and the words as they read,
after the reading's side effects; PAGE_GET and PAGE_SET of a page that does not exist are refused with BAD_PAGE, and
of one that exists with parameters of another length or a range beyond it with BAD_PARAM. An executed PAGE_SET of
words that are not all commit words, TIME_SNAP not among them with its bit 0 set, refused by no rule, puts them in
turn, waits for the partner's acknowledgement where a record has come of it, and is answered OK; one of commit words,
refused by no rule, is a pending commit of one transaction at the earliest boundary, with the reply to come. Window
words within the window, refused by no rule, are written to the Inkwell's bytes from the session's base and answered
OK; no words, or words beyond the window, are refused with BAD_PARAM. -/
def Obligations.PagesAreReadAndWritten : Prop :=
  ∀ (s : State) (r : Req),
    let u := s.begun r
    let i := reqSlot r
    let noPage (op page : Nat) : Host.Outcome State Fault Refusal :=
      .next (u.reply i op r.seq stBadPage (u.detail { status := stBadPage, page := page, place := 0, check := 0 }))
    let bad (op : Nat) : Host.Outcome State Fault Refusal :=
      .next (u.reply i op r.seq stBadParam (u.detail (Refuse.at stBadParam 3)))
    (s.Accepts r 0 → ∀ p : List Byte,
      let page := beAt p 0 2
      let off := beAt p 2 1
      let n := if beAt p 3 1 = 0 then 256 else beAt p 3 1
      (pageExists page = true → p.length = 4 → off + n ≤ 256 → exec (.pageGet r p) s =
        .next ((u.readEffects i page off (off + n)).drawn.reply i 0x0010 r.seq stOk
          (p ++ (List.range n).flatMap fun o => wordBytes (u.readWord i page (off + o)))))
      ∧ (pageExists page = true → p.length ≠ 4 ∨ 256 < off + n → exec (.pageGet r p) s = bad 0x0010)
      ∧ (2 ≤ p.length → pageExists page = false → exec (.pageGet r p) s = noPage 0x0010 page))
    ∧ (s.Accepts r 1 → ∀ p : List Byte,
      let page := beAt p 0 2
      (2 ≤ p.length → pageExists page = false → exec (.pageSet r p) s = noPage 0x0011 page)
      ∧ (pageExists page = true → pageWordsOf p = none → exec (.pageSet r p) s = bad 0x0011)
      ∧ (∀ ws, pageExists page = true → pageWordsOf p = some ws →
        let live := liveWords page ws
        let staged := live.map fun q => (u.bindKey i page q.1, q.2.1)
        (live = [] ∨ (∃ q ∈ live, q.2.2.term ≠ .commit) → u.writeRefuse i page ws false staged = none →
          (∀ q ∈ live, key page q.1 = K.TIME_SNAP → bit q.2.1 0 = false) →
          let v := live.foldl (fun (v : State) (q : Nat × Word × WordRow) => v.putWord i page q.1 q.2.1 q.2.2 r.tick)
            (u.putWindow i (ws.filter fun q => decide (page = 13 ∧ 0xC0 ≤ q.1)))
          let v := if v.pairOps.recSeq = u.pairOps.recSeq then v else v.awaitAck i
          exec (.pageSet r p) s = .next (v.reply i 0x0011 r.seq stOk []))
        ∧ (live ≠ [] → (∀ q ∈ live, q.2.2.term = .commit) → u.writeRefuse i page ws true staged = none →
          let x : Txn :=
            { slot := i, gen := (u.sess i).gen, number := u.cmd.txnCount, leaseEnd := 1000000, staged := staged,
              due := none, implicit := true }
          let v := u.startCommit i x (u.earliest staged r.tick)
          exec (.pageSet r p) s = .next (v.setSess i { v.sess i with wait := some (0x0011, r.seq, .commit) }))))
    ∧ (s.Accepts r 1 → ∀ (k : Fin 64) (ws : List Word),
      let words := (List.range ws.length).map fun n => (0xC0 + (k : Nat) + n, (ws[n]?).getD 0)
      (ws ≠ [] → (k : Nat) + ws.length ≤ 64 →
        u.writeRefuse i 13 words false ((liveWords 13 words).map fun q => (u.bindKey i 13 q.1, q.2.1)) = none →
        exec (.inkWinWrite r k ws) s = .next ((u.putWindow i words).reply i 0x0011 r.seq stOk []))
      ∧ (ws = [] ∨ 64 < (k : Nat) + ws.length → exec (.inkWinWrite r k ws) s = bad 0x0011))

/-- An executed PING of at most 64 bytes returns station time, the state's code and the bytes, a longer one BAD_PARAM;
MODE_GET returns SYS_STATE, the last change and the blocked stacks. Outside a pair side without the token: MODE_SET to
the present state is answered OK; to another that the rules admit, with no commit and no request pending, it waits for
the next boundary, in a pair for the second, and a holder sends its record; to one that they do not admit it is
refused NOT_IN_STATE. FAULT_RESET of a valid scope, index and instance waits likewise. A pair side without the token
refuses both with NOT_IN_STATE. At a boundary an automatic transition takes its state and its reason, with the present
state as PREV; a request that is due is then answered NOT_IN_STATE where an automatic transition has happened or the
rules no longer admit it, and else enters its state and is answered; one that is not due waits on. FAULT_RESET_APPLY
leaves no due entry waiting and changes no register and no cycle. -/
def Obligations.ModesAreSetReadAndReset : Prop :=
  (∀ (s : State) (r : Req),
    let u := s.begun r
    let i := reqSlot r
    let due := u.mono + (if u.pairSide then 2 else 1)
    let stop (op st : Nat) (place : Nat) : Host.Outcome State Fault Refusal :=
      .next (u.reply i op r.seq st (u.detail (Refuse.at st place)))
    let later (op : Nat) (w : Wait) (v : State) : Host.Outcome State Fault Refusal :=
      .next (v.setSess i { v.sess i with wait := some (op, r.seq, w) })
    (s.Accepts r 0 →
      (∀ p : List Byte,
        (p.length ≤ 64 →
          let x := u.stationTime r.tick
          exec (.ping r p) s = .next (u.reply i 0x0003 r.seq stOk
            (be 8 x.1 ++ be 4 x.2.1 ++ be 2 x.2.2 ++ be 1 (modCode u.sys.mode) ++ [0] ++ p)))
        ∧ (64 < p.length → exec (.ping r p) s = stop 0x0003 stBadParam 64))
      ∧ exec (.modeGet r []) s = .next (u.reply i 0x0021 r.seq stOk
          (wordBytes u.sysState ++ wordBytes u.sys.lastChg ++ be 4 u.blocked)))
    ∧ (s.Accepts r 1 →
      (∀ p dst, p.length = 4 → beAt p 1 1 = 0 → modOfCode (beAt p 0 1) = some dst →
        let mask := u.preMask (beAt p 2 2)
        (u.follows = true → exec (.modeSet r p) s = stop 0x0020 stNotInState 0)
        ∧ (u.follows = false →
          (dst = u.sys.mode → exec (.modeSet r p) s = .next (u.reply i 0x0020 r.seq stOk []))
          ∧ (dst ≠ u.sys.mode → u.mayMode dst mask = false → exec (.modeSet r p) s = stop 0x0020 stNotInState 0)
          ∧ (dst ≠ u.sys.mode → u.mayMode dst mask = true → u.commitPending = false → u.sys.modeReq = none →
            let v : State := { u with sys := { u.sys with
              modeReq := some { target := dst, mask := mask, due := due, slot := i } } }
            exec (.modeSet r p) s = later 0x0020 .mode (if u.leads then
              (v.sendRecord rkMode i 0 (modCode dst) due (BitVec.ofNat 32 mask)).awaitAck i else v))))
      ∧ (∀ p : List Byte,
        let scope := beAt p 0 1
        let index := beAt p 1 2
        let inst := beAt p 3 2
        p.length = 5 → scope ≤ 3 → (scope = 1 → index < 16) → (scope = 2 → index < 3072) → (scope ≠ 3 → inst = 0) →
        (u.follows = true → exec (.faultReset r p) s = stop 0x0061 stNotInState 0)
        ∧ (u.follows = false →
          let v : State := { u with evt := { u.evt with resets := u.evt.resets ++ [(scope, index, inst, due, i)] } }
          exec (.faultReset r p) s = later 0x0061 .reset (if u.leads then
            (v.sendRecord rkReset i index scope due (BitVec.ofNat 32 inst)).awaitAck i else v)))))
  ∧ (∀ s : State,
    let v : State := match s.autoTarget with
      | some a => s.silent.setMode a.1 a.2
      | none => { s.silent with sys := { s.sys with
          blockReq := s.sys.blockReq && decide (s.sys.mode = ModState.boot) } }
    let w : State := { v with sys := { v.sys with modeReq := none } }
    (∀ a, s.autoTarget = some a → v.sys.mode = a.1 ∧ v.sys.reason = a.2 ∧ v.sys.prev = s.sys.mode)
    ∧ (v.sys.modeReq = none → exec .modeTransition s = .next v)
    ∧ (∀ q, v.sys.modeReq = some q →
      (v.mono < q.due → exec .modeTransition s = .next v)
      ∧ (q.due ≤ v.mono → s.autoTarget ≠ none ∨ w.mayMode q.target q.mask = false → exec .modeTransition s =
        .next (w.replyTo q.slot .mode stNotInState (w.detail (Refuse.at stNotInState 0))))
      ∧ (q.due ≤ v.mono → s.autoTarget = none → w.mayMode q.target q.mask = true → exec .modeTransition s =
        .next ((w.enterMode q.target q.mask).modeReply q)))
    ∧ ∃ t, exec .faultResetApply s = .next t ∧ (∀ x ∈ t.evt.resets, s.mono < x.2.2.2.1) ∧ t.cycle = s.cycle
        ∧ t.regs = s.regs)

/-- For an executed request of role CONTROL, outside a pair side without the token: CELL_ENUMERATE of the whole module
or of a configured string's port, with none running, starts an operation and is ACCEPTED with its number; CELL_ADMIT
of a FOUND cell with no admission under way or asked for, in STANDBY, CHARGING, READY or RUN, with less than 64
running, likewise; CELL_RETIRE outside CONFIG of a RETIRED cell is answered OK with nothing changed, of a DISABLED,
MISSING or BYPASSED one refused NOT_IN_STATE, and of any other it retires the cell and is answered OK; CELL_BYPASS
with the identity last seen of a BYPASSED cell is answered OK with nothing changed, of a DISABLED or MISSING one
refused NOT_IN_STATE, and of any other it commands the bypass and is answered OK. In the holder of a pair the effect
is a record due two cycles on, and the reply waits for the partner's acknowledgement where the partner is ready. A
pair side without the token refuses all four with NOT_IN_STATE. -/
def Obligations.CellCommandsStartTheirWork : Prop :=
  ∀ (s : State) (r : Req), s.Accepts r 1 →
    let u := s.begun r
    let i := reqSlot r
    let stop (op : Nat) : Host.Outcome State Fault Refusal :=
      .next (u.reply i op r.seq stNotInState (u.detail (Refuse.at stNotInState 0)))
    let ok (op : Nat) (v : State) : Host.Outcome State Fault Refusal := .next (v.reply i op r.seq stOk [])
    let copied (v : State) (kind page : Nat) (value : Nat) : State :=
      (v.addRecord kind 0 page 0 (v.mono + 2) (BitVec.ofNat 32 value)).awaitAck i
    (∀ scope port : Byte,
      scope.toNat = 0 ∨ (scope.toNat = 1 ∧ port.toNat < 64 ∧ u.configured port.toNat = true
        ∧ u.basePort port.toNat = port.toNat) →
      let total := ((u.enumScope scope.toNat port.toNat).flatMap u.enumCells).length
      let v := u.opStart 0x30 1 total port.toNat
      let n := v.cmd.lastOp
      (u.follows = true → exec (.cellEnumerate r [scope, port]) s = stop 0x0030)
      ∧ (u.follows = false → u.opsRunning 0x30 = [] → exec (.cellEnumerate r [scope, port]) s =
        .next ((if v.leads then copied v rkEnum n (scope.toNat * 256 + port.toNat)
          else v.enumerate n scope.toNat port.toNat).reply i 0x0030 r.seq stAccepted (be 2 n))))
    ∧ (∀ p : List Byte, p.length = 2 → beAt p 0 2 < 3072 →
      let ci := beAt p 0 2
      let v := u.opStart 0x31 1 6 ci
      let n := v.cmd.lastOp
      (u.follows = true → exec (.cellAdmit r p) s = stop 0x0031 ∧ exec (.cellRetire r p) s = stop 0x0032)
      ∧ (u.follows = false →
        (u.svc ci = .found → (u.mg ci).step = 0 → (∀ o ∈ u.opsRunning 0x31, o.arg ≠ ci) →
          (u.opsRunning 0x31).length < 64 →
          u.sys.mode = .standby ∨ u.sys.mode = .charging ∨ u.sys.mode = .ready ∨ u.sys.mode = .run →
          exec (.cellAdmit r p) s = .next ((if v.leads then copied v rkAdmit n ci else v.startAdmit ci n).reply i 0x0031
            r.seq stAccepted (be 2 n)))
        ∧ (u.sys.mode = .config → exec (.cellRetire r p) s = stop 0x0032)
        ∧ (u.sys.mode ≠ .config →
          (u.svc ci = .retired → exec (.cellRetire r p) s = ok 0x0032 u)
          ∧ (u.svc ci = .disabled ∨ u.svc ci = .missing ∨ u.svc ci = .bypassed → exec (.cellRetire r p) s = stop 0x0032)
          ∧ (u.svc ci = .inserted ∨ u.svc ci = .charging ∨ u.svc ci = .found ∨ u.svc ci = .faulted →
            exec (.cellRetire r p) s = ok 0x0032 (if u.leads then copied u rkRetire 0 ci else u.retire ci)))))
    ∧ (∀ p : List Byte, p.length = 8 → beAt p 0 2 < 3072 → beAt p 2 2 = 0 →
      beAt p 4 4 = (u.cell (beAt p 0 2)).seen.toNat →
      let ci := beAt p 0 2
      (u.follows = true → exec (.cellBypass r p) s = stop 0x0033)
      ∧ (u.follows = false →
        (u.svc ci = .bypassed → exec (.cellBypass r p) s = ok 0x0033 u)
        ∧ (u.svc ci = .disabled ∨ u.svc ci = .missing → exec (.cellBypass r p) s = stop 0x0033)
        ∧ (u.svc ci = .inserted ∨ u.svc ci = .charging ∨ u.svc ci = .found ∨ u.svc ci = .faulted ∨ u.svc ci = .retired →
          exec (.cellBypass r p) s = ok 0x0033 (if u.leads then copied u rkBypass 0 ci else u.commandBypass ci))))

/-- For an executed request of role CONTROL, outside a pair side without the token: LOOP_OPEN of an enabled slot with
a finite value opens it, held at the value where MODE is 1; LOOP_CLOSE of an open slot that may close closes it, of a
closed one changes nothing, of any other is refused BAD_PARAM; LOOP_COEFF_SET with valid values is applied to an open
slot that is not suspended, and refused LOOP_CLOSED for one that is closed or suspended. In the holder of a pair the
effect is a record, or one for each coefficient, due two cycles on, and the reply waits for the partner's
acknowledgement where the partner is ready. A pair side without the token refuses such requests with NOT_IN_STATE.
PAIR_STATUS returns words 3 to 6 of the pair page. On a holder PAIR_HANDOVER to its own side is answered OK with
nothing changed; to the other, with the partner ready, it sets the handover's cycle, unless one is set, and returns
its low 16 bits, and with the partner not ready it is refused NOT_IN_STATE, as on any other module. -/
def Obligations.LoopAndPairCommandsAnswer : Prop :=
  ∀ (s : State) (r : Req),
    let u := s.begun r
    let i := reqSlot r
    let stop (op st place : Nat) : Host.Outcome State Fault Refusal :=
      .next (u.reply i op r.seq st (u.detail (Refuse.at st place)))
    let ok (op : Nat) (v : State) : Host.Outcome State Fault Refusal := .next (v.reply i op r.seq stOk [])
    let rec_ (v : State) (kind n off : Nat) (value : Word) : State := v.addRecord kind n 0 off (v.mono + 2) value
    (s.Accepts r 1 →
      (∀ p : List Byte, p.length = 6 → u.slotEn (beAt p 0 1) = true → beAt p 1 1 ≤ 1 →
        let n := beAt p 0 1
        let v : Word := BitVec.ofNat 32 (beAt p 2 4)
        fFinite v = true →
        (u.follows = true → exec (.loopOpen r p) s = stop 0x0040 stNotInState 0)
        ∧ (u.leads = true → exec (.loopOpen r p) s = ok 0x0040 ((rec_ u rkOpen n (beAt p 1 1) v).awaitAck i))
        ∧ (u.pairSide = false → exec (.loopOpen r p) s =
          ok 0x0040 (u.openSlot n (if beAt p 1 1 = 1 then some v else none))))
      ∧ (∀ b : Byte,
        let n := b.toNat
        ((u.slot n).closed = false → u.mayClose n = false → exec (.loopClose r [b]) s = stop 0x0041 stBadParam 0)
        ∧ ((u.slot n).closed = true ∨ u.mayClose n = true → u.follows = true →
          exec (.loopClose r [b]) s = stop 0x0041 stNotInState 0)
        ∧ ((u.slot n).closed = true → u.follows = false → exec (.loopClose r [b]) s = ok 0x0041 u)
        ∧ ((u.slot n).closed = false → u.mayClose n = true → u.leads = true →
          exec (.loopClose r [b]) s = ok 0x0041 ((rec_ u rkClose n 0 0).awaitAck i))
        ∧ ((u.slot n).closed = false → u.mayClose n = true → u.pairSide = false →
          exec (.loopClose r [b]) s = ok 0x0041 (u.closeSlot n)))
      ∧ (∀ p : List Byte,
        let n := beAt p 0 1
        let f := beAt p 1 1
        let c := beAt p 2 1
        let vs := bytesWords c (p.drop 4)
        let free := (u.slot n).closed = false ∧ (u.slot n).susp = false
        p.length = 4 + 4 * c → c ≠ 0 → f + c ≤ 16 → beAt p 3 1 = 0 →
        (∀ k, k < c → coeffOk (f + k) ((vs[k]?).getD 0) = true) →
        (u.follows = true → exec (.loopCoeffSet r p) s = stop 0x0042 stNotInState 0)
        ∧ (u.follows = false → ¬ free → exec (.loopCoeffSet r p) s = .next (u.reply i 0x0042 r.seq stLoopClosed
          (u.detail { status := stLoopClosed, page := 0xFFFF, place := 0, check := 0 })))
        ∧ (u.leads = true → free → exec (.loopCoeffSet r p) s = ok 0x0042 (((List.range c).foldl
          (fun (v : State) (k : Nat) => rec_ v rkCoeff n (f + k) ((vs[k]?).getD 0)) u).awaitAck i))
        ∧ (u.pairSide = false → free → exec (.loopCoeffSet r p) s = ok 0x0042 (u.setCoeffs n f vs))))
    ∧ (s.Accepts r 0 → exec (.pairStatus r []) s = .next (u.reply i 0x0090 r.seq stOk
        ([3, 4, 5, 6].flatMap fun o => wordBytes (u.readWord i 11 o))))
    ∧ (s.Accepts r 1 → ∀ d : Byte, d.toNat ≤ 1 →
      (u.leads = false → exec (.pairHandover r [d]) s = stop 0x0091 stNotInState 0)
      ∧ (u.leads = true →
        (d.toNat = b2n u.sideB → exec (.pairHandover r [d]) s = ok 0x0091 u)
        ∧ (d.toNat ≠ b2n u.sideB → u.pair.pReady = false → exec (.pairHandover r [d]) s = stop 0x0091 stNotInState 0)
        ∧ (d.toNat ≠ b2n u.sideB → u.pair.pReady = true →
          let h := u.pairOps.handover.getD (u.handoverAt r.tick)
          exec (.pairHandover r [d]) s =
            .next (({ u with pairOps := { u.pairOps with handover := some h, isReversion := false } }).reply i 0x0091
              r.seq stOk (be 2 ((u.cycle.toNat + (h - u.mono)) % 65536))))))

/-- An executed OP_STATUS of a known operation returns its record, of an unknown one BAD_PARAM. OP_CANCEL of one that
has ended changes nothing, of a running one that may be cancelled cancels it, of one that may not is refused
NOT_IN_STATE. While no readout runs TRACE_ARM 0 makes a running capture captured and any other idle, and TRACE_ARM 1
starts an idle or captured one filling, with its past rows forgotten, and leaves a running one as it is; while one
runs it is refused NOT_IN_STATE. TRACE_READ with OPID 0 of a captured trace, none of the session running, starts a
readout, ACCEPTED with its number and total; with the OPID of the session's running readout it returns up to 1,024
bytes from the offset, notes what has been read, and ends the operation when all has been. EVENTS_READ past the newest
record returns no record; else it returns the records from the first at or after the sequence number that follow
without a gap, up to the number asked, with the next sequence number and LOST where the first is a later one.
CHUNK_TIMEOUT ends a running upload or readout without a chunk for 30 s with BUSY, and leaves the state as it was for
any other operation, a burn under way among them. -/
def Obligations.OperationsAndReadoutsAnswer : Prop :=
  (∀ (s : State) (r : Req),
    let u := s.begun r
    let i := reqSlot r
    let stop (op st : Nat) : Host.Outcome State Fault Refusal :=
      .next (u.reply i op r.seq st (u.detail (Refuse.at st 0)))
    (s.Accepts r 0 →
      (∀ p : List Byte, p.length = 2 →
        (∀ o, u.opRec (beAt p 0 2) = some o → exec (.opStatus r p) s = .next (u.reply i 0x0070 r.seq stOk (u.opBytes o)))
        ∧ (u.opRec (beAt p 0 2) = none → exec (.opStatus r p) s = stop 0x0070 stBadParam))
      ∧ (∀ p : List Byte, p.length = 6 → beAt p 0 2 = 0 → u.ink.blot.st = 4 →
        (u.opsRunning 0x51).any (fun o => decide (o.arg = (u.sidOf i).toNat)) = false →
        let v := u.opStart 0x51 1 u.traceTotal (u.sidOf i).toNat
        exec (.traceRead r p) s = .next (v.reply i 0x0051 r.seq stAccepted (be 2 v.cmd.lastOp ++ be 4 v.traceTotal)))
      ∧ (∀ p o, p.length = 6 → beAt p 0 2 ≠ 0 → u.opRec (beAt p 0 2) = some o → o.opcode = 0x51 → o.state = 0 →
        o.arg = (u.sidOf i).toNat →
        let off := beAt p 2 4
        let data := u.traceBytes off 1024
        let got := if data = [] then o.done else min o.total (max o.done (off + data.length))
        let v := u.opUpd (beAt p 0 2) fun x => { x with done := got, last := u.mono }
        exec (.traceRead r p) s =
          .next ((if got = o.total then v.opEnd (beAt p 0 2) 1 0 else v).reply i 0x0051 r.seq stOk data))
      ∧ (∀ p : List Byte, p.length = 5 → 1 ≤ beAt p 4 1 → beAt p 4 1 ≤ 42 →
        let from_ : Word := BitVec.ofNat 32 (beAt p 0 4)
        let l := u.allEvents.dropWhile fun e => decide (2 ^ 31 ≤ (e.seq - from_).toNat)
        (l = [] → exec (.eventsRead r p) s = .next (u.reply i 0x0060 r.seq stOk (wordBytes from_ ++ [0, 0, 0, 0])))
        ∧ (∀ e es, l = e :: es →
          let got := (contiguous e.seq l).take (beAt p 4 1)
          let lost := decide (e.seq ≠ from_ ∧ ¬ (from_ = 0 ∧ e.seq = 1))
          exec (.eventsRead r p) s = .next (u.reply i 0x0060 r.seq stOk (wordBytes (e.seq + BitVec.ofNat 32 got.length)
            ++ be 1 got.length ++ be 1 (b2n lost) ++ [0, 0] ++ got.flatMap EvEntry.bytes)))))
    ∧ (s.Accepts r 1 →
      (∀ p o, p.length = 2 → u.opRec (beAt p 0 2) = some o →
        (o.state ≠ 0 → exec (.opCancel r p) s = .next (u.reply i 0x0071 r.seq stOk []))
        ∧ (∀ v, o.state = 0 → u.cancelOp o = some v → exec (.opCancel r p) s = .next (v.reply i 0x0071 r.seq stOk []))
        ∧ (o.state = 0 → u.cancelOp o = none → exec (.opCancel r p) s = stop 0x0071 stNotInState))
      ∧ (u.readoutRuns = true →
        exec (.traceArm r [0]) s = stop 0x0050 stNotInState ∧ exec (.traceArm r [1]) s = stop 0x0050 stNotInState)
      ∧ (u.readoutRuns = false →
        let b := u.ink.blot
        let running := b.st = 1 ∨ b.st = 2 ∨ b.st = 3
        (running → exec (.traceArm r [0]) s =
          .next (({ u with ink := { u.ink with blot := { b with st := 4 } } }).reply i 0x0050 r.seq stOk []))
        ∧ (¬ running → exec (.traceArm r [0]) s =
          .next (({ u with ink := { u.ink with blot := { b with st := 0 } } }).reply i 0x0050 r.seq stOk []))
        ∧ (running → exec (.traceArm r [1]) s = .next (u.reply i 0x0050 r.seq stOk []))
        ∧ (¬ running → exec (.traceArm r [1]) s = .next ((State.blotState { u with ink := { u.ink with
            blot := { b with st := 1, total := 0, trig := none, prev := none, fifo := [], lostRows := [] } } }).reply i
            0x0050 r.seq stOk [])))))
  ∧ (∀ (s : State) (op : BitVec 16),
    (∀ o : OpRec, s.opRec op.toNat = some o →
      let waits := o.state = 0 ∧ o.opcode ∈ [0x80, 0x83, 0x51] ∧ ¬ (o.opcode = 0x83 ∧ s.boot.burn ≠ none)
      (waits → o.last + 3000000 ≤ s.mono →
        exec (.chunkTimeout op) s = .next ((s.silent.dropImage o).opEnd o.id 2 stBusy))
      ∧ (¬ waits ∨ s.mono < o.last + 3000000 → exec (.chunkTimeout op) s = .next s.silent))
    ∧ (s.opRec op.toNat = none → exec (.chunkTimeout op) s = .next s.silent))

/-- An executed FW_LOAD or OTP_BURN of role MAINT answers a state in which no register, no lane and no cycle has
changed. A well-formed first chunk of FW_LOAD with no load running whose image type is neither 1 nor 2 starts an
operation that ends at once with BAD_PARAM, and is ACCEPTED; a well-formed first chunk of OTP_BURN outside CONFIG and
SERVICE is refused NOT_IN_STATE. FW_ACTIVATE of a slot's valid image in CONFIG, STANDBY or SERVICE with no load and no
burn running restarts the module into BOOT, powered and with LIVE low, with the slot as the preferred one unless it is
the running one; a pair side that claims the token first gives it up, and the restart waits for that. Outside those
states or with no valid image it is refused NOT_IN_STATE. ATTEST from offset 0 keeps the report of its nonce and
returns its length and first 1,024 bytes; from a later offset with the nonce kept it returns the length and the 1,024
bytes from there. JOURNAL_READ inside a region returns its length and bytes. A burn whose words all read back seals
its generation, with its own number and layout valid, and is over; one that differs is over with the generation as it
was; neither changes a register. With no burn under way OTP_BURN_PROGRAM leaves the state as it was. -/
def Obligations.FirmwareTrustAndJournalCommands : Prop :=
  (∀ (s : State) (r : Req),
    let u := s.begun r
    let i := reqSlot r
    (s.Accepts r 2 →
      (∀ p : List Byte,
        (∃ t, exec (.fwLoad r p) s = .next t ∧ t.regs = s.regs ∧ t.cycle = s.cycle ∧ t.lanes = s.lanes)
        ∧ (∃ t, exec (.otpBurn r p) s = .next t ∧ t.regs = s.regs ∧ t.cycle = s.cycle ∧ t.lanes = s.lanes))
      ∧ (∀ p : List Byte, 26 ≤ p.length → p.length ≤ 1034 → beAt p 0 2 = 0 → beAt p 2 4 = 0 → p.length ≤ 10 + beAt p 6 4 →
        beAt p 6 4 ≤ 16777216 → u.opsRunning 0x80 = [] → beAt (p.drop 10) 4 1 ≠ 1 → beAt (p.drop 10) 4 1 ≠ 2 →
        let v := u.opStart 0x80 1 (beAt p 6 4) 0
        exec (.fwLoad r p) s =
          .next ((v.opEnd v.cmd.lastOp 2 stBadParam).reply i 0x0080 r.seq stAccepted (be 2 v.cmd.lastOp)))
      ∧ (∀ p : List Byte, 10 ≤ p.length → p.length ≤ 1034 → beAt p 0 2 = 0 → beAt p 2 4 = 0 → p.length ≤ 10 + beAt p 6 4 →
        u.sys.mode ≠ .config → u.sys.mode ≠ .service → exec (.otpBurn r p) s =
        .next (u.reply i 0x0083 r.seq stNotInState (u.detail (Refuse.at stNotInState 0))))
      ∧ (∀ k : Byte, k.toNat ≤ 1 →
        let may := u.sys.mode = .config ∨ u.sys.mode = .standby ∨ u.sys.mode = .service
        let pref := if k.toNat = u.boot.run then u.boot.pref else k.toNat
        (may → u.slotValidFw k.toNat = true → u.opsRunning 0x80 = [] → u.opsRunning 0x83 = [] →
          (s.pairSide = false ∨ s.pair.tokOut = false → ∃ t, exec (.fwActivate r [k]) s = .next t
            ∧ t.sys.mode = .boot ∧ t.sys.powered = true ∧ t.sys.live = false ∧ t.boot.pref = pref)
          ∧ (s.pairSide = true → s.pair.tokOut = true → ∃ t, exec (.fwActivate r [k]) s = .next t
            ∧ t.cmd.restartDue = true ∧ t.boot.pref = pref))
        ∧ (¬ may ∨ u.slotValidFw k.toNat = false → exec (.fwActivate r [k]) s =
          .next (u.reply i 0x0081 r.seq stNotInState (u.detail (Refuse.at stNotInState 0))))))
    ∧ (s.Accepts r 0 →
      (∀ p : List Byte, p.length = 36 →
        (beAt p 32 4 = 0 →
          let rep := u.attestReport (p.take 32) r.tick
          exec (.attest r p) s =
            .next (({ u with cmd := { u.cmd with attNonce := p.take 32, attReport := rep } }).reply i 0x0082 r.seq stOk
              (be 4 rep.length ++ rep.take 1024)))
        ∧ (beAt p 32 4 ≠ 0 → u.cmd.attReport ≠ [] → u.cmd.attNonce = p.take 32 → exec (.attest r p) s =
          .next (u.reply i 0x0082 r.seq stOk
            (be 4 u.cmd.attReport.length ++ (u.cmd.attReport.drop (beAt p 32 4)).take 1024))))
      ∧ (∀ p : List Byte, p.length = 10 → beAt p 0 1 ≤ 8 → beAt p 1 3 = 0 → 1 ≤ beAt p 8 2 → beAt p 8 2 ≤ 1024 →
        beAt p 4 4 + beAt p 8 2 ≤ regionLen (beAt p 0 1) → exec (.journalRead r p) s =
          .next (u.reply i 0x0084 r.seq stOk (be 4 (regionLen (beAt p 0 1))
            ++ (List.range (beAt p 8 2)).map fun k => u.journalByte (beAt p 0 1) (beAt p 4 4 + k))))))
  ∧ (∀ (s : State) (g id : Nat), s.boot.burn = some (g, id) →
    (∃ t, exec (.otpBurnProgram true) s = .next t ∧ t.boot.burn = none ∧ t.regs = s.regs
      ∧ (t.gen g).content = (s.gen g).content ∧ (t.gen g).sealWord = sealOf g
      ∧ (beAt (s.gen g).content 0 1 = g → beAt (s.gen g).content 1 1 = 1 → (t.gen g).valid g = true))
    ∧ (∃ t, exec (.otpBurnProgram false) s = .next t ∧ t.boot.burn = none ∧ t.gen g = s.gen g ∧ t.regs = s.regs))
  ∧ (∀ (s : State) (ok : Bool), s.boot.burn = none → exec (.otpBurnProgram ok) s = .next s.silent)

/-- The end of a source's quiet period leaves the state as it was where the source has no active event, may not
recover by itself or has not been quiet for its quiet period. Else its count is that of its counting window, which
begins afresh, at 0 and now, where none is under way or its length has passed: below FLT_CTL.LIMIT the count rises by
one, each of the source's events ends with kind 4, and a cell recovers; at the limit the source is locked and
SOURCE_LOCKOUT raised. Outside RUN, or for a stack that is not forced off, that is blocked or that a request of this
cycle blocks, or on a pair side that is not the holder or whose lane path is up without a frame of the cycle before
that shows the stack unblocked, a release leaves the state as it was; else the stack alone is released, its /CLR/ is
due the module's delay later, and its release is shown to the partner. At CLR_SEND nothing that was due stays due, and
a side in role OUT sends nothing. -/
def Obligations.RecoveryCountsLocksAndReleases : Prop :=
  ∀ s : State,
    (∀ src : Fin 3088,
      let r0 := s.recOf src
      let window := W.FLT_CTL_WINDOW (s.word K.FLT_CTL) * 6000000
      let r := if r0.count = 0 ∨ window ≤ (s.cycle - r0.wstart).toNat then { r0 with count := 0, wstart := s.cycle } else r0
      (s.sourceEvents src = [] ∨ s.autoAllowed src = false ∨ s.quietOver src = false → exec (.quietPeriodEnd src) s = .next s.silent)
      ∧ (s.sourceEvents src ≠ [] → s.autoAllowed src = true → s.quietOver src = true →
        (W.FLT_CTL_LIMIT (s.word K.FLT_CTL) ≤ r.count → exec (.quietPeriodEnd src) s =
          .next ((s.silent.setRec src { r with locked := true }).raise 0x0905 src 0 0))
        ∧ (r.count < W.FLT_CTL_LIMIT (s.word K.FLT_CTL) →
          let v := (s.sourceEvents src).foldl (fun (s : State) (e : ActEv) => s.endEvent e 4)
            (s.silent.setRec src { r with count := r.count + 1 })
          exec (.quietPeriodEnd src) s = .next (if (src : Nat) < 3072 then v.recoverCell src else v))))
    ∧ (∀ k : Fin 16,
      let seen := s.shadow.rxCycle = (s.cycle - 1).setWidth 48 ∧ s.shadow.pBlocked.testBit k = false
      let waits := s.pairSide = true ∧ (s.pair.role ≠ .holder ∨ s.pair.lane = true ∧ ¬ seen)
      let held := s.blocked.testBit k = true ∨ Tab.get (fun _ => 0) s.evt.blkReq k = s.mono
      (s.sys.mode ≠ .run ∨ s.evt.forced.testBit k = false ∨ held ∨ waits → exec (.stackRelease k) s = .next s.silent)
      ∧ (s.sys.mode = .run → s.evt.forced.testBit k = true → ¬ held → ¬ waits →
        ∃ t, exec (.stackRelease k) s = .next t ∧ t.evt.forced.testBit k = false
          ∧ Tab.get (fun _ => 0) t.evt.clrDue k = s.mono + s.clrDelay ∧ t.shadow.release.testBit k = true
          ∧ t.regs = s.regs ∧ t.cells = s.cells ∧ t.nibs = s.nibs
          ∧ (∀ j : Nat, j < 16 → j ≠ k → t.evt.forced.testBit j = s.evt.forced.testBit j)))
    ∧ (∃ t, exec .clrSend s = .next t ∧ (∀ d ∈ t.evt.clrDue, s.mono < d.2) ∧ t.regs = s.regs ∧ t.cells = s.cells
        ∧ (s.pair.role = .out → t.out = [] ∧ t.lanes = s.lanes))

/-- EVENT_QUEUE_COPY puts the entries not yet copied at the end of the log, of which the newest 65,536 stay, and
leaves none to copy; where entries were lost since it last looked it notes the number lost and raises QUEUE_LOST. A
journal write that reads back in one of its two attempts leaves the state as it was; one that fails in both counts in
JRNL_ERR, loses the newest record where its region is the event log, and raises JRNL_WRITE_FAIL with its region, with
COUNTER_SAT where the count saturates. In a powered module a lifetime second counts one second of operation, one of
RUN in RUN, and one in the band of the baseplate's temperature, and keeps the last cycle; without power it leaves the
state as it was. That a failed event record leaves the log is the model's choice (DESIGN CHOICE, log entry 16). -/
def Obligations.TheJournalKeepsEventsAndLifetime : Prop :=
  ∀ s : State,
    (let log := keepLast 65536 (s.jrnl.events ++ keepLast s.evt.uncopied s.evt.queue)
      let u : State := { s.silent with jrnl := { s.jrnl with events := log }, evt := { s.evt with uncopied := 0 } }
      (s.evt.lost = s.evt.lostSeen → exec .eventQueueCopy s = .next u)
      ∧ (s.evt.lost ≠ s.evt.lostSeen → exec .eventQueueCopy s =
          .next (({ u with evt := { u.evt with lostSeen := s.evt.lost } }).raise 0x0906 0 0 0)))
    ∧ (∀ (region : Fin 9) (ok1 ok2 : Bool),
      let c := satInc s.jrnl.err s.jrnl.errSat
      let log := if (region : Nat) = 0 then s.jrnl.events.dropLast else s.jrnl.events
      let v := { s.silent with jrnl := { s.jrnl with err := c.1, errSat := c.2.1, events := log } }
      (ok1 = true ∨ ok2 = true → exec (.journalWrite region ok1 ok2) s = .next s.silent)
      ∧ (ok1 = false → ok2 = false → exec (.journalWrite region ok1 ok2) s =
          .next ((v.raise 0x0F0B 0 (BitVec.ofNat 32 region) 0).satEvent c.2.2 K.JRNL_ERR 0)))
    ∧ (s.sys.powered = false → exec .lifetimeSecond s = .next s.silent)
    ∧ (s.sys.powered = true → ∃ t, exec .lifetimeSecond s = .next t ∧ t.jrnl.life.onSeconds = s.jrnl.life.onSeconds + 1
        ∧ t.jrnl.life.runSeconds = (if s.sys.mode = .run then s.jrnl.life.runSeconds + 1 else s.jrnl.life.runSeconds)
        ∧ t.jrnl.life.lastCycle = s.lastCycle
        ∧ (∀ b : Nat, b < 8 → Tab.get (fun _ => (0 : BitVec 64)) t.jrnl.life.bands b =
            Tab.get (fun _ => (0 : BitVec 64)) s.jrnl.life.bands b + (if b = baseBand s.baseTemp then 1 else 0))
        ∧ t.jrnl.events = s.jrnl.events ∧ t.regs = s.regs ∧ t.evt = s.evt ∧ t.nibs = s.nibs)

/-- At the start of a slot in a powered module the slot is current, each converter does what its settings, its table
and its urgent requests give, and no result changes; without power the state stays as it was. Without a conversion
under way a converter's completion leaves the state as it was. A completed conversion of input n ends; the result it
stores, unless a higher-numbered converter stored one of the same slot and cycle, carries the code of the differential
voltage, the over-range flag, the converter, the slot and the cycle, and the engineering value E = SCALEn × (code × 10
/ 131,072) + OFFSn, each operation in binary32 with round-to-nearest-even, in that order and grouping, whatever the
over-range flag shows, which the result carries beside it; the results of the other inputs, the other converters and
every register stay. -/
def Obligations.ConversionsRunAndStore : Prop :=
  ∀ s : State,
    (∀ sl : Fin 20, (s.sys.powered = false → exec (.adcConversionSlot sl) s = .next s.silent)
      ∧ (s.sys.powered = true → ∃ t, exec (.adcConversionSlot sl) s = .next t ∧ t.ai.slot = sl ∧ t.ai.res = s.ai.res
          ∧ (∀ k : Fin 4, t.conv k = (s.conv k).slot (s.adcSet k sl)) ∧ t.regs = s.regs ∧ t.sched = s.sched))
    ∧ (∀ (k : Fin 4) (pos neg : Int) (edge : Bool),
      let code := adcCode (pos - neg)
      ((s.conv k).run = none → exec (.adcConversionComplete k ⟨pos, neg⟩ edge) s = .next s.silent)
      ∧ (∀ n, (s.conv k).run = some n →
          let o := s.aiRes n
          let later := o.valid = true ∧ o.cycle = s.cycle.setWidth 48 ∧ o.slot = s.ai.slot ∧ (k : Nat) < o.adc
          ∃ t, exec (.adcConversionComplete k ⟨pos, neg⟩ edge) s = .next t ∧ (t.conv k).run = none
          ∧ (later → t.aiRes n = o)
          ∧ (¬ later → (t.aiRes n).valid = true ∧ (t.aiRes n).ovr = adcOver pos neg edge ∧ (t.aiRes n).adc = k
            ∧ (t.aiRes n).code = code ∧ (t.aiRes n).slot = s.ai.slot ∧ (t.aiRes n).cycle = s.cycle.setWidth 48
            ∧ (t.aiRes n).eng = fAdd (fMul (s.word (K.AI_SCALE n))
              (fDiv (fMul (fOfInt code.toInt) (fOfInt 10)) (fOfInt 131072))) (s.word (K.AI_OFFS n)))
          ∧ (∀ m, m ≠ n → t.aiRes m = s.aiRes m) ∧ (∀ j : Nat, j ≠ k → t.conv j = s.conv j)
          ∧ t.regs = s.regs ∧ t.lanes = s.lanes))

/-- A slot on a port of no configured string, on an unused port, under no accepted header or beyond the header's slots
leaves the state as it was. Under an accepted header of a configured string, a slot that is not valid counts a string
error where the stroke reached its position and leaves the state as it was else; a valid slot of a position that is
not enabled or not occupied raises CELL_UNEXPECTED and has its management reply taken; a copy for a stroke that the
cell image has, or for an older one, leaves the state as it was; any other enters the cell image. At the cut-off of a
powered module the engines' cut is of this cycle, every configured cell without a fresh slot is stale, and no slot
stays fresh; without power the state stays as it was. The expiry of LOST_LIMIT ends the cell's operation as failed and
raises CELL_LOST for an enabled cell that an enumeration found, that is not yet lost and that has been without a slot
for LOST_LIMIT cycles; of any other it leaves the state as it was. -/
def Obligations.TelemetryEntersAndIsCutOff : Prop :=
  ∀ s : State,
    (∀ (p : Fin 64) (pos : Fin 96) (slot : List Byte) (err : Bool) (t : Tick),
      let b := s.basePort p
      let h := (s.str p).hdr
      let ci := 48 * b + (pos : Nat)
      let samp := s.mono - (s.cycle.setWidth 16 - h.cycle).toNat
      let got := s.configured b = true ∧ (p : Nat) ∈ s.usedPorts b ∧ h.ok = true ∧ (pos : Nat) < h.slots
      (¬ got → exec (.telemetrySlotReceive p pos slot err t) s = .next s.silent)
      ∧ (got →
        (slotValid h slot err = false → exec (.telemetrySlotReceive p pos slot err t) s =
          .next (if s.slotReached b (s.portSide p) pos h then s.silent.strErr b 1 t else s.silent))
        ∧ (slotValid h slot err = true →
          (s.enabled ci = false ∨ s.occupied ci = false →
            let u := (s.silent.setCell ci { s.cell ci with fresh := true }).raise 0x0104 ci 0 t
            exec (.telemetrySlotReceive p pos slot err t) s =
            .next (if slotReply slot then u.takeReply b ci slot t else u))
          ∧ (s.enabled ci = true → s.occupied ci = true →
            (samp ≤ (s.cell ci).samp → (s.cell ci).slot ≠ [] → exec (.telemetrySlotReceive p pos slot err t) s =
              .next s.silent)
            ∧ ((s.cell ci).samp < samp ∨ (s.cell ci).slot = [] → exec (.telemetrySlotReceive p pos slot err t) s =
              .next (s.silent.slotEnter b ci samp slot t))))))
    ∧ (s.sys.powered = false → exec .telemetryCutoff s = .next s.silent)
    ∧ (s.sys.powered = true → ∃ t, exec .telemetryCutoff s = .next t ∧ t.sched.cutAt = s.mono
        ∧ (∀ ci ∈ s.allCells, (s.cell ci).fresh = false → (t.cell ci).stale = true)
        ∧ (∀ ci ∈ s.allCells, (t.cell ci).fresh = false) ∧ t.regs = s.regs ∧ t.lanes = s.lanes)
    ∧ (∀ ci : Fin 3072,
      let c := s.cell ci
      let due := s.enabled ci = true ∧ c.lost = false ∧ c.adm ≠ .none ∧ W.LINK_LOSS_LOST_LIMIT (s.word K.LINK_LOSS) ≤ c.noSlot
      (¬ due → exec (.lostLimitExpiry ci) s = .next s.silent)
      ∧ (due → exec (.lostLimitExpiry ci) s =
          .next ((s.silent.opEnd (s.mg ci).op 2 0x0201).raise 0x0303 ci 0 0)))

/-- The reply timeout of a position that an enumeration awaits leaves it without identity, not found and awaited no
longer, with CELL_MISSING active for an enabled cell; of any other it leaves the state as it was. An enumeration that
awaits no position and has every found position measured is over for its string, with the FOUND mismatch event active
exactly where FOUND differs from PORT_CFG.CELLS; one that is not so far, or that does not run, stays as it was.
Admission steps 1 to 4 advance by one where their condition is met, step 3 with the next epoch and the cell CHARGING,
and leave the state as it was where it is not, or in another step. The timer of an admission outside a pre-charge,
LINK_LOSS.ADMIT_TMO after its start, ends the operation as failed, raises ADMIT_TIMEOUT with the step and sends the
cell back to FOUND; else it leaves the state as it was. A pre-charge phase whose criterion has held for 100 cut-offs
ends: phase 1 of a stack of type 3 goes on to phase 2, another stack's last phase leaves it in none, and the last such
stack brings the module to READY; one that has not held so long, of a stack outside the pre-charge or without one,
stays as it was. The timeout of a pre-charge in CHARGING, SYS_PRE.TMO after its start, brings the module to STANDBY;
without one, elsewhere or earlier it leaves the state as it was. -/
def Obligations.AdmissionStepsAndPrechargePhases : Prop :=
  ∀ s : State,
    (∀ ci : Fin 3072,
      let b := s.cellPort ci
      let m := s.mg ci
      let awaited := (s.str b).enumOp ≠ 0 ∧ (ci : Nat) - 48 * b ∈ (s.str b).enumLeft
      let ident : Word := BitVec.ofNat 32 (beAt m.seenReply 4 4)
      let ready := (m.step = 1 ∧ m.done 1 = true ∧ s.admitMatches ci ident = true)
        ∨ (m.step = 2 ∧ m.done 2 = true ∧ s.measured b ci = true)
        ∨ (m.step = 3 ∧ m.done 3 = true ∧ beAt m.seenReply 8 1 = nextEpoch (s.cell ci).epoch)
        ∨ (m.step = 4 ∧ slotState (s.cell ci).slot = 2 ∧ (s.cell ci).noSlot = 0)
      let late := m.step ≠ 0 ∧ s.inPrecharge ci = false
        ∧ m.since + 1000 * W.LINK_LOSS_ADMIT_TMO (s.word K.LINK_LOSS) ≤ s.mono
      (¬ awaited → exec (.enumReplyTimeout ci) s = .next s.silent)
      ∧ (awaited → ∃ t, exec (.enumReplyTimeout ci) s = .next t
        ∧ (t.str b).enumLeft = (s.str b).enumLeft.filter (· ≠ (ci : Nat) - 48 * b)
        ∧ (t.cell ci).adm = .none ∧ (t.cell ci).seen = 0 ∧ (s.enabled ci = true → t.isActive 0x0101 ci = true)
        ∧ t.regs = s.regs ∧ t.lanes = s.lanes)
      ∧ (¬ ready → exec (.admissionStepProceed ci) s = .next s.silent)
      ∧ (ready → ∃ t, exec (.admissionStepProceed ci) s = .next t ∧ (t.mg ci).step = m.step + 1 ∧ t.regs = s.regs
        ∧ (m.step ≠ 3 → t.cells = s.cells)
        ∧ (m.step = 3 → (t.cell ci).adm = .charging ∧ (t.cell ci).epoch = nextEpoch (s.cell ci).epoch))
      ∧ (¬ late → exec (.admissionTimerExpiry ci) s = .next s.silent)
      ∧ (late → exec (.admissionTimerExpiry ci) s =
        .next (((s.silent.opEnd m.op 2 0x0401).raise 0x0306 ci (BitVec.ofNat 32 m.step) 0).backToFound ci)))
    ∧ (∀ p : Fin 64,
      let x := s.str p
      let whole := x.enumOp ≠ 0 ∧ x.enumLeft = []
        ∧ ∀ ci ∈ s.stringCells p, (s.cell ci).adm = .found → s.measured p ci = true
      (¬ whole → exec (.enumerationComplete p) s = .next s.silent)
      ∧ (whole → ∃ t, exec (.enumerationComplete p) s = .next t ∧ (t.str p).enumOp = 0
        ∧ t.isActive 0x0308 p = decide (x.found ≠ W.PORT_CFG_CELLS (s.portCfg p)) ∧ t.regs = s.regs ∧ t.lanes = s.lanes))
    ∧ (∀ (k : Fin 16) (o : OpRec), s.preOp = some o →
      let held := s.sys.mode = .charging ∧ o.arg.testBit k = true ∧ (s.schStack k).phase ≠ 0 ∧ 100 ≤ (s.schStack k).phaseRun
      let two := (s.schStack k).phase = 1 ∧ s.stackType k = 3
      (¬ held → exec (.prechargePhaseComplete k) s = .next s.silent)
      ∧ (held → two → exec (.prechargePhaseComplete k) s =
        .next (s.silent.setSchStack k { s.schStack k with phase := 2, phaseRun := 0 }))
      ∧ (held → ¬ two →
        ((∀ j ∈ o.stacks, j ≠ k → (s.schStack j).phase = 0) →
          ∃ t, exec (.prechargePhaseComplete k) s = .next t ∧ t.sys.mode = .ready ∧ t.sys.reason = 4 ∧ t.regs = s.regs)
        ∧ (∀ j ∈ o.stacks, j ≠ k → (s.schStack j).phase ≠ 0 →
          ∃ t, exec (.prechargePhaseComplete k) s = .next t ∧ t.sys.mode = s.sys.mode ∧ (t.schStack k).phase = 0
            ∧ t.regs = s.regs)))
    ∧ (s.preOp = none → (∀ k : Fin 16, exec (.prechargePhaseComplete k) s = .next s.silent)
        ∧ exec .prechargeTimeout s = .next s.silent)
    ∧ (∀ o, s.preOp = some o →
      let late := s.sys.mode = .charging ∧ o.last + 100000 * W.SYS_PRE_TMO (s.word K.SYS_PRE) ≤ s.mono
      (¬ late → exec .prechargeTimeout s = .next s.silent)
      ∧ (late → ∃ t, exec .prechargeTimeout s = .next t ∧ t.sys.mode = .standby ∧ t.sys.reason = 5 ∧ t.regs = s.regs))

/-- Without power the boundary leaves the state as it was. With power the cycle number and the elapsed cycles rise by
one, the module's own sensors' readings are those of the boundary, no word waits for the next cycle any more, the
governor's budget and the scrubber's grants start afresh, the CAN time stamps have advanced by 500, and a pair side
shows no release to its partner. Where no word waited, no word in force has changed. -/
def Obligations.TheCycleBoundaryAdvancesTheClock : Prop :=
  ∀ (e : Env) (s : State),
    (s.sys.powered = false → exec (.cycleBoundary e) s = .next s.silent)
    ∧ (s.sys.powered = true → ∃ t, exec (.cycleBoundary e) s = .next t ∧ t.cycle = s.cycle + 1 ∧ t.mono = s.mono + 1
        ∧ t.sys.baseT = e.baseT ∧ t.sys.feedA = e.feedA ∧ t.sys.feedB = e.feedB ∧ t.nextW = [] ∧ t.ink.used = 0
        ∧ t.ink.scrubs = 0 ∧ t.ink.cimScrubs = 0
        ∧ (∀ c : Fin 2, (t.canOf c).ts = (s.canOf c).ts + 500) ∧ (s.pairSide = true → t.shadow.release = 0)
        ∧ (s.nextW = [] → t.regs = s.regs))

/-- While the port is held a draw leaves the state as it was. With the port free every requester that does not request
leaves with no loss; without an eligible one nothing else changes. With eligible ones the LFSR steps once, and the
first of them with 64 losses, else the one at which the running sum of tickets exceeds the LFSR's new value times the
sum of tickets divided by 65,536, holds the port with LOSSES 0; each other eligible one has one loss more, at most 64.
The end of a transfer frees the port, and leaves its holder without a request; DMA and Blotter readout use 2 clocks of
the cycle's budget for each tile, and the Blotter writer's oldest row is stored; without a holder it leaves the state
as it was. The scrubber reads the next tile around its memory within the governor's grant, in the Inkwell only where
its port is open; a checksum that fails for the first time poisons the tile, wear records excepted, and counts it; no
byte of the Inkwell's memory and no register changes. Beyond the grant it leaves the state as it was. FREEZE held for
more than 10,000 cycles raises ARB_FREEZE_LONG; one shorter or none leaves the state as it was. -/
def Obligations.TheInkwellArbitratesAndScrubs : Prop :=
  ∀ s : State,
    (∀ req : BitVec 7,
      let u := (List.range 7).foldl (fun (s : State) (i : Nat) =>
        s.setArb i (if s.requests req i then { s.arb i with req := true } else Arb.init)) s.silent
      let el := (List.range 7).filter u.eligible
      let x := lfsrStep s.ink.lfsr
      let T := (el.map u.tickets).foldl (· + ·) 0
      let win := match el.find? fun i => decide ((u.arb i).losses = 64) with
        | some i => i
        | none => lotteryWalk u.tickets (x.toNat * T / 65536) 0 el
      (s.ink.hold ≠ none → exec (.arbiterDraw req) s = .next s.silent)
      ∧ (s.ink.hold = none → el = [] → exec (.arbiterDraw req) s = .next u)
      ∧ (s.ink.hold = none → el ≠ [] → ∃ t, exec (.arbiterDraw req) s = .next t ∧ t.ink.lfsr = x
          ∧ t.ink.hold = some win ∧ win ∈ el ∧ (t.arb win).losses = 0
          ∧ (∀ i ∈ el, i ≠ win → (t.arb i).losses = min 64 ((u.arb i).losses + 1))
          ∧ t.ink.mem = s.ink.mem ∧ t.regs = s.regs))
    ∧ (∀ tiles : Fin 16, (s.ink.hold = none → exec (.inkwellTransferDone tiles) s = .next s.silent)
      ∧ (∀ h, s.ink.hold = some h → ∃ t, exec (.inkwellTransferDone tiles) s = .next t ∧ t.ink.hold = none
          ∧ (t.arb h).req = false
          ∧ t.ink.used = (if h = 2 ∨ h = 6 then s.ink.used + 2 * ((tiles : Nat) + 1) else s.ink.used) ∧ t.regs = s.regs
          ∧ (h ≠ 1 ∨ s.ink.blot.fifo = [] → t.ink.mem = s.ink.mem ∧ t.ink.poison = s.ink.poison)
          ∧ (h = 1 → ∀ i vs rest, s.ink.blot.fifo = (i, vs) :: rest → t.ink.blot.fifo = rest
              ∧ t.ink.mem = (s.inkWrite (i % s.blotDepth * rowStride s.blotN * 4) (vs.flatMap wordBytes)).ink.mem)))
    ∧ (∀ (cim bad : Bool) (t : Tick),
      let may := if cim then s.ink.cimScrubs < s.scrubGrant true
        else s.ink.scrubs < s.scrubGrant false ∧ s.portOpen 5 = true
      (¬ may → exec (.scrubTileRead cim bad t) s = .next s.silent)
      ∧ (may → ∃ u, exec (.scrubTileRead cim bad t) s = .next u
      ∧ u.ink.scrubCim = (if cim then (s.ink.scrubCim + 1) % 16384 else s.ink.scrubCim)
      ∧ u.ink.scrubInk = (if cim then s.ink.scrubInk else (s.ink.scrubInk + 1) % 262144)
      ∧ u.ink.mem = s.ink.mem ∧ u.regs = s.regs
      ∧ (bad = true → cim = false → s.ink.scrubInk ∉ s.ink.poison →
          u.ink.pcnt = (satInc s.ink.pcnt s.ink.pcntSat).1
          ∧ (inkRegion (s.ink.scrubInk * 128) ≠ 1 → s.ink.scrubInk ∈ u.ink.poison))
      ∧ (bad = true → cim = true → s.ink.scrubCim ∉ s.ink.cimPoison →
          s.ink.scrubCim ∈ u.ink.cimPoison ∧ u.ink.cpcnt = (satInc s.ink.cpcnt s.ink.cpcntSat).1)
      ∧ (bad = false → u.ink.poison = s.ink.poison ∧ u.ink.cimPoison = s.ink.cimPoison)))
    ∧ (∀ t : Tick,
      let long := s.frozen = true ∧ s.ink.freezeAt + 10000 < s.mono
      (long → exec (.freezeTimer t) s = .next (s.silent.raise 0x0D05 0 0 t))
      ∧ (¬ long → exec (.freezeTimer t) s = .next s.silent))

/-- Without a running chain, in another phase, or, for the fetch, the burst and the read-back, with the engine's port
not open, the engine's rows leave the state as it was, and so does the memory timeout where the engine does not hold
the port. At the fetch a chain that is back at its head, or has run CHAIN_MAX descriptors, stops with its status and
event; a descriptor in a poisoned tile, outside the channel's regions or bad ends the chain with its status and event;
a sound one is taken up, and needs no burst where source and destination are the same bytes. A burst that reads a
poisoned source tile ends its descriptor with status 1; any other writes exactly the bytes it read to its destination,
and every byte outside it reads as before unless its tile was poisoned. A read-back that agrees records status 0; one
that differs raises DMA_VERIFY_FAIL and records 7. A missing response frees the port and ends the chain with status 2
and its event. The Blotter writes a row only in a capture's sampled cycles, once a cycle: with room in its FIFO the
row enters it, with none it is lost and counted; else it leaves the state as it was. -/
def Obligations.ChainsRunDescriptorByDescriptor : Prop :=
  ∀ (s : State) (t : Tick),
    (s.ink.dma.run = none → (∀ bad, exec (.dmaDescriptorFetch bad t) s = .next s.silent)
      ∧ (∀ bad, exec (.dmaBurstComplete bad t) s = .next s.silent)
      ∧ (∀ same, exec (.dmaReadbackDone same t) s = .next s.silent) ∧ exec (.dmaMemoryTimeout t) s = .next s.silent)
    ∧ (∀ c : Chain, s.ink.dma.run = some c →
      (∀ bad,
        let u := if bad then s.silent.poisonInk (c.addr / 128) t else s.silent
        let d := u.inkBytes c.addr 32
        let round := c.count ≠ 0 ∧ c.addr = c.head
        let wrong := u.inkPoisoned (c.addr / 128) = true ∨ descAt c.ch c.addr = false ∨ descBad c.ch d = true
        (c.phase ≠ 0 ∨ s.portOpen 6 = false → exec (.dmaDescriptorFetch bad t) s = .next s.silent)
        ∧ (c.phase = 0 → s.portOpen 6 = true →
          (round → exec (.dmaDescriptorFetch bad t) s = .next ((s.silent.dmaStop c 5 t).raise 0x0D08 c.ch 0 t))
          ∧ (¬ round → W.DMA_CTL_CHAIN_MAX (s.word K.DMA_CTL) ≤ c.count →
            exec (.dmaDescriptorFetch bad t) s = .next ((s.silent.dmaStop c 4 t).raise 0x0D08 c.ch 0 t))
          ∧ (¬ round → c.count < W.DMA_CTL_CHAIN_MAX (s.word K.DMA_CTL) →
            (wrong → exec (.dmaDescriptorFetch bad t) s =
              .next (((u.dmaRecord c.ch (dTag d) (if u.inkPoisoned (c.addr / 128) then 1 else 3) 4 0 c.addr t).dmaEnd
                c.ch).raise 0x0D06 c.ch 0 t))
            ∧ (¬ wrong → exec (.dmaDescriptorFetch bad t) s =
              .next (u.setDma { u.ink.dma with run := some { c with desc := d, moved := 0
                                                                    phase := if dSrc d = 0 ∧ dFrom d = dTo d
                                                                      then 2 else 1 } })))))
      ∧ (∀ bad,
        let b := burstOf c.desc c.moved
        let u := s.silent.burstBad c.desc b.1 b.2 bad t
        (c.phase ≠ 1 ∨ s.portOpen 6 = false → exec (.dmaBurstComplete bad t) s = .next s.silent)
        ∧ (c.phase = 1 → s.portOpen 6 = true →
          (u.burstPoisoned c.desc b.1 b.2 = true → exec (.dmaBurstComplete bad t) s = .next (u.dmaNext c 1 t))
          ∧ (u.burstPoisoned c.desc b.1 b.2 = false → ∃ v, exec (.dmaBurstComplete bad t) s = .next v
            ∧ v.ink.mem = (u.inkWrite (dTo c.desc + b.1) (u.burstBytes c.desc b.1 b.2)).ink.mem
            ∧ (∃ c', v.ink.dma.run = some c' ∧ c'.moved = c.moved + b.2 ∧ c'.desc = c.desc)
            ∧ (∀ a, a < dTo c.desc + b.1 ∨ dTo c.desc + b.1 + b.2 ≤ a → u.inkPoisoned (a / 128) = false →
              v.inkByte a = u.inkByte a) ∧ v.regs = s.regs)))
      ∧ (∀ same, c.phase ≠ 2 ∨ s.portOpen 6 = false → exec (.dmaReadbackDone same t) s = .next s.silent)
      ∧ (c.phase = 2 → s.portOpen 6 = true → exec (.dmaReadbackDone true t) s = .next (s.silent.dmaNext c 0 t)
        ∧ exec (.dmaReadbackDone false t) s = .next ((s.silent.raise 0x0D0A c.ch 0 t).dmaNext c 7 t))
      ∧ (let u := ({ s.silent with ink := { s.ink with hold := none } }).setArb 6 Arb.init
        (s.ink.hold ≠ some 6 → exec (.dmaMemoryTimeout t) s = .next s.silent)
        ∧ (s.ink.hold = some 6 → c.desc ≠ [] → exec (.dmaMemoryTimeout t) s =
          .next (((u.dmaRecord c.ch (dTag c.desc) 2 (descFlags c.desc true) c.moved c.addr t).dmaEnd c.ch).raise
            0x0D07 c.ch 0 t))
        ∧ (s.ink.hold = some 6 → c.desc = [] → exec (.dmaMemoryTimeout t) s =
          .next (((u.drawn.dmaRecord c.ch u.freeTag 2 4 c.moved c.addr t).dmaEnd c.ch).raise 0x0D07 c.ch 0 t))))
    ∧ (let due := (s.ink.blot.st = 1 ∨ s.ink.blot.st = 2 ∨ s.ink.blot.st = 3)
        ∧ s.cycle.toNat % 2 ^ W.BLOT_CTL_DIV (s.word K.BLOT_CTL) = 0 ∧ (s.ink.blot.total = 0 ∨ s.ink.blot.lastCyc ≠ s.cycle)
      (¬ due → exec (.blotterRow t) s = .next s.silent)
      ∧ (due → ∃ u, exec (.blotterRow t) s = .next u ∧ u.ink.blot.total = s.ink.blot.total + 1
        ∧ u.ink.blot.lastCyc = s.cycle ∧ u.ink.mem = s.ink.mem ∧ u.regs = s.regs
        ∧ (s.ink.blot.fifo.length < 8 → u.ink.blot.fifo = s.ink.blot.fifo ++ [(s.ink.blot.total,
            (List.range s.blotN).map fun i => s.source (s.word (K.BLOT_SRC i)))])
        ∧ (8 ≤ s.ink.blot.fifo.length → u.ink.blot.fifo = s.ink.blot.fifo
            ∧ u.ink.blot.lost = (satInc s.ink.blot.lost s.ink.blot.lostSat).1)))

/-- A frame longer than 1,522 bytes, or one on a port without an address that is no PTP message, leaves the state as
it was; one that fails the filter is counted in NET_DROP. Of a frame that passes, a UDP datagram with a bad sum, or
for another port number than 51400 or, on a station port, 51402, is counted in NET_DROP; one for 51400 is a record,
one for 51402 on a station port a safe frame; a PTP message that no other command takes leaves by the other station
port where the transparent clock forwards; any other leaves the state as it was. An ARP message for a port's address
leaves exactly one cache entry of its sender, heard now, and a request is answered; any other leaves the state as it
was. An echo request on a port with an address, within the second's 64 and reachable, is counted and answered with its
data to the next hop; any other there is counted in NET_DROP. Exactly the entries of an address that are 60 s old
leave the cache. A link that comes up ends LINK_DOWN and is announced by a port with an address; one that goes down
raises LINK_DOWN; the sessions of the port learn of it. -/
def Obligations.TheNetworkFiltersAndAnswers : Prop :=
  ∀ (s : State) (t : Tick) (p : Fin 3),
    (∀ f : NetFrame,
      let heard := f.len ≤ 1522 ∧ (s.portIp p ≠ 0 ∨ netPtp f.body = true)
      let passes := s.frameOk p f = true ∧ s.ipOk p f = true
      let sec := s.silent.netSecond
      (¬ heard → exec (.netFrameReceive p f t) s = .next s.silent)
      ∧ (heard → ¬ passes → exec (.netFrameReceive p f t) s = .next (s.silent.netDrop t))
      ∧ (heard → passes →
        (∀ sport dport sumOk data, f.body = .udp sport dport sumOk data →
          (sumOk = false → exec (.netFrameReceive p f t) s = .next (sec.netDrop t))
          ∧ (sumOk = true → dport = 51400 → exec (.netFrameReceive p f t) s = .next (sec.recordArrives p f sport data t))
          ∧ (sumOk = true → dport = 51402 → (p : Nat) < 2 → exec (.netFrameReceive p f t) s =
            .next (sec.safeArrives f data t))
          ∧ (sumOk = true → dport ≠ 51400 → dport ≠ 51402 ∨ (p : Nat) = 2 → exec (.netFrameReceive p f t) s =
            .next (sec.netDrop t)))
        ∧ (∀ data, f.body = .ptpOther data → exec (.netFrameReceive p f t) s =
          .next (if (p : Nat) < 2 ∧ s.forwards = true then s.silent.sendNet (1 - (p : Nat)) 1 (.ptpOther data) else s.silent))
        ∧ (f.body = .arp ∨ f.body = .ptp ∨ f.body = .other ∨ f.body = .icmpEcho →
          exec (.netFrameReceive p f t) s = .next s.silent)))
    ∧ (∀ (req : Bool) (sip tip : Word) (mac : BitVec 48),
      (s.portIp p = 0 ∨ tip ≠ s.portIp p → exec (.arpMessage p req sip tip mac) s = .next s.silent)
      ∧ (s.portIp p ≠ 0 → tip = s.portIp p → ∃ u, exec (.arpMessage p req sip tip mac) s = .next u
        ∧ u.net.arp.filter (fun e => decide (e.1 = (p : Nat) ∧ e.2.1 = sip)) = [((p : Nat), sip, mac, s.mono)]
        ∧ u.out = (if req then [.net p 4 (s.netTag p 4) (.arp true sip)] else []) ∧ u.regs = s.regs))
    ∧ (∀ (sip : Word) (data : List Byte),
      let sec := s.silent.netSecond
      let n := Tab.get (fun _ => 0) sec.net.echoes p
      let counted : State := { sec with net := { sec.net with echoes := Tab.put (fun _ => 0) sec.net.echoes p (n + 1) } }
      (s.portIp p = 0 → exec (.icmpEchoRequest p sip data t) s = .next s.silent)
      ∧ (s.portIp p ≠ 0 → n < 64 → s.reachable p sip = true → exec (.icmpEchoRequest p sip data t) s =
        .next (counted.sendNet p 4 (.icmp (s.nextHop p sip) sip data)))
      ∧ (s.portIp p ≠ 0 → 64 ≤ n ∨ s.reachable p sip = false → exec (.icmpEchoRequest p sip data t) s =
        .next (sec.netDrop t)))
    ∧ (∀ ip : Word, ∃ u, exec (.arpEntryAge p ip) s = .next u ∧ u.regs = s.regs
        ∧ (∀ e, e ∈ u.net.arp ↔ e ∈ s.net.arp ∧ ¬ (e.1 = (p : Nat) ∧ e.2.1 = ip ∧ e.2.2.2 + 6000000 ≤ s.mono)))
    ∧ (∃ u, exec (.netLinkUp p t) s = .next u ∧ u.net.link.testBit p = true ∧ u.isActive 0x0C01 p = false ∧ u.regs = s.regs
        ∧ (∀ i : Nat, i < 8 → (s.sess i).isOpen = true → (s.sess i).port = p → (u.sess i).linkDown = none)
        ∧ u.out = (if s.portIp p = 0 then [] else [.net p 4 (s.netTag p 4) (.arp false (s.portIp p))]))
    ∧ (∃ u, exec (.netLinkLoss p t) s = .next u ∧ u.net.link.testBit p = false ∧ u.isActive 0x0C01 p = true
        ∧ (∀ i : Nat, i < 8 → (s.sess i).isOpen = true → (s.sess i).port = p → (u.sess i).linkDown = some s.mono)
        ∧ u.regs = s.regs)

/-- A one-step Sync gives its offset at once, and leaves by the other station port with its residence and link delay
added where the transparent clock forwards; a two-step Sync is kept with what is to be added, alone of its sender and
domain, and forwarded as it is. A Follow_Up of a kept Sync takes it out, gives its offset, and is forwarded with that
Sync's addition; any other gives none and is forwarded as it is. An Announce is forwarded; one that qualifies is
remembered once per sender, heard now, and the selection is the best of those remembered; of one that does not,
nothing else changes. A receipt timeout forgets exactly the sender's entries that are 3 s old. A peer-delay request on
a port that runs PTP and has an address is answered, and there the port's own goes out with the next number, the third
in a row without an answer taking the port out of the selection; on any other port both leave the state as it was. A
response to the request under way gives half the time out of the responder's turnaround as the delay, and the third in
a row takes the port in again; any other leaves the state as it was. -/
def Obligations.PtpFollowsAndForwards : Prop :=
  ∀ (s : State) (p : Fin 2) (t : Tick),
    let x := s.ptpPort p
    let on (u : State) (m : NetMsg) : State := if s.forwards then u.sendNet (1 - (p : Nat)) 1 m else u
    (∀ (m : PtpMsg) (res : Nat),
      let add := (res : Int) + s.linkDelay p
      let mine (e : PtpMsg × Int) : Bool := decide (e.1.src = m.src ∧ e.1.domain = m.domain ∧ e.1.seq = m.seq)
      (m.twoStep = false → exec (.ptpSyncReceive p m res t) s =
        .next ((on s.silent.drawn (.ptpSync { m with corr := m.corr + add })).ptpOffset p m t))
      ∧ (m.twoStep = true → ∃ u v, exec (.ptpSyncReceive p m res t) s = .next u ∧ u = on v (.ptpSync m)
          ∧ (v.ptpPort p).syncs.filter (fun e => decide (e.1.src = m.src ∧ e.1.domain = m.domain)) = [(m, add)]
          ∧ v.out = [] ∧ u.clk = s.clk ∧ u.regs = s.regs)
      ∧ (x.syncs.find? mine = none → exec (.ptpFollowUpReceive p m t) s = .next (on s.silent (.ptpFollow m)))
      ∧ (∀ e, x.syncs.find? mine = some e →
          let v := s.silent.setPtpPort p { x with syncs := x.syncs.filter fun e => !mine e }
          exec (.ptpFollowUpReceive p m t) s =
            .next ((on v (.ptpFollow { m with corr := m.corr + e.2 })).ptpOffset p m t)))
    ∧ (∀ m : PtpAnn,
      (s.qualifies p m = false → exec (.ptpAnnounceReceive p m t) s = .next (on s.silent (.ptpAnnounce m)))
      ∧ (s.qualifies p m = true → ∃ u, exec (.ptpAnnounceReceive p m t) s = .next u
          ∧ u.net.foreign.filter (fun f => decide (f.port = (p : Nat) ∧ f.ann.src = m.src)) = [Foreign.mk p m s.mono]
          ∧ u.net.best = u.ptpBest.map (fun f => (f.port, f.ann)) ∧ u.regs = s.regs
          ∧ (s.forwards = true → Output.net (1 - (p : Nat)) 1 (s.netTag (1 - (p : Nat)) 1) (.ptpAnnounce m) ∈ u.out)))
    ∧ (∀ src : BitVec 80, ∃ u, exec (.ptpAnnounceTimeout p src t) s = .next u ∧ u.regs = s.regs
        ∧ (∀ f, f ∈ u.net.foreign ↔ f ∈ s.net.foreign ∧ ¬ (f.port = (p : Nat) ∧ f.ann.src = src ∧ f.heard + 300000 ≤ s.mono)))
    ∧ (∀ (src : BitVec 80) (seq : BitVec 16),
      (s.ptpOn p = true → s.portIp p ≠ 0 → exec (.ptpPdelayReqReceive p src seq) s =
        .next (s.silent.sendNet p 1 (.pdelayResp src seq)))
      ∧ (s.ptpOn p = false ∨ s.portIp p = 0 → exec (.ptpPdelayReqReceive p src seq) s = .next s.silent))
    ∧ (s.ptpOn p = false ∨ s.portIp p = 0 → exec (.ptpPdelayTimer p t) s = .next s.silent)
    ∧ (s.ptpOn p = true → s.portIp p ≠ 0 → ∃ u, exec (.ptpPdelayTimer p t) s = .next u
        ∧ (u.ptpPort p).seq = x.seq + 1 ∧ (u.ptpPort p).waiting = true
        ∧ (u.ptpPort p).missed = (if x.waiting then x.missed + 1 else x.missed)
        ∧ (u.ptpPort p).failed = (x.failed || decide (3 ≤ (u.ptpPort p).missed))
        ∧ Output.net p 1 (s.netTag p 1) (.pdelayReq (x.seq + 1)) ∈ u.out ∧ u.regs = s.regs)
    ∧ (∀ (seq : BitVec 16) (rt turn : Nat),
      (x.waiting = false ∨ x.seq ≠ seq → exec (.ptpPdelayRespReceive p seq rt turn t) s = .next s.silent)
      ∧ (x.waiting = true → x.seq = seq → ∃ u, exec (.ptpPdelayRespReceive p seq rt turn t) s = .next u
          ∧ (u.ptpPort p).waiting = false ∧ (u.ptpPort p).missed = 0
          ∧ (u.ptpPort p).failed = (x.failed && decide (x.answered + 1 < 3))
          ∧ (u.ptpPort p).delay = BitVec.ofNat 32 ((rt - turn) / 2) ∧ u.regs = s.regs))

/-- A launch that is not due, or none, leaves the state as it was. One that is due leaves its queue: on a port with an
address it leaves as its datagram where the port is free by its limit, and is counted late with its event where it is
not. A stream that does not run, is not enabled or is not in a sampled cycle stays as it was; in one its batch grows,
and a full batch is planned as one record of the stream's session on each of its ports that has an address and begins
afresh with the next count. STREAM_STOP stops exactly the streams whose session is closed, with their event. An open
window whose message fits puts it on the bus of a controller that is on, not receive-only and free, where the slot may
offer and is exclusive or wins; any other leaves the state as it was. A frame sent counts and lowers TEC by one; a
transmit error raises TEC by 8 unless arbitration was lost or an error-passive controller missed an acknowledgement,
and a TEC above 255 is bus-off; without a frame under way both leave the state as it was. A receive error of a
controller that is on and not receive-only raises REC by 1 or 8, of any other it leaves the state as it was. 128
recessive sequences end the bus-off of an enabled controller with both counters 0, and leave any other as it was. A
received frame that the controller cannot take leaves the state as it was; one that no slot accepts fills no buffer
and no mailbox; one for a host buffer fills it, or its shadow while it is locked; one of 24 bytes for a safe
connection fills the mailbox. A lock held for 1 s is released, any other buffer stays. -/
def Obligations.LaunchesStreamsAndTheAuxBusRun : Prop :=
  ∀ (s : State) (t : Tick),
    (∀ (p : Fin 2) (busy : Nat),
      let q := Tab.get (fun _ => []) s.net.launches p
      (q = [] → exec (.timedLaunch p busy t) s = .next s.silent)
      ∧ (∀ x rest, q = x :: rest →
        let u : State := { s.silent with net := { s.net with launches := Tab.put (fun _ => []) s.net.launches p rest } }
        let c := satInc s.net.late s.net.lateSat
        let at_ := Tab.put (fun _ => 0) s.net.lateAt p (s.mono + 1)
        let v : State := { u with net := { u.net with late := c.1, lateSat := c.2.1, lateAt := at_ } }
        (s.ticks t < x.tick → exec (.timedLaunch p busy t) s = .next s.silent)
        ∧ (x.tick ≤ s.ticks t →
          (s.portIp p = 0 → exec (.timedLaunch p busy t) s = .next u)
          ∧ (s.portIp p ≠ 0 → s.ticks t + busy ≤ s.launchLimit x → exec (.timedLaunch p busy t) s =
            .next (u.sendUdp p x.cls x.ip (if x.cls = 2 then 51402 else 51401) x.dport x.bytes))
          ∧ (s.portIp p ≠ 0 → s.launchLimit x < s.ticks t + busy → exec (.timedLaunch p busy t) s =
            .next ((v.satEvent c.2.2 K.NET_LATE t).raise 0x0C04 p 0 t)))))
    ∧ (∀ j : Fin 4,
      let x := s.stream j
      let w := s.strmCtl j
      let sampled := x.run = true ∧ W.STRM_CTL_EN w = true ∧ s.cycle.toNat % 2 ^ W.STRM_CTL_DIV w = 0
      let entry := be 6 (s.cycle.toNat % 2 ^ 48) ++ be 2 (s.strmStale j) ++ s.strmValues j
      (¬ sampled → exec (.telemetryStreamSample j) s = .next s.silent)
      ∧ (sampled → x.batch.length + 1 < W.STRM_CTL_BATCH w → ∃ u, exec (.telemetryStreamSample j) s = .next u
          ∧ (u.stream j).batch = x.batch ++ [entry] ∧ (u.stream j).ctr = x.ctr ∧ u.regs = s.regs)
      ∧ (sampled → W.STRM_CTL_BATCH w ≤ x.batch.length + 1 → ∃ u, exec (.telemetryStreamSample j) s = .next u
          ∧ (u.stream j).batch = [] ∧ (u.stream j).ctr = x.ctr + 1 ∧ u.regs = s.regs
          ∧ (∀ p : Fin 2, (W.STRM_UDP_PORTS (s.word (K.STRM_UDP j))).testBit p = true → s.portIp p ≠ 0 →
            ∃ l ∈ Tab.get (fun _ => []) u.net.launches p, l.cls = 3 ∧ l.ip = s.word (K.STRM_DST j)
              ∧ l.tick = s.ticks (W.STRM_CTL_PHASE w) ∧ l.dport = W.STRM_UDP_PORT (s.word (K.STRM_UDP j))
              ∧ l.bytes = s.strmRecord j x (x.batch ++ [entry]))))
    ∧ (∃ u, exec .streamStop s = .next u ∧ u.regs = s.regs ∧ (∀ j : Fin 4,
        let stops := (s.stream j).run = true ∧ s.sidOpen (s.stream j).owner = false
        (¬ stops → u.stream j = s.stream j)
        ∧ (stops → (u.stream j).run = false ∧ (u.stream j).batch = [] ∧ u.isActive 0x0C05 j = true)))
    ∧ (∀ c : Fin 2,
      let x := s.canOf c
      (∀ (k : Fin 16) (fits : Bool),
        let sends := s.canOn c = true ∧ s.canRom c = false ∧ x.tx = none ∧ s.mayOffer c k = true ∧ fits = true
          ∧ (W.CAN_SLOT_WIN (s.canSlot c k) = false ∨ s.canWinner c = some (k : Nat))
        (sends → exec (.canWindowOpen c k fits) s = .next (s.silent.canStart c k))
        ∧ (¬ sends → exec (.canWindowOpen c k fits) s = .next s.silent))
      ∧ (x.tx = none → (∀ stamp, exec (.canFrameTransmitted c stamp t) s = .next s.silent)
        ∧ (∀ lost ack fits, exec (.canTxError c lost ack fits t) s = .next s.silent))
      ∧ (∀ (stamp : BitVec 32) (k : Nat) (b : List Byte), x.tx = some (k, b) →
        (∃ u, exec (.canFrameTransmitted c stamp t) s = .next u ∧ (u.canOf c).tx = none ∧ (u.canOf c).tec = x.tec - 1
          ∧ (u.canOf c).lastSlot = k ∧ (u.canOf c).txStamp = stamp ∧ (u.canOf c).cnt = (satInc x.cnt x.cntSat).1
          ∧ u.regs = s.regs)
        ∧ (∀ lost ack fits,
          let same := lost = true ∨ ack = true ∧ (127 < x.tec ∨ 127 < x.rec_)
          ∃ u, exec (.canTxError c lost ack fits t) s = .next u ∧ u.regs = s.regs
          ∧ (same → (u.canOf c).tec = x.tec) ∧ (¬ same → (u.canOf c).tec = x.tec + 8)
          ∧ (u.canOf c).busOff = decide (255 < (u.canOf c).tec) ∧ (fits = false → (u.canOf c).tx = none)))
      ∧ (∀ eight : Bool,
        (s.canOn c = false ∨ s.canRom c = true → exec (.canRxError c eight t) s = .next s.silent)
        ∧ (s.canOn c = true → s.canRom c = false → ∃ u, exec (.canRxError c eight t) s = .next u
          ∧ (u.canOf c).rec_ = x.rec_ + (if eight then 8 else 1) ∧ (u.canOf c).tec = x.tec ∧ u.regs = s.regs))
      ∧ (x.busOff = false ∨ s.canEn c = false → exec (.canBusOffRecovery c t) s = .next s.silent)
      ∧ (x.busOff = true → s.canEn c = true → ∃ u, exec (.canBusOffRecovery c t) s = .next u ∧ (u.canOf c).busOff = false
          ∧ (u.canOf c).tec = 0 ∧ (u.canOf c).rec_ = 0 ∧ u.regs = s.regs)
      ∧ (∀ (f : CanFrame) (stamp : BitVec 32),
        let taken := s.canOn c = true ∧ (f.fdf = true → W.CAN_CTL_FD (s.canCtl c) = true)
        (¬ taken → exec (.canFrameReceive c f stamp t) s = .next s.silent)
        ∧ (taken → ∃ u, exec (.canFrameReceive c f stamp t) s = .next u ∧ u.regs = s.regs
          ∧ (s.canMatch c f = none → (u.canOf c).bufs = x.bufs ∧ u.net.mail = s.net.mail)
          ∧ (∀ k, s.canMatch c f = some k →
            let b := x.buf k
            (W.CAN_SLOT_KIND (s.canSlot c k) = 1 → u.net.mail = s.net.mail
              ∧ (b.lock = none → (u.canOf c).buf k =
                { b with frame := some (f, stamp), ovr := b.ovr || b.new, new := true })
              ∧ (b.lock ≠ none → (u.canOf c).buf k =
                { b with shadow := some (f, stamp), ovr := b.ovr || b.shadow.isSome }))
            ∧ (W.CAN_SLOT_KIND (s.canSlot c k) ≠ 1 → (u.canOf c).bufs = x.bufs
              ∧ (f.data.length = 24 →
                Tab.get (fun _ => []) u.net.mail (W.CAN_SLOT_REF (s.canSlot c k)) = f.data)
              ∧ (f.data.length ≠ 24 → u.net.mail = s.net.mail)))))
      ∧ (∀ k : Fin 16,
        let old := (x.buf k).lock ≠ none ∧ (x.buf k).lockAt + 100000 ≤ s.mono
        (¬ old → exec (.canRxLockTimeout c k) s = .next s.silent)
        ∧ (old → ∃ u, exec (.canRxLockTimeout c k) s = .next u ∧ (u.canOf c).buf k = (x.buf k).release ∧ u.regs = s.regs)))

/-- A sample takes the two readings of a channel, or keeps the masked one, ends the event of a stuck SRST where it
reads OFF, and in RUN a demand source present afterwards has its function in DEMAND; the other channel's functions
stay. A discrepancy sample counts the inputs whose lines differ, forgets those whose lines agree, and latches the
fault of an enabled input whose count exceeds its DISC. A test pulse starts where one is due, masks its own line in
both channels for its width and the 200 µs after, and keeps what the lines read before; else the state stays as it
was. A pulse that runs ends, with the fault latched of each enabled input of either channel that read ON before it and
did not read OFF, or that the pulse took from the other line; the end of any other leaves the state as it was. In RUN
the lock timer takes a function from DEMAND to LOCKED exactly where no source demands it and the last was 10 ms ago;
outside RUN it leaves the state as it was. SRST ON for more than 10 s in either channel under RST_MODE 0 raises its
event, else the state stays as it was. -/
def Obligations.SafetyInputsMakeDemands : Prop :=
  ∀ (s : State) (ch : Fin 2) (t : Tick),
    let x := s.saf.ch ch
    (∀ (a b : Byte) (srst : Bool), ∃ u, exec (.safetyInputSample ch a b srst t) s = .next u
      ∧ (u.saf.ch ch).lineA = (if x.maskA = 0 then a.toNat else x.lineA)
      ∧ (u.saf.ch ch).lineB = (if x.maskB = 0 then b.toNat else x.lineB)
      ∧ (srst = false → u.isActive 0x0A0E 0 = false)
      ∧ (s.saf.island = islRun → u.stbDemand (u.saf.ch ch) = true → (u.saf.ch ch).stb = fnDemand)
      ∧ (s.saf.island = islRun → u.spbDemand (u.saf.ch ch) = true → (u.saf.ch ch).spb = fnDemand)
      ∧ (u.saf.ch (1 - (ch : Nat))).spb = (s.saf.ch (1 - (ch : Nat))).spb
      ∧ (u.saf.ch (1 - (ch : Nat))).stb = (s.saf.ch (1 - (ch : Nat))).stb ∧ u.regs = s.regs ∧ u.lanes = s.lanes)
    ∧ (∃ u, exec (.discrepancySample ch t) s = .next u ∧ (∀ n : Nat, n < 8 →
        let k := if x.lineA.testBit n = x.lineB.testBit n then 0 else Tab.get (fun _ => 0) x.disc n + 1
        Tab.get (fun _ => 0) (u.saf.ch ch).disc n = k
        ∧ (W.SI_CFG_EN (s.siCfg n) = true → W.SI_CFG_DISC (s.siCfg n) < k → (u.saf.ch ch).discF.testBit n = true))
        ∧ u.regs = s.regs ∧ u.lanes = s.lanes)
    ∧ (∀ src : Fin 2,
      let n := W.SAF_CTL_TP_W (s.word K.SAF_CTL) + 3
      (s.inPulseDue src = false → exec (.inputTestPulseStart src) s = .next s.silent)
      ∧ (s.inPulseDue src = true → ∃ u, exec (.inputTestPulseStart src) s = .next u ∧ u.saf.pulse = some (src : Nat)
          ∧ (u.saf.ch ch).maskA = (if (src : Nat) = 0 then n else x.maskA)
          ∧ (u.saf.ch ch).maskB = (if (src : Nat) = 0 then x.maskB else n)
          ∧ (u.saf.ch ch).beforeA = x.lineA ∧ (u.saf.ch ch).beforeB = x.lineB ∧ u.regs = s.regs ∧ u.evt = s.evt)
      ∧ (s.saf.pulse ≠ some (src : Nat) → exec (.inputTestPulseEnd src t) s = .next s.silent)
      ∧ (s.saf.pulse = some (src : Nat) → ∃ u, exec (.inputTestPulseEnd src t) s = .next u ∧ u.saf.pulse = none
          ∧ (u.saf.ch ch).testF = x.testF ||| (s.pulseCheck x src).2 ∧ u.regs = s.regs ∧ u.lanes = s.lanes))
    ∧ (s.saf.island ≠ islRun → ∀ f : Fin 2, exec (.functionLockTimer ch f) s = .next s.silent)
    ∧ (s.saf.island = islRun →
      (∃ u, exec (.functionLockTimer ch 0) s = .next u ∧ (u.saf.ch ch).stb = x.stb ∧ u.regs = s.regs
        ∧ (u.saf.ch ch).spb = (if x.spb = fnDemand ∧ s.spbDemand x = false ∧ x.spbAt + 1000 ≤ s.mono then fnLocked else x.spb))
      ∧ (∃ u, exec (.functionLockTimer ch 1) s = .next u ∧ (u.saf.ch ch).spb = x.spb ∧ u.regs = s.regs
        ∧ (u.saf.ch ch).stb = (if x.stb = fnDemand ∧ s.stbDemand x = false ∧ x.stbAt + 1000 ≤ s.mono then fnLocked else x.stb)))
    ∧ (let stuck (y : SafCh) : Prop := y.srst = true ∧ y.srstAt + 1000000 < s.mono
      let due := W.SAF_CTL_RST_MODE (s.word K.SAF_CTL) = false ∧ (stuck s.saf.chA ∨ stuck s.saf.chB)
      (due → exec (.resetStuckTimer t) s = .next (s.silent.raise 0x0A0E 0 0 t))
      ∧ (¬ due → exec (.resetStuckTimer t) s = .next s.silent))

/-- A lane island that must confirm a channel's block and does not loses its transmitter supply, and the island of
safety enters FAULT with no output energised; of any other lane island the state stays as it was. Readbacks that are
all good, or of outputs under a test pulse, leave the island's state and the events and end every run of bad ones; the
third bad readback in a row, against the channel's own command, of an output under no pulse brings FAULT with no
output energised. An overload of an energised output turns it off and is latched; of any other output the state stays
as it was. A test pulse starts at an output exactly where one is due for the channel; its end, where that channel's
pulse runs, is judged once: a switch that opened leaves the island's state and the events, one that did not brings
FAULT with no output energised; where it does not run the state stays as it was. Without SOV every output is off; its
return is noted with its time, and leaves the outputs off while the loss is latched; where SOV was there it leaves the
state as it was. -/
def Obligations.SafetyFaultsStopTheOutputs : Prop :=
  ∀ (s : State) (ch : Fin 2) (t : Tick),
    (∀ isl : Fin 8,
      ((s.islandsOf (s.channelMask (s.saf.ch ch))).testBit isl = false → exec (.blockConfirmTimeout isl ch t) s =
        .next s.silent)
      ∧ ((s.islandsOf (s.channelMask (s.saf.ch ch))).testBit isl = true → ∃ u, exec (.blockConfirmTimeout isl ch t) s =
        .next u ∧ u.saf.island = islFault ∧ u.saf.energised = 0 ∧ (∀ i : Fin 8, (u.lane (8 * isl + i)).cut = true)
        ∧ u.regs = s.regs))
    ∧ (∀ (pins : List (BitVec 16 × BitVec 16)) (sov : BitVec 16), pins.length = 4 →
      let x := s.saf.ch ch
      let bad (k : Fin 4) (p : BitVec 16 × BitVec 16) : Prop := Tab.get (fun _ => 0) s.saf.tp k = 0
        ∧ readbackBad (x.cmd.testBit k) p.1.toNat p.2.toNat sov.toNat = true
      ((∀ (k : Fin 4) p, pins[(k : Nat)]? = some p → ¬ bad k p) →
        ∃ u, exec (.outputReadback ch pins sov t) s = .next u ∧ u.saf.island = s.saf.island ∧ u.evt = s.evt
          ∧ u.regs = s.regs ∧ (∀ k : Fin 4, Tab.get (fun _ => 0) (u.saf.ch ch).bad k = 0))
      ∧ (∀ (k : Fin 4) p, pins[(k : Nat)]? = some p → bad k p →
        2 ≤ Tab.get (fun _ => 0) x.bad k → ∃ u, exec (.outputReadback ch pins sov t) s = .next u
          ∧ u.saf.island = islFault ∧ u.saf.energised = 0 ∧ u.regs = s.regs ∧ u.lanes = s.lanes)
      ∧ ((∀ k : Fin 4, Tab.get (fun _ => 0) x.bad k < 2) → ∃ u, exec (.outputReadback ch pins sov t) s = .next u
          ∧ u.saf.island = s.saf.island ∧ u.evt = s.evt ∧ u.regs = s.regs
          ∧ (∀ (k : Fin 4) p, pins[(k : Nat)]? = some p → bad k p →
            Tab.get (fun _ => 0) (u.saf.ch ch).bad k = Tab.get (fun _ => 0) x.bad k + 1)))
    ∧ (∀ k : Fin 4,
      (s.saf.energised.testBit k = false → exec (.outputOverload k ch t) s = .next s.silent)
      ∧ (s.saf.energised.testBit k = true → ∃ u, exec (.outputOverload k ch t) s = .next u
          ∧ u.saf.energised.testBit k = false ∧ u.saf.ovl.testBit k = true ∧ u.regs = s.regs)
      ∧ (s.outPulseDue k ch = true → ∃ u, exec (.outputTestPulse k ch) s = .next u
          ∧ Tab.get (fun _ => 0) u.saf.tp k = (ch : Nat) + 1
          ∧ u.saf.chA = s.saf.chA ∧ u.saf.chB = s.saf.chB ∧ u.regs = s.regs)
      ∧ (s.outPulseDue k ch = false → exec (.outputTestPulse k ch) s = .next s.silent)
      ∧ (Tab.get (fun _ => 0) s.saf.tp k ≠ (ch : Nat) + 1 → ∀ off, exec (.outputTestPulseEnd k ch off t) s = .next s.silent)
      ∧ (Tab.get (fun _ => 0) s.saf.tp k = (ch : Nat) + 1 →
        (∃ u, exec (.outputTestPulseEnd k ch true t) s = .next u ∧ Tab.get (fun _ => 0) u.saf.tp k = 0
          ∧ u.saf.island = s.saf.island ∧ u.evt = s.evt ∧ u.regs = s.regs)
        ∧ (∃ u, exec (.outputTestPulseEnd k ch false t) s = .next u ∧ u.saf.island = islFault ∧ u.saf.energised = 0
          ∧ u.regs = s.regs)))
    ∧ (∃ u, exec (.sovLoss t) s = .next u ∧ u.saf.sovOk = false ∧ u.saf.sovLost = true ∧ u.saf.energised = 0
        ∧ u.regs = s.regs ∧ u.lanes = s.lanes)
    ∧ (s.saf.sovOk = true → exec .sovReturn s = .next s.silent)
    ∧ (s.saf.sovOk = false → ∃ u, exec .sovReturn s = .next u ∧ u.saf.sovOk = true ∧ u.saf.sovAt = s.mono
        ∧ (s.saf.sovLost = true → u.saf.energised = 0) ∧ u.regs = s.regs)

/-- A reset that is asked for in RUN without a stuck SRST releases each function that no channel demands and leaves
one that a channel demands; any other leaves the state as it was. At the cross link channels that agree under a good
clock end the run of differences and leave the island's state; a bad clock, or a third difference in a row, brings
FAULT with no output energised. The start tests of a powered module in START bring FAULT where an enabled output or
the clock fails; where these pass and no enabled input fails they end in RUN if BOOT is complete and in START if not;
with a failed input START stays and its fault is latched in both channels. Elsewhere or without power they leave the
state as it was. A channel's check of a frame that is not the one in the connection's mailbox, of a connection that is
not consumed, or of a frame that is not valid, leaves the state as it was; a frame that names another ID or time faults the connection, one at most 16 ahead keeps a
running one running with its data, one further ahead leaves the state as it was; in RESYNC the first sets the
sequence, the next in sequence runs the connection without its fault, another sets the sequence again. The watchdog
faults a consumed connection after TEXP without a frame, and earlier, or of one not consumed, leaves the state as it
was. A produced frame that is due leaves when both channels built the same bytes; where they differ FAULT follows with
no output energised; not due or not produced it leaves the state as it was. -/
def Obligations.SafetyResetLinkAndFrames : Prop :=
  ∀ (s : State) (t : Tick),
    let f := s.saf
    (f.island ≠ islRun ∨ s.isActive 0x0A0E 0 = true ∨ s.resetAsked = false → exec (.safetyReset t) s = .next s.silent)
    ∧ (f.island = islRun → s.isActive 0x0A0E 0 = false → s.resetAsked = true → ∃ u, exec (.safetyReset t) s = .next u
        ∧ u.saf.chA.spb = (if f.chA.spb ≠ fnDemand ∧ f.chB.spb ≠ fnDemand then fnPermit else f.chA.spb)
        ∧ u.saf.chB.spb = (if f.chA.spb ≠ fnDemand ∧ f.chB.spb ≠ fnDemand then fnPermit else f.chB.spb)
        ∧ u.saf.chA.stb = (if f.chA.stb ≠ fnDemand ∧ f.chB.stb ≠ fnDemand then fnPermit else f.chA.stb)
        ∧ u.saf.chB.stb = (if f.chA.stb ≠ fnDemand ∧ f.chB.stb ≠ fnDemand then fnPermit else f.chB.stb) ∧ u.regs = s.regs)
    ∧ (f.chA.spb = f.chB.spb → f.chA.stb = f.chB.stb → f.chA.cmd = f.chB.cmd → ∃ u, exec (.crossLinkExchange true t) s =
        .next u ∧ u.saf.crossRun = 0 ∧ u.saf.island = f.island ∧ u.regs = s.regs)
    ∧ (∃ u, exec (.crossLinkExchange false t) s = .next u ∧ u.saf.island = islFault ∧ u.saf.energised = 0 ∧ u.regs = s.regs)
    ∧ (f.chA.spb ≠ f.chB.spb ∨ f.chA.stb ≠ f.chB.stb ∨ f.chA.cmd ≠ f.chB.cmd →
        (2 ≤ f.crossRun → ∃ u, exec (.crossLinkExchange true t) s = .next u ∧ u.saf.island = islFault
          ∧ u.saf.energised = 0 ∧ u.regs = s.regs)
        ∧ (f.crossRun < 2 → ∃ u, exec (.crossLinkExchange true t) s = .next u ∧ u.saf.island = f.island
          ∧ u.saf.crossRun = f.crossRun + 1 ∧ u.regs = s.regs))
    ∧ (f.island = islStart → s.sys.powered = true → ∀ (outBad : BitVec 4) (inBad : Byte) (clockOk : Bool),
      let outs := ∃ k : Fin 4, outBad.getLsbD k = true ∧ W.SO_CFG_EN (s.soCfg k) = true
      let ins := ∃ n : Fin 8, inBad.getLsbD n = true ∧ W.SI_CFG_EN (s.siCfg n) = true
      (outs ∨ clockOk = false → ∃ u, exec (.safetyStartTestsDone outBad inBad clockOk t) s = .next u
        ∧ u.saf.island = islFault ∧ u.saf.energised = 0 ∧ u.regs = s.regs)
      ∧ (¬ outs → clockOk = true → ∃ u, exec (.safetyStartTestsDone outBad inBad clockOk t) s = .next u ∧ u.regs = s.regs
        ∧ (¬ ins → u.saf.island = (if s.boot.entered then islRun else islStart))
        ∧ (ins → u.saf.island = islStart)
        ∧ (∀ n : Fin 8, inBad.getLsbD n = true → W.SI_CFG_EN (s.siCfg n) = true → u.saf.chA.testF.testBit n = true
          ∧ u.saf.chB.testF.testBit n = true)))
    ∧ (f.island ≠ islStart ∨ s.sys.powered = false → ∀ outBad inBad clockOk,
        exec (.safetyStartTestsDone outBad inBad clockOk t) s = .next s.silent)
    ∧ (∀ (j : Fin 8) (ch : Fin 2),
      let y := (f.ch ch).conn j
      let frame := Tab.get (fun _ => []) s.net.mail j
      let sq : Word := BitVec.ofNat 32 (beAt frame 4 4)
      let mine := BitVec.ofNat 32 (beAt frame 0 4) = s.word (K.SFL_ID j) ∧ beAt frame 8 2 = W.SFL_CFG_TEXP (s.sflCfg j)
      let taken := s.consumed j = true ∧ safeFrameOk frame = true
      let late := s.consumed j = true ∧ y.since + W.SFL_CFG_TEXP (s.sflCfg j) * 100 ≤ s.mono
      (¬ late → exec (.sflWatchdogExpiry j ch t) s = .next s.silent)
      ∧ (late → ∃ u, exec (.sflWatchdogExpiry j ch t) s = .next u ∧ ((u.saf.ch ch).conn j).fault = true
        ∧ ((u.saf.ch ch).conn j).run = false ∧ u.regs = s.regs)
      ∧ (∀ f', f' ≠ frame → exec (.safeFrameReceive j ch f' t) s = .next s.silent)
      ∧ (¬ taken → exec (.safeFrameReceive j ch frame t) s = .next s.silent)
      ∧ (taken → ¬ mine → ∃ u, exec (.safeFrameReceive j ch frame t) s = .next u
        ∧ ((u.saf.ch ch).conn j).fault = true ∧ ((u.saf.ch ch).conn j).run = false ∧ u.regs = s.regs)
      ∧ (taken → mine → y.last = none → ∃ u, exec (.safeFrameReceive j ch frame t) s = .next u
        ∧ ((u.saf.ch ch).conn j) = { y with last := some sq } ∧ u.regs = s.regs)
      ∧ (∀ l, taken → mine → y.last = some l →
        (y.run = true → 1 ≤ (sq - l).toNat → (sq - l).toNat ≤ 16 → ∃ u, exec (.safeFrameReceive j ch frame t) s = .next u
          ∧ ((u.saf.ch ch).conn j).run = true ∧ ((u.saf.ch ch).conn j).last = some sq
          ∧ ((u.saf.ch ch).conn j).safe = BitVec.ofNat 16 (beAt frame 12 2)
          ∧ ((u.saf.ch ch).conn j).qual = BitVec.ofNat 16 (beAt frame 14 2) ∧ u.regs = s.regs)
        ∧ (y.run = true → (sq - l).toNat = 0 ∨ 16 < (sq - l).toNat → exec (.safeFrameReceive j ch frame t) s = .next s.silent)
        ∧ (y.run = false → sq - l = 1 → ∃ u, exec (.safeFrameReceive j ch frame t) s = .next u
          ∧ ((u.saf.ch ch).conn j).run = true ∧ ((u.saf.ch ch).conn j).fault = false ∧ u.regs = s.regs)
        ∧ (y.run = false → sq - l ≠ 1 → ∃ u, exec (.safeFrameReceive j ch frame t) s = .next u
          ∧ ((u.saf.ch ch).conn j) = { y with last := some sq } ∧ u.regs = s.regs)))
    ∧ (∀ (j : Fin 8) sq, sq = Tab.get (fun _ => (0 : Word)) f.sent j + 1 →
      (s.produced j = false ∨ s.frameDue j = false → exec (.safeFrameProduce j t) s = .next s.silent)
      ∧ (s.produced j = true → s.frameDue j = true →
        (s.safeFrame f.chA j sq = s.safeFrame f.chB j sq → ∃ u, exec (.safeFrameProduce j t) s = .next u
          ∧ Output.safe j (s.safeFrame f.chA j sq) ∈ u.out ∧ Tab.get (fun _ => 0) u.saf.sent j = sq ∧ u.regs = s.regs)
        ∧ (s.safeFrame f.chA j sq ≠ s.safeFrame f.chB j sq → ∃ u, exec (.safeFrameProduce j t) s = .next u
          ∧ u.saf.island = islFault ∧ u.saf.energised = 0 ∧ u.regs = s.regs)))

/-- On a module of no pair, and where their condition does not hold, the paths' rows, the give-up signal, the
failure's declaration, TOK_IN and the reversion's hold-off leave the state as it was. On a pair side a path that fails
reads lost, the quill's TOK_IN and the lane path's READY of the partner released with it, and the quill's return ends
the absence of both. A side that may declare the holder's failure declares it on the give-up signal, and under dual
heartbeat after both paths have been absent for 3 µs. At the claim a side that holds TOK_OUT takes what the quill
shows, one with a case of R350 becomes holder with the token, GRANT where TOK_IN is released, and one without takes
TOK_IN on a pair side. TOK_IN against a claim withdraws side B's, which joins, and takes GRANT from side A's. In the
cycle before the agreed boundary the holder releases its token to a READY partner and counts the handover; for one
that is not READY, or past the boundary, it cancels; earlier, or without a handover, or without the token, the state
stays as it was. Side A, standby and READY for HOLDOFF with AUTO_REV and without lock, asks for the token within its
limit and locks at it. -/
def Obligations.PathsAndTheTokenOfThePair : Prop :=
  ∀ (s : State) (t : Tick),
    let p := s.pair
    let c := s.word K.PAIR_CTL
    let side := s.pairSide = true
    let absent := ∃ b, p.bothLost = some b ∧ b + 18750 ≤ s.ticks t
    let declares := s.mayDeclare = true ∧ W.PAIR_CTL_DETECT c = true ∧ p.quill = false ∧ p.lane = false ∧ absent
    let asks := side ∧ s.sideB = false ∧ p.role = .standby ∧ p.ready = true ∧ W.PAIR_CTL_AUTO_REV c = true ∧ p.revLock = false
      ∧ p.readyAt + W.PAIR_CTL_HOLDOFF c * 100000 ≤ s.mono
    (¬ (side ∧ p.quill = true) → exec (.quillPathLoss t) s = .next s.silent)
    ∧ (side → p.quill = true → ∃ u, exec (.quillPathLoss t) s = .next u ∧ u.pair.quill = false ∧ u.pair.tokIn = false
        ∧ u.pair.tokOut = p.tokOut ∧ u.pair.role = p.role ∧ u.regs = s.regs)
    ∧ (¬ (side ∧ p.lane = true ∧ s.laneGone = true) → exec (.lanePathLoss t) s = .next s.silent)
    ∧ (side → p.lane = true → s.laneGone = true → ∃ u, exec (.lanePathLoss t) s = .next u ∧ u.pair.lane = false
        ∧ u.pair.pReady = false ∧ u.pair.tokOut = p.tokOut ∧ u.pair.role = p.role ∧ u.regs = s.regs)
    ∧ (¬ side → exec (.quillPathReturn t) s = .next s.silent)
    ∧ (side → exec (.quillPathReturn t) s = .next { s.silent with pair := { p with quill := true, bothLost := none } })
    ∧ (s.mayDeclare = false → exec (.giveupSignalDetect t) s = .next s.silent)
    ∧ (s.mayDeclare = true → exec (.giveupSignalDetect t) s =
        .next (({ s.silent with pair := { p with tokIn := false } } : State).declareFailure t))
    ∧ (declares → exec (.failureDeclare t) s = .next (s.silent.declareFailure t))
    ∧ (¬ declares → exec (.failureDeclare t) s = .next s.silent)
    ∧ (∀ tokIn released,
      (p.tokOut = true → exec (.tokenClaim tokIn released) s =
        .next { s.silent with pair := { p with tokIn := tokIn, grant := released && !tokIn } })
      ∧ (p.tokOut = false → s.claimCase tokIn = none → exec (.tokenClaim tokIn released) s =
        .next { s.silent with pair := { p with tokIn := if s.pairSide then tokIn else p.tokIn } })
      ∧ (∀ k, p.tokOut = false → s.claimCase tokIn = some k → ∃ u, exec (.tokenClaim tokIn released) s = .next u
        ∧ u.pair.role = .holder ∧ u.pair.tokOut = true ∧ u.pair.grant = (released && !tokIn)
        ∧ u.pair.last = (s.cycle + 1).setWidth 32 ∧ u.regs = s.regs))
    ∧ (¬ side → exec (.tokInAssert t) s = .next s.silent)
    ∧ (side →
      (p.tokOut = false → exec (.tokInAssert t) s = .next { s.silent with pair := { p with tokIn := true } })
      ∧ (p.tokOut = true → s.sideB = false → exec (.tokInAssert t) s =
        .next { s.silent with pair := { p with tokIn := true, grant := false } })
      ∧ (p.tokOut = true → s.sideB = true → ∃ u, exec (.tokInAssert t) s = .next u ∧ u.pair.tokOut = false
        ∧ u.pair.grant = false ∧ u.pair.role = .joining ∧ u.regs = s.regs))
    ∧ (s.pairOps.handover = none → exec .tokenReleaseHandover s = .next s.silent)
    ∧ (∀ h, s.pairOps.handover = some h →
      (p.role ≠ .holder ∨ p.tokOut = false ∨ s.mono + 1 < h → exec .tokenReleaseHandover s = .next s.silent)
      ∧ (p.role = .holder → p.tokOut = true → h ≤ s.mono + 1 →
        (h = s.mono + 1 → p.pReady = true → ∃ u, exec .tokenReleaseHandover s = .next u ∧ u.pair.tokOut = false
          ∧ u.pair.grant = false ∧ u.pair.role = .holder ∧ u.pair.handovers = (satInc p.handovers p.hndSat).1
          ∧ u.regs = s.regs)
        ∧ (h ≠ s.mono + 1 ∨ p.pReady = false → exec .tokenReleaseHandover s =
          .next { s.silent with pairOps := { s.pairOps with handover := none } })))
    ∧ (¬ asks → exec (.reversionHoldoffExpiry t) s = .next s.silent)
    ∧ (asks →
      (s.reversions < W.PAIR_CTL_REV_MAX c → exec (.reversionHoldoffExpiry t) s =
        .next { s.silent with pairOps := { s.pairOps with req := true } })
      ∧ (W.PAIR_CTL_REV_MAX c ≤ s.reversions → ∃ u, exec (.reversionHoldoffExpiry t) s = .next u ∧ u.pair.revLock = true
        ∧ u.pairOps.req = s.pairOps.req ∧ u.regs = s.regs))

/-- A frame leaves a pair side whose LIVE is high over an active bond, striped over the active lanes, and takes every
record not yet sent with it; else the state stays as it was. A frame that fails its CRC, comes to a side in role OUT,
comes over a bond that carries none whole, or comes to a module of no pair leaves the state as it was. The holder
takes a sound one: what it shows of the partner, the pair's events, its acknowledgement, then its request; a side in
another role has the lane path sound, no frame missing, and the partner's cycle and blocked stacks of the frame. /PBK/
forces the stacks of its mask off on a pair side in any role but OUT, and raises no event; else the state stays as it
was. At EFFECT the due records leave the list of those that wait, and with none waiting the state stays as it was. The
whole image brings a joining side to catching up, with the cycles that it lags; it becomes standby when it lags by
nothing; else both leave the state as it was. -/
def Obligations.PartnerFramesRecordsAndJoining : Prop :=
  ∀ (s : State) (t : Tick),
    let sends := s.pairSide = true ∧ s.sys.live = true ∧ s.bond.active ≠ 0
    let carries := s.pairSide = true ∧ s.pair.role ≠ .out ∧ s.bondCarries = true
    let blocks := s.pairSide = true ∧ s.pair.role ≠ .out
    let imaged := s.pair.role = .joining ∧ s.shadow.join = 1 ∧ s.shadow.imageCyc ≠ none
    let caught := s.pair.role = .joining ∧ s.shadow.join = 2 ∧ s.shadow.lag = 0
    (¬ sends → exec .partnerFrameSend s = .next s.silent)
    ∧ (sends → ∃ u, exec .partnerFrameSend s = .next u ∧ u.pairOps.toSend = []
        ∧ Output.partner (stripe s.bond.lanes (frameBytes s.silent.imageFor.ownFrame)) ∈ u.out
        ∧ u.regs = s.regs ∧ u.lanes = s.lanes)
    ∧ (∀ (f : PFrame) (crcOk : Bool),
      (¬ carries ∨ crcOk = false → exec (.partnerFrameReceive f crcOk t) s = .next s.silent)
      ∧ (carries → crcOk = true →
        (s.pair.role = .holder → exec (.partnerFrameReceive f crcOk t) s =
          .next ((((s.silent.seePartner f).pairEvents t).takeAck f.ack).leadFrame f t))
        ∧ (s.pair.role ≠ .holder → ∃ u, exec (.partnerFrameReceive f crcOk t) s = .next u ∧ u.pair.lane = true
          ∧ u.shadow.lost = 0 ∧ u.shadow.rxCycle = f.cycle ∧ u.shadow.pBlocked = f.blocked ∧ u.pending = s.pending)))
    ∧ (∀ mask : BitVec 16,
      (¬ blocks → exec (.pbk mask t) s = .next s.silent)
      ∧ (blocks → ∃ u, exec (.pbk mask t) s = .next u ∧ u.evt.forced = s.evt.forced ||| mask.toNat
          ∧ u.evt.active = s.evt.active ∧ u.regs = s.regs))
    ∧ (∃ u, exec .replicatedRecordApply s = .next u
        ∧ u.cycle = s.cycle ∧ u.mono = s.mono ∧ u.pending = s.pending
        ∧ (∀ r ∈ u.pairOps.records, s.mono < r.effect) ∧ (s.pairOps.records = [] → u = s.silent))
    ∧ (¬ imaged → exec .joinImageComplete s = .next s.silent)
    ∧ (∀ j, imaged → s.shadow.imageCyc = some j → ∃ u, exec .joinImageComplete s = .next u
        ∧ u.shadow.join = 2 ∧ u.shadow.imageBuf = [] ∧ u.pending = s.pending
        ∧ u.shadow.lag = s.mono - s.elapsedOf j - (if s.duct.latchAt = s.mono + 1 then 1 else 2))
    ∧ (caught → exec .joinCatchupComplete s =
        .next { s.silent with pair := { s.pair with role := Role.standby }
                              shadow := { s.shadow with join := 3, relayOff := 0, matchRun := 0 } })
    ∧ (¬ caught → exec .joinCatchupComplete s = .next s.silent)

/-- While VALID is 0 an event of class CELL or above that is raised, and was not active, is captured: VALID, class,
instance and code in FE_INFO, the cycle in FE_CYC and FE_TICK with the tick, and its DETAIL in FE_DETAIL. An event of
a lower class, one that is active already, and, while VALID is 1, one that is not of the captured event's tick or
comes after it in queue order, which is by code and then by instance, leave the capture unchanged. Of two such events
raised in one tick while VALID is 0, in whichever order, the one first in queue order is captured. A 1 written to
VALID makes it 0, and a 0 leaves it. -/
def Obligations.TheFirstEventIsCaptured : Prop :=
  ∀ (s : State) (code inst : Nat) (detail : Word) (t : Nat), code < 65536 → inst < 4096 →
    let holds (e : Evt) (code inst : Nat) (detail : Word) : Prop := e.feValid = true
      ∧ e.feInfo = (at_ 1 31 ||| at_ (classOf code).code 28 ||| at_ inst 16 ||| at_ code 0)
      ∧ e.feCyc = BitVec.ofNat 32 (s.cycle.toNat >>> 16) ∧ e.feTick = (at_ (s.cycle.toNat % 65536) 16 ||| at_ t 0)
      ∧ e.feDetail = detail
    let e := (s.raise code inst detail t).evt
    let was := s.evt
    let captured := field was.feInfo 15 0 * 4096 + field was.feInfo 27 16
    let sameTick := was.feCyc = BitVec.ofNat 32 (s.cycle.toNat >>> 16) ∧ was.feTick = (at_ (s.cycle.toNat % 65536) 16 ||| at_ t 0)
    (was.feValid = false → 2 ≤ (classOf code).code → s.isActive code inst = false → holds e code inst detail)
    ∧ ((classOf code).code < 2 ∨ s.isActive code inst = true
        ∨ (was.feValid = true ∧ (¬ sameTick ∨ captured ≤ code * 4096 + inst)) →
      e.feValid = was.feValid ∧ e.feInfo = was.feInfo ∧ e.feCyc = was.feCyc ∧ e.feTick = was.feTick
      ∧ e.feDetail = was.feDetail)
    ∧ (∀ code2 inst2 detail2, code2 < 65536 → inst2 < 4096 → was.feValid = false →
      2 ≤ (classOf code).code → s.isActive code inst = false → 2 ≤ (classOf code2).code →
      (s.raise code inst detail t).isActive code2 inst2 = false →
      let e2 := ((s.raise code inst detail t).raise code2 inst2 detail2 t).evt
      if code2 < code ∨ (code2 = code ∧ inst2 < inst) then holds e2 code2 inst2 detail2 else holds e2 code inst detail)
    ∧ (∀ w : Word, (s.applyWord K.FE_INFO w t).evt.feValid = (was.feValid && !bit w 31)
      ∧ (s.applyWord K.FE_INFO w t).evt.feDetail = was.feDetail)

/-- An executed PAGE_GET of an existing page and a range inside it is answered OK with the words as they read,
whatever the module's state and whoever holds the lock. What a word reads as does not change with the words that a
transaction has staged, that wait for the next cycle or that wait as records of the pair; a WO word reads 0, and so
does an offset that the page's table does not give. -/
def Obligations.PageGetReadsTheValuesInForce : Prop :=
  (∀ (s : State) (r : Req) (p : List Byte), s.Accepts r 0 → p.length = 4 → pageExists (beAt p 0 2) = true →
    let u := s.begun r
    let n := if beAt p 3 1 = 0 then 256 else beAt p 3 1
    beAt p 2 1 + n ≤ 256 → ∃ t, exec (.pageGet r p) s = .next t ∧ t = (u.readEffects (reqSlot r) (beAt p 0 2) (beAt p 2 1)
      (beAt p 2 1 + n)).drawn.reply (reqSlot r) 0x0010 r.seq stOk
        (p ++ (List.range n).flatMap fun o => wordBytes (u.readWord (reqSlot r) (beAt p 0 2) (beAt p 2 1 + o))))
  ∧ (∀ (s : State) (i page off : Nat),
    (wordRow page off = none → s.readWord i page off = 0)
    ∧ (∀ row, wordRow page off = some row → row.acc = .wo → s.readWord i page off = 0)
    ∧ (∀ waiting, ({ s with nextW := waiting } : State).readWord i page off = s.readWord i page off)
    ∧ (∀ records, ({ s with pairOps := { s.pairOps with records := records } } : State).readWord i page off =
        s.readWord i page off)
    ∧ (∀ x staged, s.cmd.txn = some x → ({ s with cmd := { s.cmd with txn := some { x with staged := staged } } } :
        State).readWord i page off = s.readWord i page off))
end

