-- ==== Sys2Proof/Laws/Bits.lean ====
section
/-! SUPPORT. Single bits of the masks that the model builds, sets and clears. -/

namespace Sys2Proof.Machine

theorem testBit_one_shift (i k : Nat) : ((1 : Nat) <<< i).testBit k = decide (i = k) := by
  rw [Nat.one_shiftLeft, Nat.testBit_two_pow]

/-- Bit `k` of a mask built over the first `n` numbers. -/
@[simp] theorem maskOf_testBit (n k : Nat) (p : Nat → Bool) : (maskOf n p).testBit k = (decide (k < n) && p k) := by
  unfold maskOf
  induction n with
  | zero => simp
  | succ n ih =>
    rw [List.range_succ, List.foldl_append]
    simp only [List.foldl_cons, List.foldl_nil]
    by_cases h : p n = true
    · rw [if_pos h, Nat.testBit_or, ih, testBit_one_shift]
      by_cases e : n = k
      · subst e; simp [h]
      · have : (k < n + 1) ↔ (k < n) := by omega
        simp [e, this]
    · rw [if_neg h, ih]
      by_cases e : n = k
      · subst e; simp at h; simp [h]
      · have : (k < n + 1) ↔ (k < n) := by omega
        simp [this]

/-- Bit `k` of a mask in which bit `n` was set to `b`. -/
@[simp] theorem mset_testBit (m n k : Nat) (b : Bool) :
    (mset m n b).testBit k = if n = k then b else m.testBit k := by
  unfold mset
  cases b
  · simp only [Bool.false_eq_true, ↓reduceIte, Nat.testBit_xor, Nat.testBit_and, testBit_one_shift]
    by_cases e : n = k <;> simp [e]
  · simp only [↓reduceIte, Nat.testBit_or, testBit_one_shift]
    by_cases e : n = k <;> simp [e]

/-- Bit `k` of a mask without the bits of another. -/
@[simp] theorem mclr_testBit (m r k : Nat) : (mclr m r).testBit k = (m.testBit k && !r.testBit k) := by
  unfold mclr
  rw [Nat.testBit_xor, Nat.testBit_and]
  cases m.testBit k <;> cases r.testBit k <;> rfl

end Sys2Proof.Machine
end

