-- ==== Sys2Proof/Laws/State.lean ====
section
/-! SUPPORT. What each named update of the state leaves in each field, one lemma per field per update, all by `rfl`. -/

namespace Sys2Proof.Machine

/-! ## `setWord` -/

@[simp] theorem State.setWord_pending (s : State) (k : Nat) (v : Word) : (s.setWord k v).pending = s.pending := rfl
@[simp] theorem State.setWord_out (s : State) (k : Nat) (v : Word) : (s.setWord k v).out = s.out := rfl
@[simp] theorem State.setWord_cycle (s : State) (k : Nat) (v : Word) : (s.setWord k v).cycle = s.cycle := rfl
@[simp] theorem State.setWord_mono (s : State) (k : Nat) (v : Word) : (s.setWord k v).mono = s.mono := rfl
@[simp] theorem State.setWord_sys (s : State) (k : Nat) (v : Word) : (s.setWord k v).sys = s.sys := rfl
@[simp] theorem State.setWord_regs (s : State) (k : Nat) (v : Word) :
    (s.setWord k v).regs = Tab.put regReset s.regs k v := rfl
@[simp] theorem State.setWord_nextW (s : State) (k : Nat) (v : Word) : (s.setWord k v).nextW = s.nextW := rfl
@[simp] theorem State.setWord_evt (s : State) (k : Nat) (v : Word) : (s.setWord k v).evt = s.evt := rfl
@[simp] theorem State.setWord_cmd (s : State) (k : Nat) (v : Word) : (s.setWord k v).cmd = s.cmd := rfl
@[simp] theorem State.setWord_pair (s : State) (k : Nat) (v : Word) : (s.setWord k v).pair = s.pair := rfl
@[simp] theorem State.setWord_shadow (s : State) (k : Nat) (v : Word) : (s.setWord k v).shadow = s.shadow := rfl
@[simp] theorem State.setWord_pairOps (s : State) (k : Nat) (v : Word) : (s.setWord k v).pairOps = s.pairOps := rfl
@[simp] theorem State.setWord_boot (s : State) (k : Nat) (v : Word) : (s.setWord k v).boot = s.boot := rfl
@[simp] theorem State.setWord_jrnl (s : State) (k : Nat) (v : Word) : (s.setWord k v).jrnl = s.jrnl := rfl
@[simp] theorem State.setWord_cells (s : State) (k : Nat) (v : Word) : (s.setWord k v).cells = s.cells := rfl
@[simp] theorem State.setWord_mgmt (s : State) (k : Nat) (v : Word) : (s.setWord k v).mgmt = s.mgmt := rfl
@[simp] theorem State.setWord_echo (s : State) (k : Nat) (v : Word) : (s.setWord k v).echo = s.echo := rfl
@[simp] theorem State.setWord_strs (s : State) (k : Nat) (v : Word) : (s.setWord k v).strs = s.strs := rfl
@[simp] theorem State.setWord_lanes (s : State) (k : Nat) (v : Word) : (s.setWord k v).lanes = s.lanes := rfl
@[simp] theorem State.setWord_txs (s : State) (k : Nat) (v : Word) : (s.setWord k v).txs = s.txs := rfl
@[simp] theorem State.setWord_bond (s : State) (k : Nat) (v : Word) : (s.setWord k v).bond = s.bond := rfl
@[simp] theorem State.setWord_nibs (s : State) (k : Nat) (v : Word) : (s.setWord k v).nibs = s.nibs := rfl
@[simp] theorem State.setWord_nibx (s : State) (k : Nat) (v : Word) : (s.setWord k v).nibx = s.nibx := rfl
@[simp] theorem State.setWord_clk (s : State) (k : Nat) (v : Word) : (s.setWord k v).clk = s.clk := rfl
@[simp] theorem State.setWord_saf (s : State) (k : Nat) (v : Word) : (s.setWord k v).saf = s.saf := rfl
@[simp] theorem State.setWord_duct (s : State) (k : Nat) (v : Word) : (s.setWord k v).duct = s.duct := rfl
@[simp] theorem State.setWord_sched (s : State) (k : Nat) (v : Word) : (s.setWord k v).sched = s.sched := rfl
@[simp] theorem State.setWord_therm (s : State) (k : Nat) (v : Word) : (s.setWord k v).therm = s.therm := rfl
@[simp] theorem State.setWord_sup (s : State) (k : Nat) (v : Word) : (s.setWord k v).sup = s.sup := rfl
@[simp] theorem State.setWord_loops (s : State) (k : Nat) (v : Word) : (s.setWord k v).loops = s.loops := rfl
@[simp] theorem State.setWord_ai (s : State) (k : Nat) (v : Word) : (s.setWord k v).ai = s.ai := rfl
@[simp] theorem State.setWord_ink (s : State) (k : Nat) (v : Word) : (s.setWord k v).ink = s.ink := rfl
@[simp] theorem State.setWord_net (s : State) (k : Nat) (v : Word) : (s.setWord k v).net = s.net := rfl
@[simp] theorem State.setWord_free (s : State) (k : Nat) (v : Word) : (s.setWord k v).free = s.free := rfl

/-! ## `setCell` -/

@[simp] theorem State.setCell_pending (s : State) (ci : Nat) (x : Cell) : (s.setCell ci x).pending = s.pending := rfl
@[simp] theorem State.setCell_out (s : State) (ci : Nat) (x : Cell) : (s.setCell ci x).out = s.out := rfl
@[simp] theorem State.setCell_cycle (s : State) (ci : Nat) (x : Cell) : (s.setCell ci x).cycle = s.cycle := rfl
@[simp] theorem State.setCell_mono (s : State) (ci : Nat) (x : Cell) : (s.setCell ci x).mono = s.mono := rfl
@[simp] theorem State.setCell_sys (s : State) (ci : Nat) (x : Cell) : (s.setCell ci x).sys = s.sys := rfl
@[simp] theorem State.setCell_regs (s : State) (ci : Nat) (x : Cell) : (s.setCell ci x).regs = s.regs := rfl
@[simp] theorem State.setCell_nextW (s : State) (ci : Nat) (x : Cell) : (s.setCell ci x).nextW = s.nextW := rfl
@[simp] theorem State.setCell_evt (s : State) (ci : Nat) (x : Cell) : (s.setCell ci x).evt = s.evt := rfl
@[simp] theorem State.setCell_cmd (s : State) (ci : Nat) (x : Cell) : (s.setCell ci x).cmd = s.cmd := rfl
@[simp] theorem State.setCell_pair (s : State) (ci : Nat) (x : Cell) : (s.setCell ci x).pair = s.pair := rfl
@[simp] theorem State.setCell_shadow (s : State) (ci : Nat) (x : Cell) : (s.setCell ci x).shadow = s.shadow := rfl
@[simp] theorem State.setCell_pairOps (s : State) (ci : Nat) (x : Cell) : (s.setCell ci x).pairOps = s.pairOps := rfl
@[simp] theorem State.setCell_boot (s : State) (ci : Nat) (x : Cell) : (s.setCell ci x).boot = s.boot := rfl
@[simp] theorem State.setCell_jrnl (s : State) (ci : Nat) (x : Cell) : (s.setCell ci x).jrnl = s.jrnl := rfl
@[simp] theorem State.setCell_cells (s : State) (ci : Nat) (x : Cell) :
    (s.setCell ci x).cells = Tab.put (fun _ => Cell.init) s.cells ci x := rfl
@[simp] theorem State.setCell_mgmt (s : State) (ci : Nat) (x : Cell) : (s.setCell ci x).mgmt = s.mgmt := rfl
@[simp] theorem State.setCell_echo (s : State) (ci : Nat) (x : Cell) : (s.setCell ci x).echo = s.echo := rfl
@[simp] theorem State.setCell_strs (s : State) (ci : Nat) (x : Cell) : (s.setCell ci x).strs = s.strs := rfl
@[simp] theorem State.setCell_lanes (s : State) (ci : Nat) (x : Cell) : (s.setCell ci x).lanes = s.lanes := rfl
@[simp] theorem State.setCell_txs (s : State) (ci : Nat) (x : Cell) : (s.setCell ci x).txs = s.txs := rfl
@[simp] theorem State.setCell_bond (s : State) (ci : Nat) (x : Cell) : (s.setCell ci x).bond = s.bond := rfl
@[simp] theorem State.setCell_nibs (s : State) (ci : Nat) (x : Cell) : (s.setCell ci x).nibs = s.nibs := rfl
@[simp] theorem State.setCell_nibx (s : State) (ci : Nat) (x : Cell) : (s.setCell ci x).nibx = s.nibx := rfl
@[simp] theorem State.setCell_clk (s : State) (ci : Nat) (x : Cell) : (s.setCell ci x).clk = s.clk := rfl
@[simp] theorem State.setCell_saf (s : State) (ci : Nat) (x : Cell) : (s.setCell ci x).saf = s.saf := rfl
@[simp] theorem State.setCell_duct (s : State) (ci : Nat) (x : Cell) : (s.setCell ci x).duct = s.duct := rfl
@[simp] theorem State.setCell_sched (s : State) (ci : Nat) (x : Cell) : (s.setCell ci x).sched = s.sched := rfl
@[simp] theorem State.setCell_therm (s : State) (ci : Nat) (x : Cell) : (s.setCell ci x).therm = s.therm := rfl
@[simp] theorem State.setCell_sup (s : State) (ci : Nat) (x : Cell) : (s.setCell ci x).sup = s.sup := rfl
@[simp] theorem State.setCell_loops (s : State) (ci : Nat) (x : Cell) : (s.setCell ci x).loops = s.loops := rfl
@[simp] theorem State.setCell_ai (s : State) (ci : Nat) (x : Cell) : (s.setCell ci x).ai = s.ai := rfl
@[simp] theorem State.setCell_ink (s : State) (ci : Nat) (x : Cell) : (s.setCell ci x).ink = s.ink := rfl
@[simp] theorem State.setCell_net (s : State) (ci : Nat) (x : Cell) : (s.setCell ci x).net = s.net := rfl
@[simp] theorem State.setCell_free (s : State) (ci : Nat) (x : Cell) : (s.setCell ci x).free = s.free := rfl

/-! ## `setMg` -/

@[simp] theorem State.setMg_pending (s : State) (ci : Nat) (x : Mgmt) : (s.setMg ci x).pending = s.pending := rfl
@[simp] theorem State.setMg_out (s : State) (ci : Nat) (x : Mgmt) : (s.setMg ci x).out = s.out := rfl
@[simp] theorem State.setMg_cycle (s : State) (ci : Nat) (x : Mgmt) : (s.setMg ci x).cycle = s.cycle := rfl
@[simp] theorem State.setMg_mono (s : State) (ci : Nat) (x : Mgmt) : (s.setMg ci x).mono = s.mono := rfl
@[simp] theorem State.setMg_sys (s : State) (ci : Nat) (x : Mgmt) : (s.setMg ci x).sys = s.sys := rfl
@[simp] theorem State.setMg_regs (s : State) (ci : Nat) (x : Mgmt) : (s.setMg ci x).regs = s.regs := rfl
@[simp] theorem State.setMg_nextW (s : State) (ci : Nat) (x : Mgmt) : (s.setMg ci x).nextW = s.nextW := rfl
@[simp] theorem State.setMg_evt (s : State) (ci : Nat) (x : Mgmt) : (s.setMg ci x).evt = s.evt := rfl
@[simp] theorem State.setMg_cmd (s : State) (ci : Nat) (x : Mgmt) : (s.setMg ci x).cmd = s.cmd := rfl
@[simp] theorem State.setMg_pair (s : State) (ci : Nat) (x : Mgmt) : (s.setMg ci x).pair = s.pair := rfl
@[simp] theorem State.setMg_shadow (s : State) (ci : Nat) (x : Mgmt) : (s.setMg ci x).shadow = s.shadow := rfl
@[simp] theorem State.setMg_pairOps (s : State) (ci : Nat) (x : Mgmt) : (s.setMg ci x).pairOps = s.pairOps := rfl
@[simp] theorem State.setMg_boot (s : State) (ci : Nat) (x : Mgmt) : (s.setMg ci x).boot = s.boot := rfl
@[simp] theorem State.setMg_jrnl (s : State) (ci : Nat) (x : Mgmt) : (s.setMg ci x).jrnl = s.jrnl := rfl
@[simp] theorem State.setMg_cells (s : State) (ci : Nat) (x : Mgmt) : (s.setMg ci x).cells = s.cells := rfl
@[simp] theorem State.setMg_mgmt (s : State) (ci : Nat) (x : Mgmt) :
    (s.setMg ci x).mgmt = Tab.put (fun _ => Mgmt.init) s.mgmt ci x := rfl
@[simp] theorem State.setMg_echo (s : State) (ci : Nat) (x : Mgmt) : (s.setMg ci x).echo = s.echo := rfl
@[simp] theorem State.setMg_strs (s : State) (ci : Nat) (x : Mgmt) : (s.setMg ci x).strs = s.strs := rfl
@[simp] theorem State.setMg_lanes (s : State) (ci : Nat) (x : Mgmt) : (s.setMg ci x).lanes = s.lanes := rfl
@[simp] theorem State.setMg_txs (s : State) (ci : Nat) (x : Mgmt) : (s.setMg ci x).txs = s.txs := rfl
@[simp] theorem State.setMg_bond (s : State) (ci : Nat) (x : Mgmt) : (s.setMg ci x).bond = s.bond := rfl
@[simp] theorem State.setMg_nibs (s : State) (ci : Nat) (x : Mgmt) : (s.setMg ci x).nibs = s.nibs := rfl
@[simp] theorem State.setMg_nibx (s : State) (ci : Nat) (x : Mgmt) : (s.setMg ci x).nibx = s.nibx := rfl
@[simp] theorem State.setMg_clk (s : State) (ci : Nat) (x : Mgmt) : (s.setMg ci x).clk = s.clk := rfl
@[simp] theorem State.setMg_saf (s : State) (ci : Nat) (x : Mgmt) : (s.setMg ci x).saf = s.saf := rfl
@[simp] theorem State.setMg_duct (s : State) (ci : Nat) (x : Mgmt) : (s.setMg ci x).duct = s.duct := rfl
@[simp] theorem State.setMg_sched (s : State) (ci : Nat) (x : Mgmt) : (s.setMg ci x).sched = s.sched := rfl
@[simp] theorem State.setMg_therm (s : State) (ci : Nat) (x : Mgmt) : (s.setMg ci x).therm = s.therm := rfl
@[simp] theorem State.setMg_sup (s : State) (ci : Nat) (x : Mgmt) : (s.setMg ci x).sup = s.sup := rfl
@[simp] theorem State.setMg_loops (s : State) (ci : Nat) (x : Mgmt) : (s.setMg ci x).loops = s.loops := rfl
@[simp] theorem State.setMg_ai (s : State) (ci : Nat) (x : Mgmt) : (s.setMg ci x).ai = s.ai := rfl
@[simp] theorem State.setMg_ink (s : State) (ci : Nat) (x : Mgmt) : (s.setMg ci x).ink = s.ink := rfl
@[simp] theorem State.setMg_net (s : State) (ci : Nat) (x : Mgmt) : (s.setMg ci x).net = s.net := rfl
@[simp] theorem State.setMg_free (s : State) (ci : Nat) (x : Mgmt) : (s.setMg ci x).free = s.free := rfl

/-! ## `setStr` -/

@[simp] theorem State.setStr_pending (s : State) (p : Nat) (x : Str) : (s.setStr p x).pending = s.pending := rfl
@[simp] theorem State.setStr_out (s : State) (p : Nat) (x : Str) : (s.setStr p x).out = s.out := rfl
@[simp] theorem State.setStr_cycle (s : State) (p : Nat) (x : Str) : (s.setStr p x).cycle = s.cycle := rfl
@[simp] theorem State.setStr_mono (s : State) (p : Nat) (x : Str) : (s.setStr p x).mono = s.mono := rfl
@[simp] theorem State.setStr_sys (s : State) (p : Nat) (x : Str) : (s.setStr p x).sys = s.sys := rfl
@[simp] theorem State.setStr_regs (s : State) (p : Nat) (x : Str) : (s.setStr p x).regs = s.regs := rfl
@[simp] theorem State.setStr_nextW (s : State) (p : Nat) (x : Str) : (s.setStr p x).nextW = s.nextW := rfl
@[simp] theorem State.setStr_evt (s : State) (p : Nat) (x : Str) : (s.setStr p x).evt = s.evt := rfl
@[simp] theorem State.setStr_cmd (s : State) (p : Nat) (x : Str) : (s.setStr p x).cmd = s.cmd := rfl
@[simp] theorem State.setStr_pair (s : State) (p : Nat) (x : Str) : (s.setStr p x).pair = s.pair := rfl
@[simp] theorem State.setStr_shadow (s : State) (p : Nat) (x : Str) : (s.setStr p x).shadow = s.shadow := rfl
@[simp] theorem State.setStr_pairOps (s : State) (p : Nat) (x : Str) : (s.setStr p x).pairOps = s.pairOps := rfl
@[simp] theorem State.setStr_boot (s : State) (p : Nat) (x : Str) : (s.setStr p x).boot = s.boot := rfl
@[simp] theorem State.setStr_jrnl (s : State) (p : Nat) (x : Str) : (s.setStr p x).jrnl = s.jrnl := rfl
@[simp] theorem State.setStr_cells (s : State) (p : Nat) (x : Str) : (s.setStr p x).cells = s.cells := rfl
@[simp] theorem State.setStr_mgmt (s : State) (p : Nat) (x : Str) : (s.setStr p x).mgmt = s.mgmt := rfl
@[simp] theorem State.setStr_echo (s : State) (p : Nat) (x : Str) : (s.setStr p x).echo = s.echo := rfl
@[simp] theorem State.setStr_strs (s : State) (p : Nat) (x : Str) :
    (s.setStr p x).strs = Tab.put (fun _ => Str.init) s.strs p x := rfl
@[simp] theorem State.setStr_lanes (s : State) (p : Nat) (x : Str) : (s.setStr p x).lanes = s.lanes := rfl
@[simp] theorem State.setStr_txs (s : State) (p : Nat) (x : Str) : (s.setStr p x).txs = s.txs := rfl
@[simp] theorem State.setStr_bond (s : State) (p : Nat) (x : Str) : (s.setStr p x).bond = s.bond := rfl
@[simp] theorem State.setStr_nibs (s : State) (p : Nat) (x : Str) : (s.setStr p x).nibs = s.nibs := rfl
@[simp] theorem State.setStr_nibx (s : State) (p : Nat) (x : Str) : (s.setStr p x).nibx = s.nibx := rfl
@[simp] theorem State.setStr_clk (s : State) (p : Nat) (x : Str) : (s.setStr p x).clk = s.clk := rfl
@[simp] theorem State.setStr_saf (s : State) (p : Nat) (x : Str) : (s.setStr p x).saf = s.saf := rfl
@[simp] theorem State.setStr_duct (s : State) (p : Nat) (x : Str) : (s.setStr p x).duct = s.duct := rfl
@[simp] theorem State.setStr_sched (s : State) (p : Nat) (x : Str) : (s.setStr p x).sched = s.sched := rfl
@[simp] theorem State.setStr_therm (s : State) (p : Nat) (x : Str) : (s.setStr p x).therm = s.therm := rfl
@[simp] theorem State.setStr_sup (s : State) (p : Nat) (x : Str) : (s.setStr p x).sup = s.sup := rfl
@[simp] theorem State.setStr_loops (s : State) (p : Nat) (x : Str) : (s.setStr p x).loops = s.loops := rfl
@[simp] theorem State.setStr_ai (s : State) (p : Nat) (x : Str) : (s.setStr p x).ai = s.ai := rfl
@[simp] theorem State.setStr_ink (s : State) (p : Nat) (x : Str) : (s.setStr p x).ink = s.ink := rfl
@[simp] theorem State.setStr_net (s : State) (p : Nat) (x : Str) : (s.setStr p x).net = s.net := rfl
@[simp] theorem State.setStr_free (s : State) (p : Nat) (x : Str) : (s.setStr p x).free = s.free := rfl

/-! ## `setLane` -/

@[simp] theorem State.setLane_pending (s : State) (i : Nat) (x : Lane) : (s.setLane i x).pending = s.pending := rfl
@[simp] theorem State.setLane_out (s : State) (i : Nat) (x : Lane) : (s.setLane i x).out = s.out := rfl
@[simp] theorem State.setLane_cycle (s : State) (i : Nat) (x : Lane) : (s.setLane i x).cycle = s.cycle := rfl
@[simp] theorem State.setLane_mono (s : State) (i : Nat) (x : Lane) : (s.setLane i x).mono = s.mono := rfl
@[simp] theorem State.setLane_sys (s : State) (i : Nat) (x : Lane) : (s.setLane i x).sys = s.sys := rfl
@[simp] theorem State.setLane_regs (s : State) (i : Nat) (x : Lane) : (s.setLane i x).regs = s.regs := rfl
@[simp] theorem State.setLane_nextW (s : State) (i : Nat) (x : Lane) : (s.setLane i x).nextW = s.nextW := rfl
@[simp] theorem State.setLane_evt (s : State) (i : Nat) (x : Lane) : (s.setLane i x).evt = s.evt := rfl
@[simp] theorem State.setLane_cmd (s : State) (i : Nat) (x : Lane) : (s.setLane i x).cmd = s.cmd := rfl
@[simp] theorem State.setLane_pair (s : State) (i : Nat) (x : Lane) : (s.setLane i x).pair = s.pair := rfl
@[simp] theorem State.setLane_shadow (s : State) (i : Nat) (x : Lane) : (s.setLane i x).shadow = s.shadow := rfl
@[simp] theorem State.setLane_pairOps (s : State) (i : Nat) (x : Lane) : (s.setLane i x).pairOps = s.pairOps := rfl
@[simp] theorem State.setLane_boot (s : State) (i : Nat) (x : Lane) : (s.setLane i x).boot = s.boot := rfl
@[simp] theorem State.setLane_jrnl (s : State) (i : Nat) (x : Lane) : (s.setLane i x).jrnl = s.jrnl := rfl
@[simp] theorem State.setLane_cells (s : State) (i : Nat) (x : Lane) : (s.setLane i x).cells = s.cells := rfl
@[simp] theorem State.setLane_mgmt (s : State) (i : Nat) (x : Lane) : (s.setLane i x).mgmt = s.mgmt := rfl
@[simp] theorem State.setLane_echo (s : State) (i : Nat) (x : Lane) : (s.setLane i x).echo = s.echo := rfl
@[simp] theorem State.setLane_strs (s : State) (i : Nat) (x : Lane) : (s.setLane i x).strs = s.strs := rfl
@[simp] theorem State.setLane_lanes (s : State) (i : Nat) (x : Lane) :
    (s.setLane i x).lanes = Tab.put (fun _ => Lane.init) s.lanes i x := rfl
@[simp] theorem State.setLane_txs (s : State) (i : Nat) (x : Lane) : (s.setLane i x).txs = s.txs := rfl
@[simp] theorem State.setLane_bond (s : State) (i : Nat) (x : Lane) : (s.setLane i x).bond = s.bond := rfl
@[simp] theorem State.setLane_nibs (s : State) (i : Nat) (x : Lane) : (s.setLane i x).nibs = s.nibs := rfl
@[simp] theorem State.setLane_nibx (s : State) (i : Nat) (x : Lane) : (s.setLane i x).nibx = s.nibx := rfl
@[simp] theorem State.setLane_clk (s : State) (i : Nat) (x : Lane) : (s.setLane i x).clk = s.clk := rfl
@[simp] theorem State.setLane_saf (s : State) (i : Nat) (x : Lane) : (s.setLane i x).saf = s.saf := rfl
@[simp] theorem State.setLane_duct (s : State) (i : Nat) (x : Lane) : (s.setLane i x).duct = s.duct := rfl
@[simp] theorem State.setLane_sched (s : State) (i : Nat) (x : Lane) : (s.setLane i x).sched = s.sched := rfl
@[simp] theorem State.setLane_therm (s : State) (i : Nat) (x : Lane) : (s.setLane i x).therm = s.therm := rfl
@[simp] theorem State.setLane_sup (s : State) (i : Nat) (x : Lane) : (s.setLane i x).sup = s.sup := rfl
@[simp] theorem State.setLane_loops (s : State) (i : Nat) (x : Lane) : (s.setLane i x).loops = s.loops := rfl
@[simp] theorem State.setLane_ai (s : State) (i : Nat) (x : Lane) : (s.setLane i x).ai = s.ai := rfl
@[simp] theorem State.setLane_ink (s : State) (i : Nat) (x : Lane) : (s.setLane i x).ink = s.ink := rfl
@[simp] theorem State.setLane_net (s : State) (i : Nat) (x : Lane) : (s.setLane i x).net = s.net := rfl
@[simp] theorem State.setLane_free (s : State) (i : Nat) (x : Lane) : (s.setLane i x).free = s.free := rfl

/-! ## `setTx` -/

@[simp] theorem State.setTx_pending (s : State) (p : Nat) (x : Tx) : (s.setTx p x).pending = s.pending := rfl
@[simp] theorem State.setTx_out (s : State) (p : Nat) (x : Tx) : (s.setTx p x).out = s.out := rfl
@[simp] theorem State.setTx_cycle (s : State) (p : Nat) (x : Tx) : (s.setTx p x).cycle = s.cycle := rfl
@[simp] theorem State.setTx_mono (s : State) (p : Nat) (x : Tx) : (s.setTx p x).mono = s.mono := rfl
@[simp] theorem State.setTx_sys (s : State) (p : Nat) (x : Tx) : (s.setTx p x).sys = s.sys := rfl
@[simp] theorem State.setTx_regs (s : State) (p : Nat) (x : Tx) : (s.setTx p x).regs = s.regs := rfl
@[simp] theorem State.setTx_nextW (s : State) (p : Nat) (x : Tx) : (s.setTx p x).nextW = s.nextW := rfl
@[simp] theorem State.setTx_evt (s : State) (p : Nat) (x : Tx) : (s.setTx p x).evt = s.evt := rfl
@[simp] theorem State.setTx_cmd (s : State) (p : Nat) (x : Tx) : (s.setTx p x).cmd = s.cmd := rfl
@[simp] theorem State.setTx_pair (s : State) (p : Nat) (x : Tx) : (s.setTx p x).pair = s.pair := rfl
@[simp] theorem State.setTx_shadow (s : State) (p : Nat) (x : Tx) : (s.setTx p x).shadow = s.shadow := rfl
@[simp] theorem State.setTx_pairOps (s : State) (p : Nat) (x : Tx) : (s.setTx p x).pairOps = s.pairOps := rfl
@[simp] theorem State.setTx_boot (s : State) (p : Nat) (x : Tx) : (s.setTx p x).boot = s.boot := rfl
@[simp] theorem State.setTx_jrnl (s : State) (p : Nat) (x : Tx) : (s.setTx p x).jrnl = s.jrnl := rfl
@[simp] theorem State.setTx_cells (s : State) (p : Nat) (x : Tx) : (s.setTx p x).cells = s.cells := rfl
@[simp] theorem State.setTx_mgmt (s : State) (p : Nat) (x : Tx) : (s.setTx p x).mgmt = s.mgmt := rfl
@[simp] theorem State.setTx_echo (s : State) (p : Nat) (x : Tx) : (s.setTx p x).echo = s.echo := rfl
@[simp] theorem State.setTx_strs (s : State) (p : Nat) (x : Tx) : (s.setTx p x).strs = s.strs := rfl
@[simp] theorem State.setTx_lanes (s : State) (p : Nat) (x : Tx) : (s.setTx p x).lanes = s.lanes := rfl
@[simp] theorem State.setTx_txs (s : State) (p : Nat) (x : Tx) :
    (s.setTx p x).txs = Tab.put (fun _ => Tx.init) s.txs p x := rfl
@[simp] theorem State.setTx_bond (s : State) (p : Nat) (x : Tx) : (s.setTx p x).bond = s.bond := rfl
@[simp] theorem State.setTx_nibs (s : State) (p : Nat) (x : Tx) : (s.setTx p x).nibs = s.nibs := rfl
@[simp] theorem State.setTx_nibx (s : State) (p : Nat) (x : Tx) : (s.setTx p x).nibx = s.nibx := rfl
@[simp] theorem State.setTx_clk (s : State) (p : Nat) (x : Tx) : (s.setTx p x).clk = s.clk := rfl
@[simp] theorem State.setTx_saf (s : State) (p : Nat) (x : Tx) : (s.setTx p x).saf = s.saf := rfl
@[simp] theorem State.setTx_duct (s : State) (p : Nat) (x : Tx) : (s.setTx p x).duct = s.duct := rfl
@[simp] theorem State.setTx_sched (s : State) (p : Nat) (x : Tx) : (s.setTx p x).sched = s.sched := rfl
@[simp] theorem State.setTx_therm (s : State) (p : Nat) (x : Tx) : (s.setTx p x).therm = s.therm := rfl
@[simp] theorem State.setTx_sup (s : State) (p : Nat) (x : Tx) : (s.setTx p x).sup = s.sup := rfl
@[simp] theorem State.setTx_loops (s : State) (p : Nat) (x : Tx) : (s.setTx p x).loops = s.loops := rfl
@[simp] theorem State.setTx_ai (s : State) (p : Nat) (x : Tx) : (s.setTx p x).ai = s.ai := rfl
@[simp] theorem State.setTx_ink (s : State) (p : Nat) (x : Tx) : (s.setTx p x).ink = s.ink := rfl
@[simp] theorem State.setTx_net (s : State) (p : Nat) (x : Tx) : (s.setTx p x).net = s.net := rfl
@[simp] theorem State.setTx_free (s : State) (p : Nat) (x : Tx) : (s.setTx p x).free = s.free := rfl

/-! ## `setNib` -/

@[simp] theorem State.setNib_pending (s : State) (n : Nat) (x : Nib) : (s.setNib n x).pending = s.pending := rfl
@[simp] theorem State.setNib_out (s : State) (n : Nat) (x : Nib) : (s.setNib n x).out = s.out := rfl
@[simp] theorem State.setNib_cycle (s : State) (n : Nat) (x : Nib) : (s.setNib n x).cycle = s.cycle := rfl
@[simp] theorem State.setNib_mono (s : State) (n : Nat) (x : Nib) : (s.setNib n x).mono = s.mono := rfl
@[simp] theorem State.setNib_sys (s : State) (n : Nat) (x : Nib) : (s.setNib n x).sys = s.sys := rfl
@[simp] theorem State.setNib_regs (s : State) (n : Nat) (x : Nib) : (s.setNib n x).regs = s.regs := rfl
@[simp] theorem State.setNib_nextW (s : State) (n : Nat) (x : Nib) : (s.setNib n x).nextW = s.nextW := rfl
@[simp] theorem State.setNib_evt (s : State) (n : Nat) (x : Nib) : (s.setNib n x).evt = s.evt := rfl
@[simp] theorem State.setNib_cmd (s : State) (n : Nat) (x : Nib) : (s.setNib n x).cmd = s.cmd := rfl
@[simp] theorem State.setNib_pair (s : State) (n : Nat) (x : Nib) : (s.setNib n x).pair = s.pair := rfl
@[simp] theorem State.setNib_shadow (s : State) (n : Nat) (x : Nib) : (s.setNib n x).shadow = s.shadow := rfl
@[simp] theorem State.setNib_pairOps (s : State) (n : Nat) (x : Nib) : (s.setNib n x).pairOps = s.pairOps := rfl
@[simp] theorem State.setNib_boot (s : State) (n : Nat) (x : Nib) : (s.setNib n x).boot = s.boot := rfl
@[simp] theorem State.setNib_jrnl (s : State) (n : Nat) (x : Nib) : (s.setNib n x).jrnl = s.jrnl := rfl
@[simp] theorem State.setNib_cells (s : State) (n : Nat) (x : Nib) : (s.setNib n x).cells = s.cells := rfl
@[simp] theorem State.setNib_mgmt (s : State) (n : Nat) (x : Nib) : (s.setNib n x).mgmt = s.mgmt := rfl
@[simp] theorem State.setNib_echo (s : State) (n : Nat) (x : Nib) : (s.setNib n x).echo = s.echo := rfl
@[simp] theorem State.setNib_strs (s : State) (n : Nat) (x : Nib) : (s.setNib n x).strs = s.strs := rfl
@[simp] theorem State.setNib_lanes (s : State) (n : Nat) (x : Nib) : (s.setNib n x).lanes = s.lanes := rfl
@[simp] theorem State.setNib_txs (s : State) (n : Nat) (x : Nib) : (s.setNib n x).txs = s.txs := rfl
@[simp] theorem State.setNib_bond (s : State) (n : Nat) (x : Nib) : (s.setNib n x).bond = s.bond := rfl
@[simp] theorem State.setNib_nibs (s : State) (n : Nat) (x : Nib) :
    (s.setNib n x).nibs = Tab.put (fun _ => Nib.init) s.nibs n x := rfl
@[simp] theorem State.setNib_nibx (s : State) (n : Nat) (x : Nib) : (s.setNib n x).nibx = s.nibx := rfl
@[simp] theorem State.setNib_clk (s : State) (n : Nat) (x : Nib) : (s.setNib n x).clk = s.clk := rfl
@[simp] theorem State.setNib_saf (s : State) (n : Nat) (x : Nib) : (s.setNib n x).saf = s.saf := rfl
@[simp] theorem State.setNib_duct (s : State) (n : Nat) (x : Nib) : (s.setNib n x).duct = s.duct := rfl
@[simp] theorem State.setNib_sched (s : State) (n : Nat) (x : Nib) : (s.setNib n x).sched = s.sched := rfl
@[simp] theorem State.setNib_therm (s : State) (n : Nat) (x : Nib) : (s.setNib n x).therm = s.therm := rfl
@[simp] theorem State.setNib_sup (s : State) (n : Nat) (x : Nib) : (s.setNib n x).sup = s.sup := rfl
@[simp] theorem State.setNib_loops (s : State) (n : Nat) (x : Nib) : (s.setNib n x).loops = s.loops := rfl
@[simp] theorem State.setNib_ai (s : State) (n : Nat) (x : Nib) : (s.setNib n x).ai = s.ai := rfl
@[simp] theorem State.setNib_ink (s : State) (n : Nat) (x : Nib) : (s.setNib n x).ink = s.ink := rfl
@[simp] theorem State.setNib_net (s : State) (n : Nat) (x : Nib) : (s.setNib n x).net = s.net := rfl
@[simp] theorem State.setNib_free (s : State) (n : Nat) (x : Nib) : (s.setNib n x).free = s.free := rfl

/-! ## `setAux` -/

@[simp] theorem State.setAux_pending (s : State) (n : Nat) (x : NibAux) : (s.setAux n x).pending = s.pending := rfl
@[simp] theorem State.setAux_out (s : State) (n : Nat) (x : NibAux) : (s.setAux n x).out = s.out := rfl
@[simp] theorem State.setAux_cycle (s : State) (n : Nat) (x : NibAux) : (s.setAux n x).cycle = s.cycle := rfl
@[simp] theorem State.setAux_mono (s : State) (n : Nat) (x : NibAux) : (s.setAux n x).mono = s.mono := rfl
@[simp] theorem State.setAux_sys (s : State) (n : Nat) (x : NibAux) : (s.setAux n x).sys = s.sys := rfl
@[simp] theorem State.setAux_regs (s : State) (n : Nat) (x : NibAux) : (s.setAux n x).regs = s.regs := rfl
@[simp] theorem State.setAux_nextW (s : State) (n : Nat) (x : NibAux) : (s.setAux n x).nextW = s.nextW := rfl
@[simp] theorem State.setAux_evt (s : State) (n : Nat) (x : NibAux) : (s.setAux n x).evt = s.evt := rfl
@[simp] theorem State.setAux_cmd (s : State) (n : Nat) (x : NibAux) : (s.setAux n x).cmd = s.cmd := rfl
@[simp] theorem State.setAux_pair (s : State) (n : Nat) (x : NibAux) : (s.setAux n x).pair = s.pair := rfl
@[simp] theorem State.setAux_shadow (s : State) (n : Nat) (x : NibAux) : (s.setAux n x).shadow = s.shadow := rfl
@[simp] theorem State.setAux_pairOps (s : State) (n : Nat) (x : NibAux) : (s.setAux n x).pairOps = s.pairOps := rfl
@[simp] theorem State.setAux_boot (s : State) (n : Nat) (x : NibAux) : (s.setAux n x).boot = s.boot := rfl
@[simp] theorem State.setAux_jrnl (s : State) (n : Nat) (x : NibAux) : (s.setAux n x).jrnl = s.jrnl := rfl
@[simp] theorem State.setAux_cells (s : State) (n : Nat) (x : NibAux) : (s.setAux n x).cells = s.cells := rfl
@[simp] theorem State.setAux_mgmt (s : State) (n : Nat) (x : NibAux) : (s.setAux n x).mgmt = s.mgmt := rfl
@[simp] theorem State.setAux_echo (s : State) (n : Nat) (x : NibAux) : (s.setAux n x).echo = s.echo := rfl
@[simp] theorem State.setAux_strs (s : State) (n : Nat) (x : NibAux) : (s.setAux n x).strs = s.strs := rfl
@[simp] theorem State.setAux_lanes (s : State) (n : Nat) (x : NibAux) : (s.setAux n x).lanes = s.lanes := rfl
@[simp] theorem State.setAux_txs (s : State) (n : Nat) (x : NibAux) : (s.setAux n x).txs = s.txs := rfl
@[simp] theorem State.setAux_bond (s : State) (n : Nat) (x : NibAux) : (s.setAux n x).bond = s.bond := rfl
@[simp] theorem State.setAux_nibs (s : State) (n : Nat) (x : NibAux) : (s.setAux n x).nibs = s.nibs := rfl
@[simp] theorem State.setAux_nibx (s : State) (n : Nat) (x : NibAux) :
    (s.setAux n x).nibx = Tab.put (fun _ => NibAux.init) s.nibx n x := rfl
@[simp] theorem State.setAux_clk (s : State) (n : Nat) (x : NibAux) : (s.setAux n x).clk = s.clk := rfl
@[simp] theorem State.setAux_saf (s : State) (n : Nat) (x : NibAux) : (s.setAux n x).saf = s.saf := rfl
@[simp] theorem State.setAux_duct (s : State) (n : Nat) (x : NibAux) : (s.setAux n x).duct = s.duct := rfl
@[simp] theorem State.setAux_sched (s : State) (n : Nat) (x : NibAux) : (s.setAux n x).sched = s.sched := rfl
@[simp] theorem State.setAux_therm (s : State) (n : Nat) (x : NibAux) : (s.setAux n x).therm = s.therm := rfl
@[simp] theorem State.setAux_sup (s : State) (n : Nat) (x : NibAux) : (s.setAux n x).sup = s.sup := rfl
@[simp] theorem State.setAux_loops (s : State) (n : Nat) (x : NibAux) : (s.setAux n x).loops = s.loops := rfl
@[simp] theorem State.setAux_ai (s : State) (n : Nat) (x : NibAux) : (s.setAux n x).ai = s.ai := rfl
@[simp] theorem State.setAux_ink (s : State) (n : Nat) (x : NibAux) : (s.setAux n x).ink = s.ink := rfl
@[simp] theorem State.setAux_net (s : State) (n : Nat) (x : NibAux) : (s.setAux n x).net = s.net := rfl
@[simp] theorem State.setAux_free (s : State) (n : Nat) (x : NibAux) : (s.setAux n x).free = s.free := rfl

/-! ## `setSess` -/

@[simp] theorem State.setSess_pending (s : State) (i : Nat) (x : Sess) : (s.setSess i x).pending = s.pending := rfl
@[simp] theorem State.setSess_out (s : State) (i : Nat) (x : Sess) : (s.setSess i x).out = s.out := rfl
@[simp] theorem State.setSess_cycle (s : State) (i : Nat) (x : Sess) : (s.setSess i x).cycle = s.cycle := rfl
@[simp] theorem State.setSess_mono (s : State) (i : Nat) (x : Sess) : (s.setSess i x).mono = s.mono := rfl
@[simp] theorem State.setSess_sys (s : State) (i : Nat) (x : Sess) : (s.setSess i x).sys = s.sys := rfl
@[simp] theorem State.setSess_regs (s : State) (i : Nat) (x : Sess) : (s.setSess i x).regs = s.regs := rfl
@[simp] theorem State.setSess_nextW (s : State) (i : Nat) (x : Sess) : (s.setSess i x).nextW = s.nextW := rfl
@[simp] theorem State.setSess_evt (s : State) (i : Nat) (x : Sess) : (s.setSess i x).evt = s.evt := rfl
@[simp] theorem State.setSess_cmd (s : State) (i : Nat) (x : Sess) :
    (s.setSess i x).cmd = { s.cmd with sess := Tab.put (fun _ => Sess.init) s.cmd.sess i x } := rfl
@[simp] theorem State.setSess_pair (s : State) (i : Nat) (x : Sess) : (s.setSess i x).pair = s.pair := rfl
@[simp] theorem State.setSess_shadow (s : State) (i : Nat) (x : Sess) : (s.setSess i x).shadow = s.shadow := rfl
@[simp] theorem State.setSess_pairOps (s : State) (i : Nat) (x : Sess) : (s.setSess i x).pairOps = s.pairOps := rfl
@[simp] theorem State.setSess_boot (s : State) (i : Nat) (x : Sess) : (s.setSess i x).boot = s.boot := rfl
@[simp] theorem State.setSess_jrnl (s : State) (i : Nat) (x : Sess) : (s.setSess i x).jrnl = s.jrnl := rfl
@[simp] theorem State.setSess_cells (s : State) (i : Nat) (x : Sess) : (s.setSess i x).cells = s.cells := rfl
@[simp] theorem State.setSess_mgmt (s : State) (i : Nat) (x : Sess) : (s.setSess i x).mgmt = s.mgmt := rfl
@[simp] theorem State.setSess_echo (s : State) (i : Nat) (x : Sess) : (s.setSess i x).echo = s.echo := rfl
@[simp] theorem State.setSess_strs (s : State) (i : Nat) (x : Sess) : (s.setSess i x).strs = s.strs := rfl
@[simp] theorem State.setSess_lanes (s : State) (i : Nat) (x : Sess) : (s.setSess i x).lanes = s.lanes := rfl
@[simp] theorem State.setSess_txs (s : State) (i : Nat) (x : Sess) : (s.setSess i x).txs = s.txs := rfl
@[simp] theorem State.setSess_bond (s : State) (i : Nat) (x : Sess) : (s.setSess i x).bond = s.bond := rfl
@[simp] theorem State.setSess_nibs (s : State) (i : Nat) (x : Sess) : (s.setSess i x).nibs = s.nibs := rfl
@[simp] theorem State.setSess_nibx (s : State) (i : Nat) (x : Sess) : (s.setSess i x).nibx = s.nibx := rfl
@[simp] theorem State.setSess_clk (s : State) (i : Nat) (x : Sess) : (s.setSess i x).clk = s.clk := rfl
@[simp] theorem State.setSess_saf (s : State) (i : Nat) (x : Sess) : (s.setSess i x).saf = s.saf := rfl
@[simp] theorem State.setSess_duct (s : State) (i : Nat) (x : Sess) : (s.setSess i x).duct = s.duct := rfl
@[simp] theorem State.setSess_sched (s : State) (i : Nat) (x : Sess) : (s.setSess i x).sched = s.sched := rfl
@[simp] theorem State.setSess_therm (s : State) (i : Nat) (x : Sess) : (s.setSess i x).therm = s.therm := rfl
@[simp] theorem State.setSess_sup (s : State) (i : Nat) (x : Sess) : (s.setSess i x).sup = s.sup := rfl
@[simp] theorem State.setSess_loops (s : State) (i : Nat) (x : Sess) : (s.setSess i x).loops = s.loops := rfl
@[simp] theorem State.setSess_ai (s : State) (i : Nat) (x : Sess) : (s.setSess i x).ai = s.ai := rfl
@[simp] theorem State.setSess_ink (s : State) (i : Nat) (x : Sess) : (s.setSess i x).ink = s.ink := rfl
@[simp] theorem State.setSess_net (s : State) (i : Nat) (x : Sess) : (s.setSess i x).net = s.net := rfl
@[simp] theorem State.setSess_free (s : State) (i : Nat) (x : Sess) : (s.setSess i x).free = s.free := rfl

/-! ## `setEcho` -/

@[simp] theorem State.setEcho_pending (s : State) (i : Nat) (x : Echo) : (s.setEcho i x).pending = s.pending := rfl
@[simp] theorem State.setEcho_out (s : State) (i : Nat) (x : Echo) : (s.setEcho i x).out = s.out := rfl
@[simp] theorem State.setEcho_cycle (s : State) (i : Nat) (x : Echo) : (s.setEcho i x).cycle = s.cycle := rfl
@[simp] theorem State.setEcho_mono (s : State) (i : Nat) (x : Echo) : (s.setEcho i x).mono = s.mono := rfl
@[simp] theorem State.setEcho_sys (s : State) (i : Nat) (x : Echo) : (s.setEcho i x).sys = s.sys := rfl
@[simp] theorem State.setEcho_regs (s : State) (i : Nat) (x : Echo) : (s.setEcho i x).regs = s.regs := rfl
@[simp] theorem State.setEcho_nextW (s : State) (i : Nat) (x : Echo) : (s.setEcho i x).nextW = s.nextW := rfl
@[simp] theorem State.setEcho_evt (s : State) (i : Nat) (x : Echo) : (s.setEcho i x).evt = s.evt := rfl
@[simp] theorem State.setEcho_cmd (s : State) (i : Nat) (x : Echo) : (s.setEcho i x).cmd = s.cmd := rfl
@[simp] theorem State.setEcho_pair (s : State) (i : Nat) (x : Echo) : (s.setEcho i x).pair = s.pair := rfl
@[simp] theorem State.setEcho_shadow (s : State) (i : Nat) (x : Echo) : (s.setEcho i x).shadow = s.shadow := rfl
@[simp] theorem State.setEcho_pairOps (s : State) (i : Nat) (x : Echo) : (s.setEcho i x).pairOps = s.pairOps := rfl
@[simp] theorem State.setEcho_boot (s : State) (i : Nat) (x : Echo) : (s.setEcho i x).boot = s.boot := rfl
@[simp] theorem State.setEcho_jrnl (s : State) (i : Nat) (x : Echo) : (s.setEcho i x).jrnl = s.jrnl := rfl
@[simp] theorem State.setEcho_cells (s : State) (i : Nat) (x : Echo) : (s.setEcho i x).cells = s.cells := rfl
@[simp] theorem State.setEcho_mgmt (s : State) (i : Nat) (x : Echo) : (s.setEcho i x).mgmt = s.mgmt := rfl
@[simp] theorem State.setEcho_echo (s : State) (i : Nat) (x : Echo) :
    (s.setEcho i x).echo = Tab.put (fun _ => Echo.init) s.echo i x := rfl
@[simp] theorem State.setEcho_strs (s : State) (i : Nat) (x : Echo) : (s.setEcho i x).strs = s.strs := rfl
@[simp] theorem State.setEcho_lanes (s : State) (i : Nat) (x : Echo) : (s.setEcho i x).lanes = s.lanes := rfl
@[simp] theorem State.setEcho_txs (s : State) (i : Nat) (x : Echo) : (s.setEcho i x).txs = s.txs := rfl
@[simp] theorem State.setEcho_bond (s : State) (i : Nat) (x : Echo) : (s.setEcho i x).bond = s.bond := rfl
@[simp] theorem State.setEcho_nibs (s : State) (i : Nat) (x : Echo) : (s.setEcho i x).nibs = s.nibs := rfl
@[simp] theorem State.setEcho_nibx (s : State) (i : Nat) (x : Echo) : (s.setEcho i x).nibx = s.nibx := rfl
@[simp] theorem State.setEcho_clk (s : State) (i : Nat) (x : Echo) : (s.setEcho i x).clk = s.clk := rfl
@[simp] theorem State.setEcho_saf (s : State) (i : Nat) (x : Echo) : (s.setEcho i x).saf = s.saf := rfl
@[simp] theorem State.setEcho_duct (s : State) (i : Nat) (x : Echo) : (s.setEcho i x).duct = s.duct := rfl
@[simp] theorem State.setEcho_sched (s : State) (i : Nat) (x : Echo) : (s.setEcho i x).sched = s.sched := rfl
@[simp] theorem State.setEcho_therm (s : State) (i : Nat) (x : Echo) : (s.setEcho i x).therm = s.therm := rfl
@[simp] theorem State.setEcho_sup (s : State) (i : Nat) (x : Echo) : (s.setEcho i x).sup = s.sup := rfl
@[simp] theorem State.setEcho_loops (s : State) (i : Nat) (x : Echo) : (s.setEcho i x).loops = s.loops := rfl
@[simp] theorem State.setEcho_ai (s : State) (i : Nat) (x : Echo) : (s.setEcho i x).ai = s.ai := rfl
@[simp] theorem State.setEcho_ink (s : State) (i : Nat) (x : Echo) : (s.setEcho i x).ink = s.ink := rfl
@[simp] theorem State.setEcho_net (s : State) (i : Nat) (x : Echo) : (s.setEcho i x).net = s.net := rfl
@[simp] theorem State.setEcho_free (s : State) (i : Nat) (x : Echo) : (s.setEcho i x).free = s.free := rfl

/-! ## `silent` -/

@[simp] theorem State.silent_pending (s : State) : (s.silent).pending = s.pending := rfl
@[simp] theorem State.silent_out (s : State) : (s.silent).out = [] := rfl
@[simp] theorem State.silent_cycle (s : State) : (s.silent).cycle = s.cycle := rfl
@[simp] theorem State.silent_mono (s : State) : (s.silent).mono = s.mono := rfl
@[simp] theorem State.silent_sys (s : State) : (s.silent).sys = s.sys := rfl
@[simp] theorem State.silent_regs (s : State) : (s.silent).regs = s.regs := rfl
@[simp] theorem State.silent_nextW (s : State) : (s.silent).nextW = s.nextW := rfl
@[simp] theorem State.silent_evt (s : State) : (s.silent).evt = s.evt := rfl
@[simp] theorem State.silent_cmd (s : State) : (s.silent).cmd = s.cmd := rfl
@[simp] theorem State.silent_pair (s : State) : (s.silent).pair = s.pair := rfl
@[simp] theorem State.silent_shadow (s : State) : (s.silent).shadow = s.shadow := rfl
@[simp] theorem State.silent_pairOps (s : State) : (s.silent).pairOps = s.pairOps := rfl
@[simp] theorem State.silent_boot (s : State) : (s.silent).boot = s.boot := rfl
@[simp] theorem State.silent_jrnl (s : State) : (s.silent).jrnl = s.jrnl := rfl
@[simp] theorem State.silent_cells (s : State) : (s.silent).cells = s.cells := rfl
@[simp] theorem State.silent_mgmt (s : State) : (s.silent).mgmt = s.mgmt := rfl
@[simp] theorem State.silent_echo (s : State) : (s.silent).echo = s.echo := rfl
@[simp] theorem State.silent_strs (s : State) : (s.silent).strs = s.strs := rfl
@[simp] theorem State.silent_lanes (s : State) : (s.silent).lanes = s.lanes := rfl
@[simp] theorem State.silent_txs (s : State) : (s.silent).txs = s.txs := rfl
@[simp] theorem State.silent_bond (s : State) : (s.silent).bond = s.bond := rfl
@[simp] theorem State.silent_nibs (s : State) : (s.silent).nibs = s.nibs := rfl
@[simp] theorem State.silent_nibx (s : State) : (s.silent).nibx = s.nibx := rfl
@[simp] theorem State.silent_clk (s : State) : (s.silent).clk = s.clk := rfl
@[simp] theorem State.silent_saf (s : State) : (s.silent).saf = s.saf := rfl
@[simp] theorem State.silent_duct (s : State) : (s.silent).duct = s.duct := rfl
@[simp] theorem State.silent_sched (s : State) : (s.silent).sched = s.sched := rfl
@[simp] theorem State.silent_therm (s : State) : (s.silent).therm = s.therm := rfl
@[simp] theorem State.silent_sup (s : State) : (s.silent).sup = s.sup := rfl
@[simp] theorem State.silent_loops (s : State) : (s.silent).loops = s.loops := rfl
@[simp] theorem State.silent_ai (s : State) : (s.silent).ai = s.ai := rfl
@[simp] theorem State.silent_ink (s : State) : (s.silent).ink = s.ink := rfl
@[simp] theorem State.silent_net (s : State) : (s.silent).net = s.net := rfl
@[simp] theorem State.silent_free (s : State) : (s.silent).free = s.free := rfl

/-! ## `emit` -/

@[simp] theorem State.emit_pending (s : State) (o : Output) : (s.emit o).pending = s.pending := rfl
@[simp] theorem State.emit_out (s : State) (o : Output) : (s.emit o).out = s.out ++ [o] := rfl
@[simp] theorem State.emit_cycle (s : State) (o : Output) : (s.emit o).cycle = s.cycle := rfl
@[simp] theorem State.emit_mono (s : State) (o : Output) : (s.emit o).mono = s.mono := rfl
@[simp] theorem State.emit_sys (s : State) (o : Output) : (s.emit o).sys = s.sys := rfl
@[simp] theorem State.emit_regs (s : State) (o : Output) : (s.emit o).regs = s.regs := rfl
@[simp] theorem State.emit_nextW (s : State) (o : Output) : (s.emit o).nextW = s.nextW := rfl
@[simp] theorem State.emit_evt (s : State) (o : Output) : (s.emit o).evt = s.evt := rfl
@[simp] theorem State.emit_cmd (s : State) (o : Output) : (s.emit o).cmd = s.cmd := rfl
@[simp] theorem State.emit_pair (s : State) (o : Output) : (s.emit o).pair = s.pair := rfl
@[simp] theorem State.emit_shadow (s : State) (o : Output) : (s.emit o).shadow = s.shadow := rfl
@[simp] theorem State.emit_pairOps (s : State) (o : Output) : (s.emit o).pairOps = s.pairOps := rfl
@[simp] theorem State.emit_boot (s : State) (o : Output) : (s.emit o).boot = s.boot := rfl
@[simp] theorem State.emit_jrnl (s : State) (o : Output) : (s.emit o).jrnl = s.jrnl := rfl
@[simp] theorem State.emit_cells (s : State) (o : Output) : (s.emit o).cells = s.cells := rfl
@[simp] theorem State.emit_mgmt (s : State) (o : Output) : (s.emit o).mgmt = s.mgmt := rfl
@[simp] theorem State.emit_echo (s : State) (o : Output) : (s.emit o).echo = s.echo := rfl
@[simp] theorem State.emit_strs (s : State) (o : Output) : (s.emit o).strs = s.strs := rfl
@[simp] theorem State.emit_lanes (s : State) (o : Output) : (s.emit o).lanes = s.lanes := rfl
@[simp] theorem State.emit_txs (s : State) (o : Output) : (s.emit o).txs = s.txs := rfl
@[simp] theorem State.emit_bond (s : State) (o : Output) : (s.emit o).bond = s.bond := rfl
@[simp] theorem State.emit_nibs (s : State) (o : Output) : (s.emit o).nibs = s.nibs := rfl
@[simp] theorem State.emit_nibx (s : State) (o : Output) : (s.emit o).nibx = s.nibx := rfl
@[simp] theorem State.emit_clk (s : State) (o : Output) : (s.emit o).clk = s.clk := rfl
@[simp] theorem State.emit_saf (s : State) (o : Output) : (s.emit o).saf = s.saf := rfl
@[simp] theorem State.emit_duct (s : State) (o : Output) : (s.emit o).duct = s.duct := rfl
@[simp] theorem State.emit_sched (s : State) (o : Output) : (s.emit o).sched = s.sched := rfl
@[simp] theorem State.emit_therm (s : State) (o : Output) : (s.emit o).therm = s.therm := rfl
@[simp] theorem State.emit_sup (s : State) (o : Output) : (s.emit o).sup = s.sup := rfl
@[simp] theorem State.emit_loops (s : State) (o : Output) : (s.emit o).loops = s.loops := rfl
@[simp] theorem State.emit_ai (s : State) (o : Output) : (s.emit o).ai = s.ai := rfl
@[simp] theorem State.emit_ink (s : State) (o : Output) : (s.emit o).ink = s.ink := rfl
@[simp] theorem State.emit_net (s : State) (o : Output) : (s.emit o).net = s.net := rfl
@[simp] theorem State.emit_free (s : State) (o : Output) : (s.emit o).free = s.free := rfl

/-! ## `drawn` -/

@[simp] theorem State.drawn_pending (s : State) : (s.drawn).pending = s.pending := rfl
@[simp] theorem State.drawn_out (s : State) : (s.drawn).out = s.out := rfl
@[simp] theorem State.drawn_cycle (s : State) : (s.drawn).cycle = s.cycle := rfl
@[simp] theorem State.drawn_mono (s : State) : (s.drawn).mono = s.mono := rfl
@[simp] theorem State.drawn_sys (s : State) : (s.drawn).sys = s.sys := rfl
@[simp] theorem State.drawn_regs (s : State) : (s.drawn).regs = s.regs := rfl
@[simp] theorem State.drawn_nextW (s : State) : (s.drawn).nextW = s.nextW := rfl
@[simp] theorem State.drawn_evt (s : State) : (s.drawn).evt = s.evt := rfl
@[simp] theorem State.drawn_cmd (s : State) : (s.drawn).cmd = s.cmd := rfl
@[simp] theorem State.drawn_pair (s : State) : (s.drawn).pair = s.pair := rfl
@[simp] theorem State.drawn_shadow (s : State) : (s.drawn).shadow = s.shadow := rfl
@[simp] theorem State.drawn_pairOps (s : State) : (s.drawn).pairOps = s.pairOps := rfl
@[simp] theorem State.drawn_boot (s : State) : (s.drawn).boot = s.boot := rfl
@[simp] theorem State.drawn_jrnl (s : State) : (s.drawn).jrnl = s.jrnl := rfl
@[simp] theorem State.drawn_cells (s : State) : (s.drawn).cells = s.cells := rfl
@[simp] theorem State.drawn_mgmt (s : State) : (s.drawn).mgmt = s.mgmt := rfl
@[simp] theorem State.drawn_echo (s : State) : (s.drawn).echo = s.echo := rfl
@[simp] theorem State.drawn_strs (s : State) : (s.drawn).strs = s.strs := rfl
@[simp] theorem State.drawn_lanes (s : State) : (s.drawn).lanes = s.lanes := rfl
@[simp] theorem State.drawn_txs (s : State) : (s.drawn).txs = s.txs := rfl
@[simp] theorem State.drawn_bond (s : State) : (s.drawn).bond = s.bond := rfl
@[simp] theorem State.drawn_nibs (s : State) : (s.drawn).nibs = s.nibs := rfl
@[simp] theorem State.drawn_nibx (s : State) : (s.drawn).nibx = s.nibx := rfl
@[simp] theorem State.drawn_clk (s : State) : (s.drawn).clk = s.clk := rfl
@[simp] theorem State.drawn_saf (s : State) : (s.drawn).saf = s.saf := rfl
@[simp] theorem State.drawn_duct (s : State) : (s.drawn).duct = s.duct := rfl
@[simp] theorem State.drawn_sched (s : State) : (s.drawn).sched = s.sched := rfl
@[simp] theorem State.drawn_therm (s : State) : (s.drawn).therm = s.therm := rfl
@[simp] theorem State.drawn_sup (s : State) : (s.drawn).sup = s.sup := rfl
@[simp] theorem State.drawn_loops (s : State) : (s.drawn).loops = s.loops := rfl
@[simp] theorem State.drawn_ai (s : State) : (s.drawn).ai = s.ai := rfl
@[simp] theorem State.drawn_ink (s : State) : (s.drawn).ink = s.ink := rfl
@[simp] theorem State.drawn_net (s : State) : (s.drawn).net = s.net := rfl
@[simp] theorem State.drawn_free (s : State) : (s.drawn).free = s.free + 1 := rfl

end Sys2Proof.Machine
end

