-- ==== Sys2Proof/Laws/Tab.lean ====
section
/-! SUPPORT. The laws of tables: reading after writing, and the canonical form that every write keeps. -/

namespace Sys2Proof.Machine

variable {α : Type}

@[simp] theorem Tab.get_ins_same (d : Nat → α) (v : α) : ∀ (t : Tab α) (k : Nat), Tab.get d (Tab.ins t k v) k = v
  | [], k => by simp [Tab.ins, Tab.get]
  | (j, w) :: t, k => by
    simp only [Tab.ins]
    by_cases h : j < k
    · have : k ≠ j := by omega
      simp [h, Tab.get, this, Tab.get_ins_same d v t k]
    · by_cases e : j = k
      · simp [e, Tab.get]
      · simp [h, e, Tab.get]

theorem Tab.get_ins_ne (d : Nat → α) (v : α) {k m : Nat} (hm : m ≠ k) :
    ∀ (t : Tab α), Tab.get d (Tab.ins t k v) m = Tab.get d t m
  | [] => by simp [Tab.ins, Tab.get, hm]
  | (j, w) :: t => by
    simp only [Tab.ins]
    by_cases h : j < k
    · by_cases e : m = j <;> simp [h, Tab.get, e, Tab.get_ins_ne d v hm t]
    · by_cases e : j = k
      · subst e; simp [Tab.get, hm]
      · by_cases e' : m = j <;> simp [h, e, Tab.get, e', hm]

theorem Tab.get_drop_same (d : Nat → α) (k : Nat) : ∀ t : Tab α, Tab.get d (Tab.drop t k) k = d k
  | [] => rfl
  | (j, w) :: t => by
    simp only [Tab.drop]
    by_cases e : j = k
    · simp [e, Tab.get_drop_same d k t]
    · have : k ≠ j := fun x => e x.symm
      simp [e, Tab.get, this, Tab.get_drop_same d k t]

theorem Tab.get_drop_ne (d : Nat → α) {k m : Nat} (hm : m ≠ k) : ∀ (t : Tab α), Tab.get d (Tab.drop t k) m = Tab.get d t m
  | [] => rfl
  | (j, w) :: t => by
    simp only [Tab.drop]
    by_cases e : j = k
    · subst e; simp [Tab.get, hm, Tab.get_drop_ne d hm t]
    · by_cases e' : m = j <;> simp [e, Tab.get, e', Tab.get_drop_ne d hm t]

/-- A write of one index leaves what every other index reads as. -/
theorem Tab.get_put_ne [DecidableEq α] (d : Nat → α) (t : Tab α) {k m : Nat} (v : α) (hm : m ≠ k) :
    Tab.get d (Tab.put d t k v) m = Tab.get d t m := by
  unfold Tab.put
  split
  · exact Tab.get_drop_ne d hm t
  · exact Tab.get_ins_ne d v hm t

/-- Reading the index written gives the value written. -/
@[simp] theorem Tab.get_put_same [DecidableEq α] (d : Nat → α) (t : Tab α) (k : Nat) (v : α) :
    Tab.get d (Tab.put d t k v) k = v := by
  unfold Tab.put
  split
  · rename_i e; rw [Tab.get_drop_same d k, e]
  · exact Tab.get_ins_same d v t k

theorem Tab.wfFrom_mono [DecidableEq α] (d : Nat → α) {lo lo' : Nat} (h : lo' ≤ lo) :
    ∀ {t : Tab α}, Tab.wfFrom d lo t = true → Tab.wfFrom d lo' t = true
  | [], _ => rfl
  | (j, v) :: t, hw => by
    simp only [Tab.wfFrom, Bool.and_eq_true, decide_eq_true_eq] at hw ⊢
    exact ⟨⟨Nat.le_trans h hw.1.1, hw.1.2⟩, hw.2⟩

theorem Tab.wfFrom_drop [DecidableEq α] (d : Nat → α) (k : Nat) :
    ∀ {lo : Nat} {t : Tab α}, Tab.wfFrom d lo t = true → Tab.wfFrom d lo (Tab.drop t k) = true
  | _, [], _ => rfl
  | lo, (j, v) :: t, h => by
    simp only [Tab.wfFrom, Bool.and_eq_true, decide_eq_true_eq] at h
    simp only [Tab.drop]
    split
    · exact Tab.wfFrom_mono d (by omega) (Tab.wfFrom_drop d k h.2)
    · simp only [Tab.wfFrom, Bool.and_eq_true, decide_eq_true_eq]
      exact ⟨h.1, Tab.wfFrom_drop d k h.2⟩

theorem Tab.wfFrom_ins [DecidableEq α] (d : Nat → α) {k : Nat} {v : α} (hv : v ≠ d k) :
    ∀ {lo : Nat} {t : Tab α}, lo ≤ k → Tab.wfFrom d lo t = true → Tab.wfFrom d lo (Tab.ins t k v) = true
  | lo, [], hk, _ => by simp [Tab.ins, Tab.wfFrom, hk, hv]
  | lo, (j, w) :: t, hk, h => by
    have h' := h
    simp only [Tab.wfFrom, Bool.and_eq_true, decide_eq_true_eq] at h
    simp only [Tab.ins]
    split
    · simp only [Tab.wfFrom, Bool.and_eq_true, decide_eq_true_eq]
      exact ⟨h.1, Tab.wfFrom_ins d hv (by omega) h.2⟩
    · split
      · rename_i e; subst e
        simp only [Tab.wfFrom, Bool.and_eq_true, decide_eq_true_eq]
        exact ⟨⟨h.1.1, hv⟩, h.2⟩
      · simp only [Tab.wfFrom, Bool.and_eq_true, decide_eq_true_eq]
        exact ⟨⟨hk, hv⟩, ⟨by omega, h.1.2⟩, h.2⟩

/-- Every write keeps the canonical form. -/
theorem Tab.wf_put [DecidableEq α] (d : Nat → α) (t : Tab α) (k : Nat) (v : α) (h : Tab.wf d t = true) :
    Tab.wf d (Tab.put d t k v) = true := by
  unfold Tab.wf Tab.put at *
  split
  · exact Tab.wfFrom_drop d k h
  · rename_i hv; exact Tab.wfFrom_ins d hv (Nat.zero_le k) h

end Sys2Proof.Machine
end

