-- ==== Sys2Proof/Laws/Keep.lean ====
section
/-! SUPPORT. How the invariant and the command queue are carried through a meaning: the updates that cannot touch them,
and folds over lists. -/

namespace Sys2Proof.Machine

/-- At most `n` entries are kept. -/
theorem keepLast_length {α : Type} (n : Nat) (l : List α) : (keepLast n l).length ≤ n := by
  simp only [keepLast, List.length_reverse, List.length_take]
  omega

theorem foldl_pending {α : Type} (f : State → α → State) (h : ∀ s x, (f s x).pending = s.pending) :
    ∀ (l : List α) (s : State), (l.foldl f s).pending = s.pending
  | [], _ => rfl
  | x :: l, s => by rw [List.foldl_cons, foldl_pending f h l, h]

/-- A state that agrees in what the invariant reads keeps it. -/
theorem State.Inv.congr {s t : State} (h : s.Inv) (hr : t.pair.role = s.pair.role) (ht : t.pair.tokOut = s.pair.tokOut)
    (hg : t.pair.grant = s.pair.grant) (hl : t.sys.live = s.sys.live)
    (hq : t.evt.queue = s.evt.queue) (he : t.jrnl.events = s.jrnl.events) (hs : t.jrnl.stamps = s.jrnl.stamps)
    (hm : t.ink.mem = s.ink.mem) : t.Inv :=
  ⟨by rw [hg, ht]; exact h.grant, by rw [ht, hl]; exact h.live, by rw [hr, ht]; exact h.out, by rw [hq]; exact h.queue,
    by rw [he]; exact h.log, by rw [hs]; exact h.stamps, by rw [hm]; exact h.mem⟩

/-- An update that leaves alone what the invariant reads keeps it. -/
theorem State.Inv.upd {s : State} {pending' out' cycle' mono' sys' regs' nextW' evt' cmd' pair' shadow' pairOps' boot' jrnl' cells'
    mgmt' echo' strs' lanes' txs' bond' nibs' nibx' clk' saf' duct' sched' therm' sup' loops' ai' ink' net'
    free'}
    (hr : pair'.role = s.pair.role) (ht : pair'.tokOut = s.pair.tokOut) (hg : pair'.grant = s.pair.grant)
    (hl : sys'.live = s.sys.live) (hq : evt'.queue = s.evt.queue)
    (he : jrnl'.events = s.jrnl.events) (hs : jrnl'.stamps = s.jrnl.stamps) (hm : ink'.mem = s.ink.mem) (h : s.Inv) :
    (State.mk pending' out' cycle' mono' sys' regs' nextW' evt' cmd' pair' shadow' pairOps' boot' jrnl' cells'
      mgmt' echo' strs' lanes' txs' bond' nibs' nibx' clk' saf' duct' sched' therm' sup' loops' ai' ink' net'
      free').Inv :=
  State.Inv.congr h hr ht hg hl hq he hs hm

theorem ite_inv {c : Prop} [Decidable c] {a b : State} (ha : a.Inv) (hb : b.Inv) : (if c then a else b).Inv := by
  split
  · exact ha
  · exact hb

theorem ite_pending {c : Prop} [Decidable c] {a b : State} {l : List Instr} (ha : a.pending = l) (hb : b.pending = l) :
    (if c then a else b).pending = l := by
  split
  · exact ha
  · exact hb

theorem foldl_inv {α : Type} (f : State → α → State) (h : ∀ s x, s.Inv → (f s x).Inv) :
    ∀ (l : List α) (s : State), s.Inv → (l.foldl f s).Inv
  | [], _, hs => hs
  | x :: l, s, hs => foldl_inv f h l (f s x) (h s x hs)

end Sys2Proof.Machine
end

