-- ==== Sys2Proof/Laws/KeepRegs.lean ====
section
/-! SUPPORT. The shared operations of `Machine/Regs.lean` leave the queue of commands as it is and keep the invariant. -/

namespace Sys2Proof.Machine

theorem State.setWord_inv (s : State) (k : Nat) (v : Word) (h : s.Inv) : (s.setWord k v).Inv := by
  unfold State.setWord; try dsimp only
  iterate 25 all_goals try with_reducible (first
      | assumption | apply ite_inv | split | (apply foldl_inv; intro _ _ _)
      | refine State.Inv.upd (by rfl) (by rfl) (by rfl) (by rfl) (by rfl) (by rfl) (by rfl) (by rfl) ?_)

theorem State.setCell_inv (s : State) (ci : Nat) (c : Cell) (h : s.Inv) : (s.setCell ci c).Inv := by
  unfold State.setCell; try dsimp only
  iterate 25 all_goals try with_reducible (first
      | assumption | apply State.setMg_inv | apply State.setStr_inv | apply State.setLane_inv
      | apply State.setNib_inv | apply State.setAux_inv | apply State.setSess_inv | apply State.setEcho_inv
      | apply ite_inv | split | (apply foldl_inv; intro _ _ _)
      | refine State.Inv.upd (by rfl) (by rfl) (by rfl) (by rfl) (by rfl) (by rfl) (by rfl) (by rfl) ?_)

theorem State.setMg_inv (s : State) (ci : Nat) (m : Mgmt) (h : s.Inv) : (s.setMg ci m).Inv := by
  unfold State.setMg; try dsimp only
  iterate 25 all_goals try with_reducible (first
      | assumption | apply State.setStr_inv | apply State.setLane_inv | apply State.setNib_inv
      | apply State.setAux_inv | apply State.setSess_inv | apply State.setEcho_inv | apply ite_inv | split
      | (apply foldl_inv; intro _ _ _)
      | refine State.Inv.upd (by rfl) (by rfl) (by rfl) (by rfl) (by rfl) (by rfl) (by rfl) (by rfl) ?_)

theorem State.setStr_inv (s : State) (p : Nat) (x : Str) (h : s.Inv) : (s.setStr p x).Inv := by
  unfold State.setStr; try dsimp only
  iterate 25 all_goals try with_reducible (first
      | assumption | apply State.setLane_inv | apply State.setNib_inv | apply State.setAux_inv
      | apply State.setSess_inv | apply State.setEcho_inv | apply ite_inv | split
      | (apply foldl_inv; intro _ _ _)
      | refine State.Inv.upd (by rfl) (by rfl) (by rfl) (by rfl) (by rfl) (by rfl) (by rfl) (by rfl) ?_)

theorem State.setLane_inv (s : State) (i : Nat) (x : Lane) (h : s.Inv) : (s.setLane i x).Inv := by
  unfold State.setLane; try dsimp only
  iterate 25 all_goals try with_reducible (first
      | assumption | apply State.setNib_inv | apply State.setAux_inv | apply State.setSess_inv
      | apply State.setEcho_inv | apply ite_inv | split | (apply foldl_inv; intro _ _ _)
      | refine State.Inv.upd (by rfl) (by rfl) (by rfl) (by rfl) (by rfl) (by rfl) (by rfl) (by rfl) ?_)

theorem State.setTx_inv (s : State) (i : Nat) (x : Tx) (h : s.Inv) :
    (s.setTx i x).Inv := by
  unfold State.setTx; try dsimp only
  iterate 25 all_goals try with_reducible (first | assumption | apply State.setNib_inv | apply State.setAux_inv | apply State.setSess_inv | apply State.setEcho_inv | apply ite_inv | split | (apply foldl_inv; intro _ _ _) | refine State.Inv.upd (by rfl) (by rfl) (by rfl) (by rfl) (by rfl) (by rfl) (by rfl) (by rfl) ?_)

theorem State.setNib_inv (s : State) (n : Nat) (x : Nib) (h : s.Inv) : (s.setNib n x).Inv := by
  unfold State.setNib; try dsimp only
  iterate 25 all_goals try with_reducible (first
      | assumption | apply State.setAux_inv | apply State.setSess_inv | apply State.setEcho_inv | apply ite_inv
      | split | (apply foldl_inv; intro _ _ _)
      | refine State.Inv.upd (by rfl) (by rfl) (by rfl) (by rfl) (by rfl) (by rfl) (by rfl) (by rfl) ?_)

theorem State.setAux_inv (s : State) (n : Nat) (x : NibAux) (h : s.Inv) : (s.setAux n x).Inv := by
  unfold State.setAux; try dsimp only
  iterate 25 all_goals try with_reducible (first
      | assumption | apply State.setSess_inv | apply State.setEcho_inv | apply ite_inv | split
      | (apply foldl_inv; intro _ _ _)
      | refine State.Inv.upd (by rfl) (by rfl) (by rfl) (by rfl) (by rfl) (by rfl) (by rfl) (by rfl) ?_)

theorem State.setSess_inv (s : State) (i : Nat) (x : Sess) (h : s.Inv) : (s.setSess i x).Inv := by
  unfold State.setSess; try dsimp only
  iterate 25 all_goals try with_reducible (first
      | assumption | apply State.setEcho_inv | apply ite_inv | split | (apply foldl_inv; intro _ _ _)
      | refine State.Inv.upd (by rfl) (by rfl) (by rfl) (by rfl) (by rfl) (by rfl) (by rfl) (by rfl) ?_)

theorem State.setEcho_inv (s : State) (i : Nat) (x : Echo) (h : s.Inv) : (s.setEcho i x).Inv := by
  unfold State.setEcho; try dsimp only
  iterate 25 all_goals try with_reducible (first
      | assumption | apply ite_inv | split | (apply foldl_inv; intro _ _ _)
      | refine State.Inv.upd (by rfl) (by rfl) (by rfl) (by rfl) (by rfl) (by rfl) (by rfl) (by rfl) ?_)

theorem State.emit_inv (s : State) (o : Output) (h : s.Inv) : (s.emit o).Inv := by
  unfold State.emit; try dsimp only
  iterate 25 all_goals try with_reducible (first
      | assumption | apply ite_inv | split | (apply foldl_inv; intro _ _ _)
      | refine State.Inv.upd (by rfl) (by rfl) (by rfl) (by rfl) (by rfl) (by rfl) (by rfl) (by rfl) ?_)

theorem State.drawn_inv (s : State) (h : s.Inv) : s.drawn.Inv := by
  unfold State.drawn; try dsimp only
  iterate 25 all_goals try with_reducible (first
      | assumption | apply ite_inv | split | (apply foldl_inv; intro _ _ _)
      | refine State.Inv.upd (by rfl) (by rfl) (by rfl) (by rfl) (by rfl) (by rfl) (by rfl) (by rfl) ?_)

@[simp] theorem State.urgent_pending (s : State) (i : Nat) (o : OSet) (t : Nat) :
    (s.urgent i o t).pending = s.pending := by
  unfold State.urgent; try dsimp only
  iterate 25 all_goals try with_reducible (first | rfl | refine (State.emit_pending ..).trans ?_ | refine (State.urgent_pending ..).trans ?_ | refine (State.setTx_pending ..).trans ?_ | apply ite_pending | split | refine (foldl_pending _ (fun _ _ => ?_) _ _).trans ?_ | dsimp only)

theorem State.urgent_inv (s : State) (i : Nat) (o : OSet) (t : Nat) (h : s.Inv) :
    (s.urgent i o t).Inv := by
  unfold State.urgent; try dsimp only
  iterate 25 all_goals try with_reducible (first | assumption | apply State.emit_inv | apply State.urgent_inv | apply State.setTx_inv | apply ite_inv | split | (apply foldl_inv; intro _ _ _) | refine State.Inv.upd (by rfl) (by rfl) (by rfl) (by rfl) (by rfl) (by rfl) (by rfl) (by rfl) ?_)

end Sys2Proof.Machine
end

