-- ==== Sys2Proof/Laws/KeepEvents.lean ====
section
/-! SUPPORT. The shared operations of `Machine/Events.lean` leave the queue of commands as it is and keep the invariant. -/

namespace Sys2Proof.Machine

theorem EvEntry.insert_length (e : EvEntry) : ∀ l : List EvEntry, (e.insert l).length = l.length + 1
  | [] => rfl
  | x :: r => by
    rw [EvEntry.insert]
    split
    · rw [List.length_cons, EvEntry.insert_length e r, List.length_cons]
    · rfl

/-- An entry takes one place in the queue. -/
theorem EvEntry.place_length (e : EvEntry) (u : Nat) (q : List EvEntry) : (e.place u q).length = q.length + 1 := by
  have h : ((q.reverse.take u).takeWhile fun x => decide (x.cycle = e.cycle ∧ x.tick = e.tick)).length ≤ q.length := by
    refine Nat.le_trans (List.takeWhile_sublist _).length_le ?_
    rw [List.length_take, List.length_reverse]
    exact Nat.min_le_right _ _
  simp only [EvEntry.place, List.length_append, List.length_take, List.length_map, List.length_zipIdx,
    EvEntry.insert_length, List.length_reverse]
  omega

@[simp] theorem State.queueEntry_pending (s : State) (code kind inst : Nat) (detail : Word) (t : Nat) :
    (s.queueEntry code kind inst detail t).pending = s.pending := rfl

theorem State.queueEntry_inv (s : State) (code kind inst : Nat) (detail : Word) (t : Nat) (h : s.Inv) :
    (s.queueEntry code kind inst detail t).Inv := by
  refine ⟨h.grant, h.live, h.out, ?_, h.log, h.stamps, h.mem⟩
  have := h.queue
  simp only [State.queueEntry, EvEntry.place_length]
  split <;> simp_all <;> omega

@[simp] theorem State.lostSats_pending (s o : State) (t : Nat) :
    (s.lostSats o t).pending = s.pending := by
  unfold State.lostSats; try dsimp only
  iterate 25 all_goals try with_reducible (first | rfl | refine (State.queueEntry_pending ..).trans ?_ | apply ite_pending | split | refine (foldl_pending _ (fun _ _ => ?_) _ _).trans ?_ | dsimp only)

theorem State.lostSats_inv (s o : State) (t : Nat) (h : s.Inv) :
    (s.lostSats o t).Inv := by
  unfold State.lostSats; try dsimp only
  iterate 25 all_goals try with_reducible (first | assumption | apply State.queueEntry_inv | apply ite_inv | split | (apply foldl_inv; intro _ _ _) | refine State.Inv.upd (by rfl) (by rfl) (by rfl) (by rfl) (by rfl) (by rfl) (by rfl) (by rfl) ?_)

@[simp] theorem State.enqueue_pending (s : State) (code kind inst : Nat) (detail : Word) (t : Nat)
    : (s.enqueue code kind inst detail t).pending = s.pending := by simp [State.enqueue]

theorem State.enqueue_inv (s : State) (code kind inst : Nat) (detail : Word) (t : Nat) (h : s.Inv)
    : (s.enqueue code kind inst detail t).Inv := lostSats_inv _ _ _ (queueEntry_inv _ _ _ _ _ _ h)

@[simp] theorem State.capture_pending (s : State) (code inst : Nat) (detail : Word) (t : Nat)
    : (s.capture code inst detail t).pending = s.pending := by
  unfold State.capture; try dsimp only
  iterate 25 all_goals try with_reducible (first
      | rfl | apply ite_pending | split | refine (foldl_pending _ (fun _ _ => ?_) _ _).trans ?_ | dsimp only)

theorem State.capture_inv (s : State) (code inst : Nat) (detail : Word) (t : Nat) (h : s.Inv)
    : (s.capture code inst detail t).Inv := by
  unfold State.capture; try dsimp only
  iterate 25 all_goals try with_reducible (first
      | assumption | apply ite_inv | split | (apply foldl_inv; intro _ _ _)
      | refine State.Inv.upd (by rfl) (by rfl) (by rfl) (by rfl) (by rfl) (by rfl) (by rfl) (by rfl) ?_)

@[simp] theorem State.sendBlk_pending (s : State) (mask t : Nat) :
    (s.sendBlk mask t).pending = s.pending := by
  unfold State.sendBlk; try dsimp only
  iterate 25 all_goals try with_reducible (first | rfl | refine (State.urgent_pending ..).trans ?_ | apply ite_pending | split | refine (foldl_pending _ (fun _ _ => ?_) _ _).trans ?_ | dsimp only)

theorem State.sendBlk_inv (s : State) (mask t : Nat) (h : s.Inv) :
    (s.sendBlk mask t).Inv := by
  unfold State.sendBlk; try dsimp only
  iterate 25 all_goals try with_reducible (first | assumption | apply State.urgent_inv | apply ite_inv | split | (apply foldl_inv; intro _ _ _) | refine State.Inv.upd (by rfl) (by rfl) (by rfl) (by rfl) (by rfl) (by rfl) (by rfl) (by rfl) ?_)

@[simp] theorem State.sendBlkAll_pending (s : State) (t : Nat) :
    (s.sendBlkAll t).pending = s.pending := by
  unfold State.sendBlkAll; try dsimp only
  iterate 25 all_goals try with_reducible (first | rfl | refine (State.urgent_pending ..).trans ?_ | apply ite_pending | split | refine (foldl_pending _ (fun _ _ => ?_) _ _).trans ?_ | dsimp only)

theorem State.sendBlkAll_inv (s : State) (t : Nat) (h : s.Inv) :
    (s.sendBlkAll t).Inv := by
  unfold State.sendBlkAll; try dsimp only
  iterate 25 all_goals try with_reducible (first | assumption | apply State.urgent_inv | apply ite_inv | split | (apply foldl_inv; intro _ _ _) | refine State.Inv.upd (by rfl) (by rfl) (by rfl) (by rfl) (by rfl) (by rfl) (by rfl) (by rfl) ?_)

@[simp] theorem State.sendPbk_pending (s : State) (mask t : Nat) :
    (s.sendPbk mask t).pending = s.pending := by
  unfold State.sendPbk; try dsimp only
  iterate 25 all_goals try with_reducible (first | rfl | refine (State.urgent_pending ..).trans ?_ | apply ite_pending | split | refine (foldl_pending _ (fun _ _ => ?_) _ _).trans ?_ | dsimp only)

theorem State.sendPbk_inv (s : State) (mask t : Nat) (h : s.Inv) :
    (s.sendPbk mask t).Inv := by
  unfold State.sendPbk; try dsimp only
  iterate 25 all_goals try with_reducible (first | assumption | apply State.urgent_inv | apply ite_inv | split | (apply foldl_inv; intro _ _ _) | refine State.Inv.upd (by rfl) (by rfl) (by rfl) (by rfl) (by rfl) (by rfl) (by rfl) (by rfl) ?_)

@[simp] theorem State.force_pending (s : State) (mask : Nat) : (s.force mask).pending = s.pending := rfl

theorem State.force_inv (s : State) (mask : Nat) (h : s.Inv) : (s.force mask).Inv := by
  unfold State.force; try dsimp only
  iterate 25 all_goals try with_reducible (first
      | assumption | apply ite_inv | split | (apply foldl_inv; intro _ _ _)
      | refine State.Inv.upd (by rfl) (by rfl) (by rfl) (by rfl) (by rfl) (by rfl) (by rfl) (by rfl) ?_)

@[simp] theorem State.block_pending (s : State) (mask t : Nat) :
    (s.block mask t).pending = s.pending := by
  unfold State.block; try dsimp only
  iterate 25 all_goals try with_reducible (first | rfl | refine (State.sendBlk_pending ..).trans ?_ | refine (State.sendPbk_pending ..).trans ?_ | refine (State.force_pending ..).trans ?_ | apply ite_pending | split | refine (foldl_pending _ (fun _ _ => ?_) _ _).trans ?_ | dsimp only)

theorem State.block_inv (s : State) (mask t : Nat) (h : s.Inv) :
    (s.block mask t).Inv := by
  unfold State.block; try dsimp only
  iterate 25 all_goals try with_reducible (first | assumption | apply State.sendBlk_inv | apply State.sendPbk_inv | apply State.force_inv | apply ite_inv | split | (apply foldl_inv; intro _ _ _) | refine State.Inv.upd (by rfl) (by rfl) (by rfl) (by rfl) (by rfl) (by rfl) (by rfl) (by rfl) ?_)

@[simp] theorem State.blockModule_pending (s : State) (t : Nat) :
    (s.blockModule t).pending = s.pending := by
  unfold State.blockModule; try dsimp only
  iterate 25 all_goals try with_reducible (first | rfl | refine (State.sendBlkAll_pending ..).trans ?_ | refine (State.sendPbk_pending ..).trans ?_ | refine (State.force_pending ..).trans ?_ | apply ite_pending | split | refine (foldl_pending _ (fun _ _ => ?_) _ _).trans ?_ | dsimp only)

theorem State.blockModule_inv (s : State) (t : Nat) (h : s.Inv) :
    (s.blockModule t).Inv := by
  unfold State.blockModule; try dsimp only
  iterate 25 all_goals try with_reducible (first | assumption | apply State.sendBlkAll_inv | apply State.sendPbk_inv | apply State.force_inv | apply ite_inv | split | (apply foldl_inv; intro _ _ _) | refine State.Inv.upd (by rfl) (by rfl) (by rfl) (by rfl) (by rfl) (by rfl) (by rfl) (by rfl) ?_)

@[simp] theorem State.blotTrigger_pending (s : State) (row : Nat) (t : Nat)
    : (s.blotTrigger row t).pending = s.pending := by
  unfold State.blotTrigger; try dsimp only
  iterate 25 all_goals try with_reducible (first
      | rfl | refine (State.enqueue_pending ..).trans ?_ | apply ite_pending | split
      | refine (foldl_pending _ (fun _ _ => ?_) _ _).trans ?_ | dsimp only)

theorem State.blotTrigger_inv (s : State) (row : Nat) (t : Nat) (h : s.Inv) : (s.blotTrigger row t).Inv := by
  unfold State.blotTrigger; try dsimp only
  iterate 25 all_goals try with_reducible (first
      | assumption | apply State.enqueue_inv | apply ite_inv | split | (apply foldl_inv; intro _ _ _)
      | refine State.Inv.upd (by rfl) (by rfl) (by rfl) (by rfl) (by rfl) (by rfl) (by rfl) (by rfl) ?_)

@[simp] theorem State.blotEvent_pending (s : State) (code : Nat) (t : Nat)
    : (s.blotEvent code t).pending = s.pending := by
  unfold State.blotEvent; try dsimp only
  iterate 25 all_goals try with_reducible (first
      | rfl | refine (State.blotTrigger_pending ..).trans ?_ | apply ite_pending | split
      | refine (foldl_pending _ (fun _ _ => ?_) _ _).trans ?_ | dsimp only)

theorem State.blotEvent_inv (s : State) (code : Nat) (t : Nat) (h : s.Inv) : (s.blotEvent code t).Inv := by
  unfold State.blotEvent; try dsimp only
  iterate 25 all_goals try with_reducible (first
      | assumption | apply State.blotTrigger_inv | apply ite_inv | split | (apply foldl_inv; intro _ _ _)
      | refine State.Inv.upd (by rfl) (by rfl) (by rfl) (by rfl) (by rfl) (by rfl) (by rfl) (by rfl) ?_)

@[simp] theorem State.startGiveUp_pending (s : State) : s.startGiveUp.pending = s.pending := by
  unfold State.startGiveUp; try dsimp only
  iterate 25 all_goals try with_reducible (first
      | rfl | refine (State.enqueue_pending ..).trans ?_ | refine (State.blotEvent_pending ..).trans ?_ | apply ite_pending | split
      | refine (foldl_pending _ (fun _ _ => ?_) _ _).trans ?_ | dsimp only)

theorem State.startGiveUp_inv (s : State) (h : s.Inv) : s.startGiveUp.Inv := by
  unfold State.startGiveUp
  split
  · exact h
  · apply State.blotEvent_inv
    apply State.enqueue_inv
    exact ⟨nofun, nofun, fun _ => rfl, h.queue, h.log, h.stamps, h.mem⟩

@[simp] theorem State.cellReaction_pending (s : State) (code ci : Nat) (byp : Bool)
    : (s.cellReaction code ci byp).pending = s.pending := by
  unfold State.cellReaction; try dsimp only
  iterate 25 all_goals try with_reducible (first
      | rfl | refine (State.setCell_pending ..).trans ?_ | refine (State.setMg_pending ..).trans ?_
      | apply ite_pending | split | refine (foldl_pending _ (fun _ _ => ?_) _ _).trans ?_ | dsimp only)

theorem State.cellReaction_inv (s : State) (code ci : Nat) (byp : Bool) (h : s.Inv)
    : (s.cellReaction code ci byp).Inv := by
  unfold State.cellReaction; try dsimp only
  iterate 25 all_goals try with_reducible (first
      | assumption | apply State.setCell_inv | apply State.setMg_inv | apply ite_inv | split
      | (apply foldl_inv; intro _ _ _)
      | refine State.Inv.upd (by rfl) (by rfl) (by rfl) (by rfl) (by rfl) (by rfl) (by rfl) (by rfl) ?_)

@[simp] theorem State.cellNoted_pending (s : State) (code ci : Nat) :
    (s.cellNoted code ci).pending = s.pending := by
  unfold State.cellNoted; try dsimp only
  iterate 25 all_goals try with_reducible (first | rfl | refine (State.setCell_pending ..).trans ?_ | apply ite_pending | split | refine (foldl_pending _ (fun _ _ => ?_) _ _).trans ?_ | dsimp only)

theorem State.cellNoted_inv (s : State) (code ci : Nat) (h : s.Inv) :
    (s.cellNoted code ci).Inv := by
  unfold State.cellNoted; try dsimp only
  iterate 25 all_goals try with_reducible (first | assumption | apply State.setCell_inv | apply ite_inv | split | (apply foldl_inv; intro _ _ _) | refine State.Inv.upd (by rfl) (by rfl) (by rfl) (by rfl) (by rfl) (by rfl) (by rfl) (by rfl) ?_)

@[simp] theorem State.react_pending (s : State) (code inst : Nat) (byp : Bool) (t : Nat) :
    (s.react code inst byp t).pending = s.pending := by
  unfold State.react; try dsimp only
  iterate 25 all_goals try with_reducible (first | rfl | refine (State.startGiveUp_pending ..).trans ?_ | refine (State.blockModule_pending ..).trans ?_ | refine (State.block_pending ..).trans ?_ | refine (State.cellReaction_pending ..).trans ?_ | refine (State.cellNoted_pending ..).trans ?_ | apply ite_pending | split | refine (foldl_pending _ (fun _ _ => ?_) _ _).trans ?_ | dsimp only)

theorem State.react_inv (s : State) (code inst : Nat) (byp : Bool) (t : Nat) (h : s.Inv) :
    (s.react code inst byp t).Inv := by
  unfold State.react; try dsimp only
  iterate 25 all_goals try with_reducible (first | assumption | apply State.startGiveUp_inv | apply State.blockModule_inv | apply State.block_inv | apply State.cellReaction_inv | apply State.cellNoted_inv | apply ite_inv | split | (apply foldl_inv; intro _ _ _) | refine State.Inv.upd (by rfl) (by rfl) (by rfl) (by rfl) (by rfl) (by rfl) (by rfl) (by rfl) ?_)

@[simp] theorem State.raiseB_pending (s : State) (code inst : Nat) (detail : Word) (t : Nat) (byp : Bool)
    : (s.raiseB code inst detail t byp).pending = s.pending := by
  unfold State.raiseB; try dsimp only
  iterate 25 all_goals try with_reducible (first
      | rfl | refine (State.enqueue_pending ..).trans ?_ | refine (State.blotEvent_pending ..).trans ?_
      | refine (State.react_pending ..).trans ?_ | refine (State.capture_pending ..).trans ?_
      | apply ite_pending | split | refine (foldl_pending _ (fun _ _ => ?_) _ _).trans ?_ | dsimp only)

theorem State.raiseB_inv (s : State) (code inst : Nat) (detail : Word) (t : Nat) (byp : Bool) (h : s.Inv)
    : (s.raiseB code inst detail t byp).Inv := by
  unfold State.raiseB; try dsimp only
  iterate 25 all_goals try with_reducible (first
      | assumption | apply State.enqueue_inv | apply State.blotEvent_inv | apply State.react_inv
      | apply State.capture_inv | apply ite_inv | split | (apply foldl_inv; intro _ _ _)
      | refine State.Inv.upd (by rfl) (by rfl) (by rfl) (by rfl) (by rfl) (by rfl) (by rfl) (by rfl) ?_)

@[simp] theorem State.raise_pending (s : State) (code inst : Nat) (detail : Word) (t : Nat)
    : (s.raise code inst detail t).pending = s.pending := by
  unfold State.raise; try dsimp only
  iterate 25 all_goals try with_reducible (first
      | rfl | refine (State.raiseB_pending ..).trans ?_ | apply ite_pending | split
      | refine (foldl_pending _ (fun _ _ => ?_) _ _).trans ?_ | dsimp only)

theorem State.raise_inv (s : State) (code inst : Nat) (detail : Word) (t : Nat) (h : s.Inv)
    : (s.raise code inst detail t).Inv := by
  unfold State.raise; try dsimp only
  iterate 25 all_goals try with_reducible (first
      | assumption | apply State.raiseB_inv | apply ite_inv | split | (apply foldl_inv; intro _ _ _)
      | refine State.Inv.upd (by rfl) (by rfl) (by rfl) (by rfl) (by rfl) (by rfl) (by rfl) (by rfl) ?_)

@[simp] theorem State.safRaise_pending (s : State) (c code inst t : Nat)
    : (s.safRaise c code inst t).pending = s.pending := by
  unfold State.safRaise; try dsimp only
  iterate 25 all_goals try with_reducible (first
      | rfl | refine (State.raise_pending ..).trans ?_ | apply ite_pending | split
      | refine (foldl_pending _ (fun _ _ => ?_) _ _).trans ?_ | dsimp only)

theorem State.safRaise_inv (s : State) (c code inst t : Nat) (h : s.Inv) : (s.safRaise c code inst t).Inv := by
  unfold State.safRaise; try dsimp only
  iterate 25 all_goals try with_reducible (first
      | assumption | apply State.raise_inv | apply ite_inv | split | (apply foldl_inv; intro _ _ _)
      | refine State.Inv.upd (by rfl) (by rfl) (by rfl) (by rfl) (by rfl) (by rfl) (by rfl) (by rfl) ?_)

@[simp] theorem State.clear_pending (s : State) (code inst : Nat) (t : Nat)
    : (s.clear code inst t).pending = s.pending := by
  unfold State.clear; try dsimp only
  iterate 25 all_goals try with_reducible (first
      | rfl | refine (State.enqueue_pending ..).trans ?_ | apply ite_pending | split
      | refine (foldl_pending _ (fun _ _ => ?_) _ _).trans ?_ | dsimp only)

theorem State.clear_inv (s : State) (code inst : Nat) (t : Nat) (h : s.Inv) : (s.clear code inst t).Inv := by
  unfold State.clear; try dsimp only
  iterate 25 all_goals try with_reducible (first
      | assumption | apply State.enqueue_inv | apply ite_inv | split | (apply foldl_inv; intro _ _ _)
      | refine State.Inv.upd (by rfl) (by rfl) (by rfl) (by rfl) (by rfl) (by rfl) (by rfl) (by rfl) ?_)

@[simp] theorem State.condGone_pending (s : State) (code inst : Nat)
    : (s.condGone code inst).pending = s.pending := by
  unfold State.condGone; try dsimp only
  iterate 25 all_goals try with_reducible (first
      | rfl | apply ite_pending | split | refine (foldl_pending _ (fun _ _ => ?_) _ _).trans ?_ | dsimp only)

theorem State.condGone_inv (s : State) (code inst : Nat) (h : s.Inv) : (s.condGone code inst).Inv := by
  unfold State.condGone; try dsimp only
  iterate 25 all_goals try with_reducible (first
      | assumption | apply ite_inv | split | (apply foldl_inv; intro _ _ _)
      | refine State.Inv.upd (by rfl) (by rfl) (by rfl) (by rfl) (by rfl) (by rfl) (by rfl) (by rfl) ?_)

@[simp] theorem State.judge_pending (s : State) (code inst : Nat) (present : Bool) (need : Nat) (detail
    : Word) (t : Nat) : (s.judge code inst present need detail t).pending = s.pending := by
  unfold State.judge; try dsimp only
  iterate 25 all_goals try with_reducible (first
      | rfl | refine (State.raise_pending ..).trans ?_ | refine (State.clear_pending ..).trans ?_
      | refine (State.condGone_pending ..).trans ?_ | apply ite_pending | split
      | refine (foldl_pending _ (fun _ _ => ?_) _ _).trans ?_ | dsimp only)

theorem State.judge_inv (s : State) (code inst : Nat) (present : Bool) (need : Nat) (detail : Word) (t
    : Nat) (h : s.Inv) : (s.judge code inst present need detail t).Inv := by
  unfold State.judge; try dsimp only
  iterate 25 all_goals try with_reducible (first
      | assumption | apply State.raise_inv | apply State.clear_inv | apply State.condGone_inv | apply ite_inv
      | split | (apply foldl_inv; intro _ _ _)
      | refine State.Inv.upd (by rfl) (by rfl) (by rfl) (by rfl) (by rfl) (by rfl) (by rfl) (by rfl) ?_)

@[simp] theorem State.judgeRun_pending (s : State) (code inst : Nat) (present : Bool) (run need quiet t : Nat) :
    (s.judgeRun code inst present run need quiet t).pending = s.pending := by
  unfold State.judgeRun; try dsimp only
  iterate 25 all_goals try with_reducible (first | rfl | refine (State.raise_pending ..).trans ?_ | refine (State.judge_pending ..).trans ?_ | apply ite_pending | split | refine (foldl_pending _ (fun _ _ => ?_) _ _).trans ?_ | dsimp only)

theorem State.judgeRun_inv (s : State) (code inst : Nat) (present : Bool) (run need quiet t : Nat) (h : s.Inv) :
    (s.judgeRun code inst present run need quiet t).Inv := by
  unfold State.judgeRun; try dsimp only
  iterate 25 all_goals try with_reducible (first | assumption | apply State.raise_inv | apply State.judge_inv | apply ite_inv | split | (apply foldl_inv; intro _ _ _) | refine State.Inv.upd (by rfl) (by rfl) (by rfl) (by rfl) (by rfl) (by rfl) (by rfl) (by rfl) ?_)

@[simp] theorem State.satEvent_pending (s : State) (now : Bool) (k : Nat) (t : Nat)
    : (s.satEvent now k t).pending = s.pending := by
  unfold State.satEvent; try dsimp only
  iterate 25 all_goals try with_reducible (first
      | rfl | refine (State.raise_pending ..).trans ?_ | apply ite_pending | split
      | refine (foldl_pending _ (fun _ _ => ?_) _ _).trans ?_ | dsimp only)

theorem State.satEvent_inv (s : State) (now : Bool) (k : Nat) (t : Nat) (h : s.Inv)
    : (s.satEvent now k t).Inv := by
  unfold State.satEvent; try dsimp only
  iterate 25 all_goals try with_reducible (first
      | assumption | apply State.raise_inv | apply ite_inv | split | (apply foldl_inv; intro _ _ _)
      | refine State.Inv.upd (by rfl) (by rfl) (by rfl) (by rfl) (by rfl) (by rfl) (by rfl) (by rfl) ?_)

@[simp] theorem State.request_pending (s : State) (ci code : Nat) (params : List Byte)
    : (s.request ci code params).pending = s.pending := by
  unfold State.request; try dsimp only
  iterate 25 all_goals try with_reducible (first
      | rfl | refine (State.setMg_pending ..).trans ?_ | refine (State.emit_pending ..).trans ?_
      | apply ite_pending | split | refine (foldl_pending _ (fun _ _ => ?_) _ _).trans ?_ | dsimp only)

theorem State.request_inv (s : State) (ci code : Nat) (params : List Byte) (h : s.Inv)
    : (s.request ci code params).Inv := by
  unfold State.request; try dsimp only
  iterate 25 all_goals try with_reducible (first
      | assumption | apply State.setMg_inv | apply State.emit_inv | apply ite_inv | split
      | (apply foldl_inv; intro _ _ _)
      | refine State.Inv.upd (by rfl) (by rfl) (by rfl) (by rfl) (by rfl) (by rfl) (by rfl) (by rfl) ?_)

@[simp] theorem State.sendRetire_pending (s : State) (ci : Nat) : (s.sendRetire ci).pending = s.pending := by
  unfold State.sendRetire; try dsimp only
  iterate 25 all_goals try with_reducible (first
      | rfl | refine (State.request_pending ..).trans ?_ | apply ite_pending | split
      | refine (foldl_pending _ (fun _ _ => ?_) _ _).trans ?_ | dsimp only)

theorem State.sendRetire_inv (s : State) (ci : Nat) (h : s.Inv) : (s.sendRetire ci).Inv := by
  unfold State.sendRetire; try dsimp only
  iterate 25 all_goals try with_reducible (first
      | assumption | apply State.request_inv | apply ite_inv | split | (apply foldl_inv; intro _ _ _)
      | refine State.Inv.upd (by rfl) (by rfl) (by rfl) (by rfl) (by rfl) (by rfl) (by rfl) (by rfl) ?_)

end Sys2Proof.Machine
end

