-- ==== Sys2Proof/Laws/Events.lean ====
section
/-! SUPPORT. Events: what raising and clearing leave alone. -/

namespace Sys2Proof.Machine

theorem State.EventReach.refl (s : State) : s.EventReach s :=
  ⟨rfl, rfl, rfl, rfl, rfl, rfl, rfl, rfl, rfl, rfl, rfl, rfl, rfl, rfl, rfl, rfl, rfl, rfl, rfl, rfl, rfl,
    rfl, rfl, rfl, rfl, rfl, rfl⟩

theorem State.EventReach.trans {s t u : State} (h : s.EventReach t) (k : t.EventReach u) : s.EventReach u :=
  ⟨k.pending.trans h.pending, k.cycle.trans h.cycle, k.mono.trans h.mono, k.regs.trans h.regs, k.nextW.trans
    h.nextW, k.cmd.trans h.cmd, k.shadow.trans h.shadow, k.boot.trans h.boot, k.jrnl.trans h.jrnl,
    k.echo.trans h.echo, k.strs.trans h.strs, k.lanes.trans h.lanes, k.bond.trans h.bond, k.nibs.trans h.nibs,
    k.nibx.trans h.nibx, k.clk.trans h.clk, k.saf.trans h.saf, k.duct.trans h.duct, k.sched.trans h.sched,
    k.therm.trans h.therm, k.sup.trans h.sup, k.loops.trans h.loops, k.ai.trans h.ai, k.net.trans h.net,
    k.free.trans h.free, k.sys.trans (by rw [h.sys]), k.ink.trans (by rw [h.ink])⟩

theorem ite_reach {s a b : State} {c : Prop} [Decidable c] (ha : s.EventReach a) (hb : s.EventReach b) :
    s.EventReach (if c then a else b) := by
  split
  · exact ha
  · exact hb

theorem foldl_reach {α : Type} (f : State → α → State) (h : ∀ (s : State) (x : α), s.EventReach (f s x)) :
    ∀ (l : List α) (s : State), s.EventReach (l.foldl f s)
  | [], s => .refl s
  | x :: l, s => (h s x).trans (foldl_reach f h l (f s x))

theorem State.emit_reach (s : State) (o : Output) :
    s.EventReach (s.emit o) := by
  unfold State.emit; try dsimp only
  iterate 12 all_goals try with_reducible (first
      | exact .refl _
      | apply ite_reach | split | (refine State.EventReach.trans ?_ (foldl_reach _ (fun _ _ => ?_) _ _)))
  all_goals (constructor <;> rfl)

theorem State.setTx_reach (s : State) (i : Nat) (x : Tx) :
    s.EventReach (s.setTx i x) := by
  unfold State.setTx; try dsimp only
  iterate 12 all_goals try with_reducible (first
      | exact .refl _
      | apply ite_reach | split | (refine State.EventReach.trans ?_ (foldl_reach _ (fun _ _ => ?_) _ _)))
  all_goals (constructor <;> rfl)

theorem State.urgent_reach (s : State) (i : Nat) (o : OSet) (t : Nat) :
    s.EventReach (s.urgent i o t) := by
  unfold State.urgent; try dsimp only
  iterate 12 all_goals try with_reducible (first
      | exact .refl _
      | refine State.EventReach.trans ?_ (State.emit_reach ..)
      | refine State.EventReach.trans ?_ (State.setTx_reach ..)
      | apply ite_reach | split | (refine State.EventReach.trans ?_ (foldl_reach _ (fun _ _ => ?_) _ _)))
  all_goals (constructor <;> rfl)

theorem State.queueEntry_reach (s : State) (code kind inst : Nat) (detail : Word) (t : Nat) :
    s.EventReach (s.queueEntry code kind inst detail t) := by
  unfold State.queueEntry; try dsimp only
  iterate 12 all_goals try with_reducible (first
      | exact .refl _
      | apply ite_reach | split | (refine State.EventReach.trans ?_ (foldl_reach _ (fun _ _ => ?_) _ _)))
  all_goals (constructor <;> rfl)

theorem State.lostSats_reach (s o : State) (t : Nat) : s.EventReach (s.lostSats o t) := by
  unfold State.lostSats
  exact ite_reach (queueEntry_reach ..) (.refl _)

theorem State.enqueue_reach (s : State) (code kind inst : Nat) (detail : Word) (t : Nat) :
    s.EventReach (s.enqueue code kind inst detail t) := (queueEntry_reach ..).trans (lostSats_reach ..)

/-- A queue entry touches the events alone. -/
theorem State.enqueue_evt (s : State) (code kind inst : Nat) (detail : Word) (t : Nat) :
    s.enqueue code kind inst detail t = { s with evt := (s.enqueue code kind inst detail t).evt } := by
  unfold State.enqueue State.lostSats
  split <;> rfl

theorem State.capture_reach (s : State) (code inst : Nat) (detail : Word) (t : Nat) :
    s.EventReach (s.capture code inst detail t) := by
  unfold State.capture; try dsimp only
  iterate 12 all_goals try with_reducible (first
      | exact .refl _
      | apply ite_reach | split | (refine State.EventReach.trans ?_ (foldl_reach _ (fun _ _ => ?_) _ _)))
  all_goals (constructor <;> rfl)

theorem State.sendBlk_reach (s : State) (mask t : Nat) :
    s.EventReach (s.sendBlk mask t) := by
  unfold State.sendBlk; try dsimp only
  iterate 12 all_goals try with_reducible (first
      | exact .refl _
      | refine State.EventReach.trans ?_ (State.urgent_reach ..)
      | apply ite_reach | split | (refine State.EventReach.trans ?_ (foldl_reach _ (fun _ _ => ?_) _ _)))
  all_goals (constructor <;> rfl)

theorem State.sendBlkAll_reach (s : State) (t : Nat) : s.EventReach (s.sendBlkAll t) := by
  unfold State.sendBlkAll
  exact ite_reach (.refl _) (foldl_reach _ (fun _ _ => urgent_reach ..) _ _)

theorem State.sendPbk_reach (s : State) (mask t : Nat) :
    s.EventReach (s.sendPbk mask t) := by
  unfold State.sendPbk; try dsimp only
  iterate 12 all_goals try with_reducible (first
      | exact .refl _
      | refine State.EventReach.trans ?_ (State.urgent_reach ..)
      | apply ite_reach | split | (refine State.EventReach.trans ?_ (foldl_reach _ (fun _ _ => ?_) _ _)))
  all_goals (constructor <;> rfl)

theorem State.force_reach (s : State) (mask : Nat) :
    s.EventReach (s.force mask) := by
  unfold State.force; try dsimp only
  iterate 12 all_goals try with_reducible (first
      | exact .refl _
      | apply ite_reach | split | (refine State.EventReach.trans ?_ (foldl_reach _ (fun _ _ => ?_) _ _)))
  all_goals (constructor <;> rfl)

theorem State.block_reach (s : State) (mask t : Nat) :
    s.EventReach (s.block mask t) := by
  unfold State.block; try dsimp only
  iterate 12 all_goals try with_reducible (first
      | exact .refl _
      | refine State.EventReach.trans ?_ (State.sendBlk_reach ..)
      | refine State.EventReach.trans ?_ (State.sendPbk_reach ..)
      | refine State.EventReach.trans ?_ (State.force_reach ..)
      | apply ite_reach | split | (refine State.EventReach.trans ?_ (foldl_reach _ (fun _ _ => ?_) _ _)))
  all_goals (constructor <;> rfl)

theorem State.blockModule_reach (s : State) (t : Nat) :
    s.EventReach (s.blockModule t) := by
  unfold State.blockModule; try dsimp only
  iterate 12 all_goals try with_reducible (first
      | exact .refl _
      | refine State.EventReach.trans ?_ (State.sendBlkAll_reach ..)
      | refine State.EventReach.trans ?_ (State.sendPbk_reach ..)
      | refine State.EventReach.trans ?_ (State.force_reach ..)
      | apply ite_reach | split | (refine State.EventReach.trans ?_ (foldl_reach _ (fun _ _ => ?_) _ _)))
  all_goals (constructor <;> rfl)

theorem State.blotTrigger_reach (s : State) (row : Nat) (t : Nat) :
    s.EventReach (s.blotTrigger row t) := by
  unfold State.blotTrigger; try dsimp only
  iterate 12 all_goals try with_reducible (first
      | exact .refl _
      | refine State.EventReach.trans ?_ (State.enqueue_reach ..)
      | apply ite_reach | split | (refine State.EventReach.trans ?_ (foldl_reach _ (fun _ _ => ?_) _ _)))
  all_goals (constructor <;> rfl)

theorem State.blotEvent_reach (s : State) (code : Nat) (t : Nat) :
    s.EventReach (s.blotEvent code t) := by
  unfold State.blotEvent; try dsimp only
  iterate 12 all_goals try with_reducible (first
      | exact .refl _
      | refine State.EventReach.trans ?_ (State.blotTrigger_reach ..)
      | apply ite_reach | split | (refine State.EventReach.trans ?_ (foldl_reach _ (fun _ _ => ?_) _ _)))
  all_goals (constructor <;> rfl)

theorem State.startGiveUp_reach (s : State) :
    s.EventReach (s.startGiveUp) := by
  unfold State.startGiveUp; try dsimp only
  iterate 12 all_goals try with_reducible (first
      | exact .refl _
      | refine State.EventReach.trans ?_ (State.enqueue_reach ..)
      | refine State.EventReach.trans ?_ (State.blotEvent_reach ..)
      | apply ite_reach | split | (refine State.EventReach.trans ?_ (foldl_reach _ (fun _ _ => ?_) _ _)))
  all_goals (constructor <;> rfl)

theorem State.cellReaction_reach (s : State) (code ci : Nat) (byp : Bool) :
    s.EventReach (s.cellReaction code ci byp) := by
  unfold State.cellReaction; try dsimp only
  iterate 12 all_goals try with_reducible (first
      | exact .refl _
      | apply ite_reach | split | (refine State.EventReach.trans ?_ (foldl_reach _ (fun _ _ => ?_) _ _)))
  all_goals (constructor <;> rfl)

theorem State.cellNoted_reach (s : State) (code ci : Nat) :
    s.EventReach (s.cellNoted code ci) := by
  unfold State.cellNoted; try dsimp only
  iterate 12 all_goals try with_reducible (first
      | exact .refl _
      | apply ite_reach | split | (refine State.EventReach.trans ?_ (foldl_reach _ (fun _ _ => ?_) _ _)))
  all_goals (constructor <;> rfl)

theorem State.react_reach (s : State) (code inst : Nat) (byp : Bool) (t : Nat) :
    s.EventReach (s.react code inst byp t) := by
  unfold State.react
  generalize classOf code = c
  cases c <;> dsimp only
  · exact .refl _
  · exact .refl _
  · split
    · exact cellNoted_reach ..
    · exact cellReaction_reach ..
  · split
    · exact startGiveUp_reach ..
    · split
      · constructor <;> rfl
      · split
        · exact (block_reach ..).trans (cellReaction_reach ..)
        · exact block_reach ..
  · split
    · exact startGiveUp_reach ..
    · exact (blockModule_reach ..).trans (by constructor <;> rfl)
  · exact .refl _

theorem State.setActive_reach (s : State) (l : List ActEv) :
    s.EventReach { s with evt := { s.evt with active := l } } := by constructor <;> rfl

theorem State.raiseB_reach (s : State) (code inst : Nat) (detail : Word) (t : Nat) (byp : Bool) :
    s.EventReach (s.raiseB code inst detail t byp) := by
  rw [State.raiseB]
  split
  · exact (enqueue_reach ..).trans (blotEvent_reach ..)
  · split
    · dsimp only
      split
      · exact (setActive_reach ..).trans (react_reach ..)
      · exact setActive_reach ..
    · refine EventReach.trans ?_ (react_reach ..)
      refine EventReach.trans ?_ (blotEvent_reach ..)
      exact ((setActive_reach ..).trans (enqueue_reach ..)).trans (capture_reach ..)

theorem State.raise_reach (s : State) (code inst : Nat) (detail : Word) (t : Nat) :
    s.EventReach (s.raise code inst detail t) := by
  unfold State.raise; try dsimp only
  iterate 12 all_goals try with_reducible (first
      | exact .refl _
      | refine State.EventReach.trans ?_ (State.raiseB_reach ..)
      | apply ite_reach | split | (refine State.EventReach.trans ?_ (foldl_reach _ (fun _ _ => ?_) _ _)))
  all_goals (constructor <;> rfl)

theorem State.clear_reach (s : State) (code inst : Nat) (t : Nat) :
    s.EventReach (s.clear code inst t) := by
  unfold State.clear; try dsimp only
  iterate 12 all_goals try with_reducible (first
      | exact .refl _
      | refine State.EventReach.trans ?_ (State.enqueue_reach ..)
      | apply ite_reach | split | (refine State.EventReach.trans ?_ (foldl_reach _ (fun _ _ => ?_) _ _)))
  all_goals (constructor <;> rfl)

theorem State.condGone_reach (s : State) (code inst : Nat) :
    s.EventReach (s.condGone code inst) := by
  unfold State.condGone; try dsimp only
  iterate 12 all_goals try with_reducible (first
      | exact .refl _
      | apply ite_reach | split | (refine State.EventReach.trans ?_ (foldl_reach _ (fun _ _ => ?_) _ _)))
  all_goals (constructor <;> rfl)

theorem State.judge_reach (s : State) (code inst : Nat) (present : Bool) (need : Nat) (detail : Word) (t : Nat) :
    s.EventReach (s.judge code inst present need detail t) := by
  unfold State.judge; try dsimp only
  iterate 12 all_goals try with_reducible (first
      | exact .refl _
      | refine State.EventReach.trans ?_ (State.raise_reach ..)
      | refine State.EventReach.trans ?_ (State.clear_reach ..)
      | refine State.EventReach.trans ?_ (State.condGone_reach ..)
      | apply ite_reach | split | (refine State.EventReach.trans ?_ (foldl_reach _ (fun _ _ => ?_) _ _)))
  all_goals (constructor <;> rfl)

theorem State.satEvent_reach (s : State) (now : Bool) (k : Nat) (t : Nat) :
    s.EventReach (s.satEvent now k t) := by
  unfold State.satEvent; try dsimp only
  iterate 12 all_goals try with_reducible (first
      | exact .refl _
      | refine State.EventReach.trans ?_ (State.raise_reach ..)
      | apply ite_reach | split | (refine State.EventReach.trans ?_ (foldl_reach _ (fun _ _ => ?_) _ _)))
  all_goals (constructor <;> rfl)

theorem State.request_reach (s : State) (ci code : Nat) (params : List Byte) :
    s.EventReach (s.request ci code params) := by
  unfold State.request; try dsimp only
  iterate 12 all_goals try with_reducible (first
      | exact .refl _
      | refine State.EventReach.trans ?_ (State.emit_reach ..)
      | apply ite_reach | split | (refine State.EventReach.trans ?_ (foldl_reach _ (fun _ _ => ?_) _ _)))
  all_goals (constructor <;> rfl)

theorem State.sendRetire_reach (s : State) (ci : Nat) :
    s.EventReach (s.sendRetire ci) := by
  unfold State.sendRetire; try dsimp only
  iterate 12 all_goals try with_reducible (first
      | exact .refl _
      | refine State.EventReach.trans ?_ (State.request_reach ..)
      | apply ite_reach | split | (refine State.EventReach.trans ?_ (foldl_reach _ (fun _ _ => ?_) _ _)))
  all_goals (constructor <;> rfl)

/-! ## Field by field -/

@[simp] theorem State.raise_cycle (s : State) (code inst : Nat) (detail : Word) (t : Nat) :
    (s.raise code inst detail t).cycle = s.cycle := (raise_reach ..).cycle
@[simp] theorem State.raise_mono (s : State) (code inst : Nat) (detail : Word) (t : Nat) :
    (s.raise code inst detail t).mono = s.mono := (raise_reach ..).mono
@[simp] theorem State.raise_regs (s : State) (code inst : Nat) (detail : Word) (t : Nat) :
    (s.raise code inst detail t).regs = s.regs := (raise_reach ..).regs
@[simp] theorem State.raise_nextW (s : State) (code inst : Nat) (detail : Word) (t : Nat) :
    (s.raise code inst detail t).nextW = s.nextW := (raise_reach ..).nextW
@[simp] theorem State.raise_cmd (s : State) (code inst : Nat) (detail : Word) (t : Nat) :
    (s.raise code inst detail t).cmd = s.cmd := (raise_reach ..).cmd
@[simp] theorem State.raise_shadow (s : State) (code inst : Nat) (detail : Word) (t : Nat) :
    (s.raise code inst detail t).shadow = s.shadow := (raise_reach ..).shadow
@[simp] theorem State.raise_boot (s : State) (code inst : Nat) (detail : Word) (t : Nat) :
    (s.raise code inst detail t).boot = s.boot := (raise_reach ..).boot
@[simp] theorem State.raise_jrnl (s : State) (code inst : Nat) (detail : Word) (t : Nat) :
    (s.raise code inst detail t).jrnl = s.jrnl := (raise_reach ..).jrnl
@[simp] theorem State.raise_echo (s : State) (code inst : Nat) (detail : Word) (t : Nat) :
    (s.raise code inst detail t).echo = s.echo := (raise_reach ..).echo
@[simp] theorem State.raise_strs (s : State) (code inst : Nat) (detail : Word) (t : Nat) :
    (s.raise code inst detail t).strs = s.strs := (raise_reach ..).strs
@[simp] theorem State.raise_lanes (s : State) (code inst : Nat) (detail : Word) (t : Nat) :
    (s.raise code inst detail t).lanes = s.lanes := (raise_reach ..).lanes
@[simp] theorem State.raise_bond (s : State) (code inst : Nat) (detail : Word) (t : Nat) :
    (s.raise code inst detail t).bond = s.bond := (raise_reach ..).bond
@[simp] theorem State.raise_nibs (s : State) (code inst : Nat) (detail : Word) (t : Nat) :
    (s.raise code inst detail t).nibs = s.nibs := (raise_reach ..).nibs
@[simp] theorem State.raise_nibx (s : State) (code inst : Nat) (detail : Word) (t : Nat) :
    (s.raise code inst detail t).nibx = s.nibx := (raise_reach ..).nibx
@[simp] theorem State.raise_clk (s : State) (code inst : Nat) (detail : Word) (t : Nat) :
    (s.raise code inst detail t).clk = s.clk := (raise_reach ..).clk
@[simp] theorem State.raise_saf (s : State) (code inst : Nat) (detail : Word) (t : Nat) :
    (s.raise code inst detail t).saf = s.saf := (raise_reach ..).saf
@[simp] theorem State.raise_duct (s : State) (code inst : Nat) (detail : Word) (t : Nat) :
    (s.raise code inst detail t).duct = s.duct := (raise_reach ..).duct
@[simp] theorem State.raise_sched (s : State) (code inst : Nat) (detail : Word) (t : Nat) :
    (s.raise code inst detail t).sched = s.sched := (raise_reach ..).sched
@[simp] theorem State.raise_therm (s : State) (code inst : Nat) (detail : Word) (t : Nat) :
    (s.raise code inst detail t).therm = s.therm := (raise_reach ..).therm
@[simp] theorem State.raise_sup (s : State) (code inst : Nat) (detail : Word) (t : Nat) :
    (s.raise code inst detail t).sup = s.sup := (raise_reach ..).sup
@[simp] theorem State.raise_loops (s : State) (code inst : Nat) (detail : Word) (t : Nat) :
    (s.raise code inst detail t).loops = s.loops := (raise_reach ..).loops
@[simp] theorem State.raise_ai (s : State) (code inst : Nat) (detail : Word) (t : Nat) :
    (s.raise code inst detail t).ai = s.ai := (raise_reach ..).ai
@[simp] theorem State.raise_net (s : State) (code inst : Nat) (detail : Word) (t : Nat) :
    (s.raise code inst detail t).net = s.net := (raise_reach ..).net
@[simp] theorem State.raise_free (s : State) (code inst : Nat) (detail : Word) (t : Nat) :
    (s.raise code inst detail t).free = s.free := (raise_reach ..).free

@[simp] theorem State.clear_cycle (s : State) (code inst t : Nat) : (s.clear code inst t).cycle = s.cycle :=
  (clear_reach ..).cycle
@[simp] theorem State.clear_mono (s : State) (code inst t : Nat) : (s.clear code inst t).mono = s.mono :=
  (clear_reach ..).mono
@[simp] theorem State.clear_regs (s : State) (code inst t : Nat) : (s.clear code inst t).regs = s.regs :=
  (clear_reach ..).regs
@[simp] theorem State.clear_nextW (s : State) (code inst t : Nat) : (s.clear code inst t).nextW = s.nextW :=
  (clear_reach ..).nextW
@[simp] theorem State.clear_cmd (s : State) (code inst t : Nat) : (s.clear code inst t).cmd = s.cmd :=
  (clear_reach ..).cmd
@[simp] theorem State.clear_shadow (s : State) (code inst t : Nat) : (s.clear code inst t).shadow = s.shadow :=
  (clear_reach ..).shadow
@[simp] theorem State.clear_boot (s : State) (code inst t : Nat) : (s.clear code inst t).boot = s.boot :=
  (clear_reach ..).boot
@[simp] theorem State.clear_jrnl (s : State) (code inst t : Nat) : (s.clear code inst t).jrnl = s.jrnl :=
  (clear_reach ..).jrnl
@[simp] theorem State.clear_echo (s : State) (code inst t : Nat) : (s.clear code inst t).echo = s.echo :=
  (clear_reach ..).echo
@[simp] theorem State.clear_strs (s : State) (code inst t : Nat) : (s.clear code inst t).strs = s.strs :=
  (clear_reach ..).strs
@[simp] theorem State.clear_lanes (s : State) (code inst t : Nat) : (s.clear code inst t).lanes = s.lanes :=
  (clear_reach ..).lanes
@[simp] theorem State.clear_bond (s : State) (code inst t : Nat) : (s.clear code inst t).bond = s.bond :=
  (clear_reach ..).bond
@[simp] theorem State.clear_nibs (s : State) (code inst t : Nat) : (s.clear code inst t).nibs = s.nibs :=
  (clear_reach ..).nibs
@[simp] theorem State.clear_nibx (s : State) (code inst t : Nat) : (s.clear code inst t).nibx = s.nibx :=
  (clear_reach ..).nibx
@[simp] theorem State.clear_clk (s : State) (code inst t : Nat) : (s.clear code inst t).clk = s.clk :=
  (clear_reach ..).clk
@[simp] theorem State.clear_saf (s : State) (code inst t : Nat) : (s.clear code inst t).saf = s.saf :=
  (clear_reach ..).saf
@[simp] theorem State.clear_duct (s : State) (code inst t : Nat) : (s.clear code inst t).duct = s.duct :=
  (clear_reach ..).duct
@[simp] theorem State.clear_sched (s : State) (code inst t : Nat) : (s.clear code inst t).sched = s.sched :=
  (clear_reach ..).sched
@[simp] theorem State.clear_therm (s : State) (code inst t : Nat) : (s.clear code inst t).therm = s.therm :=
  (clear_reach ..).therm
@[simp] theorem State.clear_sup (s : State) (code inst t : Nat) : (s.clear code inst t).sup = s.sup :=
  (clear_reach ..).sup
@[simp] theorem State.clear_loops (s : State) (code inst t : Nat) : (s.clear code inst t).loops = s.loops :=
  (clear_reach ..).loops
@[simp] theorem State.clear_ai (s : State) (code inst t : Nat) : (s.clear code inst t).ai = s.ai :=
  (clear_reach ..).ai
@[simp] theorem State.clear_net (s : State) (code inst t : Nat) : (s.clear code inst t).net = s.net :=
  (clear_reach ..).net
@[simp] theorem State.clear_free (s : State) (code inst t : Nat) : (s.clear code inst t).free = s.free :=
  (clear_reach ..).free

/-! Inside the module's own record and the Inkwell: all but the request for BLOCKED and the Blotter. -/

@[simp] theorem State.raise_sys_powered (s : State) (code inst : Nat) (detail : Word) (t : Nat) :
    (s.raise code inst detail t).sys.powered = s.sys.powered := by rw [(raise_reach s code inst detail t).sys]
@[simp] theorem State.raise_sys_stopping (s : State) (code inst : Nat) (detail : Word) (t : Nat) :
    (s.raise code inst detail t).sys.stopping = s.sys.stopping := by rw [(raise_reach s code inst detail t).sys]
@[simp] theorem State.raise_sys_fwRuns (s : State) (code inst : Nat) (detail : Word) (t : Nat) :
    (s.raise code inst detail t).sys.fwRuns = s.sys.fwRuns := by rw [(raise_reach s code inst detail t).sys]
@[simp] theorem State.raise_sys_stuck (s : State) (code inst : Nat) (detail : Word) (t : Nat) :
    (s.raise code inst detail t).sys.stuck = s.sys.stuck := by rw [(raise_reach s code inst detail t).sys]
@[simp] theorem State.raise_sys_mode (s : State) (code inst : Nat) (detail : Word) (t : Nat) :
    (s.raise code inst detail t).sys.mode = s.sys.mode := by rw [(raise_reach s code inst detail t).sys]
@[simp] theorem State.raise_sys_prev (s : State) (code inst : Nat) (detail : Word) (t : Nat) :
    (s.raise code inst detail t).sys.prev = s.sys.prev := by rw [(raise_reach s code inst detail t).sys]
@[simp] theorem State.raise_sys_reason (s : State) (code inst : Nat) (detail : Word) (t : Nat) :
    (s.raise code inst detail t).sys.reason = s.sys.reason := by rw [(raise_reach s code inst detail t).sys]
@[simp] theorem State.raise_sys_lastChg (s : State) (code inst : Nat) (detail : Word) (t : Nat) :
    (s.raise code inst detail t).sys.lastChg = s.sys.lastChg := by rw [(raise_reach s code inst detail t).sys]
@[simp] theorem State.raise_sys_modeReq (s : State) (code inst : Nat) (detail : Word) (t : Nat) :
    (s.raise code inst detail t).sys.modeReq = s.sys.modeReq := by rw [(raise_reach s code inst detail t).sys]
@[simp] theorem State.raise_sys_uptime (s : State) (code inst : Nat) (detail : Word) (t : Nat) :
    (s.raise code inst detail t).sys.uptime = s.sys.uptime := by rw [(raise_reach s code inst detail t).sys]
@[simp] theorem State.raise_sys_subSec (s : State) (code inst : Nat) (detail : Word) (t : Nat) :
    (s.raise code inst detail t).sys.subSec = s.sys.subSec := by rw [(raise_reach s code inst detail t).sys]
@[simp] theorem State.raise_sys_baseT (s : State) (code inst : Nat) (detail : Word) (t : Nat) :
    (s.raise code inst detail t).sys.baseT = s.sys.baseT := by rw [(raise_reach s code inst detail t).sys]
@[simp] theorem State.raise_sys_feedA (s : State) (code inst : Nat) (detail : Word) (t : Nat) :
    (s.raise code inst detail t).sys.feedA = s.sys.feedA := by rw [(raise_reach s code inst detail t).sys]
@[simp] theorem State.raise_sys_feedB (s : State) (code inst : Nat) (detail : Word) (t : Nat) :
    (s.raise code inst detail t).sys.feedB = s.sys.feedB := by rw [(raise_reach s code inst detail t).sys]
@[simp] theorem State.raise_sys_feedALow (s : State) (code inst : Nat) (detail : Word) (t : Nat) :
    (s.raise code inst detail t).sys.feedALow = s.sys.feedALow := by rw [(raise_reach s code inst detail t).sys]
@[simp] theorem State.raise_sys_feedBLow (s : State) (code inst : Nat) (detail : Word) (t : Nat) :
    (s.raise code inst detail t).sys.feedBLow = s.sys.feedBLow := by rw [(raise_reach s code inst detail t).sys]
@[simp] theorem State.raise_sys_live (s : State) (code inst : Nat) (detail : Word) (t : Nat) :
    (s.raise code inst detail t).sys.live = s.sys.live := by rw [(raise_reach s code inst detail t).sys]
@[simp] theorem State.raise_sys_reject (s : State) (code inst : Nat) (detail : Word) (t : Nat) :
    (s.raise code inst detail t).sys.reject = s.sys.reject := by rw [(raise_reach s code inst detail t).sys]
@[simp] theorem State.raise_sys_rejSat (s : State) (code inst : Nat) (detail : Word) (t : Nat) :
    (s.raise code inst detail t).sys.rejSat = s.sys.rejSat := by rw [(raise_reach s code inst detail t).sys]
@[simp] theorem State.raise_ink_mem (s : State) (code inst : Nat) (detail : Word) (t : Nat) :
    (s.raise code inst detail t).ink.mem = s.ink.mem := by rw [(raise_reach s code inst detail t).ink]
@[simp] theorem State.raise_ink_poison (s : State) (code inst : Nat) (detail : Word) (t : Nat) :
    (s.raise code inst detail t).ink.poison = s.ink.poison := by rw [(raise_reach s code inst detail t).ink]
@[simp] theorem State.raise_ink_cimPoison (s : State) (code inst : Nat) (detail : Word) (t : Nat) :
    (s.raise code inst detail t).ink.cimPoison = s.ink.cimPoison := by rw [(raise_reach s code inst detail t).ink]
@[simp] theorem State.raise_ink_cimClear (s : State) (code inst : Nat) (detail : Word) (t : Nat) :
    (s.raise code inst detail t).ink.cimClear = s.ink.cimClear := by rw [(raise_reach s code inst detail t).ink]
@[simp] theorem State.raise_ink_pcnt (s : State) (code inst : Nat) (detail : Word) (t : Nat) :
    (s.raise code inst detail t).ink.pcnt = s.ink.pcnt := by rw [(raise_reach s code inst detail t).ink]
@[simp] theorem State.raise_ink_pcntSat (s : State) (code inst : Nat) (detail : Word) (t : Nat) :
    (s.raise code inst detail t).ink.pcntSat = s.ink.pcntSat := by rw [(raise_reach s code inst detail t).ink]
@[simp] theorem State.raise_ink_cpcnt (s : State) (code inst : Nat) (detail : Word) (t : Nat) :
    (s.raise code inst detail t).ink.cpcnt = s.ink.cpcnt := by rw [(raise_reach s code inst detail t).ink]
@[simp] theorem State.raise_ink_cpcntSat (s : State) (code inst : Nat) (detail : Word) (t : Nat) :
    (s.raise code inst detail t).ink.cpcntSat = s.ink.cpcntSat := by rw [(raise_reach s code inst detail t).ink]
@[simp] theorem State.raise_ink_first (s : State) (code inst : Nat) (detail : Word) (t : Nat) :
    (s.raise code inst detail t).ink.first = s.ink.first := by rw [(raise_reach s code inst detail t).ink]
@[simp] theorem State.raise_ink_scrubInk (s : State) (code inst : Nat) (detail : Word) (t : Nat) :
    (s.raise code inst detail t).ink.scrubInk = s.ink.scrubInk := by rw [(raise_reach s code inst detail t).ink]
@[simp] theorem State.raise_ink_scrubCim (s : State) (code inst : Nat) (detail : Word) (t : Nat) :
    (s.raise code inst detail t).ink.scrubCim = s.ink.scrubCim := by rw [(raise_reach s code inst detail t).ink]
@[simp] theorem State.raise_ink_lfsr (s : State) (code inst : Nat) (detail : Word) (t : Nat) :
    (s.raise code inst detail t).ink.lfsr = s.ink.lfsr := by rw [(raise_reach s code inst detail t).ink]
@[simp] theorem State.raise_ink_arb (s : State) (code inst : Nat) (detail : Word) (t : Nat) :
    (s.raise code inst detail t).ink.arb = s.ink.arb := by rw [(raise_reach s code inst detail t).ink]
@[simp] theorem State.raise_ink_hold (s : State) (code inst : Nat) (detail : Word) (t : Nat) :
    (s.raise code inst detail t).ink.hold = s.ink.hold := by rw [(raise_reach s code inst detail t).ink]
@[simp] theorem State.raise_ink_used (s : State) (code inst : Nat) (detail : Word) (t : Nat) :
    (s.raise code inst detail t).ink.used = s.ink.used := by rw [(raise_reach s code inst detail t).ink]
@[simp] theorem State.raise_ink_dma (s : State) (code inst : Nat) (detail : Word) (t : Nat) :
    (s.raise code inst detail t).ink.dma = s.ink.dma := by rw [(raise_reach s code inst detail t).ink]

@[simp] theorem State.clear_sys (s : State) (code inst t : Nat) : (s.clear code inst t).sys = s.sys := by
  rw [State.clear]; split
  · rw [enqueue_evt]
  · rfl
@[simp] theorem State.clear_ink (s : State) (code inst t : Nat) : (s.clear code inst t).ink = s.ink := by
  rw [State.clear]; split
  · rw [enqueue_evt]
  · rfl
@[simp] theorem State.clear_cells (s : State) (code inst t : Nat) : (s.clear code inst t).cells = s.cells := by
  rw [State.clear]; split
  · rw [enqueue_evt]
  · rfl
@[simp] theorem State.clear_mgmt (s : State) (code inst t : Nat) : (s.clear code inst t).mgmt = s.mgmt := by
  rw [State.clear]; split
  · rw [enqueue_evt]
  · rfl
@[simp] theorem State.clear_pair (s : State) (code inst t : Nat) : (s.clear code inst t).pair = s.pair := by
  rw [State.clear]; split
  · rw [enqueue_evt]
  · rfl
@[simp] theorem State.clear_pairOps (s : State) (code inst t : Nat) : (s.clear code inst t).pairOps = s.pairOps := by
  rw [State.clear]; split
  · rw [enqueue_evt]
  · rfl
@[simp] theorem State.clear_out (s : State) (code inst t : Nat) : (s.clear code inst t).out = s.out := by
  rw [State.clear]; split
  · rw [enqueue_evt]
  · rfl

end Sys2Proof.Machine
end

