-- ==== Sys2Proof/Laws/KeepNetOps.lean ====
section
/-! SUPPORT. The shared operations of `Machine/NetOps.lean` leave the queue of commands as it is and keep the invariant. -/

namespace Sys2Proof.Machine

@[simp] theorem State.sendNet_pending (s : State) (p cls : Nat) (m : NetMsg) :
    (s.sendNet p cls m).pending = s.pending := by
  unfold State.sendNet; try dsimp only
  iterate 25 all_goals try with_reducible (first | rfl | refine (State.emit_pending ..).trans ?_ | apply ite_pending | split | refine (foldl_pending _ (fun _ _ => ?_) _ _).trans ?_ | dsimp only)

theorem State.sendNet_inv (s : State) (p cls : Nat) (m : NetMsg) (h : s.Inv) :
    (s.sendNet p cls m).Inv := by
  unfold State.sendNet; try dsimp only
  iterate 25 all_goals try with_reducible (first | assumption | apply State.emit_inv | apply ite_inv | split | (apply foldl_inv; intro _ _ _) | refine State.Inv.upd (by rfl) (by rfl) (by rfl) (by rfl) (by rfl) (by rfl) (by rfl) (by rfl) ?_)

@[simp] theorem State.sendUdp_pending (s : State) (p cls : Nat) (ip : Word) (sport dport : Nat) (b : List Byte) :
    (s.sendUdp p cls ip sport dport b).pending = s.pending := by
  unfold State.sendUdp; try dsimp only
  iterate 25 all_goals try with_reducible (first | rfl | refine (State.sendNet_pending ..).trans ?_ | refine (State.setPtpPort_pending ..).trans ?_ | refine (State.setStream_pending ..).trans ?_ | refine (State.setCan_pending ..).trans ?_ | apply ite_pending | split | refine (foldl_pending _ (fun _ _ => ?_) _ _).trans ?_ | dsimp only)

theorem State.sendUdp_inv (s : State) (p cls : Nat) (ip : Word) (sport dport : Nat) (b : List Byte) (h : s.Inv) :
    (s.sendUdp p cls ip sport dport b).Inv := by
  unfold State.sendUdp; try dsimp only
  iterate 25 all_goals try with_reducible (first | assumption | apply State.sendNet_inv | apply State.setPtpPort_inv | apply State.setStream_inv | apply State.setCan_inv | apply ite_inv | split | (apply foldl_inv; intro _ _ _) | refine State.Inv.upd (by rfl) (by rfl) (by rfl) (by rfl) (by rfl) (by rfl) (by rfl) (by rfl) ?_)

@[simp] theorem State.setPtpPort_pending (s : State) (p : Nat) (x : PtpPort)
    : (s.setPtpPort p x).pending = s.pending := by
  unfold State.setPtpPort; try dsimp only
  iterate 25 all_goals try with_reducible (first
      | rfl | refine (State.setStream_pending ..).trans ?_ | refine (State.setCan_pending ..).trans ?_
      | apply ite_pending | split | refine (foldl_pending _ (fun _ _ => ?_) _ _).trans ?_ | dsimp only)

theorem State.setPtpPort_inv (s : State) (p : Nat) (x : PtpPort) (h : s.Inv) : (s.setPtpPort p x).Inv := by
  unfold State.setPtpPort; try dsimp only
  iterate 25 all_goals try with_reducible (first
      | assumption | apply State.setStream_inv | apply State.setCan_inv | apply ite_inv | split
      | (apply foldl_inv; intro _ _ _)
      | refine State.Inv.upd (by rfl) (by rfl) (by rfl) (by rfl) (by rfl) (by rfl) (by rfl) (by rfl) ?_)

@[simp] theorem State.setStream_pending (s : State) (j : Nat) (x : Strm)
    : (s.setStream j x).pending = s.pending := by
  unfold State.setStream; try dsimp only
  iterate 25 all_goals try with_reducible (first
      | rfl | refine (State.setCan_pending ..).trans ?_ | apply ite_pending | split
      | refine (foldl_pending _ (fun _ _ => ?_) _ _).trans ?_ | dsimp only)

theorem State.setStream_inv (s : State) (j : Nat) (x : Strm) (h : s.Inv) : (s.setStream j x).Inv := by
  unfold State.setStream; try dsimp only
  iterate 25 all_goals try with_reducible (first
      | assumption | apply State.setCan_inv | apply ite_inv | split | (apply foldl_inv; intro _ _ _)
      | refine State.Inv.upd (by rfl) (by rfl) (by rfl) (by rfl) (by rfl) (by rfl) (by rfl) (by rfl) ?_)

@[simp] theorem State.setCan_pending (s : State) (c : Nat) (x : Can) : (s.setCan c x).pending = s.pending := by
  unfold State.setCan; try dsimp only
  iterate 25 all_goals try with_reducible (first
      | rfl | apply ite_pending | split | refine (foldl_pending _ (fun _ _ => ?_) _ _).trans ?_ | dsimp only)

theorem State.setCan_inv (s : State) (c : Nat) (x : Can) (h : s.Inv) : (s.setCan c x).Inv := by
  unfold State.setCan; try dsimp only
  iterate 25 all_goals try with_reducible (first
      | assumption | apply ite_inv | split | (apply foldl_inv; intro _ _ _)
      | refine State.Inv.upd (by rfl) (by rfl) (by rfl) (by rfl) (by rfl) (by rfl) (by rfl) (by rfl) ?_)

@[simp] theorem State.planLaunch_pending (s : State) (p : Nat) (x : Launch)
    : (s.planLaunch p x).pending = s.pending := by
  unfold State.planLaunch; try dsimp only
  iterate 25 all_goals try with_reducible (first
      | rfl | apply ite_pending | split | refine (foldl_pending _ (fun _ _ => ?_) _ _).trans ?_ | dsimp only)

theorem State.planLaunch_inv (s : State) (p : Nat) (x : Launch) (h : s.Inv) : (s.planLaunch p x).Inv := by
  unfold State.planLaunch; try dsimp only
  iterate 25 all_goals try with_reducible (first
      | assumption | apply ite_inv | split | (apply foldl_inv; intro _ _ _)
      | refine State.Inv.upd (by rfl) (by rfl) (by rfl) (by rfl) (by rfl) (by rfl) (by rfl) (by rfl) ?_)

@[simp] theorem State.canFill_pending (s : State) (c kind j : Nat) (bytes : List Byte)
    : (s.canFill c kind j bytes).pending = s.pending := by
  unfold State.canFill; try dsimp only
  iterate 25 all_goals try with_reducible (first
      | rfl | refine (State.setCan_pending ..).trans ?_ | apply ite_pending | split
      | refine (foldl_pending _ (fun _ _ => ?_) _ _).trans ?_ | dsimp only)

theorem State.canFill_inv (s : State) (c kind j : Nat) (bytes : List Byte) (h : s.Inv)
    : (s.canFill c kind j bytes).Inv := by
  unfold State.canFill; try dsimp only
  iterate 25 all_goals try with_reducible (first
      | assumption | apply State.setCan_inv | apply ite_inv | split | (apply foldl_inv; intro _ _ _)
      | refine State.Inv.upd (by rfl) (by rfl) (by rfl) (by rfl) (by rfl) (by rfl) (by rfl) (by rfl) ?_)

@[simp] theorem State.sendSafe_pending (s : State) (j t : Nat) (bytes : List Byte)
    : (s.sendSafe j t bytes).pending = s.pending := by
  unfold State.sendSafe; try dsimp only
  iterate 25 all_goals try with_reducible (first
      | rfl | refine (State.planLaunch_pending ..).trans ?_ | refine (State.canFill_pending ..).trans ?_
      | apply ite_pending | split | refine (foldl_pending _ (fun _ _ => ?_) _ _).trans ?_ | dsimp only)

theorem State.sendSafe_inv (s : State) (j t : Nat) (bytes : List Byte) (h : s.Inv)
    : (s.sendSafe j t bytes).Inv := by
  unfold State.sendSafe; try dsimp only
  iterate 25 all_goals try with_reducible (first
      | assumption | apply State.planLaunch_inv | apply State.canFill_inv | apply ite_inv | split
      | (apply foldl_inv; intro _ _ _)
      | refine State.Inv.upd (by rfl) (by rfl) (by rfl) (by rfl) (by rfl) (by rfl) (by rfl) (by rfl) ?_)

end Sys2Proof.Machine
end

