-- ==== Sys2Proof/Laws/KeepLanes.lean ====
section
/-! SUPPORT. The shared operations of `Machine/Lanes.lean` leave the queue of commands as it is and keep the invariant. -/

namespace Sys2Proof.Machine

@[simp] theorem State.startAcquire_pending (s : State) (i : Nat) (sweep : Bool) (t : Nat) :
    (s.startAcquire i sweep t).pending = s.pending := by
  unfold State.startAcquire; try dsimp only
  iterate 25 all_goals try with_reducible (first | rfl | refine (State.setLane_pending ..).trans ?_ | apply ite_pending | split | refine (foldl_pending _ (fun _ _ => ?_) _ _).trans ?_ | dsimp only)

theorem State.startAcquire_inv (s : State) (i : Nat) (sweep : Bool) (t : Nat) (h : s.Inv) :
    (s.startAcquire i sweep t).Inv := by
  unfold State.startAcquire; try dsimp only
  iterate 25 all_goals try with_reducible (first | assumption | apply State.setLane_inv | apply ite_inv | split | (apply foldl_inv; intro _ _ _) | refine State.Inv.upd (by rfl) (by rfl) (by rfl) (by rfl) (by rfl) (by rfl) (by rfl) (by rfl) ?_)

@[simp] theorem State.setLocal_pending (s : State) (m t : Nat) :
    (s.setLocal m t).pending = s.pending := by
  unfold State.setLocal; try dsimp only
  iterate 25 all_goals try with_reducible (first | rfl | apply ite_pending | split | refine (foldl_pending _ (fun _ _ => ?_) _ _).trans ?_ | dsimp only)

theorem State.setLocal_inv (s : State) (m t : Nat) (h : s.Inv) :
    (s.setLocal m t).Inv := by
  unfold State.setLocal; try dsimp only
  iterate 25 all_goals try with_reducible (first | assumption | apply ite_inv | split | (apply foldl_inv; intro _ _ _) | refine State.Inv.upd (by rfl) (by rfl) (by rfl) (by rfl) (by rfl) (by rfl) (by rfl) (by rfl) ?_)

@[simp] theorem State.dropLocal_pending (s : State) (i t : Nat) :
    (s.dropLocal i t).pending = s.pending := by
  unfold State.dropLocal; try dsimp only
  iterate 25 all_goals try with_reducible (first | rfl | refine (State.setLocal_pending ..).trans ?_ | apply ite_pending | split | refine (foldl_pending _ (fun _ _ => ?_) _ _).trans ?_ | dsimp only)

theorem State.dropLocal_inv (s : State) (i t : Nat) (h : s.Inv) :
    (s.dropLocal i t).Inv := by
  unfold State.dropLocal; try dsimp only
  iterate 25 all_goals try with_reducible (first | assumption | apply State.setLocal_inv | apply ite_inv | split | (apply foldl_inv; intro _ _ _) | refine State.Inv.upd (by rfl) (by rfl) (by rfl) (by rfl) (by rfl) (by rfl) (by rfl) (by rfl) ?_)

@[simp] theorem State.declareSync_pending (s : State) (i t : Nat)
    : (s.declareSync i t).pending = s.pending := by
  unfold State.declareSync; try dsimp only
  iterate 25 all_goals try with_reducible (first
      | rfl | refine (State.setLane_pending ..).trans ?_ | refine (State.clear_pending ..).trans ?_
      | apply ite_pending | split | refine (foldl_pending _ (fun _ _ => ?_) _ _).trans ?_ | dsimp only)

theorem State.declareSync_inv (s : State) (i t : Nat) (h : s.Inv) : (s.declareSync i t).Inv := by
  unfold State.declareSync; try dsimp only
  iterate 25 all_goals try with_reducible (first
      | assumption | apply State.setLane_inv | apply State.clear_inv | apply ite_inv | split
      | (apply foldl_inv; intro _ _ _)
      | refine State.Inv.upd (by rfl) (by rfl) (by rfl) (by rfl) (by rfl) (by rfl) (by rfl) (by rfl) ?_)

@[simp] theorem State.syncLost_pending (s : State) (l : Nat) (cdrLost : Bool) (t : Nat) :
    (s.syncLost l cdrLost t).pending = s.pending := by
  unfold State.syncLost; try dsimp only
  iterate 25 all_goals try with_reducible (first | rfl | refine (State.setLane_pending ..).trans ?_ | refine (State.startAcquire_pending ..).trans ?_ | refine (State.dropLocal_pending ..).trans ?_ | refine (State.raise_pending ..).trans ?_ | apply ite_pending | split | refine (foldl_pending _ (fun _ _ => ?_) _ _).trans ?_ | dsimp only)

theorem State.syncLost_inv (s : State) (l : Nat) (cdrLost : Bool) (t : Nat) (h : s.Inv) :
    (s.syncLost l cdrLost t).Inv := by
  unfold State.syncLost; try dsimp only
  iterate 25 all_goals try with_reducible (first | assumption | apply State.setLane_inv | apply State.startAcquire_inv | apply State.dropLocal_inv | apply State.raise_inv | apply ite_inv | split | (apply foldl_inv; intro _ _ _) | refine State.Inv.upd (by rfl) (by rfl) (by rfl) (by rfl) (by rfl) (by rfl) (by rfl) (by rfl) ?_)

end Sys2Proof.Machine
end

