-- ==== Sys2Proof/Laws/KeepNibOps.lean ====
section
/-! SUPPORT. The shared operations of `Machine/NibOps.lean` leave the queue of commands as it is and keep the invariant. -/

namespace Sys2Proof.Machine

@[simp] theorem State.nibSend_pending (s : State) (p out : Nat) (o : Output) :
    (s.nibSend p out o).pending = s.pending := by
  unfold State.nibSend; try dsimp only
  iterate 25 all_goals try with_reducible (first | rfl | refine (State.emit_pending ..).trans ?_ | apply ite_pending | split | refine (foldl_pending _ (fun _ _ => ?_) _ _).trans ?_ | dsimp only)

theorem State.nibSend_inv (s : State) (p out : Nat) (o : Output) (h : s.Inv) :
    (s.nibSend p out o).Inv := by
  unfold State.nibSend; try dsimp only
  iterate 25 all_goals try with_reducible (first | assumption | apply State.emit_inv | apply ite_inv | split | (apply foldl_inv; intro _ _ _) | refine State.Inv.upd (by rfl) (by rfl) (by rfl) (by rfl) (by rfl) (by rfl) (by rfl) (by rfl) ?_)

@[simp] theorem State.nibEcho_pending (s : State) (p side : Nat) (o : Output) :
    (s.nibEcho p side o).pending = s.pending := by
  unfold State.nibEcho; try dsimp only
  iterate 25 all_goals try with_reducible (first | rfl | refine (State.emit_pending ..).trans ?_ | apply ite_pending | split | refine (foldl_pending _ (fun _ _ => ?_) _ _).trans ?_ | dsimp only)

theorem State.nibEcho_inv (s : State) (p side : Nat) (o : Output) (h : s.Inv) :
    (s.nibEcho p side o).Inv := by
  unfold State.nibEcho; try dsimp only
  iterate 25 all_goals try with_reducible (first | assumption | apply State.emit_inv | apply ite_inv | split | (apply foldl_inv; intro _ _ _) | refine State.Inv.upd (by rfl) (by rfl) (by rfl) (by rfl) (by rfl) (by rfl) (by rfl) (by rfl) ?_)

@[simp] theorem State.nibForward_pending (s : State) (p side : Nat) (o : OSet) :
    (s.nibForward p side o).pending = s.pending := by
  unfold State.nibForward; try dsimp only
  iterate 25 all_goals try with_reducible (first | rfl | refine (State.nibEcho_pending ..).trans ?_ | refine (State.nibSend_pending ..).trans ?_ | apply ite_pending | split | refine (foldl_pending _ (fun _ _ => ?_) _ _).trans ?_ | dsimp only)

theorem State.nibForward_inv (s : State) (p side : Nat) (o : OSet) (h : s.Inv) :
    (s.nibForward p side o).Inv := by
  unfold State.nibForward; try dsimp only
  iterate 25 all_goals try with_reducible (first | assumption | apply State.nibEcho_inv | apply State.nibSend_inv | apply ite_inv | split | (apply foldl_inv; intro _ _ _) | refine State.Inv.upd (by rfl) (by rfl) (by rfl) (by rfl) (by rfl) (by rfl) (by rfl) (by rfl) ?_)

@[simp] theorem State.nibDown_pending (s : State) (p : Nat) :
    (s.nibDown p).pending = s.pending := by
  unfold State.nibDown; try dsimp only
  iterate 25 all_goals try with_reducible (first | rfl | refine (State.setNib_pending ..).trans ?_ | refine (State.setAux_pending ..).trans ?_ | refine (State.emit_pending ..).trans ?_ | apply ite_pending | split | refine (foldl_pending _ (fun _ _ => ?_) _ _).trans ?_ | dsimp only)

theorem State.nibDown_inv (s : State) (p : Nat) (h : s.Inv) :
    (s.nibDown p).Inv := by
  unfold State.nibDown; try dsimp only
  iterate 25 all_goals try with_reducible (first | assumption | apply State.setNib_inv | apply State.setAux_inv | apply State.emit_inv | apply ite_inv | split | (apply foldl_inv; intro _ _ _) | refine State.Inv.upd (by rfl) (by rfl) (by rfl) (by rfl) (by rfl) (by rfl) (by rfl) (by rfl) ?_)

@[simp] theorem State.nibLatch_pending (s : State) (p : Nat) :
    (s.nibLatch p).pending = s.pending := by
  unfold State.nibLatch; try dsimp only
  iterate 25 all_goals try with_reducible (first | rfl | refine (State.nibDown_pending ..).trans ?_ | refine (State.setNib_pending ..).trans ?_ | apply ite_pending | split | refine (foldl_pending _ (fun _ _ => ?_) _ _).trans ?_ | dsimp only)

theorem State.nibLatch_inv (s : State) (p : Nat) (h : s.Inv) :
    (s.nibLatch p).Inv := by
  unfold State.nibLatch; try dsimp only
  iterate 25 all_goals try with_reducible (first | assumption | apply State.nibDown_inv | apply State.setNib_inv | apply ite_inv | split | (apply foldl_inv; intro _ _ _) | refine State.Inv.upd (by rfl) (by rfl) (by rfl) (by rfl) (by rfl) (by rfl) (by rfl) (by rfl) ?_)

@[simp] theorem State.nibFault_pending (s : State) (p : Nat) :
    (s.nibFault p).pending = s.pending := by
  unfold State.nibFault; try dsimp only
  iterate 25 all_goals try with_reducible (first | rfl | refine (State.nibDown_pending ..).trans ?_ | refine (State.setNib_pending ..).trans ?_ | apply ite_pending | split | refine (foldl_pending _ (fun _ _ => ?_) _ _).trans ?_ | dsimp only)

theorem State.nibFault_inv (s : State) (p : Nat) (h : s.Inv) :
    (s.nibFault p).Inv := by
  unfold State.nibFault; try dsimp only
  iterate 25 all_goals try with_reducible (first | assumption | apply State.nibDown_inv | apply State.setNib_inv | apply ite_inv | split | (apply foldl_inv; intro _ _ _) | refine State.Inv.upd (by rfl) (by rfl) (by rfl) (by rfl) (by rfl) (by rfl) (by rfl) (by rfl) ?_)

@[simp] theorem State.nibReply_pending (s : State) (p : Nat) (result : Nat)
    : (s.nibReply p result).pending = s.pending := by
  unfold State.nibReply; try dsimp only
  iterate 25 all_goals try with_reducible (first
      | rfl | refine (State.setAux_pending ..).trans ?_ | refine (State.reply_pending ..).trans ?_
      | apply ite_pending | split | refine (foldl_pending _ (fun _ _ => ?_) _ _).trans ?_ | dsimp only)

theorem State.nibReply_inv (s : State) (p : Nat) (result : Nat) (h : s.Inv) : (s.nibReply p result).Inv := by
  unfold State.nibReply; try dsimp only
  iterate 25 all_goals try with_reducible (first
      | assumption | apply State.setAux_inv | apply State.reply_inv | apply ite_inv | split
      | (apply foldl_inv; intro _ _ _)
      | refine State.Inv.upd (by rfl) (by rfl) (by rfl) (by rfl) (by rfl) (by rfl) (by rfl) (by rfl) ?_)

@[simp] theorem State.nibRepeat_pending (s : State) (p : Nat) : (s.nibRepeat p).pending = s.pending := by
  unfold State.nibRepeat; try dsimp only
  iterate 25 all_goals try with_reducible (first
      | rfl | refine (State.setAux_pending ..).trans ?_ | apply ite_pending | split
      | refine (foldl_pending _ (fun _ _ => ?_) _ _).trans ?_ | dsimp only)

theorem State.nibRepeat_inv (s : State) (p : Nat) (h : s.Inv) : (s.nibRepeat p).Inv := by
  unfold State.nibRepeat; try dsimp only
  iterate 25 all_goals try with_reducible (first
      | assumption | apply State.setAux_inv | apply ite_inv | split | (apply foldl_inv; intro _ _ _)
      | refine State.Inv.upd (by rfl) (by rfl) (by rfl) (by rfl) (by rfl) (by rfl) (by rfl) (by rfl) ?_)

end Sys2Proof.Machine
end

