-- ==== Sys2Proof/Laws/KeepNib.lean ====
section
/-! SUPPORT. The shared operations of `Machine/Nib.lean` leave the queue of commands as it is and keep the invariant. -/

namespace Sys2Proof.Machine

@[simp] theorem State.nibPlace_pending (s : State) (p hops : Nat) :
    (s.nibPlace p hops).pending = s.pending := by
  unfold State.nibPlace; try dsimp only
  iterate 25 all_goals try with_reducible (first | rfl | refine (State.nibDown_pending ..).trans ?_ | refine (State.setNib_pending ..).trans ?_ | apply ite_pending | split | refine (foldl_pending _ (fun _ _ => ?_) _ _).trans ?_ | dsimp only)

theorem State.nibPlace_inv (s : State) (p hops : Nat) (h : s.Inv) :
    (s.nibPlace p hops).Inv := by
  unfold State.nibPlace; try dsimp only
  iterate 25 all_goals try with_reducible (first | assumption | apply State.nibDown_inv | apply State.setNib_inv | apply ite_inv | split | (apply foldl_inv; intro _ _ _) | refine State.Inv.upd (by rfl) (by rfl) (by rfl) (by rfl) (by rfl) (by rfl) (by rfl) (by rfl) ?_)

@[simp] theorem State.nibHeader_pending (s : State) (p : Nat) (v : StrokePass) :
    (s.nibHeader p v).pending = s.pending := by
  unfold State.nibHeader; try dsimp only
  iterate 25 all_goals try with_reducible (first | rfl | refine (State.setNib_pending ..).trans ?_ | refine (State.setAux_pending ..).trans ?_ | refine (State.nibPlace_pending ..).trans ?_ | apply ite_pending | split | refine (foldl_pending _ (fun _ _ => ?_) _ _).trans ?_ | dsimp only)

theorem State.nibHeader_inv (s : State) (p : Nat) (v : StrokePass) (h : s.Inv) :
    (s.nibHeader p v).Inv := by
  unfold State.nibHeader; try dsimp only
  iterate 25 all_goals try with_reducible (first | assumption | apply State.setNib_inv | apply State.setAux_inv | apply State.nibPlace_inv | apply ite_inv | split | (apply foldl_inv; intro _ _ _) | refine State.Inv.upd (by rfl) (by rfl) (by rfl) (by rfl) (by rfl) (by rfl) (by rfl) (by rfl) ?_)

@[simp] theorem State.nibRelease_pending (s : State) (p : Nat) (t : BitVec 48)
    : (s.nibRelease p t).pending = s.pending := by
  unfold State.nibRelease; try dsimp only
  iterate 25 all_goals try with_reducible (first
      | rfl | refine (State.setNib_pending ..).trans ?_ | refine (State.setAux_pending ..).trans ?_
      | apply ite_pending | split | refine (foldl_pending _ (fun _ _ => ?_) _ _).trans ?_ | dsimp only)

theorem State.nibRelease_inv (s : State) (p : Nat) (t : BitVec 48) (h : s.Inv) : (s.nibRelease p t).Inv := by
  unfold State.nibRelease; try dsimp only
  iterate 25 all_goals try with_reducible (first
      | assumption | apply State.setNib_inv | apply State.setAux_inv | apply ite_inv | split
      | (apply foldl_inv; intro _ _ _)
      | refine State.Inv.upd (by rfl) (by rfl) (by rfl) (by rfl) (by rfl) (by rfl) (by rfl) (by rfl) ?_)

@[simp] theorem State.nibDual_pending (s : State) (p : Nat) (c t : BitVec 48)
    : (s.nibDual p c t).pending = s.pending := by
  unfold State.nibDual; try dsimp only
  iterate 25 all_goals try with_reducible (first
      | rfl | refine (State.setNib_pending ..).trans ?_ | refine (State.setAux_pending ..).trans ?_
      | refine (State.nibLatch_pending ..).trans ?_ | apply ite_pending | split
      | refine (foldl_pending _ (fun _ _ => ?_) _ _).trans ?_ | dsimp only)

theorem State.nibDual_inv (s : State) (p : Nat) (c t : BitVec 48) (h : s.Inv) : (s.nibDual p c t).Inv := by
  unfold State.nibDual; try dsimp only
  iterate 25 all_goals try with_reducible (first
      | assumption | apply State.setNib_inv | apply State.setAux_inv | apply State.nibLatch_inv | apply ite_inv
      | split | (apply foldl_inv; intro _ _ _)
      | refine State.Inv.upd (by rfl) (by rfl) (by rfl) (by rfl) (by rfl) (by rfl) (by rfl) (by rfl) ?_)

@[simp] theorem State.nibByp_pending (s : State) (p : Nat) :
    (s.nibByp p).pending = s.pending := by
  unfold State.nibByp; try dsimp only
  iterate 25 all_goals try with_reducible (first | rfl | refine (State.nibDown_pending ..).trans ?_ | refine (State.setNib_pending ..).trans ?_ | apply ite_pending | split | refine (foldl_pending _ (fun _ _ => ?_) _ _).trans ?_ | dsimp only)

theorem State.nibByp_inv (s : State) (p : Nat) (h : s.Inv) :
    (s.nibByp p).Inv := by
  unfold State.nibByp; try dsimp only
  iterate 25 all_goals try with_reducible (first | assumption | apply State.nibDown_inv | apply State.setNib_inv | apply ite_inv | split | (apply foldl_inv; intro _ _ _) | refine State.Inv.upd (by rfl) (by rfl) (by rfl) (by rfl) (by rfl) (by rfl) (by rfl) (by rfl) ?_)

@[simp] theorem State.nibHold_pending (s : State) (p dir : Nat) (c t : BitVec 48) (sched : NibSched) :
    (s.nibHold p dir c t sched).pending = s.pending := by
  unfold State.nibHold; try dsimp only
  iterate 25 all_goals try with_reducible (first | rfl | refine (State.setAux_pending ..).trans ?_ | refine (State.nibByp_pending ..).trans ?_ | refine (State.setNib_pending ..).trans ?_ | apply ite_pending | split | refine (foldl_pending _ (fun _ _ => ?_) _ _).trans ?_ | dsimp only)

theorem State.nibHold_inv (s : State) (p dir : Nat) (c t : BitVec 48) (sched : NibSched) (h : s.Inv) :
    (s.nibHold p dir c t sched).Inv := by
  unfold State.nibHold; try dsimp only
  iterate 25 all_goals try with_reducible (first | assumption | apply State.setAux_inv | apply State.nibByp_inv | apply State.setNib_inv | apply ite_inv | split | (apply foldl_inv; intro _ _ _) | refine State.Inv.upd (by rfl) (by rfl) (by rfl) (by rfl) (by rfl) (by rfl) (by rfl) (by rfl) ?_)

@[simp] theorem State.nibCopy_pending (s : State) (p : Nat) (t : BitVec 48) (sched : NibSched) :
    (s.nibCopy p t sched).pending = s.pending := by
  unfold State.nibCopy; try dsimp only
  iterate 25 all_goals try with_reducible (first | rfl | refine (State.setNib_pending ..).trans ?_ | apply ite_pending | split | refine (foldl_pending _ (fun _ _ => ?_) _ _).trans ?_ | dsimp only)

theorem State.nibCopy_inv (s : State) (p : Nat) (t : BitVec 48) (sched : NibSched) (h : s.Inv) :
    (s.nibCopy p t sched).Inv := by
  unfold State.nibCopy; try dsimp only
  iterate 25 all_goals try with_reducible (first | assumption | apply State.setNib_inv | apply ite_inv | split | (apply foldl_inv; intro _ _ _) | refine State.Inv.upd (by rfl) (by rfl) (by rfl) (by rfl) (by rfl) (by rfl) (by rfl) (by rfl) ?_)

@[simp] theorem State.nibTake_pending (s : State) (p side dir : Nat) (c : BitVec 48) (g : List Byte) (act : Bool) (tS : Nat) :
    (s.nibTake p side dir c g act tS).pending = s.pending := by
  unfold State.nibTake; try dsimp only
  iterate 25 all_goals try with_reducible (first | rfl | refine (State.setAux_pending ..).trans ?_ | refine (State.nibLatch_pending ..).trans ?_ | refine (State.nibRelease_pending ..).trans ?_ | refine (State.nibDual_pending ..).trans ?_ | refine (State.nibHold_pending ..).trans ?_ | refine (State.nibCopy_pending ..).trans ?_ | apply ite_pending | split | refine (foldl_pending _ (fun _ _ => ?_) _ _).trans ?_ | dsimp only)

theorem State.nibTake_inv (s : State) (p side dir : Nat) (c : BitVec 48) (g : List Byte) (act : Bool) (tS : Nat) (h : s.Inv) :
    (s.nibTake p side dir c g act tS).Inv := by
  unfold State.nibTake; try dsimp only
  iterate 25 all_goals try with_reducible (first | assumption | apply State.setAux_inv | apply State.nibLatch_inv | apply State.nibRelease_inv | apply State.nibDual_inv | apply State.nibHold_inv | apply State.nibCopy_inv | apply ite_inv | split | (apply foldl_inv; intro _ _ _) | refine State.Inv.upd (by rfl) (by rfl) (by rfl) (by rfl) (by rfl) (by rfl) (by rfl) (by rfl) ?_)

@[simp] theorem State.nibGoverned_pending (s : State) (p : Nat) (own : Bool) (h : NibSched) :
    (s.nibGoverned p own h).pending = s.pending := by
  unfold State.nibGoverned; try dsimp only
  iterate 25 all_goals try with_reducible (first | rfl | refine (State.setAux_pending ..).trans ?_ | refine (State.nibByp_pending ..).trans ?_ | apply ite_pending | split | refine (foldl_pending _ (fun _ _ => ?_) _ _).trans ?_ | dsimp only)

theorem State.nibGoverned_inv (s : State) (p : Nat) (own : Bool) (h : NibSched) (hi : s.Inv) :
    (s.nibGoverned p own h).Inv := by
  unfold State.nibGoverned; try dsimp only
  iterate 25 all_goals try with_reducible (first | assumption | apply State.setAux_inv | apply State.nibByp_inv | apply ite_inv | split | (apply foldl_inv; intro _ _ _) | refine State.Inv.upd (by rfl) (by rfl) (by rfl) (by rfl) (by rfl) (by rfl) (by rfl) (by rfl) ?_)

end Sys2Proof.Machine
end

