-- ==== Sys2Proof/Laws/KeepClocks.lean ====
section
/-! SUPPORT. The shared operations of `Machine/Clocks.lean` leave the queue of commands as it is and keep the invariant. -/

namespace Sys2Proof.Machine

@[simp] theorem State.setLoop_pending (s : State) (i : Nat) (l : ClkLoop)
    : (s.setLoop i l).pending = s.pending := by
  unfold State.setLoop; try dsimp only
  iterate 25 all_goals try with_reducible (first
      | rfl | apply ite_pending | split | refine (foldl_pending _ (fun _ _ => ?_) _ _).trans ?_ | dsimp only)

theorem State.setLoop_inv (s : State) (i : Nat) (l : ClkLoop) (h : s.Inv) : (s.setLoop i l).Inv := by
  unfold State.setLoop; try dsimp only
  iterate 25 all_goals try with_reducible (first
      | assumption | apply ite_inv | split | (apply foldl_inv; intro _ _ _)
      | refine State.Inv.upd (by rfl) (by rfl) (by rfl) (by rfl) (by rfl) (by rfl) (by rfl) (by rfl) ?_)

@[simp] theorem State.timeJudge_pending (s : State) (t : Nat) :
    (s.timeJudge t).pending = s.pending := by
  unfold State.timeJudge; try dsimp only
  iterate 25 all_goals try with_reducible (first | rfl | refine (State.raise_pending ..).trans ?_ | refine (State.clear_pending ..).trans ?_ | apply ite_pending | split | refine (foldl_pending _ (fun _ _ => ?_) _ _).trans ?_ | dsimp only)

theorem State.timeJudge_inv (s : State) (t : Nat) (h : s.Inv) :
    (s.timeJudge t).Inv := by
  unfold State.timeJudge; try dsimp only
  iterate 25 all_goals try with_reducible (first | assumption | apply State.raise_inv | apply State.clear_inv | apply ite_inv | split | (apply foldl_inv; intro _ _ _) | refine State.Inv.upd (by rfl) (by rfl) (by rfl) (by rfl) (by rfl) (by rfl) (by rfl) (by rfl) ?_)

@[simp] theorem State.moveStored_pending (s : State) (d : BitVec 64) : (s.moveStored d).pending = s.pending := rfl

theorem State.moveStored_inv (s : State) (d : BitVec 64) (h : s.Inv) : (s.moveStored d).Inv :=
  ⟨h.grant, h.live, h.out, h.queue, h.log, by simpa [State.moveStored] using h.stamps, h.mem⟩

@[simp] theorem State.timeStep_pending (s : State) (off : Int) (t : Nat) :
    (s.timeStep off t).pending = s.pending := by
  unfold State.timeStep; try dsimp only
  iterate 25 all_goals try with_reducible (first | rfl | refine (State.moveStored_pending ..).trans ?_ | refine (State.raise_pending ..).trans ?_ | refine (State.clear_pending ..).trans ?_ | refine (State.timeJudge_pending ..).trans ?_ | apply ite_pending | split | refine (foldl_pending _ (fun _ _ => ?_) _ _).trans ?_ | dsimp only)

theorem State.timeStep_inv (s : State) (off : Int) (t : Nat) (h : s.Inv) :
    (s.timeStep off t).Inv := by
  unfold State.timeStep; try dsimp only
  iterate 25 all_goals try with_reducible (first | assumption | apply State.moveStored_inv | apply State.raise_inv | apply State.clear_inv | apply State.timeJudge_inv | apply ite_inv | split | (apply foldl_inv; intro _ _ _) | refine State.Inv.upd (by rfl) (by rfl) (by rfl) (by rfl) (by rfl) (by rfl) (by rfl) (by rfl) ?_)

@[simp] theorem State.servo_pending (s : State) (src : Nat) (off : Int) :
    (s.servo src off).pending = s.pending := by
  unfold State.servo; try dsimp only
  iterate 25 all_goals try with_reducible (first | rfl | apply ite_pending | split | refine (foldl_pending _ (fun _ _ => ?_) _ _).trans ?_ | dsimp only)

theorem State.servo_inv (s : State) (src : Nat) (off : Int) (h : s.Inv) :
    (s.servo src off).Inv := by
  unfold State.servo; try dsimp only
  iterate 25 all_goals try with_reducible (first | assumption | apply ite_inv | split | (apply foldl_inv; intro _ _ _) | refine State.Inv.upd (by rfl) (by rfl) (by rfl) (by rfl) (by rfl) (by rfl) (by rfl) (by rfl) ?_)

@[simp] theorem State.absorb_pending (s : State) (off : Int) (t : Nat) :
    (s.absorb off t).pending = s.pending := by
  unfold State.absorb; try dsimp only
  iterate 25 all_goals try with_reducible (first | rfl | refine (State.clear_pending ..).trans ?_ | apply ite_pending | split | refine (foldl_pending _ (fun _ _ => ?_) _ _).trans ?_ | dsimp only)

theorem State.absorb_inv (s : State) (off : Int) (t : Nat) (h : s.Inv) :
    (s.absorb off t).Inv := by
  unfold State.absorb; try dsimp only
  iterate 25 all_goals try with_reducible (first | assumption | apply State.clear_inv | apply ite_inv | split | (apply foldl_inv; intro _ _ _) | refine State.Inv.upd (by rfl) (by rfl) (by rfl) (by rfl) (by rfl) (by rfl) (by rfl) (by rfl) ?_)

@[simp] theorem State.timeMeasure_pending (s : State) (src : Nat) (off : Int) (t : Nat) :
    (s.timeMeasure src off t).pending = s.pending := by
  unfold State.timeMeasure; try dsimp only
  iterate 25 all_goals try with_reducible (first | rfl | refine (State.timeJudge_pending ..).trans ?_ | refine (State.absorb_pending ..).trans ?_ | refine (State.raise_pending ..).trans ?_ | refine (State.servo_pending ..).trans ?_ | refine (State.timeStep_pending ..).trans ?_ | apply ite_pending | split | refine (foldl_pending _ (fun _ _ => ?_) _ _).trans ?_ | dsimp only)

theorem State.timeMeasure_inv (s : State) (src : Nat) (off : Int) (t : Nat) (h : s.Inv) :
    (s.timeMeasure src off t).Inv := by
  unfold State.timeMeasure; try dsimp only
  iterate 25 all_goals try with_reducible (first | assumption | apply State.timeJudge_inv | apply State.absorb_inv | apply State.raise_inv | apply State.servo_inv | apply State.timeStep_inv | apply ite_inv | split | (apply foldl_inv; intro _ _ _) | refine State.Inv.upd (by rfl) (by rfl) (by rfl) (by rfl) (by rfl) (by rfl) (by rfl) (by rfl) ?_)

@[simp] theorem State.loopMeasured_pending (s : State) (i : Nat) (errs : List Int) :
    (s.loopMeasured i errs).pending = s.pending := by
  unfold State.loopMeasured; try dsimp only
  iterate 25 all_goals try with_reducible (first | rfl | refine (State.setLoop_pending ..).trans ?_ | apply ite_pending | split | refine (foldl_pending _ (fun _ _ => ?_) _ _).trans ?_ | dsimp only)

theorem State.loopMeasured_inv (s : State) (i : Nat) (errs : List Int) (h : s.Inv) :
    (s.loopMeasured i errs).Inv := by
  unfold State.loopMeasured; try dsimp only
  iterate 25 all_goals try with_reducible (first | assumption | apply State.setLoop_inv | apply ite_inv | split | (apply foldl_inv; intro _ _ _) | refine State.Inv.upd (by rfl) (by rfl) (by rfl) (by rfl) (by rfl) (by rfl) (by rfl) (by rfl) ?_)

@[simp] theorem State.refLost_pending (s : State) (i : Nat) : (s.refLost i).pending = s.pending := by
  unfold State.refLost; try dsimp only
  iterate 25 all_goals try with_reducible (first
      | rfl | refine (State.setLoop_pending ..).trans ?_ | apply ite_pending | split
      | refine (foldl_pending _ (fun _ _ => ?_) _ _).trans ?_ | dsimp only)

theorem State.refLost_inv (s : State) (i : Nat) (h : s.Inv) : (s.refLost i).Inv := by
  unfold State.refLost; try dsimp only
  iterate 25 all_goals try with_reducible (first
      | assumption | apply State.setLoop_inv | apply ite_inv | split | (apply foldl_inv; intro _ _ _)
      | refine State.Inv.upd (by rfl) (by rfl) (by rfl) (by rfl) (by rfl) (by rfl) (by rfl) (by rfl) ?_)

@[simp] theorem State.bondSet_pending (s : State) (g t : Nat) :
    (s.bondSet g t).pending = s.pending := by
  unfold State.bondSet; try dsimp only
  iterate 25 all_goals try with_reducible (first | rfl | refine (State.satEvent_pending ..).trans ?_ | apply ite_pending | split | refine (foldl_pending _ (fun _ _ => ?_) _ _).trans ?_ | dsimp only)

theorem State.bondSet_inv (s : State) (g t : Nat) (h : s.Inv) :
    (s.bondSet g t).Inv := by
  unfold State.bondSet; try dsimp only
  iterate 25 all_goals try with_reducible (first | assumption | apply State.satEvent_inv | apply ite_inv | split | (apply foldl_inv; intro _ _ _) | refine State.Inv.upd (by rfl) (by rfl) (by rfl) (by rfl) (by rfl) (by rfl) (by rfl) (by rfl) ?_)

@[simp] theorem State.bondJudge_pending (s : State) (t : Nat) :
    (s.bondJudge t).pending = s.pending := by
  unfold State.bondJudge; try dsimp only
  iterate 25 all_goals try with_reducible (first | rfl | refine (State.bondSet_pending ..).trans ?_ | refine (State.raise_pending ..).trans ?_ | apply ite_pending | split | refine (foldl_pending _ (fun _ _ => ?_) _ _).trans ?_ | dsimp only)

theorem State.bondJudge_inv (s : State) (t : Nat) (h : s.Inv) :
    (s.bondJudge t).Inv := by
  unfold State.bondJudge; try dsimp only
  iterate 25 all_goals try with_reducible (first | assumption | apply State.bondSet_inv | apply State.raise_inv | apply ite_inv | split | (apply foldl_inv; intro _ _ _) | refine State.Inv.upd (by rfl) (by rfl) (by rfl) (by rfl) (by rfl) (by rfl) (by rfl) (by rfl) ?_)

@[simp] theorem State.bondTake_pending (s : State) (g t : Nat) :
    (s.bondTake g t).pending = s.pending := by
  unfold State.bondTake; try dsimp only
  iterate 25 all_goals try with_reducible (first | rfl | refine (State.bondSet_pending ..).trans ?_ | refine (State.clear_pending ..).trans ?_ | refine (State.raise_pending ..).trans ?_ | apply ite_pending | split | refine (foldl_pending _ (fun _ _ => ?_) _ _).trans ?_ | dsimp only)

theorem State.bondTake_inv (s : State) (g t : Nat) (h : s.Inv) :
    (s.bondTake g t).Inv := by
  unfold State.bondTake; try dsimp only
  iterate 25 all_goals try with_reducible (first | assumption | apply State.bondSet_inv | apply State.clear_inv | apply State.raise_inv | apply ite_inv | split | (apply foldl_inv; intro _ _ _) | refine State.Inv.upd (by rfl) (by rfl) (by rfl) (by rfl) (by rfl) (by rfl) (by rfl) (by rfl) ?_)

@[simp] theorem State.bondProposal_pending (s : State) (w sw : Nat)
    : (s.bondProposal w sw).pending = s.pending := by
  unfold State.bondProposal; try dsimp only
  iterate 25 all_goals try with_reducible (first
      | rfl | apply ite_pending | split | refine (foldl_pending _ (fun _ _ => ?_) _ _).trans ?_ | dsimp only)

theorem State.bondProposal_inv (s : State) (w sw : Nat) (h : s.Inv) : (s.bondProposal w sw).Inv := by
  unfold State.bondProposal; try dsimp only
  iterate 25 all_goals try with_reducible (first
      | assumption | apply ite_inv | split | (apply foldl_inv; intro _ _ _)
      | refine State.Inv.upd (by rfl) (by rfl) (by rfl) (by rfl) (by rfl) (by rfl) (by rfl) (by rfl) ?_)

@[simp] theorem State.pairTimeTake_pending (s : State) (off : Int) (t : Nat)
    : (s.pairTimeTake off t).pending = s.pending := by
  unfold State.pairTimeTake; try dsimp only
  iterate 25 all_goals try with_reducible (first
      | rfl | refine (State.timeMeasure_pending ..).trans ?_ | refine (State.judge_pending ..).trans ?_
      | apply ite_pending | split | refine (foldl_pending _ (fun _ _ => ?_) _ _).trans ?_ | dsimp only)

theorem State.pairTimeTake_inv (s : State) (off : Int) (t : Nat) (h : s.Inv) : (s.pairTimeTake off t).Inv := by
  unfold State.pairTimeTake; try dsimp only
  iterate 25 all_goals try with_reducible (first
      | assumption | apply State.timeMeasure_inv | apply State.judge_inv | apply ite_inv | split
      | (apply foldl_inv; intro _ _ _)
      | refine State.Inv.upd (by rfl) (by rfl) (by rfl) (by rfl) (by rfl) (by rfl) (by rfl) (by rfl) ?_)

@[simp] theorem State.bondBoundary_pending (s : State) : s.bondBoundary.pending = s.pending := by
  unfold State.bondBoundary; try dsimp only
  iterate 25 all_goals try with_reducible (first
      | rfl | refine (State.bondJudge_pending ..).trans ?_ | refine (State.emit_pending ..).trans ?_
      | apply ite_pending | split | refine (foldl_pending _ (fun _ _ => ?_) _ _).trans ?_ | dsimp only)

theorem State.bondBoundary_inv (s : State) (h : s.Inv) : s.bondBoundary.Inv := by
  unfold State.bondBoundary; try dsimp only
  iterate 25 all_goals try with_reducible (first
      | assumption | apply State.bondJudge_inv | apply State.emit_inv | apply ite_inv | split
      | (apply foldl_inv; intro _ _ _)
      | refine State.Inv.upd (by rfl) (by rfl) (by rfl) (by rfl) (by rfl) (by rfl) (by rfl) (by rfl) ?_)

@[simp] theorem State.slewDone_pending (s : State) (t : Nat) :
    (s.slewDone t).pending = s.pending := by
  unfold State.slewDone; try dsimp only
  iterate 25 all_goals try with_reducible (first | rfl | refine (State.clear_pending ..).trans ?_ | refine (State.timeJudge_pending ..).trans ?_ | apply ite_pending | split | refine (foldl_pending _ (fun _ _ => ?_) _ _).trans ?_ | dsimp only)

theorem State.slewDone_inv (s : State) (t : Nat) (h : s.Inv) :
    (s.slewDone t).Inv := by
  unfold State.slewDone; try dsimp only
  iterate 25 all_goals try with_reducible (first | assumption | apply State.clear_inv | apply State.timeJudge_inv | apply ite_inv | split | (apply foldl_inv; intro _ _ _) | refine State.Inv.upd (by rfl) (by rfl) (by rfl) (by rfl) (by rfl) (by rfl) (by rfl) (by rfl) ?_)

@[simp] theorem State.replica_pending (s : State) (i : Nat) (gain : Int) :
    (s.replica i gain).pending = s.pending := by
  unfold State.replica; try dsimp only
  iterate 25 all_goals try with_reducible (first | rfl | refine (State.setLoop_pending ..).trans ?_ | refine (State.raise_pending ..).trans ?_ | refine (State.condGone_pending ..).trans ?_ | apply ite_pending | split | refine (foldl_pending _ (fun _ _ => ?_) _ _).trans ?_ | dsimp only)

theorem State.replica_inv (s : State) (i : Nat) (gain : Int) (h : s.Inv) :
    (s.replica i gain).Inv := by
  unfold State.replica; try dsimp only
  iterate 25 all_goals try with_reducible (first | assumption | apply State.setLoop_inv | apply State.raise_inv | apply State.condGone_inv | apply ite_inv | split | (apply foldl_inv; intro _ _ _) | refine State.Inv.upd (by rfl) (by rfl) (by rfl) (by rfl) (by rfl) (by rfl) (by rfl) (by rfl) ?_)

@[simp] theorem State.clockBoundary_pending (s : State) (drift : List Int) :
    (s.clockBoundary drift).pending = s.pending := by
  unfold State.clockBoundary; try dsimp only
  iterate 25 all_goals try with_reducible (first | rfl | refine (State.slewDone_pending ..).trans ?_ | refine (State.setLoop_pending ..).trans ?_ | refine (State.replica_pending ..).trans ?_ | apply ite_pending | split | refine (foldl_pending _ (fun _ _ => ?_) _ _).trans ?_ | dsimp only)

theorem State.clockBoundary_inv (s : State) (drift : List Int) (h : s.Inv) :
    (s.clockBoundary drift).Inv := by
  unfold State.clockBoundary; try dsimp only
  iterate 25 all_goals try with_reducible (first | assumption | apply State.slewDone_inv | apply State.setLoop_inv | apply State.replica_inv | apply ite_inv | split | (apply foldl_inv; intro _ _ _) | refine State.Inv.upd (by rfl) (by rfl) (by rfl) (by rfl) (by rfl) (by rfl) (by rfl) (by rfl) ?_)

@[simp] theorem State.restartLoops_pending (s : State) (i : Nat) (force : Bool) (t : Nat) :
    (s.restartLoops i force t).pending = s.pending := by
  unfold State.restartLoops; try dsimp only
  iterate 25 all_goals try with_reducible (first | rfl | refine (State.setLoop_pending ..).trans ?_ | refine (State.force_pending ..).trans ?_ | refine (State.raise_pending ..).trans ?_ | refine (State.timeJudge_pending ..).trans ?_ | apply ite_pending | split | refine (foldl_pending _ (fun _ _ => ?_) _ _).trans ?_ | dsimp only)

theorem State.restartLoops_inv (s : State) (i : Nat) (force : Bool) (t : Nat) (h : s.Inv) :
    (s.restartLoops i force t).Inv := by
  unfold State.restartLoops; try dsimp only
  iterate 25 all_goals try with_reducible (first | assumption | apply State.setLoop_inv | apply State.force_inv | apply State.raise_inv | apply State.timeJudge_inv | apply ite_inv | split | (apply foldl_inv; intro _ _ _) | refine State.Inv.upd (by rfl) (by rfl) (by rfl) (by rfl) (by rfl) (by rfl) (by rfl) (by rfl) ?_)

@[simp] theorem State.timeSrcSet_pending (s : State) :
    s.timeSrcSet.pending = s.pending := by
  unfold State.timeSrcSet; try dsimp only
  iterate 25 all_goals try with_reducible (first | rfl | refine (State.timeJudge_pending ..).trans ?_ | apply ite_pending | split | refine (foldl_pending _ (fun _ _ => ?_) _ _).trans ?_ | dsimp only)

theorem State.timeSrcSet_inv (s : State) (h : s.Inv) :
    s.timeSrcSet.Inv := by
  unfold State.timeSrcSet; try dsimp only
  iterate 25 all_goals try with_reducible (first | assumption | apply State.timeJudge_inv | apply ite_inv | split | (apply foldl_inv; intro _ _ _) | refine State.Inv.upd (by rfl) (by rfl) (by rfl) (by rfl) (by rfl) (by rfl) (by rfl) (by rfl) ?_)

end Sys2Proof.Machine
end

