-- ==== Sys2Proof/Laws/KeepSafety.lean ====
section
/-! SUPPORT. The shared operations of `Machine/Safety.lean` leave the queue of commands as it is and keep the invariant. -/

namespace Sys2Proof.Machine

@[simp] theorem State.safDrive_pending (s : State) (was t : Nat) :
    (s.safDrive was t).pending = s.pending := by
  unfold State.safDrive; try dsimp only
  iterate 25 all_goals try with_reducible (first | rfl | refine (State.block_pending ..).trans ?_ | apply ite_pending | split | refine (foldl_pending _ (fun _ _ => ?_) _ _).trans ?_ | dsimp only)

theorem State.safDrive_inv (s : State) (was t : Nat) (h : s.Inv) :
    (s.safDrive was t).Inv := by
  unfold State.safDrive; try dsimp only
  iterate 25 all_goals try with_reducible (first | assumption | apply State.block_inv | apply ite_inv | split | (apply foldl_inv; intro _ _ _) | refine State.Inv.upd (by rfl) (by rfl) (by rfl) (by rfl) (by rfl) (by rfl) (by rfl) (by rfl) ?_)

@[simp] theorem State.safEval_pending (s : State) (c t : Nat) : (s.safEval c t).pending = s.pending := by
  unfold State.safEval; try dsimp only
  iterate 25 all_goals try with_reducible (first
      | rfl | refine (State.safRaise_pending ..).trans ?_ | refine (State.safDrive_pending ..).trans ?_
      | apply ite_pending | split | refine (foldl_pending _ (fun _ _ => ?_) _ _).trans ?_ | dsimp only)

theorem State.safEval_inv (s : State) (c t : Nat) (h : s.Inv) : (s.safEval c t).Inv := by
  unfold State.safEval; try dsimp only
  iterate 25 all_goals try with_reducible (first
      | assumption | apply State.safRaise_inv | apply State.safDrive_inv | apply ite_inv | split
      | (apply foldl_inv; intro _ _ _)
      | refine State.Inv.upd (by rfl) (by rfl) (by rfl) (by rfl) (by rfl) (by rfl) (by rfl) (by rfl) ?_)

@[simp] theorem State.safFault_pending (s : State) (c t : Nat) : (s.safFault c t).pending = s.pending := by
  unfold State.safFault; try dsimp only
  iterate 25 all_goals try with_reducible (first
      | rfl | refine (State.safRaise_pending ..).trans ?_ | refine (State.safDrive_pending ..).trans ?_
      | apply ite_pending | split | refine (foldl_pending _ (fun _ _ => ?_) _ _).trans ?_ | dsimp only)

theorem State.safFault_inv (s : State) (c t : Nat) (h : s.Inv) : (s.safFault c t).Inv := by
  unfold State.safFault; try dsimp only
  iterate 25 all_goals try with_reducible (first
      | assumption | apply State.safRaise_inv | apply State.safDrive_inv | apply ite_inv | split
      | (apply foldl_inv; intro _ _ _)
      | refine State.Inv.upd (by rfl) (by rfl) (by rfl) (by rfl) (by rfl) (by rfl) (by rfl) (by rfl) ?_)

@[simp] theorem State.discInput_pending (s : State) (ch t n : Nat)
    : (s.discInput ch t n).pending = s.pending := by
  unfold State.discInput; try dsimp only
  iterate 25 all_goals try with_reducible (first
      | rfl | refine (State.safRaise_pending ..).trans ?_ | apply ite_pending | split
      | refine (foldl_pending _ (fun _ _ => ?_) _ _).trans ?_ | dsimp only)

theorem State.discInput_inv (s : State) (ch t n : Nat) (h : s.Inv) : (s.discInput ch t n).Inv := by
  unfold State.discInput; try dsimp only
  iterate 25 all_goals try with_reducible (first
      | assumption | apply State.safRaise_inv | apply ite_inv | split | (apply foldl_inv; intro _ _ _)
      | refine State.Inv.upd (by rfl) (by rfl) (by rfl) (by rfl) (by rfl) (by rfl) (by rfl) (by rfl) ?_)

@[simp] theorem State.clearWhere_pending (s : State) (code t : Nat) (p : Nat → Bool)
    : (s.clearWhere code t p).pending = s.pending := by
  unfold State.clearWhere; try dsimp only
  iterate 25 all_goals try with_reducible (first
      | rfl | refine (State.clear_pending ..).trans ?_ | apply ite_pending | split
      | refine (foldl_pending _ (fun _ _ => ?_) _ _).trans ?_ | dsimp only)

theorem State.clearWhere_inv (s : State) (code t : Nat) (p : Nat → Bool) (h : s.Inv)
    : (s.clearWhere code t p).Inv := by
  unfold State.clearWhere; try dsimp only
  iterate 25 all_goals try with_reducible (first
      | assumption | apply State.clear_inv | apply ite_inv | split | (apply foldl_inv; intro _ _ _)
      | refine State.Inv.upd (by rfl) (by rfl) (by rfl) (by rfl) (by rfl) (by rfl) (by rfl) (by rfl) ?_)

@[simp] theorem State.safLock_pending (s : State) : s.safLock.pending = s.pending := by
  unfold State.safLock; try dsimp only
  iterate 25 all_goals try with_reducible (first
      | rfl | refine (State.safDrive_pending ..).trans ?_ | apply ite_pending | split
      | refine (foldl_pending _ (fun _ _ => ?_) _ _).trans ?_ | dsimp only)

theorem State.safLock_inv (s : State) (h : s.Inv) : s.safLock.Inv := by
  unfold State.safLock; try dsimp only
  iterate 25 all_goals try with_reducible (first
      | assumption | apply State.safDrive_inv | apply ite_inv | split | (apply foldl_inv; intro _ _ _)
      | refine State.Inv.upd (by rfl) (by rfl) (by rfl) (by rfl) (by rfl) (by rfl) (by rfl) (by rfl) ?_)

@[simp] theorem State.safRun_pending (s : State) (t : Nat) :
    (s.safRun t).pending = s.pending := by
  unfold State.safRun; try dsimp only
  iterate 25 all_goals try with_reducible (first | rfl | refine (State.safLock_pending ..).trans ?_ | refine (State.safEval_pending ..).trans ?_ | apply ite_pending | split | refine (foldl_pending _ (fun _ _ => ?_) _ _).trans ?_ | dsimp only)

theorem State.safRun_inv (s : State) (t : Nat) (h : s.Inv) :
    (s.safRun t).Inv := by
  unfold State.safRun; try dsimp only
  iterate 25 all_goals try with_reducible (first | assumption | apply State.safLock_inv | apply State.safEval_inv | apply ite_inv | split | (apply foldl_inv; intro _ _ _) | refine State.Inv.upd (by rfl) (by rfl) (by rfl) (by rfl) (by rfl) (by rfl) (by rfl) (by rfl) ?_)

end Sys2Proof.Machine
end

