-- ==== Sys2Proof/Laws/KeepGens.lean ====
section
/-! SUPPORT. The shared operations of `Machine/Gens.lean` leave the queue of commands as it is and keep the invariant. -/

namespace Sys2Proof.Machine

@[simp] theorem State.setDcell_pending (s : State) (ci : Nat) (d : Duct)
    : (s.setDcell ci d).pending = s.pending := by
  unfold State.setDcell; try dsimp only
  iterate 25 all_goals try with_reducible (first
      | rfl | refine (State.setDstack_pending ..).trans ?_ | refine (State.setPost_pending ..).trans ?_
      | refine (State.setSch_pending ..).trans ?_ | refine (State.setSchStack_pending ..).trans ?_
      | refine (State.setSupSw_pending ..).trans ?_ | refine (State.setSupCell_pending ..).trans ?_
      | apply ite_pending | split | refine (foldl_pending _ (fun _ _ => ?_) _ _).trans ?_ | dsimp only)

theorem State.setDcell_inv (s : State) (ci : Nat) (d : Duct) (h : s.Inv) : (s.setDcell ci d).Inv := by
  unfold State.setDcell; try dsimp only
  iterate 25 all_goals try with_reducible (first
      | assumption | apply State.setDstack_inv | apply State.setPost_inv | apply State.setSch_inv
      | apply State.setSchStack_inv | apply State.setSupSw_inv | apply State.setSupCell_inv | apply ite_inv
      | split | (apply foldl_inv; intro _ _ _)
      | refine State.Inv.upd (by rfl) (by rfl) (by rfl) (by rfl) (by rfl) (by rfl) (by rfl) (by rfl) ?_)

@[simp] theorem State.setDstack_pending (s : State) (k : Nat) (d : DStack)
    : (s.setDstack k d).pending = s.pending := by
  unfold State.setDstack; try dsimp only
  iterate 25 all_goals try with_reducible (first
      | rfl | refine (State.setPost_pending ..).trans ?_ | refine (State.setSch_pending ..).trans ?_
      | refine (State.setSchStack_pending ..).trans ?_ | refine (State.setSupSw_pending ..).trans ?_
      | refine (State.setSupCell_pending ..).trans ?_ | apply ite_pending | split
      | refine (foldl_pending _ (fun _ _ => ?_) _ _).trans ?_ | dsimp only)

theorem State.setDstack_inv (s : State) (k : Nat) (d : DStack) (h : s.Inv) : (s.setDstack k d).Inv := by
  unfold State.setDstack; try dsimp only
  iterate 25 all_goals try with_reducible (first
      | assumption | apply State.setPost_inv | apply State.setSch_inv | apply State.setSchStack_inv
      | apply State.setSupSw_inv | apply State.setSupCell_inv | apply ite_inv | split
      | (apply foldl_inv; intro _ _ _)
      | refine State.Inv.upd (by rfl) (by rfl) (by rfl) (by rfl) (by rfl) (by rfl) (by rfl) (by rfl) ?_)

@[simp] theorem State.setPost_pending (s : State) (k : Nat) (x : StackIn)
    : (s.setPost k x).pending = s.pending := by
  unfold State.setPost; try dsimp only
  iterate 25 all_goals try with_reducible (first
      | rfl | refine (State.setSch_pending ..).trans ?_ | refine (State.setSchStack_pending ..).trans ?_
      | refine (State.setSupSw_pending ..).trans ?_ | refine (State.setSupCell_pending ..).trans ?_
      | apply ite_pending | split | refine (foldl_pending _ (fun _ _ => ?_) _ _).trans ?_ | dsimp only)

theorem State.setPost_inv (s : State) (k : Nat) (x : StackIn) (h : s.Inv) : (s.setPost k x).Inv := by
  unfold State.setPost; try dsimp only
  iterate 25 all_goals try with_reducible (first
      | assumption | apply State.setSch_inv | apply State.setSchStack_inv | apply State.setSupSw_inv
      | apply State.setSupCell_inv | apply ite_inv | split | (apply foldl_inv; intro _ _ _)
      | refine State.Inv.upd (by rfl) (by rfl) (by rfl) (by rfl) (by rfl) (by rfl) (by rfl) (by rfl) ?_)

@[simp] theorem State.setSch_pending (s : State) (ci : Nat) (x : SchCell)
    : (s.setSch ci x).pending = s.pending := by
  unfold State.setSch; try dsimp only
  iterate 25 all_goals try with_reducible (first
      | rfl | refine (State.setSchStack_pending ..).trans ?_ | refine (State.setSupSw_pending ..).trans ?_
      | refine (State.setSupCell_pending ..).trans ?_ | apply ite_pending | split
      | refine (foldl_pending _ (fun _ _ => ?_) _ _).trans ?_ | dsimp only)

theorem State.setSch_inv (s : State) (ci : Nat) (x : SchCell) (h : s.Inv) : (s.setSch ci x).Inv := by
  unfold State.setSch; try dsimp only
  iterate 25 all_goals try with_reducible (first
      | assumption | apply State.setSchStack_inv | apply State.setSupSw_inv | apply State.setSupCell_inv
      | apply ite_inv | split | (apply foldl_inv; intro _ _ _)
      | refine State.Inv.upd (by rfl) (by rfl) (by rfl) (by rfl) (by rfl) (by rfl) (by rfl) (by rfl) ?_)

@[simp] theorem State.setSchStack_pending (s : State) (k : Nat) (x : SchStack)
    : (s.setSchStack k x).pending = s.pending := by
  unfold State.setSchStack; try dsimp only
  iterate 25 all_goals try with_reducible (first
      | rfl | refine (State.setSupSw_pending ..).trans ?_ | refine (State.setSupCell_pending ..).trans ?_
      | apply ite_pending | split | refine (foldl_pending _ (fun _ _ => ?_) _ _).trans ?_ | dsimp only)

theorem State.setSchStack_inv (s : State) (k : Nat) (x : SchStack) (h : s.Inv) : (s.setSchStack k x).Inv := by
  unfold State.setSchStack; try dsimp only
  iterate 25 all_goals try with_reducible (first
      | assumption | apply State.setSupSw_inv | apply State.setSupCell_inv | apply ite_inv | split
      | (apply foldl_inv; intro _ _ _)
      | refine State.Inv.upd (by rfl) (by rfl) (by rfl) (by rfl) (by rfl) (by rfl) (by rfl) (by rfl) ?_)

@[simp] theorem State.setSupSw_pending (s : State) (j : Nat) (x : SupSw)
    : (s.setSupSw j x).pending = s.pending := by
  unfold State.setSupSw; try dsimp only
  iterate 25 all_goals try with_reducible (first
      | rfl | refine (State.setSupCell_pending ..).trans ?_ | apply ite_pending | split
      | refine (foldl_pending _ (fun _ _ => ?_) _ _).trans ?_ | dsimp only)

theorem State.setSupSw_inv (s : State) (j : Nat) (x : SupSw) (h : s.Inv) : (s.setSupSw j x).Inv := by
  unfold State.setSupSw; try dsimp only
  iterate 25 all_goals try with_reducible (first
      | assumption | apply State.setSupCell_inv | apply ite_inv | split | (apply foldl_inv; intro _ _ _)
      | refine State.Inv.upd (by rfl) (by rfl) (by rfl) (by rfl) (by rfl) (by rfl) (by rfl) (by rfl) ?_)

@[simp] theorem State.setSupCell_pending (s : State) (ci : Nat) (x : SupCell)
    : (s.setSupCell ci x).pending = s.pending := by
  unfold State.setSupCell; try dsimp only
  iterate 25 all_goals try with_reducible (first
      | rfl | apply ite_pending | split | refine (foldl_pending _ (fun _ _ => ?_) _ _).trans ?_ | dsimp only)

theorem State.setSupCell_inv (s : State) (ci : Nat) (x : SupCell) (h : s.Inv) : (s.setSupCell ci x).Inv := by
  unfold State.setSupCell; try dsimp only
  iterate 25 all_goals try with_reducible (first
      | assumption | apply ite_inv | split | (apply foldl_inv; intro _ _ _)
      | refine State.Inv.upd (by rfl) (by rfl) (by rfl) (by rfl) (by rfl) (by rfl) (by rfl) (by rfl) ?_)

@[simp] theorem State.stageGen_pending (s : State) (k w : Nat) (v : Word) (target : Nat)
    : (s.stageGen k w v target).pending = s.pending := by
  unfold State.stageGen; try dsimp only
  iterate 25 all_goals try with_reducible (first
      | rfl | refine (State.setDstack_pending ..).trans ?_ | apply ite_pending | split
      | refine (foldl_pending _ (fun _ _ => ?_) _ _).trans ?_ | dsimp only)

theorem State.stageGen_inv (s : State) (k w : Nat) (v : Word) (target : Nat) (h : s.Inv)
    : (s.stageGen k w v target).Inv := by
  unfold State.stageGen; try dsimp only
  iterate 25 all_goals try with_reducible (first
      | assumption | apply State.setDstack_inv | apply ite_inv | split | (apply foldl_inv; intro _ _ _)
      | refine State.Inv.upd (by rfl) (by rfl) (by rfl) (by rfl) (by rfl) (by rfl) (by rfl) (by rfl) ?_)

@[simp] theorem State.takeLoad_pending (s : State) (k : Nat) (l : GenLoad)
    : (s.takeLoad k l).pending = s.pending := by
  unfold State.takeLoad; try dsimp only
  iterate 25 all_goals try with_reducible (first
      | rfl | refine (State.setDstack_pending ..).trans ?_ | refine (State.clear_pending ..).trans ?_
      | refine (State.raise_pending ..).trans ?_ | apply ite_pending | split
      | refine (foldl_pending _ (fun _ _ => ?_) _ _).trans ?_ | dsimp only)

theorem State.takeLoad_inv (s : State) (k : Nat) (l : GenLoad) (h : s.Inv) : (s.takeLoad k l).Inv := by
  unfold State.takeLoad; try dsimp only
  iterate 25 all_goals try with_reducible (first
      | assumption | apply State.setDstack_inv | apply State.clear_inv | apply State.raise_inv | apply ite_inv
      | split | (apply foldl_inv; intro _ _ _)
      | refine State.Inv.upd (by rfl) (by rfl) (by rfl) (by rfl) (by rfl) (by rfl) (by rfl) (by rfl) ?_)

end Sys2Proof.Machine
end

