-- ==== Sys2Proof/Laws/KeepOps.lean ====
section
/-! SUPPORT. The shared operations of `Machine/Ops.lean` leave the queue of commands as it is and keep the invariant. -/

namespace Sys2Proof.Machine

@[simp] theorem State.opUpd_pending (s : State) (id : Nat) (f : OpRec → OpRec)
    : (s.opUpd id f).pending = s.pending := by
  unfold State.opUpd; try dsimp only
  iterate 25 all_goals try with_reducible (first
      | rfl | apply ite_pending | split | refine (foldl_pending _ (fun _ _ => ?_) _ _).trans ?_ | dsimp only)

theorem State.opUpd_inv (s : State) (id : Nat) (f : OpRec → OpRec) (h : s.Inv) : (s.opUpd id f).Inv := by
  unfold State.opUpd; try dsimp only
  iterate 25 all_goals try with_reducible (first
      | assumption | apply ite_inv | split | (apply foldl_inv; intro _ _ _)
      | refine State.Inv.upd (by rfl) (by rfl) (by rfl) (by rfl) (by rfl) (by rfl) (by rfl) (by rfl) ?_)

@[simp] theorem State.opEnd_pending (s : State) (id st status : Nat)
    : (s.opEnd id st status).pending = s.pending := by
  unfold State.opEnd; try dsimp only
  iterate 25 all_goals try with_reducible (first
      | rfl | refine (State.opUpd_pending ..).trans ?_ | apply ite_pending | split
      | refine (foldl_pending _ (fun _ _ => ?_) _ _).trans ?_ | dsimp only)

theorem State.opEnd_inv (s : State) (id st status : Nat) (h : s.Inv) : (s.opEnd id st status).Inv := by
  unfold State.opEnd; try dsimp only
  iterate 25 all_goals try with_reducible (first
      | assumption | apply State.opUpd_inv | apply ite_inv | split | (apply foldl_inv; intro _ _ _)
      | refine State.Inv.upd (by rfl) (by rfl) (by rfl) (by rfl) (by rfl) (by rfl) (by rfl) (by rfl) ?_)

@[simp] theorem State.opStart_pending (s : State) (opcode kind total arg : Nat)
    : (s.opStart opcode kind total arg).pending = s.pending := by
  unfold State.opStart; try dsimp only
  iterate 25 all_goals try with_reducible (first
      | rfl | apply ite_pending | split | refine (foldl_pending _ (fun _ _ => ?_) _ _).trans ?_ | dsimp only)

theorem State.opStart_inv (s : State) (opcode kind total arg : Nat) (h : s.Inv)
    : (s.opStart opcode kind total arg).Inv := by
  unfold State.opStart; try dsimp only
  iterate 25 all_goals try with_reducible (first
      | assumption | apply ite_inv | split | (apply foldl_inv; intro _ _ _)
      | refine State.Inv.upd (by rfl) (by rfl) (by rfl) (by rfl) (by rfl) (by rfl) (by rfl) (by rfl) ?_)

@[simp] theorem State.backToFound_pending (s : State) (ci : Nat) : (s.backToFound ci).pending = s.pending := by
  unfold State.backToFound; try dsimp only
  iterate 25 all_goals try with_reducible (first
      | rfl | refine (State.setCell_pending ..).trans ?_ | refine (State.setMg_pending ..).trans ?_
      | refine (State.sendRetire_pending ..).trans ?_ | apply ite_pending | split
      | refine (foldl_pending _ (fun _ _ => ?_) _ _).trans ?_ | dsimp only)

theorem State.backToFound_inv (s : State) (ci : Nat) (h : s.Inv) : (s.backToFound ci).Inv := by
  unfold State.backToFound; try dsimp only
  iterate 25 all_goals try with_reducible (first
      | assumption | apply State.setCell_inv | apply State.setMg_inv | apply State.sendRetire_inv
      | apply ite_inv | split | (apply foldl_inv; intro _ _ _)
      | refine State.Inv.upd (by rfl) (by rfl) (by rfl) (by rfl) (by rfl) (by rfl) (by rfl) (by rfl) ?_)

@[simp] theorem State.insertCell_pending (s : State) (ci : Nat) : (s.insertCell ci).pending = s.pending := by
  unfold State.insertCell; try dsimp only
  iterate 25 all_goals try with_reducible (first
      | rfl | refine (State.setCell_pending ..).trans ?_ | refine (State.setMg_pending ..).trans ?_
      | refine (State.opUpd_pending ..).trans ?_ | refine (State.clear_pending ..).trans ?_ | apply ite_pending
      | split | refine (foldl_pending _ (fun _ _ => ?_) _ _).trans ?_ | dsimp only)

theorem State.insertCell_inv (s : State) (ci : Nat) (h : s.Inv) : (s.insertCell ci).Inv := by
  unfold State.insertCell; try dsimp only
  iterate 25 all_goals try with_reducible (first
      | assumption | apply State.setCell_inv | apply State.setMg_inv | apply State.opUpd_inv
      | apply State.clear_inv | apply ite_inv | split | (apply foldl_inv; intro _ _ _)
      | refine State.Inv.upd (by rfl) (by rfl) (by rfl) (by rfl) (by rfl) (by rfl) (by rfl) (by rfl) ?_)

end Sys2Proof.Machine
end

