-- ==== Sys2Proof/Laws/KeepDuctus.lean ====
section
/-! SUPPORT. The shared operations of `Machine/Ductus.lean` leave the queue of commands as it is and keep the invariant. -/

namespace Sys2Proof.Machine

@[simp] theorem State.countLegs_pending (s : State) (k drops stretches : Nat)
    : (s.countLegs k drops stretches).pending = s.pending := by
  unfold State.countLegs; try dsimp only
  iterate 25 all_goals try with_reducible (first
      | rfl | refine (State.setDstack_pending ..).trans ?_ | refine (State.satEvent_pending ..).trans ?_
      | apply ite_pending | split | refine (foldl_pending _ (fun _ _ => ?_) _ _).trans ?_ | dsimp only)

theorem State.countLegs_inv (s : State) (k drops stretches : Nat) (h : s.Inv)
    : (s.countLegs k drops stretches).Inv := by
  unfold State.countLegs; try dsimp only
  iterate 25 all_goals try with_reducible (first
      | assumption | apply State.setDstack_inv | apply State.satEvent_inv | apply ite_inv | split
      | (apply foldl_inv; intro _ _ _)
      | refine State.Inv.upd (by rfl) (by rfl) (by rfl) (by rfl) (by rfl) (by rfl) (by rfl) (by rfl) ?_)

@[simp] theorem State.segFail_pending (s : State) (k ci : Nat) (f : Nat × Nat) (blk : List Byte)
    : (s.segFail k ci f blk).pending = s.pending := by
  unfold State.segFail; try dsimp only
  iterate 25 all_goals try with_reducible (first
      | rfl | refine (State.setDcell_pending ..).trans ?_ | refine (State.raise_pending ..).trans ?_
      | apply ite_pending | split | refine (foldl_pending _ (fun _ _ => ?_) _ _).trans ?_ | dsimp only)

theorem State.segFail_inv (s : State) (k ci : Nat) (f : Nat × Nat) (blk : List Byte) (h : s.Inv)
    : (s.segFail k ci f blk).Inv := by
  unfold State.segFail; try dsimp only
  iterate 25 all_goals try with_reducible (first
      | assumption | apply State.setDcell_inv | apply State.raise_inv | apply ite_inv | split
      | (apply foldl_inv; intro _ _ _)
      | refine State.Inv.upd (by rfl) (by rfl) (by rfl) (by rfl) (by rfl) (by rfl) (by rfl) (by rfl) ?_)

@[simp] theorem State.buildCell_pending (s : State) (c : StkCfg) (k typ T ci : Nat) (job : CellJob) (bad
    : Option (Nat × Nat)) : (s.buildCell c k typ T ci job bad).pending = s.pending := by
  unfold State.buildCell; try dsimp only
  iterate 25 all_goals try with_reducible (first
      | rfl | refine (State.block_pending ..).trans ?_ | refine (State.setDcell_pending ..).trans ?_
      | refine (State.setMg_pending ..).trans ?_ | refine (State.countLegs_pending ..).trans ?_
      | refine (State.raise_pending ..).trans ?_ | refine (State.segFail_pending ..).trans ?_
      | apply ite_pending | split | refine (foldl_pending _ (fun _ _ => ?_) _ _).trans ?_ | dsimp only)

theorem State.buildCell_inv (s : State) (c : StkCfg) (k typ T ci : Nat) (job : CellJob) (bad
    : Option (Nat × Nat)) (h : s.Inv) : (s.buildCell c k typ T ci job bad).Inv := by
  unfold State.buildCell; try dsimp only
  iterate 25 all_goals try with_reducible (first
      | assumption | apply State.block_inv | apply State.setDcell_inv | apply State.setMg_inv
      | apply State.countLegs_inv | apply State.raise_inv | apply State.segFail_inv | apply ite_inv | split
      | (apply foldl_inv; intro _ _ _)
      | refine State.Inv.upd (by rfl) (by rfl) (by rfl) (by rfl) (by rfl) (by rfl) (by rfl) (by rfl) ?_)

@[simp] theorem State.buildBlocked_pending (s : State) (k T ci : Nat) (mgmt : List Byte) :
    (s.buildBlocked k T ci mgmt).pending = s.pending := by
  unfold State.buildBlocked; try dsimp only
  iterate 25 all_goals try with_reducible (first | rfl | refine (State.setDcell_pending ..).trans ?_ | refine (State.setMg_pending ..).trans ?_ | apply ite_pending | split | refine (foldl_pending _ (fun _ _ => ?_) _ _).trans ?_ | dsimp only)

theorem State.buildBlocked_inv (s : State) (k T ci : Nat) (mgmt : List Byte) (h : s.Inv) :
    (s.buildBlocked k T ci mgmt).Inv := by
  unfold State.buildBlocked; try dsimp only
  iterate 25 all_goals try with_reducible (first | assumption | apply State.setDcell_inv | apply State.setMg_inv | apply ite_inv | split | (apply foldl_inv; intro _ _ _) | refine State.Inv.upd (by rfl) (by rfl) (by rfl) (by rfl) (by rfl) (by rfl) (by rfl) (by rfl) ?_)

theorem State.stackWants_pending (s : State) (c : StkCfg) (k T : Nat) (run : Bool) (ps : List Piece) (x
    : StackIn) :
    (s.stackWants c k T run ps x).1.pending = s.pending := by
  unfold State.stackWants
  dsimp only
  (repeat' split) <;> simp

theorem State.stackWants_inv (s : State) (c : StkCfg) (k T : Nat) (run : Bool) (ps : List Piece) (x : StackIn)
    (h : s.Inv) : (s.stackWants c k T run ps x).1.Inv := by
  unfold State.stackWants
  dsimp only
  split
  · exact h
  · split
    · split
      · exact State.setDstack_inv _ _ _ h
      · exact State.judge_inv _ _ _ _ _ _ _ (State.setDstack_inv _ _ _ h)
    · split <;> exact h

@[simp] theorem State.buildStack_pending (s : State) (j : Nat) (inp : StepIn) (bad : Nat → Option (Nat × Nat)) (k : Nat) :
    (s.buildStack j inp bad k).pending = s.pending := by
  unfold State.buildStack
  extract_lets
  iterate 3 all_goals try with_reducible (first | rw [State.clear_pending] | apply ite_pending)
  all_goals
    refine (foldl_pending _ (fun _ _ => State.buildBlocked_pending ..) _ _).trans ?_
    refine (foldl_pending _ (fun _ _ => State.buildCell_pending ..) _ _).trans ?_
    refine (State.setDstack_pending ..).trans ((State.stackWants_pending ..).trans (State.setDstack_pending ..))

theorem State.buildStack_inv (s : State) (j : Nat) (inp : StepIn) (bad : Nat → Option (Nat × Nat)) (k : Nat) (h : s.Inv) :
    (s.buildStack j inp bad k).Inv := by
  unfold State.buildStack
  extract_lets
  iterate 3 all_goals try with_reducible (first | apply State.clear_inv | apply ite_inv)
  all_goals
    refine foldl_inv _ (fun _ _ hu => State.buildBlocked_inv _ _ _ _ _ hu) _ _ ?_
    refine foldl_inv _ (fun _ _ hu => State.buildCell_inv _ _ _ _ _ _ _ _ hu) _ _ ?_
    exact State.setDstack_inv _ _ _ (State.stackWants_inv _ _ _ _ _ _ _ (State.setDstack_inv _ _ _ h))

@[simp] theorem State.buildStep_pending (s : State) (j : Nat) (inp : StepIn) (bad : Nat → Option (Nat × Nat))
    : (s.buildStep j inp bad).pending = s.pending := by
  unfold State.buildStep; try dsimp only
  iterate 25 all_goals try with_reducible (first
      | rfl | refine (State.buildStack_pending ..).trans ?_ | apply ite_pending | split
      | refine (foldl_pending _ (fun _ _ => ?_) _ _).trans ?_ | dsimp only)

theorem State.buildStep_inv (s : State) (j : Nat) (inp : StepIn) (bad : Nat → Option (Nat × Nat)) (h : s.Inv)
    : (s.buildStep j inp bad).Inv := by
  unfold State.buildStep; try dsimp only
  iterate 25 all_goals try with_reducible (first
      | assumption | apply State.buildStack_inv | apply ite_inv | split | (apply foldl_inv; intro _ _ _)
      | refine State.Inv.upd (by rfl) (by rfl) (by rfl) (by rfl) (by rfl) (by rfl) (by rfl) (by rfl) ?_)

@[simp] theorem State.emptySegs_pending (s : State) : s.emptySegs.pending = s.pending := by
  unfold State.emptySegs; try dsimp only
  iterate 25 all_goals try with_reducible (first
      | rfl | apply ite_pending | split | refine (foldl_pending _ (fun _ _ => ?_) _ _).trans ?_ | dsimp only)

theorem State.emptySegs_inv (s : State) (h : s.Inv) : s.emptySegs.Inv := by
  unfold State.emptySegs; try dsimp only
  iterate 25 all_goals try with_reducible (first
      | assumption | apply ite_inv | split | (apply foldl_inv; intro _ _ _)
      | refine State.Inv.upd (by rfl) (by rfl) (by rfl) (by rfl) (by rfl) (by rfl) (by rfl) (by rfl) ?_)

@[simp] theorem State.takeCodes_pending (s : State) (follow : Bool) (cs : List CodeChange)
    : (s.takeCodes follow cs).pending = s.pending := by
  unfold State.takeCodes; try dsimp only
  iterate 25 all_goals try with_reducible (first
      | rfl | refine (State.setSupSw_pending ..).trans ?_ | apply ite_pending | split
      | refine (foldl_pending _ (fun _ _ => ?_) _ _).trans ?_ | dsimp only)

theorem State.takeCodes_inv (s : State) (follow : Bool) (cs : List CodeChange) (h : s.Inv)
    : (s.takeCodes follow cs).Inv := by
  unfold State.takeCodes; try dsimp only
  iterate 25 all_goals try with_reducible (first
      | assumption | apply State.setSupSw_inv | apply ite_inv | split | (apply foldl_inv; intro _ _ _)
      | refine State.Inv.upd (by rfl) (by rfl) (by rfl) (by rfl) (by rfl) (by rfl) (by rfl) (by rfl) ?_)

@[simp] theorem State.keepOwn_pending (s : State) (x : StepIn) (holder : Bool)
    : (s.keepOwn x holder).pending = s.pending := by
  unfold State.keepOwn; try dsimp only
  iterate 25 all_goals try with_reducible (first
      | rfl | apply ite_pending | split | refine (foldl_pending _ (fun _ _ => ?_) _ _).trans ?_ | dsimp only)

theorem State.keepOwn_inv (s : State) (x : StepIn) (holder : Bool) (h : s.Inv) : (s.keepOwn x holder).Inv := by
  unfold State.keepOwn; try dsimp only
  iterate 25 all_goals try with_reducible (first
      | assumption | apply ite_inv | split | (apply foldl_inv; intro _ _ _)
      | refine State.Inv.upd (by rfl) (by rfl) (by rfl) (by rfl) (by rfl) (by rfl) (by rfl) (by rfl) ?_)

@[simp] theorem State.followStep_pending (s : State) (bad : Nat → Option (Nat × Nat)) (back : Nat) (x
    : StepIn) : (s.followStep bad back x).pending = s.pending := by
  unfold State.followStep; try dsimp only
  iterate 25 all_goals try with_reducible (first
      | rfl | refine (State.takeCodes_pending ..).trans ?_ | refine (State.buildStep_pending ..).trans ?_
      | apply ite_pending | split | refine (foldl_pending _ (fun _ _ => ?_) _ _).trans ?_ | dsimp only)

theorem State.followStep_inv (s : State) (bad : Nat → Option (Nat × Nat)) (back : Nat) (x : StepIn) (h
    : s.Inv) : (s.followStep bad back x).Inv := by
  unfold State.followStep; try dsimp only
  iterate 25 all_goals try with_reducible (first
      | assumption | apply State.takeCodes_inv | apply State.buildStep_inv | apply ite_inv | split
      | (apply foldl_inv; intro _ _ _)
      | refine State.Inv.upd (by rfl) (by rfl) (by rfl) (by rfl) (by rfl) (by rfl) (by rfl) (by rfl) ?_)

@[simp] theorem State.followUp_pending (s : State) (bad : Nat → Option (Nat × Nat))
    : (s.followUp bad).pending = s.pending := by
  unfold State.followUp; try dsimp only
  iterate 25 all_goals try with_reducible (first
      | rfl | refine (State.followStep_pending ..).trans ?_ | refine (State.emptySegs_pending ..).trans ?_
      | apply ite_pending | split | refine (foldl_pending _ (fun _ _ => ?_) _ _).trans ?_ | dsimp only)

theorem State.followUp_inv (s : State) (bad : Nat → Option (Nat × Nat)) (h : s.Inv) : (s.followUp bad).Inv := by
  unfold State.followUp; try dsimp only
  iterate 25 all_goals try with_reducible (first
      | assumption | apply State.followStep_inv | apply State.emptySegs_inv | apply ite_inv | split
      | (apply foldl_inv; intro _ _ _)
      | refine State.Inv.upd (by rfl) (by rfl) (by rfl) (by rfl) (by rfl) (by rfl) (by rfl) (by rfl) ?_)

@[simp] theorem State.standbyLatch_pending (s : State) (bad : Nat → Option (Nat × Nat))
    : (s.standbyLatch bad).pending = s.pending := by
  unfold State.standbyLatch; try dsimp only
  iterate 25 all_goals try with_reducible (first
      | rfl | refine (State.followUp_pending ..).trans ?_ | refine (State.emptySegs_pending ..).trans ?_
      | refine (State.keepOwn_pending ..).trans ?_ | apply ite_pending | split
      | refine (foldl_pending _ (fun _ _ => ?_) _ _).trans ?_ | dsimp only)

theorem State.standbyLatch_inv (s : State) (bad : Nat → Option (Nat × Nat)) (h : s.Inv)
    : (s.standbyLatch bad).Inv := by
  unfold State.standbyLatch; try dsimp only
  iterate 25 all_goals try with_reducible (first
      | assumption | apply State.followUp_inv | apply State.emptySegs_inv | apply State.keepOwn_inv
      | apply ite_inv | split | (apply foldl_inv; intro _ _ _)
      | refine State.Inv.upd (by rfl) (by rfl) (by rfl) (by rfl) (by rfl) (by rfl) (by rfl) (by rfl) ?_)

end Sys2Proof.Machine
end

