-- ==== Sys2Proof/Laws/KeepSched.lean ====
section
/-! SUPPORT. The shared operations of `Machine/Sched.lean` leave the queue of commands as it is and keep the invariant. -/

namespace Sys2Proof.Machine

@[simp] theorem State.setThSw_pending (s : State) (j : Nat) (x : ThSw)
    : (s.setThSw j x).pending = s.pending := by
  unfold State.setThSw; try dsimp only
  iterate 25 all_goals try with_reducible (first
      | rfl | apply ite_pending | split | refine (foldl_pending _ (fun _ _ => ?_) _ _).trans ?_ | dsimp only)

theorem State.setThSw_inv (s : State) (j : Nat) (x : ThSw) (h : s.Inv) : (s.setThSw j x).Inv := by
  unfold State.setThSw; try dsimp only
  iterate 25 all_goals try with_reducible (first
      | assumption | apply ite_inv | split | (apply foldl_inv; intro _ _ _)
      | refine State.Inv.upd (by rfl) (by rfl) (by rfl) (by rfl) (by rfl) (by rfl) (by rfl) (by rfl) ?_)

@[simp] theorem State.preJudge_pending (s : State) (x : SchedIn) (cmds : List (Nat × Int))
    : (s.preJudge x cmds).pending = s.pending := by
  unfold State.preJudge; try dsimp only
  iterate 25 all_goals try with_reducible (first
      | rfl | refine (State.setCell_pending ..).trans ?_ | refine (State.setSchStack_pending ..).trans ?_
      | refine (State.insertCell_pending ..).trans ?_ | apply ite_pending | split
      | refine (foldl_pending _ (fun _ _ => ?_) _ _).trans ?_ | dsimp only)

theorem State.preJudge_inv (s : State) (x : SchedIn) (cmds : List (Nat × Int)) (h : s.Inv)
    : (s.preJudge x cmds).Inv := by
  unfold State.preJudge; try dsimp only
  iterate 25 all_goals try with_reducible (first
      | assumption | apply State.setCell_inv | apply State.setSchStack_inv | apply State.insertCell_inv
      | apply ite_inv | split | (apply foldl_inv; intro _ _ _)
      | refine State.Inv.upd (by rfl) (by rfl) (by rfl) (by rfl) (by rfl) (by rfl) (by rfl) (by rfl) ?_)

@[simp] theorem State.cutStack_pending (s : State) (k : Nat) :
    (s.cutStack k).pending = s.pending := by
  unfold State.cutStack; try dsimp only
  iterate 25 all_goals try with_reducible (first | rfl | refine (State.setSchStack_pending ..).trans ?_ | refine (State.judgeRun_pending ..).trans ?_ | refine (State.setSch_pending ..).trans ?_ | apply ite_pending | split | refine (foldl_pending _ (fun _ _ => ?_) _ _).trans ?_ | dsimp only)

theorem State.cutStack_inv (s : State) (k : Nat) (h : s.Inv) :
    (s.cutStack k).Inv := by
  unfold State.cutStack; try dsimp only
  iterate 25 all_goals try with_reducible (first | assumption | apply State.setSchStack_inv | apply State.judgeRun_inv | apply State.setSch_inv | apply ite_inv | split | (apply foldl_inv; intro _ _ _) | refine State.Inv.upd (by rfl) (by rfl) (by rfl) (by rfl) (by rfl) (by rfl) (by rfl) (by rfl) ?_)

@[simp] theorem State.trimJudge_pending (s : State) (x : SchedIn) (trims : List (Nat × Int)) :
    (s.trimJudge x trims).pending = s.pending := by
  unfold State.trimJudge; try dsimp only
  iterate 25 all_goals try with_reducible (first | rfl | refine (State.setSch_pending ..).trans ?_ | refine (State.judgeRun_pending ..).trans ?_ | apply ite_pending | split | refine (foldl_pending _ (fun _ _ => ?_) _ _).trans ?_ | dsimp only)

theorem State.trimJudge_inv (s : State) (x : SchedIn) (trims : List (Nat × Int)) (h : s.Inv) :
    (s.trimJudge x trims).Inv := by
  unfold State.trimJudge; try dsimp only
  iterate 25 all_goals try with_reducible (first | assumption | apply State.setSch_inv | apply State.judgeRun_inv | apply ite_inv | split | (apply foldl_inv; intro _ _ _) | refine State.Inv.upd (by rfl) (by rfl) (by rfl) (by rfl) (by rfl) (by rfl) (by rfl) (by rfl) ?_)

@[simp] theorem State.postStack_pending (s : State) (late : BitVec 16) (k : Nat)
    : (s.postStack late k).pending = s.pending := by
  unfold State.postStack; try dsimp only
  iterate 25 all_goals try with_reducible (first
      | rfl | refine (State.trimJudge_pending ..).trans ?_ | refine (State.setSchStack_pending ..).trans ?_
      | refine (State.raise_pending ..).trans ?_ | refine (State.judge_pending ..).trans ?_
      | refine (State.setPost_pending ..).trans ?_ | refine (State.preJudge_pending ..).trans ?_
      | apply ite_pending | split | refine (foldl_pending _ (fun _ _ => ?_) _ _).trans ?_ | dsimp only)

theorem State.postStack_inv (s : State) (late : BitVec 16) (k : Nat) (h : s.Inv)
    : (s.postStack late k).Inv := by
  unfold State.postStack; try dsimp only
  iterate 25 all_goals try with_reducible (first
      | assumption | apply State.trimJudge_inv | apply State.setSchStack_inv | apply State.raise_inv
      | apply State.judge_inv | apply State.setPost_inv | apply State.preJudge_inv | apply ite_inv | split
      | (apply foldl_inv; intro _ _ _)
      | refine State.Inv.upd (by rfl) (by rfl) (by rfl) (by rfl) (by rfl) (by rfl) (by rfl) (by rfl) ?_)

end Sys2Proof.Machine
end

