-- ==== Sys2Proof/Laws/KeepThermal.lean ====
section
/-! SUPPORT. The shared operations of `Machine/Thermal.lean` leave the queue of commands as it is and keep the invariant. -/

namespace Sys2Proof.Machine

@[simp] theorem State.caseDraw_pending (s : State) (k ci : Nat) : (s.caseDraw k ci).pending = s.pending := by
  unfold State.caseDraw; split <;> rfl

theorem State.caseDraw_inv (s : State) (k ci : Nat) (h : s.Inv) : (s.caseDraw k ci).Inv := by
  unfold State.caseDraw; split
  · exact State.Inv.upd (by rfl) (by rfl) (by rfl) (by rfl) (by rfl) (by rfl) (by rfl) (by rfl) h
  · exact h

@[simp] theorem State.judgeCase_pending (s : State) (k ci : Nat) : (s.judgeCase k ci).pending = s.pending := by
  unfold State.judgeCase; try dsimp only
  iterate 25 all_goals try with_reducible (first
      | rfl | refine (State.clear_pending ..).trans ?_ | refine (State.raise_pending ..).trans ?_
      | apply ite_pending | split | refine (foldl_pending _ (fun _ _ => ?_) _ _).trans ?_ | dsimp only)

theorem State.judgeCase_inv (s : State) (k ci : Nat) (h : s.Inv) : (s.judgeCase k ci).Inv := by
  unfold State.judgeCase; try dsimp only
  iterate 25 all_goals try with_reducible (first
      | assumption | apply State.clear_inv | apply State.raise_inv | apply ite_inv | split
      | (apply foldl_inv; intro _ _ _)
      | refine State.Inv.upd (by rfl) (by rfl) (by rfl) (by rfl) (by rfl) (by rfl) (by rfl) (by rfl) ?_)

theorem State.stepCell_pending (s : State) (k ci : Nat) : (s.stepCell k ci).1.pending = s.pending := by
  unfold State.stepCell
  dsimp only
  refine (List.foldlRecOn _ _ (motive := fun a : State × List (Nat × Word) => a.1.pending = s.pending)
    ((State.caseDraw_pending ..).trans (State.judgeCase_pending ..)) ?_)
  intro a h sw _
  exact (State.setThSw_pending ..).trans h

theorem State.stepCell_inv (s : State) (k ci : Nat) (h : s.Inv) : (s.stepCell k ci).1.Inv := by
  unfold State.stepCell
  dsimp only
  refine (List.foldlRecOn _ _ (motive := fun a : State × List (Nat × Word) => a.1.Inv)
    (State.caseDraw_inv _ _ _ (State.judgeCase_inv _ _ _ h)) ?_)
  intro a h sw _
  exact State.setThSw_inv _ _ _ h

@[simp] theorem State.judgeHeat_pending (s : State) (k ci : Nat) : (s.judgeHeat k ci).pending = s.pending := by
  unfold State.judgeHeat; try dsimp only
  iterate 25 all_goals try with_reducible (first
      | rfl | refine (State.raise_pending ..).trans ?_ | refine (State.clear_pending ..).trans ?_
      | apply ite_pending | split | refine (foldl_pending _ (fun _ _ => ?_) _ _).trans ?_ | dsimp only)

theorem State.judgeHeat_inv (s : State) (k ci : Nat) (h : s.Inv) : (s.judgeHeat k ci).Inv := by
  unfold State.judgeHeat; try dsimp only
  iterate 25 all_goals try with_reducible (first
      | assumption | apply State.raise_inv | apply State.clear_inv | apply ite_inv | split
      | (apply foldl_inv; intro _ _ _)
      | refine State.Inv.upd (by rfl) (by rfl) (by rfl) (by rfl) (by rfl) (by rfl) (by rfl) (by rfl) ?_)

@[simp] theorem State.hottest_pending (s : State) (k : Nat) : (s.hottest k).pending = s.pending := by
  unfold State.hottest; try dsimp only
  iterate 25 all_goals try with_reducible (first
      | rfl | refine (State.setSchStack_pending ..).trans ?_ | apply ite_pending | split
      | refine (foldl_pending _ (fun _ _ => ?_) _ _).trans ?_ | dsimp only)

theorem State.hottest_inv (s : State) (k : Nat) (h : s.Inv) : (s.hottest k).Inv := by
  unfold State.hottest; try dsimp only
  iterate 25 all_goals try with_reducible (first
      | assumption | apply State.setSchStack_inv | apply ite_inv | split | (apply foldl_inv; intro _ _ _)
      | refine State.Inv.upd (by rfl) (by rfl) (by rfl) (by rfl) (by rfl) (by rfl) (by rfl) (by rfl) ?_)

@[simp] theorem State.mismatch_pending (s : State) (j : Nat) : (s.mismatch j).pending = s.pending := by
  unfold State.mismatch; try dsimp only
  iterate 25 all_goals try with_reducible (first
      | rfl | refine (State.satEvent_pending ..).trans ?_ | refine (State.raise_pending ..).trans ?_
      | apply ite_pending | split | refine (foldl_pending _ (fun _ _ => ?_) _ _).trans ?_ | dsimp only)

theorem State.mismatch_inv (s : State) (j : Nat) (h : s.Inv) : (s.mismatch j).Inv := by
  unfold State.mismatch; try dsimp only
  iterate 25 all_goals try with_reducible (first
      | assumption | apply State.satEvent_inv | apply State.raise_inv | apply ite_inv | split
      | (apply foldl_inv; intro _ _ _)
      | refine State.Inv.upd (by rfl) (by rfl) (by rfl) (by rfl) (by rfl) (by rfl) (by rfl) (by rfl) ?_)

@[simp] theorem State.resetTherm_pending (s : State) (ci : Nat) : (s.resetTherm ci).pending = s.pending := by
  unfold State.resetTherm; try dsimp only
  iterate 25 all_goals try with_reducible (first
      | rfl | refine (State.setThSw_pending ..).trans ?_ | refine (State.setSch_pending ..).trans ?_
      | apply ite_pending | split | refine (foldl_pending _ (fun _ _ => ?_) _ _).trans ?_ | dsimp only)

theorem State.resetTherm_inv (s : State) (ci : Nat) (h : s.Inv) : (s.resetTherm ci).Inv := by
  unfold State.resetTherm; try dsimp only
  iterate 25 all_goals try with_reducible (first
      | assumption | apply State.setThSw_inv | apply State.setSch_inv | apply ite_inv | split
      | (apply foldl_inv; intro _ _ _)
      | refine State.Inv.upd (by rfl) (by rfl) (by rfl) (by rfl) (by rfl) (by rfl) (by rfl) (by rfl) ?_)

end Sys2Proof.Machine
end

