-- ==== Sys2Proof/Laws/KeepRecovery.lean ====
section
/-! SUPPORT. The shared operations of `Machine/Recovery.lean` leave the queue of commands as it is and keep the invariant. -/

namespace Sys2Proof.Machine

@[simp] theorem State.setRec_pending (s : State) (src : Nat) (r : RecSrc)
    : (s.setRec src r).pending = s.pending := by
  unfold State.setRec; try dsimp only
  iterate 25 all_goals try with_reducible (first
      | rfl | apply ite_pending | split | refine (foldl_pending _ (fun _ _ => ?_) _ _).trans ?_ | dsimp only)

theorem State.setRec_inv (s : State) (src : Nat) (r : RecSrc) (h : s.Inv) : (s.setRec src r).Inv := by
  unfold State.setRec; try dsimp only
  iterate 25 all_goals try with_reducible (first
      | assumption | apply ite_inv | split | (apply foldl_inv; intro _ _ _)
      | refine State.Inv.upd (by rfl) (by rfl) (by rfl) (by rfl) (by rfl) (by rfl) (by rfl) (by rfl) ?_)

@[simp] theorem State.endEvent_pending (s : State) (e : ActEv) (kind : Nat)
    : (s.endEvent e kind).pending = s.pending := by
  unfold State.endEvent; try dsimp only
  iterate 25 all_goals try with_reducible (first
      | rfl | refine (State.enqueue_pending ..).trans ?_ | apply ite_pending | split
      | refine (foldl_pending _ (fun _ _ => ?_) _ _).trans ?_ | dsimp only)

theorem State.endEvent_inv (s : State) (e : ActEv) (kind : Nat) (h : s.Inv) : (s.endEvent e kind).Inv := by
  unfold State.endEvent; try dsimp only
  iterate 25 all_goals try with_reducible (first
      | assumption | apply State.enqueue_inv | apply ite_inv | split | (apply foldl_inv; intro _ _ _)
      | refine State.Inv.upd (by rfl) (by rfl) (by rfl) (by rfl) (by rfl) (by rfl) (by rfl) (by rfl) ?_)

@[simp] theorem State.recoverCell_pending (s : State) (ci : Nat) : (s.recoverCell ci).pending = s.pending := by
  unfold State.recoverCell; try dsimp only
  iterate 25 all_goals try with_reducible (first
      | rfl | refine (State.setCell_pending ..).trans ?_ | refine (State.setMg_pending ..).trans ?_
      | refine (State.setSch_pending ..).trans ?_ | apply ite_pending | split
      | refine (foldl_pending _ (fun _ _ => ?_) _ _).trans ?_ | dsimp only)

theorem State.recoverCell_inv (s : State) (ci : Nat) (h : s.Inv) : (s.recoverCell ci).Inv := by
  unfold State.recoverCell; try dsimp only
  iterate 25 all_goals try with_reducible (first
      | assumption | apply State.setCell_inv | apply State.setMg_inv | apply State.setSch_inv | apply ite_inv
      | split | (apply foldl_inv; intro _ _ _)
      | refine State.Inv.upd (by rfl) (by rfl) (by rfl) (by rfl) (by rfl) (by rfl) (by rfl) (by rfl) ?_)

theorem State.faultReset_pending (s : State) (scope index inst : Nat) :
    (s.faultReset scope index inst).1.pending = s.pending := by
  unfold State.faultReset
  dsimp only
  rw [State.enqueue_pending]
  refine (foldl_pending _ (fun u e => State.recoverCell_pending ..) _ _).trans ?_
  refine (foldl_pending _ (fun u e => State.endEvent_pending ..) _ _).trans ?_
  exact foldl_pending _ (fun u e => State.setRec_pending ..) _ _

theorem State.faultReset_inv (s : State) (scope index inst : Nat) (h : s.Inv)
    : (s.faultReset scope index inst).1.Inv := by
  unfold State.faultReset
  dsimp only
  apply State.enqueue_inv
  refine foldl_inv _ (fun u e hu => State.recoverCell_inv _ _ hu) _ _ ?_
  refine foldl_inv _ (fun u e hu => State.endEvent_inv _ _ _ hu) _ _ ?_
  exact foldl_inv _ (fun u e hu => State.setRec_inv _ _ _ hu) _ _ h

@[simp] theorem State.copyEvents_pending (s : State) : s.copyEvents.pending = s.pending := by
  unfold State.copyEvents; try dsimp only
  iterate 25 all_goals try with_reducible (first
      | rfl | apply ite_pending | split | refine (foldl_pending _ (fun _ _ => ?_) _ _).trans ?_ | dsimp only)

theorem State.copyEvents_inv (s : State) (h : s.Inv) : s.copyEvents.Inv := ⟨h.grant, h.live, h.out, h.queue,
    keepLast_length 65536 _, h.stamps, h.mem⟩

end Sys2Proof.Machine
end

