-- ==== Sys2Proof/Laws/KeepLoops.lean ====
section
/-! SUPPORT. The shared operations of `Machine/Loops.lean` leave the queue of commands as it is and keep the invariant. -/

namespace Sys2Proof.Machine

@[simp] theorem State.setSlot_pending (s : State) (n : Nat) (l : LoopSt)
    : (s.setSlot n l).pending = s.pending := by
  unfold State.setSlot; try dsimp only
  iterate 25 all_goals try with_reducible (first
      | rfl | apply ite_pending | split | refine (foldl_pending _ (fun _ _ => ?_) _ _).trans ?_ | dsimp only)

theorem State.setSlot_inv (s : State) (n : Nat) (l : LoopSt) (h : s.Inv) : (s.setSlot n l).Inv := by
  unfold State.setSlot; try dsimp only
  iterate 25 all_goals try with_reducible (first
      | assumption | apply ite_inv | split | (apply foldl_inv; intro _ _ _)
      | refine State.Inv.upd (by rfl) (by rfl) (by rfl) (by rfl) (by rfl) (by rfl) (by rfl) (by rfl) ?_)

@[simp] theorem State.cutQuants_pending (s : State) : s.cutQuants.pending = s.pending := by
  unfold State.cutQuants; try dsimp only
  iterate 25 all_goals try with_reducible (first
      | rfl | apply ite_pending | split | refine (foldl_pending _ (fun _ _ => ?_) _ _).trans ?_ | dsimp only)

theorem State.cutQuants_inv (s : State) (h : s.Inv) : s.cutQuants.Inv := by
  unfold State.cutQuants; try dsimp only
  iterate 25 all_goals try with_reducible (first
      | assumption | apply ite_inv | split | (apply foldl_inv; intro _ _ _)
      | refine State.Inv.upd (by rfl) (by rfl) (by rfl) (by rfl) (by rfl) (by rfl) (by rfl) (by rfl) ?_)

@[simp] theorem State.slotEvents_pending (s : State) (n : Nat) (x : LoopIn) (old l : LoopSt) (t : Nat)
    : (s.slotEvents n x old l t).pending = s.pending := by
  unfold State.slotEvents; try dsimp only
  iterate 25 all_goals try with_reducible (first
      | rfl | refine (State.clear_pending ..).trans ?_ | refine (State.raise_pending ..).trans ?_
      | apply ite_pending | split | refine (foldl_pending _ (fun _ _ => ?_) _ _).trans ?_ | dsimp only)

theorem State.slotEvents_inv (s : State) (n : Nat) (x : LoopIn) (old l : LoopSt) (t : Nat) (h : s.Inv)
    : (s.slotEvents n x old l t).Inv := by
  unfold State.slotEvents; try dsimp only
  iterate 25 all_goals try with_reducible (first
      | assumption | apply State.clear_inv | apply State.raise_inv | apply ite_inv | split
      | (apply foldl_inv; intro _ _ _)
      | refine State.Inv.upd (by rfl) (by rfl) (by rfl) (by rfl) (by rfl) (by rfl) (by rfl) (by rfl) ?_)

@[simp] theorem State.slotTake_pending (s : State) (n : Nat) (l : LoopSt) (o : Offer) (yg : Option Word) (sel
    : Bool) (t : Nat) : (s.slotTake n l o yg sel t).pending = s.pending := by
  unfold State.slotTake; try dsimp only
  iterate 25 all_goals try with_reducible (first
      | rfl | refine (State.setSlot_pending ..).trans ?_ | refine (State.slotEvents_pending ..).trans ?_
      | refine (State.clear_pending ..).trans ?_ | refine (State.raise_pending ..).trans ?_ | apply ite_pending
      | split | refine (foldl_pending _ (fun _ _ => ?_) _ _).trans ?_ | dsimp only)

theorem State.slotTake_inv (s : State) (n : Nat) (l : LoopSt) (o : Offer) (yg : Option Word) (sel : Bool) (t
    : Nat) (h : s.Inv) : (s.slotTake n l o yg sel t).Inv := by
  unfold State.slotTake; try dsimp only
  iterate 25 all_goals try with_reducible (first
      | assumption | apply State.setSlot_inv | apply State.slotEvents_inv | apply State.clear_inv
      | apply State.raise_inv | apply ite_inv | split | (apply foldl_inv; intro _ _ _)
      | refine State.Inv.upd (by rfl) (by rfl) (by rfl) (by rfl) (by rfl) (by rfl) (by rfl) (by rfl) ?_)

@[simp] theorem State.runBank_pending (s : State) (b : Nat) : (s.runBank b).pending = s.pending := by
  unfold State.runBank; try dsimp only
  iterate 25 all_goals try with_reducible (first
      | rfl | refine (State.slotTake_pending ..).trans ?_ | apply ite_pending | split
      | refine (foldl_pending _ (fun _ _ => ?_) _ _).trans ?_ | dsimp only)

theorem State.runBank_inv (s : State) (b : Nat) (h : s.Inv) : (s.runBank b).Inv := by
  unfold State.runBank; try dsimp only
  iterate 25 all_goals try with_reducible (first
      | assumption | apply State.slotTake_inv | apply ite_inv | split | (apply foldl_inv; intro _ _ _)
      | refine State.Inv.upd (by rfl) (by rfl) (by rfl) (by rfl) (by rfl) (by rfl) (by rfl) (by rfl) ?_)

@[simp] theorem State.stageOutputs_pending (s : State) (k : Nat) : (s.stageOutputs k).pending = s.pending := by
  unfold State.stageOutputs; try dsimp only
  iterate 25 all_goals try with_reducible (first
      | rfl | refine (State.setPost_pending ..).trans ?_ | refine (State.clear_pending ..).trans ?_
      | refine (State.raise_pending ..).trans ?_ | apply ite_pending | split
      | refine (foldl_pending _ (fun _ _ => ?_) _ _).trans ?_ | dsimp only)

theorem State.stageOutputs_inv (s : State) (k : Nat) (h : s.Inv) : (s.stageOutputs k).Inv := by
  unfold State.stageOutputs; try dsimp only
  iterate 25 all_goals try with_reducible (first
      | assumption | apply State.setPost_inv | apply State.clear_inv | apply State.raise_inv | apply ite_inv
      | split | (apply foldl_inv; intro _ _ _)
      | refine State.Inv.upd (by rfl) (by rfl) (by rfl) (by rfl) (by rfl) (by rfl) (by rfl) (by rfl) ?_)

@[simp] theorem State.openSlot_pending (s : State) (n : Nat) (v : Option Word)
    : (s.openSlot n v).pending = s.pending := by
  unfold State.openSlot; try dsimp only
  iterate 25 all_goals try with_reducible (first
      | rfl | refine (State.setSlot_pending ..).trans ?_ | apply ite_pending | split
      | refine (foldl_pending _ (fun _ _ => ?_) _ _).trans ?_ | dsimp only)

theorem State.openSlot_inv (s : State) (n : Nat) (v : Option Word) (h : s.Inv) : (s.openSlot n v).Inv := by
  unfold State.openSlot; try dsimp only
  iterate 25 all_goals try with_reducible (first
      | assumption | apply State.setSlot_inv | apply ite_inv | split | (apply foldl_inv; intro _ _ _)
      | refine State.Inv.upd (by rfl) (by rfl) (by rfl) (by rfl) (by rfl) (by rfl) (by rfl) (by rfl) ?_)

@[simp] theorem State.closeSlot_pending (s : State) (n : Nat) : (s.closeSlot n).pending = s.pending := by
  unfold State.closeSlot; try dsimp only
  iterate 25 all_goals try with_reducible (first
      | rfl | refine (State.setSlot_pending ..).trans ?_ | apply ite_pending | split
      | refine (foldl_pending _ (fun _ _ => ?_) _ _).trans ?_ | dsimp only)

theorem State.closeSlot_inv (s : State) (n : Nat) (h : s.Inv) : (s.closeSlot n).Inv := by
  unfold State.closeSlot; try dsimp only
  iterate 25 all_goals try with_reducible (first
      | assumption | apply State.setSlot_inv | apply ite_inv | split | (apply foldl_inv; intro _ _ _)
      | refine State.Inv.upd (by rfl) (by rfl) (by rfl) (by rfl) (by rfl) (by rfl) (by rfl) (by rfl) ?_)

@[simp] theorem State.setCoeffs_pending (n : Nat) : ∀ (l : List Word) (s : State) (i : Nat),
    (s.setCoeffs n i l).pending = s.pending
  | [], _, _ => rfl
  | v :: vs, s, i => by unfold State.setCoeffs; rw [State.setCoeffs_pending n vs]; rfl

theorem State.setCoeffs_inv (n : Nat) : ∀ (l : List Word) (s : State) (i : Nat), s.Inv → (s.setCoeffs n i l).Inv
  | [], _, _, h => h
  | v :: vs, s, i, h => by unfold State.setCoeffs; exact State.setCoeffs_inv n vs _ _ (State.setWord_inv _ _ _ h)

end Sys2Proof.Machine
end

