-- ==== Sys2Proof/Laws/KeepSupervise.lean ====
section
/-! SUPPORT. The shared operations of `Machine/Supervise.lean` leave the queue of commands as it is and keep the invariant. -/

namespace Sys2Proof.Machine

@[simp] theorem State.postCode_pending (s : State) (ci sw : Nat) (on : Bool) (code : Nat)
    : (s.postCode ci sw on code).pending = s.pending := by
  unfold State.postCode; try dsimp only
  iterate 25 all_goals try with_reducible (first
      | rfl | refine (State.setSupSw_pending ..).trans ?_ | apply ite_pending | split
      | refine (foldl_pending _ (fun _ _ => ?_) _ _).trans ?_ | dsimp only)

theorem State.postCode_inv (s : State) (ci sw : Nat) (on : Bool) (code : Nat) (h : s.Inv)
    : (s.postCode ci sw on code).Inv := by
  unfold State.postCode; try dsimp only
  iterate 25 all_goals try with_reducible (first
      | assumption | apply State.setSupSw_inv | apply ite_inv | split | (apply foldl_inv; intro _ _ _)
      | refine State.Inv.upd (by rfl) (by rfl) (by rfl) (by rfl) (by rfl) (by rfl) (by rfl) (by rfl) ?_)

@[simp] theorem State.storeWear_pending (s : State) (ci : Nat) : (s.storeWear ci).pending = s.pending := by
  unfold State.storeWear; try dsimp only
  iterate 25 all_goals try with_reducible (first
      | rfl | refine (State.setSupSw_pending ..).trans ?_ | apply ite_pending | split
      | refine (foldl_pending _ (fun _ _ => ?_) _ _).trans ?_ | dsimp only)

theorem State.storeWear_inv (s : State) (ci : Nat) (h : s.Inv) : (s.storeWear ci).Inv := by
  unfold State.storeWear; try dsimp only
  iterate 25 all_goals try with_reducible (first
      | assumption | apply State.setSupSw_inv | apply ite_inv | split | (apply foldl_inv; intro _ _ _)
      | refine State.Inv.upd (by rfl) (by rfl) (by rfl) (by rfl) (by rfl) (by rfl) (by rfl) (by rfl) ?_)

@[simp] theorem State.wearAdmit_pending (s : State) (ci : Nat) (ident : Word) (sw : Nat)
    : (s.wearAdmit ci ident sw).pending = s.pending := by
  unfold State.wearAdmit; try dsimp only
  iterate 25 all_goals try with_reducible (first
      | rfl | refine (State.setSupSw_pending ..).trans ?_ | refine (State.postCode_pending ..).trans ?_
      | apply ite_pending | split | refine (foldl_pending _ (fun _ _ => ?_) _ _).trans ?_ | dsimp only)

theorem State.wearAdmit_inv (s : State) (ci : Nat) (ident : Word) (sw : Nat) (h : s.Inv)
    : (s.wearAdmit ci ident sw).Inv := by
  unfold State.wearAdmit; try dsimp only
  iterate 25 all_goals try with_reducible (first
      | assumption | apply State.setSupSw_inv | apply State.postCode_inv | apply ite_inv | split
      | (apply foldl_inv; intro _ _ _)
      | refine State.Inv.upd (by rfl) (by rfl) (by rfl) (by rfl) (by rfl) (by rfl) (by rfl) (by rfl) ?_)

@[simp] theorem State.supAdmit_pending (s : State) (ci : Nat) : (s.supAdmit ci).pending = s.pending := by
  unfold State.supAdmit; try dsimp only
  iterate 25 all_goals try with_reducible (first
      | rfl | refine (State.wearAdmit_pending ..).trans ?_ | refine (State.setSupCell_pending ..).trans ?_
      | refine (State.clear_pending ..).trans ?_ | apply ite_pending | split
      | refine (foldl_pending _ (fun _ _ => ?_) _ _).trans ?_ | dsimp only)

theorem State.supAdmit_inv (s : State) (ci : Nat) (h : s.Inv) : (s.supAdmit ci).Inv := by
  unfold State.supAdmit; try dsimp only
  iterate 25 all_goals try with_reducible (first
      | assumption | apply State.wearAdmit_inv | apply State.setSupCell_inv | apply State.clear_inv
      | apply ite_inv | split | (apply foldl_inv; intro _ _ _)
      | refine State.Inv.upd (by rfl) (by rfl) (by rfl) (by rfl) (by rfl) (by rfl) (by rfl) (by rfl) ?_)

@[simp] theorem State.wearEnable_pending (s : State) (ci : Nat) : (s.wearEnable ci).pending = s.pending := by
  unfold State.wearEnable; try dsimp only
  iterate 25 all_goals try with_reducible (first
      | rfl | refine (State.setSupSw_pending ..).trans ?_ | refine (State.clear_pending ..).trans ?_
      | apply ite_pending | split | refine (foldl_pending _ (fun _ _ => ?_) _ _).trans ?_ | dsimp only)

theorem State.wearEnable_inv (s : State) (ci : Nat) (h : s.Inv) : (s.wearEnable ci).Inv := by
  unfold State.wearEnable; try dsimp only
  iterate 25 all_goals try with_reducible (first
      | assumption | apply State.setSupSw_inv | apply State.clear_inv | apply ite_inv | split
      | (apply foldl_inv; intro _ _ _)
      | refine State.Inv.upd (by rfl) (by rfl) (by rfl) (by rfl) (by rfl) (by rfl) (by rfl) (by rfl) ?_)

@[simp] theorem State.supCommit_pending (s : State) (k : Nat) : (s.supCommit k).pending = s.pending := by
  unfold State.supCommit; try dsimp only
  iterate 25 all_goals try with_reducible (first
      | rfl | refine (State.setSupSw_pending ..).trans ?_ | refine (State.postCode_pending ..).trans ?_
      | apply ite_pending | split | refine (foldl_pending _ (fun _ _ => ?_) _ _).trans ?_ | dsimp only)

theorem State.supCommit_inv (s : State) (k : Nat) (h : s.Inv) : (s.supCommit k).Inv := by
  unfold State.supCommit; try dsimp only
  iterate 25 all_goals try with_reducible (first
      | assumption | apply State.setSupSw_inv | apply State.postCode_inv | apply ite_inv | split
      | (apply foldl_inv; intro _ _ _)
      | refine State.Inv.upd (by rfl) (by rfl) (by rfl) (by rfl) (by rfl) (by rfl) (by rfl) (by rfl) ?_)

@[simp] theorem State.supJudge_pending (s : State) (ci : Nat) (t : Nat)
    : (s.supJudge ci t).pending = s.pending := by
  unfold State.supJudge; try dsimp only
  iterate 25 all_goals try with_reducible (first
      | rfl | refine (State.raise_pending ..).trans ?_ | refine (State.clear_pending ..).trans ?_
      | apply ite_pending | split | refine (foldl_pending _ (fun _ _ => ?_) _ _).trans ?_ | dsimp only)

theorem State.supJudge_inv (s : State) (ci : Nat) (t : Nat) (h : s.Inv) : (s.supJudge ci t).Inv := by
  unfold State.supJudge; try dsimp only
  iterate 25 all_goals try with_reducible (first
      | assumption | apply State.raise_inv | apply State.clear_inv | apply ite_inv | split
      | (apply foldl_inv; intro _ _ _)
      | refine State.Inv.upd (by rfl) (by rfl) (by rfl) (by rfl) (by rfl) (by rfl) (by rfl) (by rfl) ?_)

@[simp] theorem State.adapt_pending (s : State) (ci sw : Nat) (on : Bool) (gate t : Nat)
    : (s.adapt ci sw on gate t).pending = s.pending := by
  unfold State.adapt; try dsimp only
  iterate 25 all_goals try with_reducible (first
      | rfl | refine (State.setSupSw_pending ..).trans ?_ | refine (State.postCode_pending ..).trans ?_
      | apply ite_pending | split | refine (foldl_pending _ (fun _ _ => ?_) _ _).trans ?_ | dsimp only)

theorem State.adapt_inv (s : State) (ci sw : Nat) (on : Bool) (gate t : Nat) (h : s.Inv)
    : (s.adapt ci sw on gate t).Inv := by
  unfold State.adapt; try dsimp only
  iterate 25 all_goals try with_reducible (first
      | assumption | apply State.setSupSw_inv | apply State.postCode_inv | apply ite_inv | split
      | (apply foldl_inv; intro _ _ _)
      | refine State.Inv.upd (by rfl) (by rfl) (by rfl) (by rfl) (by rfl) (by rfl) (by rfl) (by rfl) ?_)

@[simp] theorem State.wearSat_pending (s : State) (now : Bool) (ci sw t : Nat)
    : (s.wearSat now ci sw t).pending = s.pending := by
  unfold State.wearSat; try dsimp only
  iterate 25 all_goals try with_reducible (first
      | rfl | refine (State.raise_pending ..).trans ?_ | apply ite_pending | split
      | refine (foldl_pending _ (fun _ _ => ?_) _ _).trans ?_ | dsimp only)

theorem State.wearSat_inv (s : State) (now : Bool) (ci sw t : Nat) (h : s.Inv)
    : (s.wearSat now ci sw t).Inv := by
  unfold State.wearSat; try dsimp only
  iterate 25 all_goals try with_reducible (first
      | assumption | apply State.raise_inv | apply ite_inv | split | (apply foldl_inv; intro _ _ _)
      | refine State.Inv.upd (by rfl) (by rfl) (by rfl) (by rfl) (by rfl) (by rfl) (by rfl) (by rfl) ?_)

@[simp] theorem State.confirmEdges_pending (s : State) (ci : Nat) (recs : List Word) (t : Nat)
    : (s.confirmEdges ci recs t).pending = s.pending := by
  unfold State.confirmEdges; try dsimp only
  iterate 25 all_goals try with_reducible (first
      | rfl | refine (State.setSupSw_pending ..).trans ?_ | refine (State.wearSat_pending ..).trans ?_
      | apply ite_pending | split | refine (foldl_pending _ (fun _ _ => ?_) _ _).trans ?_ | dsimp only)

theorem State.confirmEdges_inv (s : State) (ci : Nat) (recs : List Word) (t : Nat) (h : s.Inv)
    : (s.confirmEdges ci recs t).Inv := by
  unfold State.confirmEdges; try dsimp only
  iterate 25 all_goals try with_reducible (first
      | assumption | apply State.setSupSw_inv | apply State.wearSat_inv | apply ite_inv | split
      | (apply foldl_inv; intro _ _ _)
      | refine State.Inv.upd (by rfl) (by rfl) (by rfl) (by rfl) (by rfl) (by rfl) (by rfl) (by rfl) ?_)

@[simp] theorem State.tagError_pending (s : State) (ci c t : Nat)
    : (s.tagError ci c t).pending = s.pending := by
  unfold State.tagError; try dsimp only
  iterate 25 all_goals try with_reducible (first
      | rfl | refine (State.satEvent_pending ..).trans ?_ | refine (State.setSupCell_pending ..).trans ?_
      | refine (State.raise_pending ..).trans ?_ | apply ite_pending | split
      | refine (foldl_pending _ (fun _ _ => ?_) _ _).trans ?_ | dsimp only)

theorem State.tagError_inv (s : State) (ci c t : Nat) (h : s.Inv) : (s.tagError ci c t).Inv := by
  unfold State.tagError; try dsimp only
  iterate 25 all_goals try with_reducible (first
      | assumption | apply State.satEvent_inv | apply State.setSupCell_inv | apply State.raise_inv
      | apply ite_inv | split | (apply foldl_inv; intro _ _ _)
      | refine State.Inv.upd (by rfl) (by rfl) (by rfl) (by rfl) (by rfl) (by rfl) (by rfl) (by rfl) ?_)

@[simp] theorem State.supervise_pending (s : State) (t ci : Nat) : (s.supervise t ci).pending = s.pending := by
  unfold State.supervise; try dsimp only
  iterate 25 all_goals try with_reducible (first
      | rfl | refine (State.setSupCell_pending ..).trans ?_ | refine (State.confirmEdges_pending ..).trans ?_
      | refine (State.tagError_pending ..).trans ?_ | refine (State.adapt_pending ..).trans ?_
      | refine (State.supJudge_pending ..).trans ?_ | apply ite_pending | split
      | refine (foldl_pending _ (fun _ _ => ?_) _ _).trans ?_ | dsimp only)

theorem State.supervise_inv (s : State) (t ci : Nat) (h : s.Inv) : (s.supervise t ci).Inv := by
  unfold State.supervise; try dsimp only
  iterate 25 all_goals try with_reducible (first
      | assumption | apply State.setSupCell_inv | apply State.confirmEdges_inv | apply State.tagError_inv
      | apply State.adapt_inv | apply State.supJudge_inv | apply ite_inv | split
      | (apply foldl_inv; intro _ _ _)
      | refine State.Inv.upd (by rfl) (by rfl) (by rfl) (by rfl) (by rfl) (by rfl) (by rfl) (by rfl) ?_)

@[simp] theorem State.shortCapture_pending (s : State) (ci c : Nat) (sc : List Byte) (exact_ : Bool)
    : (s.shortCapture ci c sc exact_).pending = s.pending := by
  unfold State.shortCapture; try dsimp only
  iterate 25 all_goals try with_reducible (first
      | rfl | apply ite_pending | split | refine (foldl_pending _ (fun _ _ => ?_) _ _).trans ?_ | dsimp only)

theorem State.shortCapture_inv (s : State) (ci c : Nat) (sc : List Byte) (exact_ : Bool) (h : s.Inv)
    : (s.shortCapture ci c sc exact_).Inv := by
  unfold State.shortCapture; try dsimp only
  iterate 25 all_goals try with_reducible (first
      | assumption | apply ite_inv | split | (apply foldl_inv; intro _ _ _)
      | refine State.Inv.upd (by rfl) (by rfl) (by rfl) (by rfl) (by rfl) (by rfl) (by rfl) (by rfl) ?_)

@[simp] theorem State.shortCounts_pending (s : State) (ci flags t : Nat)
    : (s.shortCounts ci flags t).pending = s.pending := by
  unfold State.shortCounts; try dsimp only
  iterate 25 all_goals try with_reducible (first
      | rfl | refine (State.setSupSw_pending ..).trans ?_ | refine (State.wearSat_pending ..).trans ?_
      | apply ite_pending | split | refine (foldl_pending _ (fun _ _ => ?_) _ _).trans ?_ | dsimp only)

theorem State.shortCounts_inv (s : State) (ci flags t : Nat) (h : s.Inv) : (s.shortCounts ci flags t).Inv := by
  unfold State.shortCounts; try dsimp only
  iterate 25 all_goals try with_reducible (first
      | assumption | apply State.setSupSw_inv | apply State.wearSat_inv | apply ite_inv | split
      | (apply foldl_inv; intro _ _ _)
      | refine State.Inv.upd (by rfl) (by rfl) (by rfl) (by rfl) (by rfl) (by rfl) (by rfl) (by rfl) ?_)

@[simp] theorem State.shortMulti_pending (s : State) (ci c t : Nat)
    : (s.shortMulti ci c t).pending = s.pending := by
  unfold State.shortMulti; try dsimp only
  iterate 25 all_goals try with_reducible (first
      | rfl | refine (State.raise_pending ..).trans ?_ | apply ite_pending | split
      | refine (foldl_pending _ (fun _ _ => ?_) _ _).trans ?_ | dsimp only)

theorem State.shortMulti_inv (s : State) (ci c t : Nat) (h : s.Inv) : (s.shortMulti ci c t).Inv := by
  unfold State.shortMulti; try dsimp only
  iterate 25 all_goals try with_reducible (first
      | assumption | apply State.raise_inv | apply ite_inv | split | (apply foldl_inv; intro _ _ _)
      | refine State.Inv.upd (by rfl) (by rfl) (by rfl) (by rfl) (by rfl) (by rfl) (by rfl) (by rfl) ?_)

@[simp] theorem State.shortCheck_pending (s : State) (ci samp prev : Nat) (sc : List Byte) (t : Nat)
    : (s.shortCheck ci samp prev sc t).pending = s.pending := by
  unfold State.shortCheck; try dsimp only
  iterate 25 all_goals try with_reducible (first
      | rfl | refine (State.setSupCell_pending ..).trans ?_ | refine (State.enqueue_pending ..).trans ?_
      | refine (State.satEvent_pending ..).trans ?_ | refine (State.shortCounts_pending ..).trans ?_
      | refine (State.shortCapture_pending ..).trans ?_ | refine (State.raiseB_pending ..).trans ?_
      | refine (State.shortMulti_pending ..).trans ?_ | apply ite_pending | split
      | refine (foldl_pending _ (fun _ _ => ?_) _ _).trans ?_ | dsimp only)

theorem State.shortCheck_inv (s : State) (ci samp prev : Nat) (sc : List Byte) (t : Nat) (h : s.Inv)
    : (s.shortCheck ci samp prev sc t).Inv := by
  unfold State.shortCheck; try dsimp only
  iterate 25 all_goals try with_reducible (first
      | assumption | apply State.setSupCell_inv | apply State.enqueue_inv | apply State.satEvent_inv
      | apply State.shortCounts_inv | apply State.shortCapture_inv | apply State.raiseB_inv
      | apply State.shortMulti_inv | apply ite_inv | split | (apply foldl_inv; intro _ _ _)
      | refine State.Inv.upd (by rfl) (by rfl) (by rfl) (by rfl) (by rfl) (by rfl) (by rfl) (by rfl) ?_)

end Sys2Proof.Machine
end

