-- ==== Sys2Proof/Laws/KeepModes.lean ====
section
/-! SUPPORT. The shared operations of `Machine/Modes.lean` leave the queue of commands as it is and keep the invariant. -/

namespace Sys2Proof.Machine

@[simp] theorem State.clearPhases_pending (s : State) : s.clearPhases.pending = s.pending := by
  unfold State.clearPhases; try dsimp only
  iterate 25 all_goals try with_reducible (first
      | rfl | apply ite_pending | split | refine (foldl_pending _ (fun _ _ => ?_) _ _).trans ?_ | dsimp only)

theorem State.clearPhases_inv (s : State) (h : s.Inv) : s.clearPhases.Inv := by
  unfold State.clearPhases; try dsimp only
  iterate 25 all_goals try with_reducible (first
      | assumption | apply ite_inv | split | (apply foldl_inv; intro _ _ _)
      | refine State.Inv.upd (by rfl) (by rfl) (by rfl) (by rfl) (by rfl) (by rfl) (by rfl) (by rfl) ?_)

@[simp] theorem State.setMode_pending (s : State) (dst : ModState) (reason : Nat) :
    (s.setMode dst reason).pending = s.pending := by
  unfold State.setMode; try dsimp only
  iterate 25 all_goals try with_reducible (first | rfl | refine (State.opEnd_pending ..).trans ?_ | refine (State.clearPhases_pending ..).trans ?_ | refine (State.raise_pending ..).trans ?_ | apply ite_pending | split | refine (foldl_pending _ (fun _ _ => ?_) _ _).trans ?_ | dsimp only)

theorem State.setMode_inv (s : State) (dst : ModState) (reason : Nat) (h : s.Inv) :
    (s.setMode dst reason).Inv := by
  unfold State.setMode; try dsimp only
  iterate 25 all_goals try with_reducible (first | assumption | apply State.opEnd_inv | apply State.clearPhases_inv | apply State.raise_inv | apply ite_inv | split | (apply foldl_inv; intro _ _ _) | refine State.Inv.upd (by rfl) (by rfl) (by rfl) (by rfl) (by rfl) (by rfl) (by rfl) (by rfl) ?_)

@[simp] theorem State.retireAll_pending (s : State) : s.retireAll.pending = s.pending := by
  unfold State.retireAll; try dsimp only
  iterate 25 all_goals try with_reducible (first
      | rfl | refine (State.backToFound_pending ..).trans ?_ | apply ite_pending | split
      | refine (foldl_pending _ (fun _ _ => ?_) _ _).trans ?_ | dsimp only)

theorem State.retireAll_inv (s : State) (h : s.Inv) : s.retireAll.Inv := by
  unfold State.retireAll; try dsimp only
  iterate 25 all_goals try with_reducible (first
      | assumption | apply State.backToFound_inv | apply ite_inv | split | (apply foldl_inv; intro _ _ _)
      | refine State.Inv.upd (by rfl) (by rfl) (by rfl) (by rfl) (by rfl) (by rfl) (by rfl) (by rfl) ?_)

end Sys2Proof.Machine
end

