-- ==== Sys2Proof/Laws/KeepStrokes.lean ====
section
/-! SUPPORT. The shared operations of `Machine/Strokes.lean` leave the queue of commands as it is and keep the invariant. -/

namespace Sys2Proof.Machine

@[simp] theorem State.launchPort_pending (s : State) (q : Nat) :
    (s.launchPort q).pending = s.pending := by
  unfold State.launchPort; try dsimp only
  iterate 25 all_goals try with_reducible (first | rfl | refine (State.emit_pending ..).trans ?_ | refine (State.setTx_pending ..).trans ?_ | refine (State.setStr_pending ..).trans ?_ | apply ite_pending | split | refine (foldl_pending _ (fun _ _ => ?_) _ _).trans ?_ | dsimp only)

theorem State.launchPort_inv (s : State) (q : Nat) (h : s.Inv) :
    (s.launchPort q).Inv := by
  unfold State.launchPort; try dsimp only
  iterate 25 all_goals try with_reducible (first | assumption | apply State.emit_inv | apply State.setTx_inv | apply State.setStr_inv | apply ite_inv | split | (apply foldl_inv; intro _ _ _) | refine State.Inv.upd (by rfl) (by rfl) (by rfl) (by rfl) (by rfl) (by rfl) (by rfl) (by rfl) ?_)

@[simp] theorem State.strErr_pending (s : State) (b n t : Nat) : (s.strErr b n t).pending = s.pending := by
  unfold State.strErr; try dsimp only
  iterate 25 all_goals try with_reducible (first
      | rfl | refine (State.setStr_pending ..).trans ?_ | refine (State.satEvent_pending ..).trans ?_
      | apply ite_pending | split | refine (foldl_pending _ (fun _ _ => ?_) _ _).trans ?_ | dsimp only)

theorem State.strErr_inv (s : State) (b n t : Nat) (h : s.Inv) : (s.strErr b n t).Inv := by
  unfold State.strErr; try dsimp only
  iterate 25 all_goals try with_reducible (first
      | assumption | apply State.setStr_inv | apply State.satEvent_inv | apply ite_inv | split
      | (apply foldl_inv; intro _ _ _)
      | refine State.Inv.upd (by rfl) (by rfl) (by rfl) (by rfl) (by rfl) (by rfl) (by rfl) (by rfl) ?_)

@[simp] theorem State.lineHeader_pending (s : State) (b n t : Nat)
    : (s.lineHeader b n t).pending = s.pending := by
  unfold State.lineHeader; try dsimp only
  iterate 25 all_goals try with_reducible (first
      | rfl | refine (State.setStr_pending ..).trans ?_ | refine (State.raise_pending ..).trans ?_
      | apply ite_pending | split | refine (foldl_pending _ (fun _ _ => ?_) _ _).trans ?_ | dsimp only)

theorem State.lineHeader_inv (s : State) (b n t : Nat) (h : s.Inv) : (s.lineHeader b n t).Inv := by
  unfold State.lineHeader; try dsimp only
  iterate 25 all_goals try with_reducible (first
      | assumption | apply State.setStr_inv | apply State.raise_inv | apply ite_inv | split
      | (apply foldl_inv; intro _ _ _)
      | refine State.Inv.upd (by rfl) (by rfl) (by rfl) (by rfl) (by rfl) (by rfl) (by rfl) (by rfl) ?_)

@[simp] theorem State.ringHeader_pending (s : State) (b side n : Nat) (returned : Bool) (t : Nat)
    : (s.ringHeader b side n returned t).pending = s.pending := by
  unfold State.ringHeader; try dsimp only
  iterate 25 all_goals try with_reducible (first
      | rfl | refine (State.setStr_pending ..).trans ?_ | refine (State.raise_pending ..).trans ?_
      | refine (State.clear_pending ..).trans ?_ | apply ite_pending | split
      | refine (foldl_pending _ (fun _ _ => ?_) _ _).trans ?_ | dsimp only)

theorem State.ringHeader_inv (s : State) (b side n : Nat) (returned : Bool) (t : Nat) (h : s.Inv)
    : (s.ringHeader b side n returned t).Inv := by
  unfold State.ringHeader; try dsimp only
  iterate 25 all_goals try with_reducible (first
      | assumption | apply State.setStr_inv | apply State.raise_inv | apply State.clear_inv | apply ite_inv
      | split | (apply foldl_inv; intro _ _ _)
      | refine State.Inv.upd (by rfl) (by rfl) (by rfl) (by rfl) (by rfl) (by rfl) (by rfl) (by rfl) ?_)

@[simp] theorem State.mirrorJudge_pending (s : State) (b t : Nat)
    : (s.mirrorJudge b t).pending = s.pending := by
  unfold State.mirrorJudge; try dsimp only
  iterate 25 all_goals try with_reducible (first
      | rfl | refine (State.raise_pending ..).trans ?_ | refine (State.clear_pending ..).trans ?_
      | apply ite_pending | split | refine (foldl_pending _ (fun _ _ => ?_) _ _).trans ?_ | dsimp only)

theorem State.mirrorJudge_inv (s : State) (b t : Nat) (h : s.Inv) : (s.mirrorJudge b t).Inv := by
  unfold State.mirrorJudge; try dsimp only
  iterate 25 all_goals try with_reducible (first
      | assumption | apply State.raise_inv | apply State.clear_inv | apply ite_inv | split
      | (apply foldl_inv; intro _ _ _)
      | refine State.Inv.upd (by rfl) (by rfl) (by rfl) (by rfl) (by rfl) (by rfl) (by rfl) (by rfl) ?_)

@[simp] theorem State.sendArr_pending (s : State) (ci side arr : Nat)
    : (s.sendArr ci side arr).pending = s.pending := by
  unfold State.sendArr; try dsimp only
  iterate 25 all_goals try with_reducible (first
      | rfl | refine (State.setEcho_pending ..).trans ?_ | refine (State.request_pending ..).trans ?_
      | apply ite_pending | split | refine (foldl_pending _ (fun _ _ => ?_) _ _).trans ?_ | dsimp only)

theorem State.sendArr_inv (s : State) (ci side arr : Nat) (h : s.Inv) : (s.sendArr ci side arr).Inv := by
  unfold State.sendArr; try dsimp only
  iterate 25 all_goals try with_reducible (first
      | assumption | apply State.setEcho_inv | apply State.request_inv | apply ite_inv | split
      | (apply foldl_inv; intro _ _ _)
      | refine State.Inv.upd (by rfl) (by rfl) (by rfl) (by rfl) (by rfl) (by rfl) (by rfl) (by rfl) ?_)

@[simp] theorem State.echoMean_pending (s : State) (ci side mean t : Nat)
    : (s.echoMean ci side mean t).pending = s.pending := by
  unfold State.echoMean; try dsimp only
  iterate 25 all_goals try with_reducible (first
      | rfl | refine (State.sendArr_pending ..).trans ?_ | refine (State.raise_pending ..).trans ?_
      | refine (State.clear_pending ..).trans ?_ | refine (State.setEcho_pending ..).trans ?_
      | apply ite_pending | split | refine (foldl_pending _ (fun _ _ => ?_) _ _).trans ?_ | dsimp only)

theorem State.echoMean_inv (s : State) (ci side mean t : Nat) (h : s.Inv)
    : (s.echoMean ci side mean t).Inv := by
  unfold State.echoMean; try dsimp only
  iterate 25 all_goals try with_reducible (first
      | assumption | apply State.sendArr_inv | apply State.raise_inv | apply State.clear_inv
      | apply State.setEcho_inv | apply ite_inv | split | (apply foldl_inv; intro _ _ _)
      | refine State.Inv.upd (by rfl) (by rfl) (by rfl) (by rfl) (by rfl) (by rfl) (by rfl) (by rfl) ?_)

@[simp] theorem State.echoTake_pending (s : State) (p pos rt t : Nat) :
    (s.echoTake p pos rt t).pending = s.pending := by
  unfold State.echoTake; try dsimp only
  iterate 25 all_goals try with_reducible (first | rfl | refine (State.setEcho_pending ..).trans ?_ | refine (State.echoMean_pending ..).trans ?_ | refine (State.mirrorJudge_pending ..).trans ?_ | apply ite_pending | split | refine (foldl_pending _ (fun _ _ => ?_) _ _).trans ?_ | dsimp only)

theorem State.echoTake_inv (s : State) (p pos rt t : Nat) (h : s.Inv) :
    (s.echoTake p pos rt t).Inv := by
  unfold State.echoTake; try dsimp only
  iterate 25 all_goals try with_reducible (first | assumption | apply State.setEcho_inv | apply State.echoMean_inv | apply State.mirrorJudge_inv | apply ite_inv | split | (apply foldl_inv; intro _ _ _) | refine State.Inv.upd (by rfl) (by rfl) (by rfl) (by rfl) (by rfl) (by rfl) (by rfl) (by rfl) ?_)

end Sys2Proof.Machine
end

