-- ==== Sys2Proof/Laws/KeepCells.lean ====
section
/-! SUPPORT. The shared operations of `Machine/Cells.lean` leave the queue of commands as it is and keep the invariant. -/

namespace Sys2Proof.Machine

@[simp] theorem State.identified_pending (s : State) (ci : Nat) (ident : Word) (typ t : Nat)
    : (s.identified ci ident typ t).pending = s.pending := by
  unfold State.identified; try dsimp only
  iterate 25 all_goals try with_reducible (first
      | rfl | refine (State.setCell_pending ..).trans ?_ | refine (State.clear_pending ..).trans ?_
      | refine (State.raise_pending ..).trans ?_ | apply ite_pending | split
      | refine (foldl_pending _ (fun _ _ => ?_) _ _).trans ?_ | dsimp only)

theorem State.identified_inv (s : State) (ci : Nat) (ident : Word) (typ t : Nat) (h : s.Inv)
    : (s.identified ci ident typ t).Inv := by
  unfold State.identified; try dsimp only
  iterate 25 all_goals try with_reducible (first
      | assumption | apply State.setCell_inv | apply State.clear_inv | apply State.raise_inv | apply ite_inv
      | split | (apply foldl_inv; intro _ _ _)
      | refine State.Inv.upd (by rfl) (by rfl) (by rfl) (by rfl) (by rfl) (by rfl) (by rfl) (by rfl) ?_)

@[simp] theorem State.enumDone_pending (s : State) (b ci : Nat) : (s.enumDone b ci).pending = s.pending := by
  unfold State.enumDone; try dsimp only
  iterate 25 all_goals try with_reducible (first
      | rfl | refine (State.setStr_pending ..).trans ?_ | refine (State.opUpd_pending ..).trans ?_
      | apply ite_pending | split | refine (foldl_pending _ (fun _ _ => ?_) _ _).trans ?_ | dsimp only)

theorem State.enumDone_inv (s : State) (b ci : Nat) (h : s.Inv) : (s.enumDone b ci).Inv := by
  unfold State.enumDone; try dsimp only
  iterate 25 all_goals try with_reducible (first
      | assumption | apply State.setStr_inv | apply State.opUpd_inv | apply ite_inv | split
      | (apply foldl_inv; intro _ _ _)
      | refine State.Inv.upd (by rfl) (by rfl) (by rfl) (by rfl) (by rfl) (by rfl) (by rfl) (by rfl) ?_)

@[simp] theorem State.enumFound_pending (s : State) (b ci : Nat) (ident : Word) (typ t : Nat)
    : (s.enumFound b ci ident typ t).pending = s.pending := by
  unfold State.enumFound; try dsimp only
  iterate 25 all_goals try with_reducible (first
      | rfl | refine (State.setCell_pending ..).trans ?_ | refine (State.clear_pending ..).trans ?_
      | refine (State.identified_pending ..).trans ?_ | refine (State.enumDone_pending ..).trans ?_
      | apply ite_pending | split | refine (foldl_pending _ (fun _ _ => ?_) _ _).trans ?_ | dsimp only)

theorem State.enumFound_inv (s : State) (b ci : Nat) (ident : Word) (typ t : Nat) (h : s.Inv)
    : (s.enumFound b ci ident typ t).Inv := by
  unfold State.enumFound; try dsimp only
  iterate 25 all_goals try with_reducible (first
      | assumption | apply State.setCell_inv | apply State.clear_inv | apply State.identified_inv
      | apply State.enumDone_inv | apply ite_inv | split | (apply foldl_inv; intro _ _ _)
      | refine State.Inv.upd (by rfl) (by rfl) (by rfl) (by rfl) (by rfl) (by rfl) (by rfl) (by rfl) ?_)

@[simp] theorem State.endEpoch_pending (s : State) (ci : Nat) : (s.endEpoch ci).pending = s.pending := by
  unfold State.endEpoch; try dsimp only
  iterate 25 all_goals try with_reducible (first
      | rfl | refine (State.sendRetire_pending ..).trans ?_ | apply ite_pending | split
      | refine (foldl_pending _ (fun _ _ => ?_) _ _).trans ?_ | dsimp only)

theorem State.endEpoch_inv (s : State) (ci : Nat) (h : s.Inv) : (s.endEpoch ci).Inv := by
  unfold State.endEpoch; try dsimp only
  iterate 25 all_goals try with_reducible (first
      | assumption | apply State.sendRetire_inv | apply ite_inv | split | (apply foldl_inv; intro _ _ _)
      | refine State.Inv.upd (by rfl) (by rfl) (by rfl) (by rfl) (by rfl) (by rfl) (by rfl) (by rfl) ?_)

@[simp] theorem State.takeReply_pending (s : State) (b ci : Nat) (slot : List Byte) (t : Nat)
    : (s.takeReply b ci slot t).pending = s.pending := by
  unfold State.takeReply; try dsimp only
  iterate 25 all_goals try with_reducible (first
      | rfl | refine (State.setMg_pending ..).trans ?_ | refine (State.setEcho_pending ..).trans ?_
      | refine (State.enumFound_pending ..).trans ?_ | refine (State.endEpoch_pending ..).trans ?_
      | apply ite_pending | split | refine (foldl_pending _ (fun _ _ => ?_) _ _).trans ?_ | dsimp only)

theorem State.takeReply_inv (s : State) (b ci : Nat) (slot : List Byte) (t : Nat) (h : s.Inv)
    : (s.takeReply b ci slot t).Inv := by
  unfold State.takeReply; try dsimp only
  iterate 25 all_goals try with_reducible (first
      | assumption | apply State.setMg_inv | apply State.setEcho_inv | apply State.enumFound_inv
      | apply State.endEpoch_inv | apply ite_inv | split | (apply foldl_inv; intro _ _ _)
      | refine State.Inv.upd (by rfl) (by rfl) (by rfl) (by rfl) (by rfl) (by rfl) (by rfl) (by rfl) ?_)

@[simp] theorem State.overvolt_pending (s : State) (ci : Nat) (slot : List Byte) (t : Nat)
    : (s.overvolt ci slot t).pending = s.pending := by
  unfold State.overvolt; try dsimp only
  iterate 25 all_goals try with_reducible (first
      | rfl | refine (State.raise_pending ..).trans ?_ | refine (State.condGone_pending ..).trans ?_
      | apply ite_pending | split | refine (foldl_pending _ (fun _ _ => ?_) _ _).trans ?_ | dsimp only)

theorem State.overvolt_inv (s : State) (ci : Nat) (slot : List Byte) (t : Nat) (h : s.Inv)
    : (s.overvolt ci slot t).Inv := by
  unfold State.overvolt; try dsimp only
  iterate 25 all_goals try with_reducible (first
      | assumption | apply State.raise_inv | apply State.condGone_inv | apply ite_inv | split
      | (apply foldl_inv; intro _ _ _)
      | refine State.Inv.upd (by rfl) (by rfl) (by rfl) (by rfl) (by rfl) (by rfl) (by rfl) (by rfl) ?_)

@[simp] theorem State.nibFaultJudge_pending (s : State) (ci : Nat) (slot : List Byte) (t : Nat)
    : (s.nibFaultJudge ci slot t).pending = s.pending := by
  unfold State.nibFaultJudge; try dsimp only
  iterate 25 all_goals try with_reducible (first
      | rfl | refine (State.condGone_pending ..).trans ?_ | refine (State.raise_pending ..).trans ?_
      | apply ite_pending | split | refine (foldl_pending _ (fun _ _ => ?_) _ _).trans ?_ | dsimp only)

theorem State.nibFaultJudge_inv (s : State) (ci : Nat) (slot : List Byte) (t : Nat) (h : s.Inv)
    : (s.nibFaultJudge ci slot t).Inv := by
  unfold State.nibFaultJudge; try dsimp only
  iterate 25 all_goals try with_reducible (first
      | assumption | apply State.condGone_inv | apply State.raise_inv | apply ite_inv | split
      | (apply foldl_inv; intro _ _ _)
      | refine State.Inv.upd (by rfl) (by rfl) (by rfl) (by rfl) (by rfl) (by rfl) (by rfl) (by rfl) ?_)

@[simp] theorem State.bypassSeen_pending (s : State) (ci : Nat) (closed : Bool) (t : Nat)
    : (s.bypassSeen ci closed t).pending = s.pending := by
  unfold State.bypassSeen; try dsimp only
  iterate 25 all_goals try with_reducible (first
      | rfl | refine (State.opEnd_pending ..).trans ?_ | refine (State.setMg_pending ..).trans ?_
      | refine (State.setCell_pending ..).trans ?_ | refine (State.raise_pending ..).trans ?_
      | apply ite_pending | split | refine (foldl_pending _ (fun _ _ => ?_) _ _).trans ?_ | dsimp only)

theorem State.bypassSeen_inv (s : State) (ci : Nat) (closed : Bool) (t : Nat) (h : s.Inv)
    : (s.bypassSeen ci closed t).Inv := by
  unfold State.bypassSeen; try dsimp only
  iterate 25 all_goals try with_reducible (first
      | assumption | apply State.opEnd_inv | apply State.setMg_inv | apply State.setCell_inv
      | apply State.raise_inv | apply ite_inv | split | (apply foldl_inv; intro _ _ _)
      | refine State.Inv.upd (by rfl) (by rfl) (by rfl) (by rfl) (by rfl) (by rfl) (by rfl) (by rfl) ?_)

@[simp] theorem State.slotChecks_pending (s : State) (b ci samp prev : Nat) (slot : List Byte) (t : Nat)
    : (s.slotChecks b ci samp prev slot t).pending = s.pending := by
  unfold State.slotChecks; try dsimp only
  iterate 25 all_goals try with_reducible (first
      | rfl | refine (State.bypassSeen_pending ..).trans ?_ | refine (State.setStr_pending ..).trans ?_
      | refine (State.raise_pending ..).trans ?_ | refine (State.shortCheck_pending ..).trans ?_
      | refine (State.nibFaultJudge_pending ..).trans ?_ | refine (State.overvolt_pending ..).trans ?_
      | apply ite_pending | split | refine (foldl_pending _ (fun _ _ => ?_) _ _).trans ?_ | dsimp only)

theorem State.slotChecks_inv (s : State) (b ci samp prev : Nat) (slot : List Byte) (t : Nat) (h : s.Inv)
    : (s.slotChecks b ci samp prev slot t).Inv := by
  unfold State.slotChecks; try dsimp only
  iterate 25 all_goals try with_reducible (first
      | assumption | apply State.bypassSeen_inv | apply State.setStr_inv | apply State.raise_inv
      | apply State.shortCheck_inv | apply State.nibFaultJudge_inv | apply State.overvolt_inv | apply ite_inv
      | split | (apply foldl_inv; intro _ _ _)
      | refine State.Inv.upd (by rfl) (by rfl) (by rfl) (by rfl) (by rfl) (by rfl) (by rfl) (by rfl) ?_)

@[simp] theorem State.slotEnter_pending (s : State) (b ci samp : Nat) (slot : List Byte) (t : Nat)
    : (s.slotEnter b ci samp slot t).pending = s.pending := by
  unfold State.slotEnter; try dsimp only
  iterate 25 all_goals try with_reducible (first
      | rfl | refine (State.setCell_pending ..).trans ?_ | refine (State.slotChecks_pending ..).trans ?_
      | refine (State.takeReply_pending ..).trans ?_ | apply ite_pending | split
      | refine (foldl_pending _ (fun _ _ => ?_) _ _).trans ?_ | dsimp only)

theorem State.slotEnter_inv (s : State) (b ci samp : Nat) (slot : List Byte) (t : Nat) (h : s.Inv)
    : (s.slotEnter b ci samp slot t).Inv := by
  unfold State.slotEnter; try dsimp only
  iterate 25 all_goals try with_reducible (first
      | assumption | apply State.setCell_inv | apply State.slotChecks_inv | apply State.takeReply_inv
      | apply ite_inv | split | (apply foldl_inv; intro _ _ _)
      | refine State.Inv.upd (by rfl) (by rfl) (by rfl) (by rfl) (by rfl) (by rfl) (by rfl) (by rfl) ?_)

@[simp] theorem State.cutCell_pending (s : State) (ci : Nat) : (s.cutCell ci).pending = s.pending := by
  unfold State.cutCell; try dsimp only
  iterate 25 all_goals try with_reducible (first
      | rfl | refine (State.setCell_pending ..).trans ?_ | refine (State.storeWear_pending ..).trans ?_
      | apply ite_pending | split | refine (foldl_pending _ (fun _ _ => ?_) _ _).trans ?_ | dsimp only)

theorem State.cutCell_inv (s : State) (ci : Nat) (h : s.Inv) : (s.cutCell ci).Inv := by
  unfold State.cutCell; try dsimp only
  iterate 25 all_goals try with_reducible (first
      | assumption | apply State.setCell_inv | apply State.storeWear_inv | apply ite_inv | split
      | (apply foldl_inv; intro _ _ _)
      | refine State.Inv.upd (by rfl) (by rfl) (by rfl) (by rfl) (by rfl) (by rfl) (by rfl) (by rfl) ?_)

@[simp] theorem State.unexpectedGone_pending (s : State) : s.unexpectedGone.pending = s.pending := by
  unfold State.unexpectedGone; try dsimp only
  iterate 25 all_goals try with_reducible (first
      | rfl | refine (State.setCell_pending ..).trans ?_ | refine (State.clear_pending ..).trans ?_
      | apply ite_pending | split | refine (foldl_pending _ (fun _ _ => ?_) _ _).trans ?_ | dsimp only)

theorem State.unexpectedGone_inv (s : State) (h : s.Inv) : s.unexpectedGone.Inv := by
  unfold State.unexpectedGone; try dsimp only
  iterate 25 all_goals try with_reducible (first
      | assumption | apply State.setCell_inv | apply State.clear_inv | apply ite_inv | split
      | (apply foldl_inv; intro _ _ _)
      | refine State.Inv.upd (by rfl) (by rfl) (by rfl) (by rfl) (by rfl) (by rfl) (by rfl) (by rfl) ?_)

@[simp] theorem State.cutFound_pending (s : State) : s.cutFound.pending = s.pending := by
  unfold State.cutFound; try dsimp only
  iterate 25 all_goals try with_reducible (first
      | rfl | refine (State.setStr_pending ..).trans ?_ | apply ite_pending | split
      | refine (foldl_pending _ (fun _ _ => ?_) _ _).trans ?_ | dsimp only)

theorem State.cutFound_inv (s : State) (h : s.Inv) : s.cutFound.Inv := by
  unfold State.cutFound; try dsimp only
  iterate 25 all_goals try with_reducible (first
      | assumption | apply State.setStr_inv | apply ite_inv | split | (apply foldl_inv; intro _ _ _)
      | refine State.Inv.upd (by rfl) (by rfl) (by rfl) (by rfl) (by rfl) (by rfl) (by rfl) (by rfl) ?_)

@[simp] theorem State.aiAges_pending (s : State) : s.aiAges.pending = s.pending := by
  unfold State.aiAges; try dsimp only
  iterate 25 all_goals try with_reducible (first
      | rfl | refine (State.raise_pending ..).trans ?_ | refine (State.clear_pending ..).trans ?_
      | apply ite_pending | split | refine (foldl_pending _ (fun _ _ => ?_) _ _).trans ?_ | dsimp only)

theorem State.aiAges_inv (s : State) (h : s.Inv) : s.aiAges.Inv := by
  unfold State.aiAges; try dsimp only
  iterate 25 all_goals try with_reducible (first
      | assumption | apply State.raise_inv | apply State.clear_inv | apply ite_inv | split
      | (apply foldl_inv; intro _ _ _)
      | refine State.Inv.upd (by rfl) (by rfl) (by rfl) (by rfl) (by rfl) (by rfl) (by rfl) (by rfl) ?_)

@[simp] theorem State.cutAi_pending (s : State) : s.cutAi.pending = s.pending := by
  unfold State.cutAi; try dsimp only
  iterate 25 all_goals try with_reducible (first
      | rfl | apply ite_pending | split | refine (foldl_pending _ (fun _ _ => ?_) _ _).trans ?_ | dsimp only)

theorem State.cutAi_inv (s : State) (h : s.Inv) : s.cutAi.Inv := by
  unfold State.cutAi; try dsimp only
  iterate 25 all_goals try with_reducible (first
      | assumption | apply ite_inv | split | (apply foldl_inv; intro _ _ _)
      | refine State.Inv.upd (by rfl) (by rfl) (by rfl) (by rfl) (by rfl) (by rfl) (by rfl) (by rfl) ?_)

@[simp] theorem State.cutLeft_pending (s : State) :
    s.cutLeft.pending = s.pending := by
  unfold State.cutLeft; try dsimp only
  iterate 25 all_goals try with_reducible (first | rfl | refine (State.storeWear_pending ..).trans ?_ | apply ite_pending | split | refine (foldl_pending _ (fun _ _ => ?_) _ _).trans ?_ | dsimp only)

theorem State.cutLeft_inv (s : State) (h : s.Inv) :
    s.cutLeft.Inv := by
  unfold State.cutLeft; try dsimp only
  iterate 25 all_goals try with_reducible (first | assumption | apply State.storeWear_inv | apply ite_inv | split | (apply foldl_inv; intro _ _ _) | refine State.Inv.upd (by rfl) (by rfl) (by rfl) (by rfl) (by rfl) (by rfl) (by rfl) (by rfl) ?_)

@[simp] theorem State.enumMissing_pending (s : State) (ci : Nat) :
    (s.enumMissing ci).pending = s.pending := by
  unfold State.enumMissing; try dsimp only
  iterate 25 all_goals try with_reducible (first | rfl | refine (State.setCell_pending ..).trans ?_ | refine (State.raise_pending ..).trans ?_ | apply ite_pending | split | refine (foldl_pending _ (fun _ _ => ?_) _ _).trans ?_ | dsimp only)

theorem State.enumMissing_inv (s : State) (ci : Nat) (h : s.Inv) :
    (s.enumMissing ci).Inv := by
  unfold State.enumMissing; try dsimp only
  iterate 25 all_goals try with_reducible (first | assumption | apply State.setCell_inv | apply State.raise_inv | apply ite_inv | split | (apply foldl_inv; intro _ _ _) | refine State.Inv.upd (by rfl) (by rfl) (by rfl) (by rfl) (by rfl) (by rfl) (by rfl) (by rfl) ?_)

@[simp] theorem State.toStep_pending (s : State) (ci n : Nat) : (s.toStep ci n).pending = s.pending := by
  unfold State.toStep; try dsimp only
  iterate 25 all_goals try with_reducible (first
      | rfl | refine (State.setMg_pending ..).trans ?_ | refine (State.opUpd_pending ..).trans ?_
      | apply ite_pending | split | refine (foldl_pending _ (fun _ _ => ?_) _ _).trans ?_ | dsimp only)

theorem State.toStep_inv (s : State) (ci n : Nat) (h : s.Inv) : (s.toStep ci n).Inv := by
  unfold State.toStep; try dsimp only
  iterate 25 all_goals try with_reducible (first
      | assumption | apply State.setMg_inv | apply State.opUpd_inv | apply ite_inv | split
      | (apply foldl_inv; intro _ _ _)
      | refine State.Inv.upd (by rfl) (by rfl) (by rfl) (by rfl) (by rfl) (by rfl) (by rfl) (by rfl) ?_)

@[simp] theorem State.startAdmit_pending (s : State) (ci op : Nat)
    : (s.startAdmit ci op).pending = s.pending := by
  unfold State.startAdmit; try dsimp only
  iterate 25 all_goals try with_reducible (first
      | rfl | refine (State.setMg_pending ..).trans ?_ | refine (State.request_pending ..).trans ?_
      | apply ite_pending | split | refine (foldl_pending _ (fun _ _ => ?_) _ _).trans ?_ | dsimp only)

theorem State.startAdmit_inv (s : State) (ci op : Nat) (h : s.Inv) : (s.startAdmit ci op).Inv := by
  unfold State.startAdmit; try dsimp only
  iterate 25 all_goals try with_reducible (first
      | assumption | apply State.setMg_inv | apply State.request_inv | apply ite_inv | split
      | (apply foldl_inv; intro _ _ _)
      | refine State.Inv.upd (by rfl) (by rfl) (by rfl) (by rfl) (by rfl) (by rfl) (by rfl) (by rfl) ?_)

@[simp] theorem State.admitMeasure_pending (s : State) (ci : Nat)
    : (s.admitMeasure ci).pending = s.pending := by
  unfold State.admitMeasure; try dsimp only
  iterate 25 all_goals try with_reducible (first
      | rfl | refine (State.setEcho_pending ..).trans ?_ | apply ite_pending | split
      | refine (foldl_pending _ (fun _ _ => ?_) _ _).trans ?_ | dsimp only)

theorem State.admitMeasure_inv (s : State) (ci : Nat) (h : s.Inv) : (s.admitMeasure ci).Inv := by
  unfold State.admitMeasure; try dsimp only
  iterate 25 all_goals try with_reducible (first
      | assumption | apply State.setEcho_inv | apply ite_inv | split | (apply foldl_inv; intro _ _ _)
      | refine State.Inv.upd (by rfl) (by rfl) (by rfl) (by rfl) (by rfl) (by rfl) (by rfl) (by rfl) ?_)

@[simp] theorem State.admitGranted_pending (s : State) (ci epoch : Nat)
    : (s.admitGranted ci epoch).pending = s.pending := by
  unfold State.admitGranted; try dsimp only
  iterate 25 all_goals try with_reducible (first
      | rfl | refine (State.setCell_pending ..).trans ?_ | refine (State.setSch_pending ..).trans ?_
      | refine (State.setDcell_pending ..).trans ?_ | refine (State.supAdmit_pending ..).trans ?_
      | refine (State.resetTherm_pending ..).trans ?_ | apply ite_pending | split
      | refine (foldl_pending _ (fun _ _ => ?_) _ _).trans ?_ | dsimp only)

theorem State.admitGranted_inv (s : State) (ci epoch : Nat) (h : s.Inv) : (s.admitGranted ci epoch).Inv := by
  unfold State.admitGranted; try dsimp only
  iterate 25 all_goals try with_reducible (first
      | assumption | apply State.setCell_inv | apply State.setSch_inv | apply State.setDcell_inv
      | apply State.supAdmit_inv | apply State.resetTherm_inv | apply ite_inv | split
      | (apply foldl_inv; intro _ _ _)
      | refine State.Inv.upd (by rfl) (by rfl) (by rfl) (by rfl) (by rfl) (by rfl) (by rfl) (by rfl) ?_)

@[simp] theorem State.phaseEnd_pending (s : State) (k : Nat) : (s.phaseEnd k).pending = s.pending := by
  unfold State.phaseEnd; try dsimp only
  iterate 25 all_goals try with_reducible (first
      | rfl | refine (State.insertCell_pending ..).trans ?_ | refine (State.setSchStack_pending ..).trans ?_
      | apply ite_pending | split | refine (foldl_pending _ (fun _ _ => ?_) _ _).trans ?_ | dsimp only)

theorem State.phaseEnd_inv (s : State) (k : Nat) (h : s.Inv) : (s.phaseEnd k).Inv := by
  unfold State.phaseEnd; try dsimp only
  iterate 25 all_goals try with_reducible (first
      | assumption | apply State.insertCell_inv | apply State.setSchStack_inv | apply ite_inv | split
      | (apply foldl_inv; intro _ _ _)
      | refine State.Inv.upd (by rfl) (by rfl) (by rfl) (by rfl) (by rfl) (by rfl) (by rfl) (by rfl) ?_)

@[simp] theorem State.endPrecharge_pending (s : State) (o : OpRec) (fail : Bool)
    : (s.endPrecharge o fail).pending = s.pending := by
  unfold State.endPrecharge; try dsimp only
  iterate 25 all_goals try with_reducible (first
      | rfl | refine (State.insertCell_pending ..).trans ?_ | refine (State.backToFound_pending ..).trans ?_
      | refine (State.setMg_pending ..).trans ?_ | refine (State.opEnd_pending ..).trans ?_
      | refine (State.raise_pending ..).trans ?_ | refine (State.setMode_pending ..).trans ?_
      | apply ite_pending | split | refine (foldl_pending _ (fun _ _ => ?_) _ _).trans ?_ | dsimp only)

theorem State.endPrecharge_inv (s : State) (o : OpRec) (fail : Bool) (h : s.Inv)
    : (s.endPrecharge o fail).Inv := by
  unfold State.endPrecharge; try dsimp only
  iterate 25 all_goals try with_reducible (first
      | assumption | apply State.insertCell_inv | apply State.backToFound_inv | apply State.setMg_inv
      | apply State.opEnd_inv | apply State.raise_inv | apply State.setMode_inv | apply ite_inv | split
      | (apply foldl_inv; intro _ _ _)
      | refine State.Inv.upd (by rfl) (by rfl) (by rfl) (by rfl) (by rfl) (by rfl) (by rfl) (by rfl) ?_)

end Sys2Proof.Machine
end

