-- ==== Sys2Proof/Laws/KeepAdc.lean ====
section
/-! SUPPORT. The shared operations of `Machine/Adc.lean` leave the queue of commands as it is and keep the invariant. -/

namespace Sys2Proof.Machine

@[simp] theorem State.setConv_pending (s : State) (k : Nat) (c : Conv)
    : (s.setConv k c).pending = s.pending := by
  unfold State.setConv; try dsimp only
  iterate 25 all_goals try with_reducible (first
      | rfl | apply ite_pending | split | refine (foldl_pending _ (fun _ _ => ?_) _ _).trans ?_ | dsimp only)

theorem State.setConv_inv (s : State) (k : Nat) (c : Conv) (h : s.Inv) : (s.setConv k c).Inv := by
  unfold State.setConv; try dsimp only
  iterate 25 all_goals try with_reducible (first
      | assumption | apply ite_inv | split | (apply foldl_inv; intro _ _ _)
      | refine State.Inv.upd (by rfl) (by rfl) (by rfl) (by rfl) (by rfl) (by rfl) (by rfl) (by rfl) ?_)

@[simp] theorem State.cimWrite_pending (s : State) (tile : Nat) : (s.cimWrite tile).pending = s.pending := by
  unfold State.cimWrite; try dsimp only
  iterate 25 all_goals try with_reducible (first
      | rfl | apply ite_pending | split | refine (foldl_pending _ (fun _ _ => ?_) _ _).trans ?_ | dsimp only)

theorem State.cimWrite_inv (s : State) (tile : Nat) (h : s.Inv) : (s.cimWrite tile).Inv := by
  unfold State.cimWrite; try dsimp only
  iterate 25 all_goals try with_reducible (first
      | assumption | apply ite_inv | split | (apply foldl_inv; intro _ _ _)
      | refine State.Inv.upd (by rfl) (by rfl) (by rfl) (by rfl) (by rfl) (by rfl) (by rfl) (by rfl) ?_)

@[simp] theorem State.adcRestart_pending (s : State) (k : Nat) : (s.adcRestart k).pending = s.pending := by
  unfold State.adcRestart; try dsimp only
  iterate 25 all_goals try with_reducible (first
      | rfl | refine (State.setConv_pending ..).trans ?_ | apply ite_pending | split
      | refine (foldl_pending _ (fun _ _ => ?_) _ _).trans ?_ | dsimp only)

theorem State.adcRestart_inv (s : State) (k : Nat) (h : s.Inv) : (s.adcRestart k).Inv := by
  unfold State.adcRestart; try dsimp only
  iterate 25 all_goals try with_reducible (first
      | assumption | apply State.setConv_inv | apply ite_inv | split | (apply foldl_inv; intro _ _ _)
      | refine State.Inv.upd (by rfl) (by rfl) (by rfl) (by rfl) (by rfl) (by rfl) (by rfl) (by rfl) ?_)

@[simp] theorem State.threshold_pending (s : State) (code : BitVec 18) (ovr : Bool) (t j : Nat)
    : (s.threshold code ovr t j).pending = s.pending := by
  unfold State.threshold; try dsimp only
  iterate 25 all_goals try with_reducible (first
      | rfl | refine (State.condGone_pending ..).trans ?_ | refine (State.raise_pending ..).trans ?_
      | apply ite_pending | split | refine (foldl_pending _ (fun _ _ => ?_) _ _).trans ?_ | dsimp only)

theorem State.threshold_inv (s : State) (code : BitVec 18) (ovr : Bool) (t j : Nat) (h : s.Inv)
    : (s.threshold code ovr t j).Inv := by
  unfold State.threshold; try dsimp only
  iterate 25 all_goals try with_reducible (first
      | assumption | apply State.condGone_inv | apply State.raise_inv | apply ite_inv | split
      | (apply foldl_inv; intro _ _ _)
      | refine State.Inv.upd (by rfl) (by rfl) (by rfl) (by rfl) (by rfl) (by rfl) (by rfl) (by rfl) ?_)

@[simp] theorem State.overRange_pending (s : State) (n clean : Nat) (ovr : Bool) (t : Nat)
    : (s.overRange n clean ovr t).pending = s.pending := by
  unfold State.overRange; try dsimp only
  iterate 25 all_goals try with_reducible (first
      | rfl | refine (State.raise_pending ..).trans ?_ | refine (State.satEvent_pending ..).trans ?_
      | refine (State.clear_pending ..).trans ?_ | apply ite_pending | split
      | refine (foldl_pending _ (fun _ _ => ?_) _ _).trans ?_ | dsimp only)

theorem State.overRange_inv (s : State) (n clean : Nat) (ovr : Bool) (t : Nat) (h : s.Inv)
    : (s.overRange n clean ovr t).Inv := by
  unfold State.overRange; try dsimp only
  iterate 25 all_goals try with_reducible (first
      | assumption | apply State.raise_inv | apply State.satEvent_inv | apply State.clear_inv | apply ite_inv
      | split | (apply foldl_inv; intro _ _ _)
      | refine State.Inv.upd (by rfl) (by rfl) (by rfl) (by rfl) (by rfl) (by rfl) (by rfl) (by rfl) ?_)

@[simp] theorem State.adcResult_pending (s : State) (n : Nat) (r : AiRes) :
    (s.adcResult n r).pending = s.pending := by
  unfold State.adcResult; try dsimp only
  iterate 25 all_goals try with_reducible (first | rfl | apply ite_pending | split | refine (foldl_pending _ (fun _ _ => ?_) _ _).trans ?_ | dsimp only)

theorem State.adcResult_inv (s : State) (n : Nat) (r : AiRes) (h : s.Inv) :
    (s.adcResult n r).Inv := by
  unfold State.adcResult; try dsimp only
  iterate 25 all_goals try with_reducible (first | assumption | apply ite_inv | split | (apply foldl_inv; intro _ _ _) | refine State.Inv.upd (by rfl) (by rfl) (by rfl) (by rfl) (by rfl) (by rfl) (by rfl) (by rfl) ?_)

end Sys2Proof.Machine
end

