-- ==== Sys2Proof/Laws/KeepInkwell.lean ====
section
/-! SUPPORT. The shared operations of `Machine/Inkwell.lean` leave the queue of commands as it is and keep the invariant. -/

namespace Sys2Proof.Machine

/-- Every write of bytes keeps the canonical form of memory. -/
theorem putBytes_wf : ∀ (l : List Byte) (m : Tab Byte) (a : Nat), Memory.wf m = true → Memory.wf
    (putBytes m a l) = true
  | [], _, _, h => h
  | b :: l, m, a, h => by
    unfold putBytes
    exact putBytes_wf l _ _ (Tab.wf_put (fun _ => 0) m a b h)

theorem zeroTiles_wf : ∀ (l : List Nat) (m : Tab Byte), Memory.wf m = true →
    Memory.wf (l.foldl (fun (m : Tab Byte) (t : Nat) => putBytes m (t * 128) (List.replicate 128 0)) m) = true
  | [], _, h => h
  | t :: l, m, h => by
    rw [List.foldl_cons]
    exact zeroTiles_wf l _ (putBytes_wf _ _ _ h)

@[simp] theorem State.inkWrite_pending (s : State) (a : Nat) (bytes : List Byte)
    : (s.inkWrite a bytes).pending = s.pending := by
  unfold State.inkWrite; try dsimp only
  iterate 25 all_goals try with_reducible (first
      | rfl | apply ite_pending | split | refine (foldl_pending _ (fun _ _ => ?_) _ _).trans ?_ | dsimp only)

theorem State.inkWrite_inv (s : State) (a : Nat) (bytes : List Byte) (h : s.Inv)
    : (s.inkWrite a bytes).Inv := by
  refine ⟨h.grant, h.live, h.out, h.queue, h.log, h.stamps, ?_⟩
  simp only [State.inkWrite]
  exact putBytes_wf _ _ _ (zeroTiles_wf _ _ h.mem)

@[simp] theorem State.firstPoison_pending (s : State) (cim : Bool) (tile : Nat)
    : (s.firstPoison cim tile).pending = s.pending := by
  unfold State.firstPoison; try dsimp only
  iterate 25 all_goals try with_reducible (first
      | rfl | apply ite_pending | split | refine (foldl_pending _ (fun _ _ => ?_) _ _).trans ?_ | dsimp only)

theorem State.firstPoison_inv (s : State) (cim : Bool) (tile : Nat) (h : s.Inv)
    : (s.firstPoison cim tile).Inv := by
  unfold State.firstPoison; try dsimp only
  iterate 25 all_goals try with_reducible (first
      | assumption | apply ite_inv | split | (apply foldl_inv; intro _ _ _)
      | refine State.Inv.upd (by rfl) (by rfl) (by rfl) (by rfl) (by rfl) (by rfl) (by rfl) (by rfl) ?_)

@[simp] theorem State.wearReload_pending (s : State) (tile : Nat)
    : (s.wearReload tile).pending = s.pending := by
  unfold State.wearReload; try dsimp only
  iterate 25 all_goals try with_reducible (first
      | rfl | refine (State.setSupSw_pending ..).trans ?_ | apply ite_pending | split
      | refine (foldl_pending _ (fun _ _ => ?_) _ _).trans ?_ | dsimp only)

theorem State.wearReload_inv (s : State) (tile : Nat) (h : s.Inv) : (s.wearReload tile).Inv := by
  unfold State.wearReload; try dsimp only
  iterate 25 all_goals try with_reducible (first
      | assumption | apply State.setSupSw_inv | apply ite_inv | split | (apply foldl_inv; intro _ _ _)
      | refine State.Inv.upd (by rfl) (by rfl) (by rfl) (by rfl) (by rfl) (by rfl) (by rfl) (by rfl) ?_)

@[simp] theorem State.poisonInk_pending (s : State) (tile t : Nat)
    : (s.poisonInk tile t).pending = s.pending := by
  unfold State.poisonInk; try dsimp only
  iterate 25 all_goals try with_reducible (first
      | rfl | refine (State.firstPoison_pending ..).trans ?_ | refine (State.satEvent_pending ..).trans ?_
      | refine (State.wearReload_pending ..).trans ?_ | refine (State.raise_pending ..).trans ?_
      | apply ite_pending | split | refine (foldl_pending _ (fun _ _ => ?_) _ _).trans ?_ | dsimp only)

theorem State.poisonInk_inv (s : State) (tile t : Nat) (h : s.Inv) : (s.poisonInk tile t).Inv := by
  unfold State.poisonInk; try dsimp only
  iterate 25 all_goals try with_reducible (first
      | assumption | apply State.firstPoison_inv | apply State.satEvent_inv | apply State.wearReload_inv
      | apply State.raise_inv | apply ite_inv | split | (apply foldl_inv; intro _ _ _)
      | refine State.Inv.upd (by rfl) (by rfl) (by rfl) (by rfl) (by rfl) (by rfl) (by rfl) (by rfl) ?_)

@[simp] theorem State.poisonCim_pending (s : State) (tile t : Nat)
    : (s.poisonCim tile t).pending = s.pending := by
  unfold State.poisonCim; try dsimp only
  iterate 25 all_goals try with_reducible (first
      | rfl | refine (State.firstPoison_pending ..).trans ?_ | refine (State.satEvent_pending ..).trans ?_
      | refine (State.raise_pending ..).trans ?_ | apply ite_pending | split
      | refine (foldl_pending _ (fun _ _ => ?_) _ _).trans ?_ | dsimp only)

theorem State.poisonCim_inv (s : State) (tile t : Nat) (h : s.Inv) : (s.poisonCim tile t).Inv := by
  unfold State.poisonCim; try dsimp only
  iterate 25 all_goals try with_reducible (first
      | assumption | apply State.firstPoison_inv | apply State.satEvent_inv | apply State.raise_inv
      | apply ite_inv | split | (apply foldl_inv; intro _ _ _)
      | refine State.Inv.upd (by rfl) (by rfl) (by rfl) (by rfl) (by rfl) (by rfl) (by rfl) (by rfl) ?_)

@[simp] theorem State.setArb_pending (s : State) (i : Nat) (a : Arb) : (s.setArb i a).pending = s.pending := by
  unfold State.setArb; try dsimp only
  iterate 25 all_goals try with_reducible (first
      | rfl | apply ite_pending | split | refine (foldl_pending _ (fun _ _ => ?_) _ _).trans ?_ | dsimp only)

theorem State.setArb_inv (s : State) (i : Nat) (a : Arb) (h : s.Inv) : (s.setArb i a).Inv := by
  unfold State.setArb; try dsimp only
  iterate 25 all_goals try with_reducible (first
      | assumption | apply ite_inv | split | (apply foldl_inv; intro _ _ _)
      | refine State.Inv.upd (by rfl) (by rfl) (by rfl) (by rfl) (by rfl) (by rfl) (by rfl) (by rfl) ?_)

@[simp] theorem State.draw_pending (s : State) (el : List Nat) : (s.draw el).pending = s.pending := by
  unfold State.draw; try dsimp only
  iterate 25 all_goals try with_reducible (first
      | rfl | refine (State.setArb_pending ..).trans ?_ | apply ite_pending | split
      | refine (foldl_pending _ (fun _ _ => ?_) _ _).trans ?_ | dsimp only)

theorem State.draw_inv (s : State) (el : List Nat) (h : s.Inv) : (s.draw el).Inv := by
  unfold State.draw; try dsimp only
  iterate 25 all_goals try with_reducible (first
      | assumption | apply State.setArb_inv | apply ite_inv | split | (apply foldl_inv; intro _ _ _)
      | refine State.Inv.upd (by rfl) (by rfl) (by rfl) (by rfl) (by rfl) (by rfl) (by rfl) (by rfl) ?_)

@[simp] theorem State.storeRow_pending (s : State) : s.storeRow.pending = s.pending := by
  unfold State.storeRow; try dsimp only
  iterate 25 all_goals try with_reducible (first
      | rfl | refine (State.inkWrite_pending ..).trans ?_ | apply ite_pending | split
      | refine (foldl_pending _ (fun _ _ => ?_) _ _).trans ?_ | dsimp only)

theorem State.storeRow_inv (s : State) (h : s.Inv) : s.storeRow.Inv := by
  unfold State.storeRow; try dsimp only
  iterate 25 all_goals try with_reducible (first
      | assumption | apply State.inkWrite_inv | apply ite_inv | split | (apply foldl_inv; intro _ _ _)
      | refine State.Inv.upd (by rfl) (by rfl) (by rfl) (by rfl) (by rfl) (by rfl) (by rfl) (by rfl) ?_)

@[simp] theorem State.setDma_pending (s : State) (d : Dma) : (s.setDma d).pending = s.pending := by
  unfold State.setDma; try dsimp only
  iterate 25 all_goals try with_reducible (first
      | rfl | apply ite_pending | split | refine (foldl_pending _ (fun _ _ => ?_) _ _).trans ?_ | dsimp only)

theorem State.setDma_inv (s : State) (d : Dma) (h : s.Inv) : (s.setDma d).Inv := by
  unfold State.setDma; try dsimp only
  iterate 25 all_goals try with_reducible (first
      | assumption | apply ite_inv | split | (apply foldl_inv; intro _ _ _)
      | refine State.Inv.upd (by rfl) (by rfl) (by rfl) (by rfl) (by rfl) (by rfl) (by rfl) (by rfl) ?_)

@[simp] theorem State.dmaBegin_pending (s : State) (ch : Nat) : (s.dmaBegin ch).pending = s.pending := by
  unfold State.dmaBegin; try dsimp only
  iterate 25 all_goals try with_reducible (first
      | rfl | refine (State.setDma_pending ..).trans ?_ | apply ite_pending | split
      | refine (foldl_pending _ (fun _ _ => ?_) _ _).trans ?_ | dsimp only)

theorem State.dmaBegin_inv (s : State) (ch : Nat) (h : s.Inv) : (s.dmaBegin ch).Inv := by
  unfold State.dmaBegin; try dsimp only
  iterate 25 all_goals try with_reducible (first
      | assumption | apply State.setDma_inv | apply ite_inv | split | (apply foldl_inv; intro _ _ _)
      | refine State.Inv.upd (by rfl) (by rfl) (by rfl) (by rfl) (by rfl) (by rfl) (by rfl) (by rfl) ?_)

@[simp] theorem State.dmaEnd_pending (s : State) (ch : Nat) : (s.dmaEnd ch).pending = s.pending := by
  unfold State.dmaEnd; try dsimp only
  iterate 25 all_goals try with_reducible (first
      | rfl | refine (State.setDma_pending ..).trans ?_ | refine (State.dmaBegin_pending ..).trans ?_
      | apply ite_pending | split | refine (foldl_pending _ (fun _ _ => ?_) _ _).trans ?_ | dsimp only)

theorem State.dmaEnd_inv (s : State) (ch : Nat) (h : s.Inv) : (s.dmaEnd ch).Inv := by
  unfold State.dmaEnd; try dsimp only
  iterate 25 all_goals try with_reducible (first
      | assumption | apply State.setDma_inv | apply State.dmaBegin_inv | apply ite_inv | split
      | (apply foldl_inv; intro _ _ _)
      | refine State.Inv.upd (by rfl) (by rfl) (by rfl) (by rfl) (by rfl) (by rfl) (by rfl) (by rfl) ?_)

@[simp] theorem State.dmaRecord_pending (s : State) (ch tag status flags bytes desc t : Nat)
    : (s.dmaRecord ch tag status flags bytes desc t).pending = s.pending := by
  unfold State.dmaRecord; try dsimp only
  iterate 25 all_goals try with_reducible (first
      | rfl | refine (State.setDma_pending ..).trans ?_ | refine (State.raise_pending ..).trans ?_
      | refine (State.satEvent_pending ..).trans ?_ | refine (State.inkWrite_pending ..).trans ?_
      | apply ite_pending | split | refine (foldl_pending _ (fun _ _ => ?_) _ _).trans ?_ | dsimp only)

theorem State.dmaRecord_inv (s : State) (ch tag status flags bytes desc t : Nat) (h : s.Inv)
    : (s.dmaRecord ch tag status flags bytes desc t).Inv := by
  unfold State.dmaRecord; try dsimp only
  iterate 25 all_goals try with_reducible (first
      | assumption | apply State.setDma_inv | apply State.raise_inv | apply State.satEvent_inv
      | apply State.inkWrite_inv | apply ite_inv | split | (apply foldl_inv; intro _ _ _)
      | refine State.Inv.upd (by rfl) (by rfl) (by rfl) (by rfl) (by rfl) (by rfl) (by rfl) (by rfl) ?_)

@[simp] theorem State.dmaStop_pending (s : State) (c : Chain) (status t : Nat)
    : (s.dmaStop c status t).pending = s.pending := by
  unfold State.dmaStop; try dsimp only
  iterate 25 all_goals try with_reducible (first
      | rfl | refine (State.dmaRecord_pending ..).trans ?_ | refine (State.drawn_pending ..).trans ?_
      | refine (State.dmaEnd_pending ..).trans ?_ | apply ite_pending | split
      | refine (foldl_pending _ (fun _ _ => ?_) _ _).trans ?_ | dsimp only)

theorem State.dmaStop_inv (s : State) (c : Chain) (status t : Nat) (h : s.Inv)
    : (s.dmaStop c status t).Inv := by
  unfold State.dmaStop; try dsimp only
  iterate 25 all_goals try with_reducible (first
      | assumption | apply State.dmaRecord_inv | apply State.drawn_inv | apply State.dmaEnd_inv | apply ite_inv
      | split | (apply foldl_inv; intro _ _ _)
      | refine State.Inv.upd (by rfl) (by rfl) (by rfl) (by rfl) (by rfl) (by rfl) (by rfl) (by rfl) ?_)

@[simp] theorem State.dmaNext_pending (s : State) (c : Chain) (status t : Nat)
    : (s.dmaNext c status t).pending = s.pending := by
  unfold State.dmaNext; try dsimp only
  iterate 25 all_goals try with_reducible (first
      | rfl | refine (State.dmaRecord_pending ..).trans ?_ | refine (State.dmaEnd_pending ..).trans ?_
      | refine (State.dmaStop_pending ..).trans ?_ | refine (State.setDma_pending ..).trans ?_
      | apply ite_pending | split | refine (foldl_pending _ (fun _ _ => ?_) _ _).trans ?_ | dsimp only)

theorem State.dmaNext_inv (s : State) (c : Chain) (status t : Nat) (h : s.Inv)
    : (s.dmaNext c status t).Inv := by
  unfold State.dmaNext; try dsimp only
  iterate 25 all_goals try with_reducible (first
      | assumption | apply State.dmaRecord_inv | apply State.dmaEnd_inv | apply State.dmaStop_inv
      | apply State.setDma_inv | apply ite_inv | split | (apply foldl_inv; intro _ _ _)
      | refine State.Inv.upd (by rfl) (by rfl) (by rfl) (by rfl) (by rfl) (by rfl) (by rfl) (by rfl) ?_)

@[simp] theorem State.burstBad_pending (s : State) (d : List Byte) (off n : Nat) (bad : Option (Fin 17)) (t
    : Nat) : (s.burstBad d off n bad t).pending = s.pending := by
  unfold State.burstBad; try dsimp only
  iterate 25 all_goals try with_reducible (first
      | rfl | refine (State.poisonInk_pending ..).trans ?_ | refine (State.poisonCim_pending ..).trans ?_
      | apply ite_pending | split | refine (foldl_pending _ (fun _ _ => ?_) _ _).trans ?_ | dsimp only)

theorem State.burstBad_inv (s : State) (d : List Byte) (off n : Nat) (bad : Option (Fin 17)) (t : Nat) (h
    : s.Inv) : (s.burstBad d off n bad t).Inv := by
  unfold State.burstBad; try dsimp only
  iterate 25 all_goals try with_reducible (first
      | assumption | apply State.poisonInk_inv | apply State.poisonCim_inv | apply ite_inv | split
      | (apply foldl_inv; intro _ _ _)
      | refine State.Inv.upd (by rfl) (by rfl) (by rfl) (by rfl) (by rfl) (by rfl) (by rfl) (by rfl) ?_)

@[simp] theorem State.blotState_pending (s : State) : s.blotState.pending = s.pending := by
  unfold State.blotState; try dsimp only
  iterate 25 all_goals try with_reducible (first
      | rfl | apply ite_pending | split | refine (foldl_pending _ (fun _ _ => ?_) _ _).trans ?_ | dsimp only)

theorem State.blotState_inv (s : State) (h : s.Inv) : s.blotState.Inv := by
  unfold State.blotState; try dsimp only
  iterate 25 all_goals try with_reducible (first
      | assumption | apply ite_inv | split | (apply foldl_inv; intro _ _ _)
      | refine State.Inv.upd (by rfl) (by rfl) (by rfl) (by rfl) (by rfl) (by rfl) (by rfl) (by rfl) ?_)

@[simp] theorem State.pushRow_pending (s : State) (vs : List Word) (t : Nat)
    : (s.pushRow vs t).pending = s.pending := by
  unfold State.pushRow; try dsimp only
  iterate 25 all_goals try with_reducible (first
      | rfl | refine (State.raise_pending ..).trans ?_ | refine (State.satEvent_pending ..).trans ?_
      | apply ite_pending | split | refine (foldl_pending _ (fun _ _ => ?_) _ _).trans ?_ | dsimp only)

theorem State.pushRow_inv (s : State) (vs : List Word) (t : Nat) (h : s.Inv) : (s.pushRow vs t).Inv := by
  unfold State.pushRow; try dsimp only
  iterate 25 all_goals try with_reducible (first
      | assumption | apply State.raise_inv | apply State.satEvent_inv | apply ite_inv | split
      | (apply foldl_inv; intro _ _ _)
      | refine State.Inv.upd (by rfl) (by rfl) (by rfl) (by rfl) (by rfl) (by rfl) (by rfl) (by rfl) ?_)

end Sys2Proof.Machine
end

