-- ==== Sys2Proof/Laws/KeepNetwork.lean ====
section
/-! SUPPORT. The shared operations of `Machine/Network.lean` leave the queue of commands as it is and keep the invariant. -/

namespace Sys2Proof.Machine

@[simp] theorem State.netDrop_pending (s : State) (t : Nat) : (s.netDrop t).pending = s.pending := by
  unfold State.netDrop; try dsimp only
  iterate 25 all_goals try with_reducible (first
      | rfl | refine (State.satEvent_pending ..).trans ?_ | apply ite_pending | split
      | refine (foldl_pending _ (fun _ _ => ?_) _ _).trans ?_ | dsimp only)

theorem State.netDrop_inv (s : State) (t : Nat) (h : s.Inv) : (s.netDrop t).Inv := by
  unfold State.netDrop; try dsimp only
  iterate 25 all_goals try with_reducible (first
      | assumption | apply State.satEvent_inv | apply ite_inv | split | (apply foldl_inv; intro _ _ _)
      | refine State.Inv.upd (by rfl) (by rfl) (by rfl) (by rfl) (by rfl) (by rfl) (by rfl) (by rfl) ?_)

@[simp] theorem State.sysReject_pending (s : State) (t : Nat) : (s.sysReject t).pending = s.pending := by
  unfold State.sysReject; try dsimp only
  iterate 25 all_goals try with_reducible (first
      | rfl | refine (State.satEvent_pending ..).trans ?_ | apply ite_pending | split
      | refine (foldl_pending _ (fun _ _ => ?_) _ _).trans ?_ | dsimp only)

theorem State.sysReject_inv (s : State) (t : Nat) (h : s.Inv) : (s.sysReject t).Inv := by
  unfold State.sysReject; try dsimp only
  iterate 25 all_goals try with_reducible (first
      | assumption | apply State.satEvent_inv | apply ite_inv | split | (apply foldl_inv; intro _ _ _)
      | refine State.Inv.upd (by rfl) (by rfl) (by rfl) (by rfl) (by rfl) (by rfl) (by rfl) (by rfl) ?_)

@[simp] theorem State.netSecond_pending (s : State) : s.netSecond.pending = s.pending := by
  unfold State.netSecond; try dsimp only
  iterate 25 all_goals try with_reducible (first
      | rfl | apply ite_pending | split | refine (foldl_pending _ (fun _ _ => ?_) _ _).trans ?_ | dsimp only)

theorem State.netSecond_inv (s : State) (h : s.Inv) : s.netSecond.Inv := by
  unfold State.netSecond; try dsimp only
  iterate 25 all_goals try with_reducible (first
      | assumption | apply ite_inv | split | (apply foldl_inv; intro _ _ _)
      | refine State.Inv.upd (by rfl) (by rfl) (by rfl) (by rfl) (by rfl) (by rfl) (by rfl) (by rfl) ?_)

@[simp] theorem State.safeArrives_pending (s : State) (f : NetFrame) (data : List Byte) (t : Nat)
    : (s.safeArrives f data t).pending = s.pending := by
  unfold State.safeArrives; try dsimp only
  iterate 25 all_goals try with_reducible (first
      | rfl | refine (State.netDrop_pending ..).trans ?_ | apply ite_pending | split
      | refine (foldl_pending _ (fun _ _ => ?_) _ _).trans ?_ | dsimp only)

theorem State.safeArrives_inv (s : State) (f : NetFrame) (data : List Byte) (t : Nat) (h : s.Inv)
    : (s.safeArrives f data t).Inv := by
  unfold State.safeArrives; try dsimp only
  iterate 25 all_goals try with_reducible (first
      | assumption | apply State.netDrop_inv | apply ite_inv | split | (apply foldl_inv; intro _ _ _)
      | refine State.Inv.upd (by rfl) (by rfl) (by rfl) (by rfl) (by rfl) (by rfl) (by rfl) (by rfl) ?_)

@[simp] theorem State.announceIp_pending (s : State) (p : Nat) :
    (s.announceIp p).pending = s.pending := by
  unfold State.announceIp; try dsimp only
  iterate 25 all_goals try with_reducible (first | rfl | refine (State.sendNet_pending ..).trans ?_ | apply ite_pending | split | refine (foldl_pending _ (fun _ _ => ?_) _ _).trans ?_ | dsimp only)

theorem State.announceIp_inv (s : State) (p : Nat) (h : s.Inv) :
    (s.announceIp p).Inv := by
  unfold State.announceIp; try dsimp only
  iterate 25 all_goals try with_reducible (first | assumption | apply State.sendNet_inv | apply ite_inv | split | (apply foldl_inv; intro _ _ _) | refine State.Inv.upd (by rfl) (by rfl) (by rfl) (by rfl) (by rfl) (by rfl) (by rfl) (by rfl) ?_)

@[simp] theorem State.sessLink_pending (s : State) (p : Nat) (at_ : Option Nat)
    : (s.sessLink p at_).pending = s.pending := by
  unfold State.sessLink; try dsimp only
  iterate 25 all_goals try with_reducible (first
      | rfl | refine (State.setSess_pending ..).trans ?_ | apply ite_pending | split
      | refine (foldl_pending _ (fun _ _ => ?_) _ _).trans ?_ | dsimp only)

theorem State.sessLink_inv (s : State) (p : Nat) (at_ : Option Nat) (h : s.Inv) : (s.sessLink p at_).Inv := by
  unfold State.sessLink; try dsimp only
  iterate 25 all_goals try with_reducible (first
      | assumption | apply State.setSess_inv | apply ite_inv | split | (apply foldl_inv; intro _ _ _)
      | refine State.Inv.upd (by rfl) (by rfl) (by rfl) (by rfl) (by rfl) (by rfl) (by rfl) (by rfl) ?_)

@[simp] theorem State.ptpSelect_pending (s : State) (t : Nat) : (s.ptpSelect t).pending = s.pending := by
  unfold State.ptpSelect; try dsimp only
  iterate 25 all_goals try with_reducible (first
      | rfl | refine (State.raise_pending ..).trans ?_ | apply ite_pending | split
      | refine (foldl_pending _ (fun _ _ => ?_) _ _).trans ?_ | dsimp only)

theorem State.ptpSelect_inv (s : State) (t : Nat) (h : s.Inv) : (s.ptpSelect t).Inv := by
  unfold State.ptpSelect; try dsimp only
  iterate 25 all_goals try with_reducible (first
      | assumption | apply State.raise_inv | apply ite_inv | split | (apply foldl_inv; intro _ _ _)
      | refine State.Inv.upd (by rfl) (by rfl) (by rfl) (by rfl) (by rfl) (by rfl) (by rfl) (by rfl) ?_)

@[simp] theorem State.ptpOffset_pending (s : State) (p : Nat) (m : PtpMsg) (t : Nat)
    : (s.ptpOffset p m t).pending = s.pending := by
  unfold State.ptpOffset; try dsimp only
  iterate 25 all_goals try with_reducible (first
      | rfl | refine (State.timeMeasure_pending ..).trans ?_ | apply ite_pending | split
      | refine (foldl_pending _ (fun _ _ => ?_) _ _).trans ?_ | dsimp only)

theorem State.ptpOffset_inv (s : State) (p : Nat) (m : PtpMsg) (t : Nat) (h : s.Inv)
    : (s.ptpOffset p m t).Inv := by
  unfold State.ptpOffset; try dsimp only
  iterate 25 all_goals try with_reducible (first
      | assumption | apply State.timeMeasure_inv | apply ite_inv | split | (apply foldl_inv; intro _ _ _)
      | refine State.Inv.upd (by rfl) (by rfl) (by rfl) (by rfl) (by rfl) (by rfl) (by rfl) (by rfl) ?_)

@[simp] theorem State.streamCommit_pending (s : State) (j : Nat) (owner : BitVec 16)
    : (s.streamCommit j owner).pending = s.pending := by
  unfold State.streamCommit; try dsimp only
  iterate 25 all_goals try with_reducible (first
      | rfl | refine (State.setStream_pending ..).trans ?_ | refine (State.clear_pending ..).trans ?_
      | apply ite_pending | split | refine (foldl_pending _ (fun _ _ => ?_) _ _).trans ?_ | dsimp only)

theorem State.streamCommit_inv (s : State) (j : Nat) (owner : BitVec 16) (h : s.Inv)
    : (s.streamCommit j owner).Inv := by
  unfold State.streamCommit; try dsimp only
  iterate 25 all_goals try with_reducible (first
      | assumption | apply State.setStream_inv | apply State.clear_inv | apply ite_inv | split
      | (apply foldl_inv; intro _ _ _)
      | refine State.Inv.upd (by rfl) (by rfl) (by rfl) (by rfl) (by rfl) (by rfl) (by rfl) (by rfl) ?_)

end Sys2Proof.Machine
end

