-- ==== Sys2Proof/Laws/KeepCanBus.lean ====
section
/-! SUPPORT. The shared operations of `Machine/CanBus.lean` leave the queue of commands as it is and keep the invariant. -/

namespace Sys2Proof.Machine

@[simp] theorem State.canStart_pending (s : State) (c k : Nat) : (s.canStart c k).pending = s.pending := by
  unfold State.canStart; try dsimp only
  iterate 25 all_goals try with_reducible (first
      | rfl | refine (State.setCan_pending ..).trans ?_ | refine (State.emit_pending ..).trans ?_
      | apply ite_pending | split | refine (foldl_pending _ (fun _ _ => ?_) _ _).trans ?_ | dsimp only)

theorem State.canStart_inv (s : State) (c k : Nat) (h : s.Inv) : (s.canStart c k).Inv := by
  unfold State.canStart; try dsimp only
  iterate 25 all_goals try with_reducible (first
      | assumption | apply State.setCan_inv | apply State.emit_inv | apply ite_inv | split
      | (apply foldl_inv; intro _ _ _)
      | refine State.Inv.upd (by rfl) (by rfl) (by rfl) (by rfl) (by rfl) (by rfl) (by rfl) (by rfl) ?_)

@[simp] theorem State.canJudge_pending (s : State) (c t : Nat) : (s.canJudge c t).pending = s.pending := by
  unfold State.canJudge; try dsimp only
  iterate 25 all_goals try with_reducible (first
      | rfl | refine (State.raise_pending ..).trans ?_ | refine (State.clear_pending ..).trans ?_
      | apply ite_pending | split | refine (foldl_pending _ (fun _ _ => ?_) _ _).trans ?_ | dsimp only)

theorem State.canJudge_inv (s : State) (c t : Nat) (h : s.Inv) : (s.canJudge c t).Inv := by
  unfold State.canJudge; try dsimp only
  iterate 25 all_goals try with_reducible (first
      | assumption | apply State.raise_inv | apply State.clear_inv | apply ite_inv | split
      | (apply foldl_inv; intro _ _ _)
      | refine State.Inv.upd (by rfl) (by rfl) (by rfl) (by rfl) (by rfl) (by rfl) (by rfl) (by rfl) ?_)

@[simp] theorem State.bufTake_pending (s : State) (c k : Nat) (f : CanFrame × BitVec 32) (t : Nat)
    : (s.bufTake c k f t).pending = s.pending := by
  unfold State.bufTake; try dsimp only
  iterate 25 all_goals try with_reducible (first
      | rfl | refine (State.setCan_pending ..).trans ?_ | refine (State.raise_pending ..).trans ?_
      | apply ite_pending | split | refine (foldl_pending _ (fun _ _ => ?_) _ _).trans ?_ | dsimp only)

theorem State.bufTake_inv (s : State) (c k : Nat) (f : CanFrame × BitVec 32) (t : Nat) (h : s.Inv)
    : (s.bufTake c k f t).Inv := by
  unfold State.bufTake; try dsimp only
  iterate 25 all_goals try with_reducible (first
      | assumption | apply State.setCan_inv | apply State.raise_inv | apply ite_inv | split
      | (apply foldl_inv; intro _ _ _)
      | refine State.Inv.upd (by rfl) (by rfl) (by rfl) (by rfl) (by rfl) (by rfl) (by rfl) (by rfl) ?_)

@[simp] theorem State.bufRelease_pending (s : State) (c k : Nat) (hold : Option Nat)
    : (s.bufRelease c k hold).pending = s.pending := by
  unfold State.bufRelease; try dsimp only
  iterate 25 all_goals try with_reducible (first
      | rfl | refine (State.setCan_pending ..).trans ?_ | apply ite_pending | split
      | refine (foldl_pending _ (fun _ _ => ?_) _ _).trans ?_ | dsimp only)

theorem State.bufRelease_inv (s : State) (c k : Nat) (hold : Option Nat) (h : s.Inv)
    : (s.bufRelease c k hold).Inv := by
  unfold State.bufRelease; try dsimp only
  iterate 25 all_goals try with_reducible (first
      | assumption | apply State.setCan_inv | apply ite_inv | split | (apply foldl_inv; intro _ _ _)
      | refine State.Inv.upd (by rfl) (by rfl) (by rfl) (by rfl) (by rfl) (by rfl) (by rfl) (by rfl) ?_)

@[simp] theorem State.bufReleaseAll_pending (s : State) (slot : Nat)
    : (s.bufReleaseAll slot).pending = s.pending := by
  unfold State.bufReleaseAll; try dsimp only
  iterate 25 all_goals try with_reducible (first
      | rfl | refine (State.bufRelease_pending ..).trans ?_ | apply ite_pending | split
      | refine (foldl_pending _ (fun _ _ => ?_) _ _).trans ?_ | dsimp only)

theorem State.bufReleaseAll_inv (s : State) (slot : Nat) (h : s.Inv) : (s.bufReleaseAll slot).Inv := by
  unfold State.bufReleaseAll; try dsimp only
  iterate 25 all_goals try with_reducible (first
      | assumption | apply State.bufRelease_inv | apply ite_inv | split | (apply foldl_inv; intro _ _ _)
      | refine State.Inv.upd (by rfl) (by rfl) (by rfl) (by rfl) (by rfl) (by rfl) (by rfl) (by rfl) ?_)

@[simp] theorem State.canReset_pending (s : State) (c : Nat) : (s.canReset c).pending = s.pending := by
  unfold State.canReset; try dsimp only
  iterate 25 all_goals try with_reducible (first
      | rfl | refine (State.setCan_pending ..).trans ?_ | apply ite_pending | split
      | refine (foldl_pending _ (fun _ _ => ?_) _ _).trans ?_ | dsimp only)

theorem State.canReset_inv (s : State) (c : Nat) (h : s.Inv) : (s.canReset c).Inv := by
  unfold State.canReset; try dsimp only
  iterate 25 all_goals try with_reducible (first
      | assumption | apply State.setCan_inv | apply ite_inv | split | (apply foldl_inv; intro _ _ _)
      | refine State.Inv.upd (by rfl) (by rfl) (by rfl) (by rfl) (by rfl) (by rfl) (by rfl) (by rfl) ?_)

end Sys2Proof.Machine
end

