-- ==== Sys2Proof/Laws/KeepBoot.lean ====
section
/-! SUPPORT. The shared operations of `Machine/Boot.lean` leave the queue of commands as it is and keep the invariant. -/

namespace Sys2Proof.Machine

@[simp] theorem State.setGen_pending (s : State) (g : Nat) (x : Gen) : (s.setGen g x).pending = s.pending := by
  unfold State.setGen; try dsimp only
  iterate 25 all_goals try with_reducible (first
      | rfl | apply ite_pending | split | refine (foldl_pending _ (fun _ _ => ?_) _ _).trans ?_ | dsimp only)

theorem State.setGen_inv (s : State) (g : Nat) (x : Gen) (h : s.Inv) : (s.setGen g x).Inv := by
  unfold State.setGen; try dsimp only
  iterate 25 all_goals try with_reducible (first
      | assumption | apply ite_inv | split | (apply foldl_inv; intro _ _ _)
      | refine State.Inv.upd (by rfl) (by rfl) (by rfl) (by rfl) (by rfl) (by rfl) (by rfl) (by rfl) ?_)

@[simp] theorem State.setFwSlot_pending (s : State) (k : Nat) (x : FwSlot)
    : (s.setFwSlot k x).pending = s.pending := by
  unfold State.setFwSlot; try dsimp only
  iterate 25 all_goals try with_reducible (first
      | rfl | apply ite_pending | split | refine (foldl_pending _ (fun _ _ => ?_) _ _).trans ?_ | dsimp only)

theorem State.setFwSlot_inv (s : State) (k : Nat) (x : FwSlot) (h : s.Inv) : (s.setFwSlot k x).Inv := by
  unfold State.setFwSlot; try dsimp only
  iterate 25 all_goals try with_reducible (first
      | assumption | apply ite_inv | split | (apply foldl_inv; intro _ _ _)
      | refine State.Inv.upd (by rfl) (by rfl) (by rfl) (by rfl) (by rfl) (by rfl) (by rfl) (by rfl) ?_)

@[simp] theorem State.flushJournal_pending (s : State) : s.flushJournal.pending = s.pending := by
  unfold State.flushJournal; try dsimp only
  iterate 25 all_goals try with_reducible (first
      | rfl | refine (State.storeWear_pending ..).trans ?_ | refine (State.copyEvents_pending ..).trans ?_
      | apply ite_pending | split | refine (foldl_pending _ (fun _ _ => ?_) _ _).trans ?_ | dsimp only)

theorem State.flushJournal_inv (s : State) (h : s.Inv) : s.flushJournal.Inv := by
  unfold State.flushJournal; try dsimp only
  iterate 25 all_goals try with_reducible (first
      | assumption | apply State.storeWear_inv | apply State.copyEvents_inv | apply ite_inv | split
      | (apply foldl_inv; intro _ _ _)
      | refine State.Inv.upd (by rfl) (by rfl) (by rfl) (by rfl) (by rfl) (by rfl) (by rfl) (by rfl) ?_)

@[simp] theorem State.bootRecord_pending (s : State) (result ms : Nat)
    : (s.bootRecord result ms).pending = s.pending := by
  unfold State.bootRecord; try dsimp only
  iterate 25 all_goals try with_reducible (first
      | rfl | apply ite_pending | split | refine (foldl_pending _ (fun _ _ => ?_) _ _).trans ?_ | dsimp only)

theorem State.bootRecord_inv (s : State) (result ms : Nat) (h : s.Inv) : (s.bootRecord result ms).Inv := by
  unfold State.bootRecord; try dsimp only
  iterate 25 all_goals try with_reducible (first
      | assumption | apply ite_inv | split | (apply foldl_inv; intro _ _ _)
      | refine State.Inv.upd (by rfl) (by rfl) (by rfl) (by rfl) (by rfl) (by rfl) (by rfl) (by rfl) ?_)

@[simp] theorem State.fromBoot_pending (s : State) : s.fromBoot.pending = s.pending := by
  unfold State.fromBoot; try dsimp only
  iterate 25 all_goals try with_reducible (first
      | rfl | apply ite_pending | split | refine (foldl_pending _ (fun _ _ => ?_) _ _).trans ?_ | dsimp only)

theorem State.fromBoot_inv (s : State) (h : s.Inv) : s.fromBoot.Inv := by
  refine ⟨nofun, nofun, fun _ => rfl, ?_, h.log, h.stamps, rfl⟩
  simp [State.fromBoot, Evt.reset]

@[simp] theorem State.resetPages_pending (s : State) : s.resetPages.pending = s.pending := by
  unfold State.resetPages; try dsimp only
  iterate 25 all_goals try with_reducible (first
      | rfl | refine (State.setWord_pending ..).trans ?_ | apply ite_pending | split
      | refine (foldl_pending _ (fun _ _ => ?_) _ _).trans ?_ | dsimp only)

theorem State.resetPages_inv (s : State) (h : s.Inv) : s.resetPages.Inv := by
  unfold State.resetPages; try dsimp only
  iterate 25 all_goals try with_reducible (first
      | assumption | apply State.setWord_inv | apply ite_inv | split | (apply foldl_inv; intro _ _ _)
      | refine State.Inv.upd (by rfl) (by rfl) (by rfl) (by rfl) (by rfl) (by rfl) (by rfl) (by rfl) ?_)

@[simp] theorem State.bootStart_pending (s : State) : s.bootStart.pending = s.pending := by
  unfold State.bootStart; try dsimp only
  iterate 25 all_goals try with_reducible (first
      | rfl | refine (State.fromBoot_pending ..).trans ?_ | refine (State.bootRecord_pending ..).trans ?_
      | refine (State.resetPages_pending ..).trans ?_ | apply ite_pending | split
      | refine (foldl_pending _ (fun _ _ => ?_) _ _).trans ?_ | dsimp only)

theorem State.bootStart_inv (s : State) (h : s.Inv) : s.bootStart.Inv := by
  unfold State.bootStart; try dsimp only
  iterate 25 all_goals try with_reducible (first
      | assumption | apply State.fromBoot_inv | apply State.bootRecord_inv | apply State.resetPages_inv
      | apply ite_inv | split | (apply foldl_inv; intro _ _ _)
      | refine State.Inv.upd (by rfl) (by rfl) (by rfl) (by rfl) (by rfl) (by rfl) (by rfl) (by rfl) ?_)

@[simp] theorem State.recordBad_pending (s : State) (region n : Nat)
    : (s.recordBad region n).pending = s.pending := by
  unfold State.recordBad; try dsimp only
  iterate 25 all_goals try with_reducible (first
      | rfl | refine (State.setRec_pending ..).trans ?_ | refine (State.raise_pending ..).trans ?_
      | apply ite_pending | split | refine (foldl_pending _ (fun _ _ => ?_) _ _).trans ?_ | dsimp only)

theorem State.recordBad_inv (s : State) (region n : Nat) (h : s.Inv) : (s.recordBad region n).Inv := by
  unfold State.recordBad
  apply State.raise_inv
  dsimp only
  split
  · exact ⟨h.grant, h.live, h.out, h.queue, Nat.le_trans (List.length_filter_le _ _) h.log, h.stamps, h.mem⟩
  · split
    · exact ⟨h.grant, h.live, h.out, h.queue, h.log, h.stamps, h.mem⟩
    · split
      · exact State.setRec_inv _ _ _ h
      · split
        · exact ⟨h.grant, h.live, h.out, h.queue, h.log, by simpa using h.stamps, h.mem⟩
        · exact h

end Sys2Proof.Machine
end

