-- ==== Sys2Proof/Laws/KeepSystem.lean ====
section
/-! SUPPORT. The shared operations of `Machine/System.lean` leave the queue of commands as it is and keep the invariant. -/

namespace Sys2Proof.Machine

@[simp] theorem State.setFeedLow_pending (s : State) (f : Feed) (low : Bool)
    : (s.setFeedLow f low).pending = s.pending := by
  unfold State.setFeedLow; try dsimp only
  iterate 25 all_goals try with_reducible (first
      | rfl | apply ite_pending | split | refine (foldl_pending _ (fun _ _ => ?_) _ _).trans ?_ | dsimp only)

theorem State.setFeedLow_inv (s : State) (f : Feed) (low : Bool) (h : s.Inv) : (s.setFeedLow f low).Inv := by
  unfold State.setFeedLow; try dsimp only
  iterate 25 all_goals try with_reducible (first
      | assumption | apply ite_inv | split | (apply foldl_inv; intro _ _ _)
      | refine State.Inv.upd (by rfl) (by rfl) (by rfl) (by rfl) (by rfl) (by rfl) (by rfl) (by rfl) ?_)

@[simp] theorem State.lifeCount_pending (s : State) (get : Lifetime → Word) (put
    : Lifetime → Word → Lifetime) (off t : Nat) : (s.lifeCount get put off t).pending = s.pending := by
  unfold State.lifeCount; try dsimp only
  iterate 25 all_goals try with_reducible (first
      | rfl | refine (State.raise_pending ..).trans ?_ | apply ite_pending | split
      | refine (foldl_pending _ (fun _ _ => ?_) _ _).trans ?_ | dsimp only)

theorem State.lifeCount_inv (s : State) (get : Lifetime → Word) (put : Lifetime → Word → Lifetime) (off t
    : Nat) (h : s.Inv) : (s.lifeCount get put off t).Inv := by
  unfold State.lifeCount; try dsimp only
  iterate 25 all_goals try with_reducible (first
      | assumption | apply State.raise_inv | apply ite_inv | split | (apply foldl_inv; intro _ _ _)
      | refine State.Inv.upd (by rfl) (by rfl) (by rfl) (by rfl) (by rfl) (by rfl) (by rfl) (by rfl) ?_)

@[simp] theorem State.dropTxn_pending (s : State) : s.dropTxn.pending = s.pending := by
  unfold State.dropTxn; try dsimp only
  iterate 25 all_goals try with_reducible (first
      | rfl | refine (State.raise_pending ..).trans ?_ | apply ite_pending | split
      | refine (foldl_pending _ (fun _ _ => ?_) _ _).trans ?_ | dsimp only)

theorem State.dropTxn_inv (s : State) (h : s.Inv) : s.dropTxn.Inv := by
  unfold State.dropTxn; try dsimp only
  iterate 25 all_goals try with_reducible (first
      | assumption | apply State.raise_inv | apply ite_inv | split | (apply foldl_inv; intro _ _ _)
      | refine State.Inv.upd (by rfl) (by rfl) (by rfl) (by rfl) (by rfl) (by rfl) (by rfl) (by rfl) ?_)

@[simp] theorem State.liveFalls_pending (s : State) : s.liveFalls.pending = s.pending := by
  unfold State.liveFalls; try dsimp only
  iterate 25 all_goals try with_reducible (first
      | rfl | apply ite_pending | split | refine (foldl_pending _ (fun _ _ => ?_) _ _).trans ?_ | dsimp only)

theorem State.liveFalls_inv (s : State) (h : s.Inv) : s.liveFalls.Inv := ⟨nofun, nofun, fun _ => rfl, h.queue,
    h.log, h.stamps, h.mem⟩

@[simp] theorem State.restart_pending (s : State) : s.restart.pending = s.pending := by
  unfold State.restart; try dsimp only
  iterate 25 all_goals try with_reducible (first
      | rfl | refine (State.bootStart_pending ..).trans ?_ | apply ite_pending | split
      | refine (foldl_pending _ (fun _ _ => ?_) _ _).trans ?_ | dsimp only)

theorem State.restart_inv (s : State) (h : s.Inv) : s.restart.Inv := by
  unfold State.restart; try dsimp only
  iterate 25 all_goals try with_reducible (first
      | assumption | apply State.bootStart_inv | apply ite_inv | split | (apply foldl_inv; intro _ _ _)
      | refine State.Inv.upd (by rfl) (by rfl) (by rfl) (by rfl) (by rfl) (by rfl) (by rfl) (by rfl) ?_)

end Sys2Proof.Machine
end

