-- ==== Sys2Proof/Laws/KeepEffects.lean ====
section
/-! SUPPORT. The shared operations of `Machine/Effects.lean` leave the queue of commands as it is and keep the invariant. -/

namespace Sys2Proof.Machine

@[simp] theorem State.foundReset_pending (s : State) (b : Nat) :
    (s.foundReset b).pending = s.pending := by
  unfold State.foundReset; try dsimp only
  iterate 25 all_goals try with_reducible (first | rfl | refine (State.setStr_pending ..).trans ?_ | apply ite_pending | split | refine (foldl_pending _ (fun _ _ => ?_) _ _).trans ?_ | dsimp only)

theorem State.foundReset_inv (s : State) (b : Nat) (h : s.Inv) :
    (s.foundReset b).Inv := by
  unfold State.foundReset; try dsimp only
  iterate 25 all_goals try with_reducible (first | assumption | apply State.setStr_inv | apply ite_inv | split | (apply foldl_inv; intro _ _ _) | refine State.Inv.upd (by rfl) (by rfl) (by rfl) (by rfl) (by rfl) (by rfl) (by rfl) (by rfl) ?_)

@[simp] theorem State.laneRestate_pending (s : State) (i : Nat) (old w : Word) :
    (s.laneRestate i old w).pending = s.pending := by
  unfold State.laneRestate; try dsimp only
  iterate 25 all_goals try with_reducible (first | rfl | refine (State.setLane_pending ..).trans ?_ | refine (State.dropLocal_pending ..).trans ?_ | refine (State.startAcquire_pending ..).trans ?_ | refine (State.raise_pending ..).trans ?_ | apply ite_pending | split | refine (foldl_pending _ (fun _ _ => ?_) _ _).trans ?_ | dsimp only)

theorem State.laneRestate_inv (s : State) (i : Nat) (old w : Word) (h : s.Inv) :
    (s.laneRestate i old w).Inv := by
  unfold State.laneRestate; try dsimp only
  iterate 25 all_goals try with_reducible (first | assumption | apply State.setLane_inv | apply State.dropLocal_inv | apply State.startAcquire_inv | apply State.raise_inv | apply ite_inv | split | (apply foldl_inv; intro _ _ _) | refine State.Inv.upd (by rfl) (by rfl) (by rfl) (by rfl) (by rfl) (by rfl) (by rfl) (by rfl) ?_)

@[simp] theorem State.laneApply_pending (s : State) (i : Nat) (w : Word) :
    (s.laneApply i w).pending = s.pending := by
  unfold State.laneApply; try dsimp only
  iterate 25 all_goals try with_reducible (first | rfl | refine (State.setWord_pending ..).trans ?_ | refine (State.laneRestate_pending ..).trans ?_ | refine (State.foundReset_pending ..).trans ?_ | refine (State.emit_pending ..).trans ?_ | apply ite_pending | split | refine (foldl_pending _ (fun _ _ => ?_) _ _).trans ?_ | dsimp only)

theorem State.laneApply_inv (s : State) (i : Nat) (w : Word) (h : s.Inv) :
    (s.laneApply i w).Inv := by
  unfold State.laneApply; try dsimp only
  iterate 25 all_goals try with_reducible (first | assumption | apply State.setWord_inv | apply State.laneRestate_inv | apply State.foundReset_inv | apply State.emit_inv | apply ite_inv | split | (apply foldl_inv; intro _ _ _) | refine State.Inv.upd (by rfl) (by rfl) (by rfl) (by rfl) (by rfl) (by rfl) (by rfl) (by rfl) ?_)

@[simp] theorem State.bondApply_pending (s : State) (w : Word) : (s.bondApply w).pending = s.pending := by
  unfold State.bondApply; try dsimp only
  iterate 25 all_goals try with_reducible (first
      | rfl | refine (State.setWord_pending ..).trans ?_ | refine (State.clear_pending ..).trans ?_
      | apply ite_pending | split | refine (foldl_pending _ (fun _ _ => ?_) _ _).trans ?_ | dsimp only)

theorem State.bondApply_inv (s : State) (w : Word) (h : s.Inv) : (s.bondApply w).Inv := by
  unfold State.bondApply; try dsimp only
  iterate 25 all_goals try with_reducible (first
      | assumption | apply State.setWord_inv | apply State.clear_inv | apply ite_inv | split
      | (apply foldl_inv; intro _ _ _)
      | refine State.Inv.upd (by rfl) (by rfl) (by rfl) (by rfl) (by rfl) (by rfl) (by rfl) (by rfl) ?_)

@[simp] theorem State.w1c_pending (s : State) (k : Nat) (w : Word) : (s.w1c k w).pending = s.pending := by
  unfold State.w1c; try dsimp only
  iterate 25 all_goals try with_reducible (first
      | rfl | apply ite_pending | split | refine (foldl_pending _ (fun _ _ => ?_) _ _).trans ?_ | dsimp only)

theorem State.w1c_inv (s : State) (k : Nat) (w : Word) (h : s.Inv) : (s.w1c k w).Inv := by
  unfold State.w1c; try dsimp only
  iterate 25 all_goals try with_reducible (first
      | assumption | apply ite_inv | split | (apply foldl_inv; intro _ _ _)
      | refine State.Inv.upd (by rfl) (by rfl) (by rfl) (by rfl) (by rfl) (by rfl) (by rfl) (by rfl) ?_)

@[simp] theorem State.arbCtl_pending (s : State) (w : Word) : (s.arbCtl w).pending = s.pending := by
  unfold State.arbCtl; try dsimp only
  iterate 25 all_goals try with_reducible (first
      | rfl | refine (State.setWord_pending ..).trans ?_ | refine (State.clear_pending ..).trans ?_
      | apply ite_pending | split | refine (foldl_pending _ (fun _ _ => ?_) _ _).trans ?_ | dsimp only)

theorem State.arbCtl_inv (s : State) (w : Word) (h : s.Inv) : (s.arbCtl w).Inv := by
  unfold State.arbCtl; try dsimp only
  iterate 25 all_goals try with_reducible (first
      | assumption | apply State.setWord_inv | apply State.clear_inv | apply ite_inv | split
      | (apply foldl_inv; intro _ _ _)
      | refine State.Inv.upd (by rfl) (by rfl) (by rfl) (by rfl) (by rfl) (by rfl) (by rfl) (by rfl) ?_)

@[simp] theorem State.arbTkt_pending (s : State) (w : Word) : (s.arbTkt w).pending = s.pending := by
  unfold State.arbTkt; try dsimp only
  iterate 25 all_goals try with_reducible (first
      | rfl | refine (State.setWord_pending ..).trans ?_ | refine (State.setArb_pending ..).trans ?_
      | apply ite_pending | split | refine (foldl_pending _ (fun _ _ => ?_) _ _).trans ?_ | dsimp only)

theorem State.arbTkt_inv (s : State) (w : Word) (h : s.Inv) : (s.arbTkt w).Inv := by
  unfold State.arbTkt; try dsimp only
  iterate 25 all_goals try with_reducible (first
      | assumption | apply State.setWord_inv | apply State.setArb_inv | apply ite_inv | split
      | (apply foldl_inv; intro _ _ _)
      | refine State.Inv.upd (by rfl) (by rfl) (by rfl) (by rfl) (by rfl) (by rfl) (by rfl) (by rfl) ?_)

@[simp] theorem State.arbRevoke_pending (s : State) (i : Nat) : (s.arbRevoke i).pending = s.pending := by
  unfold State.arbRevoke; try dsimp only
  iterate 25 all_goals try with_reducible (first
      | rfl | refine (State.setArb_pending ..).trans ?_ | apply ite_pending | split
      | refine (foldl_pending _ (fun _ _ => ?_) _ _).trans ?_ | dsimp only)

theorem State.arbRevoke_inv (s : State) (i : Nat) (h : s.Inv) : (s.arbRevoke i).Inv := by
  unfold State.arbRevoke; try dsimp only
  iterate 25 all_goals try with_reducible (first
      | assumption | apply State.setArb_inv | apply ite_inv | split | (apply foldl_inv; intro _ _ _)
      | refine State.Inv.upd (by rfl) (by rfl) (by rfl) (by rfl) (by rfl) (by rfl) (by rfl) (by rfl) ?_)

@[simp] theorem State.dmaStart_pending (s : State) (ch : Nat) : (s.dmaStart ch).pending = s.pending := by
  unfold State.dmaStart; try dsimp only
  iterate 25 all_goals try with_reducible (first
      | rfl | refine (State.setDma_pending ..).trans ?_ | refine (State.dmaBegin_pending ..).trans ?_
      | apply ite_pending | split | refine (foldl_pending _ (fun _ _ => ?_) _ _).trans ?_ | dsimp only)

theorem State.dmaStart_inv (s : State) (ch : Nat) (h : s.Inv) : (s.dmaStart ch).Inv := by
  unfold State.dmaStart; try dsimp only
  iterate 25 all_goals try with_reducible (first
      | assumption | apply State.setDma_inv | apply State.dmaBegin_inv | apply ite_inv | split
      | (apply foldl_inv; intro _ _ _)
      | refine State.Inv.upd (by rfl) (by rfl) (by rfl) (by rfl) (by rfl) (by rfl) (by rfl) (by rfl) ?_)

@[simp] theorem State.dmaCancel_pending (s : State) (ch : Nat) : (s.dmaCancel ch).pending = s.pending := by
  unfold State.dmaCancel; try dsimp only
  iterate 25 all_goals try with_reducible (first
      | rfl | refine (State.setDma_pending ..).trans ?_ | apply ite_pending | split
      | refine (foldl_pending _ (fun _ _ => ?_) _ _).trans ?_ | dsimp only)

theorem State.dmaCancel_inv (s : State) (ch : Nat) (h : s.Inv) : (s.dmaCancel ch).Inv := by
  unfold State.dmaCancel; try dsimp only
  iterate 25 all_goals try with_reducible (first
      | assumption | apply State.setDma_inv | apply ite_inv | split | (apply foldl_inv; intro _ _ _)
      | refine State.Inv.upd (by rfl) (by rfl) (by rfl) (by rfl) (by rfl) (by rfl) (by rfl) (by rfl) ?_)

@[simp] theorem State.laneCmd_pending (s : State) (i cmd : Nat) : (s.laneCmd i cmd).pending = s.pending := by
  unfold State.laneCmd; try dsimp only
  iterate 25 all_goals try with_reducible (first
      | rfl | refine (State.setLane_pending ..).trans ?_ | apply ite_pending | split
      | refine (foldl_pending _ (fun _ _ => ?_) _ _).trans ?_ | dsimp only)

theorem State.laneCmd_inv (s : State) (i cmd : Nat) (h : s.Inv) : (s.laneCmd i cmd).Inv := by
  unfold State.laneCmd; try dsimp only
  iterate 25 all_goals try with_reducible (first
      | assumption | apply State.setLane_inv | apply ite_inv | split | (apply foldl_inv; intro _ _ _)
      | refine State.Inv.upd (by rfl) (by rfl) (by rfl) (by rfl) (by rfl) (by rfl) (by rfl) (by rfl) ?_)

@[simp] theorem State.sendLbk_pending (s : State) (b pos cmd : Nat) :
    (s.sendLbk b pos cmd).pending = s.pending := by
  unfold State.sendLbk; try dsimp only
  iterate 25 all_goals try with_reducible (first | rfl | refine (State.emit_pending ..).trans ?_ | apply ite_pending | split | refine (foldl_pending _ (fun _ _ => ?_) _ _).trans ?_ | dsimp only)

theorem State.sendLbk_inv (s : State) (b pos cmd : Nat) (h : s.Inv) :
    (s.sendLbk b pos cmd).Inv := by
  unfold State.sendLbk; try dsimp only
  iterate 25 all_goals try with_reducible (first | assumption | apply State.emit_inv | apply ite_inv | split | (apply foldl_inv; intro _ _ _) | refine State.Inv.upd (by rfl) (by rfl) (by rfl) (by rfl) (by rfl) (by rfl) (by rfl) (by rfl) ?_)

@[simp] theorem State.applyWord_pending (s : State) (k : Nat) (w : Word) (t : Nat) :
    (s.applyWord k w t).pending = s.pending := by
  unfold State.applyWord; try dsimp only
  iterate 25 all_goals try with_reducible (first | rfl | refine (State.laneApply_pending ..).trans ?_ | refine (State.bondApply_pending ..).trans ?_ | refine (State.laneCmd_pending ..).trans ?_ | refine (State.sendLbk_pending ..).trans ?_ | refine (State.setWord_pending ..).trans ?_ | refine (State.timeSrcSet_pending ..).trans ?_ | refine (State.ptpSelect_pending ..).trans ?_ | refine (State.arbCtl_pending ..).trans ?_ | refine (State.arbTkt_pending ..).trans ?_ | refine (State.arbRevoke_pending ..).trans ?_ | refine (State.dmaStart_pending ..).trans ?_ | refine (State.dmaCancel_pending ..).trans ?_ | refine (State.blotTrigger_pending ..).trans ?_ | refine (State.setConv_pending ..).trans ?_ | refine (State.w1c_pending ..).trans ?_ | apply ite_pending | split | refine (foldl_pending _ (fun _ _ => ?_) _ _).trans ?_ | dsimp only)

theorem State.applyWord_inv (s : State) (k : Nat) (w : Word) (t : Nat) (h : s.Inv) :
    (s.applyWord k w t).Inv := by
  unfold State.applyWord; try dsimp only
  iterate 25 all_goals try with_reducible (first | assumption | apply State.laneApply_inv | apply State.bondApply_inv | apply State.laneCmd_inv | apply State.sendLbk_inv | apply State.setWord_inv | apply State.timeSrcSet_inv | apply State.ptpSelect_inv | apply State.arbCtl_inv | apply State.arbTkt_inv | apply State.arbRevoke_inv | apply State.dmaStart_inv | apply State.dmaCancel_inv | apply State.blotTrigger_inv | apply State.setConv_inv | apply State.w1c_inv | apply ite_inv | split | (apply foldl_inv; intro _ _ _) | refine State.Inv.upd (by rfl) (by rfl) (by rfl) (by rfl) (by rfl) (by rfl) (by rfl) (by rfl) ?_)

@[simp] theorem State.applySess_pending (s : State) (i k : Nat) (w : Word)
    : (s.applySess i k w).pending = s.pending := by
  unfold State.applySess; try dsimp only
  iterate 25 all_goals try with_reducible (first
      | rfl | refine (State.setSess_pending ..).trans ?_ | refine (State.bufReleaseAll_pending ..).trans ?_
      | apply ite_pending | split | refine (foldl_pending _ (fun _ _ => ?_) _ _).trans ?_ | dsimp only)

theorem State.applySess_inv (s : State) (i k : Nat) (w : Word) (h : s.Inv) : (s.applySess i k w).Inv := by
  unfold State.applySess; try dsimp only
  iterate 25 all_goals try with_reducible (first
      | assumption | apply State.setSess_inv | apply State.bufReleaseAll_inv | apply ite_inv | split
      | (apply foldl_inv; intro _ _ _)
      | refine State.Inv.upd (by rfl) (by rfl) (by rfl) (by rfl) (by rfl) (by rfl) (by rfl) (by rfl) ?_)

@[simp] theorem State.withWords_pending (s : State) (l : List (Nat × Word))
    : (s.withWords l).pending = s.pending := by
  unfold State.withWords; try dsimp only
  iterate 25 all_goals try with_reducible (first
      | rfl | refine (State.setWord_pending ..).trans ?_ | apply ite_pending | split
      | refine (foldl_pending _ (fun _ _ => ?_) _ _).trans ?_ | dsimp only)

theorem State.withWords_inv (s : State) (l : List (Nat × Word)) (h : s.Inv) : (s.withWords l).Inv := by
  unfold State.withWords; try dsimp only
  iterate 25 all_goals try with_reducible (first
      | assumption | apply State.setWord_inv | apply ite_inv | split | (apply foldl_inv; intro _ _ _)
      | refine State.Inv.upd (by rfl) (by rfl) (by rfl) (by rfl) (by rfl) (by rfl) (by rfl) (by rfl) ?_)

@[simp] theorem State.withdraw_pending (s : State) (ci : Nat) :
    (s.withdraw ci).pending = s.pending := by
  unfold State.withdraw; try dsimp only
  iterate 25 all_goals try with_reducible (first | rfl | refine (State.opEnd_pending ..).trans ?_ | refine (State.setCell_pending ..).trans ?_ | refine (State.setMg_pending ..).trans ?_ | refine (State.backToFound_pending ..).trans ?_ | apply ite_pending | split | refine (foldl_pending _ (fun _ _ => ?_) _ _).trans ?_ | dsimp only)

theorem State.withdraw_inv (s : State) (ci : Nat) (h : s.Inv) :
    (s.withdraw ci).Inv := by
  unfold State.withdraw; try dsimp only
  iterate 25 all_goals try with_reducible (first | assumption | apply State.opEnd_inv | apply State.setCell_inv | apply State.setMg_inv | apply State.backToFound_inv | apply ite_inv | split | (apply foldl_inv; intro _ _ _) | refine State.Inv.upd (by rfl) (by rfl) (by rfl) (by rfl) (by rfl) (by rfl) (by rfl) (by rfl) ?_)

@[simp] theorem State.stringFresh_pending (s : State) (b : Nat) :
    (s.stringFresh b).pending = s.pending := by
  unfold State.stringFresh; try dsimp only
  iterate 25 all_goals try with_reducible (first | rfl | refine (State.foundReset_pending ..).trans ?_ | refine (State.setStr_pending ..).trans ?_ | apply ite_pending | split | refine (foldl_pending _ (fun _ _ => ?_) _ _).trans ?_ | dsimp only)

theorem State.stringFresh_inv (s : State) (b : Nat) (h : s.Inv) :
    (s.stringFresh b).Inv := by
  unfold State.stringFresh; try dsimp only
  iterate 25 all_goals try with_reducible (first | assumption | apply State.foundReset_inv | apply State.setStr_inv | apply ite_inv | split | (apply foldl_inv; intro _ _ _) | refine State.Inv.upd (by rfl) (by rfl) (by rfl) (by rfl) (by rfl) (by rfl) (by rfl) (by rfl) ?_)

@[simp] theorem State.commitTopo_pending (s o : State) (ks : List Nat) :
    (s.commitTopo o ks).pending = s.pending := by
  unfold State.commitTopo; try dsimp only
  iterate 25 all_goals try with_reducible (first | rfl | refine (State.withdraw_pending ..).trans ?_ | refine (State.stringFresh_pending ..).trans ?_ | refine (State.buildBlocked_pending ..).trans ?_ | refine (State.clear_pending ..).trans ?_ | refine (State.setCell_pending ..).trans ?_ | refine (State.wearEnable_pending ..).trans ?_ | apply ite_pending | split | refine (foldl_pending _ (fun _ _ => ?_) _ _).trans ?_ | dsimp only)

theorem State.commitTopo_inv (s o : State) (ks : List Nat) (h : s.Inv) :
    (s.commitTopo o ks).Inv := by
  unfold State.commitTopo; try dsimp only
  iterate 25 all_goals try with_reducible (first | assumption | apply State.withdraw_inv | apply State.stringFresh_inv | apply State.buildBlocked_inv | apply State.clear_inv | apply State.setCell_inv | apply State.wearEnable_inv | apply ite_inv | split | (apply foldl_inv; intro _ _ _) | refine State.Inv.upd (by rfl) (by rfl) (by rfl) (by rfl) (by rfl) (by rfl) (by rfl) (by rfl) ?_)

@[simp] theorem State.storeSafety_pending (s : State) : s.storeSafety.pending = s.pending := by
  unfold State.storeSafety; try dsimp only
  iterate 25 all_goals try with_reducible (first
      | rfl | apply ite_pending | split | refine (foldl_pending _ (fun _ _ => ?_) _ _).trans ?_ | dsimp only)

theorem State.storeSafety_inv (s : State) (h : s.Inv) : s.storeSafety.Inv := by
  unfold State.storeSafety; try dsimp only
  iterate 25 all_goals try with_reducible (first
      | assumption | apply ite_inv | split | (apply foldl_inv; intro _ _ _)
      | refine State.Inv.upd (by rfl) (by rfl) (by rfl) (by rfl) (by rfl) (by rfl) (by rfl) (by rfl) ?_)

@[simp] theorem State.commitSafety_pending (s : State) : s.commitSafety.pending = s.pending := by
  unfold State.commitSafety; try dsimp only
  iterate 25 all_goals try with_reducible (first
      | rfl | refine (State.storeSafety_pending ..).trans ?_ | refine (State.safLock_pending ..).trans ?_
      | apply ite_pending | split | refine (foldl_pending _ (fun _ _ => ?_) _ _).trans ?_ | dsimp only)

theorem State.commitSafety_inv (s : State) (h : s.Inv) : s.commitSafety.Inv := by
  unfold State.commitSafety; try dsimp only
  iterate 25 all_goals try with_reducible (first
      | assumption | apply State.storeSafety_inv | apply State.safLock_inv | apply ite_inv | split
      | (apply foldl_inv; intro _ _ _)
      | refine State.Inv.upd (by rfl) (by rfl) (by rfl) (by rfl) (by rfl) (by rfl) (by rfl) (by rfl) ?_)

@[simp] theorem State.joinGroup_pending (s : State) (j : Nat) :
    (s.joinGroup j).pending = s.pending := by
  unfold State.joinGroup; try dsimp only
  iterate 25 all_goals try with_reducible (first | rfl | refine (State.sendNet_pending ..).trans ?_ | apply ite_pending | split | refine (foldl_pending _ (fun _ _ => ?_) _ _).trans ?_ | dsimp only)

theorem State.joinGroup_inv (s : State) (j : Nat) (h : s.Inv) :
    (s.joinGroup j).Inv := by
  unfold State.joinGroup; try dsimp only
  iterate 25 all_goals try with_reducible (first | assumption | apply State.sendNet_inv | apply ite_inv | split | (apply foldl_inv; intro _ _ _) | refine State.Inv.upd (by rfl) (by rfl) (by rfl) (by rfl) (by rfl) (by rfl) (by rfl) (by rfl) ?_)

@[simp] theorem State.commitNet_pending (s o : State) (ks : List Nat) (owner : BitVec 16)
    : (s.commitNet o ks owner).pending = s.pending := by
  unfold State.commitNet; try dsimp only
  iterate 25 all_goals try with_reducible (first
      | rfl | refine (State.setSess_pending ..).trans ?_ | refine (State.announceIp_pending ..).trans ?_
      | refine (State.canReset_pending ..).trans ?_ | refine (State.joinGroup_pending ..).trans ?_
      | refine (State.streamCommit_pending ..).trans ?_ | refine (State.ptpSelect_pending ..).trans ?_
      | apply ite_pending | split | refine (foldl_pending _ (fun _ _ => ?_) _ _).trans ?_ | dsimp only)

theorem State.commitNet_inv (s o : State) (ks : List Nat) (owner : BitVec 16) (h : s.Inv)
    : (s.commitNet o ks owner).Inv := by
  unfold State.commitNet; try dsimp only
  iterate 25 all_goals try with_reducible (first
      | assumption | apply State.setSess_inv | apply State.announceIp_inv | apply State.canReset_inv
      | apply State.joinGroup_inv | apply State.streamCommit_inv | apply State.ptpSelect_inv | apply ite_inv
      | split | (apply foldl_inv; intro _ _ _)
      | refine State.Inv.upd (by rfl) (by rfl) (by rfl) (by rfl) (by rfl) (by rfl) (by rfl) (by rfl) ?_)

@[simp] theorem State.commitPair_pending (s o : State) : (s.commitPair o).pending = s.pending := by
  unfold State.commitPair; try dsimp only
  iterate 25 all_goals try with_reducible (first
      | rfl | apply ite_pending | split | refine (foldl_pending _ (fun _ _ => ?_) _ _).trans ?_ | dsimp only)

theorem State.commitPair_inv (s o : State) (h : s.Inv) : (s.commitPair o).Inv := by
  unfold State.commitPair
  split
  · exact ⟨nofun, nofun, fun _ => rfl, h.queue, h.log, h.stamps, h.mem⟩
  · split
    · exact ⟨nofun, nofun, fun _ => rfl, h.queue, h.log, h.stamps, h.mem⟩
    · exact h

@[simp] theorem State.commitWords_pending (s : State) (l : List (Nat × Word)) (slot : Nat) (owner : BitVec 16) :
    (s.commitWords l slot owner).pending = s.pending := by
  unfold State.commitWords; try dsimp only
  iterate 25 all_goals try with_reducible (first | rfl | refine (State.applyWord_pending ..).trans ?_ | refine (State.setWord_pending ..).trans ?_ | refine (State.restartLoops_pending ..).trans ?_ | refine (State.applySess_pending ..).trans ?_ | refine (State.inkWrite_pending ..).trans ?_ | refine (State.commitTopo_pending ..).trans ?_ | refine (State.commitSafety_pending ..).trans ?_ | refine (State.commitNet_pending ..).trans ?_ | refine (State.supCommit_pending ..).trans ?_ | refine (State.adcRestart_pending ..).trans ?_ | refine (State.commitPair_pending ..).trans ?_ | refine (State.mirrorJudge_pending ..).trans ?_ | apply ite_pending | split | refine (foldl_pending _ (fun _ _ => ?_) _ _).trans ?_ | dsimp only)

theorem State.commitWords_inv (s : State) (l : List (Nat × Word)) (slot : Nat) (owner : BitVec 16) (h : s.Inv) :
    (s.commitWords l slot owner).Inv := by
  unfold State.commitWords; try dsimp only
  iterate 25 all_goals try with_reducible (first | assumption | apply State.applyWord_inv | apply State.setWord_inv | apply State.restartLoops_inv | apply State.applySess_inv | apply State.inkWrite_inv | apply State.commitTopo_inv | apply State.commitSafety_inv | apply State.commitNet_inv | apply State.supCommit_inv | apply State.adcRestart_inv | apply State.commitPair_inv | apply State.mirrorJudge_inv | apply ite_inv | split | (apply foldl_inv; intro _ _ _) | refine State.Inv.upd (by rfl) (by rfl) (by rfl) (by rfl) (by rfl) (by rfl) (by rfl) (by rfl) ?_)

@[simp] theorem State.commitAhead_pending (s : State) (l : List (Nat × Word)) (due : Nat)
    : (s.commitAhead l due).pending = s.pending := by
  unfold State.commitAhead; try dsimp only
  iterate 25 all_goals try with_reducible (first
      | rfl | refine (State.setDstack_pending ..).trans ?_ | refine (State.stageGen_pending ..).trans ?_
      | apply ite_pending | split | refine (foldl_pending _ (fun _ _ => ?_) _ _).trans ?_ | dsimp only)

theorem State.commitAhead_inv (s : State) (l : List (Nat × Word)) (due : Nat) (h : s.Inv)
    : (s.commitAhead l due).Inv := by
  unfold State.commitAhead; try dsimp only
  iterate 25 all_goals try with_reducible (first
      | assumption | apply State.setDstack_inv | apply State.stageGen_inv | apply ite_inv | split
      | (apply foldl_inv; intro _ _ _)
      | refine State.Inv.upd (by rfl) (by rfl) (by rfl) (by rfl) (by rfl) (by rfl) (by rfl) (by rfl) ?_)

end Sys2Proof.Machine
end

