-- ==== Sys2Proof/Laws/KeepRequests.lean ====
section
/-! SUPPORT. The shared operations of `Machine/Requests.lean` leave the queue of commands as it is and keep the invariant. -/

namespace Sys2Proof.Machine

@[simp] theorem State.closeSess_pending (s : State) (i : Nat) : (s.closeSess i).pending = s.pending := by
  unfold State.closeSess; try dsimp only
  iterate 25 all_goals try with_reducible (first
      | rfl | refine (State.bufReleaseAll_pending ..).trans ?_ | refine (State.dropTxn_pending ..).trans ?_
      | refine (State.setSess_pending ..).trans ?_ | apply ite_pending | split
      | refine (foldl_pending _ (fun _ _ => ?_) _ _).trans ?_ | dsimp only)

theorem State.closeSess_inv (s : State) (i : Nat) (h : s.Inv) : (s.closeSess i).Inv := by
  unfold State.closeSess; try dsimp only
  iterate 25 all_goals try with_reducible (first
      | assumption | apply State.bufReleaseAll_inv | apply State.dropTxn_inv | apply State.setSess_inv
      | apply ite_inv | split | (apply foldl_inv; intro _ _ _)
      | refine State.Inv.upd (by rfl) (by rfl) (by rfl) (by rfl) (by rfl) (by rfl) (by rfl) (by rfl) ?_)

@[simp] theorem State.sendPacket_pending (s : State) (i : Nat) (b : List Byte) :
    (s.sendPacket i b).pending = s.pending := by
  unfold State.sendPacket; try dsimp only
  iterate 25 all_goals try with_reducible (first | rfl | refine (State.closeSess_pending ..).trans ?_ | refine (State.setSess_pending ..).trans ?_ | refine (State.sendUdp_pending ..).trans ?_ | apply ite_pending | split | refine (foldl_pending _ (fun _ _ => ?_) _ _).trans ?_ | dsimp only)

theorem State.sendPacket_inv (s : State) (i : Nat) (b : List Byte) (h : s.Inv) :
    (s.sendPacket i b).Inv := by
  unfold State.sendPacket; try dsimp only
  iterate 25 all_goals try with_reducible (first | assumption | apply State.closeSess_inv | apply State.setSess_inv | apply State.sendUdp_inv | apply ite_inv | split | (apply foldl_inv; intro _ _ _) | refine State.Inv.upd (by rfl) (by rfl) (by rfl) (by rfl) (by rfl) (by rfl) (by rfl) (by rfl) ?_)

@[simp] theorem State.reply_pending (s : State) (i op : Nat) (seq : Word) (status : Nat) (payload : List Byte)
    : (s.reply i op seq status payload).pending = s.pending := by
  unfold State.reply; try dsimp only
  iterate 25 all_goals try with_reducible (first
      | rfl | refine (State.setSess_pending ..).trans ?_ | refine (State.reply_pending ..).trans ?_
      | refine (State.sendPacket_pending ..).trans ?_ | apply ite_pending | split
      | refine (foldl_pending _ (fun _ _ => ?_) _ _).trans ?_ | dsimp only)

theorem State.reply_inv (s : State) (i op : Nat) (seq : Word) (status : Nat) (payload : List Byte) (h : s.Inv)
    : (s.reply i op seq status payload).Inv := by
  unfold State.reply; try dsimp only
  iterate 25 all_goals try with_reducible (first
      | assumption | apply State.setSess_inv | apply State.reply_inv | apply State.sendPacket_inv
      | apply ite_inv | split | (apply foldl_inv; intro _ _ _)
      | refine State.Inv.upd (by rfl) (by rfl) (by rfl) (by rfl) (by rfl) (by rfl) (by rfl) (by rfl) ?_)

@[simp] theorem State.replyTo_pending (s : State) (i : Nat) (w : Wait) (status : Nat) (payload : List Byte)
    : (s.replyTo i w status payload).pending = s.pending := by
  unfold State.replyTo; try dsimp only
  iterate 25 all_goals try with_reducible (first
      | rfl | refine (State.reply_pending ..).trans ?_ | apply ite_pending | split
      | refine (foldl_pending _ (fun _ _ => ?_) _ _).trans ?_ | dsimp only)

theorem State.replyTo_inv (s : State) (i : Nat) (w : Wait) (status : Nat) (payload : List Byte) (h : s.Inv)
    : (s.replyTo i w status payload).Inv := by
  unfold State.replyTo; try dsimp only
  iterate 25 all_goals try with_reducible (first
      | assumption | apply State.reply_inv | apply ite_inv | split | (apply foldl_inv; intro _ _ _)
      | refine State.Inv.upd (by rfl) (by rfl) (by rfl) (by rfl) (by rfl) (by rfl) (by rfl) (by rfl) ?_)

@[simp] theorem State.ackReply_pending (s : State) (i : Nat) : (s.ackReply i).pending = s.pending := by
  unfold State.ackReply; try dsimp only
  iterate 25 all_goals try with_reducible (first
      | rfl | refine (State.setSess_pending ..).trans ?_ | refine (State.sendPacket_pending ..).trans ?_
      | refine (State.reply_pending ..).trans ?_ | apply ite_pending | split
      | refine (foldl_pending _ (fun _ _ => ?_) _ _).trans ?_ | dsimp only)

theorem State.ackReply_inv (s : State) (i : Nat) (h : s.Inv) : (s.ackReply i).Inv := by
  unfold State.ackReply; try dsimp only
  iterate 25 all_goals try with_reducible (first
      | assumption | apply State.setSess_inv | apply State.sendPacket_inv | apply State.reply_inv
      | apply ite_inv | split | (apply foldl_inv; intro _ _ _)
      | refine State.Inv.upd (by rfl) (by rfl) (by rfl) (by rfl) (by rfl) (by rfl) (by rfl) (by rfl) ?_)

@[simp] theorem State.flushAcks_pending (s : State) : s.flushAcks.pending = s.pending := by
  unfold State.flushAcks; try dsimp only
  iterate 25 all_goals try with_reducible (first
      | rfl | refine (State.ackReply_pending ..).trans ?_ | apply ite_pending | split
      | refine (foldl_pending _ (fun _ _ => ?_) _ _).trans ?_ | dsimp only)

theorem State.flushAcks_inv (s : State) (h : s.Inv) : s.flushAcks.Inv := by
  unfold State.flushAcks; try dsimp only
  iterate 25 all_goals try with_reducible (first
      | assumption | apply State.ackReply_inv | apply ite_inv | split | (apply foldl_inv; intro _ _ _)
      | refine State.Inv.upd (by rfl) (by rfl) (by rfl) (by rfl) (by rfl) (by rfl) (by rfl) (by rfl) ?_)

@[simp] theorem State.takeRecord_pending (s : State) (r : Req) : (s.takeRecord r).pending = s.pending := by
  unfold State.takeRecord; try dsimp only
  iterate 25 all_goals try with_reducible (first
      | rfl | refine (State.setSess_pending ..).trans ?_ | apply ite_pending | split
      | refine (foldl_pending _ (fun _ _ => ?_) _ _).trans ?_ | dsimp only)

theorem State.takeRecord_inv (s : State) (r : Req) (h : s.Inv) : (s.takeRecord r).Inv := by
  unfold State.takeRecord; try dsimp only
  iterate 25 all_goals try with_reducible (first
      | assumption | apply State.setSess_inv | apply ite_inv | split | (apply foldl_inv; intro _ _ _)
      | refine State.Inv.upd (by rfl) (by rfl) (by rfl) (by rfl) (by rfl) (by rfl) (by rfl) (by rfl) ?_)

/-- What a command's own part answers leaves the queue as it is and keeps the invariant. -/
def Answer.Keeps (u : State) : Answer → Prop
  | .refuse _ => True
  | .fails t _ => t.pending = u.pending ∧ (u.Inv → t.Inv)
  | .done t _ _ => t.pending = u.pending ∧ (u.Inv → t.Inv)
  | .later t _ => t.pending = u.pending ∧ (u.Inv → t.Inv)
  | .closes t => t.pending = u.pending ∧ (u.Inv → t.Inv)
  | .restarts t => t.pending = u.pending ∧ (u.Inv → t.Inv)

theorem State.execute_pending (s : State) (r : Req) (op minRole : Nat) (f : State → Nat → Answer) (hf
    : ∀ u i, (f u i).Keeps u) : (s.execute r op minRole f).pending = s.pending := by
  unfold State.execute
  dsimp only
  split
  · simp
  · have k := hf (s.setSess (r.sid.toNat % 8) { s.sess (r.sid.toNat % 8) with lastSeq := some r.seq }) (r.sid.toNat % 8)
    split <;> rename_i e <;> simp only [e, Answer.Keeps, State.setSess_pending] at k <;> try simp [k]
    split <;> simp [k]

theorem State.execute_inv (s : State) (r : Req) (op minRole : Nat) (f : State → Nat → Answer) (hf
    : ∀ u i, (f u i).Keeps u) (h : s.Inv) : (s.execute r op minRole f).Inv := by
  unfold State.execute
  dsimp only
  have h1 := State.setSess_inv s (r.sid.toNat % 8) { s.sess (r.sid.toNat % 8) with lastSeq := some r.seq } h
  split
  · exact State.reply_inv _ _ _ _ _ _ h1
  · have k := hf (s.setSess (r.sid.toNat % 8) { s.sess (r.sid.toNat % 8) with lastSeq := some r.seq }) (r.sid.toNat % 8)
    split <;> rename_i e <;> simp only [e, Answer.Keeps] at k
    · exact State.reply_inv _ _ _ _ _ _ h1
    · exact State.reply_inv _ _ _ _ _ _ (k.2 h1)
    · exact State.reply_inv _ _ _ _ _ _ (k.2 h1)
    · exact State.setSess_inv _ _ _ (k.2 h1)
    · exact State.closeSess_inv _ _ (State.reply_inv _ _ _ _ _ _ (k.2 h1))
    · have h2 := State.flushJournal_inv _ (State.dropTxn_inv _ (State.reply_inv _ (r.sid.toNat % 8) op r.seq stOk [] (k.2 h1)))
      split
      · exact State.Inv.congr (State.startGiveUp_inv _ h2) rfl rfl rfl rfl rfl rfl rfl rfl
      · exact State.restart_inv _ h2

theorem State.serve_pending (s : State) (r : Req) (op minRole : Nat) (f : State → Nat → Answer) (hf
    : ∀ u i, (f u i).Keeps u) : (s.serve r op minRole f).pending = s.pending := by
  unfold State.serve
  dsimp only
  (repeat' split) <;> simp [State.execute_pending _ _ _ _ _ hf]

theorem State.serve_inv (s : State) (r : Req) (op minRole : Nat) (f : State → Nat → Answer) (hf
    : ∀ u i, (f u i).Keeps u) (h : s.Inv) : (s.serve r op minRole f).Inv := by
  unfold State.serve
  dsimp only
  split
  · exact State.sysReject_inv _ _ h
  · have h1 := State.takeRecord_inv s r h
    split
    · exact State.sysReject_inv _ _ h1
    · split
      · exact State.execute_inv _ _ _ _ _ hf h1
      · split
        · exact State.sendPacket_inv _ _ _ h1
        · exact State.sysReject_inv _ _ h1

@[simp] theorem State.addRecord_pending (s : State) (kind slot page offset effect : Nat) (value : Word)
    : (s.addRecord kind slot page offset effect value).pending = s.pending := by
  unfold State.addRecord; try dsimp only
  iterate 25 all_goals try with_reducible (first
      | rfl | apply ite_pending | split | refine (foldl_pending _ (fun _ _ => ?_) _ _).trans ?_ | dsimp only)

theorem State.addRecord_inv (s : State) (kind slot page offset effect : Nat) (value : Word) (h : s.Inv)
    : (s.addRecord kind slot page offset effect value).Inv := by
  unfold State.addRecord; try dsimp only
  iterate 25 all_goals try with_reducible (first
      | assumption | apply ite_inv | split | (apply foldl_inv; intro _ _ _)
      | refine State.Inv.upd (by rfl) (by rfl) (by rfl) (by rfl) (by rfl) (by rfl) (by rfl) (by rfl) ?_)

@[simp] theorem State.awaitAck_pending (s : State) (i : Nat) : (s.awaitAck i).pending = s.pending := by
  unfold State.awaitAck; try dsimp only
  iterate 25 all_goals try with_reducible (first
      | rfl | apply ite_pending | split | refine (foldl_pending _ (fun _ _ => ?_) _ _).trans ?_ | dsimp only)

theorem State.awaitAck_inv (s : State) (i : Nat) (h : s.Inv) : (s.awaitAck i).Inv := by
  unfold State.awaitAck; try dsimp only
  iterate 25 all_goals try with_reducible (first
      | assumption | apply ite_inv | split | (apply foldl_inv; intro _ _ _)
      | refine State.Inv.upd (by rfl) (by rfl) (by rfl) (by rfl) (by rfl) (by rfl) (by rfl) (by rfl) ?_)

@[simp] theorem State.sendHandshake_pending (s : State) (q : Peer) (sid msg : Nat) (body : List Byte) :
    (s.sendHandshake q sid msg body).pending = s.pending := by
  unfold State.sendHandshake; try dsimp only
  iterate 25 all_goals try with_reducible (first | rfl | refine (State.sendUdp_pending ..).trans ?_ | apply ite_pending | split | refine (foldl_pending _ (fun _ _ => ?_) _ _).trans ?_ | dsimp only)

theorem State.sendHandshake_inv (s : State) (q : Peer) (sid msg : Nat) (body : List Byte) (h : s.Inv) :
    (s.sendHandshake q sid msg body).Inv := by
  unfold State.sendHandshake; try dsimp only
  iterate 25 all_goals try with_reducible (first | assumption | apply State.sendUdp_inv | apply ite_inv | split | (apply foldl_inv; intro _ _ _) | refine State.Inv.upd (by rfl) (by rfl) (by rfl) (by rfl) (by rfl) (by rfl) (by rfl) (by rfl) ?_)

@[simp] theorem State.alert_pending (s : State) (q : Peer) (sid status : Nat) (keyId : Word) (t : Nat) :
    (s.alert q sid status keyId t).pending = s.pending := by
  unfold State.alert; try dsimp only
  iterate 25 all_goals try with_reducible (first | rfl | refine (State.sendHandshake_pending ..).trans ?_ | refine (State.raise_pending ..).trans ?_ | apply ite_pending | split | refine (foldl_pending _ (fun _ _ => ?_) _ _).trans ?_ | dsimp only)

theorem State.alert_inv (s : State) (q : Peer) (sid status : Nat) (keyId : Word) (t : Nat) (h : s.Inv) :
    (s.alert q sid status keyId t).Inv := by
  unfold State.alert; try dsimp only
  iterate 25 all_goals try with_reducible (first | assumption | apply State.sendHandshake_inv | apply State.raise_inv | apply ite_inv | split | (apply foldl_inv; intro _ _ _) | refine State.Inv.upd (by rfl) (by rfl) (by rfl) (by rfl) (by rfl) (by rfl) (by rfl) (by rfl) ?_)

@[simp] theorem State.openSess_pending (s : State) (a : Attempt) (q : Peer) :
    (s.openSess a q).pending = s.pending := by
  unfold State.openSess; try dsimp only
  iterate 25 all_goals try with_reducible (first | rfl | refine (State.setSess_pending ..).trans ?_ | refine (State.sendPacket_pending ..).trans ?_ | apply ite_pending | split | refine (foldl_pending _ (fun _ _ => ?_) _ _).trans ?_ | dsimp only)

theorem State.openSess_inv (s : State) (a : Attempt) (q : Peer) (h : s.Inv) :
    (s.openSess a q).Inv := by
  unfold State.openSess; try dsimp only
  iterate 25 all_goals try with_reducible (first | assumption | apply State.setSess_inv | apply State.sendPacket_inv | apply ite_inv | split | (apply foldl_inv; intro _ _ _) | refine State.Inv.upd (by rfl) (by rfl) (by rfl) (by rfl) (by rfl) (by rfl) (by rfl) (by rfl) ?_)

@[simp] theorem State.strayPacket_pending (s : State) (peer : Peer) (rec : List Byte) (t : Tick) :
    (s.strayPacket peer rec t).pending = s.pending := by
  unfold State.strayPacket
  split
  · rfl
  · extract_lets
    iterate 4 all_goals try with_reducible (first
      | rfl | apply ite_pending | refine (State.sysReject_pending ..).trans ?_ | refine (State.takeRecord_pending ..).trans ?_)
    all_goals exact State.serve_pending _ _ _ _ _ (fun _ _ => trivial)

theorem State.strayPacket_inv (s : State) (peer : Peer) (rec : List Byte) (t : Tick) (h : s.Inv) :
    (s.strayPacket peer rec t).Inv := by
  unfold State.strayPacket
  split
  · exact h
  · extract_lets
    iterate 4 all_goals try with_reducible (first
      | assumption | apply ite_inv | apply State.sysReject_inv | apply State.takeRecord_inv)
    all_goals exact State.serve_inv _ _ _ _ _ (fun _ _ => trivial) h

@[simp] theorem State.recordArrives_pending (s : State) (p : Fin 3) (f : NetFrame) (sport : BitVec 16) (data : List Byte) (t : Tick) :
    (s.recordArrives p f sport data t).pending = s.pending := by
  unfold State.recordArrives; try dsimp only
  iterate 25 all_goals try with_reducible (first | rfl | refine (State.netDrop_pending ..).trans ?_ | refine (State.sysReject_pending ..).trans ?_ | refine (State.strayPacket_pending ..).trans ?_ | apply ite_pending | split | refine (foldl_pending _ (fun _ _ => ?_) _ _).trans ?_ | dsimp only)

theorem State.recordArrives_inv (s : State) (p : Fin 3) (f : NetFrame) (sport : BitVec 16) (data : List Byte) (t : Tick) (h : s.Inv) :
    (s.recordArrives p f sport data t).Inv := by
  unfold State.recordArrives; try dsimp only
  iterate 25 all_goals try with_reducible (first | assumption | apply State.netDrop_inv | apply State.sysReject_inv | apply State.strayPacket_inv | apply ite_inv | split | (apply foldl_inv; intro _ _ _) | refine State.Inv.upd (by rfl) (by rfl) (by rfl) (by rfl) (by rfl) (by rfl) (by rfl) (by rfl) ?_)

theorem Answer.keeps_ite {u : State} {c : Prop} [Decidable c] {a b : Answer} (ha : a.Keeps u) (hb : b.Keeps u) :
    (if c then a else b).Keeps u := by
  split
  · exact ha
  · exact hb

theorem Answer.keeps_refuse {u : State} {e : Refuse} : (Answer.refuse e).Keeps u := trivial

theorem Answer.keeps_done {u t : State} {n : Nat} {l : List Byte} (hp : t.pending = u.pending) (hi
    : u.Inv → t.Inv) :
    (Answer.done t n l).Keeps u := ⟨hp, hi⟩

theorem Answer.keeps_fails {u t : State} {e : Refuse} (hp : t.pending = u.pending) (hi : u.Inv → t.Inv) :
    (Answer.fails t e).Keeps u := ⟨hp, hi⟩

theorem Answer.keeps_later {u t : State} {w : Wait} (hp : t.pending = u.pending) (hi : u.Inv → t.Inv) :
    (Answer.later t w).Keeps u := ⟨hp, hi⟩

theorem Answer.keeps_closes {u t : State} (hp : t.pending = u.pending) (hi : u.Inv → t.Inv) :
    (Answer.closes t).Keeps u := ⟨hp, hi⟩

theorem Answer.keeps_restarts {u t : State} (hp : t.pending = u.pending) (hi : u.Inv → t.Inv) :
    (Answer.restarts t).Keeps u := ⟨hp, hi⟩

end Sys2Proof.Machine
end

