-- ==== Sys2Proof/Laws/KeepWrites.lean ====
section
/-! SUPPORT. The shared operations of `Machine/Writes.lean` leave the queue of commands as it is and keep the invariant. -/

namespace Sys2Proof.Machine

@[simp] theorem State.viewOf_pending (s : State) (l : List (Nat × Word))
    : (s.viewOf l).pending = s.pending := by
  unfold State.viewOf; try dsimp only
  iterate 25 all_goals try with_reducible (first
      | rfl | refine (State.withWords_pending ..).trans ?_ | apply ite_pending | split
      | refine (foldl_pending _ (fun _ _ => ?_) _ _).trans ?_ | dsimp only)

theorem State.viewOf_inv (s : State) (l : List (Nat × Word)) (h : s.Inv) : (s.viewOf l).Inv := by
  unfold State.viewOf; try dsimp only
  iterate 25 all_goals try with_reducible (first
      | assumption | apply State.withWords_inv | apply ite_inv | split | (apply foldl_inv; intro _ _ _)
      | refine State.Inv.upd (by rfl) (by rfl) (by rfl) (by rfl) (by rfl) (by rfl) (by rfl) (by rfl) ?_)

@[simp] theorem State.noteRefused_pending (s : State) (l : List (Nat × Word))
    : (s.noteRefused l).pending = s.pending := by
  unfold State.noteRefused; try dsimp only
  iterate 25 all_goals try with_reducible (first
      | rfl | refine (State.viewOf_pending ..).trans ?_ | apply ite_pending | split
      | refine (foldl_pending _ (fun _ _ => ?_) _ _).trans ?_ | dsimp only)

theorem State.noteRefused_inv (s : State) (l : List (Nat × Word)) (h : s.Inv) : (s.noteRefused l).Inv := by
  unfold State.noteRefused; try dsimp only
  iterate 25 all_goals try with_reducible (first
      | assumption | apply State.viewOf_inv | apply ite_inv | split | (apply foldl_inv; intro _ _ _)
      | refine State.Inv.upd (by rfl) (by rfl) (by rfl) (by rfl) (by rfl) (by rfl) (by rfl) (by rfl) ?_)

@[simp] theorem State.startCommit_pending (s : State) (i : Nat) (x : Txn) (due : Nat)
    : (s.startCommit i x due).pending = s.pending := by
  unfold State.startCommit; try dsimp only
  iterate 25 all_goals try with_reducible (first
      | rfl | refine (State.commitAhead_pending ..).trans ?_ | refine (State.awaitAck_pending ..).trans ?_
      | apply ite_pending | split | refine (foldl_pending _ (fun _ _ => ?_) _ _).trans ?_ | dsimp only)

theorem State.startCommit_inv (s : State) (i : Nat) (x : Txn) (due : Nat) (h : s.Inv)
    : (s.startCommit i x due).Inv := by
  unfold State.startCommit; try dsimp only
  iterate 25 all_goals try with_reducible (first
      | assumption | apply State.commitAhead_inv | apply State.awaitAck_inv | apply ite_inv | split
      | (apply foldl_inv; intro _ _ _)
      | refine State.Inv.upd (by rfl) (by rfl) (by rfl) (by rfl) (by rfl) (by rfl) (by rfl) (by rfl) ?_)

@[simp] theorem State.putWord_pending (s : State) (i page off : Nat) (w : Word) (r : WordRow) (t : Nat)
    : (s.putWord i page off w r t).pending = s.pending := by
  unfold State.putWord; try dsimp only
  iterate 25 all_goals try with_reducible (first
      | rfl | refine (State.applySess_pending ..).trans ?_ | refine (State.addRecord_pending ..).trans ?_
      | refine (State.setWord_pending ..).trans ?_ | refine (State.stageGen_pending ..).trans ?_
      | refine (State.restartLoops_pending ..).trans ?_ | refine (State.applyWord_pending ..).trans ?_
      | apply ite_pending | split | refine (foldl_pending _ (fun _ _ => ?_) _ _).trans ?_ | dsimp only)

theorem State.putWord_inv (s : State) (i page off : Nat) (w : Word) (r : WordRow) (t : Nat) (h : s.Inv)
    : (s.putWord i page off w r t).Inv := by
  unfold State.putWord; try dsimp only
  iterate 25 all_goals try with_reducible (first
      | assumption | apply State.applySess_inv | apply State.addRecord_inv | apply State.setWord_inv
      | apply State.stageGen_inv | apply State.restartLoops_inv | apply State.applyWord_inv | apply ite_inv
      | split | (apply foldl_inv; intro _ _ _)
      | refine State.Inv.upd (by rfl) (by rfl) (by rfl) (by rfl) (by rfl) (by rfl) (by rfl) (by rfl) ?_)

@[simp] theorem State.putWindow_pending (s : State) (i : Nat) (ws : List (Nat × Word))
    : (s.putWindow i ws).pending = s.pending := by
  unfold State.putWindow; try dsimp only
  iterate 25 all_goals try with_reducible (first
      | rfl | refine (State.inkWrite_pending ..).trans ?_ | refine (State.setSess_pending ..).trans ?_
      | apply ite_pending | split | refine (foldl_pending _ (fun _ _ => ?_) _ _).trans ?_ | dsimp only)

theorem State.putWindow_inv (s : State) (i : Nat) (ws : List (Nat × Word)) (h : s.Inv)
    : (s.putWindow i ws).Inv := by
  unfold State.putWindow; try dsimp only
  iterate 25 all_goals try with_reducible (first
      | assumption | apply State.inkWrite_inv | apply State.setSess_inv | apply ite_inv | split
      | (apply foldl_inv; intro _ _ _)
      | refine State.Inv.upd (by rfl) (by rfl) (by rfl) (by rfl) (by rfl) (by rfl) (by rfl) (by rfl) ?_)

@[simp] theorem State.readEffects_pending (s : State) (i page lo hi : Nat)
    : (s.readEffects i page lo hi).pending = s.pending := by
  unfold State.readEffects; try dsimp only
  iterate 25 all_goals try with_reducible (first
      | rfl | refine (State.setCan_pending ..).trans ?_ | refine (State.bufRelease_pending ..).trans ?_
      | refine (State.setSess_pending ..).trans ?_ | apply ite_pending | split
      | refine (foldl_pending _ (fun _ _ => ?_) _ _).trans ?_ | dsimp only)

theorem State.readEffects_inv (s : State) (i page lo hi : Nat) (h : s.Inv)
    : (s.readEffects i page lo hi).Inv := by
  unfold State.readEffects; try dsimp only
  iterate 25 all_goals try with_reducible (first
      | assumption | apply State.setCan_inv | apply State.bufRelease_inv | apply State.setSess_inv
      | apply ite_inv | split | (apply foldl_inv; intro _ _ _)
      | refine State.Inv.upd (by rfl) (by rfl) (by rfl) (by rfl) (by rfl) (by rfl) (by rfl) (by rfl) ?_)

theorem State.write_keeps (s : State) (i page : Nat) (ws : List (Nat × Word)) (t : Nat)
    : (s.write i page ws t).Keeps s := by
  unfold State.write
  extract_lets live commit staged tried x had s1 s2 s3
  split
  · trivial
  · split
    · split
      · exact ⟨State.noteRefused_pending .., State.noteRefused_inv _ _⟩
      · trivial
    · split
      · exact ⟨State.startCommit_pending .., State.startCommit_inv _ _ _ _⟩
      · have p1 : s1.pending = s.pending := State.putWindow_pending ..
        have i1 : s.Inv → s1.Inv := State.putWindow_inv _ _ _
        have p2 : s2.pending = s.pending := (foldl_pending _ (fun u p => State.putWord_pending ..) _ _).trans p1
        have i2 : s.Inv → s2.Inv := fun h => foldl_inv _ (fun u p hu => State.putWord_inv _ _ _ _ _ _ _ hu) _ _ (i1 h)
        have p3 : s3.pending = s.pending := ite_pending p2 ((State.awaitAck_pending ..).trans p2)
        have i3 : s.Inv → s3.Inv := fun h => ite_inv (i2 h) (State.awaitAck_inv _ _ (i2 h))
        split
        · exact ⟨p3, i3⟩
        · exact ⟨p3, i3⟩

@[simp] theorem State.setOne_pending (s : State) (r : Req) (k : Nat) (w : Word)
    : (s.setOne r k w).pending = s.pending := State.serve_pending _ _ _ _ _
    (fun u i => State.write_keeps u i _ _ _)

theorem State.setOne_inv (s : State) (r : Req) (k : Nat) (w : Word) (h : s.Inv)
    : (s.setOne r k w).Inv := State.serve_inv _ _ _ _ _ (fun u i => State.write_keeps u i _ _ _) h

end Sys2Proof.Machine
end

