-- ==== Sys2Proof/Laws/KeepTxns.lean ====
section
/-! SUPPORT. The shared operations of `Machine/Txns.lean` leave the queue of commands as it is and keep the invariant. -/

namespace Sys2Proof.Machine

@[simp] theorem State.putTxn_pending (s : State) (x : Txn) : (s.putTxn x).pending = s.pending := by
  unfold State.putTxn; try dsimp only
  iterate 25 all_goals try with_reducible (first
      | rfl | apply ite_pending | split | refine (foldl_pending _ (fun _ _ => ?_) _ _).trans ?_ | dsimp only)

theorem State.putTxn_inv (s : State) (x : Txn) (h : s.Inv) : (s.putTxn x).Inv := by
  unfold State.putTxn; try dsimp only
  iterate 25 all_goals try with_reducible (first
      | assumption | apply ite_inv | split | (apply foldl_inv; intro _ _ _)
      | refine State.Inv.upd (by rfl) (by rfl) (by rfl) (by rfl) (by rfl) (by rfl) (by rfl) (by rfl) ?_)

end Sys2Proof.Machine
end

