-- ==== Sys2Proof/Laws/KeepCommands.lean ====
section
/-! SUPPORT. The shared operations of `Machine/Commands.lean` leave the queue of commands as it is and keep the invariant. -/

namespace Sys2Proof.Machine

@[simp] theorem State.sendRecord_pending (s : State) (kind slot page offset effect : Nat) (value : Word)
    : (s.sendRecord kind slot page offset effect value).pending = s.pending := by
  unfold State.sendRecord; try dsimp only
  iterate 25 all_goals try with_reducible (first
      | rfl | apply ite_pending | split | refine (foldl_pending _ (fun _ _ => ?_) _ _).trans ?_ | dsimp only)

theorem State.sendRecord_inv (s : State) (kind slot page offset effect : Nat) (value : Word) (h : s.Inv)
    : (s.sendRecord kind slot page offset effect value).Inv := by
  unfold State.sendRecord; try dsimp only
  iterate 25 all_goals try with_reducible (first
      | assumption | apply ite_inv | split | (apply foldl_inv; intro _ _ _)
      | refine State.Inv.upd (by rfl) (by rfl) (by rfl) (by rfl) (by rfl) (by rfl) (by rfl) (by rfl) ?_)

@[simp] theorem State.startPrecharge_pending (s : State) (mask : Nat)
    : (s.startPrecharge mask).pending = s.pending := by
  unfold State.startPrecharge; try dsimp only
  iterate 25 all_goals try with_reducible (first
      | rfl | refine (State.opStart_pending ..).trans ?_ | refine (State.setSchStack_pending ..).trans ?_
      | refine (State.startAdmit_pending ..).trans ?_ | apply ite_pending | split
      | refine (foldl_pending _ (fun _ _ => ?_) _ _).trans ?_ | dsimp only)

theorem State.startPrecharge_inv (s : State) (mask : Nat) (h : s.Inv) : (s.startPrecharge mask).Inv := by
  unfold State.startPrecharge; try dsimp only
  iterate 25 all_goals try with_reducible (first
      | assumption | apply State.opStart_inv | apply State.setSchStack_inv | apply State.startAdmit_inv
      | apply ite_inv | split | (apply foldl_inv; intro _ _ _)
      | refine State.Inv.upd (by rfl) (by rfl) (by rfl) (by rfl) (by rfl) (by rfl) (by rfl) (by rfl) ?_)

@[simp] theorem State.enterMode_pending (s : State) (dst : ModState) (mask : Nat)
    : (s.enterMode dst mask).pending = s.pending := by
  unfold State.enterMode; try dsimp only
  iterate 25 all_goals try with_reducible (first
      | rfl | refine (State.retireAll_pending ..).trans ?_ | refine (State.setMode_pending ..).trans ?_
      | refine (State.startPrecharge_pending ..).trans ?_ | apply ite_pending | split
      | refine (foldl_pending _ (fun _ _ => ?_) _ _).trans ?_ | dsimp only)

theorem State.enterMode_inv (s : State) (dst : ModState) (mask : Nat) (h : s.Inv)
    : (s.enterMode dst mask).Inv := by
  unfold State.enterMode; try dsimp only
  iterate 25 all_goals try with_reducible (first
      | assumption | apply State.retireAll_inv | apply State.setMode_inv | apply State.startPrecharge_inv
      | apply ite_inv | split | (apply foldl_inv; intro _ _ _)
      | refine State.Inv.upd (by rfl) (by rfl) (by rfl) (by rfl) (by rfl) (by rfl) (by rfl) (by rfl) ?_)

@[simp] theorem State.modeReply_pending (s : State) (q : ModeReq) : (s.modeReply q).pending = s.pending := by
  unfold State.modeReply; try dsimp only
  iterate 25 all_goals try with_reducible (first
      | rfl | refine (State.replyTo_pending ..).trans ?_ | apply ite_pending | split
      | refine (foldl_pending _ (fun _ _ => ?_) _ _).trans ?_ | dsimp only)

theorem State.modeReply_inv (s : State) (q : ModeReq) (h : s.Inv) : (s.modeReply q).Inv := by
  unfold State.modeReply; try dsimp only
  iterate 25 all_goals try with_reducible (first
      | assumption | apply State.replyTo_inv | apply ite_inv | split | (apply foldl_inv; intro _ _ _)
      | refine State.Inv.upd (by rfl) (by rfl) (by rfl) (by rfl) (by rfl) (by rfl) (by rfl) (by rfl) ?_)

@[simp] theorem State.enumString_pending (s : State) (op b : Nat) :
    (s.enumString op b).pending = s.pending := by
  unfold State.enumString; try dsimp only
  iterate 25 all_goals try with_reducible (first | rfl | refine (State.setStr_pending ..).trans ?_ | refine (State.admitMeasure_pending ..).trans ?_ | refine (State.request_pending ..).trans ?_ | refine (State.enumMissing_pending ..).trans ?_ | refine (State.opUpd_pending ..).trans ?_ | apply ite_pending | split | refine (foldl_pending _ (fun _ _ => ?_) _ _).trans ?_ | dsimp only)

theorem State.enumString_inv (s : State) (op b : Nat) (h : s.Inv) :
    (s.enumString op b).Inv := by
  unfold State.enumString; try dsimp only
  iterate 25 all_goals try with_reducible (first | assumption | apply State.setStr_inv | apply State.admitMeasure_inv | apply State.request_inv | apply State.enumMissing_inv | apply State.opUpd_inv | apply ite_inv | split | (apply foldl_inv; intro _ _ _) | refine State.Inv.upd (by rfl) (by rfl) (by rfl) (by rfl) (by rfl) (by rfl) (by rfl) (by rfl) ?_)

@[simp] theorem State.enumerate_pending (s : State) (op scope port : Nat)
    : (s.enumerate op scope port).pending = s.pending := by
  unfold State.enumerate; try dsimp only
  iterate 25 all_goals try with_reducible (first
      | rfl | refine (State.enumString_pending ..).trans ?_ | refine (State.opEnd_pending ..).trans ?_
      | apply ite_pending | split | refine (foldl_pending _ (fun _ _ => ?_) _ _).trans ?_ | dsimp only)

theorem State.enumerate_inv (s : State) (op scope port : Nat) (h : s.Inv)
    : (s.enumerate op scope port).Inv := by
  unfold State.enumerate; try dsimp only
  iterate 25 all_goals try with_reducible (first
      | assumption | apply State.enumString_inv | apply State.opEnd_inv | apply ite_inv | split
      | (apply foldl_inv; intro _ _ _)
      | refine State.Inv.upd (by rfl) (by rfl) (by rfl) (by rfl) (by rfl) (by rfl) (by rfl) (by rfl) ?_)

@[simp] theorem State.retire_pending (s : State) (ci : Nat) : (s.retire ci).pending = s.pending := by
  unfold State.retire; try dsimp only
  iterate 25 all_goals try with_reducible (first
      | rfl | refine (State.opEnd_pending ..).trans ?_ | refine (State.backToFound_pending ..).trans ?_
      | refine (State.setCell_pending ..).trans ?_ | apply ite_pending | split
      | refine (foldl_pending _ (fun _ _ => ?_) _ _).trans ?_ | dsimp only)

theorem State.retire_inv (s : State) (ci : Nat) (h : s.Inv) : (s.retire ci).Inv := by
  unfold State.retire; try dsimp only
  iterate 25 all_goals try with_reducible (first
      | assumption | apply State.opEnd_inv | apply State.backToFound_inv | apply State.setCell_inv
      | apply ite_inv | split | (apply foldl_inv; intro _ _ _)
      | refine State.Inv.upd (by rfl) (by rfl) (by rfl) (by rfl) (by rfl) (by rfl) (by rfl) (by rfl) ?_)

@[simp] theorem State.commandBypass_pending (s : State) (ci : Nat)
    : (s.commandBypass ci).pending = s.pending := by
  unfold State.commandBypass; try dsimp only
  iterate 25 all_goals try with_reducible (first
      | rfl | refine (State.setCell_pending ..).trans ?_ | apply ite_pending | split
      | refine (foldl_pending _ (fun _ _ => ?_) _ _).trans ?_ | dsimp only)

theorem State.commandBypass_inv (s : State) (ci : Nat) (h : s.Inv) : (s.commandBypass ci).Inv := by
  unfold State.commandBypass; try dsimp only
  iterate 25 all_goals try with_reducible (first
      | assumption | apply State.setCell_inv | apply ite_inv | split | (apply foldl_inv; intro _ _ _)
      | refine State.Inv.upd (by rfl) (by rfl) (by rfl) (by rfl) (by rfl) (by rfl) (by rfl) (by rfl) ?_)

end Sys2Proof.Machine
end

