-- ==== Sys2Proof/Laws/KeepTrust.lean ====
section
/-! SUPPORT. The shared operations of `Machine/Trust.lean` leave the queue of commands as it is and keep the invariant. -/

namespace Sys2Proof.Machine

@[simp] theorem State.stopEnum_pending (s : State) (op : Nat) : (s.stopEnum op).pending = s.pending := by
  unfold State.stopEnum; try dsimp only
  iterate 25 all_goals try with_reducible (first
      | rfl | refine (State.setMg_pending ..).trans ?_ | refine (State.setStr_pending ..).trans ?_
      | apply ite_pending | split | refine (foldl_pending _ (fun _ _ => ?_) _ _).trans ?_ | dsimp only)

theorem State.stopEnum_inv (s : State) (op : Nat) (h : s.Inv) : (s.stopEnum op).Inv := by
  unfold State.stopEnum; try dsimp only
  iterate 25 all_goals try with_reducible (first
      | assumption | apply State.setMg_inv | apply State.setStr_inv | apply ite_inv | split
      | (apply foldl_inv; intro _ _ _)
      | refine State.Inv.upd (by rfl) (by rfl) (by rfl) (by rfl) (by rfl) (by rfl) (by rfl) (by rfl) ?_)

@[simp] theorem State.dropImage_pending (s : State) (o : OpRec) : (s.dropImage o).pending = s.pending := by
  unfold State.dropImage; try dsimp only
  iterate 25 all_goals try with_reducible (first
      | rfl | refine (State.setFwSlot_pending ..).trans ?_ | apply ite_pending | split
      | refine (foldl_pending _ (fun _ _ => ?_) _ _).trans ?_ | dsimp only)

theorem State.dropImage_inv (s : State) (o : OpRec) (h : s.Inv) : (s.dropImage o).Inv := by
  unfold State.dropImage; try dsimp only
  iterate 25 all_goals try with_reducible (first
      | assumption | apply State.setFwSlot_inv | apply ite_inv | split | (apply foldl_inv; intro _ _ _)
      | refine State.Inv.upd (by rfl) (by rfl) (by rfl) (by rfl) (by rfl) (by rfl) (by rfl) (by rfl) ?_)

@[simp] theorem State.imageLoaded_pending (s : State) (o : OpRec) : (s.imageLoaded o).pending = s.pending := by
  have e : (({ s with boot := { s.boot with loading := false } }).opEnd o.id 2 stBadParam).pending = s.pending := by
    rw [State.opEnd_pending]
  have f : (((({ s with boot := { s.boot with loading := false } }).setFwSlot s.otherSlot
      { valid := true, image := o.data }).opEnd o.id 1 stOk).raise 0x0F06 s.otherSlot 0 0).pending = s.pending := by
    rw [State.raise_pending, State.opEnd_pending, State.setFwSlot_pending]
  rw [State.imageLoaded]
  refine ite_pending e (ite_pending ?_ f)
  rw [State.opEnd_pending]

theorem State.imageLoaded_inv (s : State) (o : OpRec) (h : s.Inv) : (s.imageLoaded o).Inv := by
  have hu : ({ s with boot := { s.boot with loading := false } } : State).Inv :=
    State.Inv.congr h rfl rfl rfl rfl rfl rfl rfl rfl
  rw [State.imageLoaded]
  refine ite_inv (State.opEnd_inv _ _ _ _ hu) (ite_inv (State.opEnd_inv _ _ _ _ hu) ?_)
  exact State.raise_inv _ _ _ _ _ (State.opEnd_inv _ _ _ _ (State.setFwSlot_inv _ _ _ hu))

@[simp] theorem State.judgeKeys_pending (s : State) : s.judgeKeys.pending = s.pending := by
  unfold State.judgeKeys; try dsimp only
  iterate 25 all_goals try with_reducible (first
      | rfl | refine (State.setSess_pending ..).trans ?_ | apply ite_pending | split
      | refine (foldl_pending _ (fun _ _ => ?_) _ _).trans ?_ | dsimp only)

theorem State.judgeKeys_inv (s : State) (h : s.Inv) : s.judgeKeys.Inv := by
  unfold State.judgeKeys; try dsimp only
  iterate 25 all_goals try with_reducible (first
      | assumption | apply State.setSess_inv | apply ite_inv | split | (apply foldl_inv; intro _ _ _)
      | refine State.Inv.upd (by rfl) (by rfl) (by rfl) (by rfl) (by rfl) (by rfl) (by rfl) (by rfl) ?_)

@[simp] theorem State.keysLoaded_pending (s : State) (o : OpRec) : (s.keysLoaded o).pending = s.pending := by
  unfold State.keysLoaded
  refine ite_pending ?_ (ite_pending ?_ ?_)
  · rw [State.opEnd_pending]
  · rw [State.opEnd_pending]
  · rw [State.raise_pending, State.judgeKeys_pending, State.opEnd_pending]

theorem State.keysLoaded_inv (s : State) (o : OpRec) (h : s.Inv) : (s.keysLoaded o).Inv := by
  unfold State.keysLoaded
  refine ite_inv (State.opEnd_inv _ _ _ _ h) (ite_inv (State.opEnd_inv _ _ _ _ h) ?_)
  apply State.raise_inv
  apply State.judgeKeys_inv
  apply State.opEnd_inv
  refine State.Inv.congr h rfl rfl rfl rfl rfl ?_ ?_ rfl <;> dsimp only <;> split <;> rfl

@[simp] theorem State.burnStart_pending (s : State) (o : OpRec) : (s.burnStart o).pending = s.pending := by
  unfold State.burnStart; try dsimp only
  iterate 25 all_goals try with_reducible (first
      | rfl | refine (State.opEnd_pending ..).trans ?_ | refine (State.setGen_pending ..).trans ?_
      | apply ite_pending | split | refine (foldl_pending _ (fun _ _ => ?_) _ _).trans ?_ | dsimp only)

theorem State.burnStart_inv (s : State) (o : OpRec) (h : s.Inv) : (s.burnStart o).Inv := by
  unfold State.burnStart; try dsimp only
  iterate 25 all_goals try with_reducible (first
      | assumption | apply State.opEnd_inv | apply State.setGen_inv | apply ite_inv | split
      | (apply foldl_inv; intro _ _ _)
      | refine State.Inv.upd (by rfl) (by rfl) (by rfl) (by rfl) (by rfl) (by rfl) (by rfl) (by rfl) ?_)

theorem State.cancelOp_keeps (s : State) (o : OpRec) :
    ∀ t, s.cancelOp o = some t → t.pending = s.pending ∧ (s.Inv → t.Inv) := by
  intro t e
  unfold State.cancelOp at e
  split at e
  · cases e
    exact ⟨(State.opEnd_pending ..).trans (State.stopEnum_pending ..),
      fun h => State.opEnd_inv _ _ _ _ (State.stopEnum_inv _ _ h)⟩
  · cases e
    exact ⟨(State.backToFound_pending ..).trans (State.opEnd_pending ..),
      fun h => State.backToFound_inv _ _ (State.opEnd_inv _ _ _ _ h)⟩
  · cases e
    exact ⟨State.endPrecharge_pending .., State.endPrecharge_inv _ _ _⟩
  · split at e
    · cases e
    · cases e
      exact ⟨State.opEnd_pending .., State.opEnd_inv _ _ _ _⟩
  · cases e
    exact ⟨(State.opEnd_pending ..).trans (State.dropImage_pending ..),
      fun h => State.opEnd_inv _ _ _ _ (State.dropImage_inv _ _ h)⟩

theorem State.takeChunk_keeps (s : State) (first : Bool) (id : Nat) (data : List Byte) (each finish
    : State → OpRec → State)
    (he : ∀ u o, (each u o).pending = u.pending ∧ (u.Inv → (each u o).Inv))
    (hf : ∀ u o, (finish u o).pending = u.pending ∧ (u.Inv → (finish u o).Inv)) :
    (s.takeChunk first id data each finish).Keeps s := by
  unfold State.takeChunk
  split
  · trivial
  · rename_i o _
    extract_lets o' s'
    have p' : s'.pending = s.pending := (he _ _).1.trans (State.opUpd_pending ..)
    have i' : s.Inv → s'.Inv := fun h => (he _ _).2 (State.opUpd_inv _ _ _ h)
    unfold chunkReply
    have q : (if o'.data.length = o'.total then finish s' o' else s').pending = s.pending := ite_pending ((hf _ _).1.trans p') p'
    have j : s.Inv → (if o'.data.length = o'.total then finish s' o' else s').Inv := fun h => ite_inv ((hf _ _).2 (i' h)) (i' h)
    exact Answer.keeps_ite ⟨q, j⟩ ⟨q, j⟩

theorem State.chunk_keeps (s : State) (opcode kind : Nat) (allowed : Bool) (p : List Byte) (refuse1
    : Nat → List Byte → Option Answer)
    (fails1 : Nat → List Byte → Bool) (each finish : State → OpRec → State) (hr : ∀ a b x, refuse1 a b = some x → x.Keeps s)
    (he : ∀ u o, (each u o).pending = u.pending ∧ (u.Inv → (each u o).Inv))
    (hf : ∀ u o, (finish u o).pending = u.pending ∧ (u.Inv → (finish u o).Inv)) :
    (s.chunk opcode kind allowed p refuse1 fails1 each finish).Keeps s := by
  unfold State.chunk
  dsimp only
  apply Answer.keeps_ite
  · trivial
  · apply Answer.keeps_ite
    · apply Answer.keeps_ite
      · trivial
      · apply Answer.keeps_ite
        · trivial
        · apply Answer.keeps_ite
          · trivial
          · split
            · rename_i h; exact hr _ _ _ h
            · apply Answer.keeps_ite
              · trivial
              · apply Answer.keeps_ite
                · exact Answer.keeps_done ((State.opEnd_pending ..).trans (State.opStart_pending ..)) (fun h => State.opEnd_inv _ _ _ _ (State.opStart_inv _ _ _ _ _ h))
                · have k := State.takeChunk_keeps (s.opStart opcode kind (beAt p 6 4) 0) true (s.opStart opcode kind (beAt p 6 4) 0).cmd.lastOp (p.drop 10) each finish he hf
                  unfold State.takeChunk chunkReply at k ⊢
                  revert k
                  split
                  · intro _; trivial
                  · intro k
                    exact ⟨k.1.trans (State.opStart_pending ..), fun h => k.2 (State.opStart_inv _ _ _ _ _ h)⟩
    · split
      · trivial
      · (repeat' apply Answer.keeps_ite) <;> first | trivial | exact State.takeChunk_keeps _ _ _ _ _ _ he hf

end Sys2Proof.Machine
end

