-- ==== Sys2Proof/Laws/KeepPairFrame.lean ====
section
/-! SUPPORT. The shared operations of `Machine/PairFrame.lean` leave the queue of commands as it is and keep the invariant. -/

namespace Sys2Proof.Machine

@[simp] theorem State.takeImage_pending (s : State) (T : Nat) (r : ImageRec)
    : (s.takeImage T r).pending = s.pending := by
  cases r <;> simp [State.takeImage]

theorem State.takeImage_inv (s : State) (T : Nat) (r : ImageRec) (h : s.Inv) : (s.takeImage T r).Inv := by
  cases r <;> unfold State.takeImage <;> (try dsimp only) <;>
    iterate 25 all_goals try with_reducible (first
        | assumption | apply State.setCell_inv | apply State.setDcell_inv | apply State.setDstack_inv
        | apply State.setThSw_inv | apply State.setSch_inv | apply State.setSupSw_inv | apply ite_inv | split
        | refine State.Inv.upd (by rfl) (by rfl) (by rfl) (by rfl) (by rfl) (by rfl) (by rfl) (by rfl) ?_)

@[simp] theorem State.stepTheta_pending (s : State) (l : List (Nat × Word))
    : (s.stepTheta l).pending = s.pending := by
  unfold State.stepTheta; try dsimp only
  iterate 25 all_goals try with_reducible (first
      | rfl | refine (State.setThSw_pending ..).trans ?_ | apply ite_pending | split
      | refine (foldl_pending _ (fun _ _ => ?_) _ _).trans ?_ | dsimp only)

theorem State.stepTheta_inv (s : State) (l : List (Nat × Word)) (h : s.Inv) : (s.stepTheta l).Inv := by
  unfold State.stepTheta; try dsimp only
  iterate 25 all_goals try with_reducible (first
      | assumption | apply State.setThSw_inv | apply ite_inv | split | (apply foldl_inv; intro _ _ _)
      | refine State.Inv.upd (by rfl) (by rfl) (by rfl) (by rfl) (by rfl) (by rfl) (by rfl) (by rfl) ?_)

@[simp] theorem State.loadImage_pending (s : State) (T : Nat) : (s.loadImage T).pending = s.pending := by
  unfold State.loadImage
  rw [foldl_pending _ State.stepTheta_pending, foldl_pending _ (fun s r => State.takeImage_pending s T r)]

theorem State.loadImage_inv (s : State) (T : Nat) (h : s.Inv) : (s.loadImage T).Inv := by
  unfold State.loadImage
  exact foldl_inv _ (fun s l hs => State.stepTheta_inv s l hs) _ _ (foldl_inv _ (fun s r hs => State.takeImage_inv s T r hs) _ _ h)

end Sys2Proof.Machine
end

