-- ==== Sys2Proof/Laws/KeepPair.lean ====
section
/-! SUPPORT. The shared operations of `Machine/Pair.lean` leave the queue of commands as it is and keep the invariant. -/

namespace Sys2Proof.Machine

@[simp] theorem State.startJoin_pending (s : State) : s.startJoin.pending = s.pending := by
  unfold State.startJoin; try dsimp only
  iterate 25 all_goals try with_reducible (first
      | rfl | apply ite_pending | split | refine (foldl_pending _ (fun _ _ => ?_) _ _).trans ?_ | dsimp only)

theorem State.startJoin_inv (s : State) (h : s.Inv) : s.startJoin.Inv := ⟨h.grant, h.live, nofun, h.queue,
    h.log, h.stamps, h.mem⟩

@[simp] theorem State.readyJudge_pending (s : State) (t : Nat) : (s.readyJudge t).pending = s.pending := by
  unfold State.readyJudge; try dsimp only
  iterate 25 all_goals try with_reducible (first
      | rfl | refine (State.clear_pending ..).trans ?_ | apply ite_pending | split
      | refine (foldl_pending _ (fun _ _ => ?_) _ _).trans ?_ | dsimp only)

theorem State.readyJudge_inv (s : State) (t : Nat) (h : s.Inv) : (s.readyJudge t).Inv := by
  unfold State.readyJudge; try dsimp only
  iterate 25 all_goals try with_reducible (first
      | assumption | apply State.clear_inv | apply ite_inv | split | (apply foldl_inv; intro _ _ _)
      | refine State.Inv.upd (by rfl) (by rfl) (by rfl) (by rfl) (by rfl) (by rfl) (by rfl) (by rfl) ?_)

@[simp] theorem State.partnerDown_pending (s : State) : s.partnerDown.pending = s.pending := by
  unfold State.partnerDown; try dsimp only
  iterate 25 all_goals try with_reducible (first
      | rfl | refine (State.flushAcks_pending ..).trans ?_ | apply ite_pending | split
      | refine (foldl_pending _ (fun _ _ => ?_) _ _).trans ?_ | dsimp only)

theorem State.partnerDown_inv (s : State) (h : s.Inv) : s.partnerDown.Inv := by
  unfold State.partnerDown; try dsimp only
  iterate 25 all_goals try with_reducible (first
      | assumption | apply State.flushAcks_inv | apply ite_inv | split | (apply foldl_inv; intro _ _ _)
      | refine State.Inv.upd (by rfl) (by rfl) (by rfl) (by rfl) (by rfl) (by rfl) (by rfl) (by rfl) ?_)

@[simp] theorem State.pathLost_pending (s : State) (t : Nat) : (s.pathLost t).pending = s.pending := by
  unfold State.pathLost; try dsimp only
  iterate 25 all_goals try with_reducible (first
      | rfl | refine (State.raise_pending ..).trans ?_ | refine (State.partnerDown_pending ..).trans ?_
      | apply ite_pending | split | refine (foldl_pending _ (fun _ _ => ?_) _ _).trans ?_ | dsimp only)

theorem State.pathLost_inv (s : State) (t : Nat) (h : s.Inv) : (s.pathLost t).Inv := by
  unfold State.pathLost; try dsimp only
  iterate 25 all_goals try with_reducible (first
      | assumption | apply State.raise_inv | apply State.partnerDown_inv | apply ite_inv | split
      | (apply foldl_inv; intro _ _ _)
      | refine State.Inv.upd (by rfl) (by rfl) (by rfl) (by rfl) (by rfl) (by rfl) (by rfl) (by rfl) ?_)

@[simp] theorem State.declareFailure_pending (s : State) (t : Nat)
    : (s.declareFailure t).pending = s.pending := by
  unfold State.declareFailure; try dsimp only
  iterate 25 all_goals try with_reducible (first
      | rfl | refine (State.raise_pending ..).trans ?_ | apply ite_pending | split
      | refine (foldl_pending _ (fun _ _ => ?_) _ _).trans ?_ | dsimp only)

theorem State.declareFailure_inv (s : State) (t : Nat) (h : s.Inv) : (s.declareFailure t).Inv := by
  unfold State.declareFailure; try dsimp only
  iterate 25 all_goals try with_reducible (first
      | assumption | apply State.raise_inv | apply ite_inv | split | (apply foldl_inv; intro _ _ _)
      | refine State.Inv.upd (by rfl) (by rfl) (by rfl) (by rfl) (by rfl) (by rfl) (by rfl) (by rfl) ?_)

theorem State.takeToken_pending (s : State) (c : Claim) (tokIn released : Bool) (hl : s.sys.live = true)
    : (s.takeToken c tokIn released).pending = s.pending := rfl

theorem State.takeToken_inv (s : State) (c : Claim) (tokIn released : Bool) (hl : s.sys.live = true) (h
    : s.Inv) : (s.takeToken c tokIn released).Inv := ⟨fun _ => rfl, fun _ => hl, nofun, h.queue, h.log,
    h.stamps, h.mem⟩

@[simp] theorem State.countHandover_pending (s : State) : s.countHandover.pending = s.pending := by
  unfold State.countHandover; try dsimp only
  iterate 25 all_goals try with_reducible (first
      | rfl | refine (State.satEvent_pending ..).trans ?_ | apply ite_pending | split
      | refine (foldl_pending _ (fun _ _ => ?_) _ _).trans ?_ | dsimp only)

theorem State.countHandover_inv (s : State) (h : s.Inv) : s.countHandover.Inv := by
  unfold State.countHandover; try dsimp only
  iterate 25 all_goals try with_reducible (first
      | assumption | apply State.satEvent_inv | apply ite_inv | split | (apply foldl_inv; intro _ _ _)
      | refine State.Inv.upd (by rfl) (by rfl) (by rfl) (by rfl) (by rfl) (by rfl) (by rfl) (by rfl) ?_)

@[simp] theorem State.claimed_pending (s o : State) (c : Claim) : (s.claimed o c).pending = s.pending := by
  unfold State.claimed
  split
  · exact (State.raise_pending ..).trans ((State.satEvent_pending ..).trans rfl)
  · exact ite_pending (State.countHandover_pending s) ((State.clear_pending ..).trans (State.countHandover_pending s))
  · rfl

theorem State.claimed_inv (s o : State) (c : Claim) (h : s.Inv) : (s.claimed o c).Inv := by
  unfold State.claimed
  split
  · exact State.raise_inv _ _ _ _ _ (State.satEvent_inv _ _ _ _ (State.Inv.congr h rfl rfl rfl rfl rfl rfl rfl rfl))
  · have k := State.countHandover_inv s h
    refine ite_inv ?_ ?_
    · exact ⟨k.grant, k.live, k.out, k.queue, k.log, keepLast_length 15 _, k.mem⟩
    · exact State.clear_inv _ _ _ _ (State.Inv.congr k rfl rfl rfl rfl rfl rfl rfl rfl)
  · exact h

@[simp] theorem State.stepDown_pending (s : State) : s.stepDown.pending = s.pending := by
  unfold State.stepDown; try dsimp only
  iterate 25 all_goals try with_reducible (first
      | rfl | refine (State.partnerDown_pending ..).trans ?_ | apply ite_pending | split
      | refine (foldl_pending _ (fun _ _ => ?_) _ _).trans ?_ | dsimp only)

theorem State.stepDown_inv (s : State) (h : s.Inv) : s.stepDown.Inv := by
  unfold State.stepDown
  split
  · exact h
  · apply State.partnerDown_inv
    exact ⟨h.grant, h.live, nofun, h.queue, h.log, h.stamps, h.mem⟩

@[simp] theorem State.imageFor_pending (s : State) : s.imageFor.pending = s.pending := by
  unfold State.imageFor; try dsimp only
  iterate 25 all_goals try with_reducible (first
      | rfl | apply ite_pending | split | refine (foldl_pending _ (fun _ _ => ?_) _ _).trans ?_ | dsimp only)

theorem State.imageFor_inv (s : State) (h : s.Inv) : s.imageFor.Inv := by
  unfold State.imageFor; try dsimp only
  iterate 25 all_goals try with_reducible (first
      | assumption | apply ite_inv | split | (apply foldl_inv; intro _ _ _)
      | refine State.Inv.upd (by rfl) (by rfl) (by rfl) (by rfl) (by rfl) (by rfl) (by rfl) (by rfl) ?_)

@[simp] theorem State.seePartner_pending (s : State) (f : PFrame) : (s.seePartner f).pending = s.pending := by
  unfold State.seePartner; try dsimp only
  iterate 25 all_goals try with_reducible (first
      | rfl | apply ite_pending | split | refine (foldl_pending _ (fun _ _ => ?_) _ _).trans ?_ | dsimp only)

theorem State.seePartner_inv (s : State) (f : PFrame) (h : s.Inv) : (s.seePartner f).Inv := by
  unfold State.seePartner; try dsimp only
  iterate 25 all_goals try with_reducible (first
      | assumption | apply ite_inv | split | (apply foldl_inv; intro _ _ _)
      | refine State.Inv.upd (by rfl) (by rfl) (by rfl) (by rfl) (by rfl) (by rfl) (by rfl) (by rfl) ?_)

@[simp] theorem State.pairEvents_pending (s : State) (t : Nat) : (s.pairEvents t).pending = s.pending := by
  unfold State.pairEvents; try dsimp only
  iterate 25 all_goals try with_reducible (first
      | rfl | refine (State.clear_pending ..).trans ?_ | refine (State.raise_pending ..).trans ?_
      | apply ite_pending | split | refine (foldl_pending _ (fun _ _ => ?_) _ _).trans ?_ | dsimp only)

theorem State.pairEvents_inv (s : State) (t : Nat) (h : s.Inv) : (s.pairEvents t).Inv := by
  unfold State.pairEvents; try dsimp only
  iterate 25 all_goals try with_reducible (first
      | assumption | apply State.clear_inv | apply State.raise_inv | apply ite_inv | split
      | (apply foldl_inv; intro _ _ _)
      | refine State.Inv.upd (by rfl) (by rfl) (by rfl) (by rfl) (by rfl) (by rfl) (by rfl) (by rfl) ?_)

@[simp] theorem State.takeAck_pending (s : State) (ack : BitVec 16) : (s.takeAck ack).pending = s.pending := by
  unfold State.takeAck; try dsimp only
  iterate 25 all_goals try with_reducible (first
      | rfl | refine (State.ackReply_pending ..).trans ?_ | apply ite_pending | split
      | refine (foldl_pending _ (fun _ _ => ?_) _ _).trans ?_ | dsimp only)

theorem State.takeAck_inv (s : State) (ack : BitVec 16) (h : s.Inv) : (s.takeAck ack).Inv := by
  unfold State.takeAck; try dsimp only
  iterate 25 all_goals try with_reducible (first
      | assumption | apply State.ackReply_inv | apply ite_inv | split | (apply foldl_inv; intro _ _ _)
      | refine State.Inv.upd (by rfl) (by rfl) (by rfl) (by rfl) (by rfl) (by rfl) (by rfl) (by rfl) ?_)

@[simp] theorem State.keepSteps_pending (s : State) (l : List StepIn)
    : (s.keepSteps l).pending = s.pending := by
  unfold State.keepSteps; try dsimp only
  iterate 25 all_goals try with_reducible (first
      | rfl | apply ite_pending | split | refine (foldl_pending _ (fun _ _ => ?_) _ _).trans ?_ | dsimp only)

theorem State.keepSteps_inv (s : State) (l : List StepIn) (h : s.Inv) : (s.keepSteps l).Inv := by
  unfold State.keepSteps; try dsimp only
  iterate 25 all_goals try with_reducible (first
      | assumption | apply ite_inv | split | (apply foldl_inv; intro _ _ _)
      | refine State.Inv.upd (by rfl) (by rfl) (by rfl) (by rfl) (by rfl) (by rfl) (by rfl) (by rfl) ?_)

@[simp] theorem State.takeImages_pending (s : State) (f : PFrame) : (s.takeImages f).pending = s.pending := by
  unfold State.takeImages; try dsimp only
  iterate 25 all_goals try with_reducible (first
      | rfl | apply ite_pending | split | refine (foldl_pending _ (fun _ _ => ?_) _ _).trans ?_ | dsimp only)

theorem State.takeImages_inv (s : State) (f : PFrame) (h : s.Inv) : (s.takeImages f).Inv := by
  unfold State.takeImages; try dsimp only
  iterate 25 all_goals try with_reducible (first
      | assumption | apply ite_inv | split | (apply foldl_inv; intro _ _ _)
      | refine State.Inv.upd (by rfl) (by rfl) (by rfl) (by rfl) (by rfl) (by rfl) (by rfl) (by rfl) ?_)

@[simp] theorem State.takeRecords_pending (s : State) (f : PFrame) : (s.takeRecords f).pending = s.pending := by
  unfold State.takeRecords; try dsimp only
  iterate 25 all_goals try with_reducible (first
      | rfl | refine (State.commitAhead_pending ..).trans ?_ | apply ite_pending | split
      | refine (foldl_pending _ (fun _ _ => ?_) _ _).trans ?_ | dsimp only)

theorem State.takeRecords_inv (s : State) (f : PFrame) (h : s.Inv) : (s.takeRecords f).Inv := by
  unfold State.takeRecords; try dsimp only
  iterate 25 all_goals try with_reducible (first
      | assumption | apply State.commitAhead_inv | apply ite_inv | split | (apply foldl_inv; intro _ _ _)
      | refine State.Inv.upd (by rfl) (by rfl) (by rfl) (by rfl) (by rfl) (by rfl) (by rfl) (by rfl) ?_)

@[simp] theorem State.followRelease_pending (s : State) (mask cyc : Nat)
    : (s.followRelease mask cyc).pending = s.pending := by
  unfold State.followRelease; try dsimp only
  iterate 25 all_goals try with_reducible (first
      | rfl | apply ite_pending | split | refine (foldl_pending _ (fun _ _ => ?_) _ _).trans ?_ | dsimp only)

theorem State.followRelease_inv (s : State) (mask cyc : Nat) (h : s.Inv) : (s.followRelease mask cyc).Inv := by
  unfold State.followRelease; try dsimp only
  iterate 25 all_goals try with_reducible (first
      | assumption | apply ite_inv | split | (apply foldl_inv; intro _ _ _)
      | refine State.Inv.upd (by rfl) (by rfl) (by rfl) (by rfl) (by rfl) (by rfl) (by rfl) (by rfl) ?_)

@[simp] theorem State.checkCrcs_pending (s : State) (f : PFrame) (t : Nat)
    : (s.checkCrcs f t).pending = s.pending := by
  unfold State.checkCrcs; try dsimp only
  iterate 25 all_goals try with_reducible (first
      | rfl | refine (State.mismatch_pending ..).trans ?_ | refine (State.satEvent_pending ..).trans ?_
      | refine (State.raise_pending ..).trans ?_ | refine (State.startJoin_pending ..).trans ?_
      | apply ite_pending | split | refine (foldl_pending _ (fun _ _ => ?_) _ _).trans ?_ | dsimp only)

theorem State.checkCrcs_inv (s : State) (f : PFrame) (t : Nat) (h : s.Inv) : (s.checkCrcs f t).Inv := by
  unfold State.checkCrcs; try dsimp only
  iterate 25 all_goals try with_reducible (first
      | assumption | apply State.mismatch_inv | apply State.satEvent_inv | apply State.raise_inv
      | apply State.startJoin_inv | apply ite_inv | split | (apply foldl_inv; intro _ _ _)
      | refine State.Inv.upd (by rfl) (by rfl) (by rfl) (by rfl) (by rfl) (by rfl) (by rfl) (by rfl) ?_)

@[simp] theorem State.followFrame_pending (s : State) (f : PFrame) (t : Nat)
    : (s.followFrame f t).pending = s.pending := by
  unfold State.followFrame; try dsimp only
  iterate 25 all_goals try with_reducible (first
      | rfl | refine (State.takeImages_pending ..).trans ?_ | refine (State.takeRecords_pending ..).trans ?_
      | refine (State.keepSteps_pending ..).trans ?_ | refine (State.followRelease_pending ..).trans ?_
      | refine (State.checkCrcs_pending ..).trans ?_ | apply ite_pending | split
      | refine (foldl_pending _ (fun _ _ => ?_) _ _).trans ?_ | dsimp only)

theorem State.followFrame_inv (s : State) (f : PFrame) (t : Nat) (h : s.Inv) : (s.followFrame f t).Inv := by
  unfold State.followFrame; try dsimp only
  iterate 25 all_goals try with_reducible (first
      | assumption | apply State.takeImages_inv | apply State.takeRecords_inv | apply State.keepSteps_inv
      | apply State.followRelease_inv | apply State.checkCrcs_inv | apply ite_inv | split
      | (apply foldl_inv; intro _ _ _)
      | refine State.Inv.upd (by rfl) (by rfl) (by rfl) (by rfl) (by rfl) (by rfl) (by rfl) (by rfl) ?_)

@[simp] theorem State.leadFrame_pending (s : State) (f : PFrame) (t : Nat)
    : (s.leadFrame f t).pending = s.pending := by
  unfold State.leadFrame; try dsimp only
  iterate 25 all_goals try with_reducible (first
      | rfl | refine (State.partnerDown_pending ..).trans ?_ | apply ite_pending | split
      | refine (foldl_pending _ (fun _ _ => ?_) _ _).trans ?_ | dsimp only)

theorem State.leadFrame_inv (s : State) (f : PFrame) (t : Nat) (h : s.Inv) : (s.leadFrame f t).Inv := by
  unfold State.leadFrame; try dsimp only
  iterate 25 all_goals try with_reducible (first
      | assumption | apply State.partnerDown_inv | apply ite_inv | split | (apply foldl_inv; intro _ _ _)
      | refine State.Inv.upd (by rfl) (by rfl) (by rfl) (by rfl) (by rfl) (by rfl) (by rfl) (by rfl) ?_)

@[simp] theorem State.applyRecord_pending (s : State) (r : RepRec) : (s.applyRecord r).pending = s.pending := by
  rw [State.applyRecord]
  refine ite_pending ?_ (ite_pending (State.openSlot_pending ..) (ite_pending (State.closeSlot_pending ..)
    (ite_pending (State.setCoeffs_pending ..) (ite_pending (State.enumerate_pending ..)
    (ite_pending (State.startAdmit_pending ..) (ite_pending (State.retire_pending ..)
    (ite_pending (State.commandBypass_pending ..) rfl)))))))
  split
  · refine ite_pending ?_ (State.applyWord_pending ..)
    split
    · exact (State.stageGen_pending ..).trans rfl
    · rfl
  · rfl

theorem State.applyRecord_inv (s : State) (r : RepRec) (h : s.Inv) : (s.applyRecord r).Inv := by
  rw [State.applyRecord]
  refine ite_inv ?_ (ite_inv (State.openSlot_inv _ _ _ h) (ite_inv (State.closeSlot_inv _ _ h)
    (ite_inv (State.setCoeffs_inv _ _ _ _ h) (ite_inv (State.enumerate_inv _ _ _ _ h)
    (ite_inv (State.startAdmit_inv _ _ _ h) (ite_inv (State.retire_inv _ _ h)
    (ite_inv (State.commandBypass_inv _ _ h) h)))))))
  split
  · refine ite_inv ?_ (State.applyWord_inv _ _ _ _ h)
    split
    · exact State.stageGen_inv _ _ _ _ _ (State.setWord_inv _ _ _ h)
    · exact State.setWord_inv _ _ _ h
  · exact h

end Sys2Proof.Machine
end

