-- ==== Sys2Proof/Laws/KeepBoundary.lean ====
section
/-! SUPPORT. The shared operations of `Machine/Boundary.lean` leave the queue of commands as it is and keep the invariant. -/

namespace Sys2Proof.Machine

@[simp] theorem State.advance_pending (s : State) (e : Env) : (s.advance e).pending = s.pending := by
  unfold State.advance; try dsimp only
  iterate 25 all_goals try with_reducible (first
      | rfl | apply ite_pending | split | refine (foldl_pending _ (fun _ _ => ?_) _ _).trans ?_ | dsimp only)

theorem State.advance_inv (s : State) (e : Env) (h : s.Inv) : (s.advance e).Inv := by
  unfold State.advance; try dsimp only
  iterate 25 all_goals try with_reducible (first
      | assumption | apply ite_inv | split | (apply foldl_inv; intro _ _ _)
      | refine State.Inv.upd (by rfl) (by rfl) (by rfl) (by rfl) (by rfl) (by rfl) (by rfl) (by rfl) ?_)

@[simp] theorem State.shiftStored_pending (s : State) : s.shiftStored.pending = s.pending := by
  unfold State.shiftStored; split <;> rfl

theorem State.shiftStored_inv (s : State) (h : s.Inv) : s.shiftStored.Inv := by
  unfold State.shiftStored
  split
  · exact h
  · have k := State.moveStored_inv s (s.cycle - s.jrnl.life.lastCycle) h
    exact ⟨k.grant, k.live, k.out, k.queue, k.log, k.stamps, k.mem⟩

@[simp] theorem State.applyNext_pending (s : State) : s.applyNext.pending = s.pending := by
  unfold State.applyNext; try dsimp only
  iterate 25 all_goals try with_reducible (first
      | rfl | refine (State.applyWord_pending ..).trans ?_ | apply ite_pending | split
      | refine (foldl_pending _ (fun _ _ => ?_) _ _).trans ?_ | dsimp only)

theorem State.applyNext_inv (s : State) (h : s.Inv) : s.applyNext.Inv := by
  unfold State.applyNext; try dsimp only
  iterate 25 all_goals try with_reducible (first
      | assumption | apply State.applyWord_inv | apply ite_inv | split | (apply foldl_inv; intro _ _ _)
      | refine State.Inv.upd (by rfl) (by rfl) (by rfl) (by rfl) (by rfl) (by rfl) (by rfl) (by rfl) ?_)

@[simp] theorem State.moveShift_pending (s : State) : s.moveShift.pending = s.pending := by
  unfold State.moveShift; try dsimp only
  iterate 25 all_goals try with_reducible (first
      | rfl | apply ite_pending | split | refine (foldl_pending _ (fun _ _ => ?_) _ _).trans ?_ | dsimp only)

theorem State.moveShift_inv (s : State) (h : s.Inv) : s.moveShift.Inv := by
  unfold State.moveShift; try dsimp only
  iterate 25 all_goals try with_reducible (first
      | assumption | apply ite_inv | split | (apply foldl_inv; intro _ _ _)
      | refine State.Inv.upd (by rfl) (by rfl) (by rfl) (by rfl) (by rfl) (by rfl) (by rfl) (by rfl) ?_)

@[simp] theorem State.overrun_pending (s : State) (incomplete : List (Fin 16)) :
    (s.overrun incomplete).pending = s.pending := by
  unfold State.overrun; try dsimp only
  iterate 25 all_goals try with_reducible (first | rfl | refine (State.raise_pending ..).trans ?_ | apply ite_pending | split | refine (foldl_pending _ (fun _ _ => ?_) _ _).trans ?_ | dsimp only)

theorem State.overrun_inv (s : State) (incomplete : List (Fin 16)) (h : s.Inv) :
    (s.overrun incomplete).Inv := by
  unfold State.overrun; try dsimp only
  iterate 25 all_goals try with_reducible (first | assumption | apply State.raise_inv | apply ite_inv | split | (apply foldl_inv; intro _ _ _) | refine State.Inv.upd (by rfl) (by rfl) (by rfl) (by rfl) (by rfl) (by rfl) (by rfl) (by rfl) ?_)

@[simp] theorem State.repeatBlk_pending (s : State) : s.repeatBlk.pending = s.pending := by
  unfold State.repeatBlk; try dsimp only
  iterate 25 all_goals try with_reducible (first
      | rfl | refine (State.sendBlk_pending ..).trans ?_ | apply ite_pending | split
      | refine (foldl_pending _ (fun _ _ => ?_) _ _).trans ?_ | dsimp only)

theorem State.repeatBlk_inv (s : State) (h : s.Inv) : s.repeatBlk.Inv := by
  unfold State.repeatBlk; try dsimp only
  iterate 25 all_goals try with_reducible (first
      | assumption | apply State.sendBlk_inv | apply ite_inv | split | (apply foldl_inv; intro _ _ _)
      | refine State.Inv.upd (by rfl) (by rfl) (by rfl) (by rfl) (by rfl) (by rfl) (by rfl) (by rfl) ?_)

@[simp] theorem State.sessBoundary_pending (s : State) (snap : Bool)
    : (s.sessBoundary snap).pending = s.pending := by
  unfold State.sessBoundary; try dsimp only
  iterate 25 all_goals try with_reducible (first
      | rfl | refine (State.replyTo_pending ..).trans ?_ | refine (State.closeSess_pending ..).trans ?_
      | apply ite_pending | split | refine (foldl_pending _ (fun _ _ => ?_) _ _).trans ?_ | dsimp only)

theorem State.sessBoundary_inv (s : State) (snap : Bool) (h : s.Inv) : (s.sessBoundary snap).Inv := by
  unfold State.sessBoundary; try dsimp only
  iterate 25 all_goals try with_reducible (first
      | assumption | apply State.replyTo_inv | apply State.closeSess_inv | apply ite_inv | split
      | (apply foldl_inv; intro _ _ _)
      | refine State.Inv.upd (by rfl) (by rfl) (by rfl) (by rfl) (by rfl) (by rfl) (by rfl) (by rfl) ?_)

@[simp] theorem State.netBoundary_pending (s : State) : s.netBoundary.pending = s.pending := by
  unfold State.netBoundary; try dsimp only
  iterate 25 all_goals try with_reducible (first
      | rfl | refine (State.setCan_pending ..).trans ?_ | refine (State.clear_pending ..).trans ?_
      | apply ite_pending | split | refine (foldl_pending _ (fun _ _ => ?_) _ _).trans ?_ | dsimp only)

theorem State.netBoundary_inv (s : State) (h : s.Inv) : s.netBoundary.Inv := by
  unfold State.netBoundary; try dsimp only
  iterate 25 all_goals try with_reducible (first
      | assumption | apply State.setCan_inv | apply State.clear_inv | apply ite_inv | split
      | (apply foldl_inv; intro _ _ _)
      | refine State.Inv.upd (by rfl) (by rfl) (by rfl) (by rfl) (by rfl) (by rfl) (by rfl) (by rfl) ?_)

@[simp] theorem State.inkBoundary_pending (s : State) : s.inkBoundary.pending = s.pending := by
  unfold State.inkBoundary; try dsimp only
  iterate 25 all_goals try with_reducible (first
      | rfl | refine (State.cimWrite_pending ..).trans ?_ | refine (State.clear_pending ..).trans ?_
      | apply ite_pending | split | refine (foldl_pending _ (fun _ _ => ?_) _ _).trans ?_ | dsimp only)

theorem State.inkBoundary_inv (s : State) (h : s.Inv) : s.inkBoundary.Inv := by
  unfold State.inkBoundary; try dsimp only
  iterate 25 all_goals try with_reducible (first
      | assumption | apply State.cimWrite_inv | apply State.clear_inv | apply ite_inv | split
      | (apply foldl_inv; intro _ _ _)
      | refine State.Inv.upd (by rfl) (by rfl) (by rfl) (by rfl) (by rfl) (by rfl) (by rfl) (by rfl) ?_)

@[simp] theorem State.strBoundary_pending (s : State) : s.strBoundary.pending = s.pending := by
  unfold State.strBoundary; try dsimp only
  iterate 25 all_goals try with_reducible (first
      | rfl | refine (State.setStr_pending ..).trans ?_ | apply ite_pending | split
      | refine (foldl_pending _ (fun _ _ => ?_) _ _).trans ?_ | dsimp only)

theorem State.strBoundary_inv (s : State) (h : s.Inv) : s.strBoundary.Inv := by
  unfold State.strBoundary; try dsimp only
  iterate 25 all_goals try with_reducible (first
      | assumption | apply State.setStr_inv | apply ite_inv | split | (apply foldl_inv; intro _ _ _)
      | refine State.Inv.upd (by rfl) (by rfl) (by rfl) (by rfl) (by rfl) (by rfl) (by rfl) (by rfl) ?_)

@[simp] theorem State.pairBoundary_pending (s : State) : s.pairBoundary.pending = s.pending := by
  unfold State.pairBoundary; try dsimp only
  iterate 25 all_goals try with_reducible (first
      | rfl | refine (State.clear_pending ..).trans ?_ | refine (State.startJoin_pending ..).trans ?_
      | refine (State.flushAcks_pending ..).trans ?_ | refine (State.readyJudge_pending ..).trans ?_
      | apply ite_pending | split | refine (foldl_pending _ (fun _ _ => ?_) _ _).trans ?_ | dsimp only)

theorem State.pairBoundary_inv (s : State) (h : s.Inv) : s.pairBoundary.Inv := by
  unfold State.pairBoundary; try dsimp only
  iterate 25 all_goals try with_reducible (first
      | assumption | apply State.clear_inv | apply State.startJoin_inv | apply State.flushAcks_inv
      | apply State.readyJudge_inv | apply ite_inv | split | (apply foldl_inv; intro _ _ _)
      | refine State.Inv.upd (by rfl) (by rfl) (by rfl) (by rfl) (by rfl) (by rfl) (by rfl) (by rfl) ?_)

end Sys2Proof.Machine
end

