-- ==== Sys2Proof/Laws/Silent.lean ====
section
/-! SUPPORT. What a command reads at its start does not depend on what an earlier one sent: every reading of a silent state
is the reading of the state itself. -/

namespace Sys2Proof.Machine

@[simp] theorem State.word_silent (s : State) (k : Nat) : s.silent.word k = s.word k := rfl
@[simp] theorem State.cell_silent (s : State) (ci : Nat) : s.silent.cell ci = s.cell ci := rfl
@[simp] theorem State.mg_silent (s : State) (ci : Nat) : s.silent.mg ci = s.mg ci := rfl
@[simp] theorem State.str_silent (s : State) (p : Nat) : s.silent.str p = s.str p := rfl
@[simp] theorem State.lane_silent (s : State) (i : Nat) : s.silent.lane i = s.lane i := rfl
@[simp] theorem State.nib_silent (s : State) (n : Nat) : s.silent.nib n = s.nib n := rfl
@[simp] theorem State.aux_silent (s : State) (n : Nat) : s.silent.aux n = s.aux n := rfl
@[simp] theorem State.sess_silent (s : State) (i : Nat) : s.silent.sess i = s.sess i := rfl
@[simp] theorem State.echoOf_silent (s : State) (i : Nat) : s.silent.echoOf i = s.echoOf i := rfl
@[simp] theorem State.ticks_silent (s : State) (t : Nat) : s.silent.ticks t = s.ticks t := rfl
@[simp] theorem State.portCfg_silent (s : State) (p : Nat) : s.silent.portCfg p = s.portCfg p := rfl
@[simp] theorem State.pairSide_silent (s : State) : s.silent.pairSide = s.pairSide := rfl
@[simp] theorem State.sideB_silent (s : State) : s.silent.sideB = s.sideB := rfl
@[simp] theorem State.basePort_silent (s : State) (p : Nat) : s.silent.basePort p = s.basePort p := rfl
@[simp] theorem State.cellPort_silent (s : State) (ci : Nat) : s.silent.cellPort ci = s.cellPort ci := rfl
@[simp] theorem State.cellPos_silent (s : State) (ci : Nat) : s.silent.cellPos ci = s.cellPos ci := rfl
@[simp] theorem State.configured_silent (s : State) (p : Nat) : s.silent.configured p = s.configured p := rfl
@[simp] theorem State.occupied_silent (s : State) (ci : Nat) : s.silent.occupied ci = s.occupied ci := rfl
@[simp] theorem State.cellCfg_silent (s : State) (ci : Nat) : s.silent.cellCfg ci = s.cellCfg ci := rfl
@[simp] theorem State.enabled_silent (s : State) (ci : Nat) : s.silent.enabled ci = s.enabled ci := rfl
@[simp] theorem State.stackOf_silent (s : State) (ci : Nat) : s.silent.stackOf ci = s.stackOf ci := rfl
@[simp] theorem State.stackEn_silent (s : State) (k : Nat) : s.silent.stackEn k = s.stackEn k := rfl
@[simp] theorem State.stackType_silent (s : State) (k : Nat) : s.silent.stackType k = s.stackType k := rfl
@[simp] theorem State.strings_silent (s : State) : s.silent.strings = s.strings := rfl
@[simp] theorem State.stackStrings_silent (s : State) (k : Nat) : s.silent.stackStrings k = s.stackStrings k := rfl
@[simp] theorem State.stringCells_silent (s : State) (p : Nat) : s.silent.stringCells p = s.stringCells p := rfl
@[simp] theorem State.stackCells_silent (s : State) (k : Nat) : s.silent.stackCells k = s.stackCells k := rfl
@[simp] theorem State.allCells_silent (s : State) : s.silent.allCells = s.allCells := rfl
@[simp] theorem State.usedPorts_silent (s : State) (p : Nat) : s.silent.usedPorts p = s.usedPorts p := rfl
@[simp] theorem State.laneCtl_silent (s : State) (i : Nat) : s.silent.laneCtl i = s.laneCtl i := rfl
@[simp] theorem State.lit_silent (s : State) (i : Nat) : s.silent.lit i = s.lit i := rfl
@[simp] theorem State.litPorts_silent (s : State) (mask : Nat) : s.silent.litPorts mask = s.litPorts mask := rfl
@[simp] theorem State.stringLive_silent (s : State) (p : Nat) : s.silent.stringLive p = s.stringLive p := rfl
@[simp] theorem State.laneInUse_silent (s : State) (i : Nat) : s.silent.laneInUse i = s.laneInUse i := rfl
@[simp] theorem State.lead_silent (s : State) : s.silent.lead = s.lead := rfl
@[simp] theorem State.look_silent (s : State) : s.silent.look = s.look := rfl
@[simp] theorem State.isActive_silent (s : State) (code inst : Nat) :
    s.silent.isActive code inst = s.isActive code inst := rfl
@[simp] theorem State.anyActive_silent (s : State) (code : Nat) : s.silent.anyActive code = s.anyActive code := rfl
@[simp] theorem State.scope_silent (s : State) (code inst : Nat) :
    s.silent.scope code inst = s.scope code inst := rfl
@[simp] theorem State.eventBlocked_silent (s : State) : s.silent.eventBlocked = s.eventBlocked := rfl
@[simp] theorem State.blotRow_silent (s : State) : s.silent.blotRow = s.blotRow := rfl
@[simp] theorem State.faulted_silent (s : State) (ci : Nat) : s.silent.faulted ci = s.faulted ci := rfl
@[simp] theorem State.svc_silent (s : State) (ci : Nat) : s.silent.svc ci = s.svc ci := rfl
@[simp] theorem State.inService_silent (s : State) (ci : Nat) : s.silent.inService ci = s.inService ci := rfl
@[simp] theorem State.admitted_silent (s : State) (ci : Nat) : s.silent.admitted ci = s.admitted ci := rfl
@[simp] theorem State.stackAdmitted_silent (s : State) (k : Nat) :
    s.silent.stackAdmitted k = s.stackAdmitted k := rfl
@[simp] theorem State.portIp_silent (s : State) (p : Nat) : s.silent.portIp p = s.portIp p := rfl
@[simp] theorem State.ptpPort_silent (s : State) (p : Nat) : s.silent.ptpPort p = s.ptpPort p := rfl
@[simp] theorem State.stream_silent (s : State) (j : Nat) : s.silent.stream j = s.stream j := rfl
@[simp] theorem State.canOf_silent (s : State) (c : Nat) : s.silent.canOf c = s.canOf c := rfl
@[simp] theorem State.canSlots_silent (s : State) (c kind j : Nat) :
    s.silent.canSlots c kind j = s.canSlots c kind j := rfl
@[simp] theorem State.lossReported_silent (s : State) (i : Nat) : s.silent.lossReported i = s.lossReported i := rfl
@[simp] theorem State.eqFixed_silent (s : State) (i : Nat) : s.silent.eqFixed i = s.eqFixed i := rfl
@[simp] theorem State.huntState_silent (s : State) (i : Nat) : s.silent.huntState i = s.huntState i := rfl
@[simp] theorem State.loopOf_silent (s : State) (i : Nat) : s.silent.loopOf i = s.loopOf i := rfl
@[simp] theorem State.allLocked_silent (s : State) : s.silent.allLocked = s.allLocked := rfl
@[simp] theorem State.refCoasts_silent (s : State) : s.silent.refCoasts = s.refCoasts := rfl
@[simp] theorem State.anyLaneUsed_silent (s : State) : s.silent.anyLaneUsed = s.anyLaneUsed := rfl
@[simp] theorem State.refPeriod_silent (s : State) : s.silent.refPeriod = s.refPeriod := rfl
@[simp] theorem State.timeSource_silent (s : State) (best : Nat) :
    s.silent.timeSource best = s.timeSource best := rfl
@[simp] theorem State.bondGroup_silent (s : State) : s.silent.bondGroup = s.bondGroup := rfl
@[simp] theorem State.siCfg_silent (s : State) (n : Nat) : s.silent.siCfg n = s.siCfg n := rfl
@[simp] theorem State.soCfg_silent (s : State) (k : Nat) : s.silent.soCfg k = s.soCfg k := rfl
@[simp] theorem State.sflCfg_silent (s : State) (j : Nat) : s.silent.sflCfg j = s.sflCfg j := rfl
@[simp] theorem State.inputDemanded_silent (s : State) (c : SafCh) (n : Nat) :
    s.silent.inputDemanded c n = s.inputDemanded c n := rfl
@[simp] theorem State.demandedBy_silent (s : State) (c : SafCh) : s.silent.demandedBy c = s.demandedBy c := rfl
@[simp] theorem State.consumed_silent (s : State) (j : Nat) : s.silent.consumed j = s.consumed j := rfl
@[simp] theorem State.produced_silent (s : State) (j : Nat) : s.silent.produced j = s.produced j := rfl
@[simp] theorem State.stbDemand_silent (s : State) (c : SafCh) : s.silent.stbDemand c = s.stbDemand c := rfl
@[simp] theorem State.spbDemand_silent (s : State) (c : SafCh) : s.silent.spbDemand c = s.spbDemand c := rfl
@[simp] theorem State.channelMask_silent (s : State) (c : SafCh) : s.silent.channelMask c = s.channelMask c := rfl
@[simp] theorem State.islandMask_silent (s : State) : s.silent.islandMask = s.islandMask := rfl
@[simp] theorem State.blocked_silent (s : State) : s.silent.blocked = s.blocked := rfl
@[simp] theorem State.safeHoldRequest_silent (s : State) : s.silent.safeHoldRequest = s.safeHoldRequest := rfl
@[simp] theorem State.commands_silent (s : State) (c : SafCh) : s.silent.commands c = s.commands c := rfl
@[simp] theorem State.pulseCheck_silent (s : State) (x : SafCh) (src : Nat) :
    s.silent.pulseCheck x src = s.pulseCheck x src := rfl
@[simp] theorem State.islandsOf_silent (s : State) (mask : Nat) : s.silent.islandsOf mask = s.islandsOf mask := rfl
@[simp] theorem State.safeBits_silent (s : State) (x : SafCh) : s.silent.safeBits x = s.safeBits x := rfl
@[simp] theorem State.safeFrame_silent (s : State) (x : SafCh) (j : Nat) (sq : Word) :
    s.silent.safeFrame x j sq = s.safeFrame x j sq := rfl
@[simp] theorem State.dcell_silent (s : State) (ci : Nat) : s.silent.dcell ci = s.dcell ci := rfl
@[simp] theorem State.dstack_silent (s : State) (k : Nat) : s.silent.dstack k = s.dstack k := rfl
@[simp] theorem State.post_silent (s : State) (k : Nat) : s.silent.post k = s.post k := rfl
@[simp] theorem State.sch_silent (s : State) (ci : Nat) : s.silent.sch ci = s.sch ci := rfl
@[simp] theorem State.schStack_silent (s : State) (k : Nat) : s.silent.schStack k = s.schStack k := rfl
@[simp] theorem State.supSw_silent (s : State) (j : Nat) : s.silent.supSw j = s.supSw j := rfl
@[simp] theorem State.supCell_silent (s : State) (ci : Nat) : s.silent.supCell ci = s.supCell ci := rfl
@[simp] theorem State.wordAt_silent (s : State) (T k : Nat) : s.silent.wordAt T k = s.wordAt T k := rfl
@[simp] theorem State.stkCfg_silent (s : State) (k T : Nat) : s.silent.stkCfg k T = s.stkCfg k T := rfl
@[simp] theorem State.genTarget_silent (s : State) : s.silent.genTarget = s.genTarget := rfl
@[simp] theorem State.opRec_silent (s : State) (id : Nat) : s.silent.opRec id = s.opRec id := rfl
@[simp] theorem State.opsRunning_silent (s : State) (opcode : Nat) :
    s.silent.opsRunning opcode = s.opsRunning opcode := rfl
@[simp] theorem State.nextOp_silent (s : State) : s.silent.nextOp = s.nextOp := rfl
@[simp] theorem State.preOp_silent (s : State) : s.silent.preOp = s.preOp := rfl
@[simp] theorem State.insertedCells_silent (s : State) (k : Nat) :
    s.silent.insertedCells k = s.insertedCells k := rfl
@[simp] theorem State.chargingCells_silent (s : State) (k : Nat) :
    s.silent.chargingCells k = s.chargingCells k := rfl
@[simp] theorem State.ordinal_silent (s : State) (ci : Nat) : s.silent.ordinal ci = s.ordinal ci := rfl
@[simp] theorem State.vAvg_silent (s : State) (k : Nat) : s.silent.vAvg k = s.vAvg k := rfl
@[simp] theorem State.nlsCell_silent (s : State) (typ t0 ci : Nat) :
    s.silent.nlsCell typ t0 ci = s.nlsCell typ t0 ci := rfl
@[simp] theorem State.nlsLevels_silent (s : State) (k : Nat) (cnt : Nat) (typ : Nat) (v0 v1 : Word) :
    s.silent.nlsLevels k cnt typ v0 v1 = s.nlsLevels k cnt typ v0 v1 := rfl
@[simp] theorem State.nlsStack_silent (s : State) (k T : Nat) (c : StkCfg) (inp : StackIn) :
    s.silent.nlsStack k T c inp = s.nlsStack k T c inp := rfl
@[simp] theorem State.pscCell_silent (s : State) (k typ T : Nat) (ps : List Piece) (m0 m1 : Word) (ci : Nat) :
    s.silent.pscCell k typ T ps m0 m1 ci = s.pscCell k typ T ps m0 m1 ci := rfl
@[simp] theorem State.pscIndex_silent (s : State) (k : Nat) (v : Word) :
    s.silent.pscIndex k v = s.pscIndex k v := rfl
@[simp] theorem State.pscStack_silent (s : State) (k T : Nat) (ps : List Piece) (inp : StackIn) :
    s.silent.pscStack k T ps inp = s.pscStack k T ps inp := rfl
@[simp] theorem State.stagger_silent (s : State) (c : StkCfg) (k ci : Nat) :
    s.silent.stagger c k ci = s.stagger c k ci := rfl
@[simp] theorem State.dpsCell_silent (s : State) (c : StkCfg) (k : Nat) (ps : List Piece) (phi : GenSet → Int) (trim : Int) (ci : Nat) :
    s.silent.dpsCell c k ps phi trim ci = s.dpsCell c k ps phi trim ci := rfl
@[simp] theorem State.dpsStack_silent (s : State) (c : StkCfg) (k : Nat) (ps : List Piece) (inp : StackIn) :
    s.silent.dpsStack c k ps inp = s.dpsStack c k ps inp := rfl
@[simp] theorem State.phaseTwo_silent (s : State) (k : Nat) : s.silent.phaseTwo k = s.phaseTwo k := rfl
@[simp] theorem State.preStack_silent (s : State) (c : StkCfg) (k T : Nat) (ps : List Piece) (inp : StackIn) :
    s.silent.preStack c k T ps inp = s.preStack c k T ps inp := rfl
@[simp] theorem State.segBlocked_silent (s : State) (k : Nat) : s.silent.segBlocked k = s.segBlocked k := rfl
@[simp] theorem State.justReleased_silent (s : State) (k : Nat) : s.silent.justReleased k = s.justReleased k := rfl
@[simp] theorem State.modulated_silent (s : State) (k T : Nat) : s.silent.modulated k T = s.modulated k T := rfl
@[simp] theorem State.segFlags_silent (s : State) (k ci : Nat) (hold : Bool) :
    s.silent.segFlags k ci hold = s.segFlags k ci hold := rfl
@[simp] theorem State.hasInputs_silent (s : State) (k T : Nat) : s.silent.hasInputs k T = s.hasInputs k T := rfl
@[simp] theorem State.ownStep_silent (s : State) : s.silent.ownStep = s.ownStep := rfl
@[simp] theorem State.codeOf_silent (s : State) (ci sw : Nat) (on : Bool) :
    s.silent.codeOf ci sw on = s.codeOf ci sw on := rfl
@[simp] theorem State.modeOf_silent (s : State) (j : Nat) : s.silent.modeOf j = s.modeOf j := rfl
@[simp] theorem State.stepRuns_silent (s : State) (k j : Nat) (inp : StepIn) :
    s.silent.stepRuns k j inp = s.stepRuns k j inp := rfl
@[simp] theorem State.keptStep_silent (s : State) (back : Nat) : s.silent.keptStep back = s.keptStep back := rfl
@[simp] theorem State.heldStep_silent (s : State) : s.silent.heldStep = s.heldStep := rfl
@[simp] theorem State.cutOf_silent (s : State) (ci : Nat) : s.silent.cutOf ci = s.cutOf ci := rfl
@[simp] theorem State.v1_silent (s : State) (ci : Nat) : s.silent.v1 ci = s.v1 ci := rfl
@[simp] theorem State.v2_silent (s : State) (ci : Nat) : s.silent.v2 ci = s.v2 ci := rfl
@[simp] theorem State.iCell_silent (s : State) (ci : Nat) : s.silent.iCell ci = s.iCell ci := rfl
@[simp] theorem State.c1_silent (s : State) (ci : Nat) : s.silent.c1 ci = s.c1 ci := rfl
@[simp] theorem State.c2_silent (s : State) (ci : Nat) : s.silent.c2 ci = s.c2 ci := rfl
@[simp] theorem State.cutCells_silent (s : State) (k : Nat) (v : Svc) :
    s.silent.cutCells k v = s.cutCells k v := rfl
@[simp] theorem State.planned_silent (s : State) (typ ci : Nat) : s.silent.planned typ ci = s.planned typ ci := rfl
@[simp] theorem State.stackCurrent_silent (s : State) (k : Nat) : s.silent.stackCurrent k = s.stackCurrent k := rfl
@[simp] theorem State.currentFloor_silent (s : State) (k : Nat) (i : Word) :
    s.silent.currentFloor k i = s.currentFloor k i := rfl
@[simp] theorem State.vPred_silent (s : State) (k T : Nat) (i : Word) (ci : Nat) :
    s.silent.vPred k T i ci = s.vPred k T i ci := rfl
@[simp] theorem State.schedIn_silent (s : State) (k : Nat) : s.silent.schedIn k = s.schedIn k := rfl
@[simp] theorem State.deviations_silent (s : State) (x : SchedIn) (lam : Int) :
    s.silent.deviations x lam = s.deviations x lam := rfl
@[simp] theorem State.thSw_silent (s : State) (j : Nat) : s.silent.thSw j = s.thSw j := rfl
@[simp] theorem State.headroom_silent (s : State) (ci legs : Nat) :
    s.silent.headroom ci legs = s.headroom ci legs := rfl
@[simp] theorem State.heatSwitch_silent (s : State) (x : SchedIn) (nMean dev : Word) (ci : Nat) :
    s.silent.heatSwitch x nMean dev ci = s.heatSwitch x nMean dev ci := rfl
@[simp] theorem State.lambda_silent (s : State) (x : SchedIn) : s.silent.lambda x = s.lambda x := rfl
@[simp] theorem State.rankNls_silent (s : State) (x : SchedIn) : s.silent.rankNls x = s.rankNls x := rfl
@[simp] theorem State.kp_silent (s : State) (k : Nat) : s.silent.kp k = s.kp k := rfl
@[simp] theorem State.trimClamp_silent (s : State) (x : SchedIn) (v : Word) :
    s.silent.trimClamp x v = s.trimClamp x v := rfl
@[simp] theorem State.trimsPsc_silent (s : State) (x : SchedIn) : s.silent.trimsPsc x = s.trimsPsc x := rfl
@[simp] theorem State.trimDab_silent (s : State) (x : SchedIn) (e1 e2 vb1 vb2 : Word) (ci : Nat) :
    s.silent.trimDab x e1 e2 vb1 vb2 ci = s.trimDab x e1 e2 vb1 vb2 ci := rfl
@[simp] theorem State.trimsDps_silent (s : State) (x : SchedIn) : s.silent.trimsDps x = s.trimsDps x := rfl
@[simp] theorem State.preTol_silent (s : State) (k : Nat) : s.silent.preTol k = s.preTol k := rfl
@[simp] theorem State.preTargets_silent (s : State) (x : SchedIn) : s.silent.preTargets x = s.preTargets x := rfl
@[simp] theorem State.preCommand_silent (s : State) (x : SchedIn) (target : Word) (ci : Nat) :
    s.silent.preCommand x target ci = s.preCommand x target ci := rfl
@[simp] theorem State.within_silent (s : State) (k : Nat) (times : Nat) (v target : Word) :
    s.silent.within k times v target = s.within k times v target := rfl
@[simp] theorem State.nomRatio_silent (s : State) (ci : Nat) (v : Word) :
    s.silent.nomRatio ci v = s.nomRatio ci v := rfl
@[simp] theorem State.halfNominal_silent (s : State) (ci : Nat) : s.silent.halfNominal ci = s.halfNominal ci := rfl
@[simp] theorem State.preMet_silent (s : State) (x : SchedIn) (cmds : List (Nat × Int)) (ci : Nat) :
    s.silent.preMet x cmds ci = s.preMet x cmds ci := rfl
@[simp] theorem State.phaseMet_silent (s : State) (x : SchedIn) (phase ci : Nat) :
    s.silent.phaseMet x phase ci = s.phaseMet x phase ci := rfl
@[simp] theorem State.spreadHigh_silent (s : State) (k : Nat) (ins : List Nat) (ib : Word) (sp1 sp2 : Nat) :
    s.silent.spreadHigh k ins ib sp1 sp2 = s.spreadHigh k ins ib sp1 sp2 := rfl
@[simp] theorem State.tset_silent (s : State) (j : Nat) : s.silent.tset j = s.tset j := rfl
@[simp] theorem State.tsetOf_silent (s : State) (k leg : Nat) : s.silent.tsetOf k leg = s.tsetOf k leg := rfl
@[simp] theorem State.cellCurrent_silent (s : State) (k ci c : Nat) (blocked : Bool) (trim : Int) :
    s.silent.cellCurrent k ci c blocked trim = s.cellCurrent k ci c blocked trim := rfl
@[simp] theorem State.legVdc_silent (s : State) (ci leg : Nat) : s.silent.legVdc ci leg = s.legVdc ci leg := rfl
@[simp] theorem State.cellLoss_silent (s : State) (k ci c : Nat) :
    s.silent.cellLoss k ci c = s.cellLoss k ci c := rfl
@[simp] theorem State.thRef_silent (s : State) (j : Nat) : s.silent.thRef j = s.thRef j := rfl
@[simp] theorem State.caseOf_silent (s : State) (k ci leg : Nat) :
    s.silent.caseOf k ci leg = s.caseOf k ci leg := rfl

@[simp] theorem State.caseTemp_silent (s : State) (free k ci leg : Nat) :
    s.silent.caseTemp free k ci leg = s.caseTemp free k ci leg := rfl
@[simp] theorem State.modelled_silent (s : State) (k : Nat) : s.silent.modelled k = s.modelled k := rfl
@[simp] theorem State.checked_silent (s : State) : s.silent.checked = s.checked := rfl
@[simp] theorem State.recOf_silent (s : State) (src : Nat) : s.silent.recOf src = s.recOf src := rfl
@[simp] theorem State.baseTemp_silent (s : State) : s.silent.baseTemp = s.baseTemp := rfl
@[simp] theorem State.present_silent (s : State) (e : ActEv) : s.silent.present e = s.present e := rfl
@[simp] theorem State.quietAllowed_silent (s : State) (e : ActEv) :
    s.silent.quietAllowed e = s.quietAllowed e := rfl
@[simp] theorem State.sourceEvents_silent (s : State) (src : Nat) :
    s.silent.sourceEvents src = s.sourceEvents src := rfl
@[simp] theorem State.autoAllowed_silent (s : State) (src : Nat) :
    s.silent.autoAllowed src = s.autoAllowed src := rfl
@[simp] theorem State.clrDelay_silent (s : State) : s.silent.clrDelay = s.clrDelay := rfl
@[simp] theorem State.clrStrings_silent (s : State) (idx : Nat) : s.silent.clrStrings idx = s.clrStrings idx := rfl
@[simp] theorem State.resetScope_silent (s : State) (scope index inst : Nat) (e : ActEv) :
    s.silent.resetScope scope index inst e = s.resetScope scope index inst e := rfl
@[simp] theorem State.resetSource_silent (s : State) (scope index inst src : Nat) :
    s.silent.resetSource scope index inst src = s.resetSource scope index inst src := rfl
@[simp] theorem State.slot_silent (s : State) (n : Nat) : s.silent.slot n = s.slot n := rfl
@[simp] theorem State.slotWord_silent (s : State) (n w : Nat) : s.silent.slotWord n w = s.slotWord n w := rfl
@[simp] theorem State.coeff_silent (s : State) (n i : Nat) : s.silent.coeff n i = s.coeff n i := rfl
@[simp] theorem State.slotEn_silent (s : State) (n : Nat) : s.silent.slotEn n = s.slotEn n := rfl
@[simp] theorem State.slotGroup_silent (s : State) (n : Nat) : s.silent.slotGroup n = s.slotGroup n := rfl
@[simp] theorem State.slotDest_silent (s : State) (n : Nat) : s.silent.slotDest n = s.slotDest n := rfl
@[simp] theorem State.slotStack_silent (s : State) (n : Nat) : s.silent.slotStack n = s.slotStack n := rfl
@[simp] theorem State.slotOut_silent (s : State) (n : Nat) : s.silent.slotOut n = s.slotOut n := rfl
@[simp] theorem State.pointStale_silent (s : State) (id : Nat) : s.silent.pointStale id = s.pointStale id := rfl
@[simp] theorem State.quantity_silent (s : State) (k code : Nat) :
    s.silent.quantity k code = s.quantity k code := rfl
@[simp] theorem State.source_silent (s : State) (w : Word) : s.silent.source w = s.source w := rfl
@[simp] theorem State.slotSources_silent (s : State) (n : Nat) : s.silent.slotSources n = s.slotSources n := rfl
@[simp] theorem State.slotStale_silent (s : State) (n : Nat) : s.silent.slotStale n = s.slotStale n := rfl
@[simp] theorem State.slotIn_silent (s : State) (n : Nat) : s.silent.slotIn n = s.slotIn n := rfl
@[simp] theorem State.stackQuants_silent (s : State) (k : Nat) : s.silent.stackQuants k = s.stackQuants k := rfl
@[simp] theorem State.slotTs_silent (s : State) (n : Nat) : s.silent.slotTs n = s.slotTs n := rfl
@[simp] theorem State.samples_silent (s : State) (n : Nat) : s.silent.samples n = s.samples n := rfl
@[simp] theorem State.groupOf_silent (s : State) (n : Nat) : s.silent.groupOf n = s.groupOf n := rfl
@[simp] theorem State.suspended_silent (s : State) (n : Nat) : s.silent.suspended n = s.suspended n := rfl
@[simp] theorem State.slotOffer_silent (s : State) (n : Nat) : s.silent.slotOffer n = s.slotOffer n := rfl
@[simp] theorem State.trackedOut_silent (s : State) (n : Nat) : s.silent.trackedOut n = s.trackedOut n := rfl
@[simp] theorem State.groupOut_silent (s : State) (mem : List Nat) (cands : List Word) :
    s.silent.groupOut mem cands = s.groupOut mem cands := rfl
@[simp] theorem State.wiredTo_silent (s : State) (k : Nat) : s.silent.wiredTo k = s.wiredTo k := rfl
@[simp] theorem State.mayClose_silent (s : State) (n : Nat) : s.silent.mayClose n = s.mayClose n := rfl
@[simp] theorem State.switches_silent (s : State) (ci : Nat) : s.silent.switches ci = s.switches ci := rfl
@[simp] theorem State.supCode_silent (s : State) (ci : Nat) : s.silent.supCode ci = s.supCode ci := rfl
@[simp] theorem State.supTarget_silent (s : State) (ci sw : Nat) (on : Bool) :
    s.silent.supTarget ci sw on = s.supTarget ci sw on := rfl
@[simp] theorem State.sysState_silent (s : State) : s.silent.sysState = s.sysState := rfl
@[simp] theorem State.islandRuns_silent (s : State) : s.silent.islandRuns = s.islandRuns := rfl
@[simp] theorem State.stacksInserted_silent (s : State) (noCharging : Bool) :
    s.silent.stacksInserted noCharging = s.stacksInserted noCharging := rfl
@[simp] theorem State.moduleEvent_silent (s : State) : s.silent.moduleEvent = s.moduleEvent := rfl
@[simp] theorem State.fromStandby_silent (s : State) (dst : ModState) (mask : Nat) :
    s.silent.fromStandby dst mask = s.fromStandby dst mask := rfl
@[simp] theorem State.mayMode_silent (s : State) (dst : ModState) (mask : Nat) :
    s.silent.mayMode dst mask = s.mayMode dst mask := rfl
@[simp] theorem State.rateOf_silent (s : State) (p : Nat) : s.silent.rateOf p = s.rateOf p := rfl
@[simp] theorem State.ratePort_silent (s : State) (p : Nat) : s.silent.ratePort p = s.ratePort p := rfl
@[simp] theorem State.slotsOf_silent (s : State) (p : Nat) : s.silent.slotsOf p = s.slotsOf p := rfl
@[simp] theorem State.portSide_silent (s : State) (q : Nat) : s.silent.portSide q = s.portSide q := rfl
@[simp] theorem State.sends_silent (s : State) (q : Nat) : s.silent.sends q = s.sends q := rfl
@[simp] theorem State.reaches_silent (s : State) (p pos side : Nat) :
    s.silent.reaches p pos side = s.reaches p pos side := rfl
@[simp] theorem State.headerAct_silent (s : State) : s.silent.headerAct = s.headerAct := rfl
@[simp] theorem State.actDir_silent (s : State) (q : Nat) : s.silent.actDir q = s.actDir q := rfl
@[simp] theorem State.headerRly_silent (s : State) (q : Nat) : s.silent.headerRly q = s.headerRly q := rfl
@[simp] theorem State.strokeHeader_silent (s : State) (q : Nat) : s.silent.strokeHeader q = s.strokeHeader q := rfl
@[simp] theorem State.builtSeg_silent (s : State) (b pos : Nat) : s.silent.builtSeg b pos = s.builtSeg b pos := rfl
@[simp] theorem State.sentSeg_silent (s : State) (q pos : Nat) : s.silent.sentSeg q pos = s.sentSeg q pos := rfl
@[simp] theorem State.echoes_silent (s : State) (b : Nat) : s.silent.echoes b = s.echoes b := rfl
@[simp] theorem State.segInTime_silent (s : State) (pos rate arr d : Nat) :
    s.silent.segInTime pos rate arr d = s.segInTime pos rate arr d := rfl
@[simp] theorem State.deadline_silent (s : State) : s.silent.deadline = s.deadline := rfl
@[simp] theorem State.mirrors_silent (s : State) (q : Nat) : s.silent.mirrors q = s.mirrors q := rfl
@[simp] theorem State.lateSegs_silent (s : State) (b : Nat) (mirror : Bool) :
    s.silent.lateSegs b mirror = s.lateSegs b mirror := rfl
@[simp] theorem State.vmax1_silent (s : State) (ci : Nat) : s.silent.vmax1 ci = s.vmax1 ci := rfl
@[simp] theorem State.vmax2_silent (s : State) (ci : Nat) : s.silent.vmax2 ci = s.vmax2 ci := rfl
@[simp] theorem State.slotReached_silent (s : State) (b side pos : Nat) (h : RxHdr) :
    s.silent.slotReached b side pos h = s.slotReached b side pos h := rfl
@[simp] theorem State.tilePoisoned_silent (s : State) (ci : Nat) :
    s.silent.tilePoisoned ci = s.tilePoisoned ci := rfl
@[simp] theorem State.aiNamed_silent (s : State) : s.silent.aiNamed = s.aiNamed := rfl
@[simp] theorem State.aiRes_silent (s : State) (n : Nat) : s.silent.aiRes n = s.aiRes n := rfl
@[simp] theorem State.measured_silent (s : State) (b ci : Nat) : s.silent.measured b ci = s.measured b ci := rfl
@[simp] theorem State.admitMatches_silent (s : State) (ci : Nat) (ident : Word) :
    s.silent.admitMatches ci ident = s.admitMatches ci ident := rfl
@[simp] theorem State.inPrecharge_silent (s : State) (ci : Nat) : s.silent.inPrecharge ci = s.inPrecharge ci := rfl
@[simp] theorem State.preDone_silent (s : State) (o : OpRec) : s.silent.preDone o = s.preDone o := rfl
@[simp] theorem State.conv_silent (s : State) (k : Nat) : s.silent.conv k = s.conv k := rfl
@[simp] theorem State.adcSet_silent (s : State) (k sl : Nat) : s.silent.adcSet k sl = s.adcSet k sl := rfl
@[simp] theorem State.inkByte_silent (s : State) (a : Nat) : s.silent.inkByte a = s.inkByte a := rfl
@[simp] theorem State.inkBytes_silent (s : State) (a n : Nat) : s.silent.inkBytes a n = s.inkBytes a n := rfl
@[simp] theorem State.inkPoisoned_silent (s : State) (tile : Nat) :
    s.silent.inkPoisoned tile = s.inkPoisoned tile := rfl
@[simp] theorem State.cellTile_silent (s : State) (ci : Nat) : s.silent.cellTile ci = s.cellTile ci := rfl
@[simp] theorem State.cimTile_silent (s : State) (tile : Nat) : s.silent.cimTile tile = s.cimTile tile := rfl
@[simp] theorem State.cimBytes_silent (s : State) (a n : Nat) : s.silent.cimBytes a n = s.cimBytes a n := rfl
@[simp] theorem State.arb_silent (s : State) (i : Nat) : s.silent.arb i = s.arb i := rfl
@[simp] theorem State.tickets_silent (s : State) (i : Nat) : s.silent.tickets i = s.tickets i := rfl
@[simp] theorem State.frozen_silent (s : State) : s.silent.frozen = s.frozen := rfl
@[simp] theorem State.govAllows_silent (s : State) (i : Nat) : s.silent.govAllows i = s.govAllows i := rfl
@[simp] theorem State.eligible_silent (s : State) (i : Nat) : s.silent.eligible i = s.eligible i := rfl
@[simp] theorem State.blotN_silent (s : State) : s.silent.blotN = s.blotN := rfl
@[simp] theorem State.blotDepth_silent (s : State) : s.silent.blotDepth = s.blotDepth := rfl
@[simp] theorem State.cqSize_silent (s : State) (ch : Nat) : s.silent.cqSize ch = s.cqSize ch := rfl
@[simp] theorem State.cqHead_silent (s : State) (ch : Nat) : s.silent.cqHead ch = s.cqHead ch := rfl
@[simp] theorem State.freeTag_silent (s : State) : s.silent.freeTag = s.freeTag := rfl
@[simp] theorem State.burstBytes_silent (s : State) (d : List Byte) (off n : Nat) :
    s.silent.burstBytes d off n = s.burstBytes d off n := rfl
@[simp] theorem State.burstPoisoned_silent (s : State) (d : List Byte) (off n : Nat) :
    s.silent.burstPoisoned d off n = s.burstPoisoned d off n := rfl
@[simp] theorem State.blotPre_silent (s : State) : s.silent.blotPre = s.blotPre := rfl
@[simp] theorem State.netConns_silent (s : State) : s.silent.netConns = s.netConns := rfl
@[simp] theorem State.joined_silent (s : State) (p : Nat) (ip : Word) : s.silent.joined p ip = s.joined p ip := rfl
@[simp] theorem State.inPrefix_silent (s : State) (p : Nat) (ip : Word) :
    s.silent.inPrefix p ip = s.inPrefix p ip := rfl
@[simp] theorem State.reachable_silent (s : State) (p : Nat) (ip : Word) :
    s.silent.reachable p ip = s.reachable p ip := rfl
@[simp] theorem State.frameOk_silent (s : State) (p : Nat) (f : NetFrame) :
    s.silent.frameOk p f = s.frameOk p f := rfl
@[simp] theorem State.ipOk_silent (s : State) (p : Nat) (f : NetFrame) : s.silent.ipOk p f = s.ipOk p f := rfl
@[simp] theorem State.ptpOn_silent (s : State) (p : Nat) : s.silent.ptpOn p = s.ptpOn p := rfl
@[simp] theorem State.srcAllows_silent (s : State) (p : Nat) : s.silent.srcAllows p = s.srcAllows p := rfl
@[simp] theorem State.qualifies_silent (s : State) (p : Nat) (a : PtpAnn) :
    s.silent.qualifies p a = s.qualifies p a := rfl
@[simp] theorem State.ptpBest_silent (s : State) : s.silent.ptpBest = s.ptpBest := rfl
@[simp] theorem State.forwards_silent (s : State) : s.silent.forwards = s.forwards := rfl
@[simp] theorem State.linkDelay_silent (s : State) (p : Nat) : s.silent.linkDelay p = s.linkDelay p := rfl
@[simp] theorem State.strmCtl_silent (s : State) (j : Nat) : s.silent.strmCtl j = s.strmCtl j := rfl
@[simp] theorem State.strmSrcs_silent (s : State) (j : Nat) : s.silent.strmSrcs j = s.strmSrcs j := rfl
@[simp] theorem State.strmStale_silent (s : State) (j : Nat) : s.silent.strmStale j = s.strmStale j := rfl
@[simp] theorem State.strmValues_silent (s : State) (j : Nat) : s.silent.strmValues j = s.strmValues j := rfl
@[simp] theorem State.strmRecord_silent (s : State) (j : Nat) (x : Strm) (entries : List (List Byte)) :
    s.silent.strmRecord j x entries = s.strmRecord j x entries := rfl
@[simp] theorem State.sidOf_silent (s : State) (i : Nat) : s.silent.sidOf i = s.sidOf i := rfl
@[simp] theorem State.sidOpen_silent (s : State) (sid : BitVec 16) : s.silent.sidOpen sid = s.sidOpen sid := rfl
@[simp] theorem State.canCtl_silent (s : State) (c : Nat) : s.silent.canCtl c = s.canCtl c := rfl
@[simp] theorem State.canSlot_silent (s : State) (c k : Nat) : s.silent.canSlot c k = s.canSlot c k := rfl
@[simp] theorem State.canEn_silent (s : State) (c : Nat) : s.silent.canEn c = s.canEn c := rfl
@[simp] theorem State.canOn_silent (s : State) (c : Nat) : s.silent.canOn c = s.canOn c := rfl
@[simp] theorem State.canRom_silent (s : State) (c : Nat) : s.silent.canRom c = s.canRom c := rfl
@[simp] theorem State.basicCycle_silent (s : State) (c : Nat) : s.silent.basicCycle c = s.basicCycle c := rfl
@[simp] theorem State.basicPos_silent (s : State) (c : Nat) : s.silent.basicPos c = s.basicPos c := rfl
@[simp] theorem State.windowOpen_silent (s : State) (c k : Nat) : s.silent.windowOpen c k = s.windowOpen c k := rfl
@[simp] theorem State.mayOffer_silent (s : State) (c k : Nat) : s.silent.mayOffer c k = s.mayOffer c k := rfl
@[simp] theorem State.canWinner_silent (s : State) (c : Nat) : s.silent.canWinner c = s.canWinner c := rfl
@[simp] theorem State.canMatch_silent (s : State) (c : Nat) (f : CanFrame) :
    s.silent.canMatch c f = s.canMatch c f := rfl
@[simp] theorem State.gen_silent (s : State) (g : Nat) : s.silent.gen g = s.gen g := rfl
@[simp] theorem State.bestGen_silent (s : State) : s.silent.bestGen = s.bestGen := rfl
@[simp] theorem State.genContent_silent (s : State) : s.silent.genContent = s.genContent := rfl
@[simp] theorem State.otpWord_silent (s : State) (off : Nat) : s.silent.otpWord off = s.otpWord off := rfl
@[simp] theorem State.fwSlot_silent (s : State) (k : Nat) : s.silent.fwSlot k = s.fwSlot k := rfl
@[simp] theorem State.imgChecks_silent (s : State) (b : List Byte) : s.silent.imgChecks b = s.imgChecks b := rfl
@[simp] theorem State.slotValidFw_silent (s : State) (k : Nat) : s.silent.slotValidFw k = s.slotValidFw k := rfl
@[simp] theorem State.runVersion_silent (s : State) : s.silent.runVersion = s.runVersion := rfl
@[simp] theorem State.safCopy_silent (s : State) : s.silent.safCopy = s.safCopy := rfl
@[simp] theorem State.ownerOk_silent (s : State) : s.silent.ownerOk = s.ownerOk := rfl
@[simp] theorem State.pageWords_silent (s : State) (page : Nat) : s.silent.pageWords page = s.pageWords page := rfl
@[simp] theorem State.cfgHash_silent (s : State) : s.silent.cfgHash = s.cfgHash := rfl
@[simp] theorem State.pairHash_silent (s : State) : s.silent.pairHash = s.pairHash := rfl
@[simp] theorem State.topoHash_silent (s : State) : s.silent.topoHash = s.topoHash := rfl
@[simp] theorem State.leaseLeft_silent (s : State) : s.silent.leaseLeft = s.leaseLeft := rfl
@[simp] theorem State.read00_silent (s : State) (i off : Nat) : s.silent.read00 i off = s.read00 i off := rfl
@[simp] theorem State.read01_silent (s : State) (off : Nat) : s.silent.read01 off = s.read01 off := rfl
@[simp] theorem State.readCell_silent (s : State) (ci w : Nat) : s.silent.readCell ci w = s.readCell ci w := rfl
@[simp] theorem State.read02_silent (s : State) (off : Nat) : s.silent.read02 off = s.read02 off := rfl
@[simp] theorem State.read03_silent (s : State) (off : Nat) : s.silent.read03 off = s.read03 off := rfl
@[simp] theorem State.read04_silent (s : State) (off : Nat) : s.silent.read04 off = s.read04 off := rfl
@[simp] theorem State.genLive_silent (s : State) (k w : Nat) : s.silent.genLive k w = s.genLive k w := rfl
@[simp] theorem State.stkStat_silent (s : State) (k : Nat) : s.silent.stkStat k = s.stkStat k := rfl
@[simp] theorem State.read05_silent (s : State) (off : Nat) : s.silent.read05 off = s.read05 off := rfl
@[simp] theorem State.read06_silent (s : State) (off : Nat) : s.silent.read06 off = s.read06 off := rfl
@[simp] theorem State.readSlot_silent (s : State) (n off : Nat) : s.silent.readSlot n off = s.readSlot n off := rfl
@[simp] theorem State.read07_silent (s : State) (x : Sess) (off : Nat) :
    s.silent.read07 x off = s.read07 x off := rfl
@[simp] theorem State.wearOf_silent (s : State) (ci n : Nat) : s.silent.wearOf ci n = s.wearOf ci n := rfl
@[simp] theorem State.readWear_silent (s : State) (ci off : Nat) :
    s.silent.readWear ci off = s.readWear ci off := rfl
@[simp] theorem State.read08_silent (s : State) (x : Sess) (off : Nat) :
    s.silent.read08 x off = s.read08 x off := rfl
@[simp] theorem State.read09_silent (s : State) (x : Sess) (off : Nat) :
    s.silent.read09 x off = s.read09 x off := rfl
@[simp] theorem State.sflMask_silent (s : State) (p : Sfl → Bool) : s.silent.sflMask p = s.sflMask p := rfl
@[simp] theorem State.read0A_silent (s : State) (off : Nat) : s.silent.read0A off = s.read0A off := rfl
@[simp] theorem State.reversions_silent (s : State) : s.silent.reversions = s.reversions := rfl
@[simp] theorem State.read0B_silent (s : State) (off : Nat) : s.silent.read0B off = s.read0B off := rfl
@[simp] theorem State.ptpState_silent (s : State) (p : Nat) : s.silent.ptpState p = s.ptpState p := rfl
@[simp] theorem State.canStat_silent (s : State) (c : Nat) : s.silent.canStat c = s.canStat c := rfl
@[simp] theorem State.rxBuf_silent (s : State) (x : Sess) : s.silent.rxBuf x = s.rxBuf x := rfl
@[simp] theorem State.readRx_silent (s : State) (x : Sess) (off : Nat) :
    s.silent.readRx x off = s.readRx x off := rfl
@[simp] theorem State.read0C_silent (s : State) (x : Sess) (off : Nat) :
    s.silent.read0C x off = s.read0C x off := rfl
@[simp] theorem State.blotFirst_silent (s : State) : s.silent.blotFirst = s.blotFirst := rfl
@[simp] theorem State.blotRows_silent (s : State) : s.silent.blotRows = s.blotRows := rfl
@[simp] theorem State.arbStat_silent (s : State) (i : Nat) : s.silent.arbStat i = s.arbStat i := rfl
@[simp] theorem State.winWord_silent (s : State) (x : Sess) (n : Nat) : s.silent.winWord x n = s.winWord x n := rfl
@[simp] theorem State.read0D_silent (s : State) (x : Sess) (off : Nat) :
    s.silent.read0D x off = s.read0D x off := rfl
@[simp] theorem State.read0E_silent (s : State) (off : Nat) : s.silent.read0E off = s.read0E off := rfl
@[simp] theorem State.keyList_silent (s : State) : s.silent.keyList = s.keyList := rfl
@[simp] theorem State.read0F_silent (s : State) (off : Nat) : s.silent.read0F off = s.read0F off := rfl
@[simp] theorem State.readWord_silent (s : State) (i page off : Nat) :
    s.silent.readWord i page off = s.readWord i page off := rfl
@[simp] theorem State.stagedWord_silent (s : State) (l : List (Nat × Word)) (k : Nat) :
    s.silent.stagedWord l k = s.stagedWord l k := rfl
@[simp] theorem State.topoCells_silent (s : State) (k : Nat) : s.silent.topoCells k = s.topoCells k := rfl
@[simp] theorem State.detail_silent (s : State) (e : Refuse) : s.silent.detail e = s.detail e := rfl
@[simp] theorem State.recordOk_silent (s : State) (r : Req) : s.silent.recordOk r = s.recordOk r := rfl
@[simp] theorem State.follows_silent (s : State) : s.silent.follows = s.follows := rfl
@[simp] theorem State.leads_silent (s : State) : s.silent.leads = s.leads := rfl
@[simp] theorem State.findKey_silent (s : State) (id : Word) : s.silent.findKey id = s.findKey id := rfl
@[simp] theorem State.freeSlot_silent (s : State) : s.silent.freeSlot = s.freeSlot := rfl
@[simp] theorem State.bindKey_silent (s : State) (i page off : Nat) :
    s.silent.bindKey i page off = s.bindKey i page off := rfl
@[simp] theorem State.owns_silent (s : State) (i : Nat) : s.silent.owns i = s.owns i := rfl
@[simp] theorem State.lockedOut_silent (s : State) (i : Nat) : s.silent.lockedOut i = s.lockedOut i := rfl
@[simp] theorem State.laneBusy_silent (s : State) (i : Nat) (w : Word) :
    s.silent.laneBusy i w = s.laneBusy i w := rfl
@[simp] theorem State.lanesActive_silent (s : State) (p : Nat × Word) :
    s.silent.lanesActive p = s.lanesActive p := rfl
@[simp] theorem State.bondBarred_silent (s : State) (p : Nat × Word) : s.silent.bondBarred p = s.bondBarred p := rfl
@[simp] theorem State.readoutRuns_silent (s : State) : s.silent.readoutRuns = s.readoutRuns := rfl
@[simp] theorem State.dmaBusy_silent (s : State) (ch : Nat) : s.silent.dmaBusy ch = s.dmaBusy ch := rfl
@[simp] theorem State.commitBarred_silent (s : State) (p : Nat × Word) :
    s.silent.commitBarred p = s.commitBarred p := rfl
@[simp] theorem State.commitState_silent (s : State) (l : List (Nat × Word)) :
    s.silent.commitState l = s.commitState l := rfl
@[simp] theorem State.slotShut_silent (s : State) (k : Nat) : s.silent.slotShut k = s.slotShut k := rfl
@[simp] theorem State.commitLock_silent (s : State) (l : List (Nat × Word)) :
    s.silent.commitLock l = s.commitLock l := rfl
@[simp] theorem State.commitLead_silent (s : State) (l : List (Nat × Word)) :
    s.silent.commitLead l = s.commitLead l := rfl
@[simp] theorem State.earliest_silent (s : State) (l : List (Nat × Word)) (t : Nat) :
    s.silent.earliest l t = s.earliest l t := rfl
@[simp] theorem State.cycleBytes_silent (s : State) (due : Nat) : s.silent.cycleBytes due = s.cycleBytes due := rfl
@[simp] theorem State.wordBad_silent (s : State) (i page off : Nat) (w : Word) :
    s.silent.wordBad i page off w = s.wordBad i page off w := rfl
@[simp] theorem State.writeBarred_silent (s : State) (p : Nat × Word) :
    s.silent.writeBarred p = s.writeBarred p := rfl
@[simp] theorem State.writeActive_silent (s : State) (p : Nat × Word) :
    s.silent.writeActive p = s.writeActive p := rfl
@[simp] theorem State.windowPoison_silent (s : State) (i lo hi : Nat) :
    s.silent.windowPoison i lo hi = s.windowPoison i lo hi := rfl
@[simp] theorem State.needsTxn_silent (s : State) (i : Nat) : s.silent.needsTxn i = s.needsTxn i := rfl
@[simp] theorem State.commitDue_silent (s : State) (l : List (Nat × Word)) (p : List Byte) (t : Nat) :
    s.silent.commitDue l p t = s.commitDue l p t := rfl
@[simp] theorem State.preMask_silent (s : State) (mask : Nat) : s.silent.preMask mask = s.preMask mask := rfl
@[simp] theorem State.commitPending_silent (s : State) : s.silent.commitPending = s.commitPending := rfl
@[simp] theorem State.autoTarget_silent (s : State) : s.silent.autoTarget = s.autoTarget := rfl
@[simp] theorem State.stationTime_silent (s : State) (t : Nat) : s.silent.stationTime t = s.stationTime t := rfl
@[simp] theorem State.stringLit_silent (s : State) (b : Nat) : s.silent.stringLit b = s.stringLit b := rfl
@[simp] theorem State.enumCells_silent (s : State) (b : Nat) : s.silent.enumCells b = s.enumCells b := rfl
@[simp] theorem State.enumScope_silent (s : State) (scope port : Nat) :
    s.silent.enumScope scope port = s.enumScope scope port := rfl
@[simp] theorem State.handoverAt_silent (s : State) (t : Nat) : s.silent.handoverAt t = s.handoverAt t := rfl
@[simp] theorem State.otherSlot_silent (s : State) : s.silent.otherSlot = s.otherSlot := rfl
@[simp] theorem State.rowValue_silent (s : State) (row n : Nat) : s.silent.rowValue row n = s.rowValue row n := rfl
@[simp] theorem State.traceHeader_silent (s : State) : s.silent.traceHeader = s.traceHeader := rfl
@[simp] theorem State.traceTotal_silent (s : State) : s.silent.traceTotal = s.traceTotal := rfl
@[simp] theorem State.traceBytes_silent (s : State) (off n : Nat) :
    s.silent.traceBytes off n = s.traceBytes off n := rfl
@[simp] theorem State.allEvents_silent (s : State) : s.silent.allEvents = s.allEvents := rfl
@[simp] theorem State.imgBad_silent (s : State) (b : List Byte) : s.silent.imgBad b = s.imgBad b := rfl
@[simp] theorem State.keyListBad_silent (s : State) (b : List Byte) : s.silent.keyListBad b = s.keyListBad b := rfl
@[simp] theorem State.attestHead_silent (s : State) (nonce : List Byte) (t : Nat) :
    s.silent.attestHead nonce t = s.attestHead nonce t := rfl
@[simp] theorem State.attestReport_silent (s : State) (nonce : List Byte) (t : Nat) :
    s.silent.attestReport nonce t = s.attestReport nonce t := rfl
@[simp] theorem State.blankGen_silent (s : State) : s.silent.blankGen = s.blankGen := rfl
@[simp] theorem State.netBad_silent (s : State) (c : List Byte) : s.silent.netBad c = s.netBad c := rfl
@[simp] theorem State.burnBad_silent (s : State) (b : List Byte) : s.silent.burnBad b = s.burnBad b := rfl
@[simp] theorem State.burnUnsigned_silent (s : State) (b : List Byte) :
    s.silent.burnUnsigned b = s.burnUnsigned b := rfl
@[simp] theorem State.journalByte_silent (s : State) (region a : Nat) :
    s.silent.journalByte region a = s.journalByte region a := rfl
@[simp] theorem State.frameRoom_silent (s : State) : s.silent.frameRoom = s.frameRoom := rfl
@[simp] theorem State.stackCrc_silent (s : State) (k : Nat) (old : Bool) :
    s.silent.stackCrc k old = s.stackCrc k old := rfl
@[simp] theorem State.stackCrcs_silent (s : State) : s.silent.stackCrcs = s.stackCrcs := rfl
@[simp] theorem State.wiredOutputs_silent (s : State) : s.silent.wiredOutputs = s.wiredOutputs := rfl
@[simp] theorem State.baseFrame_silent (s : State) : s.silent.baseFrame = s.baseFrame := rfl
@[simp] theorem State.ownFrame_silent (s : State) : s.silent.ownFrame = s.ownFrame := rfl
@[simp] theorem State.nextTarget_silent (s : State) : s.silent.nextTarget = s.nextTarget := rfl
@[simp] theorem State.cellImage_silent (s : State) (typ ci : Nat) :
    s.silent.cellImage typ ci = s.cellImage typ ci := rfl
@[simp] theorem State.stackImage_silent (s : State) (k : Nat) : s.silent.stackImage k = s.stackImage k := rfl
@[simp] theorem State.captureImage_silent (s : State) : s.silent.captureImage = s.captureImage := rfl
@[simp] theorem State.readyNow_silent (s : State) : s.silent.readyNow = s.readyNow := rfl
@[simp] theorem State.mayDeclare_silent (s : State) : s.silent.mayDeclare = s.mayDeclare := rfl
@[simp] theorem State.allBlocked_silent (s : State) : s.silent.allBlocked = s.allBlocked := rfl
@[simp] theorem State.claimCase_silent (s : State) (tokIn : Bool) :
    s.silent.claimCase tokIn = s.claimCase tokIn := rfl
@[simp] theorem State.elapsedOf_silent (s : State) (c : BitVec 48) : s.silent.elapsedOf c = s.elapsedOf c := rfl
@[simp] theorem State.needsFrom_silent (s : State) : s.silent.needsFrom = s.needsFrom := rfl
@[simp] theorem State.crcFaults_silent (s : State) (f : PFrame) : s.silent.crcFaults f = s.crcFaults f := rfl

end Sys2Proof.Machine
end

