-- ==== Sys2Proof/Laws/Requests.lean ====
section
/-! SUPPORT. The common path of a request that is executed: what the answer of its own effect becomes. -/

namespace Sys2Proof.Machine

/-! What the begun state shares with the state before: everything but the session's own record and sequence. -/

@[simp] theorem State.begun_pending (s : State) (r : Req) : (s.begun r).pending = s.pending := rfl
@[simp] theorem State.begun_cycle (s : State) (r : Req) : (s.begun r).cycle = s.cycle := rfl
@[simp] theorem State.begun_mono (s : State) (r : Req) : (s.begun r).mono = s.mono := rfl
@[simp] theorem State.begun_sys (s : State) (r : Req) : (s.begun r).sys = s.sys := rfl
@[simp] theorem State.begun_regs (s : State) (r : Req) : (s.begun r).regs = s.regs := rfl
@[simp] theorem State.begun_nextW (s : State) (r : Req) : (s.begun r).nextW = s.nextW := rfl
@[simp] theorem State.begun_evt (s : State) (r : Req) : (s.begun r).evt = s.evt := rfl
@[simp] theorem State.begun_pair (s : State) (r : Req) : (s.begun r).pair = s.pair := rfl
@[simp] theorem State.begun_shadow (s : State) (r : Req) : (s.begun r).shadow = s.shadow := rfl
@[simp] theorem State.begun_pairOps (s : State) (r : Req) : (s.begun r).pairOps = s.pairOps := rfl
@[simp] theorem State.begun_boot (s : State) (r : Req) : (s.begun r).boot = s.boot := rfl
@[simp] theorem State.begun_jrnl (s : State) (r : Req) : (s.begun r).jrnl = s.jrnl := rfl
@[simp] theorem State.begun_cells (s : State) (r : Req) : (s.begun r).cells = s.cells := rfl
@[simp] theorem State.begun_mgmt (s : State) (r : Req) : (s.begun r).mgmt = s.mgmt := rfl
@[simp] theorem State.begun_echo (s : State) (r : Req) : (s.begun r).echo = s.echo := rfl
@[simp] theorem State.begun_strs (s : State) (r : Req) : (s.begun r).strs = s.strs := rfl
@[simp] theorem State.begun_lanes (s : State) (r : Req) : (s.begun r).lanes = s.lanes := rfl
@[simp] theorem State.begun_bond (s : State) (r : Req) : (s.begun r).bond = s.bond := rfl
@[simp] theorem State.begun_nibs (s : State) (r : Req) : (s.begun r).nibs = s.nibs := rfl
@[simp] theorem State.begun_nibx (s : State) (r : Req) : (s.begun r).nibx = s.nibx := rfl
@[simp] theorem State.begun_clk (s : State) (r : Req) : (s.begun r).clk = s.clk := rfl
@[simp] theorem State.begun_saf (s : State) (r : Req) : (s.begun r).saf = s.saf := rfl
@[simp] theorem State.begun_duct (s : State) (r : Req) : (s.begun r).duct = s.duct := rfl
@[simp] theorem State.begun_sched (s : State) (r : Req) : (s.begun r).sched = s.sched := rfl
@[simp] theorem State.begun_therm (s : State) (r : Req) : (s.begun r).therm = s.therm := rfl
@[simp] theorem State.begun_sup (s : State) (r : Req) : (s.begun r).sup = s.sup := rfl
@[simp] theorem State.begun_loops (s : State) (r : Req) : (s.begun r).loops = s.loops := rfl
@[simp] theorem State.begun_ai (s : State) (r : Req) : (s.begun r).ai = s.ai := rfl
@[simp] theorem State.begun_ink (s : State) (r : Req) : (s.begun r).ink = s.ink := rfl
@[simp] theorem State.begun_net (s : State) (r : Req) : (s.begun r).net = s.net := rfl
@[simp] theorem State.begun_free (s : State) (r : Req) : (s.begun r).free = s.free := rfl
@[simp] theorem State.begun_out (s : State) (r : Req) : (s.begun r).out = [] := rfl
@[simp] theorem State.begun_pairSide (s : State) (r : Req) : (s.begun r).pairSide = s.pairSide := rfl
@[simp] theorem State.begun_leads (s : State) (r : Req) : (s.begun r).leads = s.leads := rfl
@[simp] theorem State.begun_follows (s : State) (r : Req) : (s.begun r).follows = s.follows := rfl
@[simp] theorem State.begun_txn (s : State) (r : Req) : (s.begun r).cmd.txn = s.cmd.txn := rfl

/-- A request that is executed reaches its own effect in the state `begun`. -/
theorem State.serve_accepted {s : State} {r : Req} {m : Nat} (op : Nat) (f : State → Nat → Answer) (h : s.Accepts r m) :
    s.silent.serve r op m f =
      match f (s.begun r) (reqSlot r) with
      | .refuse e => (s.begun r).reply (reqSlot r) op r.seq e.status ((s.begun r).detail e)
      | .fails t e => t.reply (reqSlot r) op r.seq e.status (t.detail e)
      | .done t status payload => t.reply (reqSlot r) op r.seq status payload
      | .later t w => t.setSess (reqSlot r) { t.sess (reqSlot r) with wait := some (op, r.seq, w) }
      | .closes t => (t.reply (reqSlot r) op r.seq stOk []).closeSess (reqSlot r)
      | .restarts t =>
        let t := (t.reply (reqSlot r) op r.seq stOk []).dropTxn.flushJournal
        if t.pairSide ∧ t.pair.tokOut then
          { t.startGiveUp with cmd := { t.startGiveUp.cmd with restartDue := true } }
        else t.restart := by
  obtain ⟨h1, h2, h3, h4⟩ := h
  have h5 : (s.silent.takeRecord r).sess (reqSlot r) = { s.sess (reqSlot r) with
      rxHigh := max (s.sess (reqSlot r)).rxHigh r.ctr.toNat
      rxSeen := ((s.sess (reqSlot r)).rxSeen ++ [r.ctr.toNat]).filter
        fun c => decide (max (s.sess (reqSlot r)).rxHigh r.ctr.toNat < c + 64)
      port := r.peer.port, ip := r.peer.ip, sport := r.peer.sport.toNat, idleFrom := s.mono } := by
    simp only [State.takeRecord, State.sess, State.setSess, Tab.get_put_same, reqSlot]
    rfl
  rw [State.serve]
  simp only [State.recordOk_silent, h1]
  change (if ((s.silent.takeRecord r).sess (reqSlot r)).wait.isSome = true then _
    else if ((s.silent.takeRecord r).sess (reqSlot r)).nextSeq r.seq = true then (s.silent.takeRecord r).execute r op m f
    else _) = _
  have h7 : ((s.silent.takeRecord r).sess (reqSlot r)).wait = none := by rw [h5]; exact h2
  have h8 : ((s.silent.takeRecord r).sess (reqSlot r)).nextSeq r.seq = true := by rw [h5]; exact h3
  have h9 : ¬ ((s.begun r).sess (reqSlot r)).role < m := by
    simp only [State.begun, State.setSess, State.sess, Tab.get_put_same]
    change ¬ ((s.silent.takeRecord r).sess (reqSlot r)).role < m
    rw [h5]; exact Nat.not_lt.mpr h4
  rw [h7, h8, if_neg (by simp), if_pos rfl]
  change (if ((s.begun r).sess (reqSlot r)).role < m then _ else _) = _
  rw [if_neg h9]
  change (match f (s.begun r) (reqSlot r) with
      | .refuse e => _
      | .fails t e => _
      | .done t status payload => _
      | .later t w => _
      | .closes t => _
      | .restarts t => _) = _
  cases f (s.begun r) (reqSlot r) <;> rfl

/-- A one-word write whose term is the next cycle waits for it and is answered OK. -/
theorem State.setOne_waits (s : State) (r : Req) (k : Nat) (w : Word) (row : WordRow) (h : s.WritesFreely r k w)
    (hr : wordRow (k / 256) (k % 256) = some row) (ht : row.term = .nextCycle) (hk : key (k / 256) (k % 256) = k)
    (h13 : ¬ (k / 256 = 13 ∧ 0xC0 ≤ k % 256))
    (h7 : ¬ (k/256 = 7 ∧ 0x10 ≤ k%256 ∧ k%256 < 0x28)) (hs : sessionWord k = false)
    (hn : k ≠ K.TIME_SNAP) (hp : pageExists (k / 256) = true) (hq : s.leads = false ∨ k / 256 ∉ replicatedPages) :
    s.silent.setOne r k w =
      ({ s.begun r with nextW := (s.begun r).nextW ++ [(k, w)] }).reply (reqSlot r) 0x0011 r.seq stOk [] := by
  obtain ⟨ha, hw⟩ := h
  rw [State.setOne, State.serve_accepted _ _ ha]
  have hb : (s.begun r).bindKey (reqSlot r) (k/256) (k%256) = k := by
    simp [State.bindKey, h7, h13, hk]
  have hl : ¬ ((s.begun r).leads = true ∧ k / 256 ∈ replicatedPages) := by
    rw [State.begun_leads]
    rintro ⟨h1, h2⟩
    rcases hq with h | h
    · simp [h] at h1
    · exact h h2
  have hlive : liveWords (k/256) [(k%256, w)] = [(k%256, w, row)] := by simp [liveWords, hr]
  have hput : (s.begun r).putWord (reqSlot r) (k/256) (k%256) w row r.tick =
      { s.begun r with nextW := (s.begun r).nextW ++ [(k, w)] } := by
    simp only [State.putWord, hb, hs, Bool.false_eq_true, if_false, if_neg h13, if_neg hl, ht]
  have : (s.begun r).write (reqSlot r) (k/256) [(k%256, w)] r.tick =
      .done { s.begun r with nextW := (s.begun r).nextW ++ [(k, w)] } stOk [] := by
    rw [hlive] at hw
    simp only [List.map_cons, List.map_nil, hb] at hw
    rw [State.write]
    simp [hp, hlive, ht, hb, hw, State.putWindow, h13, hput, hk, hn]
  rw [this]

end Sys2Proof.Machine
end

