-- ==== Sys2Proof/Laws/Safety.lean ====
section
/-! SUPPORT. The safety island: what its shared operations leave alone and what a fault brings. -/

namespace Sys2Proof.Machine

/-- What raising, driving and evaluating in the safety island leaves alone. -/
structure State.SafReach (s t : State) : Prop where
  cycle : t.cycle = s.cycle
  mono : t.mono = s.mono
  regs : t.regs = s.regs
  nextW : t.nextW = s.nextW
  cmd : t.cmd = s.cmd
  shadow : t.shadow = s.shadow
  boot : t.boot = s.boot
  jrnl : t.jrnl = s.jrnl
  echo : t.echo = s.echo
  strs : t.strs = s.strs
  lanes : t.lanes = s.lanes
  bond : t.bond = s.bond
  nibs : t.nibs = s.nibs
  nibx : t.nibx = s.nibx
  clk : t.clk = s.clk
  duct : t.duct = s.duct
  sched : t.sched = s.sched
  therm : t.therm = s.therm
  sup : t.sup = s.sup
  loops : t.loops = s.loops
  ai : t.ai = s.ai
  net : t.net = s.net
  free : t.free = s.free
  sys : t.sys = { s.sys with blockReq := t.sys.blockReq }
  ink : t.ink = { s.ink with blot := t.ink.blot }

theorem State.SafReach.refl (s : State) : s.SafReach s := by constructor <;> rfl

theorem State.SafReach.trans {s t u : State} (h : s.SafReach t) (k : t.SafReach u) : s.SafReach u :=
  { cycle := k.cycle.trans h.cycle, mono := k.mono.trans h.mono, regs := k.regs.trans h.regs
    nextW := k.nextW.trans h.nextW, cmd := k.cmd.trans h.cmd, shadow := k.shadow.trans h.shadow
    boot := k.boot.trans h.boot, jrnl := k.jrnl.trans h.jrnl, echo := k.echo.trans h.echo
    strs := k.strs.trans h.strs, lanes := k.lanes.trans h.lanes, bond := k.bond.trans h.bond
    nibs := k.nibs.trans h.nibs, nibx := k.nibx.trans h.nibx, clk := k.clk.trans h.clk
    duct := k.duct.trans h.duct, sched := k.sched.trans h.sched, therm := k.therm.trans h.therm
    sup := k.sup.trans h.sup, loops := k.loops.trans h.loops, ai := k.ai.trans h.ai, net := k.net.trans h.net
    free := k.free.trans h.free, sys := k.sys.trans (by rw [h.sys]), ink := k.ink.trans (by rw [h.ink]) }

theorem State.EventReach.safReach {s t : State} (h : s.EventReach t) : s.SafReach t :=
  { cycle := h.cycle, mono := h.mono, regs := h.regs, nextW := h.nextW, cmd := h.cmd, shadow := h.shadow
    boot := h.boot, jrnl := h.jrnl, echo := h.echo, strs := h.strs, lanes := h.lanes, bond := h.bond, nibs := h.nibs
    nibx := h.nibx, clk := h.clk, duct := h.duct, sched := h.sched, therm := h.therm, sup := h.sup, loops := h.loops
    ai := h.ai, net := h.net, free := h.free, sys := h.sys, ink := h.ink }

theorem State.safSet_reach (s : State) (f : Saf) : s.SafReach { s with saf := f } := by constructor <;> rfl

theorem ite_safReach {s a b : State} {c : Prop} [Decidable c] (ha : s.SafReach a) (hb : s.SafReach b) :
    s.SafReach (if c then a else b) := by split <;> assumption

theorem foldl_safReach {α : Type} (f : State → α → State) (h : ∀ (s : State) (x : α), s.SafReach (f s x)) :
    ∀ (l : List α) (s : State), s.SafReach (l.foldl f s)
  | [], s => .refl s
  | x :: l, s => (h s x).trans (foldl_safReach f h l (f s x))

/-! ## Raising -/

theorem State.safRaise_reach (s : State) (c code inst t : Nat) : s.SafReach (s.safRaise c code inst t) := by
  unfold State.safRaise
  exact (ite_safReach (.refl _) (s.safSet_reach _)).trans (raise_reach ..).safReach

/-- What a raise leaves alone in the island itself: all but the capture of SAF_FAULT. -/
structure Saf.Same (f g : Saf) : Prop where
  island : g.island = f.island
  chA : g.chA = f.chA
  chB : g.chB = f.chB
  tested : g.tested = f.tested
  rstAt : g.rstAt = f.rstAt
  pulse : g.pulse = f.pulse
  tpaAt : g.tpaAt = f.tpaAt
  tpbDue : g.tpbDue = f.tpbDue
  sovOk : g.sovOk = f.sovOk
  sovLost : g.sovLost = f.sovLost
  sovAt : g.sovAt = f.sovAt
  ovl : g.ovl = f.ovl
  ovlAt : g.ovlAt = f.ovlAt
  tp : g.tp = f.tp
  tpAt : g.tpAt = f.tpAt
  tpB : g.tpB = f.tpB
  sent : g.sent = f.sent
  sentAt : g.sentAt = f.sentAt
  crossRun : g.crossRun = f.crossRun

theorem Saf.Same.refl (f : Saf) : f.Same f := by constructor <;> rfl

theorem Saf.Same.trans {f g h : Saf} (a : f.Same g) (b : g.Same h) : f.Same h :=
  { island := b.island.trans a.island, chA := b.chA.trans a.chA, chB := b.chB.trans a.chB
    tested := b.tested.trans a.tested, rstAt := b.rstAt.trans a.rstAt, pulse := b.pulse.trans a.pulse
    tpaAt := b.tpaAt.trans a.tpaAt, tpbDue := b.tpbDue.trans a.tpbDue, sovOk := b.sovOk.trans a.sovOk
    sovLost := b.sovLost.trans a.sovLost, sovAt := b.sovAt.trans a.sovAt, ovl := b.ovl.trans a.ovl
    ovlAt := b.ovlAt.trans a.ovlAt, tp := b.tp.trans a.tp, tpAt := b.tpAt.trans a.tpAt, tpB := b.tpB.trans a.tpB
    sent := b.sent.trans a.sent, sentAt := b.sentAt.trans a.sentAt, crossRun := b.crossRun.trans a.crossRun }

theorem Saf.captureFault_same (f : Saf) (c code inst now t : Nat) : f.Same (f.captureFault c code inst now t) := by
  unfold Saf.captureFault
  dsimp only
  repeat' split
  all_goals (constructor <;> rfl)

theorem State.safRaise_same (s : State) (c code inst t : Nat) : s.saf.Same (s.safRaise c code inst t).saf := by
  unfold State.safRaise
  dsimp only
  rw [raise_saf]
  split
  · exact .refl _
  · exact Saf.captureFault_same ..

theorem State.safRaises_same (c code t : Nat) :
    ∀ (l : List Nat) (s : State), s.saf.Same (l.foldl (fun (s : State) (n : Nat) => s.safRaise c code n t) s).saf
  | [], _ => .refl _
  | n :: l, s => (s.safRaise_same c code n t).trans (safRaises_same c code t l _)

theorem State.safRaises_reach (c code t : Nat) (l : List Nat) (s : State) :
    s.SafReach (l.foldl (fun (s : State) (n : Nat) => s.safRaise c code n t) s) :=
  foldl_safReach _ (fun u n => u.safRaise_reach c code n t) l s

theorem State.maybeRaise_reach {s u : State} (h : s.SafReach u) (p : Prop) [Decidable p] (c code inst t : Nat) :
    s.SafReach (if p then u.safRaise c code inst t else u) :=
  ite_safReach (h.trans (safRaise_reach ..)) h

theorem State.maybeRaise_same {f : Saf} {u : State} (h : f.Same u.saf) (p : Prop) [Decidable p] (c code inst t : Nat) :
    f.Same (if p then u.safRaise c code inst t else u).saf := by
  split
  · exact h.trans (safRaise_same ..)
  · exact h

/-! ## Driving -/

@[simp] theorem State.block_saf (s : State) (mask t : Nat) : (s.block mask t).saf = s.saf := (block_reach ..).saf

theorem State.safDrive_reach (s : State) (was t : Nat) : s.SafReach (s.safDrive was t) := by
  unfold State.safDrive
  exact ite_safReach (s.safSet_reach _) ((s.safSet_reach _).trans (block_reach ..).safReach)

/-- Both channels' commands follow the state, an output that goes off loses its test pulses, and one that goes on starts a
test period. -/
theorem State.safDrive_saf (s : State) (was t : Nat) : (s.safDrive was t).saf =
    { s.saf with
      chA := { s.saf.chA with cmd := s.commands s.saf.chA }
      chB := { s.saf.chB with cmd := s.commands s.saf.chB }
      tp := s.saf.tp.filter fun p => (s.commands s.saf.chA &&& s.commands s.saf.chB).testBit p.1
      tpAt := ((List.range 4).filter
        (mclr (s.commands s.saf.chA &&& s.commands s.saf.chB) s.saf.energised).testBit).foldl
          (fun (m : Tab Nat) (k : Nat) => Tab.put (fun _ => 0) m k s.mono) s.saf.tpAt
      tpB := s.saf.tpB &&& (s.commands s.saf.chA &&& s.commands s.saf.chB) } := by
  unfold State.safDrive
  dsimp only
  split <;> simp [Saf.energised]

@[simp] theorem State.safDrive_island (s : State) (was t : Nat) : (s.safDrive was t).saf.island = s.saf.island := by
  rw [safDrive_saf]

/-- Out of RUN no output is energised. -/
theorem State.safDrive_energised (s : State) (was t : Nat) (h : s.saf.island ≠ islRun ∨ s.saf.sovOk = false
    ∨ s.saf.sovLost = true) : (s.safDrive was t).saf.energised = 0 := by
  have e : ∀ c, s.commands c = 0 := by
    intro c
    rw [State.commands, if_pos]
    rcases h with h | h | h <;> simp [h]
  rw [safDrive_saf]
  simp [Saf.energised, e]

/-- An output under a latched overload is not energised. -/
theorem State.safDrive_overload (s : State) (was t k : Nat) (h : s.saf.ovl.testBit k = true) :
    (s.safDrive was t).saf.energised.testBit k = false := by
  have e : (s.commands s.saf.chA).testBit k = false := by
    rw [State.commands]
    split
    · simp
    · by_cases hk : k < 4 <;> simp [maskOf_testBit, h, hk]
  rw [safDrive_saf]
  simp [Saf.energised, e]

/-! ## Evaluating and faulting -/

theorem State.safEval_reach (s : State) (c t : Nat) : s.SafReach (s.safEval c t) := by
  rw [State.safEval]
  refine ite_safReach (.refl s) ?_
  exact (maybeRaise_reach (maybeRaise_reach (s.safSet_reach _) _ _ _ _ _) _ _ _ _ _).trans (safDrive_reach ..)

theorem State.safEval_idle (s : State) (c t : Nat) (h : s.saf.island ≠ islRun) : s.safEval c t = s := by
  rw [State.safEval, if_pos h]

/-- What evaluating a channel leaves alone in the island: all but the channels' functions and commands, the capture
and the pulses of outputs going off. -/
theorem State.safEval_saf (s : State) (c t : Nat) (h : s.saf.island = islRun) :
    ∃ (f : Saf) (was : Nat) (u : State), s.safEval c t = u.safDrive was t ∧ u.saf = f ∧ s.SafReach u
      ∧ (s.saf.setCh c { s.saf.ch c with
          stb := if s.stbDemand (s.saf.ch c) then fnDemand else (s.saf.ch c).stb
          stbAt := if s.stbDemand (s.saf.ch c) then s.mono else (s.saf.ch c).stbAt
          spb := if s.spbDemand (s.saf.ch c) then fnDemand else (s.saf.ch c).spb
          spbAt := if s.spbDemand (s.saf.ch c) then s.mono else (s.saf.ch c).spbAt }).Same f := by
  rw [State.safEval, if_neg (by simp [h])]
  refine ⟨_, _, _, rfl, rfl, ?_, ?_⟩
  · exact maybeRaise_reach (maybeRaise_reach (s.safSet_reach _) _ _ _ _ _) _ _ _ _ _
  · apply maybeRaise_same
    apply maybeRaise_same
    exact .refl _

@[simp] theorem State.safEval_island (s : State) (c t : Nat) : (s.safEval c t).saf.island = s.saf.island := by
  by_cases h : s.saf.island = islRun
  · obtain ⟨f, was, u, e, hf, -, hs⟩ := s.safEval_saf c t h
    rw [e, safDrive_island, hf, hs.island]
    unfold Saf.setCh; split <;> rfl
  · rw [s.safEval_idle c t h]

theorem State.safFault_reach (s : State) (c t : Nat) : s.SafReach (s.safFault c t) := by
  rw [State.safFault]
  exact (maybeRaise_reach (maybeRaise_reach (s.safSet_reach _) _ _ _ _ _) _ _ _ _ _).trans (safDrive_reach ..)

/-- The island in FAULT: no output is energised. -/
theorem State.safFault_off (s : State) (c t : Nat) :
    (s.safFault c t).saf.island = islFault ∧ (s.safFault c t).saf.energised = 0 := by
  rw [State.safFault]
  constructor
  · rw [safDrive_island]
    exact (maybeRaise_same (maybeRaise_same (.refl _) _ _ _ _ _) _ _ _ _ _).island
  · refine safDrive_energised _ _ _ (.inl ?_)
    rw [(maybeRaise_same (maybeRaise_same (.refl _) _ _ _ _ _) _ _ _ _ _).island]
    show islFault ≠ islRun
    decide

end Sys2Proof.Machine
end

