-- ==== Sys2Proof/Laws/Tables.lean ====
section
/-! SUPPORT. Reading one index of a table of the state after a write of it: the index written reads as the value written,
every other as before, and no write of one table reaches another. -/

namespace Sys2Proof.Machine

variable (s : State) (i j : Nat)

@[simp] theorem State.setCell_cell (x : Cell) : (s.setCell i x).cell i = x := Tab.get_put_same ..
theorem State.setCell_cell_ne (x : Cell) (h : j ≠ i) : (s.setCell i x).cell j = s.cell j := Tab.get_put_ne _ _ _ h

@[simp] theorem State.setMg_mg (x : Mgmt) : (s.setMg i x).mg i = x := Tab.get_put_same ..
theorem State.setMg_mg_ne (x : Mgmt) (h : j ≠ i) : (s.setMg i x).mg j = s.mg j := Tab.get_put_ne _ _ _ h

@[simp] theorem State.setStr_str (x : Str) : (s.setStr i x).str i = x := Tab.get_put_same ..
theorem State.setStr_str_ne (x : Str) (h : j ≠ i) : (s.setStr i x).str j = s.str j := Tab.get_put_ne _ _ _ h

@[simp] theorem State.setLane_lane (x : Lane) : (s.setLane i x).lane i = x := Tab.get_put_same ..
theorem State.setLane_lane_ne (x : Lane) (h : j ≠ i) : (s.setLane i x).lane j = s.lane j := Tab.get_put_ne _ _ _ h

@[simp] theorem State.setTx_tx (x : Tx) : (s.setTx i x).tx i = x := Tab.get_put_same ..
theorem State.setTx_tx_ne (x : Tx) (h : j ≠ i) : (s.setTx i x).tx j = s.tx j := Tab.get_put_ne _ _ _ h

@[simp] theorem State.setNib_nib (x : Nib) : (s.setNib i x).nib i = x := Tab.get_put_same ..
theorem State.setNib_nib_ne (x : Nib) (h : j ≠ i) : (s.setNib i x).nib j = s.nib j := Tab.get_put_ne _ _ _ h

@[simp] theorem State.setAux_aux (x : NibAux) : (s.setAux i x).aux i = x := Tab.get_put_same ..
theorem State.setAux_aux_ne (x : NibAux) (h : j ≠ i) : (s.setAux i x).aux j = s.aux j := Tab.get_put_ne _ _ _ h

@[simp] theorem State.setLoop_loopOf (x : ClkLoop) : (s.setLoop i x).loopOf i = x := Tab.get_put_same ..
theorem State.setLoop_loopOf_ne (x : ClkLoop) (h : j ≠ i) : (s.setLoop i x).loopOf j = s.loopOf j := Tab.get_put_ne _ _ _ h

@[simp] theorem State.setSlot_slot (x : LoopSt) : (s.setSlot i x).slot i = x := Tab.get_put_same ..
theorem State.setSlot_slot_ne (x : LoopSt) (h : j ≠ i) : (s.setSlot i x).slot j = s.slot j := Tab.get_put_ne _ _ _ h

@[simp] theorem State.setConv_conv (x : Conv) : (s.setConv i x).conv i = x := Tab.get_put_same ..
theorem State.setConv_conv_ne (x : Conv) (h : j ≠ i) : (s.setConv i x).conv j = s.conv j := Tab.get_put_ne _ _ _ h

@[simp] theorem State.setDcell_dcell (x : Duct) : (s.setDcell i x).dcell i = x := Tab.get_put_same ..
theorem State.setDcell_dcell_ne (x : Duct) (h : j ≠ i) : (s.setDcell i x).dcell j = s.dcell j := Tab.get_put_ne _ _ _ h

@[simp] theorem State.setDstack_dstack (x : DStack) : (s.setDstack i x).dstack i = x := Tab.get_put_same ..
theorem State.setDstack_dstack_ne (x : DStack) (h : j ≠ i) : (s.setDstack i x).dstack j = s.dstack j := Tab.get_put_ne _ _ _ h

@[simp] theorem State.setPost_post (x : StackIn) : (s.setPost i x).post i = x := Tab.get_put_same ..
theorem State.setPost_post_ne (x : StackIn) (h : j ≠ i) : (s.setPost i x).post j = s.post j := Tab.get_put_ne _ _ _ h

@[simp] theorem State.setSch_sch (x : SchCell) : (s.setSch i x).sch i = x := Tab.get_put_same ..
theorem State.setSch_sch_ne (x : SchCell) (h : j ≠ i) : (s.setSch i x).sch j = s.sch j := Tab.get_put_ne _ _ _ h

@[simp] theorem State.setSchStack_schStack (x : SchStack) : (s.setSchStack i x).schStack i = x := Tab.get_put_same ..
theorem State.setSchStack_schStack_ne (x : SchStack) (h : j ≠ i) : (s.setSchStack i x).schStack j = s.schStack j := Tab.get_put_ne _ _ _ h

@[simp] theorem State.setSupSw_supSw (x : SupSw) : (s.setSupSw i x).supSw i = x := Tab.get_put_same ..
theorem State.setSupSw_supSw_ne (x : SupSw) (h : j ≠ i) : (s.setSupSw i x).supSw j = s.supSw j := Tab.get_put_ne _ _ _ h

@[simp] theorem State.setSupCell_supCell (x : SupCell) : (s.setSupCell i x).supCell i = x := Tab.get_put_same ..
theorem State.setSupCell_supCell_ne (x : SupCell) (h : j ≠ i) : (s.setSupCell i x).supCell j = s.supCell j := Tab.get_put_ne _ _ _ h

@[simp] theorem State.setGen_gen (x : Gen) : (s.setGen i x).gen i = x := Tab.get_put_same ..
theorem State.setGen_gen_ne (x : Gen) (h : j ≠ i) : (s.setGen i x).gen j = s.gen j := Tab.get_put_ne _ _ _ h

@[simp] theorem State.setArb_arb (x : Arb) : (s.setArb i x).arb i = x := Tab.get_put_same ..
theorem State.setArb_arb_ne (x : Arb) (h : j ≠ i) : (s.setArb i x).arb j = s.arb j := Tab.get_put_ne _ _ _ h

@[simp] theorem State.setPtpPort_ptpPort (x : PtpPort) : (s.setPtpPort i x).ptpPort i = x := Tab.get_put_same ..
theorem State.setPtpPort_ptpPort_ne (x : PtpPort) (h : j ≠ i) : (s.setPtpPort i x).ptpPort j = s.ptpPort j := Tab.get_put_ne _ _ _ h

@[simp] theorem State.setStream_stream (x : Strm) : (s.setStream i x).stream i = x := Tab.get_put_same ..
theorem State.setStream_stream_ne (x : Strm) (h : j ≠ i) : (s.setStream i x).stream j = s.stream j := Tab.get_put_ne _ _ _ h

@[simp] theorem State.setCan_canOf (x : Can) : (s.setCan i x).canOf i = x := Tab.get_put_same ..
theorem State.setCan_canOf_ne (x : Can) (h : j ≠ i) : (s.setCan i x).canOf j = s.canOf j := Tab.get_put_ne _ _ _ h

@[simp] theorem State.setWord_word (x : Word) : (s.setWord i x).word i = x := Tab.get_put_same ..
theorem State.setWord_word_ne (x : Word) (h : j ≠ i) : (s.setWord i x).word j = s.word j := Tab.get_put_ne _ _ _ h

@[simp] theorem State.setMg_cell (x : Mgmt) : (s.setMg i x).cell j = s.cell j := rfl
@[simp] theorem State.setStr_cell (x : Str) : (s.setStr i x).cell j = s.cell j := rfl
@[simp] theorem State.setLane_cell (x : Lane) : (s.setLane i x).cell j = s.cell j := rfl
@[simp] theorem State.setTx_cell (x : Tx) : (s.setTx i x).cell j = s.cell j := rfl
@[simp] theorem State.setNib_cell (x : Nib) : (s.setNib i x).cell j = s.cell j := rfl
@[simp] theorem State.setAux_cell (x : NibAux) : (s.setAux i x).cell j = s.cell j := rfl
@[simp] theorem State.emit_cell_at (o : Output) : (s.emit o).cell j = s.cell j := rfl
@[simp] theorem State.setCell_mg (x : Cell) : (s.setCell i x).mg j = s.mg j := rfl
@[simp] theorem State.setStr_mg (x : Str) : (s.setStr i x).mg j = s.mg j := rfl
@[simp] theorem State.setLane_mg (x : Lane) : (s.setLane i x).mg j = s.mg j := rfl
@[simp] theorem State.setTx_mg (x : Tx) : (s.setTx i x).mg j = s.mg j := rfl
@[simp] theorem State.setNib_mg (x : Nib) : (s.setNib i x).mg j = s.mg j := rfl
@[simp] theorem State.setAux_mg (x : NibAux) : (s.setAux i x).mg j = s.mg j := rfl
@[simp] theorem State.emit_mg_at (o : Output) : (s.emit o).mg j = s.mg j := rfl
@[simp] theorem State.setCell_str (x : Cell) : (s.setCell i x).str j = s.str j := rfl
@[simp] theorem State.setMg_str (x : Mgmt) : (s.setMg i x).str j = s.str j := rfl
@[simp] theorem State.setLane_str (x : Lane) : (s.setLane i x).str j = s.str j := rfl
@[simp] theorem State.setTx_str (x : Tx) : (s.setTx i x).str j = s.str j := rfl
@[simp] theorem State.setNib_str (x : Nib) : (s.setNib i x).str j = s.str j := rfl
@[simp] theorem State.setAux_str (x : NibAux) : (s.setAux i x).str j = s.str j := rfl
@[simp] theorem State.emit_str_at (o : Output) : (s.emit o).str j = s.str j := rfl
@[simp] theorem State.setCell_lane (x : Cell) : (s.setCell i x).lane j = s.lane j := rfl
@[simp] theorem State.setMg_lane (x : Mgmt) : (s.setMg i x).lane j = s.lane j := rfl
@[simp] theorem State.setStr_lane (x : Str) : (s.setStr i x).lane j = s.lane j := rfl
@[simp] theorem State.setTx_lane (x : Tx) : (s.setTx i x).lane j = s.lane j := rfl
@[simp] theorem State.setNib_lane (x : Nib) : (s.setNib i x).lane j = s.lane j := rfl
@[simp] theorem State.setAux_lane (x : NibAux) : (s.setAux i x).lane j = s.lane j := rfl
@[simp] theorem State.emit_lane_at (o : Output) : (s.emit o).lane j = s.lane j := rfl
@[simp] theorem State.setCell_tx (x : Cell) : (s.setCell i x).tx j = s.tx j := rfl
@[simp] theorem State.setMg_tx (x : Mgmt) : (s.setMg i x).tx j = s.tx j := rfl
@[simp] theorem State.setStr_tx (x : Str) : (s.setStr i x).tx j = s.tx j := rfl
@[simp] theorem State.setLane_tx (x : Lane) : (s.setLane i x).tx j = s.tx j := rfl
@[simp] theorem State.setNib_tx (x : Nib) : (s.setNib i x).tx j = s.tx j := rfl
@[simp] theorem State.setAux_tx (x : NibAux) : (s.setAux i x).tx j = s.tx j := rfl
@[simp] theorem State.emit_tx_at (o : Output) : (s.emit o).tx j = s.tx j := rfl
@[simp] theorem State.setCell_nib (x : Cell) : (s.setCell i x).nib j = s.nib j := rfl
@[simp] theorem State.setMg_nib (x : Mgmt) : (s.setMg i x).nib j = s.nib j := rfl
@[simp] theorem State.setStr_nib (x : Str) : (s.setStr i x).nib j = s.nib j := rfl
@[simp] theorem State.setLane_nib (x : Lane) : (s.setLane i x).nib j = s.nib j := rfl
@[simp] theorem State.setTx_nib (x : Tx) : (s.setTx i x).nib j = s.nib j := rfl
@[simp] theorem State.setAux_nib (x : NibAux) : (s.setAux i x).nib j = s.nib j := rfl
@[simp] theorem State.emit_nib_at (o : Output) : (s.emit o).nib j = s.nib j := rfl
@[simp] theorem State.setCell_aux (x : Cell) : (s.setCell i x).aux j = s.aux j := rfl
@[simp] theorem State.setMg_aux (x : Mgmt) : (s.setMg i x).aux j = s.aux j := rfl
@[simp] theorem State.setStr_aux (x : Str) : (s.setStr i x).aux j = s.aux j := rfl
@[simp] theorem State.setLane_aux (x : Lane) : (s.setLane i x).aux j = s.aux j := rfl
@[simp] theorem State.setTx_aux (x : Tx) : (s.setTx i x).aux j = s.aux j := rfl
@[simp] theorem State.setNib_aux (x : Nib) : (s.setNib i x).aux j = s.aux j := rfl
@[simp] theorem State.emit_aux_at (o : Output) : (s.emit o).aux j = s.aux j := rfl

end Sys2Proof.Machine
end

