-- ==== Sys2Proof/WellFormed.lean ====
section
/-! DEFINITION. Well-formed commands: a stroke header, a slot, a segment and a safe frame have their fixed lengths, and
the numbers of a partner frame fit its fields (R106, R108, R111, R338, R363, R374). The meanings are total and do not
rest on it. -/

namespace Sys2Proof

/-- Lengths of what a nib sees of a stroke: the header, bytes 4–15 and 30–37 of the slot (R106, R111). -/
def StrokePass.wf (v : StrokePass) : Bool :=
  decide (v.hdr.length = 32) && decide (v.meas.length = 12) && decide (v.ext.length = 8)

/-- A CAN frame carries an identifier of its format and at most the bytes of its kind (R420). -/
def CanFrame.wf (f : CanFrame) : Bool :=
  decide (f.id < (if f.ide then 2 ^ 29 else 2 ^ 11)) && decide (f.data.length ≤ (if f.fdf then 64 else 8))

/-- The numbers of a partner frame fit the fields that R363 gives them; a holder's frame has its 16 CRCs. -/
def PFrame.wf (f : PFrame) : Bool :=
  decide (f.side < 2) && decide (f.shift < 2) && decide (f.mstate < 256) && decide (f.role < 16) && decide (f.lag < 16)
    && decide (f.blocked < 65536) && decide (f.release < 65536)
    && (if f.role = 1 then decide (f.crcs.length = 16)
        else decide (f.inputs = [] ∧ f.flags = [] ∧ f.codes = [] ∧ f.crcs = [] ∧ f.outputs = [] ∧ f.records = []))

/-- LEN of a request is at most 1,432 (R379). -/
def paramsFit (p : List Byte) : Bool := decide (p.length ≤ 1432)

/-- A command whose data have the lengths and ranges of the spec. -/
def Instr.wf : Instr → Bool
  | .nibStrokePass _ v => v.wf
  | .nibSegmentReceive _ _ hdr seg _ _ => decide (hdr.length = 32) && decide (seg.length = 66)
  | .telemetrySlotReceive _ _ slot _ _ => decide (slot.length = 40)
  | .strokeHeaderReturn _ hdr _ => decide (hdr.length = 32)
  | .eqSweepDone _ eyes _ => decide (eyes.length = 16)
  | .outputReadback _ pins _ _ => decide (pins.length = 4)
  | .canFrameReceive _ f _ _ => f.wf
  | .partnerFrameReceive f _ _ => f.wf
  | .inkWinWrite _ k ws => decide (ws ≠ [] ∧ (k : Nat) + ws.length ≤ 64)
  | .sessionClose _ p | .ping _ p | .pageGet _ p | .pageSet _ p | .pageStage _ p | .txnBegin _ p | .txnCommit _ p
  | .txnAbort _ p | .lockRenew _ p | .modeSet _ p | .modeGet _ p | .cellEnumerate _ p | .cellAdmit _ p | .cellRetire _ p
  | .cellBypass _ p | .loopOpen _ p | .loopClose _ p | .loopCoeffSet _ p | .traceArm _ p | .traceRead _ p
  | .eventsRead _ p | .faultReset _ p | .opStatus _ p | .opCancel _ p | .fwLoad _ p | .fwActivate _ p | .attest _ p
  | .otpBurn _ p | .journalRead _ p | .pairStatus _ p | .pairHandover _ p => paramsFit p
  | _ => true

end Sys2Proof
end

