-- ==== Sys2Proof/Tests/Slice0.lean ====
section
/-! SUPPORT. Tests on small states: an ill-formed command for each check of WellFormed; for every obligation that has
hypotheses a theorem witness_<its name> that shows states and operands which meet them, clause by clause; and a few
commands with the result the spec gives. -/

namespace Sys2Proof.Tests

set_option maxRecDepth 4000
set_option Elab.async false

open Sys2Proof Sys2Proof.Machine

/-! ## States to test on -/

/-- The module with power, its firmware running, in CONFIG. -/
def up : State :=
  { State.reset with sys := { State.reset.sys with powered := true, fwRuns := true, mode := .config, live := true } }

/-- `up` in another state of the module. -/
def upIn (m : ModState) : State := { up with sys := { up.sys with mode := m } }

/-- `s` with session slot 0 open at generation 1 with the role given. -/
def withSess (role : Nat) (s : State) : State :=
  s.setSess 0 { Sess.init with isOpen := true, gen := 1, role := role, keyId := 7 }

/-- The first request of that session. -/
def req : Req := { peer := { port := 0, ip := 0xC0A8FF09, sport := 51401 }, sid := 8, ctr := 1, seq := 1, tick := 0 }

/-- A frame over the network that nothing is wrong with. -/
def frame (body : NetBody) : NetFrame :=
  { len := 64, fcs := true, dst := .own, vid := none, ip := true, hdrOk := true, opts := false, frag := false,
    sip := 0xC0A8FF09, dip := 0xC0A8FF01, body := body }

/-- A frame of a holder, with the lists of one who is not where it is not. -/
def pframe (role : Nat) : PFrame :=
  { side := 0, claim := false, ready := false, giveup := false, hnd := false, shift := 0, req := false, cycle := 0,
    mstate := 0, role := role, lag := 0, handoverAt := 0, topo := 0, cfg := 0, blocked := 0, release := 0, ack := 0,
    inputs := [], flags := [], codes := [], crcs := [], outputs := [], records := [], resend := [], image := [] }

/-- A CAN frame of an identifier and data. -/
def canf (ide : Bool) (id : Nat) (data : List Byte) : CanFrame :=
  { ide := ide, id := id, fdf := false, brs := false, esi := false, data := data }

/-! ## Ill-formed commands that the checks refuse -/

/-- A stroke as a nib sees it, with the lengths given. -/
def pass (h m e : Nat) : StrokePass :=
  { side := 0, hdr := List.replicate h 0, body := [], bad := [], res := 0, tH := 0, meas := List.replicate m 0,
    ext := List.replicate e 0, health := 0 }

theorem test_wf_stroke_pass : (Instr.nibStrokePass 0 (pass 32 12 8)).wf = true
    ∧ (Instr.nibStrokePass 0 (pass 31 12 8)).wf = false ∧ (Instr.nibStrokePass 0 (pass 32 11 8)).wf = false
    ∧ (Instr.nibStrokePass 0 (pass 32 12 9)).wf = false := by decide +kernel

theorem test_wf_fixed_lengths :
    (Instr.nibSegmentReceive 0 0 (List.replicate 31 0) (List.replicate 66 0) false 0).wf = false
    ∧ (Instr.nibSegmentReceive 0 0 (List.replicate 32 0) (List.replicate 65 0) false 0).wf = false
    ∧ (Instr.telemetrySlotReceive 0 0 (List.replicate 39 0) false 0).wf = false
    ∧ (Instr.strokeHeaderReturn 0 (List.replicate 33 0) 0).wf = false
    ∧ (Instr.eqSweepDone 0 (List.replicate 15 0) 0).wf = false
    ∧ (Instr.outputReadback 0 [] 0 0).wf = false := by decide +kernel

theorem test_wf_can_frame :
    (Instr.canFrameReceive 0 (canf false 2048 []) 0 0).wf = false
    ∧ (Instr.canFrameReceive 0 (canf true 2048 []) 0 0).wf = true
    ∧ (Instr.canFrameReceive 0 (canf false 1 (List.replicate 9 0)) 0 0).wf = false := by decide +kernel

theorem test_wf_partner_frame :
    (Instr.partnerFrameReceive (pframe 0) true 0).wf = true
    ∧ (Instr.partnerFrameReceive { pframe 0 with side := 2 } true 0).wf = false
    ∧ (Instr.partnerFrameReceive { pframe 0 with shift := 2 } true 0).wf = false
    ∧ (Instr.partnerFrameReceive { pframe 0 with mstate := 256 } true 0).wf = false
    ∧ (Instr.partnerFrameReceive { pframe 16 with lag := 0 } true 0).wf = false
    ∧ (Instr.partnerFrameReceive { pframe 0 with lag := 16 } true 0).wf = false
    ∧ (Instr.partnerFrameReceive { pframe 0 with blocked := 65536 } true 0).wf = false
    ∧ (Instr.partnerFrameReceive { pframe 0 with release := 65536 } true 0).wf = false
    ∧ (Instr.partnerFrameReceive (pframe 1) true 0).wf = false
    ∧ (Instr.partnerFrameReceive { pframe 0 with crcs := [0] } true 0).wf = false := by decide +kernel

theorem test_wf_window_and_parameters :
    (Instr.inkWinWrite req 0 []).wf = false ∧ (Instr.inkWinWrite req 63 [0, 0]).wf = false
    ∧ (Instr.inkWinWrite req 63 [0]).wf = true ∧ paramsFit (List.replicate 1433 0) = false
    ∧ (Instr.ping req (List.replicate 1433 0)).wf = paramsFit (List.replicate 1433 0) := by decide +kernel

/-! ## Witnesses of the hypotheses -/

theorem witness_EveryStepKeepsTheInvariant :
    State.reset.Inv ∧ step { State.reset with pending := [.baseplateHotClear] }
      = exec .baseplateHotClear State.reset ∧ ({ State.reset with pending := [.baseplateHotClear] } : State).Inv := by
  refine ⟨⟨?_, ?_, ?_, ?_, ?_, ?_, ?_⟩, rfl, ⟨?_, ?_, ?_, ?_, ?_, ?_, ?_⟩⟩ <;> decide +kernel

theorem witness_EveryCommandAnswersAndLeavesTheQueue : State.reset.pending = [] := rfl

/-- CRC-32C's fold, every step of which evaluates its accumulator. -/
def crcForced (c : BitVec 32) (l : List Byte) : BitVec 32 :=
  l.foldl (fun (c : BitVec 32) (b : Byte) =>
    if c = 0 then crc32Eight (c ^^^ b.setWidth 32) else crc32Eight (c ^^^ b.setWidth 32)) c

theorem crc_forced (l : List Byte) : crc32c l = ~~~ crcForced 0xFFFFFFFF l := by simp [crc32c, crcForced]

theorem test_factory_check : crc32c (padTo 4084 Gen.factory.content) = 0xC1AE28D2 := by
  have h : crcForced 0xFFFFFFFF (padTo 4084 Gen.factory.content) = ~~~ 0xC1AE28D2 := by decide +kernel
  rw [crc_forced, h]; decide +kernel

theorem test_factory_generation_is_valid : Gen.factory.valid 0 = true := by
  have h : ((decide (beAt Gen.factory.content 0 1 = 0) && decide (beAt Gen.factory.content 1 1 = 1)
    && decide (Gen.factory.sealWord = sealOf 0)) = true) ∧ Gen.factory.check = 0xC1AE28D2 := by decide +kernel
  simp only [Gen.valid, test_factory_check, h, decide_true, Bool.and_self]

theorem witness_PowerUpAndPowerDownStartFromBoot :
    State.reset.sys.powered = false ∧ State.reset.bestGen ≠ none
    ∧ ({ State.reset with boot := { State.reset.boot with gens := [] } } : State).bestGen = none
    ∧ up.sys.powered = true ∧ up.sys.stopping = false
    ∧ ({ up with sys := { up.sys with stopping := true } } : State).sys.stopping = true := by
  refine ⟨by decide, fun h => ?_, by decide +kernel, by decide, by decide, by decide⟩
  have := (List.find?_eq_none.mp h) 0 (by decide)
  exact this test_factory_generation_is_valid

/-- Power, in BOOT, before the firmware runs. -/
def booting : State :=
  { State.reset with
    sys := { State.reset.sys with powered := true }
    boot := { State.reset.boot with active := some 0 } }

theorem witness_BootVerificationAndTimeouts :
    booting.sys.powered = true ∧ booting.sys.stopping = false ∧ booting.sys.stuck = false ∧ booting.sys.fwRuns = false
    ∧ booting.sys.mode = .boot ∧ booting.boot.trial = false ∧ booting.boot.pref = 0 ∧ booting.slotValidFw 0 = true
    ∧ booting.imgChecks booting.boot.slot0.image = true ∧ booting.boot.held = [] ∧ booting.allLocked = false
    ∧ up.sys.fwRuns = true ∧ up.boot.entered = false ∧ up.sys.stopping = false ∧ up.sys.stuck = false := by decide +kernel

/-- `booting` with its firmware running and loops 0 to 16 locked. -/
def locked : State :=
  (List.range 17).foldl (fun (s : State) (i : Nat) => s.setLoop i { ClkLoop.init with state := clkLocked })
    { booting with sys := { booting.sys with fwRuns := true } }

theorem witness_StartEntersConfigWithLiveHigh :
    locked.sys.fwRuns = true ∧ locked.sys.stopping = false ∧ locked.sys.stuck = false ∧ locked.sys.mode = .boot
    ∧ locked.allLocked = true := by decide +kernel

/-- `up` as side A of a pair. -/
def sideA : State := up.setWord K.PAIR_CTL 1

theorem witness_BaseplateAndCoreFaultsAreRaised :
    up.sys.powered = true ∧ up.isActive 0x00E6 0 = false ∧ (up.raise 0x00E6 0 0 0).isActive 0x00E6 0 = true
    ∧ up.pairSide = false ∧ sideA.pairSide = true ∧ sideA.sys.powered = true
    ∧ ({ up with pairOps := { up.pairOps with giveUp := true } } : State).cmd.restartDue = false
    ∧ ({ up with cmd := { up.cmd with restartDue := true } } : State).pairOps.giveUp = false := by decide +kernel

theorem witness_SupplyLossStopsTheModule :
    up.sys.powered = true ∧ up.sys.stopping = false ∧ up.isActive 0x00E1 0 = false ∧ up.isActive 0x00E2 0 = false
    ∧ State.reset.sys.powered = false ∧ (up.raise 0x00E1 0 0 0).isActive (feedCode .a) 0 = true
      ∧ (up.raise 0x00E2 0 0 0).isActive (feedCode .b) 0 = true
    := by decide +kernel

/-- `up` with lane `l` as given. -/
def laneIs (l : Fin 68) (x : Lane) : State := up.setLane l x

/-- `up` with lane `l` enabled, or with other bits of its LANE_CTL. -/
def laneOn (l : Fin 68) (x : Lane) (ctl : Word) : State := (laneIs l x).setWord (K.LANE_CTL l) ctl

theorem witness_LaneSignalEdgesStartAndEndAcquisition :
    (let s := laneOn 67 { Lane.init with sig := true, cdr := true } 1;
      W.LANE_CTL_EN (s.laneCtl 67) = true ∧ (s.lane 67).sig = true)
    ∧ (let s := laneOn 0 Lane.init 1;
      W.LANE_CTL_EN (s.laneCtl 0) = true ∧ (s.lane 0).sig = false ∧ (s.lane 0).state ≠ 6 ∧ (s.lane 0).idle = false
      ∧ s.lossReported 0 = true ∧ (s.lane 0).hadSig = false)
    ∧ (let s := laneOn 0 { Lane.init with idle := true } 0x81;
      W.LANE_CTL_EN (s.laneCtl 0) = true ∧ (s.lane 0).sig = false ∧ (s.lane 0).idle = true)
    ∧ W.LANE_CTL_EN (up.laneCtl 67) = false ∧ up.lossReported 67 = false := by decide +kernel

theorem witness_LaneSyncIsDeclaredAndLost :
    (let s := laneIs 0 { Lane.init with sig := true, state := 3 };
      (s.lane 0).sig = true ∧ (s.lane 0).sync = false ∧ (s.lane 0).state = 3)
    ∧ (let s := laneIs 67 { Lane.init with sig := true, sync := true, state := 5 };
      (s.lane 67).sig = true ∧ (s.lane 67).sync = true)
    ∧ (let s := laneIs 0 { Lane.init with sig := true, state := 4, slip := 19 };
      (s.lane 0).sig = true ∧ (s.lane 0).sync = false ∧ (s.lane 0).state = 4 ∧ (s.lane 0).slip = (19 : Fin 20))
    ∧ (let s := laneIs 0 { Lane.init with sig := true, state := 1 };
      (s.lane 0).sig = true ∧ (s.lane 0).sync = false ∧ (s.lane 0).state ≠ 2 ∧ (s.lane 0).state ≠ 3
      ∧ (s.lane 0).state ≠ 4)
    ∧ (let s := laneIs 67 { Lane.init with sig := true, leaving := true };
      (s.lane 67).sig = true ∧ (s.lane 67).leaving = true) ∧ (up.lane 0).sig = false
    ∧ (let s := laneIs 1 { Lane.init with state := 4 };
      (s.lane 1).state = 4 ∧ (s.lane 1).decodeOk = false)
    ∧ (let s := laneIs 1 { Lane.init with state := 4, decodeOk := true };
      (s.lane 1).state = 4 ∧ (s.lane 1).decodeOk = true) := by decide +kernel

theorem witness_LaneErrorsAreCountedAndJudged :
    (let s := laneOn 0 { Lane.init with err := 0xFFFFFFFD } 1;
      W.LANE_CTL_EN (s.laneCtl 0) = true ∧ (s.lane 0).err ≠ 0xFFFFFFFF ∧ (s.lane 0).err ≠ 0xFFFFFFFE)
    ∧ (let s := laneOn 67 { Lane.init with err := 0xFFFFFFFF } 1;
      W.LANE_CTL_EN (s.laneCtl 67) = true ∧ (s.lane 67).err = 0xFFFFFFFF)
    ∧ (let s := (laneIs 0 { Lane.init with ival := 5 }).setWord K.LANE_GLOBAL 5;
      W.LANE_GLOBAL_ERR_LIMIT (s.word K.LANE_GLOBAL) ≠ 0
      ∧ W.LANE_GLOBAL_ERR_LIMIT (s.word K.LANE_GLOBAL) ≤ (s.lane 0).ival)
    ∧ (let s := (laneIs 0 { Lane.init with ival := 4 }).setWord K.LANE_GLOBAL 5;
      W.LANE_GLOBAL_ERR_LIMIT (s.word K.LANE_GLOBAL) = 0
      ∨ (s.lane 0).ival < W.LANE_GLOBAL_ERR_LIMIT (s.word K.LANE_GLOBAL))
    ∧ (let s := laneOn 0 { Lane.init with state := 3 } 1;
      (s.lane 0).sync = false ∧ (s.lane 0).state = 3 ∧ W.LANE_CTL_ALIGN (s.laneCtl 0) = 0)
    ∧ (let s := laneOn 0 { Lane.init with state := 3 } 0x40001;
      (s.lane 0).sync = false ∧ (s.lane 0).state = 3 ∧ W.LANE_CTL_ALIGN (s.laneCtl 0) = 2) := by decide +kernel

theorem witness_TransmitterBiasAndIdleOfALane :
    (let s := laneOn 63 { Lane.init with txFault := true } 1;
      W.LANE_CTL_EN (s.laneCtl 63) = true ∧ (s.lane 63).txFault = true)
    ∧ (let s := laneOn 63 Lane.init 0x81;
      W.LANE_CTL_EN (s.laneCtl 63) = true ∧ W.LANE_CTL_EIDLE (s.laneCtl 63) = true ∧ (s.lane 63).idle = false
      ∧ s.lit 63 = true)
    ∧ (let s := laneOn 64 Lane.init 0x81;
      W.LANE_CTL_EN (s.laneCtl 64) = true ∧ W.LANE_CTL_EIDLE (s.laneCtl 64) = true ∧ (s.lane 64).idle = false)
    ∧ (let s := laneOn 0 { Lane.init with idle := true } 1;
      W.LANE_CTL_EN (s.laneCtl 0) = true ∧ W.LANE_CTL_EIDLE (s.laneCtl 0) = false ∧ (s.lane 0).idle = true
      ∧ s.lit 0 = true)
    ∧ (let s := laneOn 0 { Lane.init with idle := true, txFault := true } 1;
      W.LANE_CTL_EN (s.laneCtl 0) = true ∧ W.LANE_CTL_EIDLE (s.laneCtl 0) = false ∧ (s.lane 0).idle = true
      ∧ s.lit 0 = false) := by decide +kernel

theorem witness_EqualiserTakesTheWidestEye :
    ((laneIs 67 { Lane.init with sweeping := true }).lane 67).sweeping = true
    ∧ ((List.range 16).map fun k => k * 3).length = 16 := by decide +kernel

/-- `up` with loop `i` in the state given, its lock lost where `lost`. -/
def loopIs (i : Nat) (st : Nat) (lost : Bool) : State :=
  up.setLoop i { ClkLoop.init with state := st, lostAt := if lost then some 0 else none }

theorem witness_LoopsDeclareAndLoseLock :
    (let s := loopIs 0 clkAcquire false
     let errs := List.replicate 4096 (0 : Int);
      (s.loopOf 0).state = clkAcquire ∧ (s.silent.loopMeasured 0 errs).loopLocks 0 errs = true)
    ∧ (let s := loopIs 9 clkFreq false
       let errs := List.replicate 4096 (0 : Int);
      (s.loopOf 9).state = clkFreq ∧ (s.silent.loopMeasured 9 errs).loopLocks 9 errs = true)
    ∧ (let s := loopIs 16 clkLocked false
       let errs := List.replicate 16 (6400 : Int);
      (s.loopOf 16).state = clkLocked ∧ (s.silent.loopMeasured 16 errs).loopLoses 16 errs = true)
    ∧ (let s := loopIs 2 clkWalk false
       let errs := List.replicate 16 (-6400 : Int);
      (s.loopOf 2).state = clkWalk ∧ (s.loopOf 2).held = 0 ∧ (s.silent.loopMeasured 2 errs).loopLoses 2 errs = true)
    ∧ ((loopIs 0 clkLocked false).loopOf 0).state ≠ clkWalk
    ∧ ((loopIs 1 clkCoast true).loopOf 1).state = clkCoast := by decide +kernel

theorem witness_ReferenceLossCoastAndHoldover :
    clkAcquire < ((loopIs 0 clkLocked false).loopOf 0).state ∧ (up.loopOf 0).state ≤ clkAcquire
    ∧ (up.loopOf 1).state ≤ clkAcquire ∧ (let s : State := { loopIs 0 clkCoast true with mono := 100 };
      (s.loopOf 0).lostAt = some 0 ∧ 0 + W.CLK_GLOBAL_COAST_MAX (s.word K.CLK_GLOBAL) ≤ s.mono)
    ∧ ((loopIs 2 clkCoast true).loopOf 2).lostAt = some 0 ∧ ((loopIs 9 clkCoast true).loopOf 9).lostAt = some 0
    ∧ ((loopIs 10 clkCoast true).loopOf 10).lostAt = some 0
    ∧ ((loopIs 16 clkCoast true).loopOf 16).lostAt = some 0
    ∧ (loopIs 16 clkCoast true).mono < 0 + W.CLK_GLOBAL_COAST_MAX ((loopIs 16 clkCoast true).word K.CLK_GLOBAL)
    ∧ (up.loopOf 16).lostAt = none ∧ up.clk.pend = 0 ∧ up.clk.deferred = none
    ∧ ({ up with clk := { up.clk with hadOffset := true } } : State).clk.hadOffset = true ∧ up.clk.hadOffset = false
    ∧ ({ up with clk := { up.clk with pend := -1 } } : State).clk.pend ≠ 0
    ∧ (let s : State := { up with clk := { up.clk with deferred := some 5 } };
      s.clk.deferred = some 5 ∧ s.anyLaneUsed = false)
    ∧ (let s : State := { laneOn 67 Lane.init 1 with clk := { up.clk with deferred := some 5 } };
      s.clk.deferred = some 5 ∧ s.anyLaneUsed = true) := by decide +kernel

theorem witness_BondMasksAndWidthSwitch :
    (let s := (laneIs 67 { Lane.init with sync := true }).setWord K.BOND_CTL 1;
      W.BOND_CTL_EN (s.word K.BOND_CTL) = true ∧ (s.lane 67).sync = true ∧ (s.loopOf 10).lostAt = none)
    ∧ (0xFF : Byte) = ~~~ 0x00 ∧ (0x00 : Byte) ≠ ~~~ 0x00
    ∧ ({ up with bond := { up.bond with prop := some (15, 0) } } : State).bond.prop = some (15, 0)
      ∧ up.switchAhead 0 = false
    ∧ up.switchAhead 127 = true
    ∧ ((up.lane 64).sync = false ∧ ((loopIs 10 clkCoast true).loopOf 10).lostAt ≠ none)
    ∧ ({ up with bond := { up.bond with prop := some (1, 0) } } : State).bond.prop = some (1, 0)
    ∧ up.bond.prop = none := by decide +kernel

/-- `up` with nib `n` powered, in the state given, changed by `f`. -/
def nibIs (n : Nat) (st : Nat) (f : Nib → Nib) : State := up.setNib n (f { Nib.init with powered := true, state := st })

/-- `s` with what else nib `n` holds changed by `f`. -/
def withAux (n : Nat) (f : NibAux → NibAux) (s : State) : State := s.setAux n (f (s.aux n))

/-- A nib with the request given pending, whose sequence number is `last` + 1 or, if `again`, `last`. -/
def asked (n st : Nat) (r : List Byte) (again : Bool) : State :=
  withAux n (fun a => { a with req := r, lastReq := if again then some (byteAt r 1).toNat else none }) (nibIs n st id)

theorem witness_NibPowersUpAndForgetsOnLoss :
    (up.nib 0).powered = false ∧ ((nibIs 3071 1 id).nib 3071).powered = true
    ∧ ((nibIs 0 1 fun x => { x with bypReq := true }).nib 0).bypReq = true
      ∧ (up.nib 0).bypReq = false := by decide +kernel

theorem witness_NibAnswersIdentifyAndSetArr :
    (let s := asked 0 1 [1, 5] false;
      (s.aux 0).req ≠ [] ∧ (s.aux 0).repeated = false ∧ beAt (s.aux 0).req 0 1 = 1)
    ∧ (let s := asked 0 1 [2, 5, 1, 0, 0, 0, 9] false;
      (s.aux 0).req ≠ [] ∧ (s.aux 0).repeated = false ∧ beAt (s.aux 0).req 0 1 = 2 ∧ beAt (s.aux 0).req 2 1 ≤ 1)
    ∧ (let s := asked 0 1 [2, 5, 2, 0, 0, 0, 9] false;
      (s.aux 0).repeated = false ∧ beAt (s.aux 0).req 0 1 = 2 ∧ 1 < beAt (s.aux 0).req 2 1)
    ∧ (let s := asked 3071 1 [5, 5] false;
      (s.aux 3071).repeated = false ∧ 4 < beAt (s.aux 3071).req 0 1)
    ∧ (let s := asked 0 1 [1, 5] true; (s.aux 0).repeated = true ∧ beAt (s.aux 0).req 0 1 = 1)
    ∧ (let s := asked 0 1 [2, 5] true; (s.aux 0).repeated = true ∧ beAt (s.aux 0).req 0 1 = 2)
    ∧ (let s := asked 0 1 [255, 5] true; (s.aux 0).repeated = true ∧ 4 < beAt (s.aux 0).req 0 1) := by decide +kernel

theorem witness_NibAdmitsAndRetires :
    (let s := asked 0 nsSafe [3, 5, 255, 0, 0, 0, 0] false;
      (s.aux 0).req ≠ [] ∧ (s.aux 0).repeated = false ∧ beAt (s.aux 0).req 0 1 = 3
      ∧ BitVec.ofNat 32 (beAt (s.aux 0).req 3 4) = (s.nib 0).ident ∧ beAt (s.aux 0).req 2 1 ≠ 0
      ∧ (s.nib 0).state ≠ nsFault ∧ (s.nib 0).state ≠ nsPowerUp ∧ (s.nib 0).state ≠ nsLoopback)
    ∧ (let s := asked 0 nsSafe [3, 5, 1, 0, 0, 0, 1] false;
      beAt (s.aux 0).req 0 1 = 3 ∧ BitVec.ofNat 32 (beAt (s.aux 0).req 3 4) ≠ (s.nib 0).ident)
    ∧ (let s := asked 0 nsSafe [3, 5, 0, 0, 0, 0, 0] false;
      beAt (s.aux 0).req 0 1 = 3 ∧ BitVec.ofNat 32 (beAt (s.aux 0).req 3 4) = (s.nib 0).ident
        ∧ beAt (s.aux 0).req 2 1 = 0)
    ∧ (let s := asked 0 nsFault [3, 5, 1, 0, 0, 0, 0] true;
      (s.aux 0).req ≠ [] ∧ (s.aux 0).repeated = true ∧ beAt (s.aux 0).req 0 1 = 3)
    ∧ (let s := asked 0 nsFault [4, 5] true; (s.aux 0).repeated = true ∧ beAt (s.aux 0).req 0 1 = 4)
    ∧ (up.aux 0).req = []
    ∧ (let s := asked 0 nsFault [3, 5, 1, 0, 0, 0, 0] false;
      beAt (s.aux 0).req 0 1 = 3 ∧ BitVec.ofNat 32 (beAt (s.aux 0).req 3 4) = (s.nib 0).ident
      ∧ (s.nib 0).state = nsFault)
    ∧ (let s := asked 3071 nsAdmitted [4, 5] false;
      (s.aux 3071).req ≠ [] ∧ (s.aux 3071).repeated = false ∧ beAt (s.aux 3071).req 0 1 = 4) := by decide +kernel

theorem witness_OrderedSetsPassANib :
    (let s := nibIs 0 nsBlocked id; (s.nib 0).powered = true ∧ (s.nib 0).state = nsBlocked)
    ∧ (let s := nibIs 0 nsAdmitted id; (s.nib 0).powered = true ∧ (s.nib 0).state = nsAdmitted)
    ∧ (up.nib 0).powered = false ∧ (0x9F : Byte) = ~~~ 0x60
      ∧ (let s := nibIs 0 1 fun x => { x with pos := some 0x60 }; (s.nib 0).pos = some 0x60)
    ∧ (0x9E : Byte) ≠ ~~~ 0x60 := by decide +kernel

theorem witness_NibSidesWrapAndUnwrap :
    (let s := nibIs 0 1 fun x => { x with low := { x.low with wrap := true } };
      (s.nib 0).powered = true ∧ (s.nib 0).low.wrap = true ∧ (s.nib 0).low.sync = false ∧ (s.nib 0).high.wrap = false
      ∧ ((s.nib 0).side 0).eis = false)
    ∧ (let s := nibIs 0 1 fun x => { x with high := { x.high with wrap := true, eis := true } };
      (s.nib 0).high.wrap = true ∧ (s.nib 0).high.sync = false ∧ (s.nib 0).low.wrap = false
      ∧ ((s.nib 0).side 1).eis = true)
    ∧ (let s := nibIs 0 1 fun x => { x with high := { x.high with wrap := true, sync := true } };
      ((s.nib 0).side 1).wrap = true ∧ ((s.nib 0).side 1).sync = true)
    ∧ (up.nib 0).powered = false
    ∧ (let s := withAux 0 (fun a => { a with timeBad := 100 }) (nibIs 0 1 id); 100 ≤ (s.aux 0).timeBad)
    ∧ (let s := withAux 0 (fun a => { a with timeBad := 99 }) (nibIs 0 1 id); (s.aux 0).timeBad < 100)
    := by decide +kernel

theorem witness_NibFaultsOpenTheSwitches :
    (let s := nibIs 0 nsAdmitted id;
      (s.nib 0).powered = true ∧ (s.aux 0).shorted = false ∧ (s.nib 0).state = nsAdmitted
      ∧ ¬ (s.aux 0).now 5 < Tab.get (fun _ => 0) (s.aux 0).blankEnd 7)
    ∧ (let s := withAux 0 (fun a => { a with blankEnd := [(7, a.now 5 + 1)] }) (nibIs 0 nsAdmitted id);
      (s.nib 0).powered = true ∧ (s.aux 0).now 5 < Tab.get (fun _ => 0) (s.aux 0).blankEnd 7 ∧ (s.aux 0).shorted = false)
    ∧ (let s := withAux 0 (fun a => { a with sc := [1, 0, 0, 2] }) (nibIs 0 nsFault id);
      (s.nib 0).powered = true ∧ (s.aux 0).shorted = true)
    ∧ (up.nib 0).powered = false
    ∧ (let s := nibIs 3071 nsLoopback id; (s.nib 3071).powered = true ∧ (s.nib 3071).state = nsLoopback)
    := by decide +kernel

/-- A schedule for cycle 1. -/
def sched1 (edges : List Edge) : NibSched :=
  { target := 1, side := 0, hold := false, blank := 0, soft := 0, edges := edges, mgmt := [], obeyed := true, byp := false }

theorem witness_NibRunsItsScheduleOrGoesSafe :
    (let s := nibIs 0 nsAdmitted fun x => { x with held := [sched1 []] };
      (s.nib 0).powered = true
      ∧ (s.nib 0).held.find? (fun h => decide (h.target = (s.aux 0).cyc + 1)) = some (sched1 [])
      ∧ (sched1 []).obeyed = true ∧ (s.nib 0).state = nsAdmitted ∧ (s.nib 0).bypReq = false)
    ∧ (let s := withAux 0 (fun a => { a with first := some 1 }) (nibIs 0 nsAdmitted id);
      (s.nib 0).held.find? (fun h => decide (h.target = (s.aux 0).cyc + 1)) = none
      ∧ (s.nib 0).mirror.find? (fun h => decide (h.target = (s.aux 0).cyc + 1)) = none
      ∧ (s.nib 0).state = nsAdmitted ∧ (s.nib 0).bypReq = false ∧ (s.aux 0).first = some 1
      ∧ ahead 1 ((s.aux 0).cyc + 1) = false)
    ∧ (let e : Edge := { offset := 100, sw := 7, level := true, gate := 0, tag := 1 }
       let s := withAux 0 (fun a => { a with cur := [e] }) (nibIs 0 nsAdmitted id);
      (s.aux 0).cur = e :: [] ∧ (s.nib 0).state = nsAdmitted ∧ (s.nib 0).bypReq = false)
    ∧ (let e : Edge := { offset := 100, sw := 7, level := true, gate := 0, tag := 1 }
       let s := withAux 0 (fun a => { a with cur := [e] }) (nibIs 0 nsSafe id);
      (s.aux 0).cur = e :: [] ∧ (s.nib 0).state ≠ nsAdmitted)
    ∧ (let s := nibIs 0 nsAdmitted fun x => { x with mirror := [sched1 []] };
      (s.nib 0).held.find? (fun h => decide (h.target = (s.aux 0).cyc + 1)) = none
      ∧ (s.nib 0).mirror.find? (fun h => decide (h.target = (s.aux 0).cyc + 1)) = some (sched1 [])
      ∧ (sched1 []).byp = false ∧ (sched1 []).obeyed = true)
    ∧ (let s := nibIs 0 nsAdmitted id; (s.aux 0).first = none ∧ (s.aux 0).cur = [])
    ∧ (let s := withAux 0 (fun a => { a with first := some 2 }) (nibIs 0 nsAdmitted id);
      (s.aux 0).first = some 2 ∧ ahead 2 ((s.aux 0).cyc + 1) = true)
    ∧ (up.nib 0).powered = false := by decide +kernel

/-- A stroke header of the type, flags, SLOTS and HOPS given whose check is correct. -/
def header (typ flags slots hops : Byte) : List Byte :=
  let body : List Byte :=
    [0, typ, flags, 0] ++ be 6 4 ++ [0, slots, hops, 0] ++ List.replicate 14 0
  body ++ wordBytes (hdrCrc body)

/-- A stroke at side 0 of a nib. -/
def passOf (hdr : List Byte) : StrokePass :=
  { side := 0, hdr := hdr, body := [], bad := [], res := 10, tH := 0, meas := List.replicate 12 0, ext := List.replicate 8 0,
    health := 0 }

theorem witness_AStrokePassesTheNibWithItsSlot :
    (let s := nibIs 0 nsAdmitted fun x => { x with pos := some 95, low := { x.low with sync := true } }
     let h := header 1 4 96 95;
      (s.nib 0).powered = true ∧ ((s.nib 0).side 0).sync = true ∧ (s.nib 0).state ≠ nsLoopback ∧ (s.aux 0).sent = []
        ∧ hdrType h = 1 ∧ hdrOk h = true ∧ (s.nib 0).pos = some (hdrHops h)
      ∧ (s.nib 0).outward (passOf h).side h = true ∧ hdrHops h < hdrSlots h)
    ∧ (let s := nibIs 0 nsAdmitted fun x => { x with pos := some 3 }
       let h := header 1 4 96 2;
      hdrType h = 1 ∧ hdrOk h = true ∧ (s.nib 0).outward (passOf h).side h = true ∧ hdrDir h = 0
      ∧ (s.nib 0).pos ≠ some (hdrHops h)) := by decide +kernel

/-- A segment with the first byte and switch edges given whose check is correct. -/
def segment (b0 : Byte) (edges : List Edge) : List Byte :=
  let body := padTo 64 ([b0, BitVec.ofNat 8 edges.length] ++ segTail edges)
  body ++ be 2 (crc16 body).toNat
where
  /-- Bytes 2 and 3, then the records. -/
  segTail (es : List Edge) : List Byte := [0, 0] ++ es.flatMap fun e => be 4 e.num

theorem witness_StrokesAndLoopbackAtANib :
    hdrType (header 2 4 96 2) ≠ 1 ∧ hdrType (header 1 4 96 2) = 1 ∧ hdrOk ((header 1 4 96 2).set 28 0) = false
    ∧ hdrOk (header 1 4 96 2) = true ∧ segEmpty (segment 0x80 []) = false
    ∧ segSound 1 [] (segment 0x80 []) false = true ∧ segSound 1 [] (segment 0x80 []) true = false
    ∧ hdrAct (header 1 4 96 2) = true ∧ segAct (segment 0x80 []) = true
    ∧ segSound 1 [] (segment 0x40 []) false = true ∧ hdrRly (header 1 2 96 2) = true ∧ segAct (segment 0x40 []) = false
    ∧ (let s := nibIs 0 nsSafe fun x => { x with pos := some 5 };
      (s.nib 0).pos = some 5 ∧ (s.nib 0).pos ≠ some 6 ∧ (s.nib 0).state ≠ nsAdmitted)
    ∧ (let s := nibIs 0 nsAdmitted fun x => { x with pos := some 0 };
      (s.nib 0).pos = some 0 ∧ (s.nib 0).state = nsAdmitted)
    ∧ (let s := nibIs 0 nsLoopback fun x => { x with pos := some 0 };
      (s.nib 0).pos = some 0 ∧ (s.nib 0).state = nsLoopback)
    ∧ (let s := nibIs 0 nsLoopback fun x => { x with low := { x.low with sync := true } };
      (s.nib 0).powered = true ∧ ((s.nib 0).side 0).sync = true ∧ (s.nib 0).state = nsLoopback)
    ∧ (let s := nibIs 0 nsSafe fun x => { x with high := { x.high with sync := true } };
      ((s.nib 0).side 1).sync = true ∧ (s.nib 0).state ≠ nsLoopback ∧ ((s.nib 0).side 0).sync = false)
    ∧ (up.nib 0).powered = false ∧ segEmpty (List.replicate 66 0) = true := by decide +kernel

/-! ## A module with one string -/

/-- `s` with a line string of four cells of stack `k` at port 0, whose lane is on, and its first cell enabled. -/
def withString (k : Nat) (s : State) : State :=
  ((s.setWord (K.PORT_CFG 0) (at_ 4 8 ||| at_ k 4 ||| at_ 1 0)).setWord (K.LANE_CTL 0) 1).setWord (K.CELL 0 0) 1

theorem witness_GeneratorLoadsAndTheDuctusLatch :
    (let l : GenLoad := { tick := 0, how := 1, did := true, set := GenSet.reset, clamp := 0, cyc := 0 }
     let s := up.setDstack 15 { DStack.init with loads := [l] };
      (s.dstack 15).loads = l :: [] ∧ l.tick / 62500 ≤ s.mono)
    ∧ (let l : GenLoad := { tick := 62500, how := 1, did := true, set := GenSet.reset, clamp := 0, cyc := 0 }
       let s := up.setDstack 0 { DStack.init with loads := [l] };
      (s.dstack 0).loads = l :: [] ∧ s.mono < l.tick / 62500)
    ∧ (up.dstack 15).loads = []
    ∧ up.sys.powered = true ∧ up.duct.latchAt ≠ up.mono + 1 ∧ State.reset.sys.powered = false
    ∧ ({ up with duct := { up.duct with latchAt := 1 } } : State).duct.latchAt = up.mono + 1 := by decide +kernel

theorem witness_SchedulerPostsAndGovernorRanks :
    govNext 0 800 750 800 = 2 ∧ (2 ≤ 2 ∧ (750 : Int) ≤ 800 ∧ (800 : Int) ≤ 800) ∧ ((719 : Int) < 750 - 30)
    ∧ ((750 : Int) - 30 ≤ 720 ∧ (720 : Int) < 750 ∧ 1 ≤ 1) ∧ ((800 : Int) - 30 ≤ 770 ∧ 2 = 2)
    ∧ up.sched.govLevel ≠ 1 ∧ up.sched.govLevel ≠ 2
    ∧ (let w := up.word K.GOV_CTL
      govNext up.sched.govLevel 0 (10 * W.GOV_CTL_T_AMBER w) (10 * W.GOV_CTL_T_RED w) = 0
      ∧ govNext up.sched.govLevel (10 * W.GOV_CTL_T_RED w) (10 * W.GOV_CTL_T_AMBER w) (10 * W.GOV_CTL_T_RED w) = 2)
    := by decide +kernel

theorem witness_ThermalStepAndLoopEngineRun :
    W.THERM_CTL_CHECK_EN ((up.setWord K.THERM_CTL 0).word K.THERM_CTL) = false
    ∧ (up.setWord K.THERM_CTL 0).pair.role ≠ .joining
    ∧ ({ up with pair := { up.pair with role := .joining } } : State).pair.role = .joining
    ∧ (let s := ((withString 0 (up.setWord (K.STACK_CFG 0) 0x11)).setWord K.THERM_CTL 1).setCell 0
        { Cell.init with adm := .inserted };
      W.THERM_CTL_CHECK_EN (s.word K.THERM_CTL) = true ∧ s.checked ≠ none)
    ∧ (List.range 16).filter up.stackEn = []
    ∧ (let s := up.setWord (K.STACK_CFG 15) 1; s.stackEn 15 = true ∧ s.modelled 15 = [])
    ∧ (∀ i, i < 16 → up.slotEn (i + 16 * 15) = false) := by decide +kernel

theorem witness_SupervisionAndTheWearJournal :
    (let s := (withString 0 up).setSupSw 7 { SupSw.init with wear := { Wear.init with ident := 9 } };
      0 ∈ s.wearCells ∧ 7 < 8 ∧ (s.supSw (0 * 8 + 7)).wear ≠ Wear.init) := by decide +kernel

theorem witness_StrokesLeaveAndHeadersReturn :
    State.reset.sys.mode = .boot ∧ up.sys.mode ≠ .boot
    ∧ (let s := withString 0 up;
      0 ∈ s.strings.flatMap s.usedPorts ∧ s.sends 0 = true ∧ s.configured (s.basePort 0) = true
      ∧ 0 ∈ s.usedPorts (s.basePort 0) ∧ s.lit 0 = true ∧ 0 < s.slotsOf (s.basePort 0) ∧ 3 < s.slotsOf (s.basePort 0)
      ∧ s.enabled (48 * s.basePort 0 + 0) = true ∧ s.occupied (48 * s.basePort 0 + 0) = true
      ∧ (s.echoOf ((48 * s.basePort 0 + 3) * 2 + s.portSide 0)).count + 1 < 16)
    ∧ (let j := (48 * (withString 0 up).basePort 0 + 3) * 2 + (withString 0 up).portSide 0
       let s := (withString 0 up).setEcho j { (withString 0 up).echoOf j with count := 15 };
      16 ≤ (s.echoOf j).count + 1 ∧ (s.mg 3).req = [] ∧ s.occupied 3 = true ∧ 3 < s.slotsOf (s.basePort 0))
    ∧ (252 : Byte) = ~~~ (3 : Byte) ∧ (3 : Byte) ≠ ~~~ (3 : Byte)
    ∧ ((withString 0 up).setWord (K.LANE_CTL 0) (1 ||| at_ 3 8)).txMode 0 = .farEnd
      ∧ up.configured (up.basePort 63) = false
    ∧ ((nibIs 3071 nsSafe id).nib 3071).powered = true ∧ (up.nib 3071).powered = false
    ∧ hdrOk (header 1 1 4 0) = true ∧ hdrType (header 1 1 4 0) = 1 ∧ hdrType (header 2 1 4 0) ≠ 1
    ∧ hdrOk (header 2 1 4 0) = true ∧ hdrOk [] = false := by decide +kernel

/-! ## Requests of an open session -/

/-- CONFIG with the session open at role MAINT. -/
def open2 : State := withSess 2 up

theorem test_request_is_executed : open2.Accepts req 2 ∧ open2.Accepts req 1 ∧ open2.Accepts req 0 := by
  unfold State.Accepts; decide +kernel

/-- WritesFreely of the first request at slot 0, as a test. -/
def freely (s : State) (k : Nat) (w : Word) : Bool :=
  s.recordOk req && (s.sess 0).wait.isNone && (s.sess 0).nextSeq req.seq && decide (roControl ≤ (s.sess 0).role)
    && ((s.begun req).writeRefuse 0 (k / 256) [(k % 256, w)] false
        ((liveWords (k / 256) [(k % 256, w)]).map fun q => ((s.begun req).bindKey 0 (k / 256) q.1, q.2.1))).isNone

theorem freely_iff (s : State) (k : Nat) (w : Word) : freely s k w = true → s.WritesFreely req k w := by
  intro h
  simp only [freely, Bool.and_eq_true, Option.isNone_iff_eq_none, decide_eq_true_eq] at h
  exact ⟨⟨h.1.1.1.1, h.1.1.1.2, h.1.1.2, h.1.2⟩, h.2⟩

/-- `open2` as side A of a pair in the role given, side A's partner READY or not. -/
def sideIn (role : Role) (ready : Bool) : State :=
  { withSess 2 sideA with pair := { sideA.pair with role := role, tokOut := decide (role = .holder), pReady := ready } }

theorem witness_WordsOfTheNextCycleWait :
    (open2.leads = false ∧ (sideIn .holder true).leads = true ∧ (sideIn .standby true).leads = false)
    ∧ (sideIn .holder true).WritesFreely req K.DUCT_CLAMP 0x80000000
    ∧ (sideIn .holder false).WritesFreely req K.FE_INFO 0x80000000
    ∧ open2.WritesFreely req (K.LANE_CTL 0) 1 ∧ open2.WritesFreely req (K.LANE_CTL 67) 1
    ∧ open2.WritesFreely req K.BOND_CTL 0 ∧ open2.WritesFreely req K.DUCT_CLAMP 0x80000000
    ∧ open2.WritesFreely req K.DUCT_FAIL 0x80000000 ∧ open2.WritesFreely req K.THERM_FAIL 0x80000000
    ∧ open2.WritesFreely req K.SC_CAPTURE 0x80000000 ∧ open2.WritesFreely req K.FE_INFO 0x80000000
    ∧ open2.WritesFreely req K.SAF_FAULT 0x80000000 ∧ open2.WritesFreely req K.INK_FIRST 0x80000000
    ∧ open2.WritesFreely req K.TIME_SNAP 1 := by
  refine ⟨by decide +kernel, ?_, ?_, ?_, ?_, ?_, ?_, ?_, ?_, ?_, ?_, ?_, ?_, ?_⟩ <;>
    exact freely_iff _ _ _ (by decide +kernel)

theorem witness_ImmediateWordsActAtOnce :
    open2.WritesFreely req K.CAN_RXSEL 0
    ∧ (open2.setWord (K.ADC_CTL 3) 0x80000000).WritesFreely req K.ADC_URG (at_ 3 8 ||| at_ 23 0)
    ∧ open2.WritesFreely req K.ARB_CTL 0xACE10001 ∧ open2.WritesFreely req K.ARB_CMD (at_ 1 4 ||| at_ 6 0)
    ∧ open2.WritesFreely req K.DMA_CMD (at_ 1 8 ||| at_ 7 0) ∧ open2.WritesFreely req K.DMA_CMD (at_ 2 8 ||| at_ 4 0)
    ∧ open2.WritesFreely req K.BLOT_CMD 1
    ∧ (open2.setLane 67 { Lane.init with state := 4 }).WritesFreely req K.LANE_CMD (at_ 1 8 ||| at_ 67 0)
    ∧ open2.WritesFreely req K.LANE_CMD (at_ 2 8 ||| at_ 0 0)
    ∧ (withString 0 open2).WritesFreely req K.LINK_CMD (at_ 1 24 ||| at_ 3 8 ||| at_ 0 0)
    ∧ (withString 0 open2).WritesFreely req K.LINK_CMD (at_ 2 24 ||| at_ 0 8 ||| at_ 0 0)
    ∧ (withString 0 (sideIn .holder true)).WritesFreely req K.LINK_CMD (at_ 1 24 ||| at_ 0 8 ||| at_ 0 0)
    ∧ open2.WritesFreely req (K.CLK_LOOP 0) 0x80000C04 ∧ open2.WritesFreely req (K.CLK_LOOP 16) 0xC04
    ∧ (((withString 0 open2).usedPorts 0).find? (withString 0 open2).sends = some 0
      ∧ (open2.usedPorts 63).find? open2.sends = none ∧ (withString 0 (sideIn .holder true)).leads = true) := by
  refine ⟨?_, ?_, ?_, ?_, ?_, ?_, ?_, ?_, ?_, ?_, ?_, ?_, ?_, ?_, by decide +kernel⟩ <;>
    exact freely_iff _ _ _ (by decide +kernel)

theorem witness_TransactionsStageAndCommit :
    open2.Accepts req 1 ∧ (open2.begun req).lockedOut 0 = false ∧ (open2.begun req).owns 0 = false := by
  unfold State.Accepts; decide +kernel

/-- A transaction of session slot 0 with the words given staged. -/
def txnOf (l : List (Nat × Word)) (due : Option Nat) : Txn :=
  { slot := 0, gen := 1, number := 1, leaseEnd := 1000000, staged := l, due := due, implicit := false }

/-- `open2` with that transaction. -/
def inTxn (l : List (Nat × Word)) (due : Option Nat) : State := open2.putTxn (txnOf l due)

theorem witness_TransactionsStageAndCommit_owner :
    (inTxn [] none).Accepts req 1 ∧ ((inTxn [] none).begun req).cmd.txn = some (txnOf [] none)
    ∧ ((inTxn [] none).begun req).owns 0 = true ∧ (txnOf [] none).due = none := by
  unfold State.Accepts; decide +kernel

theorem witness_TransactionsStageAndCommit_locked :
    (let s : State := open2.putTxn { txnOf [] none with slot := 7 };
      s.Accepts req 1 ∧ (s.begun req).lockedOut 0 = true) := by
  unfold State.Accepts; decide +kernel

theorem witness_TransactionsStageAndCommit_stage :
    (let p : List Byte := [0, 1, 0x10, 1, 0, 0, 4, 1]
     let u := (inTxn [] none).begun req
     pageWordsOf p = some [(0x10, 0x401)] ∧ (wordRow (beAt p 0 2) 0x10).isSome = true
      ∧ ((wordRow (beAt p 0 2) 0x10).map fun r => r.acc) = some .rw ∧ (wordOk (beAt p 0 2) 0x10 0x401).2 = true
      ∧ u.wordBad 0 (beAt p 0 2) 0x10 0x401 = false ∧ u.follows = false ∧ (sideIn .standby true).follows = true
      ∧ pageExists (beAt p 0 2) = true ∧ beAt p 0 2 ∈ replicatedPages ∧ 0 ∉ replicatedPages
      ∧ (restage [] [(u.bindKey 0 (beAt p 0 2) 0x10, 0x401)]).length ≤ 4096) := by decide +kernel

theorem witness_TransactionsStageAndCommit_commit :
    (let x := txnOf [(K.LINK_LOSS, 0x3E80014)] none
     let u := (inTxn x.staged none).begun req
     u.cmd.txn = some x ∧ u.owns 0 = true ∧ u.commitDue x.staged [0, 0, 0, 0, 0, 0, 0, 0] req.tick = some 1)
    ∧ ((inTxn [(K.LINK_LOSS, 0x3E80014)] none).begun req).commitBad [(K.LINK_LOSS, 0x3E80014)] = none
    ∧ ((inTxn [(K.LINK_LOSS, 0x3E80014)] none).begun req).commitState [(K.LINK_LOSS, 0x3E80014)] = none
    ∧ ((inTxn [(K.LINK_LOSS, 0x3E80014)] none).begun req).commitLock [(K.LINK_LOSS, 0x3E80014)] = none := by
  refine ⟨by decide +kernel, ?_, ?_, ?_⟩ <;> exact Option.isNone_iff_eq_none.mp (by decide +kernel)

theorem witness_TransactionsStageAndCommit_boundary :
    (inTxn [] (some 0)).cmd.txn = some (txnOf [] (some 0)) ∧ (txnOf [] (some 0)).due = some 0 ∧ 0 ≤ up.mono
    ∧ (txnOf [] (some 1)).due = some 1 ∧ (inTxn [] (some 1)).mono < 1 ∧ (inTxn [] none).mono < (txnOf [] none).leaseEnd
    ∧ (let s : State := { inTxn [] none with mono := 1000000 };
      s.cmd.txn = some (txnOf [] none) ∧ (txnOf [] none).leaseEnd ≤ s.mono) := by decide +kernel

theorem witness_PagesAreReadAndWritten :
    (open2.Accepts req 0 ∧ pageExists (beAt ([0, 1, 255, 1] : List Byte) 0 2) = true
      ∧ beAt ([0, 1, 255, 1] : List Byte) 2 1 + 1 ≤ 256 ∧ beAt ([0, 1, 255, 1] : List Byte) 3 1 = 1)
    ∧ (beAt ([0, 1, 0, 0] : List Byte) 2 1 + 256 ≤ 256 ∧ beAt ([0, 1, 0, 0] : List Byte) 3 1 = 0)
    ∧ (256 < beAt ([0, 1, 1, 0] : List Byte) 2 1 + 256 ∧ beAt ([0, 1, 1, 0] : List Byte) 3 1 = 0)
    ∧ (open2.Accepts req 1 ∧ pageExists (beAt ([255, 255] : List Byte) 0 2) = false)
    ∧ (pageExists (beAt ([0, 1] : List Byte) 0 2) = true ∧ pageWordsOf [0, 1] = none) := by
  unfold State.Accepts; decide +kernel

theorem witness_PagesAreReadAndWritten_nextCycle :
    (pageWordsOf [0, 2, 2, 1, 0, 0, 0, 1] = some [(2, 1)] ∧ ((wordRow 2 2).map fun r => r.term) = some .nextCycle)
    ∧ (∀ q ∈ liveWords 2 [(2, 1)], key 2 q.1 = K.TIME_SNAP → bit q.2.1 0 = false)
    ∧ open2.WritesFreely req (0x200 + 2) 0 :=
  ⟨by decide +kernel, by decide +kernel, freely_iff _ _ _ (by decide +kernel)⟩

theorem witness_PagesAreReadAndWritten_commit :
    (let ws : List (Nat × Word) := [(1, 0xC35)]
     let live := liveWords 3 ws
     let u := open2.begun req;
      pageWordsOf [0, 3, 1, 1, 0, 0, 0x0C, 0x35] = some ws ∧ live ≠ [] ∧ (∀ q ∈ live, q.2.2.term = .commit)
      ∧ (u.writeRefuse 0 3 ws true (live.map fun q => (u.bindKey 0 3 q.1, q.2.1))).isNone = true) := by decide +kernel

theorem witness_PagesAreReadAndWritten_window :
    ([5] : List Word) ≠ [] ∧ (63 : Fin 64).val + ([5] : List Word).length ≤ 64
    ∧ (let words := (List.range 1).map fun n => (0xC0 + 63 + n, (([5] : List Word)[n]?).getD 0);
      (open2.begun req).writeRefuse 0 13 words false ((liveWords 13 words).map fun q =>
        ((open2.begun req).bindKey 0 13 q.1, q.2.1)) = none) := by
  exact ⟨by decide, by decide, Option.isNone_iff_eq_none.mp (by decide +kernel)⟩

/-- A module with no event, its session open, in the state given. -/
def openIn (m : ModState) : State := withSess 2 (upIn m)

theorem witness_ModesAreSetReadAndReset :
    (open2.Accepts req 0 ∧ (List.replicate 64 (0 : Byte)).length ≤ 64 ∧ 64 < (List.replicate 65 (0 : Byte)).length)
    ∧ (open2.Accepts req 1 ∧ (open2.begun req).follows = false ∧ beAt ([2, 0, 0, 0] : List Byte) 1 1 = 0
      ∧ modOfCode (beAt ([1, 0, 0, 0] : List Byte) 0 1) = some (open2.begun req).sys.mode
      ∧ (let u := (openIn .config).begun req; .service ≠ u.sys.mode ∧ u.mayMode .service (u.preMask 0) = true
        ∧ .boot ≠ u.sys.mode ∧ u.mayMode .boot (u.preMask 0) = false
        ∧ u.commitPending = false ∧ u.sys.modeReq = none))
    ∧ ((sideIn .standby true).Accepts req 1 ∧ ((sideIn .standby true).begun req).follows = true
      ∧ (sideIn .holder true).Accepts req 1 ∧ ((sideIn .holder true).begun req).follows = false
      ∧ ((sideIn .holder true).begun req).leads = true)
    ∧ (beAt ([0, 0, 0, 0, 0] : List Byte) 0 1 = 0 ∧ beAt ([0, 0, 0, 0, 0] : List Byte) 3 2 = 0)
    ∧ (beAt ([1, 0, 15, 0, 0] : List Byte) 0 1 = 1 ∧ beAt ([1, 0, 15, 0, 0] : List Byte) 1 2 < 16)
    ∧ (beAt ([2, 0x0B, 0xFF, 0, 0] : List Byte) 0 1 = 2 ∧ beAt ([2, 0x0B, 0xFF, 0, 0] : List Byte) 1 2 < 3072)
    ∧ (beAt ([3, 4, 1, 0, 67] : List Byte) 0 1 = 3) := by
  unfold State.Accepts; decide +kernel

/-- `up` with the island of safety in RUN and both functions permitted. -/
def calm : State :=
  let c : SafCh := { SafCh.reset with spb := fnPermit, stb := fnPermit }
  { up with saf := { up.saf with island := islRun, chA := c, chB := c } }

theorem witness_ModesAreSetReadAndReset_boundary :
    (let s : State := { calm with sys := { calm.sys with blockReq := true } };
      s.autoTarget = some (.blocked, 2) ∧ s.sys.modeReq = none)
    ∧ (up.autoTarget = some (.safeHold, 3) ∧ calm.autoTarget = none ∧ calm.sys.modeReq = none)
    ∧ (let q : ModeReq := { target := .service, mask := 0, due := 0, slot := 0 }
       let s : State := { calm with sys := { calm.sys with modeReq := some q } };
      s.autoTarget = none ∧ s.sys.modeReq = some q ∧ q.due ≤ s.mono ∧ s.mayMode q.target q.mask = true
      ∧ s.sys.blockReq = false)
    ∧ (let q : ModeReq := { target := .run, mask := 0, due := 0, slot := 0 }
       let s : State := { calm with sys := { calm.sys with modeReq := some q } };
      s.autoTarget = none ∧ q.due ≤ s.mono ∧ s.mayMode q.target q.mask = false)
    ∧ (let q : ModeReq := { target := .service, mask := 0, due := 1, slot := 0 }
       let s : State := { calm with sys := { calm.sys with modeReq := some q } };
      s.sys.modeReq = some q ∧ s.mono < q.due) := by decide +kernel

/-- `openIn m` with the string of `withString` and its first cell as given. -/
def cellIn (m : ModState) (f : Cell → Cell) : State := (withString 0 (openIn m)).setCell 0 (f Cell.init)

theorem witness_CellCommandsStartTheirWork :
    (open2.Accepts req 1 ∧ (open2.begun req).follows = false ∧ (open2.begun req).opsRunning 0x30 = [])
    ∧ ((withString 0 open2).configured 0 = true ∧ (withString 0 open2).basePort 0 = 0)
    ∧ ((sideIn .standby true).Accepts req 1 ∧ ((sideIn .standby true).begun req).follows = true
      ∧ (sideIn .holder true).Accepts req 1 ∧ ((sideIn .holder true).begun req).leads = true
      ∧ ((sideIn .holder true).opStart 0x30 1 0 0).leads = true)
    ∧ ((cellIn .standby fun c => { c with adm := .found }).Accepts req 1
      ∧ (let u := (cellIn .standby fun c => { c with adm := .found }).begun req;
        u.svc 0 = .found ∧ (u.mg 0).step = 0 ∧ (∀ o ∈ u.opsRunning 0x31, o.arg ≠ 0)
        ∧ (u.opsRunning 0x31).length < 64 ∧ u.sys.mode = .standby))
    ∧ (openIn .config).sys.mode = .config ∧ (openIn .run).svc 3071 = .disabled
    ∧ (let u := (cellIn .run id).begun req; u.svc 0 = .missing)
    ∧ (let u := (cellIn .run fun c => { c with adm := .found, bypClosed := true }).begun req; u.svc 0 = .bypassed)
    ∧ (let u := ((cellIn .run fun c => { c with adm := .inserted }).raise 0x0305 0 0 0).begun req; u.svc 0 = .faulted)
    ∧ (let u := (cellIn .run fun c => { c with adm := .inserted }).begun req; u.svc 0 = .inserted ∧ u.sys.mode ≠ .config)
    ∧ (let u := (cellIn .run fun c => { c with adm := .inserted, retired := true }).begun req;
      u.svc 0 = .retired ∧ u.sys.mode ≠ .config)
    ∧ (let u := (cellIn .run fun c => { c with adm := .charging, seen := 9 }).begun req;
      beAt ([0, 0, 0, 0, 0, 0, 0, 9] : List Byte) 4 4 = (u.cell (beAt ([0, 0, 0, 0, 0, 0, 0, 9] : List Byte) 0 2)).seen.toNat
      ∧ u.svc 0 = .charging) ∧ beAt ([0x0B, 0xFF] : List Byte) 0 2 < 3072 := by
  unfold State.Accepts; decide +kernel

/-- `open2` with loop slot 255 enabled and as given. -/
def slotIs (l : LoopSt) : State := (open2.setWord (slotKey 255 0x10) 1).setSlot 255 l

theorem witness_LoopAndPairCommandsAnswer :
    (let s := slotIs LoopSt.init;
      s.Accepts req 1 ∧ (s.begun req).pairSide = false ∧ (s.begun req).follows = false
        ∧ (s.begun req).slotEn (beAt ([255, 0, 0, 0, 0, 0] : List Byte) 0 1) = true
      ∧ beAt ([255, 0, 0, 0, 0, 0] : List Byte) 1 1 = 0 ∧ beAt ([255, 1, 0x3F, 0x80, 0, 0] : List Byte) 1 1 = 1
      ∧ fFinite (BitVec.ofNat 32 (beAt ([255, 1, 0x3F, 0x80, 0, 0] : List Byte) 2 4)) = true
      ∧ ((s.begun req).slot 255).closed = false ∧ (s.begun req).mayClose 255 = true
      ∧ ((s.begun req).slot 255).susp = false)
    ∧ ((slotIs { LoopSt.init with closed := true }).Accepts req 1
      ∧ (((slotIs { LoopSt.init with closed := true }).begun req).slot 255).closed = true)
    ∧ (let p : List Byte := [255, 15, 1, 0, 0, 0, 0, 0]
       let vs := bytesWords (beAt p 2 1) (p.drop 4);
      p.length = 4 + 4 * beAt p 2 1 ∧ beAt p 2 1 ≠ 0 ∧ beAt p 1 1 + beAt p 2 1 ≤ 16 ∧ beAt p 3 1 = 0
      ∧ ∀ k, k < beAt p 2 1 → coeffOk (beAt p 1 1 + k) ((vs[k]?).getD 0) = true)
    ∧ (open2.Accepts req 0)
    ∧ (let s := (sideIn .holder true).setWord (slotKey 255 0x10) 1;
      s.Accepts req 1 ∧ (s.begun req).leads = true ∧ (s.begun req).slotEn 255 = true ∧ (s.begun req).mayClose 255 = true)
    ∧ (let s := (sideIn .standby true).setWord (slotKey 255 0x10) 1;
      s.Accepts req 1 ∧ (s.begun req).follows = true ∧ (s.begun req).leads = false ∧ (s.begun req).slotEn 255 = true)
    ∧ ((sideIn .holder true).Accepts req 1 ∧ ((sideIn .holder true).begun req).leads = true
      ∧ (0 : Byte).toNat = b2n ((sideIn .holder true).begun req).sideB
      ∧ (1 : Byte).toNat ≠ b2n ((sideIn .holder true).begun req).sideB
      ∧ ((sideIn .holder true).begun req).pair.pReady = true ∧ ((sideIn .holder false).begun req).pair.pReady = false
      ∧ ((sideIn .holder false).begun req).leads = true) := by
  unfold State.Accepts; decide +kernel

/-- An operation of the code and state given. -/
def opOf (code state : Nat) : OpRec :=
  { id := 5, opcode := code, state := state, kind := 0, status := 0, done := 0, total := 10, last := 0, arg := 0,
    data := [] }

/-- `open2` with it. -/
def withOp (code state : Nat) : State := { open2 with cmd := { open2.cmd with ops := [opOf code state], lastOp := 5 } }

/-- `open2` with a capture in the state given. -/
def capture (st : Nat) : State :=
  { open2 with ink := { open2.ink with blot := { open2.ink.blot with st := st } } }

theorem witness_OperationsAndReadoutsAnswer :
    ((withOp 0x80 1).Accepts req 1
      ∧ ((withOp 0x80 1).begun req).opRec (beAt ([0, 5] : List Byte) 0 2) = some (opOf 0x80 1)
      ∧ (opOf 0x80 1).state ≠ 0)
    ∧ ((withOp 0x30 0).opRec ((5 : BitVec 16).toNat) = some (opOf 0x30 0)
      ∧ (((withOp 0x30 0).begun req).cancelOp (opOf 0x30 0)).isSome = true)
    ∧ (({ (withOp 0x83 0).begun req with boot := { up.boot with burn := some (0, 5) } } : State).cancelOp
      (opOf 0x83 0)).isNone = true ∧ (open2.begun req).opRec 5 = none
    ∧ (let s := withOp 0x51 0
       let o : OpRec := { opOf 0x51 0 with arg := ((s.begun req).sidOf 0).toNat }
       let s : State := { s with cmd := { s.cmd with ops := [o] } };
      s.Accepts req 0 ∧ beAt ([0, 5, 0, 0, 0, 10] : List Byte) 0 2 ≠ 0 ∧ (s.begun req).opRec 5 = some o ∧ o.opcode = 0x51
      ∧ o.state = 0 ∧ o.arg = ((s.begun req).sidOf (reqSlot req)).toNat ∧ (s.begun req).readoutRuns = true
      ∧ s.Accepts req 1)
    ∧ (let s : State := { withOp 0x83 0 with boot := { up.boot with burn := some (0, 5) } };
      s.opRec ((5 : BitVec 16).toNat) = some (opOf 0x83 0) ∧ (opOf 0x83 0).opcode = 0x83 ∧ s.boot.burn ≠ none)
    ∧ (let s := open2.raise 0x00E6 0 0 0;
      (s.begun req).allEvents.dropWhile (fun e =>
        decide (2 ^ 31 ≤ (e.seq - BitVec.ofNat 32 (beAt ([0, 0, 0, 0, 1] : List Byte) 0 4)).toNat)) ≠ []
      ∧ 1 ≤ beAt ([0, 0, 0, 0, 1] : List Byte) 4 1)
    ∧ ((withOp 0x51 0).opRec ((5 : BitVec 16).toNat) = some (opOf 0x51 0) ∧ (opOf 0x51 0).state = 0
      ∧ (opOf 0x51 0).opcode ∈ [0x80, 0x83, 0x51]
      ∧ (opOf 0x51 0).last + 3000000 ≤ ({ withOp 0x51 0 with mono := 3000000 } : State).mono
      ∧ ({ withOp 0x51 0 with mono := 3000000 } : State).opRec ((5 : BitVec 16).toNat) = some (opOf 0x51 0))
    ∧ ((capture 4).Accepts req 0 ∧ ((capture 4).begun req).ink.blot.st = 4
      ∧ (((capture 4).begun req).opsRunning 0x51).any
          (fun o => decide (o.arg = (((capture 4).begun req).sidOf 0).toNat)) = false)
    ∧ ((open2.begun req).allEvents.dropWhile fun e =>
        decide (2 ^ 31 ≤ (e.seq - BitVec.ofNat 32 (beAt ([0, 0, 0, 0, 42] : List Byte) 0 4)).toNat)) = []
    ∧ ((capture 1).Accepts req 1 ∧ ((capture 1).begun req).readoutRuns = false ∧ ((capture 1).begun req).ink.blot.st = 1)
    ∧ (open2.Accepts req 1 ∧ (open2.begun req).ink.blot.st = 0) := by
  unfold State.Accepts; decide +kernel

theorem witness_FirmwareTrustAndJournalCommands :
    (open2.Accepts req 2 ∧ (open2.begun req).sys.mode = .config ∧ (open2.begun req).slotValidFw 0 = true
      ∧ (open2.begun req).opsRunning 0x80 = [] ∧ (open2.begun req).opsRunning 0x83 = [] ∧ open2.pairSide = false)
    ∧ ((openIn .run).Accepts req 2 ∧ ((openIn .run).begun req).sys.mode ≠ .config
      ∧ ((openIn .run).begun req).sys.mode ≠ .service)
    ∧ (let p : List Byte := List.replicate 8 0 ++ [0x2C, 0xA1];
      10 ≤ p.length ∧ p.length ≤ 1034 ∧ beAt p 0 2 = 0 ∧ beAt p 2 4 = 0 ∧ p.length ≤ 10 + beAt p 6 4)
    ∧ (let p : List Byte := List.replicate 6 0 ++ [0, 0, 0, 16] ++ List.replicate 16 3;
      26 ≤ p.length ∧ p.length ≤ 1034 ∧ beAt p 0 2 = 0 ∧ beAt p 2 4 = 0 ∧ p.length ≤ 10 + beAt p 6 4
      ∧ beAt p 6 4 ≤ 16777216 ∧ beAt (p.drop 10) 4 1 ≠ 1 ∧ beAt (p.drop 10) 4 1 ≠ 2)
    ∧ ((sideIn .holder true).Accepts req 2 ∧ (sideIn .holder true).pairSide = true
      ∧ (sideIn .holder true).pair.tokOut = true ∧ ((sideIn .holder true).begun req).slotValidFw 0 = true
      ∧ ((sideIn .holder true).begun req).sys.mode = .config ∧ (open2.begun req).slotValidFw 1 = false)
    ∧ (let s : State := { open2 with cmd := { open2.cmd with attNonce := List.replicate 32 0, attReport := [1] } };
      s.Accepts req 0 ∧ (s.begun req).cmd.attReport ≠ []
      ∧ (s.begun req).cmd.attNonce = (List.replicate 32 (0 : Byte) ++ [0, 0, 4, 0]).take 32
      ∧ beAt (List.replicate 32 (0 : Byte) ++ [0, 0, 4, 0]) 32 4 ≠ 0)
    ∧ (List.replicate 36 (0 : Byte)).length = 36 ∧ beAt (List.replicate 36 (0 : Byte)) 32 4 = 0
    ∧ (let p : List Byte := [8, 0, 0, 0, 0, 0, 0x0C, 0, 4, 0];
      p.length = 10 ∧ beAt p 0 1 ≤ 8 ∧ beAt p 1 3 = 0 ∧ 1 ≤ beAt p 8 2 ∧ beAt p 8 2 ≤ 1024
      ∧ beAt p 4 4 + beAt p 8 2 ≤ regionLen (beAt p 0 1))
    ∧ (let s : State := { up with boot := { up.boot with burn := some (0, 5) } };
      s.boot.burn = some (0, 5) ∧ beAt (s.gen 0).content 0 1 = 0 ∧ beAt (s.gen 0).content 1 1 = 1)
    ∧ up.boot.burn = none := by
  unfold State.Accepts; decide +kernel

/-- A generation whose owner digest is that of the empty key field. -/
def ownedGen : Gen := { Gen.factory with content := Gen.factory.content.take 48 ++ Config.sha512 [] }

/-- `up` with it in force and an address on port 0. -/
def owned : State :=
  { up.setWord (K.PORT_IP 0) 0xC0A8FF01 with boot := { up.boot with gens := [(0, ownedGen)], active := some 0 } }

theorem sha512_length (m : List Byte) : (Config.sha512 m).length = 64 := by simp [Config.sha512]

theorem owned_key : owned.findKey 0 = some ([], 2) := by
  have h : owned.ownerOk = decide (Config.sha512 [] = ((Gen.factory.content.take 48 ++ Config.sha512 []).drop 48).take 64) :=
    rfl
  have h2 : owned.ownerOk = true := by
    rw [h, List.drop_left' (by decide), List.take_of_length_le (by simp [sha512_length])]
    simp
  have h3 : owned.findKey 0 = if owned.ownerOk then some ([], 2) else none := rfl
  rw [h3, h2]; rfl

/-- An attempt of slot 0 by that key. -/
def attempt : Attempt :=
  { slot := 0, gen := 1, role := 2, keyId := 0, port := 0, hello := [], reply := [], secret := [], started := 0 }

/-- A protected record of the session of `open2` with counter 1. -/
def sealed : List Byte := [1, 2, 0, 8] ++ be 8 1 ++ List.replicate 28 0

theorem witness_SessionsOpenAndClose :
    (open2.openRecord [1, 2] = none ∧ beAt ([1, 2] : List Byte) 0 1 = 1 ∧ beAt ([1, 2] : List Byte) 1 1 = 2
      ∧ (∀ b, Config.gcmOpen (open2.sess 0).keyIn (be 4 1 ++ be 8 1) (sealed.take 12) (sealed.drop 12) = some b →
        (open2.openRecord sealed).isSome = true))
    ∧ State.reset.sys.mode = .boot ∧ up.portIp 0 = 0
    ∧ (owned.sys.mode ≠ .boot ∧ owned.portIp 0 ≠ 0 ∧ (List.replicate 1256 (0 : Byte)).length = 1256
      ∧ beAt (List.replicate 1256 (0 : Byte)) 0 1 ≤ 2 ∧ beAt (List.replicate 1256 (0 : Byte)) 1 3 = 0
      ∧ owned.findKey (BitVec.ofNat 32 (beAt (List.replicate 1256 (0 : Byte)) 4 4)) = some ([], 2)
      ∧ owned.freeSlot = some 0)
    ∧ (let s := up.setWord (K.PORT_IP 2) 1; s.portIp 2 ≠ 0 ∧ s.findKey 5 = none) ∧ ([] : List Byte).length ≠ 1256
    ∧ ({ owned with cmd := { owned.cmd with attempts := [attempt] } } : State).findKey attempt.keyId = some ([], 2)
    ∧ (([attempt] : List Attempt).find? fun a =>
        decide (a.gen * 8 + a.slot = (8 : BitVec 16).toNat) && decide (a.port = ((0 : Fin 3) : Nat))) = some attempt
    ∧ owned.mono - attempt.started ≤ 500000 ∧ (List.replicate 3373 (0 : Byte)).length = 3373
    ∧ (∀ body : List Byte, Config.edVerify [] (Config.sha512 (Config.sha512 [] ++
          padTo 64 (Config.edSign (Config.sha512 [])) ++ padTo 3309 (Config.mlSign (Config.sha512 [])))) (body.take 64) = true →
        Config.mlVerify [] (Config.sha512 (Config.sha512 [] ++ padTo 64 (Config.edSign (Config.sha512 []))
          ++ padTo 3309 (Config.mlSign (Config.sha512 [])))) (body.drop 64) = true → finishOk attempt [] body = true)
    ∧ open2.Accepts req 0 ∧ open2.sessIdle 0 = false ∧ ({ open2 with mono := 6000000 } : State).sessIdle 0 = true := by
  have key0 : BitVec.ofNat 32 (beAt (List.replicate 1256 (0 : Byte)) 4 4) = 0 := by decide +kernel
  refine ⟨⟨?_, by decide, by decide, ?_⟩, by decide, by decide +kernel,
    ⟨by decide, by decide +kernel, by decide +kernel, by decide +kernel, by decide +kernel, ?_, by decide +kernel⟩,
    by decide +kernel, by decide, owned_key, by decide, by decide +kernel, by decide +kernel, ?_, ?_⟩
  · simp only [State.openRecord]
    split
    · rfl
    · simp
  · intro b h
    have h0 : beAt sealed 2 2 = 8 := by decide +kernel
    have h1 : beAt sealed 4 8 = 1 := by decide +kernel
    have h2 (q : Word) : open2.recordOk
        { peer := { port := 0, ip := 0, sport := 0 }, sid := 8, ctr := 1, seq := q, tick := 0 } = true :=
      (show _ = open2.recordOk { peer := { port := 0, ip := 0, sport := 0 }, sid := 8, ctr := 1, seq := 0, tick := 0 }
        from rfl).trans (by decide +kernel)
    have h3 : ((BitVec.ofNat 16 8).toNat % 8) = 0 := by decide
    simp only [State.openRecord, h0, h1, h3, h]
    simp [show ¬ sealed.length < 28 by decide]
    exact h2 _
  · rw [key0]; exact owned_key
  · intro body h1 h2
    simp only [finishOk, attempt, List.append_nil, List.take_nil, List.drop_nil, h1, h2, Bool.and_self]
  · unfold State.Accepts; decide +kernel

/-! ## Recovery, the journal, the analog inputs, cells -/

/-- An active event. -/
def act (code inst : Nat) : ActEv := { code := code, inst := inst, cond := false, last := 0 }

/-- `up` with the event 0x0305 of cell 0 active, cells recovering by themselves within a window of 10 up to twice, and
cell 0's count as given. -/
def recovering (count : Nat) : State :=
  let s := (up.setWord K.FLT_CTL 0x02320A01).setRec 0 { RecSrc.init with count := count }
  { s with mono := 50000, evt := { s.evt with active := [act 0x0305 0] } }

theorem witness_RecoveryCountsLocksAndReleases :
    up.sourceEvents 3087 = [] ∧ (up.recOf 3087).count = 0 ∧ (recovering 2).autoAllowed 3087 = false
    ∧ (recovering 2).quietOver 0 = true ∧ (recovering 1).quietOver 0 = true
    ∧ ({ recovering 1 with mono := 49999 } : State).quietOver 0 = false
    ∧ ((recovering 2).sourceEvents 0 ≠ [] ∧ (recovering 2).autoAllowed 0 = true ∧ ((recovering 2).recOf 0).count ≠ 0
      ∧ ((recovering 2).cycle - ((recovering 2).recOf 0).wstart).toNat
          < W.FLT_CTL_WINDOW ((recovering 2).word K.FLT_CTL) * 6000000
      ∧ W.FLT_CTL_LIMIT ((recovering 2).word K.FLT_CTL) ≤ ((recovering 2).recOf 0).count)
    ∧ ((recovering 1).sourceEvents 0 ≠ [] ∧ (recovering 1).autoAllowed 0 = true ∧ ((recovering 1).recOf 0).count ≠ 0
      ∧ ((recovering 1).recOf 0).count < W.FLT_CTL_LIMIT ((recovering 1).word K.FLT_CTL))
    ∧ (let s : State := { calm with
        sys := { calm.sys with mode := .run }
        mono := 7
        evt := { calm.evt with forced := 0x8000 } };
      s.sys.mode = .run ∧ s.pairSide = false ∧ s.blocked.testBit 15 = false
      ∧ Tab.get (fun _ => 0) s.evt.blkReq 15 ≠ s.mono ∧ s.evt.forced.testBit 15 = true
      ∧ s.evt.forced.testBit 0 = false ∧ s.evt.forced.testBit 14 = false)
    ∧ (let s : State := { calm.setWord K.PAIR_CTL 1 with
        sys := { calm.sys with mode := .run }
        cycle := 8
        shadow := { calm.shadow with rxCycle := 7 }
        pair := { calm.pair with role := .holder, lane := true }
        evt := { calm.evt with forced := 0x8000 } };
      s.pairSide = true ∧ s.pair.role = .holder ∧ s.pair.lane = true ∧ s.evt.forced.testBit 15 = true
      ∧ s.shadow.rxCycle = (s.cycle - 1).setWidth 48 ∧ s.shadow.pBlocked.testBit 15 = false
      ∧ s.blocked.testBit 15 = false)
    ∧ (let s : State := { calm.setWord K.PAIR_CTL 1 with
        sys := { calm.sys with mode := .run }
        cycle := 9
        shadow := { calm.shadow with rxCycle := 7 }
        pair := { calm.pair with role := .holder, lane := true } };
      s.pairSide = true ∧ s.pair.lane = true ∧ s.shadow.rxCycle ≠ (s.cycle - 1).setWidth 48)
    ∧ ({ sideA with pair := { sideA.pair with role := .out } } : State).pair.role = .out
    := by decide +kernel

theorem witness_TheJournalKeepsEventsAndLifetime :
    up.evt.lost = up.evt.lostSeen
    ∧ ({ up with evt := { up.evt with lost := 1 } } : State).evt.lost ≠ up.evt.lostSeen
    ∧ State.reset.sys.powered = false ∧ up.sys.powered = true ∧ baseBand up.baseTemp < 8 := by decide +kernel

theorem witness_ConversionsRunAndStore :
    State.reset.sys.powered = false ∧ up.sys.powered = true ∧ (up.conv 0).run = none
    ∧ ((up.setConv 3 { Conv.init with run := some 95 }).conv 3).run = some 95
    ∧ (let s := (up.setConv 0 { Conv.init with run := some 95 }).adcResult 95
        { AiRes.init with valid := true, adc := 3, slot := up.ai.slot };
      (s.conv 0).run = some 95 ∧ (s.aiRes 95).valid = true ∧ (s.aiRes 95).cycle = s.cycle.setWidth 48
      ∧ (s.aiRes 95).slot = s.ai.slot ∧ 0 < (s.aiRes 95).adc) := by decide +kernel

/-- `withString 0 up` with the header of cycle 0 accepted at port 0 and cell 0 as given. -/
def heard (c : Cell) : State :=
  ((withString 0 up).setStr 0 { Str.init with
    hdr := { ok := true, cycle := 0, hops := 4, dir := 0, slots := 4 } }).setCell 0 c

/-- A slot of 40 bytes in the state given, of cycle 0, whose check is correct. -/
def slotOf (st : Byte) : List Byte :=
  let body := padTo 38 [0x80 + st, 0, 0, 0]
  body ++ be 2 (crc16 body).toNat

theorem witness_TelemetryEntersAndIsCutOff :
    (let s := heard { Cell.init with samp := 0 }
     let h := (s.str 0).hdr;
      s.configured (s.basePort 0) = true ∧ 0 ∈ s.usedPorts (s.basePort 0) ∧ h.ok = true ∧ 0 < h.slots ∧ 3 < h.slots
      ∧ up.configured (up.basePort 63) = false ∧ slotValid h (slotOf 2) true = false ∧ slotValid h (slotOf 2) false = true
      ∧ s.enabled 3 = false ∧ s.enabled 0 = true ∧ s.occupied 0 = true
      ∧ s.mono - (s.cycle.setWidth 16 - h.cycle).toNat = 0 ∧ (s.cell 0).slot = [])
    ∧ (let s := heard { Cell.init with slot := slotOf 2 };
      s.mono - (s.cycle.setWidth 16 - (s.str 0).hdr.cycle).toNat ≤ (s.cell 0).samp ∧ (s.cell 0).slot ≠ [])
    ∧ (0 ∈ (heard Cell.init).allCells ∧ ((heard Cell.init).cell 0).fresh = false)
    ∧ up.enabled 3071 = false ∧ State.reset.sys.powered = false ∧ up.sys.powered = true
    ∧ (up.cell 3071).noSlot < W.LINK_LOSS_LOST_LIMIT (up.word K.LINK_LOSS)
    ∧ (let s := heard { Cell.init with noSlot := 255, adm := .found };
      s.enabled 0 = true ∧ (s.cell 0).lost = false ∧ (s.cell 0).adm ≠ .none
      ∧ W.LINK_LOSS_LOST_LIMIT (s.word K.LINK_LOSS) ≤ (s.cell 0).noSlot) := by decide +kernel

/-- Cell 0 in an admission step, the reply to its last request as given. -/
def admitting (step : Nat) (reply : List Byte) : State :=
  (heard { Cell.init with slot := slotOf 2, adm := .found }).setMg 0
    { Mgmt.init with step := step, op := 5, seenReply := reply }

/-- A pre-charge of the stacks of `mask` runs; stack `k` is in the phase given, its criterion held. -/
def precharging (mask k ty phase : Nat) : State :=
  let s := (upIn .charging).setWord (K.STACK_CFG k) (at_ ty 4 ||| at_ 1 0)
  let s := s.setSchStack k { SchStack.init with phase := phase, phaseRun := 100 }
  { s with cmd := { s.cmd with ops := [{ opOf 0x20 0 with arg := mask }] } }

theorem witness_AdmissionStepsAndPrechargePhases :
    (let s := (withString 0 up).setStr 0 { Str.init with enumOp := 5, enumLeft := [0] };
      (s.str (s.cellPort 0)).enumOp ≠ 0 ∧ 0 - 48 * s.cellPort 0 ∈ (s.str (s.cellPort 0)).enumLeft)
    ∧ (let s := admitting 1 [1, 0, 0, 0, 0, 0, 0, 9]
       let m := s.mg 0; m.step = 1 ∧ m.done 1 = true ∧ s.admitMatches 0 (BitVec.ofNat 32 (beAt m.seenReply 4 4)) = true)
    ∧ (let s := (admitting 2 [2, 0, 0]).setEcho 0 { Echo.init with arr := some 7 };
      (s.mg 0).step = 2 ∧ (s.mg 0).done 2 = true ∧ s.measured (s.cellPort 0) 0 = true)
    ∧ (let s := admitting 3 [3, 0, 0, 0, 0, 0, 0, 0, 1];
      (s.mg 0).step = 3 ∧ (s.mg 0).done 3 = true ∧ beAt (s.mg 0).seenReply 8 1 = nextEpoch (s.cell 0).epoch)
    ∧ up.preOp = none ∧ (up.str 63).enumOp = 0
    ∧ (let s := admitting 1 [1, 0, 0, 0, 0, 0, 0, 9];
      (s.mg 0).since + 1000 * W.LINK_LOSS_ADMIT_TMO (s.word K.LINK_LOSS) > s.mono)
    ∧ (let s := (precharging 3 1 3 2).setSchStack 0 { SchStack.init with phase := 1 }
       let o : OpRec := { opOf 0x20 0 with arg := 3 };
      s.preOp = some o ∧ (s.schStack 1).phase = 2 ∧ 100 ≤ (s.schStack 1).phaseRun ∧ 0 ∈ o.stacks
        ∧ (s.schStack 0).phase ≠ 0)
    ∧ (let s := admitting 4 []; (s.mg 0).step = 4 ∧ slotState (s.cell 0).slot = 2 ∧ (s.cell 0).noSlot = 0)
    ∧ (up.mg 3071).step = 0 ∧ 5 ≤ ((admitting 5 []).mg 0).step
    ∧ (let s : State := { admitting 5 [] with mono := 3000000 };
      (s.mg 0).step ≠ 0 ∧ s.inPrecharge 0 = false
      ∧ (s.mg 0).since + 1000 * W.LINK_LOSS_ADMIT_TMO (s.word K.LINK_LOSS) ≤ s.mono)
    ∧ (let s : State := { precharging 1 0 3 1 with mono := 60000000 }
       let o : OpRec := { opOf 0x20 0 with arg := 1 };
      s.preOp = some o ∧ s.sys.mode = .charging ∧ o.last + 100000 * W.SYS_PRE_TMO (s.word K.SYS_PRE) ≤ s.mono)
    ∧ (let s := (withString 0 up).setStr 0 { Str.init with enumOp := 5 };
      (s.str 0).enumOp ≠ 0 ∧ (s.str 0).enumLeft = []
      ∧ ∀ ci ∈ s.stringCells 0, (s.cell ci).adm = .found → s.measured 0 ci = true)
    ∧ (let s := precharging 3 1 3 1
       let o : OpRec := { opOf 0x20 0 with arg := 3 };
      s.preOp = some o ∧ s.sys.mode = .charging ∧ o.arg.testBit 1 = true ∧ (s.schStack 1).phase = 1
      ∧ 100 ≤ (s.schStack 1).phaseRun ∧ s.stackType 1 = 3)
    ∧ (let s := precharging 0x8000 15 3 2
       let o : OpRec := { opOf 0x20 0 with arg := 0x8000 };
      s.preOp = some o ∧ o.arg.testBit 15 = true ∧ (s.schStack 15).phase ≠ 0 ∧ (s.schStack 15).phase ≠ 1
      ∧ 100 ≤ (s.schStack 15).phaseRun ∧ ∀ j ∈ o.stacks, j ≠ 15 → (s.schStack j).phase = 0) := by decide +kernel

theorem witness_TheCycleBoundaryAdvancesTheClock :
    State.reset.sys.powered = false ∧ up.sys.powered = true ∧ up.nextW = [] ∧ sideA.pairSide = true := by decide +kernel

/-! ## The Inkwell and its engine -/

/-- A chain of channel 4. -/
def chain (phase addr count : Nat) (desc : List Byte) : Chain :=
  { ch := 4, head := 0x1800000, addr := addr, desc := desc, phase := phase, count := count, moved := 0, cancel := false }

/-- `up` with a chain under way that holds the port. -/
def chained (phase addr count : Nat) (desc : List Byte) : State :=
  ({ up with ink := { up.ink with hold := some 6 } } : State).setDma
    { up.ink.dma with run := some (chain phase addr count desc) }

/-- A last descriptor that copies 128 bytes of pattern to the host's area. -/
def patternDesc : List Byte :=
  [0x88, 0, 0, 0] ++ be 4 0 ++ be 4 0x1800100 ++ be 4 128 ++ List.replicate 16 0

theorem witness_TheInkwellArbitratesAndScrubs :
    ({ up with ink := { up.ink with hold := some 6 } } : State).ink.hold ≠ none ∧ up.ink.hold = none
    ∧ (let u := (List.range 7).foldl (fun (s : State) (i : Nat) =>
        s.setArb i (if up.requests 0 i then { s.arb i with req := true } else Arb.init)) up.silent;
      (List.range 7).filter u.eligible = [])
    ∧ (let u := (List.range 7).foldl (fun (s : State) (i : Nat) =>
        s.setArb i (if up.requests 1 i then { s.arb i with req := true } else Arb.init)) up.silent;
      (List.range 7).filter u.eligible ≠ [])
    ∧ (let s : State := { up with ink := { up.ink with
        hold := some 1, blot := { up.ink.blot with fifo := [(0, [1])] } } };
      s.ink.hold = some 1 ∧ s.ink.blot.fifo = (0, [1]) :: [])
    ∧ ({ up with ink := { up.ink with hold := some 6 } } : State).ink.hold ≠ some 1
    ∧ (up.ink.cimScrubs < up.scrubGrant true ∧ up.ink.scrubs < up.scrubGrant false
      ∧ ({ up with ink := { up.ink with hold := some 5 } } : State).portOpen 5 = true)
    ∧ ¬ ({ up with ink := { up.ink with cimScrubs := 16 } } : State).ink.cimScrubs < up.scrubGrant true
    ∧ (let s : State := { up.setWord K.ARB_CTL 0xACE10001 with mono := 10001 };
      s.frozen = true ∧ s.ink.freezeAt + 10000 < s.mono)
    ∧ up.ink.scrubInk ∉ up.ink.poison ∧ inkRegion (up.ink.scrubInk * 128) ≠ 1 ∧ up.ink.scrubCim ∉ up.ink.cimPoison
    ∧ (up.setWord K.ARB_CTL 0xACE10001).frozen = true ∧ up.frozen = false := by decide +kernel

theorem witness_ChainsRunDescriptorByDescriptor :
    up.ink.dma.run = none
    ∧ (let c := chain 0 0x1800000 1 [];
      (chained 0 0x1800000 1 []).ink.dma.run = some c ∧ (chained 0 0x1800000 1 []).portOpen 6 = true
      ∧ (chained 0 0x1800000 1 []).ink.hold = some 6 ∧ up.portOpen 6 = false ∧ up.ink.hold ≠ some 6 ∧ c.phase = 0
        ∧ c.count ≠ 0 ∧ c.addr = c.head)
    ∧ (let s := chained 0 0x1800020 65535 [];
      W.DMA_CTL_CHAIN_MAX (s.word K.DMA_CTL) ≤ 65535 ∧ (0x1800020 : Nat) ≠ 0x1800000)
    ∧ (let s := (up.inkWrite 0x1800000 patternDesc).setDma { up.ink.dma with run := some (chain 0 0x1800000 0 []) };
      (0 : Nat) < W.DMA_CTL_CHAIN_MAX (s.word K.DMA_CTL) ∧ s.inkPoisoned (0x1800000 / 128) = false
      ∧ descAt 4 0x1800000 = true ∧ descBad 4 (s.inkBytes 0x1800000 32) = false)
    ∧ (let s := chained 0 0x17FFFE0 0 [];
      descAt 4 0x17FFFE0 = false ∧ (0 : Nat) < W.DMA_CTL_CHAIN_MAX (s.word K.DMA_CTL))
    ∧ (let s := chained 1 0x1800000 0 patternDesc
       let b := burstOf patternDesc 0
       let u := s.silent.burstBad patternDesc b.1 b.2 none 0;
      u.burstPoisoned patternDesc b.1 b.2 = false ∧ b.2 = 128)
    ∧ (chain 2 0x1800000 0 patternDesc).phase = 2
    ∧ patternDesc ≠ []
    ∧ up.ink.blot.st = 0 ∧ (capture 3).ink.blot.st = 3
    ∧ (capture 3).cycle.toNat % 2 ^ W.BLOT_CTL_DIV ((capture 3).word K.BLOT_CTL) = 0
    ∧ (let s : State := { capture 3 with ink := { (capture 3).ink with
        blot := { (capture 3).ink.blot with fifo := List.replicate 8 (0, []) } } };
      8 ≤ s.ink.blot.fifo.length ∧ s.ink.blot.total = 0)
    ∧ (capture 3).ink.blot.total = 0 ∧ (capture 3).ink.blot.fifo.length < 8 := by decide +kernel

/-! ## The network, the buses, the island of safety -/

/-- `up` with an address at port 0. -/
def netUp : State := up.setWord (K.PORT_IP 0) 0xC0A8FF01

theorem witness_TheNetworkFiltersAndAnswers :
    netUp.portIp 0 ≠ 0 ∧ (frame .arp).len ≤ 1522
    ∧ (let f := { frame .arp with fcs := false }; netUp.frameOk 0 f = false ∨ netUp.ipOk 0 f = false)
    ∧ (let f := frame (.udp 51401 51400 true [1]);
      netUp.frameOk 0 f = true ∧ netUp.ipOk 0 f = true ∧ f.body = .udp 51401 51400 true [1] ∧ ((0 : Fin 3) : Nat) < 2)
    ∧ (let f := frame (.udp 51402 51402 true []); netUp.frameOk 0 f = true ∧ netUp.ipOk 0 f = true)
    ∧ (let f := frame (.udp 7 7 false []); netUp.frameOk 0 f = true ∧ netUp.ipOk 0 f = true)
    ∧ (let f := { frame (.ptpOther []) with len := 1522, ip := false, dst := .ptp };
      f.len ≤ 1522 ∧ netPtp f.body = true ∧ up.frameOk 1 f = true ∧ up.ipOk 1 f = true)
    ∧ (frame (.ptpOther [])).len + 1459 = 1523 ∧ up.portIp 2 = 0
    ∧ (let s := netUp.setWord (K.PORT_GW 0) 1;
      s.reachable 0 5 = true ∧ Tab.get (fun _ => 0) s.silent.netSecond.net.echoes 0 < 64)
    ∧ (let s : State := { netUp.setWord (K.PORT_GW 0) 1 with net := { netUp.net with echoes := [(0, 64)] } };
      s.reachable 0 5 = true ∧ 64 ≤ Tab.get (fun _ => 0) s.silent.netSecond.net.echoes 0) := by decide +kernel

/-- A Sync or Follow_Up of a source, and an Announce of one. -/
def msg (two : Bool) : PtpMsg := { domain := 0, src := 5, seq := 1, interval := -3, twoStep := two, corr := 0, offset := 3 }
def ann (cls : Nat) : PtpAnn :=
  { domain := 0, src := 5, gm := 6, prio1 := 128, cls := cls, accuracy := 0, variance := 0, prio2 := 128, steps := 254,
    utc := 37, interval := 0 }

/-- `netUp` with PTP on port 0 and no transparent clock. -/
def ptpUp : State := netUp.setWord K.PTP_CTL 0x00F80001

theorem witness_PtpFollowsAndForwards :
    ptpUp.forwards = false ∧ (msg false).twoStep = false ∧ (msg true).twoStep = true
    ∧ (ptpUp.ptpPort 0).syncs.find?
        (fun e => decide (e.1.src = (msg true).src ∧ e.1.domain = (msg true).domain ∧ e.1.seq = (msg true).seq)) = none
    ∧ (let s := ptpUp.setPtpPort 0 { PtpPort.init with syncs := [(msg true, 0)] };
      (s.ptpPort 0).syncs.find?
        (fun e => decide (e.1.src = (msg true).src ∧ e.1.domain = (msg true).domain ∧ e.1.seq = (msg true).seq))
        = some (msg true, 0))
    ∧ netUp.forwards = true ∧ (up.setWord K.PTP_CTL 0).ptpOn 1 = false
    ∧ ptpUp.qualifies 0 { ann 248 with interval := 1 } = false ∧ ptpUp.qualifies 0 (ann 249) = false
      ∧ ptpUp.qualifies 0 (ann 248) = true
    ∧ ptpUp.ptpOn 0 = true ∧ ptpUp.portIp 0 ≠ 0
    ∧ (let s := ptpUp.setPtpPort 0 { PtpPort.init with waiting := true, missed := 2, seq := 9 };
      (s.ptpPort 0).waiting = true ∧ 2 ≤ (s.ptpPort 0).missed ∧ (s.ptpPort 0).seq = 9)
    ∧ (ptpUp.ptpPort 0).waiting = false := by decide +kernel

/-- A planned launch. -/
def launch : Launch := { tick := 0, cls := 1, ip := 5, dport := 51402, bytes := [] }

/-- `up` with controller `c` on and as given. -/
def canUp (c : Nat) (x : Can) : State := (up.setWord (K.CAN_CTL c) 0xA0000000).setCan c x

theorem witness_LaunchesStreamsAndTheAuxBusRun :
    (let s : State := { netUp with net := { netUp.net with launches := [(0, [launch])] } };
      Tab.get (fun _ => []) s.net.launches 0 = launch :: [] ∧ launch.tick ≤ s.ticks 0 ∧ s.portIp 0 ≠ 0
      ∧ s.ticks 0 + 0 ≤ s.launchLimit launch ∧ s.launchLimit launch < s.ticks 0 + 62500
      ∧ s.ticks 0 < { launch with tick := 1 }.tick)
    ∧ (up.stream 0).run = false
    ∧ (let s := (up.setWord (K.STRM_CTL 3) 0x82000000).setStream 3 { Strm.init with run := true };
      (s.stream 3).run = true ∧ W.STRM_CTL_EN (s.strmCtl 3) = true
      ∧ s.cycle.toNat % 2 ^ W.STRM_CTL_DIV (s.strmCtl 3) = 0
      ∧ (s.stream 3).batch.length + 1 < W.STRM_CTL_BATCH (s.strmCtl 3)
      ∧ W.STRM_CTL_BATCH (s.strmCtl 3) ≤ (List.replicate 255 ([] : List Byte)).length + 1)
    ∧ (let s := up.setStream 0 { Strm.init with run := true, owner := 8 };
      (s.stream 0).run = true ∧ s.sidOpen (s.stream 0).owner = false)
    ∧ (let s := ((canUp 1 { Can.init with pend := [(15, [1])] }).setWord (K.CAN_MATRIX 1) 0x40).setWord (K.CAN_SLOT 1 15)
        0x80000000;
      s.canOn 1 = true ∧ s.canRom 1 = false ∧ (s.canOf 1).tx = none ∧ s.mayOffer 1 15 = true
      ∧ W.CAN_SLOT_WIN (s.canSlot 1 15) = false)
    ∧ (up.canOf 0).tx = none ∧ up.canOn 0 = false ∧ (up.canOf 1).busOff = false
    ∧ (let s := (((canUp 0 Can.init).setWord (K.CAN_SLOT 0 3) (at_ 1 30)).setWord (K.CAN_ID 0 3) 5);
      s.canMatch 0 (canf false 5 [1]) = some 3 ∧ W.CAN_SLOT_KIND (s.canSlot 0 3) = 1)
    ∧ ((canUp 0 { Can.init with tx := some (15, [1]) }).canOf 0).tx = some (15, [1])
    ∧ ((canUp 0 Can.init).canOn 0 = true ∧ (canUp 0 Can.init).canRom 0 = false)
    ∧ ((canUp 0 { Can.init with busOff := true }).canOf 0).busOff = true
    ∧ (canUp 0 { Can.init with busOff := true }).canEn 0 = true
    ∧ (W.CAN_CTL_FD ((canUp 0 Can.init).canCtl 0) = true ∧ (canUp 0 Can.init).canMatch 0 (canf true 5 [1]) = none)
    ∧ (((canUp 0 { Can.init with bufs := [(0, { RxBuf.init with lock := some 0 })] }).canOf 0).buf 0).lock ≠ none
    ∧ (let s : State := { canUp 0 { Can.init with bufs := [(0, { RxBuf.init with lock := some 0 })] } with mono := 100000 };
      ((s.canOf 0).buf 0).lock ≠ none ∧ ((s.canOf 0).buf 0).lockAt + 100000 ≤ s.mono)
    := by decide +kernel

/-- `up` with the island in the state given and both channels as given. -/
def island (st : Nat) (c : SafCh) : State := { up with saf := { up.saf with island := st, chA := c, chB := c } }

theorem witness_SafetyInputsMakeDemands :
    (let s := island islRun { SafCh.reset with stb := fnDemand, spb := fnDemand };
      s.saf.island = islRun ∧ (s.saf.ch 0).stb = fnDemand ∧ (s.saf.ch 1).spb = fnDemand)
    ∧ up.saf.pulse = none ∧ ({ up with saf := { up.saf with pulse := some 1 } } : State).saf.pulse = some 1
    ∧ ({ up with mono := 100000000 } : State).inPulseDue 0 = true
    ∧ ({ up with saf := { up.saf with pulse := some 1 } } : State).inPulseDue 0 = false ∧ up.inPulseDue 1 = false
    ∧ ({ up with mono := 100000000, saf := { up.saf with tpbDue := true } } : State).inPulseDue 1 = true
    ∧ up.saf.pulse ≠ some 1 ∧ up.saf.island ≠ islRun
    ∧ (let s : State := { (island islRun { SafCh.reset with srst := true }).setWord K.SAF_CTL 0 with mono := 1000001 };
      W.SAF_CTL_RST_MODE (s.word K.SAF_CTL) = false ∧ s.saf.chA.srst = true ∧ s.saf.chA.srstAt + 1000000 < s.mono)
    ∧ (up.saf.chA.srst = false ∧ up.saf.chB.srst = false) := by decide +kernel

theorem witness_SafetyFaultsStopTheOutputs :
    (let s := withString 0 (island islStart SafCh.reset);
      (s.islandsOf (s.channelMask (s.saf.ch 0))).testBit 0 = true
      ∧ (s.islandsOf (s.channelMask (s.saf.ch 0))).testBit 7 = false)
    ∧ ([(0, 0), (0, 0), (0, 0), (0, 0)] : List (BitVec 16 × BitVec 16)).length = 4
    ∧ readbackBad ((up.saf.ch 0).cmd.testBit 0) 0 0 240 = false
    ∧ (let s := island islRun { SafCh.reset with bad := [(3, 2)] };
      Tab.get (fun _ => 0) s.saf.tp 3 = 0
      ∧ readbackBad ((s.saf.ch 0).cmd.testBit 3) 121 0 240 = true ∧ 2 ≤ Tab.get (fun _ => 0) (s.saf.ch 0).bad 3)
    ∧ (let s := (island islRun { SafCh.reset with cmd := 8 }).setWord (K.SO_CFG 3) 0x80000100;
      s.saf.energised.testBit 3 = true ∧ ({ s with mono := 100000000 } : State).outPulseDue 3 0 = true
      ∧ ({ s with mono := 1000, saf := { s.saf with tpB := 8 } } : State).outPulseDue 3 1 = true
      ∧ ({ s with mono := 999, saf := { s.saf with tpB := 8 } } : State).outPulseDue 3 1 = false)
    ∧ ([(0, 0), (0, 0), (0, 0), (121, 0)] : List (BitVec 16 × BitVec 16))[(3 : Nat)]? = some (121, 0)
    ∧ up.saf.energised.testBit 0 = false
    ∧ Tab.get (fun _ => 0) ({ up with saf := { up.saf with tp := [(3, 2)] } } : State).saf.tp 3 = ((1 : Fin 2) : Nat) + 1
    ∧ Tab.get (fun _ => 0) up.saf.tp 0 ≠ ((0 : Fin 2) : Nat) + 1
    ∧ ({ up with saf := { up.saf with sovOk := true } } : State).saf.sovOk = true ∧ up.saf.sovOk = false
    ∧ ({ up with saf := { up.saf with sovLost := true } } : State).saf.sovLost = true := by decide +kernel

/-- A frame of connection 0 with the ID, the sequence number and SAFE given, whose check is correct. -/
def safeBytes (id sq : Word) (ty : Byte) : List Byte :=
  let body := wordBytes id ++ wordBytes sq ++ [0, 0, ty, 0, 0, 3, 0, 0] ++ be 4 0
  body ++ wordBytes (crcSafe body)

/-- Connection 0 enabled in a direction, both channels in RUN, with what each keeps of it. -/
def linked (dir : Bool) (x : Sfl) : State :=
  (island islRun { SafCh.reset with sfl := [(0, x)] }).setWord (K.SFL_CFG 0) (at_ 1 31 ||| at_ (b2n dir) 30)

/-- `s` with a safe frame in the mailbox of connection 0. -/
def State.mailed (s : State) (b : List Byte) : State := { s with net := { s.net with mail := [(0, b)] } }

theorem witness_SafetyResetLinkAndFrames :
    up.saf.island ≠ islRun
    ∧ (let s := island islRun SafCh.reset;
      s.saf.island = islRun ∧ s.isActive 0x0A0E 0 = false ∧ s.resetAsked = false ∧ s.saf.chA.spb = s.saf.chB.spb
        ∧ s.saf.chA.stb = s.saf.chB.stb
      ∧ s.saf.chA.cmd = s.saf.chB.cmd)
    ∧ (let s : State := { up with saf := { up.saf with chA := { SafCh.reset with cmd := 1 }, crossRun := 2 } };
      s.saf.chA.cmd ≠ s.saf.chB.cmd ∧ 2 ≤ s.saf.crossRun)
    ∧ (let s := island islRun { SafCh.reset with srst := true, srstRise := some 0 };
      s.saf.island = islRun ∧ s.isActive 0x0A0E 0 = false ∧ (s.setWord K.SAF_CTL 0).resetAsked = true)
    ∧ up.saf.crossRun < 2 ∧ State.reset.sys.powered = false
    ∧ (W.SO_CFG_EN ((up.setWord (K.SO_CFG 3) 0x80000000).soCfg 3) = true ∧ (8 : BitVec 4).getLsbD 3 = true
      ∧ W.SI_CFG_EN ((up.setWord (K.SI_CFG 7) 0x80000000).siCfg 7) = true ∧ (0x80 : Byte).getLsbD 7 = true)
    ∧ (up.saf.island = islStart ∧ up.sys.powered = true) ∧ (island islRun SafCh.reset).saf.island ≠ islStart
    ∧ (let s := linked false { Sfl.init with run := true, last := some 0xFFFFFFF0 };
      s.saf.island = islRun ∧ s.consumed 0 = true ∧ up.consumed 0 = false ∧ safeFrameOk [] = false
      ∧ Tab.get (fun _ => []) (State.mailed s (safeBytes 0 0 1)).net.mail 0 = safeBytes 0 0 1
      ∧ (let z := { s with mono := W.SFL_CFG_TEXP (s.sflCfg 0) * 100 };
        ((z.saf.ch 0).conn 0).since + W.SFL_CFG_TEXP (z.sflCfg 0) * 100 ≤ z.mono)
      ∧ ((0 : Word) - 0xFFFFFFEF).toNat = 17
      ∧ safeFrameOk (safeBytes 1 0 1) = true ∧ BitVec.ofNat 32 (beAt (safeBytes 1 0 1) 0 4) ≠ s.word (K.SFL_ID 0)
      ∧ safeFrameOk (safeBytes 0 0 1) = true ∧ BitVec.ofNat 32 (beAt (safeBytes 0 0 1) 0 4) = s.word (K.SFL_ID 0)
      ∧ beAt (safeBytes 0 0 1) 8 2 = W.SFL_CFG_TEXP (s.sflCfg 0)
      ∧ ((s.saf.ch 0).conn 0).last = some 0xFFFFFFF0 ∧ ((s.saf.ch 0).conn 0).run = true
      ∧ 1 ≤ ((0 : Word) - 0xFFFFFFF0).toNat ∧ ((0 : Word) - 0xFFFFFFF0).toNat ≤ 16)
    ∧ (let s := linked false { Sfl.init with fault := true, last := some 0xFFFFFFFF };
      ((s.saf.ch 1).conn 0).last = some 0xFFFFFFFF ∧ ((s.saf.ch 1).conn 0).run = false ∧ (0 : Word) - 0xFFFFFFFF = 1
      ∧ (1 : Word) - 0xFFFFFFFF ≠ 1 ∧ ((linked false Sfl.init).saf.ch 0 |>.conn 0).last = none)
    ∧ (let s := linked true Sfl.init;
      s.produced 0 = true ∧ s.frameDue 0 = true ∧ up.produced 0 = false
        ∧ Tab.get (fun _ => (0 : Word)) s.saf.sent 0 + 1 = 1
      ∧ s.safeFrame s.saf.chA 0 1 = s.safeFrame s.saf.chB 0 1)
    ∧ (let s := linked true Sfl.init
       let s : State := { s with saf := { s.saf with chA := { s.saf.chA with spb := 0 } } };
      s.safeFrame s.saf.chA 0 1 ≠ s.safeFrame s.saf.chB 0 1) := by decide +kernel

/-! ## The pair, the first event, reading pages -/

/-- Side A of a pair in the role given, changed by `f`. -/
def pairIn (r : Role) (f : Pair → Pair) : State := { sideA with pair := f { sideA.pair with role := r } }

theorem witness_PathsAndTheTokenOfThePair :
    (pairIn .standby fun p => { p with quill := true, lane := true }).pairSide = true
    ∧ (pairIn .standby fun p => { p with quill := true, lane := true }).pair.quill = true
    ∧ (pairIn .standby fun p => { p with quill := true, lane := true }).pair.lane = true
    ∧ (pairIn .holder id).mayDeclare = false ∧ (pairIn .standby id).mayDeclare = true
    ∧ (let s : State := { (pairIn .standby fun p => { p with bothLost := some 0 }).setWord K.PAIR_CTL 3 with mono := 1 };
      s.pairSide = true ∧ s.mayDeclare = true ∧ W.PAIR_CTL_DETECT (s.word K.PAIR_CTL) = true ∧ s.pair.quill = false
      ∧ s.pair.lane = false ∧ s.pair.bothLost = some 0 ∧ 0 + 18750 ≤ s.ticks 0)
    ∧ (pairIn .standby fun p => { p with bothLost := some 0 }).ticks 18749 < 0 + 18750
    ∧ up.pairSide = false ∧ (pairIn .standby id).laneGone = true
    ∧ (pairIn .standby id).pair.bothLost = none
    ∧ (pairIn .holder fun p => { p with tokOut := true }).pair.tokOut = true
    ∧ ((pairIn .standby id).pair.tokOut = false ∧ (pairIn .standby id).claimCase false = none)
    ∧ ((pairIn .wait id).pair.tokOut = false ∧ (pairIn .wait id).claimCase false = some .start)
    ∧ (pairIn .holder fun p => { p with tokOut := true }).sideB = false
    ∧ (((pairIn .holder fun p => { p with tokOut := true }).setWord K.PAIR_ID 1).sideB = true)
    ∧ (let s : State := { pairIn .holder fun p => { p with tokOut := true, pReady := true } with
        pairOps := { sideA.pairOps with handover := some 1 } };
      s.pair.role = .holder ∧ s.pair.tokOut = true ∧ s.pairOps.handover = some (s.mono + 1) ∧ s.pair.pReady = true)
    ∧ (pairIn .holder id).pair.pReady = false ∧ (pairIn .holder id).pairOps.handover = none
    ∧ (let s : State := { pairIn .holder fun p => { p with tokOut := true } with
        pairOps := { sideA.pairOps with handover := some 2 } };
      s.pairOps.handover = some 2 ∧ s.mono + 1 < 2)
    ∧ (let s : State := { pairIn .holder fun p => { p with tokOut := true, pReady := true } with
        mono := 5, pairOps := { sideA.pairOps with handover := some 1 } };
      s.pairOps.handover = some 1 ∧ 1 ≤ s.mono + 1 ∧ 1 ≠ s.mono + 1)
    ∧ ((pairIn .wait fun p => { p with tokIn := true }).pair.tokOut = false
      ∧ (pairIn .wait id).claimCase true = none)
    ∧ (let s := (pairIn .standby fun p => { p with ready := true }).setWord K.PAIR_CTL 0x105;
      s.sideB = false ∧ s.pair.role = .standby ∧ s.pair.ready = true ∧ W.PAIR_CTL_AUTO_REV (s.word K.PAIR_CTL) = true
      ∧ s.pair.revLock = false
      ∧ (let z := { s with mono := W.PAIR_CTL_HOLDOFF (s.word K.PAIR_CTL) * 100000 };
        z.pair.readyAt + W.PAIR_CTL_HOLDOFF (z.word K.PAIR_CTL) * 100000 ≤ z.mono)
      ∧ s.reversions < W.PAIR_CTL_REV_MAX (s.word K.PAIR_CTL))
    ∧ (let s := (pairIn .standby fun p => { p with ready := true }).setWord K.PAIR_CTL 5;
      W.PAIR_CTL_REV_MAX (s.word K.PAIR_CTL) ≤ s.reversions) := by decide +kernel

theorem witness_PartnerFramesRecordsAndJoining :
    (pairIn .holder id).pairSide = true ∧ (pairIn .holder id).bond.active = 0
    ∧ (let s : State := { pairIn .holder id with bond := { sideA.bond with active := 15 } };
      s.sys.live = true ∧ s.bond.active ≠ 0)
    ∧ (let s : State := (List.range 4).foldl (fun (s : State) (i : Nat) =>
        s.setLane (64 + i) { Lane.init with state := 5, sync := true })
        { pairIn .holder id with bond := { sideA.bond with active := 15 } };
      s.bondCarries = true ∧ s.pairSide = true ∧ s.pair.role = .holder) ∧ (pairIn .standby id).bondCarries = false
    ∧ (pairIn .joining id).shadow.join ≠ 2 ∧ (pairIn .holder id).pairOps.records = []
    ∧ (pairIn .out id).pair.role = .out ∧ (pairIn .holder id).pair.role = .holder
    ∧ (pairIn .standby id).pair.role ≠ .out ∧ (pairIn .standby id).pair.role ≠ .joining
    ∧ (let s : State := { pairIn .joining id with shadow := { sideA.shadow with join := 1, imageCyc := some 5 } };
      s.pair.role = .joining ∧ s.shadow.join = 1 ∧ s.shadow.imageCyc = some 5)
    ∧ (let s : State := { pairIn .joining id with shadow := { sideA.shadow with join := 2, lag := 0 } };
      s.pair.role = .joining ∧ s.shadow.join = 2 ∧ s.shadow.lag = 0)
    ∧ (let s : State := { pairIn .joining id with shadow := { sideA.shadow with join := 2, lag := 15 } };
      s.shadow.lag ≠ 0) := by decide +kernel

theorem witness_TheFirstEventIsCaptured :
    (up.evt.feValid = false ∧ 2 ≤ (classOf 0x0303).code ∧ up.isActive 0x0303 3071 = false)
    ∧ (2 ≤ (classOf 0x0302).code ∧ (up.raise 0x0303 3071 0 5).isActive 0x0302 0 = false
      ∧ (up.raise 0x0303 3071 0 5).isActive 0x0303 3070 = false ∧ up.evt.feValid = false)
    ∧ (let s := up.raise 0x0303 7 0 5;
      s.evt.feValid = true ∧ s.evt.feCyc = BitVec.ofNat 32 (s.cycle.toNat >>> 16)
      ∧ s.evt.feTick = (at_ (s.cycle.toNat % 65536) 16 ||| at_ 5 0)
      ∧ field s.evt.feInfo 15 0 * 4096 + field s.evt.feInfo 27 16 ≤ 0x0303 * 4096 + 8
      ∧ s.isActive 0x0303 8 = false ∧ s.evt.feTick ≠ (at_ (s.cycle.toNat % 65536) 16 ||| at_ 6 0)
      ∧ s.isActive 0x0303 7 = true)
    ∧ ({ up with evt := { up.evt with feValid := true } } : State).evt.feValid = true ∧ (classOf 0x0003).code < 2
    := by decide +kernel

theorem witness_PageGetReadsTheValuesInForce :
    (open2.Accepts req 0 ∧ ([0, 1, 255, 1] : List Byte).length = 4
      ∧ pageExists (beAt ([0, 1, 255, 1] : List Byte) 0 2) = true
      ∧ beAt ([0, 1, 255, 1] : List Byte) 2 1 + beAt ([0, 1, 255, 1] : List Byte) 3 1 ≤ 256)
    ∧ wordRow 1 0xFF = none ∧ ((wordRow 2 0xE0).map fun r => r.acc) = some .wo
    ∧ (inTxn [] none).cmd.txn = some (txnOf [] none) := by
  unfold State.Accepts; decide +kernel

/-! ## A few commands with the result of the spec -/

/-- What a step answers, where it answers a next state. -/
def after (c : Instr) (s : State) : Option State :=
  match step { s with pending := [c] } with
  | .next t => some t
  | _ => none

theorem test_step_takes_the_front (c : Instr) (s : State) : step { s with pending := [c] } = exec c { s with pending := [] } :=
  rfl

/-- R55, R308: the first event since reset has SEQ 1 and its cycle and tick. -/
theorem test_first_entry_has_sequence_one :
    (after (.baseplateHotTimer 40) { up with cycle := 7 }).map
        (fun t => t.evt.queue.map fun e => (e.code, e.seq, e.cycle, e.tick))
      = some [(0x00E5, 1, 7, 40)] := by decide +kernel

/-- R120: a short enters FAULT and records where it happened. -/
theorem test_short_enters_fault :
    (after (.nibShortDetect 0 7 false 300) (nibIs 0 nsAdmitted fun x => { x with levels := [(0, true)] })).map
      (fun t => ((t.nib 0).state, (t.nib 0).levels, (t.aux 0).sc)) = some (nsFault, [], [0x80, 1, 44, 2]) := by decide +kernel

/-- R107, R115: a nib raises HOPS, adds its residence to CORR and keeps the check correct. -/
theorem test_forwarded_header :
    (let h := forwardHdr (header 1 4 96 2) 10 true; (hdrHops h, hdrCorr h, hdrOk h)) = (3, 10, true) := by decide +kernel

/-- R109: an edge record's fields from the bits of its word: offset 0x1234, switch 5, on, gate 10, tag 0xC3. -/
theorem test_edge_record_fields :
    edgeOf 0b00010010001101001011101011000011 = { offset := 0x1234, sw := 5, level := true, gate := 10, tag := 0xC3 } := by
  decide +kernel

/-- The check value of CRC-32C over "123456789". -/
theorem test_crc32c_check : crc32c [0x31, 0x32, 0x33, 0x34, 0x35, 0x36, 0x37, 0x38, 0x39] = 0xE3069283 := by decide +kernel

/-- The check value of the unreflected CRC-16 that starts at 0xFFFF over "123456789". -/
theorem test_crc16_check : crc16 [0x31, 0x32, 0x33, 0x34, 0x35, 0x36, 0x37, 0x38, 0x39] = 0x29B1 := by decide +kernel

/-- R435: bits 15, 13, 12 and 10 of 0xACE1 add to 1, which enters at bit 0. -/
theorem test_lfsr_step : lfsrStep 0xACE1 = 0x59C3 := by decide +kernel

/-- R387: a word set for the next cycle is not in force before the boundary and is after it. -/
theorem test_next_cycle_word :
    (let s := open2
     let e : Env := { baseT := 0, feedA := 0, feedB := 0, drift := [], incomplete := [] }
     let t := after (.laneCtlWrite req 0 1) s
     (t.map fun t => t.word (K.LANE_CTL 0), (t.bind (after (.cycleBoundary e))).map fun t => t.word (K.LANE_CTL 0)))
      = (some (open2.word (K.LANE_CTL 0)), some 1) := by decide +kernel

/-- R384: a session of role MONITOR may not command: the word is not taken. -/
theorem test_monitor_may_not_write :
    (after (.laneCtlWrite req 0 1) (withSess 0 up)).map (fun t => (t.nextW, decide ((t.sess 0).reply.length ≠ 0)))
      = some ([], true) := by
  decide +kernel

/-- R441: a chain whose only descriptor copies a pattern writes it where TO says. -/
theorem test_burst_writes_the_pattern :
    (after (.dmaBurstComplete none 0)
      (chained 1 0x1800000 0 (patternDesc.take 20 ++ [0xDE, 0xAD, 0xBE, 0xEF] ++ List.replicate 8 0))).map
      (fun t => (t.inkBytes 0x18000FE 6)) = some [0, 0, 0xDE, 0xAD, 0xBE, 0xEF] := by decide +kernel

end Sys2Proof.Tests
end

section
/-! PROOFS. The first-error capture (R309): what its four words hold after a raise, and the obligation about them. -/

namespace Sys2Proof.Machine

/-! ## The words of the capture -/

/-- What FE_INFO with its VALID bit, FE_CYC, FE_TICK and FE_DETAIL hold. -/
@[ext] structure FirstError where
  valid : Bool
  info : Word
  cyc : Word
  tick : Word
  detail : Word

/-- The capture as it stands among the events. -/
def Evt.first (e : Evt) : FirstError := ⟨e.feValid, e.feInfo, e.feCyc, e.feTick, e.feDetail⟩

/-- The capture of an event raised at tick `t` of the present cycle. -/
def State.firstErrorOf (s : State) (code inst : Nat) (detail : Word) (t : Nat) : FirstError :=
  ⟨true, at_ 1 31 ||| at_ (classOf code).code 28 ||| at_ inst 16 ||| at_ code 0,
    BitVec.ofNat 32 (s.cycle.toNat >>> 16), at_ (s.cycle.toNat % 65536) 16 ||| at_ t 0, detail⟩

theorem Evt.first_eq_iff (e : Evt) (f : FirstError) :
    e.first = f ↔ e.feValid = f.valid ∧ e.feInfo = f.info ∧ e.feCyc = f.cyc ∧ e.feTick = f.tick ∧ e.feDetail = f.detail :=
  FirstError.ext_iff

theorem EvClass.code_lt_eight (c : EvClass) : c.code < 8 := by cases c <;> decide

/-- The fields of FE_INFO do not overlap: the word is their sum. -/
theorem feInfo_toNat {cls code inst : Nat} (hl : cls < 8) (hc : code < 65536) (hi : inst < 4096) :
    (at_ 1 31 ||| at_ cls 28 ||| at_ inst 16 ||| at_ code 0).toNat
      = 1 <<< 31 + (cls <<< 28 + (inst <<< 16 + code)) := by
  have low : inst <<< 16 + code < 2 ^ 28 := by rw [Nat.shiftLeft_eq]; omega
  have mid : cls <<< 28 + (inst <<< 16 + code) < 2 ^ 31 := by rw [Nat.shiftLeft_eq]; omega
  rw [Nat.shiftLeft_add_eq_or_of_lt mid, Nat.shiftLeft_add_eq_or_of_lt low,
    Nat.shiftLeft_add_eq_or_of_lt (show code < 2 ^ 16 from hc)]
  have hcls : cls <<< 28 < 2 ^ 32 := by rw [Nat.shiftLeft_eq]; omega
  have hinst : inst <<< 16 < 2 ^ 32 := by rw [Nat.shiftLeft_eq]; omega
  have hcode : code < 2 ^ 32 := by omega
  simp only [at_, BitVec.toNat_or, BitVec.toNat_ofNat, Nat.shiftLeft_zero, Nat.mod_eq_of_lt hcls,
    Nat.mod_eq_of_lt hinst, Nat.mod_eq_of_lt hcode, Nat.or_assoc]
  rfl

/-- FE_INFO gives back the place of its event in queue order. -/
theorem feInfo_key {cls code inst : Nat} (hl : cls < 8) (hc : code < 65536) (hi : inst < 4096) :
    field (at_ 1 31 ||| at_ cls 28 ||| at_ inst 16 ||| at_ code 0) 15 0 * 4096
      + field (at_ 1 31 ||| at_ cls 28 ||| at_ inst 16 ||| at_ code 0) 27 16 = code * 4096 + inst := by
  simp only [field, feInfo_toNat hl hc hi, Nat.shiftLeft_eq, Nat.shiftRight_eq_div_pow]
  omega

/-! ## What leaves the capture alone -/

theorem foldl_evt {α : Type} (f : State → α → State) (h : ∀ s x, (f s x).evt = s.evt) :
    ∀ (l : List α) (s : State), (l.foldl f s).evt = s.evt
  | [], _ => rfl
  | x :: l, s => by rw [List.foldl_cons, foldl_evt f h l, h]

@[simp] theorem State.urgent_evt (s : State) (i : Nat) (o : OSet) (t : Nat) : (s.urgent i o t).evt = s.evt := by
  unfold State.urgent
  split
  · rfl
  · split
    · rfl
    · dsimp only
      split <;> rfl

@[simp] theorem State.sendBlk_evt (s : State) (mask t : Nat) : (s.sendBlk mask t).evt = s.evt := by
  unfold State.sendBlk
  split
  · rfl
  · exact foldl_evt _ (fun _ _ => State.urgent_evt ..) _ _

@[simp] theorem State.sendBlkAll_evt (s : State) (t : Nat) : (s.sendBlkAll t).evt = s.evt := by
  unfold State.sendBlkAll
  split
  · rfl
  · exact foldl_evt _ (fun _ _ => State.urgent_evt ..) _ _

@[simp] theorem State.sendPbk_evt (s : State) (mask t : Nat) : (s.sendPbk mask t).evt = s.evt := by
  unfold State.sendPbk
  split
  · rfl
  · exact foldl_evt _ (fun _ _ => State.urgent_evt ..) _ _

@[simp] theorem State.cellReaction_evt (s : State) (code ci : Nat) (byp : Bool) :
    (s.cellReaction code ci byp).evt = s.evt := by
  unfold State.cellReaction
  split
  · rfl
  · split <;> rfl

@[simp] theorem State.cellNoted_evt (s : State) (code ci : Nat) : (s.cellNoted code ci).evt = s.evt := by
  unfold State.cellNoted
  split <;> rfl

@[simp] theorem State.force_first (s : State) (mask : Nat) : (s.force mask).evt.first = s.evt.first := rfl

@[simp] theorem State.block_first (s : State) (mask t : Nat) : (s.block mask t).evt.first = s.evt.first := by
  simp [State.block]

@[simp] theorem State.blockModule_first (s : State) (t : Nat) : (s.blockModule t).evt.first = s.evt.first := by
  simp [State.blockModule]

@[simp] theorem State.queueEntry_first (s : State) (code kind inst : Nat) (detail : Word) (t : Nat) :
    (s.queueEntry code kind inst detail t).evt.first = s.evt.first := rfl

@[simp] theorem State.lostSats_first (s o : State) (t : Nat) : (s.lostSats o t).evt.first = s.evt.first := by
  unfold State.lostSats
  split <;> rfl

@[simp] theorem State.enqueue_first (s : State) (code kind inst : Nat) (detail : Word) (t : Nat) :
    (s.enqueue code kind inst detail t).evt.first = s.evt.first := by
  simp [State.enqueue]

@[simp] theorem State.blotTrigger_first (s : State) (row t : Nat) : (s.blotTrigger row t).evt.first = s.evt.first := by
  unfold State.blotTrigger
  dsimp only
  split
  · rfl
  · exact State.enqueue_first ..

@[simp] theorem State.blotEvent_first (s : State) (code t : Nat) : (s.blotEvent code t).evt.first = s.evt.first := by
  unfold State.blotEvent
  dsimp only
  split
  · exact State.blotTrigger_first ..
  · rfl

@[simp] theorem State.startGiveUp_first (s : State) : s.startGiveUp.evt.first = s.evt.first := by
  unfold State.startGiveUp
  split
  · rfl
  · exact (State.blotEvent_first ..).trans (State.enqueue_first ..)

/-- The reaction of an event leaves the capture alone. -/
@[simp] theorem State.react_first (s : State) (code inst : Nat) (byp : Bool) (t : Nat) :
    (s.react code inst byp t).evt.first = s.evt.first := by
  unfold State.react
  generalize classOf code = c
  cases c <;> dsimp only
  case cell => split <;> simp
  case stack =>
    split
    · exact State.startGiveUp_first s
    · split
      · rfl
      · split <;> simp
  case module =>
    split
    · exact State.startGiveUp_first s
    · exact State.blockModule_first s t

/-! ## What a raise captures -/

/-- An event only recorded is of class INFO or WARN. -/
theorem classOf_recordedOnly {code : Nat} (h : code ∈ recordedOnly) : (classOf code).code < 2 := by
  have all : ∀ c ∈ recordedOnly, (classOf c).code < 2 := by decide
  exact all code h

theorem State.capture_of_low_class (s : State) {code : Nat} (inst : Nat) (detail : Word) (t : Nat)
    (h : (classOf code).code < 2) : s.capture code inst detail t = s := by
  unfold State.capture
  exact if_pos (.inl h)

theorem State.capture_of_not_later (s : State) {code inst : Nat} (detail : Word) {t : Nat} (hv : s.evt.feValid = true)
    (h : s.captureLater code inst t = false) : s.capture code inst detail t = s := by
  unfold State.capture
  exact if_pos (.inr ⟨hv, by rw [h]; rfl⟩)

theorem State.capture_first_of_high_class (s : State) {code inst : Nat} (detail : Word) {t : Nat} (hi : inst < 4096)
    (hl : 2 ≤ (classOf code).code) (h : s.evt.feValid = false ∨ s.captureLater code inst t = true) :
    (s.capture code inst detail t).evt.first = s.firstErrorOf code inst detail t := by
  have hn : ¬ ((classOf code).code < 2 ∨ (s.evt.feValid ∧ !s.captureLater code inst t)) := by
    rcases h with h | h <;> simp [h, Nat.not_lt.mpr hl]
  unfold State.capture
  simp only [if_neg hn, Nat.mod_eq_of_lt hi]
  rfl

/-- What a capture shows depends on the capture before it and on the cycle alone. -/
theorem State.capture_first_congr {s u : State} (code inst : Nat) (detail : Word) (t : Nat)
    (hf : u.evt.first = s.evt.first) (hc : u.cycle = s.cycle) :
    (u.capture code inst detail t).evt.first = (s.capture code inst detail t).evt.first := by
  obtain ⟨hv, hinfo, hcyc, htick, -⟩ := (Evt.first_eq_iff ..).mp hf
  have hl : u.captureLater code inst t = s.captureLater code inst t := by
    unfold State.captureLater
    dsimp only
    rw [hc, hcyc, htick, hinfo]
    rfl
  have hv : u.evt.feValid = s.evt.feValid := hv
  unfold State.capture
  dsimp only
  rw [hl, hv, hc]
  split
  · exact hf
  · rfl

/-- A raise shows what the capture makes of the event, unless the event is active already. -/
theorem State.raise_first (s : State) (code inst : Nat) (detail : Word) (t : Nat) :
    (s.raise code inst detail t).evt.first
      = if s.isActive code inst then s.evt.first else (s.capture code inst detail t).evt.first := by
  unfold State.raise State.raiseB
  by_cases hr : code ∈ recordedOnly
  · rw [if_pos hr, s.capture_of_low_class inst detail t (classOf_recordedOnly hr), ite_self]
    exact (State.blotEvent_first ..).trans (State.enqueue_first ..)
  rw [if_neg hr]
  split
  · dsimp only
    split
    · exact State.react_first ..
    · rfl
  · refine (State.react_first ..).trans ((State.blotEvent_first ..).trans ?_)
    exact State.capture_first_congr _ _ _ _ (State.enqueue_first ..) (State.enqueue_reach ..).cycle

/-- The capture shows an event of this tick that the event in hand precedes in queue order. -/
theorem State.captureLater_iff (s : State) (code t : Nat) {inst : Nat} (hi : inst < 4096) :
    s.captureLater code inst t = true ↔
      (s.evt.feCyc = BitVec.ofNat 32 (s.cycle.toNat >>> 16)
        ∧ s.evt.feTick = (at_ (s.cycle.toNat % 65536) 16 ||| at_ t 0))
      ∧ code * 4096 + inst < field s.evt.feInfo 15 0 * 4096 + field s.evt.feInfo 27 16 := by
  simp only [State.captureLater, Bool.and_eq_true, decide_eq_true_eq, Nat.mod_eq_of_lt hi]

theorem State.raise_captures (s : State) {code inst : Nat} (detail : Word) {t : Nat} (hi : inst < 4096)
    (hl : 2 ≤ (classOf code).code) (ha : s.isActive code inst = false)
    (h : s.evt.feValid = false ∨ s.captureLater code inst t = true) :
    (s.raise code inst detail t).evt.first = s.firstErrorOf code inst detail t := by
  rw [State.raise_first, ha]
  exact s.capture_first_of_high_class detail hi hl h

theorem State.raise_keeps_first (s : State) {code inst : Nat} (detail : Word) {t : Nat}
    (h : (classOf code).code < 2 ∨ s.isActive code inst = true
      ∨ (s.evt.feValid = true ∧ s.captureLater code inst t = false)) :
    (s.raise code inst detail t).evt.first = s.evt.first := by
  rw [State.raise_first]
  rcases h with hl | ha | ⟨hv, hk⟩
  · rw [s.capture_of_low_class inst detail t hl, ite_self]
  · rw [if_pos ha]
  · rw [s.capture_of_not_later detail hv hk, ite_self]

/-- Against a capture of this tick the queue order decides. -/
theorem State.captureLater_of_first {s : State} {code inst code2 inst2 t : Nat} {detail : Word}
    (hc : code < 65536) (hi : inst < 4096) (hi2 : inst2 < 4096)
    (hf : s.evt.first = s.firstErrorOf code inst detail t) :
    s.captureLater code2 inst2 t = true ↔ code2 < code ∨ (code2 = code ∧ inst2 < inst) := by
  obtain ⟨-, hinfo, hcyc, htick, -⟩ := (Evt.first_eq_iff ..).mp hf
  have key : field s.evt.feInfo 15 0 * 4096 + field s.evt.feInfo 27 16 = code * 4096 + inst := by
    rw [hinfo]
    exact feInfo_key (EvClass.code_lt_eight _) hc hi
  rw [State.captureLater_iff s code2 t hi2, key]
  exact ⟨fun h => by have := h.2; omega, fun h => ⟨⟨hcyc, htick⟩, by omega⟩⟩

/-- Of two events raised in one tick with VALID = 0 the first in queue order is captured, in whichever order they come. -/
theorem State.raise_raise_first (s : State) {code inst code2 inst2 : Nat} (detail detail2 : Word) (t : Nat)
    (hc : code < 65536) (hi : inst < 4096) (hi2 : inst2 < 4096) (hv : s.evt.feValid = false)
    (hl : 2 ≤ (classOf code).code) (ha : s.isActive code inst = false) (hl2 : 2 ≤ (classOf code2).code)
    (ha2 : (s.raise code inst detail t).isActive code2 inst2 = false) :
    ((s.raise code inst detail t).raise code2 inst2 detail2 t).evt.first
      = if code2 < code ∨ (code2 = code ∧ inst2 < inst) then s.firstErrorOf code2 inst2 detail2 t
        else s.firstErrorOf code inst detail t := by
  have hcycle : (s.raise code inst detail t).cycle = s.cycle := State.raise_cycle ..
  have hsame : ∀ c i d, (s.raise code inst detail t).firstErrorOf c i d t = s.firstErrorOf c i d t := fun c i d => by
    unfold State.firstErrorOf
    rw [hcycle]
  have hf := s.raise_captures detail (t := t) hi hl ha (.inl hv)
  have hlater := State.captureLater_of_first (code2 := code2) hc hi hi2 (hf.trans (hsame ..).symm)
  split
  next h => exact (State.raise_captures _ detail2 hi2 hl2 ha2 (.inr (hlater.mpr h))).trans (hsame ..)
  next h =>
    have hvalid : (s.raise code inst detail t).evt.feValid = true := congrArg FirstError.valid hf
    have hnot := Bool.eq_false_iff.mpr fun k => h (hlater.mp k)
    exact (State.raise_keeps_first _ detail2 (.inr (.inr ⟨hvalid, hnot⟩))).trans hf

/-! ## The re-arming of the capture -/

/-- FE_INFO takes effect as the W1C word that it is. -/
theorem State.applyWord_feInfo (s : State) (w : Word) (t : Nat) : s.applyWord K.FE_INFO w t = s.w1c K.FE_INFO w := by
  rfl

theorem State.w1c_feInfo_evt (s : State) (w : Word) :
    (s.w1c K.FE_INFO w).evt = { s.evt with
      feInfo := if bit w 31 then s.evt.feInfo &&& 0x7FFFFFFF else s.evt.feInfo
      feValid := s.evt.feValid && !bit w 31 } := by
  rfl

/-- Settles O59: a raise shows what `State.capture` makes of the event, since nothing else on its way writes the four
words (R309), and the key read back from FE_INFO is the place in queue order. -/
theorem theFirstEventIsCaptured : Obligations.TheFirstEventIsCaptured := by
  intro s code inst detail t hc hi
  refine ⟨fun hv hl ha => ?_, fun h => ?_, fun code2 inst2 detail2 _ hi2 hv hl ha hl2 ha2 => ?_, fun w => ?_⟩
  · exact (Evt.first_eq_iff ..).mp (s.raise_captures detail hi hl ha (.inl hv))
  · refine (Evt.first_eq_iff ..).mp (s.raise_keeps_first detail ?_)
    refine h.imp_right (Or.imp_right fun ⟨hv, hk⟩ => ⟨hv, Bool.eq_false_iff.mpr fun later => ?_⟩)
    obtain ⟨hsame, hlt⟩ := (s.captureLater_iff code t hi).mp later
    exact hk.elim (fun hne => hne hsame) (fun hle => absurd hlt (Nat.not_lt.mpr hle))
  · have hf := s.raise_raise_first detail detail2 t hc hi hi2 hv hl ha hl2 ha2
    dsimp only
    split
    next h => exact (Evt.first_eq_iff ..).mp (hf.trans (if_pos h))
    next h => exact (Evt.first_eq_iff ..).mp (hf.trans (if_neg h))
  · rw [State.applyWord_feInfo, State.w1c_feInfo_evt]
    exact ⟨rfl, rfl⟩

end Sys2Proof.Machine
end

section
/-! PROOFS. PAGE_GET answers with the values in force (R385): what its request sends back, which parts of the state a
word does not show, and the obligation about both. -/

namespace Sys2Proof.Machine

/-! ## The reply -/

/-- The parameters of a PAGE_GET are the page, the first offset and the number of words, where 0 stands for 256
(R384). -/
theorem exec_pageGet_of_accepts {s : State} {r : Req} {p : List Byte} {page off n : Nat} (ha : s.Accepts r roMonitor)
    (hlen : p.length = 4) (hpage : beAt p 0 2 = page) (hoff : beAt p 2 1 = off)
    (hcount : (if beAt p 3 1 = 0 then 256 else beAt p 3 1) = n) (hexists : pageExists page = true)
    (hrange : off + n ≤ 256) :
    exec (.pageGet r p) s =
      .next (((s.begun r).readEffects (reqSlot r) page off (off + n)).drawn.reply (reqSlot r) 0x0010 r.seq stOk
        (p ++ (List.range n).flatMap fun o => wordBytes ((s.begun r).readWord (reqSlot r) page (off + o)))) := by
  have hknown : ¬ (2 ≤ p.length ∧ (!pageExists page) = true) := by simp [hexists]
  have hinside : ¬ (p.length ≠ 4 ∨ 256 < off + n) := by omega
  change execPageGet r p s = _
  unfold execPageGet
  dsimp only
  rw [State.serve_accepted _ _ ha]
  simp only [hpage, hoff, hcount, if_neg hknown, if_neg hinside]

/-! ## The words that read 0 -/

theorem State.readWord_of_reserved (s : State) (i : Nat) {page off : Nat} (h : wordRow page off = none) :
    s.readWord i page off = 0 := by
  simp only [State.readWord, h]

theorem State.readWord_of_writeOnly (s : State) (i : Nat) {page off : Nat} {row : WordRow}
    (h : wordRow page off = some row) (hacc : row.acc = .wo) : s.readWord i page off = 0 := by
  simp only [State.readWord, h, if_pos hacc]

/-! ## What a word does not show: no read of a page looks at these parts of the state -/

theorem State.readWord_nextW (s : State) (waiting : List (Nat × Word)) (i page off : Nat) :
    ({ s with nextW := waiting } : State).readWord i page off = s.readWord i page off := rfl

theorem State.readWord_records (s : State) (records : List RepRec) (i page off : Nat) :
    ({ s with pairOps := { s.pairOps with records := records } } : State).readWord i page off =
      s.readWord i page off := rfl

theorem State.putTxn_self {s : State} {x : Txn} (h : s.cmd.txn = some x) : s.putTxn x = s := by
  unfold State.putTxn
  rw [← h]

/-- SYS_LOCK shows the owner and the lease of a transaction, not its words (R400). -/
theorem State.readWord_putTxn_staged (s : State) (x : Txn) (staged : List (Nat × Word)) (i page off : Nat) :
    (s.putTxn { x with staged := staged }).readWord i page off = (s.putTxn x).readWord i page off := rfl

/-- Settles O60: an accepted request reaches the read in the state `begun`, and no read of a page looks at a waiting
word, a record of the pair or a staged word. -/
theorem pageGetReadsTheValuesInForce : Obligations.PageGetReadsTheValuesInForce := by
  refine ⟨fun s r p ha hlen hexists hrange => ⟨_, ?_, rfl⟩, fun s i page off => ⟨?_, ?_, ?_, ?_, ?_⟩⟩
  · exact exec_pageGet_of_accepts ha hlen rfl rfl rfl hexists hrange
  · exact s.readWord_of_reserved i
  · exact fun _ => s.readWord_of_writeOnly i
  · exact fun waiting => s.readWord_nextW waiting i page off
  · exact fun records => s.readWord_records records i page off
  · intro x staged htxn
    have hsame := s.readWord_putTxn_staged x staged i page off
    rwa [State.putTxn_self htxn] at hsame

end Sys2Proof.Machine
end

section
/-! PROOFS. The analogue inputs (R456–R463): what the start of a slot does to each converter, what a completed
conversion stores, and the obligation about both. -/

namespace Sys2Proof.Machine

/-! ## The start of a slot -/

theorem State.adcSet_congr {s t : State} (hregs : t.regs = s.regs) (hcycle : t.cycle = s.cycle) (k sl : Nat) :
    t.adcSet k sl = s.adcSet k sl := by
  simp only [State.adcSet, State.word, hregs, hcycle]

/-- Converter `k` at the start of slot `sl` (R459–R462), stalled when its last conversion gave no result (R469). -/
def State.startConv (sl : Nat) (s : State) (k : Nat) : State :=
  let u := s.setConv k ((s.conv k).slot (s.adcSet k sl))
  if (s.conv k).run.isSome then u.raise 0x0E03 k 0 (3125 * sl) else u

/-- In a powered module the slot becomes current and the four converters start in turn (R454). -/
theorem exec_adcConversionSlot_of_powered {s : State} (sl : Fin 20) (h : s.sys.powered = true) :
    exec (.adcConversionSlot sl) s =
      .next ((List.range 4).foldl (State.startConv sl) { s.silent with ai := { s.ai with slot := sl } }) := by
  change execAdcConversionSlot sl s = _
  simp only [execAdcConversionSlot, State.silent_sys, h]
  rfl

theorem exec_adcConversionSlot_of_unpowered {s : State} (sl : Fin 20) (h : s.sys.powered = false) :
    exec (.adcConversionSlot sl) s = .next s.silent := by
  change execAdcConversionSlot sl s = _
  simp only [execAdcConversionSlot, State.silent_sys, h]
  rfl

/-- From `s` to `t` the converters below `n` have started slot `sl`: their records change, no result does. -/
structure State.Started (sl n : Nat) (s t : State) : Prop where
  slot : t.ai.slot = s.ai.slot
  res : t.ai.res = s.ai.res
  regs : t.regs = s.regs
  cycle : t.cycle = s.cycle
  sched : t.sched = s.sched
  below : ∀ k < n, t.conv k = (s.conv k).slot (s.adcSet k sl)
  above : ∀ k, n ≤ k → t.conv k = s.conv k

/-- What the start of one converter leaves alone, a stall raised or not. -/
theorem State.startConv_reach (sl : Nat) (s : State) (k : Nat) :
    (s.setConv k ((s.conv k).slot (s.adcSet k sl))).EventReach (s.startConv sl k) :=
  ite_reach (raise_reach ..) (.refl _)

theorem State.EventReach.conv {s t : State} (h : s.EventReach t) (k : Nat) : t.conv k = s.conv k := by
  rw [State.conv, State.conv, h.ai]

theorem State.Started.next {sl n : Nat} {s t : State} (h : s.Started sl n t) :
    s.Started sl (n + 1) (t.startConv sl n) := by
  have reach := t.startConv_reach sl n
  have hset : t.adcSet n sl = s.adcSet n sl := State.adcSet_congr h.regs h.cycle n sl
  have same : (t.startConv sl n).conv n = (s.conv n).slot (s.adcSet n sl) := by
    rw [reach.conv, State.setConv_conv, h.above n (Nat.le_refl n), hset]
  have other : ∀ k, k ≠ n → (t.startConv sl n).conv k = t.conv k := fun k hk => by
    rw [reach.conv, State.setConv_conv_ne _ _ _ _ hk]
  refine ⟨?_, ?_, reach.regs.trans h.regs, reach.cycle.trans h.cycle, reach.sched.trans h.sched, fun k hk => ?_,
    fun k hk => (other k (by omega)).trans (h.above k (by omega))⟩
  · rw [reach.ai]; exact h.slot
  · rw [reach.ai]; exact h.res
  · rcases Nat.lt_succ_iff_lt_or_eq.mp hk with hlt | rfl
    · exact (other k (by omega)).trans (h.below k hlt)
    · exact same

/-- Each converter starts from its own record: none reads what another left. -/
theorem State.started_foldl (sl : Nat) (s : State) :
    ∀ n : Nat, s.Started sl n ((List.range n).foldl (State.startConv sl) s)
  | 0 => ⟨rfl, rfl, rfl, rfl, rfl, fun _ hk => absurd hk (Nat.not_lt_zero _), fun _ _ => rfl⟩
  | n + 1 => by
    rw [List.range_succ, List.foldl_append]
    exact (s.started_foldl sl n).next

/-! ## A completed conversion -/

/-- What the consequences of a result leave alone: the converters, the results, the registers and the lanes. -/
structure State.KeepsResults (s t : State) : Prop where
  conv : t.ai.conv = s.ai.conv
  res : t.ai.res = s.ai.res
  regs : t.regs = s.regs
  lanes : t.lanes = s.lanes

theorem State.KeepsResults.trans {s t u : State} (h : s.KeepsResults t) (k : t.KeepsResults u) : s.KeepsResults u :=
  ⟨k.conv.trans h.conv, k.res.trans h.res, k.regs.trans h.regs, k.lanes.trans h.lanes⟩

theorem State.KeepsResults.conv_eq {s t : State} (h : s.KeepsResults t) (k : Nat) : t.conv k = s.conv k := by
  rw [State.conv, State.conv, h.conv]

theorem State.KeepsResults.aiRes_eq {s t : State} (h : s.KeepsResults t) (n : Nat) : t.aiRes n = s.aiRes n := by
  rw [State.aiRes, State.aiRes, h.res]

theorem State.EventReach.keepsResults {s t : State} (h : s.EventReach t) : s.KeepsResults t :=
  ⟨by rw [h.ai], by rw [h.ai], h.regs, h.lanes⟩

theorem State.cimWrite_keepsResults (s : State) (tile : Nat) : s.KeepsResults (s.cimWrite tile) := by
  unfold State.cimWrite
  split <;> exact ⟨rfl, rfl, rfl, rfl⟩

theorem State.overRange_keepsResults (s : State) (n clean : Nat) (ovr : Bool) (t : Nat) :
    s.KeepsResults (s.overRange n clean ovr t) := by
  unfold State.overRange
  split
  · refine State.KeepsResults.trans ?_ ((raise_reach ..).trans (satEvent_reach ..)).keepsResults
    exact ⟨rfl, rfl, rfl, rfl⟩
  · exact (ite_reach (clear_reach ..) (.refl _)).keepsResults

theorem State.threshold_keepsResults (s : State) (code : BitVec 18) (ovr : Bool) (t j : Nat) :
    s.KeepsResults (s.threshold code ovr t j) := by
  unfold State.threshold
  refine State.KeepsResults.trans ?_
    (ite_reach (condGone_reach ..) (ite_reach (raise_reach ..) (.refl _))).keepsResults
  exact ⟨rfl, rfl, rfl, rfl⟩

theorem State.thresholds_keepsResults (s : State) (code : BitVec 18) (ovr : Bool) (t : Nat) (hit : List Nat) :
    s.KeepsResults (hit.foldl (fun (s : State) (j : Nat) => s.threshold code ovr t j) s) :=
  List.foldlRecOn (motive := s.KeepsResults) hit _ ⟨rfl, rfl, rfl, rfl⟩
    fun _ h j _ => h.trans (State.threshold_keepsResults _ code ovr t j)

/-- A converter whose conversion is over: a host request that it served is served. -/
def Conv.ended (c : Conv) : Conv :=
  { c with run := none, host := if c.taken then none else c.host, taken := false }

/-- The result of converter `k` for input `n` (R456–R458, R463). -/
def State.resultOf (s : State) (k n : Nat) (pos neg : Int) (edge : Bool) : AiRes :=
  { valid := true, ovr := adcOver pos neg edge, adc := k, code := adcCode (pos - neg), cycle := s.cycle.setWidth 48,
    slot := s.ai.slot, eng := engineering (s.word (K.AI_SCALE n)) (s.word (K.AI_OFFS n)) (adcCode (pos - neg)),
    clean := if adcOver pos neg edge then 0 else (s.aiRes n).clean + 1, at_ := s.mono }

theorem exec_adcConversionComplete_of_idle {s : State} {k : Fin 4} (pos neg : Int) (edge : Bool)
    (h : (s.conv k).run = none) : exec (.adcConversionComplete k ⟨pos, neg⟩ edge) s = .next s.silent := by
  change execAdcConversionComplete k ⟨pos, neg⟩ edge s = _
  simp only [execAdcConversionComplete, State.conv_silent, h]

/-- What follows a result: its tile written whole, over-range, and every enabled threshold of its input (R463, R464). -/
def State.followResult (s : State) (n : Nat) (r : AiRes) : State :=
  let tick := 3125 * r.slot + 3000
  let u := (s.cimWrite (12288 + n)).overRange n r.clean r.ovr tick
  ((List.range 16).filter fun j =>
    W.PROT_CFG_EN (u.word (K.PROT_CFG j)) && decide (W.PROT_CFG_AI (u.word (K.PROT_CFG j)) = n)).foldl
    (fun (v : State) (j : Nat) => v.threshold r.code r.ovr tick j) u

theorem State.followResult_keepsResults (s : State) (n : Nat) (r : AiRes) : s.KeepsResults (s.followResult n r) :=
  ((cimWrite_keepsResults ..).trans (overRange_keepsResults ..)).trans (thresholds_keepsResults ..)

/-! ## Storing a result -/

/-- The newest result of input `n` is of the slot and cycle of `r`, and a higher-numbered converter's (R463). -/
def State.LaterResult (s : State) (n : Nat) (r : AiRes) : Prop :=
  (s.aiRes n).valid = true ∧ (s.aiRes n).cycle = r.cycle ∧ (s.aiRes n).slot = r.slot ∧ r.adc < (s.aiRes n).adc

theorem State.adcResult_of_later {s : State} {n : Nat} {r : AiRes} (h : s.LaterResult n r) : s.adcResult n r = s :=
  if_pos h

theorem State.adcResult_of_newest {s : State} {n : Nat} {r : AiRes} (h : ¬ s.LaterResult n r) :
    s.adcResult n r = { s with ai := { s.ai with res := Tab.put (fun _ => AiRes.init) s.ai.res n r } } :=
  if_neg h

theorem State.adcResult_aiRes_of_newest {s : State} {n : Nat} {r : AiRes} (h : ¬ s.LaterResult n r) :
    (s.adcResult n r).aiRes n = r := by
  rw [State.adcResult_of_newest h]
  exact Tab.get_put_same ..

theorem State.adcResult_aiRes_ne (s : State) {n m : Nat} (r : AiRes) (hm : m ≠ n) :
    (s.adcResult n r).aiRes m = s.aiRes m := by
  by_cases h : s.LaterResult n r
  · rw [State.adcResult_of_later h]
  · rw [State.adcResult_of_newest h]
    exact Tab.get_put_ne _ _ _ hm

/-- Storing a result touches the results alone. -/
theorem State.adcResult_ai (s : State) (n : Nat) (r : AiRes) :
    s.adcResult n r = { s with ai := { s.ai with res := (s.adcResult n r).ai.res } } := by
  by_cases h : s.LaterResult n r
  · rw [State.adcResult_of_later h]
  · rw [State.adcResult_of_newest h]

/-! ## The completion as a whole -/

/-- A conversion of input `n` ends, its result is stored, and what follows from the result comes after. -/
def State.completed (s : State) (k n : Nat) (r : AiRes) : State :=
  ((s.silent.setConv k (s.conv k).ended).adcResult n r).followResult n r

theorem exec_adcConversionComplete_of_run {s : State} {k : Fin 4} {n : Nat} (pos neg : Int) (edge : Bool)
    (h : (s.conv k).run = some n) :
    exec (.adcConversionComplete k ⟨pos, neg⟩ edge) s = .next (s.completed k n (s.resultOf k n pos neg edge)) := by
  change execAdcConversionComplete k ⟨pos, neg⟩ edge s = _
  simp only [execAdcConversionComplete, State.conv_silent, h]
  rfl

section
variable (s : State) (k n : Nat) (r : AiRes)

theorem State.completed_keepsResults :
    ((s.silent.setConv k (s.conv k).ended).adcResult n r).KeepsResults (s.completed k n r) :=
  followResult_keepsResults ..

theorem State.completed_conv (j : Nat) : (s.completed k n r).conv j = (s.setConv k (s.conv k).ended).conv j := by
  rw [(s.completed_keepsResults k n r).conv_eq, State.adcResult_ai]
  rfl

theorem State.completed_regs : (s.completed k n r).regs = s.regs := by
  rw [(s.completed_keepsResults k n r).regs, State.adcResult_ai]
  rfl

theorem State.completed_lanes : (s.completed k n r).lanes = s.lanes := by
  rw [(s.completed_keepsResults k n r).lanes, State.adcResult_ai]
  rfl

theorem State.completed_aiRes_of_later (h : s.LaterResult n r) : (s.completed k n r).aiRes n = s.aiRes n := by
  have h : (s.silent.setConv k (s.conv k).ended).LaterResult n r := h
  rw [(s.completed_keepsResults k n r).aiRes_eq, State.adcResult_of_later h]
  rfl

theorem State.completed_aiRes_of_newest (h : ¬ s.LaterResult n r) : (s.completed k n r).aiRes n = r := by
  have h : ¬ (s.silent.setConv k (s.conv k).ended).LaterResult n r := h
  rw [(s.completed_keepsResults k n r).aiRes_eq, State.adcResult_aiRes_of_newest h]

theorem State.completed_aiRes_ne {m : Nat} (hm : m ≠ n) : (s.completed k n r).aiRes m = s.aiRes m := by
  rw [(s.completed_keepsResults k n r).aiRes_eq, State.adcResult_aiRes_ne _ _ hm]
  rfl

end

/-- Settles O45: of the four converters that a slot starts in turn none reads another's record, and after a completion
only events and protection follow the stored result (R456–R463). -/
theorem conversionsRunAndStore : Obligations.ConversionsRunAndStore := by
  refine fun s => ⟨fun sl => ⟨exec_adcConversionSlot_of_unpowered sl, fun hp => ?_⟩, fun k pos neg edge =>
    ⟨exec_adcConversionComplete_of_idle pos neg edge, fun n hrun => ?_⟩⟩
  · have started := State.started_foldl sl { s.silent with ai := { s.ai with slot := sl } } 4
    exact ⟨_, exec_adcConversionSlot_of_powered sl hp, started.slot, started.res, fun k => started.below k k.isLt,
      started.regs, started.sched⟩
  · refine ⟨_, exec_adcConversionComplete_of_run pos neg edge hrun, ?_,
      s.completed_aiRes_of_later k n (s.resultOf k n pos neg edge), fun newest => ?_,
      fun _ => s.completed_aiRes_ne k n _, fun j hj => ?_, s.completed_regs .., s.completed_lanes ..⟩
    · rw [State.completed_conv, State.setConv_conv]
      rfl
    · rw [s.completed_aiRes_of_newest k n (s.resultOf k n pos neg edge) newest]
      exact ⟨rfl, rfl, rfl, rfl, rfl, rfl, rfl⟩
    · rw [State.completed_conv, State.setConv_conv_ne _ _ _ _ hj]

end Sys2Proof.Machine
end


section
/-! SUPPORT. What every command keeps: the queue of waiting commands and the invariant of the block. -/

namespace Sys2Proof.Machine

/-- A command run in `s` answers a next state that has the queue of `s` and meets the invariant where `s` does. -/
def State.Keeps (s : State) (o : Host.Outcome State Fault Refusal) : Prop :=
  ∃ t, o = .next t ∧ t.pending = s.pending ∧ (s.Inv → t.Inv)

namespace State.Keeps

variable {s t : State} {c : Prop} [Decidable c] {a b : Host.Outcome State Fault Refusal}

theorem next (hp : t.pending = s.pending) (hi : s.Inv → t.Inv) : s.Keeps (.next t) := ⟨t, rfl, hp, hi⟩

theorem ite (ha : s.Keeps a) (hb : s.Keeps b) : s.Keeps (if c then a else b) := by
  split
  · exact ha
  · exact hb

theorem silent (h : s.silent.Keeps a) : s.Keeps a := by
  obtain ⟨t, ht, hp, hi⟩ := h
  exact ⟨t, ht, hp, fun hs => hi (.congr hs rfl rfl rfl rfl rfl rfl rfl rfl)⟩

theorem serve {r : Req} {op role : Nat} {f : State → Nat → Answer} (hf : ∀ u i, (f u i).Keeps u) :
    s.Keeps (.next (s.silent.serve r op role f)) :=
  .silent (.next (State.serve_pending _ _ _ _ _ hf) (State.serve_inv _ _ _ _ _ hf))

theorem setOne {r : Req} {k : Nat} {w : Word} : s.Keeps (.next (s.silent.setOne r k w)) :=
  .silent (.next (State.setOne_pending ..) (State.setOne_inv _ _ _ _))

end State.Keeps

theorem badAt_keeps {u : State} {k : Nat} : (badAt k).Keeps u := trivial

theorem no_keeps {u : State} {e : Nat} : (no e).Keeps u := trivial

theorem noParams_keeps {u : State} {p : List Byte} {a : Answer} (h : a.Keeps u) : (noParams p a).Keeps u :=
  Answer.keeps_ite h badAt_keeps

end Sys2Proof.Machine
end

section
/-! SUPPORT. The commands of the safety island leave the queue as it is and keep the invariant. -/

namespace Sys2Proof.Machine

open State

theorem execSafetyInputSample_keeps (ch : Fin 2) (a b : Byte) (srst : Bool) (t : Tick) (s : State) :
    s.Keeps (execSafetyInputSample ch a b srst t s) := by
  refine .silent ?_
  unfold execSafetyInputSample
  dsimp only
  generalize s.silent = s
  repeat' with_reducible first
    | assumption | apply Keeps.ite | refine .next ?_ fun h => ?_ | apply ite_inv | apply ite_pending
    | refine (clear_pending ..).trans ?_ | apply clear_inv | refine (safEval_pending ..).trans ?_ | apply safEval_inv
    | refine .upd rfl rfl rfl rfl rfl rfl rfl rfl ?_ | dsimp only

theorem execDiscrepancySample_keeps (ch : Fin 2) (t : Tick) (s : State) :
    s.Keeps (execDiscrepancySample ch t s) := by
  refine .silent ?_
  unfold execDiscrepancySample
  dsimp only
  generalize s.silent = s
  repeat' with_reducible first
    | assumption | refine .next ?_ fun h => ?_ | refine (discInput_pending ..).trans ?_ | apply discInput_inv
    | refine (safEval_pending ..).trans ?_ | apply safEval_inv | (apply foldl_inv; intro _ _ _)
    | refine (foldl_pending _ (fun _ _ => ?_) _ _).trans ?_ | dsimp only

theorem execInputTestPulseStart_keeps (src : Fin 2) (s : State) : s.Keeps (execInputTestPulseStart src s) := by
  refine .silent ?_
  unfold execInputTestPulseStart
  dsimp only
  generalize s.silent = s
  repeat' with_reducible first
    | assumption | apply Keeps.ite | refine .next ?_ fun h => ?_ | apply ite_inv | apply ite_pending
    | refine .upd rfl rfl rfl rfl rfl rfl rfl rfl ?_ | dsimp only

theorem execInputTestPulseEnd_keeps (src : Fin 2) (t : Tick) (s : State) :
    s.Keeps (execInputTestPulseEnd src t s) := by
  refine .silent ?_
  unfold execInputTestPulseEnd
  dsimp only
  generalize s.silent = s
  repeat' with_reducible first
    | assumption | apply Keeps.ite | refine .next ?_ fun h => ?_ | apply ite_inv | apply ite_pending
    | refine (safRaise_pending ..).trans ?_ | apply safRaise_inv | refine (safEval_pending ..).trans ?_
    | apply safEval_inv | (apply foldl_inv; intro _ _ _) | refine (foldl_pending _ (fun _ _ => ?_) _ _).trans ?_
    | refine .upd rfl rfl rfl rfl rfl rfl rfl rfl ?_ | dsimp only

theorem execFunctionLockTimer_keeps (ch f : Fin 2) (s : State) : s.Keeps (execFunctionLockTimer ch f s) := by
  refine .silent ?_
  unfold execFunctionLockTimer
  dsimp only
  generalize s.silent = s
  repeat' with_reducible first
    | assumption | apply Keeps.ite | refine .next ?_ fun h => ?_ | apply ite_inv | apply ite_pending
    | refine (safDrive_pending ..).trans ?_ | apply safDrive_inv | refine .upd rfl rfl rfl rfl rfl rfl rfl rfl ?_
    | dsimp only

theorem execBlockConfirmTimeout_keeps (isl : Fin 8) (ch : Fin 2) (t : Tick) (s : State) :
    s.Keeps (execBlockConfirmTimeout isl ch t s) := by
  refine .silent ?_
  unfold execBlockConfirmTimeout
  dsimp only
  generalize s.silent = s
  repeat' with_reducible first
    | assumption | apply Keeps.ite | refine .next ?_ fun h => ?_ | apply ite_inv | apply ite_pending
    | refine (setLane_pending ..).trans ?_ | apply setLane_inv | refine (safRaise_pending ..).trans ?_
    | apply safRaise_inv | refine (safFault_pending ..).trans ?_ | apply safFault_inv
    | (apply foldl_inv; intro _ _ _) | refine (foldl_pending _ (fun _ _ => ?_) _ _).trans ?_
    | refine .upd rfl rfl rfl rfl rfl rfl rfl rfl ?_ | dsimp only

theorem execOutputReadback_keeps (ch : Fin 2) (pins : List (BitVec 16 × BitVec 16)) (sov : BitVec 16) (t : Tick)
    (s : State) :
    s.Keeps (execOutputReadback ch pins sov t s) := by
  refine .silent ?_
  unfold execOutputReadback
  dsimp only
  generalize s.silent = s
  repeat' with_reducible first
    | assumption | apply Keeps.ite | refine .next ?_ fun h => ?_ | apply ite_inv | apply ite_pending
    | refine (safRaise_pending ..).trans ?_ | apply safRaise_inv | refine (safFault_pending ..).trans ?_
    | apply safFault_inv | split | (apply foldl_inv; intro _ _ _)
    | refine (foldl_pending _ (fun _ _ => ?_) _ _).trans ?_ | refine .upd rfl rfl rfl rfl rfl rfl rfl rfl ?_
    | dsimp only

theorem execOutputOverload_keeps (k : Fin 4) (ch : Fin 2) (t : Tick) (s : State) :
    s.Keeps (execOutputOverload k ch t s) := by
  refine .silent ?_
  unfold execOutputOverload
  dsimp only
  generalize s.silent = s
  repeat' with_reducible first
    | assumption | apply Keeps.ite | refine .next ?_ fun h => ?_ | apply ite_inv | apply ite_pending
    | refine (safRaise_pending ..).trans ?_ | apply safRaise_inv | refine (safDrive_pending ..).trans ?_
    | apply safDrive_inv | refine .upd rfl rfl rfl rfl rfl rfl rfl rfl ?_ | dsimp only

theorem execSovLoss_keeps (t : Tick) (s : State) : s.Keeps (execSovLoss t s) := by
  refine .silent ?_
  unfold execSovLoss
  dsimp only
  generalize s.silent = s
  repeat' with_reducible first
    | assumption | refine .next ?_ fun h => ?_ | refine (safRaise_pending ..).trans ?_ | apply safRaise_inv
    | refine (safDrive_pending ..).trans ?_ | apply safDrive_inv | refine .upd rfl rfl rfl rfl rfl rfl rfl rfl ?_
    | dsimp only

theorem execSovReturn_keeps (s : State) : s.Keeps (execSovReturn s) := by
  refine .silent ?_
  unfold execSovReturn
  dsimp only
  generalize s.silent = s
  repeat' with_reducible first
    | assumption | apply Keeps.ite | refine .next ?_ fun h => ?_ | apply ite_inv | apply ite_pending
    | refine (safDrive_pending ..).trans ?_ | apply safDrive_inv | refine .upd rfl rfl rfl rfl rfl rfl rfl rfl ?_
    | dsimp only

theorem execOutputTestPulse_keeps (k : Fin 4) (ch : Fin 2) (s : State) : s.Keeps (execOutputTestPulse k ch s) := by
  refine .silent ?_
  unfold execOutputTestPulse
  dsimp only
  generalize s.silent = s
  repeat' with_reducible first
    | assumption | apply Keeps.ite | refine .next ?_ fun h => ?_ | apply ite_inv | apply ite_pending
    | refine .upd rfl rfl rfl rfl rfl rfl rfl rfl ?_ | dsimp only

theorem execOutputTestPulseEnd_keeps (k : Fin 4) (ch : Fin 2) (off : Bool) (t : Tick) (s : State) :
    s.Keeps (execOutputTestPulseEnd k ch off t s) := by
  refine .silent ?_
  unfold execOutputTestPulseEnd
  dsimp only
  generalize s.silent = s
  repeat' with_reducible first
    | assumption | apply Keeps.ite | refine .next ?_ fun h => ?_ | apply ite_inv | apply ite_pending
    | refine (safRaise_pending ..).trans ?_ | apply safRaise_inv | refine (safFault_pending ..).trans ?_
    | apply safFault_inv | refine .upd rfl rfl rfl rfl rfl rfl rfl rfl ?_ | dsimp only

theorem execSafetyReset_keeps (t : Tick) (s : State) : s.Keeps (execSafetyReset t s) := by
  refine .silent ?_
  unfold execSafetyReset
  dsimp only
  generalize s.silent = s
  repeat' with_reducible first
    | assumption | apply Keeps.ite | refine .next ?_ fun h => ?_ | apply ite_inv | apply ite_pending
    | refine (clear_pending ..).trans ?_ | apply clear_inv | refine (clearWhere_pending ..).trans ?_
    | apply clearWhere_inv | refine (safDrive_pending ..).trans ?_ | apply safDrive_inv
    | refine .upd rfl rfl rfl rfl rfl rfl rfl rfl ?_ | dsimp only

theorem execResetStuckTimer_keeps (t : Tick) (s : State) : s.Keeps (execResetStuckTimer t s) := by
  refine .silent ?_
  unfold execResetStuckTimer
  dsimp only
  generalize s.silent = s
  repeat' with_reducible first
    | assumption | apply Keeps.ite | refine .next ?_ fun h => ?_ | apply ite_inv | apply ite_pending
    | refine (raise_pending ..).trans ?_ | apply raise_inv | dsimp only

theorem execCrossLinkExchange_keeps (clockOk : Bool) (t : Tick) (s : State) :
    s.Keeps (execCrossLinkExchange clockOk t s) := by
  refine .silent ?_
  unfold execCrossLinkExchange
  dsimp only
  generalize s.silent = s
  repeat' with_reducible first
    | assumption | apply Keeps.ite | refine .next ?_ fun h => ?_ | apply ite_inv | apply ite_pending
    | refine (safRaise_pending ..).trans ?_ | apply safRaise_inv | refine (safFault_pending ..).trans ?_
    | apply safFault_inv | refine (safEval_pending ..).trans ?_ | apply safEval_inv
    | refine .upd rfl rfl rfl rfl rfl rfl rfl rfl ?_ | dsimp only

theorem execSafetyStartTestsDone_keeps (outBad : BitVec 4) (inBad : Byte) (clockOk : Bool) (t : Tick) (s : State) :
    s.Keeps (execSafetyStartTestsDone outBad inBad clockOk t s) := by
  refine .silent ?_
  unfold execSafetyStartTestsDone
  dsimp only
  generalize s.silent = s
  repeat' with_reducible first
    | assumption | apply Keeps.ite | refine .next ?_ fun h => ?_ | apply ite_inv | apply ite_pending
    | refine (safRaise_pending ..).trans ?_ | apply safRaise_inv | refine (safFault_pending ..).trans ?_
    | apply safFault_inv | refine (safRun_pending ..).trans ?_ | apply safRun_inv | (apply foldl_inv; intro _ _ _)
    | refine (foldl_pending _ (fun _ _ => ?_) _ _).trans ?_ | refine .upd rfl rfl rfl rfl rfl rfl rfl rfl ?_
    | dsimp only

theorem execSafeFrameReceive_keeps (j : Fin 8) (ch : Fin 2) (frame : List Byte) (t : Tick) (s : State) :
    s.Keeps (execSafeFrameReceive j ch frame t s) := by
  refine .silent ?_
  unfold execSafeFrameReceive
  dsimp only
  generalize s.silent = s
  repeat' with_reducible first
    | assumption | apply Keeps.ite | refine .next ?_ fun h => ?_ | apply ite_inv | apply ite_pending
    | refine (safRaise_pending ..).trans ?_ | apply safRaise_inv | refine (safEval_pending ..).trans ?_
    | apply safEval_inv | split | refine .upd rfl rfl rfl rfl rfl rfl rfl rfl ?_ | dsimp only

theorem execSafeFrameProduce_keeps (j : Fin 8) (t : Tick) (s : State) : s.Keeps (execSafeFrameProduce j t s) := by
  refine .silent ?_
  unfold execSafeFrameProduce
  dsimp only
  generalize s.silent = s
  repeat' with_reducible first
    | assumption | apply Keeps.ite | refine .next ?_ fun h => ?_ | apply ite_inv | apply ite_pending
    | refine (emit_pending ..).trans ?_ | apply emit_inv | refine (sendSafe_pending ..).trans ?_ | apply sendSafe_inv
    | refine (safRaise_pending ..).trans ?_ | apply safRaise_inv | refine (safFault_pending ..).trans ?_
    | apply safFault_inv | refine .upd rfl rfl rfl rfl rfl rfl rfl rfl ?_ | dsimp only

theorem execSflWatchdogExpiry_keeps (j : Fin 8) (ch : Fin 2) (t : Tick) (s : State) :
    s.Keeps (execSflWatchdogExpiry j ch t s) := by
  refine .silent ?_
  unfold execSflWatchdogExpiry
  dsimp only
  generalize s.silent = s
  repeat' with_reducible first
    | assumption | apply Keeps.ite | refine .next ?_ fun h => ?_ | apply ite_inv | apply ite_pending
    | refine (safRaise_pending ..).trans ?_ | apply safRaise_inv | refine (safEval_pending ..).trans ?_
    | apply safEval_inv | refine .upd rfl rfl rfl rfl rfl rfl rfl rfl ?_ | dsimp only

end Sys2Proof.Machine
end

section
/-! SUPPORT. The commands of the synthesis, the scheduler, the thermal model, the loops, the lanes and the clocks leave
the queue as it is and keep the invariant. -/

namespace Sys2Proof.Machine

open State

theorem execGeneratorLoad_keeps (k : Fin 16) (s : State) : s.Keeps (execGeneratorLoad k s) := by
  refine .silent ?_
  unfold execGeneratorLoad
  dsimp only
  generalize s.silent = s
  repeat' with_reducible first
    | assumption | apply Keeps.ite | refine .next ?_ fun h => ?_ | apply ite_inv | apply ite_pending
    | refine (takeLoad_pending ..).trans ?_ | apply takeLoad_inv | split
    | refine .upd rfl rfl rfl rfl rfl rfl rfl rfl ?_ | dsimp only

theorem execDuctusLatch_keeps (bad : List (Fin 3072 × Fin 4 × Fin 10)) (s : State) :
    s.Keeps (execDuctusLatch bad s) := by
  refine .silent ?_
  unfold execDuctusLatch
  dsimp only
  generalize s.silent = s
  repeat' with_reducible first
    | assumption | apply Keeps.ite | refine .next ?_ fun h => ?_ | apply ite_inv | apply ite_pending
    | refine (standbyLatch_pending ..).trans ?_ | apply standbyLatch_inv | refine (takeCodes_pending ..).trans ?_
    | apply takeCodes_inv | refine (buildStep_pending ..).trans ?_ | apply buildStep_inv
    | refine (emptySegs_pending ..).trans ?_ | apply emptySegs_inv | refine (keepOwn_pending ..).trans ?_
    | apply keepOwn_inv | split | refine .upd rfl rfl rfl rfl rfl rfl rfl rfl ?_ | dsimp only

theorem execSchedPost_keeps (late : BitVec 16) (s : State) : s.Keeps (execSchedPost late s) := by
  refine .silent ?_
  unfold execSchedPost
  dsimp only
  generalize s.silent = s
  repeat' with_reducible first
    | assumption | refine .next ?_ fun h => ?_ | refine (postStack_pending ..).trans ?_ | apply postStack_inv
    | (apply foldl_inv; intro _ _ _) | refine (foldl_pending _ (fun _ _ => ?_) _ _).trans ?_
    | refine .upd rfl rfl rfl rfl rfl rfl rfl rfl ?_ | dsimp only

theorem execGovernorUpdate_keeps (die : BitVec 16) (s : State) : s.Keeps (execGovernorUpdate die s) := by
  refine .silent ?_
  unfold execGovernorUpdate
  dsimp only
  generalize s.silent = s
  repeat' with_reducible first
    | assumption | apply Keeps.ite | refine .next ?_ fun h => ?_ | apply ite_inv | apply ite_pending
    | refine (raise_pending ..).trans ?_ | apply raise_inv | refine (clear_pending ..).trans ?_ | apply clear_inv
    | refine .upd rfl rfl rfl rfl rfl rfl rfl rfl ?_ | dsimp only

theorem foldl_fst_keeps {α β : Type} {f : State × β → α → State × β}
    (h : ∀ a x, (f a x).1.pending = a.1.pending ∧ (a.1.Inv → (f a x).1.Inv)) (l : List α) (a : State × β) :
    (l.foldl f a).1.pending = a.1.pending ∧ (a.1.Inv → (l.foldl f a).1.Inv) := by
  induction l generalizing a with
  | nil => exact ⟨rfl, id⟩
  | cons x l ih => exact ⟨(ih _).1.trans (h a x).1, fun ha => (ih _).2 ((h a x).2 ha)⟩

theorem execThermalStep_keeps (mis : List (Fin 3072 × Fin 8)) (s : State) : s.Keeps (execThermalStep mis s) := by
  refine .silent ?_
  unfold execThermalStep
  generalize s.silent = s
  extract_lets s₀ ks r r' therm t
  have hr : r.1.pending = s.pending ∧ (s.Inv → r.1.Inv) := foldl_fst_keeps (fun a k => foldl_fst_keeps (fun b ci =>
    ⟨(judgeHeat_pending ..).trans (stepCell_pending ..),
      fun hb => judgeHeat_inv _ k ci (stepCell_inv b.1 k ci hb)⟩) _ a) _ _
  have hp : t.pending = s.pending :=
    ite_pending ((foldl_pending _ hottest_pending ks _).trans hr.1) ((foldl_pending _ hottest_pending ks _).trans hr.1)
  have hi (h : s.Inv) : t.Inv :=
    have hr' := foldl_inv _ hottest_inv ks _ (hr.2 h)
    ite_inv (.upd rfl rfl rfl rfl rfl rfl rfl rfl hr') hr'
  clear_value t
  dsimp only
  repeat' with_reducible first
    | refine .next ?_ fun h => ?_ | refine (mismatch_pending ..).trans ?_ | apply mismatch_inv
    | refine (judge_pending ..).trans ?_ | apply judge_inv | exact hp | exact hi h | split
    | refine .upd rfl rfl rfl rfl rfl rfl rfl rfl ?_

theorem execLoopBankRun_keeps (b : Fin 16) (s : State) : s.Keeps (execLoopBankRun b s) := by
  refine .silent ?_
  unfold execLoopBankRun
  dsimp only
  generalize s.silent = s
  repeat' with_reducible first
    | assumption | refine .next ?_ fun h => ?_ | refine (runBank_pending ..).trans ?_ | apply runBank_inv
    | dsimp only

theorem execLoopOutputStage_keeps (s : State) : s.Keeps (execLoopOutputStage s) := by
  refine .silent ?_
  unfold execLoopOutputStage
  dsimp only
  generalize s.silent = s
  repeat' with_reducible first
    | assumption | refine .next ?_ fun h => ?_ | refine (stageOutputs_pending ..).trans ?_ | apply stageOutputs_inv
    | (apply foldl_inv; intro _ _ _) | refine (foldl_pending _ (fun _ _ => ?_) _ _).trans ?_ | dsimp only

theorem execLoopOutputDeadline_keeps (s : State) : s.Keeps (execLoopOutputDeadline s) := by
  refine .silent ?_
  unfold execLoopOutputDeadline
  dsimp only
  generalize s.silent = s
  repeat' with_reducible first
    | assumption | refine .next ?_ fun h => ?_ | refine (raise_pending ..).trans ?_ | apply raise_inv | dsimp only

theorem execLaneSignalLoss_keeps (l : Fin 68) (t : Tick) (s : State) : s.Keeps (execLaneSignalLoss l t s) := by
  refine .silent ?_
  unfold execLaneSignalLoss
  dsimp only
  generalize s.silent = s
  repeat' with_reducible first
    | assumption | apply Keeps.ite | refine .next ?_ fun h => ?_ | apply ite_inv | apply ite_pending
    | refine (setLane_pending ..).trans ?_ | apply setLane_inv | refine (dropLocal_pending ..).trans ?_
    | apply dropLocal_inv | refine (raise_pending ..).trans ?_ | apply raise_inv
    | refine .upd rfl rfl rfl rfl rfl rfl rfl rfl ?_ | dsimp only

theorem execLaneNoSignalTimeout_keeps (l : Fin 68) (t : Tick) (s : State) :
    s.Keeps (execLaneNoSignalTimeout l t s) := by
  refine .silent ?_
  unfold execLaneNoSignalTimeout
  dsimp only
  generalize s.silent = s
  repeat' with_reducible first
    | assumption | apply Keeps.ite | refine .next ?_ fun h => ?_ | apply ite_inv | apply ite_pending
    | refine (raise_pending ..).trans ?_ | apply raise_inv | dsimp only

theorem execLaneSignalDetect_keeps (e : LaneAt) (s : State) : s.Keeps (execLaneSignalDetect e s) := by
  refine .silent ?_
  unfold execLaneSignalDetect
  dsimp only
  generalize s.silent = s
  repeat' with_reducible first
    | assumption | apply Keeps.ite | refine .next ?_ fun h => ?_ | apply ite_inv | apply ite_pending
    | refine (setLane_pending ..).trans ?_ | apply setLane_inv | refine (startAcquire_pending ..).trans ?_
    | apply startAcquire_inv | refine .upd rfl rfl rfl rfl rfl rfl rfl rfl ?_ | dsimp only

theorem execEqSweepDone_keeps (l : Fin 68) (eyes : List Nat) (t : Tick) (s : State) :
    s.Keeps (execEqSweepDone l eyes t s) := by
  refine .silent ?_
  unfold execEqSweepDone
  dsimp only
  generalize s.silent = s
  repeat' with_reducible first
    | assumption | apply Keeps.ite | refine .next ?_ fun h => ?_ | apply ite_inv | apply ite_pending
    | refine (setLane_pending ..).trans ?_ | apply setLane_inv | refine (raise_pending ..).trans ?_ | apply raise_inv
    | refine (clear_pending ..).trans ?_ | apply clear_inv | split | refine .upd rfl rfl rfl rfl rfl rfl rfl rfl ?_
    | dsimp only

theorem execLaneSyncAcquire_keeps (l : Fin 68) (pos : Fin 20) (t : Tick) (s : State) :
    s.Keeps (execLaneSyncAcquire l pos t s) := by
  refine .silent ?_
  unfold execLaneSyncAcquire
  dsimp only
  generalize s.silent = s
  repeat' with_reducible first
    | assumption | apply Keeps.ite | refine .next ?_ fun h => ?_ | apply ite_inv | apply ite_pending
    | refine (setLane_pending ..).trans ?_ | apply setLane_inv | refine (declareSync_pending ..).trans ?_
    | apply declareSync_inv | refine .upd rfl rfl rfl rfl rfl rfl rfl rfl ?_ | dsimp only

theorem execLaneSyncDrop_keeps (l : Fin 68) (cdrLost : Bool) (t : Tick) (s : State) :
    s.Keeps (execLaneSyncDrop l cdrLost t s) := by
  refine .silent ?_
  unfold execLaneSyncDrop
  dsimp only
  generalize s.silent = s
  repeat' with_reducible first
    | assumption | apply Keeps.ite | refine .next ?_ fun h => ?_ | apply ite_inv | apply ite_pending
    | refine (syncLost_pending ..).trans ?_ | apply syncLost_inv | dsimp only

theorem execLaneCodeViolation_keeps (l : Fin 68) (t : Tick) (s : State) :
    s.Keeps (execLaneCodeViolation l t s) := by
  refine .silent ?_
  unfold execLaneCodeViolation
  dsimp only
  generalize s.silent = s
  repeat' with_reducible first
    | assumption | apply Keeps.ite | refine .next ?_ fun h => ?_ | apply ite_inv | apply ite_pending
    | refine (setLane_pending ..).trans ?_ | apply setLane_inv | refine (satEvent_pending ..).trans ?_
    | apply satEvent_inv | refine (syncLost_pending ..).trans ?_ | apply syncLost_inv
    | refine .upd rfl rfl rfl rfl rfl rfl rfl rfl ?_ | dsimp only

theorem execCommaHuntExpiry_keeps (l : Fin 68) (t : Tick) (s : State) : s.Keeps (execCommaHuntExpiry l t s) := by
  refine .silent ?_
  unfold execCommaHuntExpiry
  dsimp only
  generalize s.silent = s
  repeat' with_reducible first
    | assumption | apply Keeps.ite | refine .next ?_ fun h => ?_ | apply ite_inv | apply ite_pending
    | refine (raise_pending ..).trans ?_ | apply raise_inv | refine (setLane_pending ..).trans ?_ | apply setLane_inv
    | refine .upd rfl rfl rfl rfl rfl rfl rfl rfl ?_ | dsimp only

theorem execSlipDecodeCount_keeps (l : Fin 68) (t : Tick) (s : State) : s.Keeps (execSlipDecodeCount l t s) := by
  refine .silent ?_
  unfold execSlipDecodeCount
  dsimp only
  generalize s.silent = s
  repeat' with_reducible first
    | assumption | apply Keeps.ite | refine .next ?_ fun h => ?_ | apply ite_inv | apply ite_pending
    | refine (declareSync_pending ..).trans ?_ | apply declareSync_inv | refine (setLane_pending ..).trans ?_
    | apply setLane_inv | refine .upd rfl rfl rfl rfl rfl rfl rfl rfl ?_ | dsimp only

theorem execLaneErrInterval_keeps (l : Fin 68) (t : Tick) (s : State) : s.Keeps (execLaneErrInterval l t s) := by
  refine .silent ?_
  unfold execLaneErrInterval
  dsimp only
  generalize s.silent = s
  repeat' with_reducible first
    | assumption | apply Keeps.ite | refine .next ?_ fun h => ?_ | apply ite_inv | apply ite_pending
    | refine (setLane_pending ..).trans ?_ | apply setLane_inv | refine (raise_pending ..).trans ?_ | apply raise_inv
    | refine (clear_pending ..).trans ?_ | apply clear_inv | refine .upd rfl rfl rfl rfl rfl rfl rfl rfl ?_
    | dsimp only

theorem execTxBiasFault_keeps (l : Fin 68) (t : Tick) (s : State) : s.Keeps (execTxBiasFault l t s) := by
  refine .silent ?_
  unfold execTxBiasFault
  dsimp only
  generalize s.silent = s
  repeat' with_reducible first
    | assumption | apply Keeps.ite | refine .next ?_ fun h => ?_ | apply ite_inv | apply ite_pending
    | refine (setLane_pending ..).trans ?_ | apply setLane_inv | refine (raise_pending ..).trans ?_ | apply raise_inv
    | refine .upd rfl rfl rfl rfl rfl rfl rfl rfl ?_ | dsimp only

theorem execTxBiasRecover_keeps (l : Fin 68) (t : Tick) (s : State) : s.Keeps (execTxBiasRecover l t s) := by
  refine .silent ?_
  unfold execTxBiasRecover
  dsimp only
  generalize s.silent = s
  repeat' with_reducible first
    | assumption | apply Keeps.ite | refine .next ?_ fun h => ?_ | apply ite_inv | apply ite_pending
    | refine (setLane_pending ..).trans ?_ | apply setLane_inv | refine (clear_pending ..).trans ?_ | apply clear_inv
    | refine .upd rfl rfl rfl rfl rfl rfl rfl rfl ?_ | dsimp only

theorem execElectricalIdleEntry_keeps (l : Fin 68) (s : State) : s.Keeps (execElectricalIdleEntry l s) := by
  refine .silent ?_
  unfold execElectricalIdleEntry
  dsimp only
  generalize s.silent = s
  repeat' with_reducible first
    | assumption | apply Keeps.ite | refine .next ?_ fun h => ?_ | apply ite_inv | apply ite_pending
    | refine (emit_pending ..).trans ?_ | apply emit_inv | refine (setLane_pending ..).trans ?_ | apply setLane_inv
    | refine (dropLocal_pending ..).trans ?_ | apply dropLocal_inv | refine .upd rfl rfl rfl rfl rfl rfl rfl rfl ?_
    | dsimp only

theorem execIdleExit_keeps (l : Fin 68) (s : State) : s.Keeps (execIdleExit l s) := by
  refine .silent ?_
  unfold execIdleExit
  dsimp only
  generalize s.silent = s
  repeat' with_reducible first
    | assumption | apply Keeps.ite | refine .next ?_ fun h => ?_ | apply ite_inv | apply ite_pending
    | refine (emit_pending ..).trans ?_ | apply emit_inv | refine (setLane_pending ..).trans ?_ | apply setLane_inv
    | refine .upd rfl rfl rfl rfl rfl rfl rfl rfl ?_ | dsimp only

theorem execClockLockDeclare_keeps (i : Fin 17) (errs : List Int) (t : Tick) (s : State) :
    s.Keeps (execClockLockDeclare i errs t s) := by
  refine .silent ?_
  unfold execClockLockDeclare
  dsimp only
  generalize s.silent = s
  repeat' with_reducible first
    | assumption | apply Keeps.ite | refine .next ?_ fun h => ?_ | apply ite_inv | apply ite_pending
    | refine (loopMeasured_pending ..).trans ?_ | apply loopMeasured_inv | refine (setLoop_pending ..).trans ?_
    | apply setLoop_inv | refine (clear_pending ..).trans ?_ | apply clear_inv | refine (raise_pending ..).trans ?_
    | apply raise_inv | refine (timeJudge_pending ..).trans ?_ | apply timeJudge_inv
    | refine .upd rfl rfl rfl rfl rfl rfl rfl rfl ?_ | dsimp only

theorem execClockLockLoss_keeps (i : Fin 17) (errs : List Int) (t : Tick) (s : State) :
    s.Keeps (execClockLockLoss i errs t s) := by
  refine .silent ?_
  unfold execClockLockLoss
  dsimp only
  generalize s.silent = s
  repeat' with_reducible first
    | assumption | apply Keeps.ite | refine .next ?_ fun h => ?_ | apply ite_inv | apply ite_pending
    | refine (loopMeasured_pending ..).trans ?_ | apply loopMeasured_inv | refine (setLoop_pending ..).trans ?_
    | apply setLoop_inv | refine (raise_pending ..).trans ?_ | apply raise_inv
    | refine (timeJudge_pending ..).trans ?_ | apply timeJudge_inv | refine .upd rfl rfl rfl rfl rfl rfl rfl rfl ?_
    | dsimp only

theorem execReferenceEdgeMissing_keeps (t : Tick) (s : State) : s.Keeps (execReferenceEdgeMissing t s) := by
  refine .silent ?_
  unfold execReferenceEdgeMissing
  dsimp only
  generalize s.silent = s
  repeat' with_reducible first
    | assumption | apply Keeps.ite | refine .next ?_ fun h => ?_ | apply ite_inv | apply ite_pending
    | refine (refLost_pending ..).trans ?_ | apply refLost_inv | refine (raise_pending ..).trans ?_ | apply raise_inv
    | refine (timeJudge_pending ..).trans ?_ | apply timeJudge_inv | dsimp only

theorem execReferenceReturn_keeps (i : Fin 17) (phase : Int) (s : State) :
    s.Keeps (execReferenceReturn i phase s) := by
  refine .silent ?_
  unfold execReferenceReturn
  dsimp only
  generalize s.silent = s
  repeat' with_reducible first
    | assumption | apply Keeps.ite | refine .next ?_ fun h => ?_ | apply ite_inv | apply ite_pending
    | refine (setLoop_pending ..).trans ?_ | apply setLoop_inv | refine .upd rfl rfl rfl rfl rfl rfl rfl rfl ?_
    | dsimp only

theorem execLaneWalkDone_keeps (i : Fin 17) (s : State) : s.Keeps (execLaneWalkDone i s) := by
  refine .silent ?_
  unfold execLaneWalkDone
  dsimp only
  generalize s.silent = s
  repeat' with_reducible first
    | assumption | refine .next ?_ fun h => ?_ | refine (setLoop_pending ..).trans ?_ | apply setLoop_inv
    | dsimp only

theorem execBondMarkerReceive_keeps (l : Fin 4) (b1 b2 b3 : Byte) (offset : BitVec 32) (t : Tick) (s : State) :
    s.Keeps (execBondMarkerReceive l b1 b2 b3 offset t s) := by
  refine .silent ?_
  unfold execBondMarkerReceive
  dsimp only
  generalize s.silent = s
  repeat' with_reducible first
    | assumption | apply Keeps.ite | refine .next ?_ fun h => ?_ | apply ite_inv | apply ite_pending
    | refine (bondJudge_pending ..).trans ?_ | apply bondJudge_inv | refine (bondProposal_pending ..).trans ?_
    | apply bondProposal_inv | refine (pairTimeTake_pending ..).trans ?_ | apply pairTimeTake_inv
    | refine .upd rfl rfl rfl rfl rfl rfl rfl rfl ?_ | dsimp only

theorem execBondWidthSwitch_keeps (s : State) : s.Keeps (execBondWidthSwitch s) := by
  refine .silent ?_
  unfold execBondWidthSwitch
  dsimp only
  generalize s.silent = s
  repeat' with_reducible first
    | assumption | apply Keeps.ite | refine .next ?_ fun h => ?_ | apply ite_inv | apply ite_pending
    | refine (bondTake_pending ..).trans ?_ | apply bondTake_inv | split
    | refine .upd rfl rfl rfl rfl rfl rfl rfl rfl ?_ | dsimp only

theorem execBondLaneRejoin_keeps (l : Fin 4) (s : State) : s.Keeps (execBondLaneRejoin l s) := by
  refine .silent ?_
  unfold execBondLaneRejoin
  dsimp only
  generalize s.silent = s
  repeat' with_reducible first
    | assumption | apply Keeps.ite | refine .next ?_ fun h => ?_ | apply ite_inv | apply ite_pending
    | refine (setLocal_pending ..).trans ?_ | apply setLocal_inv | dsimp only

theorem execCoastLimitExpiry_keeps (i : Fin 17) (t : Tick) (s : State) : s.Keeps (execCoastLimitExpiry i t s) := by
  refine .silent ?_
  unfold execCoastLimitExpiry
  dsimp only
  generalize s.silent = s
  repeat' with_reducible first
    | assumption | apply Keeps.ite | refine .next ?_ fun h => ?_ | apply ite_inv | apply ite_pending
    | refine (raise_pending ..).trans ?_ | apply raise_inv | refine (setLocal_pending ..).trans ?_
    | apply setLocal_inv | refine (bondJudge_pending ..).trans ?_ | apply bondJudge_inv | split
    | refine .upd rfl rfl rfl rfl rfl rfl rfl rfl ?_ | dsimp only

theorem execHoldoverTimeout_keeps (t : Tick) (s : State) : s.Keeps (execHoldoverTimeout t s) := by
  refine .silent ?_
  unfold execHoldoverTimeout
  dsimp only
  generalize s.silent = s
  repeat' with_reducible first
    | assumption | apply Keeps.ite | refine .next ?_ fun h => ?_ | apply ite_inv | apply ite_pending
    | refine (timeJudge_pending ..).trans ?_ | apply timeJudge_inv | refine .upd rfl rfl rfl rfl rfl rfl rfl rfl ?_
    | dsimp only

theorem execSlewEnd_keeps (t : Tick) (s : State) : s.Keeps (execSlewEnd t s) := by
  refine .silent ?_
  unfold execSlewEnd
  dsimp only
  generalize s.silent = s
  repeat' with_reducible first
    | assumption | refine .next ?_ fun h => ?_ | refine (slewDone_pending ..).trans ?_ | apply slewDone_inv
    | dsimp only

theorem execDeferredTimeStep_keeps (t : Tick) (s : State) : s.Keeps (execDeferredTimeStep t s) := by
  refine .silent ?_
  unfold execDeferredTimeStep
  dsimp only
  generalize s.silent = s
  repeat' with_reducible first
    | assumption | apply Keeps.ite | refine .next ?_ fun h => ?_ | apply ite_inv | apply ite_pending
    | refine (timeStep_pending ..).trans ?_ | apply timeStep_inv | split
    | refine .upd rfl rfl rfl rfl rfl rfl rfl rfl ?_ | dsimp only

end Sys2Proof.Machine
end

section
/-! SUPPORT. The commands of recovery, supervision, the strokes, the cells and the analogue inputs leave the queue as
it is and keep the invariant. -/

namespace Sys2Proof.Machine

open State

theorem execQuietPeriodEnd_keeps (src : Fin 3088) (s : State) : s.Keeps (execQuietPeriodEnd src s) := by
  refine .silent ?_
  unfold execQuietPeriodEnd
  dsimp only
  generalize s.silent = s
  repeat' with_reducible first
    | assumption | apply Keeps.ite | refine .next ?_ fun h => ?_ | apply ite_inv | apply ite_pending
    | refine (setRec_pending ..).trans ?_ | apply setRec_inv | refine (raise_pending ..).trans ?_ | apply raise_inv
    | refine (endEvent_pending ..).trans ?_ | apply endEvent_inv | refine (recoverCell_pending ..).trans ?_
    | apply recoverCell_inv | (apply foldl_inv; intro _ _ _) | refine (foldl_pending _ (fun _ _ => ?_) _ _).trans ?_
    | refine .upd rfl rfl rfl rfl rfl rfl rfl rfl ?_ | dsimp only

theorem execStackRelease_keeps (k : Fin 16) (s : State) : s.Keeps (execStackRelease k s) := by
  refine .silent ?_
  unfold execStackRelease
  dsimp only
  generalize s.silent = s
  repeat' with_reducible first
    | assumption | apply Keeps.ite | refine .next ?_ fun h => ?_ | apply ite_inv | apply ite_pending
    | refine .upd rfl rfl rfl rfl rfl rfl rfl rfl ?_ | dsimp only

theorem execClrSend_keeps (s : State) : s.Keeps (execClrSend s) := by
  refine .silent ?_
  unfold execClrSend
  dsimp only
  generalize s.silent = s
  repeat' with_reducible first
    | assumption | apply Keeps.ite | refine .next ?_ fun h => ?_ | apply ite_inv | apply ite_pending
    | refine (urgent_pending ..).trans ?_ | apply urgent_inv | (apply foldl_inv; intro _ _ _)
    | refine (foldl_pending _ (fun _ _ => ?_) _ _).trans ?_ | refine .upd rfl rfl rfl rfl rfl rfl rfl rfl ?_
    | dsimp only

theorem execEventQueueCopy_keeps (s : State) : s.Keeps (execEventQueueCopy s) := by
  refine .silent ?_
  unfold execEventQueueCopy
  dsimp only
  generalize s.silent = s
  repeat' with_reducible first
    | assumption | apply Keeps.ite | refine .next ?_ fun h => ?_ | apply ite_inv | apply ite_pending
    | refine (copyEvents_pending ..).trans ?_ | apply copyEvents_inv | refine (raise_pending ..).trans ?_
    | apply raise_inv | refine .upd rfl rfl rfl rfl rfl rfl rfl rfl ?_ | dsimp only

theorem execJournalWrite_keeps (region : Fin 9) (ok1 ok2 : Bool) (s : State) :
    s.Keeps (execJournalWrite region ok1 ok2 s) := by
  refine .silent ?_
  unfold execJournalWrite
  generalize s.silent = s
  refine .ite (.next rfl id) (.next ((satEvent_pending ..).trans (raise_pending ..)) fun h => ?_)
  have hlog : (if (region : Nat) = 0 then s.jrnl.events.dropLast else s.jrnl.events).length ≤ 65536 := by
    have := h.log
    split
    · rw [List.length_dropLast]
      omega
    · exact this
  exact satEvent_inv _ _ _ _ (raise_inv _ _ _ _ _ ⟨h.grant, h.live, h.out, h.queue, hlog, h.stamps, h.mem⟩)

theorem execLifetimeSecond_keeps (s : State) : s.Keeps (execLifetimeSecond s) := by
  refine .silent ?_
  unfold execLifetimeSecond
  dsimp only
  generalize s.silent = s
  repeat' with_reducible first
    | assumption | apply Keeps.ite | refine .next ?_ fun h => ?_ | apply ite_inv | apply ite_pending
    | refine .upd rfl rfl rfl rfl rfl rfl rfl rfl ?_ | dsimp only

theorem execSupervisionProcess_keeps (s : State) : s.Keeps (execSupervisionProcess s) := by
  refine .silent ?_
  unfold execSupervisionProcess
  dsimp only
  generalize s.silent = s
  repeat' with_reducible first
    | assumption | refine .next ?_ fun h => ?_ | refine (supervise_pending ..).trans ?_ | apply supervise_inv
    | (apply foldl_inv; intro _ _ _) | refine (foldl_pending _ (fun _ _ => ?_) _ _).trans ?_
    | refine .upd rfl rfl rfl rfl rfl rfl rfl rfl ?_ | dsimp only

theorem execWearJournalPeriod_keeps (s : State) : s.Keeps (execWearJournalPeriod s) := by
  refine .silent ?_
  unfold execWearJournalPeriod
  dsimp only
  generalize s.silent = s
  repeat' with_reducible first
    | assumption | refine .next ?_ fun h => ?_ | refine (storeWear_pending ..).trans ?_ | apply storeWear_inv
    | (apply foldl_inv; intro _ _ _) | refine (foldl_pending _ (fun _ _ => ?_) _ _).trans ?_ | dsimp only

theorem execStrokeLaunch_keeps (s : State) : s.Keeps (execStrokeLaunch s) := by
  refine .silent ?_
  unfold execStrokeLaunch
  dsimp only
  generalize s.silent = s
  repeat' with_reducible first
    | assumption | apply Keeps.ite | refine .next ?_ fun h => ?_ | apply ite_inv | apply ite_pending
    | refine (launchPort_pending ..).trans ?_ | apply launchPort_inv | (apply foldl_inv; intro _ _ _)
    | refine (foldl_pending _ (fun _ _ => ?_) _ _).trans ?_ | dsimp only

theorem execStrokeHeaderReturn_keeps (p : Fin 64) (hdr : List Byte) (t : Tick) (s : State) :
    s.Keeps (execStrokeHeaderReturn p hdr t s) := by
  refine .silent ?_
  unfold execStrokeHeaderReturn
  dsimp only
  generalize s.silent = s
  repeat' with_reducible first
    | assumption | apply Keeps.ite | refine .next ?_ fun h => ?_ | apply ite_inv | apply ite_pending
    | refine (emit_pending ..).trans ?_ | apply emit_inv | refine (setStr_pending ..).trans ?_ | apply setStr_inv
    | refine (strErr_pending ..).trans ?_ | apply strErr_inv | refine (lineHeader_pending ..).trans ?_
    | apply lineHeader_inv | refine (ringHeader_pending ..).trans ?_ | apply ringHeader_inv
    | refine .upd rfl rfl rfl rfl rfl rfl rfl rfl ?_ | dsimp only

theorem execEcr_keeps (a : EchoAt) (d : SetData) (ok : Bool) (at_ : EchoStamp) (s : State) :
    s.Keeps (execEcr a d ok at_ s) := by
  refine .silent ?_
  unfold execEcr
  dsimp only
  generalize s.silent = s
  repeat' with_reducible first
    | assumption | apply Keeps.ite | refine .next ?_ fun h => ?_ | apply ite_inv | apply ite_pending
    | refine (nibForward_pending ..).trans ?_ | apply nibForward_inv | refine (echoTake_pending ..).trans ?_
    | apply echoTake_inv | split | refine .upd rfl rfl rfl rfl rfl rfl rfl rfl ?_ | dsimp only

theorem execTelemetrySlotReceive_keeps (p : Fin 64) (pos : Fin 96) (slot : List Byte) (err : Bool) (t : Tick)
    (s : State) :
    s.Keeps (execTelemetrySlotReceive p pos slot err t s) := by
  refine .silent ?_
  unfold execTelemetrySlotReceive
  dsimp only
  generalize s.silent = s
  repeat' with_reducible first
    | assumption | apply Keeps.ite | refine .next ?_ fun h => ?_ | apply ite_inv | apply ite_pending
    | refine (strErr_pending ..).trans ?_ | apply strErr_inv | refine (setCell_pending ..).trans ?_
    | apply setCell_inv | refine (raise_pending ..).trans ?_ | apply raise_inv
    | refine (takeReply_pending ..).trans ?_ | apply takeReply_inv | refine (slotEnter_pending ..).trans ?_
    | apply slotEnter_inv | refine .upd rfl rfl rfl rfl rfl rfl rfl rfl ?_ | dsimp only

theorem execLostLimitExpiry_keeps (ci : Fin 3072) (s : State) : s.Keeps (execLostLimitExpiry ci s) := by
  refine .silent ?_
  unfold execLostLimitExpiry
  dsimp only
  generalize s.silent = s
  repeat' with_reducible first
    | assumption | apply Keeps.ite | refine .next ?_ fun h => ?_ | apply ite_inv | apply ite_pending
    | refine (opEnd_pending ..).trans ?_ | apply opEnd_inv | refine (raise_pending ..).trans ?_ | apply raise_inv
    | dsimp only

theorem execTelemetryCutoff_keeps (s : State) : s.Keeps (execTelemetryCutoff s) := by
  refine .silent ?_
  unfold execTelemetryCutoff
  dsimp only
  generalize s.silent = s
  repeat' with_reducible first
    | assumption | apply Keeps.ite | refine .next ?_ fun h => ?_ | apply ite_inv | apply ite_pending
    | refine (cutCell_pending ..).trans ?_ | apply cutCell_inv | refine (cutLeft_pending ..).trans ?_
    | apply cutLeft_inv | refine (unexpectedGone_pending ..).trans ?_ | apply unexpectedGone_inv
    | refine (cutFound_pending ..).trans ?_ | apply cutFound_inv | refine (aiAges_pending ..).trans ?_
    | apply aiAges_inv | refine (cutAi_pending ..).trans ?_ | apply cutAi_inv | refine (cutStack_pending ..).trans ?_
    | apply cutStack_inv | refine (cutQuants_pending ..).trans ?_ | apply cutQuants_inv
    | (apply foldl_inv; intro _ _ _) | refine (foldl_pending _ (fun _ _ => ?_) _ _).trans ?_
    | refine .upd rfl rfl rfl rfl rfl rfl rfl rfl ?_ | dsimp only

theorem execEnumReplyTimeout_keeps (ci : Fin 3072) (s : State) : s.Keeps (execEnumReplyTimeout ci s) := by
  refine .silent ?_
  unfold execEnumReplyTimeout
  dsimp only
  generalize s.silent = s
  repeat' with_reducible first
    | assumption | apply Keeps.ite | refine .next ?_ fun h => ?_ | apply ite_inv | apply ite_pending
    | refine (setMg_pending ..).trans ?_ | apply setMg_inv | refine (enumMissing_pending ..).trans ?_
    | apply enumMissing_inv | refine (enumDone_pending ..).trans ?_ | apply enumDone_inv
    | refine .upd rfl rfl rfl rfl rfl rfl rfl rfl ?_ | dsimp only

theorem execEnumerationComplete_keeps (p : Fin 64) (s : State) : s.Keeps (execEnumerationComplete p s) := by
  refine .silent ?_
  unfold execEnumerationComplete
  dsimp only
  generalize s.silent = s
  repeat' with_reducible first
    | assumption | apply Keeps.ite | refine .next ?_ fun h => ?_ | apply ite_inv | apply ite_pending
    | refine (setStr_pending ..).trans ?_ | apply setStr_inv | refine (clear_pending ..).trans ?_ | apply clear_inv
    | refine (raise_pending ..).trans ?_ | apply raise_inv | refine (opEnd_pending ..).trans ?_ | apply opEnd_inv
    | refine .upd rfl rfl rfl rfl rfl rfl rfl rfl ?_ | dsimp only

theorem execAdmissionStepProceed_keeps (ci : Fin 3072) (s : State) : s.Keeps (execAdmissionStepProceed ci s) := by
  refine .silent ?_
  unfold execAdmissionStepProceed
  dsimp only
  generalize s.silent = s
  repeat' with_reducible first
    | assumption | apply Keeps.ite | refine .next ?_ fun h => ?_ | apply ite_inv | apply ite_pending
    | refine (toStep_pending ..).trans ?_ | apply toStep_inv | refine (admitMeasure_pending ..).trans ?_
    | apply admitMeasure_inv | refine (endEpoch_pending ..).trans ?_ | apply endEpoch_inv
    | refine (request_pending ..).trans ?_ | apply request_inv | refine (admitGranted_pending ..).trans ?_
    | apply admitGranted_inv | split | refine .upd rfl rfl rfl rfl rfl rfl rfl rfl ?_ | dsimp only

theorem execAdmissionTimerExpiry_keeps (ci : Fin 3072) (s : State) : s.Keeps (execAdmissionTimerExpiry ci s) := by
  refine .silent ?_
  unfold execAdmissionTimerExpiry
  dsimp only
  generalize s.silent = s
  repeat' with_reducible first
    | assumption | apply Keeps.ite | refine .next ?_ fun h => ?_ | apply ite_inv | apply ite_pending
    | refine (opEnd_pending ..).trans ?_ | apply opEnd_inv | refine (raise_pending ..).trans ?_ | apply raise_inv
    | refine (backToFound_pending ..).trans ?_ | apply backToFound_inv | dsimp only

theorem execPrechargePhaseComplete_keeps (k : Fin 16) (s : State) : s.Keeps (execPrechargePhaseComplete k s) := by
  refine .silent ?_
  unfold execPrechargePhaseComplete
  dsimp only
  generalize s.silent = s
  repeat' with_reducible first
    | assumption | apply Keeps.ite | refine .next ?_ fun h => ?_ | apply ite_inv | apply ite_pending
    | refine (setSchStack_pending ..).trans ?_ | apply setSchStack_inv | refine (phaseEnd_pending ..).trans ?_
    | apply phaseEnd_inv | refine (opUpd_pending ..).trans ?_ | apply opUpd_inv | refine (opEnd_pending ..).trans ?_
    | apply opEnd_inv | refine (setMode_pending ..).trans ?_ | apply setMode_inv | split
    | refine .upd rfl rfl rfl rfl rfl rfl rfl rfl ?_ | dsimp only

theorem execPrechargeTimeout_keeps (s : State) : s.Keeps (execPrechargeTimeout s) := by
  refine .silent ?_
  unfold execPrechargeTimeout
  dsimp only
  generalize s.silent = s
  repeat' with_reducible first
    | assumption | apply Keeps.ite | refine .next ?_ fun h => ?_ | apply ite_inv | apply ite_pending
    | refine (endPrecharge_pending ..).trans ?_ | apply endPrecharge_inv | split
    | refine .upd rfl rfl rfl rfl rfl rfl rfl rfl ?_ | dsimp only

theorem execAdcConversionSlot_keeps (sl : Fin 20) (s : State) : s.Keeps (execAdcConversionSlot sl s) := by
  refine .silent ?_
  unfold execAdcConversionSlot
  dsimp only
  generalize s.silent = s
  repeat' with_reducible first
    | assumption | apply Keeps.ite | refine .next ?_ fun h => ?_ | apply ite_inv | apply ite_pending
    | refine (setConv_pending ..).trans ?_ | apply setConv_inv | refine (raise_pending ..).trans ?_ | apply raise_inv
    | (apply foldl_inv; intro _ _ _) | refine (foldl_pending _ (fun _ _ => ?_) _ _).trans ?_
    | refine .upd rfl rfl rfl rfl rfl rfl rfl rfl ?_ | dsimp only

theorem execAdcConversionComplete_keeps (k : Fin 4) (pins : PinPair) (edge : Bool) (s : State) :
    s.Keeps (execAdcConversionComplete k pins edge s) := by
  refine .silent ?_
  unfold execAdcConversionComplete
  dsimp only
  generalize s.silent = s
  repeat' with_reducible first
    | assumption | apply Keeps.ite | refine .next ?_ fun h => ?_ | apply ite_inv | apply ite_pending
    | refine (setConv_pending ..).trans ?_ | apply setConv_inv | refine (adcResult_pending ..).trans ?_
    | apply adcResult_inv | refine (cimWrite_pending ..).trans ?_ | apply cimWrite_inv
    | refine (overRange_pending ..).trans ?_ | apply overRange_inv | refine (threshold_pending ..).trans ?_
    | apply threshold_inv | split | (apply foldl_inv; intro _ _ _)
    | refine (foldl_pending _ (fun _ _ => ?_) _ _).trans ?_ | refine .upd rfl rfl rfl rfl rfl rfl rfl rfl ?_
    | dsimp only

end Sys2Proof.Machine
end

section
/-! SUPPORT. The commands of boot, the Inkwell, the network, the CAN controllers and the supply leave the queue as it
is and keep the invariant. -/

namespace Sys2Proof.Machine

open State

theorem execPowerUp_keeps (_f : Feed) (s : State) : s.Keeps (execPowerUp _f s) := by
  refine .silent ?_
  unfold execPowerUp
  dsimp only
  generalize s.silent = s
  repeat' with_reducible first
    | assumption | apply Keeps.ite | refine .next ?_ fun h => ?_ | apply ite_inv | apply ite_pending
    | refine (bootStart_pending ..).trans ?_ | apply bootStart_inv | dsimp only

theorem execImageVerifyComplete_keeps (ok0 ok1 : Bool) (s : State) :
    s.Keeps (execImageVerifyComplete ok0 ok1 s) := by
  refine .silent ?_
  unfold execImageVerifyComplete
  dsimp only
  generalize s.silent = s
  repeat' with_reducible first
    | assumption | apply Keeps.ite | refine .next ?_ fun h => ?_ | apply ite_inv | apply ite_pending
    | refine (bootRecord_pending ..).trans ?_ | apply bootRecord_inv | refine (safRaise_pending ..).trans ?_
    | apply safRaise_inv | refine (raise_pending ..).trans ?_ | apply raise_inv | split
    | (apply foldl_inv; intro _ _ _) | refine (foldl_pending _ (fun _ _ => ?_) _ _).trans ?_
    | refine .upd rfl rfl rfl rfl rfl rfl rfl rfl ?_ | dsimp only

/-- The invariant asks LIVE to be high only of a side that asserts TOK_OUT. -/
theorem State.Inv.liveHigh {s t : State} (h : s.Inv) (hpair : t.pair = s.pair) (hlive : t.sys.live = true)
    (hevt : t.evt = s.evt) (hevents : t.jrnl.events = s.jrnl.events) (hstamps : t.jrnl.stamps = s.jrnl.stamps)
    (hink : t.ink = s.ink) : t.Inv := by
  refine ⟨?_, fun _ => hlive, ?_, ?_, ?_, ?_, ?_⟩
  · rw [hpair]; exact h.grant
  · rw [hpair]; exact h.out
  · rw [hevt]; exact h.queue
  · rw [hevents]; exact h.log
  · rw [hstamps]; exact h.stamps
  · rw [hink]; exact h.mem

theorem execStartComplete_keeps (ms : BitVec 16) (bad : List (Fin 9 × Nat)) (s : State) :
    s.Keeps (execStartComplete ms bad s) := by
  refine .silent ?_
  unfold execStartComplete
  generalize s.silent = s
  extract_lets s₀ s₁ s₂ init s₃ s₄ svn up sys boot jrnl s₅ s₆
  have h₄ : s₄.pending = s.pending ∧ (s.Inv → s₄.Inv) := by
    repeat' with_reducible first
      | refine ⟨?_, fun h => ?_⟩ | assumption | refine (raise_pending ..).trans ?_ | apply raise_inv
      | refine (setWord_pending ..).trans ?_ | apply setWord_inv | refine (resetPages_pending ..).trans ?_
      | apply resetPages_inv | refine (setSupSw_pending ..).trans ?_ | apply setSupSw_inv
      | refine (recordBad_pending ..).trans ?_ | apply recordBad_inv | apply ite_inv | apply ite_pending
      | (apply foldl_inv; intro _ _ _) | refine (foldl_pending _ (fun _ _ => ?_) _ _).trans ?_ | rfl
  have h₅ (h : s.Inv) : s₅.Inv := (h₄.2 h).liveHigh rfl rfl rfl rfl rfl rfl
  have p₆ : s₆.pending = s.pending := ite_pending ((raise_pending ..).trans h₄.1) h₄.1
  have h₆ (h : s.Inv) : s₆.Inv := ite_inv (raise_inv _ _ _ _ _ (h₅ h)) (h₅ h)
  exact .ite (.next rfl id) (.next (((bootRecord_pending ..).trans (setMode_pending ..)).trans p₆) fun h =>
    bootRecord_inv _ _ _ (setMode_inv _ _ _ (h₆ h)))

theorem execBootLockTimeout_keeps (s : State) : s.Keeps (execBootLockTimeout s) := by
  refine .silent ?_
  unfold execBootLockTimeout
  dsimp only
  generalize s.silent = s
  repeat' with_reducible first
    | assumption | apply Keeps.ite | refine .next ?_ fun h => ?_ | apply ite_inv | apply ite_pending
    | refine (bootRecord_pending ..).trans ?_ | apply bootRecord_inv | refine .upd rfl rfl rfl rfl rfl rfl rfl rfl ?_
    | dsimp only

theorem execWatchdogRestart_keeps (s : State) : s.Keeps (execWatchdogRestart s) := by
  refine .silent ?_
  unfold execWatchdogRestart
  dsimp only
  generalize s.silent = s
  repeat' with_reducible first
    | assumption | apply Keeps.ite | refine .next ?_ fun h => ?_ | apply ite_inv | apply ite_pending
    | refine (bootStart_pending ..).trans ?_ | apply bootStart_inv | refine .upd rfl rfl rfl rfl rfl rfl rfl rfl ?_
    | dsimp only

theorem execScrubTileRead_keeps (cim bad : Bool) (t : Tick) (s : State) :
    s.Keeps (execScrubTileRead cim bad t s) := by
  refine .silent ?_
  unfold execScrubTileRead
  dsimp only
  generalize s.silent = s
  repeat' with_reducible first
    | assumption | apply Keeps.ite | refine .next ?_ fun h => ?_ | apply ite_inv | apply ite_pending
    | refine (poisonCim_pending ..).trans ?_ | apply poisonCim_inv | refine (poisonInk_pending ..).trans ?_
    | apply poisonInk_inv | refine .upd rfl rfl rfl rfl rfl rfl rfl rfl ?_ | dsimp only

theorem execArbiterDraw_keeps (req : BitVec 7) (s : State) : s.Keeps (execArbiterDraw req s) := by
  refine .silent ?_
  unfold execArbiterDraw
  dsimp only
  generalize s.silent = s
  repeat' with_reducible first
    | assumption | apply Keeps.ite | refine .next ?_ fun h => ?_ | apply ite_inv | apply ite_pending
    | refine (setArb_pending ..).trans ?_ | apply setArb_inv | refine (draw_pending ..).trans ?_ | apply draw_inv
    | (apply foldl_inv; intro _ _ _) | refine (foldl_pending _ (fun _ _ => ?_) _ _).trans ?_
    | refine .upd rfl rfl rfl rfl rfl rfl rfl rfl ?_ | dsimp only

theorem execInkwellTransferDone_keeps (tiles : Fin 16) (s : State) : s.Keeps (execInkwellTransferDone tiles s) := by
  refine .silent ?_
  unfold execInkwellTransferDone
  dsimp only
  generalize s.silent = s
  repeat' with_reducible first
    | assumption | apply Keeps.ite | refine .next ?_ fun h => ?_ | apply ite_inv | apply ite_pending
    | refine (setArb_pending ..).trans ?_ | apply setArb_inv | refine (storeRow_pending ..).trans ?_
    | apply storeRow_inv | split | refine .upd rfl rfl rfl rfl rfl rfl rfl rfl ?_ | dsimp only

theorem execFreezeTimer_keeps (t : Tick) (s : State) : s.Keeps (execFreezeTimer t s) := by
  refine .silent ?_
  unfold execFreezeTimer
  dsimp only
  generalize s.silent = s
  repeat' with_reducible first
    | assumption | apply Keeps.ite | refine .next ?_ fun h => ?_ | apply ite_inv | apply ite_pending
    | refine (raise_pending ..).trans ?_ | apply raise_inv | dsimp only

theorem execDmaDescriptorFetch_keeps (bad : Bool) (t : Tick) (s : State) :
    s.Keeps (execDmaDescriptorFetch bad t s) := by
  refine .silent ?_
  unfold execDmaDescriptorFetch
  dsimp only
  generalize s.silent = s
  repeat' with_reducible first
    | assumption | apply Keeps.ite | refine .next ?_ fun h => ?_ | apply ite_inv | apply ite_pending
    | refine (dmaStop_pending ..).trans ?_ | apply dmaStop_inv | refine (raise_pending ..).trans ?_ | apply raise_inv
    | refine (poisonInk_pending ..).trans ?_ | apply poisonInk_inv | refine (dmaRecord_pending ..).trans ?_
    | apply dmaRecord_inv | refine (dmaEnd_pending ..).trans ?_ | apply dmaEnd_inv
    | refine (setDma_pending ..).trans ?_ | apply setDma_inv | split | refine .upd rfl rfl rfl rfl rfl rfl rfl rfl ?_
    | dsimp only

theorem execDmaBurstComplete_keeps (bad : Option (Fin 17)) (t : Tick) (s : State) :
    s.Keeps (execDmaBurstComplete bad t s) := by
  refine .silent ?_
  unfold execDmaBurstComplete
  dsimp only
  generalize s.silent = s
  repeat' with_reducible first
    | assumption | apply Keeps.ite | refine .next ?_ fun h => ?_ | apply ite_inv | apply ite_pending
    | refine (burstBad_pending ..).trans ?_ | apply burstBad_inv | refine (dmaNext_pending ..).trans ?_
    | apply dmaNext_inv | refine (drawn_pending ..).trans ?_ | apply drawn_inv
    | refine (inkWrite_pending ..).trans ?_ | apply inkWrite_inv | refine (setDma_pending ..).trans ?_
    | apply setDma_inv | split | refine .upd rfl rfl rfl rfl rfl rfl rfl rfl ?_ | dsimp only

theorem execDmaReadbackDone_keeps (same : Bool) (t : Tick) (s : State) :
    s.Keeps (execDmaReadbackDone same t s) := by
  refine .silent ?_
  unfold execDmaReadbackDone
  dsimp only
  generalize s.silent = s
  repeat' with_reducible first
    | assumption | apply Keeps.ite | refine .next ?_ fun h => ?_ | apply ite_inv | apply ite_pending
    | refine (dmaNext_pending ..).trans ?_ | apply dmaNext_inv | refine (raise_pending ..).trans ?_ | apply raise_inv
    | split | refine .upd rfl rfl rfl rfl rfl rfl rfl rfl ?_ | dsimp only

theorem execDmaMemoryTimeout_keeps (t : Tick) (s : State) : s.Keeps (execDmaMemoryTimeout t s) := by
  refine .silent ?_
  unfold execDmaMemoryTimeout
  dsimp only
  generalize s.silent = s
  repeat' with_reducible first
    | assumption | apply Keeps.ite | refine .next ?_ fun h => ?_ | apply ite_inv | apply ite_pending
    | refine (setArb_pending ..).trans ?_ | apply setArb_inv | refine (drawn_pending ..).trans ?_ | apply drawn_inv
    | refine (dmaRecord_pending ..).trans ?_ | apply dmaRecord_inv | refine (dmaEnd_pending ..).trans ?_
    | apply dmaEnd_inv | refine (raise_pending ..).trans ?_ | apply raise_inv | split
    | refine .upd rfl rfl rfl rfl rfl rfl rfl rfl ?_ | dsimp only

theorem execBlotterRow_keeps (t : Tick) (s : State) : s.Keeps (execBlotterRow t s) := by
  refine .silent ?_
  unfold execBlotterRow
  dsimp only
  generalize s.silent = s
  repeat' with_reducible first
    | assumption | apply Keeps.ite | refine .next ?_ fun h => ?_ | apply ite_inv | apply ite_pending
    | refine (pushRow_pending ..).trans ?_ | apply pushRow_inv | refine (blotTrigger_pending ..).trans ?_
    | apply blotTrigger_inv | refine (blotState_pending ..).trans ?_ | apply blotState_inv
    | refine .upd rfl rfl rfl rfl rfl rfl rfl rfl ?_ | dsimp only

theorem execArpMessage_keeps (p : Fin 3) (req : Bool) (sip tip : Word) (mac : BitVec 48) (s : State) :
    s.Keeps (execArpMessage p req sip tip mac s) := by
  refine .silent ?_
  unfold execArpMessage
  dsimp only
  generalize s.silent = s
  repeat' with_reducible first
    | assumption | apply Keeps.ite | refine .next ?_ fun h => ?_ | apply ite_inv | apply ite_pending
    | refine (sendNet_pending ..).trans ?_ | apply sendNet_inv | refine .upd rfl rfl rfl rfl rfl rfl rfl rfl ?_
    | dsimp only

theorem execArpEntryAge_keeps (p : Fin 3) (ip : Word) (s : State) : s.Keeps (execArpEntryAge p ip s) := by
  refine .silent ?_
  unfold execArpEntryAge
  dsimp only
  generalize s.silent = s
  repeat' with_reducible first
    | assumption | refine .next ?_ fun h => ?_ | refine .upd rfl rfl rfl rfl rfl rfl rfl rfl ?_ | dsimp only

theorem execIcmpEchoRequest_keeps (p : Fin 3) (sip : Word) (data : List Byte) (t : Tick) (s : State) :
    s.Keeps (execIcmpEchoRequest p sip data t s) := by
  refine .silent ?_
  unfold execIcmpEchoRequest
  dsimp only
  generalize s.silent = s
  repeat' with_reducible first
    | assumption | apply Keeps.ite | refine .next ?_ fun h => ?_ | apply ite_inv | apply ite_pending
    | refine (netSecond_pending ..).trans ?_ | apply netSecond_inv | refine (netDrop_pending ..).trans ?_
    | apply netDrop_inv | refine (sendNet_pending ..).trans ?_ | apply sendNet_inv
    | refine .upd rfl rfl rfl rfl rfl rfl rfl rfl ?_ | dsimp only

theorem execNetLinkUp_keeps (p : Fin 3) (t : Tick) (s : State) : s.Keeps (execNetLinkUp p t s) := by
  refine .silent ?_
  unfold execNetLinkUp
  dsimp only
  generalize s.silent = s
  repeat' with_reducible first
    | assumption | refine .next ?_ fun h => ?_ | refine (clear_pending ..).trans ?_ | apply clear_inv
    | refine (sessLink_pending ..).trans ?_ | apply sessLink_inv | refine (announceIp_pending ..).trans ?_
    | apply announceIp_inv | refine .upd rfl rfl rfl rfl rfl rfl rfl rfl ?_ | dsimp only

theorem execNetLinkLoss_keeps (p : Fin 3) (t : Tick) (s : State) : s.Keeps (execNetLinkLoss p t s) := by
  refine .silent ?_
  unfold execNetLinkLoss
  dsimp only
  generalize s.silent = s
  repeat' with_reducible first
    | assumption | refine .next ?_ fun h => ?_ | refine (sessLink_pending ..).trans ?_ | apply sessLink_inv
    | refine (raise_pending ..).trans ?_ | apply raise_inv | refine .upd rfl rfl rfl rfl rfl rfl rfl rfl ?_
    | dsimp only

theorem execPtpSyncReceive_keeps (p : Fin 2) (m : PtpMsg) (res : Nat) (t : Tick) (s : State) :
    s.Keeps (execPtpSyncReceive p m res t s) := by
  refine .silent ?_
  unfold execPtpSyncReceive
  dsimp only
  generalize s.silent = s
  repeat' with_reducible first
    | assumption | apply Keeps.ite | refine .next ?_ fun h => ?_ | apply ite_inv | apply ite_pending
    | refine (drawn_pending ..).trans ?_ | apply drawn_inv | refine (setPtpPort_pending ..).trans ?_
    | apply setPtpPort_inv | refine (sendNet_pending ..).trans ?_ | apply sendNet_inv
    | refine (ptpOffset_pending ..).trans ?_ | apply ptpOffset_inv | refine .upd rfl rfl rfl rfl rfl rfl rfl rfl ?_
    | dsimp only

theorem execPtpFollowUpReceive_keeps (p : Fin 2) (m : PtpMsg) (t : Tick) (s : State) :
    s.Keeps (execPtpFollowUpReceive p m t s) := by
  refine .silent ?_
  unfold execPtpFollowUpReceive
  dsimp only
  generalize s.silent = s
  repeat' with_reducible first
    | assumption | apply Keeps.ite | refine .next ?_ fun h => ?_ | apply ite_inv | apply ite_pending
    | refine (setPtpPort_pending ..).trans ?_ | apply setPtpPort_inv | refine (sendNet_pending ..).trans ?_
    | apply sendNet_inv | refine (ptpOffset_pending ..).trans ?_ | apply ptpOffset_inv | split
    | refine .upd rfl rfl rfl rfl rfl rfl rfl rfl ?_ | dsimp only

theorem execPtpAnnounceReceive_keeps (p : Fin 2) (m : PtpAnn) (t : Tick) (s : State) :
    s.Keeps (execPtpAnnounceReceive p m t s) := by
  refine .silent ?_
  unfold execPtpAnnounceReceive
  dsimp only
  generalize s.silent = s
  repeat' with_reducible first
    | assumption | apply Keeps.ite | refine .next ?_ fun h => ?_ | apply ite_inv | apply ite_pending
    | refine (sendNet_pending ..).trans ?_ | apply sendNet_inv | refine (ptpSelect_pending ..).trans ?_
    | apply ptpSelect_inv | refine .upd rfl rfl rfl rfl rfl rfl rfl rfl ?_ | dsimp only

theorem execPtpAnnounceTimeout_keeps (p : Fin 2) (src : BitVec 80) (t : Tick) (s : State) :
    s.Keeps (execPtpAnnounceTimeout p src t s) := by
  refine .silent ?_
  unfold execPtpAnnounceTimeout
  dsimp only
  generalize s.silent = s
  repeat' with_reducible first
    | assumption | refine .next ?_ fun h => ?_ | refine (ptpSelect_pending ..).trans ?_ | apply ptpSelect_inv
    | refine .upd rfl rfl rfl rfl rfl rfl rfl rfl ?_ | dsimp only

theorem execPtpPdelayTimer_keeps (p : Fin 2) (t : Tick) (s : State) : s.Keeps (execPtpPdelayTimer p t s) := by
  refine .silent ?_
  unfold execPtpPdelayTimer
  dsimp only
  generalize s.silent = s
  repeat' with_reducible first
    | assumption | apply Keeps.ite | refine .next ?_ fun h => ?_ | apply ite_inv | apply ite_pending
    | refine (setPtpPort_pending ..).trans ?_ | apply setPtpPort_inv | refine (raise_pending ..).trans ?_
    | apply raise_inv | refine (ptpSelect_pending ..).trans ?_ | apply ptpSelect_inv
    | refine (sendNet_pending ..).trans ?_ | apply sendNet_inv | refine .upd rfl rfl rfl rfl rfl rfl rfl rfl ?_
    | dsimp only

theorem execPtpPdelayReqReceive_keeps (p : Fin 2) (src : BitVec 80) (seq : BitVec 16) (s : State) :
    s.Keeps (execPtpPdelayReqReceive p src seq s) := by
  refine .silent ?_
  unfold execPtpPdelayReqReceive
  dsimp only
  generalize s.silent = s
  repeat' with_reducible first
    | assumption | apply Keeps.ite | refine .next ?_ fun h => ?_ | apply ite_inv | apply ite_pending
    | refine (sendNet_pending ..).trans ?_ | apply sendNet_inv | dsimp only

theorem execPtpPdelayRespReceive_keeps (p : Fin 2) (seq : BitVec 16) (rt turn : Nat) (t : Tick) (s : State) :
    s.Keeps (execPtpPdelayRespReceive p seq rt turn t s) := by
  refine .silent ?_
  unfold execPtpPdelayRespReceive
  dsimp only
  generalize s.silent = s
  repeat' with_reducible first
    | assumption | apply Keeps.ite | refine .next ?_ fun h => ?_ | apply ite_inv | apply ite_pending
    | refine (setPtpPort_pending ..).trans ?_ | apply setPtpPort_inv | refine (clear_pending ..).trans ?_
    | apply clear_inv | refine (ptpSelect_pending ..).trans ?_ | apply ptpSelect_inv
    | refine .upd rfl rfl rfl rfl rfl rfl rfl rfl ?_ | dsimp only

theorem execTimedLaunch_keeps (p : Fin 2) (busy : Nat) (t : Tick) (s : State) :
    s.Keeps (execTimedLaunch p busy t s) := by
  refine .silent ?_
  unfold execTimedLaunch
  dsimp only
  generalize s.silent = s
  repeat' with_reducible first
    | assumption | apply Keeps.ite | refine .next ?_ fun h => ?_ | apply ite_inv | apply ite_pending
    | refine (sendUdp_pending ..).trans ?_ | apply sendUdp_inv | refine (satEvent_pending ..).trans ?_
    | apply satEvent_inv | refine (raise_pending ..).trans ?_ | apply raise_inv | split
    | refine .upd rfl rfl rfl rfl rfl rfl rfl rfl ?_ | dsimp only

theorem execTelemetryStreamSample_keeps (j : Fin 4) (s : State) : s.Keeps (execTelemetryStreamSample j s) := by
  refine .silent ?_
  unfold execTelemetryStreamSample
  dsimp only
  generalize s.silent = s
  repeat' with_reducible first
    | assumption | apply Keeps.ite | refine .next ?_ fun h => ?_ | apply ite_inv | apply ite_pending
    | refine (canFill_pending ..).trans ?_ | apply canFill_inv | refine (setStream_pending ..).trans ?_
    | apply setStream_inv | refine (planLaunch_pending ..).trans ?_ | apply planLaunch_inv
    | (apply foldl_inv; intro _ _ _) | refine (foldl_pending _ (fun _ _ => ?_) _ _).trans ?_
    | refine .upd rfl rfl rfl rfl rfl rfl rfl rfl ?_ | dsimp only

theorem execStreamStop_keeps (s : State) : s.Keeps (execStreamStop s) := by
  refine .silent ?_
  unfold execStreamStop
  dsimp only
  generalize s.silent = s
  repeat' with_reducible first
    | assumption | apply Keeps.ite | refine .next ?_ fun h => ?_ | apply ite_inv | apply ite_pending
    | refine (setStream_pending ..).trans ?_ | apply setStream_inv | refine (raise_pending ..).trans ?_
    | apply raise_inv | (apply foldl_inv; intro _ _ _) | refine (foldl_pending _ (fun _ _ => ?_) _ _).trans ?_
    | refine .upd rfl rfl rfl rfl rfl rfl rfl rfl ?_ | dsimp only

theorem execCanWindowOpen_keeps (c : Fin 2) (k : Fin 16) (fits : Bool) (s : State) :
    s.Keeps (execCanWindowOpen c k fits s) := by
  refine .silent ?_
  unfold execCanWindowOpen
  dsimp only
  generalize s.silent = s
  repeat' with_reducible first
    | assumption | apply Keeps.ite | refine .next ?_ fun h => ?_ | apply ite_inv | apply ite_pending
    | refine (canStart_pending ..).trans ?_ | apply canStart_inv | dsimp only

theorem execCanFrameTransmitted_keeps (c : Fin 2) (stamp : BitVec 32) (t : Tick) (s : State) :
    s.Keeps (execCanFrameTransmitted c stamp t s) := by
  refine .silent ?_
  unfold execCanFrameTransmitted
  dsimp only
  generalize s.silent = s
  repeat' with_reducible first
    | assumption | refine .next ?_ fun h => ?_ | refine (setCan_pending ..).trans ?_ | apply setCan_inv
    | refine (satEvent_pending ..).trans ?_ | apply satEvent_inv | refine (canJudge_pending ..).trans ?_
    | apply canJudge_inv | split | refine .upd rfl rfl rfl rfl rfl rfl rfl rfl ?_ | dsimp only

theorem execCanTxError_keeps (c : Fin 2) (lost ack : Bool) (fits : Bool) (t : Tick) (s : State) :
    s.Keeps (execCanTxError c lost ack fits t s) := by
  refine .silent ?_
  unfold execCanTxError
  dsimp only
  generalize s.silent = s
  repeat' with_reducible first
    | assumption | apply Keeps.ite | refine .next ?_ fun h => ?_ | apply ite_inv | apply ite_pending
    | refine (setCan_pending ..).trans ?_ | apply setCan_inv | refine (canJudge_pending ..).trans ?_
    | apply canJudge_inv | refine (canStart_pending ..).trans ?_ | apply canStart_inv | split
    | refine .upd rfl rfl rfl rfl rfl rfl rfl rfl ?_ | dsimp only

theorem execCanRxError_keeps (c : Fin 2) (eight : Bool) (t : Tick) (s : State) :
    s.Keeps (execCanRxError c eight t s) := by
  refine .silent ?_
  unfold execCanRxError
  dsimp only
  generalize s.silent = s
  repeat' with_reducible first
    | assumption | apply Keeps.ite | refine .next ?_ fun h => ?_ | apply ite_inv | apply ite_pending
    | refine (setCan_pending ..).trans ?_ | apply setCan_inv | refine (canJudge_pending ..).trans ?_
    | apply canJudge_inv | refine .upd rfl rfl rfl rfl rfl rfl rfl rfl ?_ | dsimp only

theorem execCanBusOffRecovery_keeps (c : Fin 2) (t : Tick) (s : State) : s.Keeps (execCanBusOffRecovery c t s) := by
  refine .silent ?_
  unfold execCanBusOffRecovery
  dsimp only
  generalize s.silent = s
  repeat' with_reducible first
    | assumption | apply Keeps.ite | refine .next ?_ fun h => ?_ | apply ite_inv | apply ite_pending
    | refine (setCan_pending ..).trans ?_ | apply setCan_inv | refine (canJudge_pending ..).trans ?_
    | apply canJudge_inv | refine .upd rfl rfl rfl rfl rfl rfl rfl rfl ?_ | dsimp only

theorem execCanFrameReceive_keeps (c : Fin 2) (f : CanFrame) (stamp : BitVec 32) (t : Tick) (s : State) :
    s.Keeps (execCanFrameReceive c f stamp t s) := by
  refine .silent ?_
  unfold execCanFrameReceive
  dsimp only
  generalize s.silent = s
  repeat' with_reducible first
    | assumption | apply Keeps.ite | refine .next ?_ fun h => ?_ | apply ite_inv | apply ite_pending
    | refine (setCan_pending ..).trans ?_ | apply setCan_inv | refine (drawn_pending ..).trans ?_ | apply drawn_inv
    | refine (canJudge_pending ..).trans ?_ | apply canJudge_inv | refine (bufTake_pending ..).trans ?_
    | apply bufTake_inv | split | refine .upd rfl rfl rfl rfl rfl rfl rfl rfl ?_ | dsimp only

theorem execCanRxLockTimeout_keeps (c : Fin 2) (k : Fin 16) (s : State) : s.Keeps (execCanRxLockTimeout c k s) := by
  refine .silent ?_
  unfold execCanRxLockTimeout
  dsimp only
  generalize s.silent = s
  repeat' with_reducible first
    | assumption | apply Keeps.ite | refine .next ?_ fun h => ?_ | apply ite_inv | apply ite_pending
    | refine (bufRelease_pending ..).trans ?_ | apply bufRelease_inv | dsimp only

theorem execFeedLossDetect_keeps (f : Feed) (t : Tick) (s : State) : s.Keeps (execFeedLossDetect f t s) := by
  refine .silent ?_
  unfold execFeedLossDetect
  dsimp only
  generalize s.silent = s
  repeat' with_reducible first
    | assumption | apply Keeps.ite | refine .next ?_ fun h => ?_ | apply ite_inv | apply ite_pending
    | refine (setFeedLow_pending ..).trans ?_ | apply setFeedLow_inv | refine (raise_pending ..).trans ?_
    | apply raise_inv | refine (lifeCount_pending ..).trans ?_ | apply lifeCount_inv | split
    | refine .upd rfl rfl rfl rfl rfl rfl rfl rfl ?_ | dsimp only

theorem execFeedRestoreTimer_keeps (f : Feed) (t : Tick) (s : State) : s.Keeps (execFeedRestoreTimer f t s) := by
  refine .silent ?_
  unfold execFeedRestoreTimer
  dsimp only
  generalize s.silent = s
  repeat' with_reducible first
    | assumption | refine .next ?_ fun h => ?_ | refine (setFeedLow_pending ..).trans ?_ | apply setFeedLow_inv
    | refine (clear_pending ..).trans ?_ | apply clear_inv | dsimp only

theorem execFeedHighDetect_keeps (t : Tick) (s : State) : s.Keeps (execFeedHighDetect t s) := by
  refine .silent ?_
  unfold execFeedHighDetect
  dsimp only
  generalize s.silent = s
  repeat' with_reducible first
    | assumption | apply Keeps.ite | refine .next ?_ fun h => ?_ | apply ite_inv | apply ite_pending
    | refine (raise_pending ..).trans ?_ | apply raise_inv | dsimp only

theorem execFeedHighClear_keeps (s : State) : s.Keeps (execFeedHighClear s) := by
  refine .silent ?_
  unfold execFeedHighClear
  dsimp only
  generalize s.silent = s
  repeat' with_reducible first
    | assumption | refine .next ?_ fun h => ?_ | refine (clear_pending ..).trans ?_ | apply clear_inv | dsimp only

theorem execSupplyLoss_keeps (t : Tick) (s : State) : s.Keeps (execSupplyLoss t s) := by
  refine .silent ?_
  unfold execSupplyLoss
  dsimp only
  generalize s.silent = s
  repeat' with_reducible first
    | assumption | apply Keeps.ite | refine .next ?_ fun h => ?_ | apply ite_inv | apply ite_pending
    | refine (raise_pending ..).trans ?_ | apply raise_inv | refine (lifeCount_pending ..).trans ?_
    | apply lifeCount_inv | refine (safDrive_pending ..).trans ?_ | apply safDrive_inv
    | refine (flushJournal_pending ..).trans ?_ | apply flushJournal_inv
    | refine .upd rfl rfl rfl rfl rfl rfl rfl rfl ?_ | dsimp only

theorem execPowerDownComplete_keeps (s : State) : s.Keeps (execPowerDownComplete s) := by
  refine .silent ?_
  unfold execPowerDownComplete
  dsimp only
  generalize s.silent = s
  repeat' with_reducible first
    | assumption | apply Keeps.ite | refine .next ?_ fun h => ?_ | apply ite_inv | apply ite_pending
    | refine (dropTxn_pending ..).trans ?_ | apply dropTxn_inv | refine (copyEvents_pending ..).trans ?_
    | apply copyEvents_inv | refine (fromBoot_pending ..).trans ?_ | apply fromBoot_inv | dsimp only

theorem execBaseplateHotTimer_keeps (t : Tick) (s : State) : s.Keeps (execBaseplateHotTimer t s) := by
  refine .silent ?_
  unfold execBaseplateHotTimer
  dsimp only
  generalize s.silent = s
  repeat' with_reducible first
    | assumption | apply Keeps.ite | refine .next ?_ fun h => ?_ | apply ite_inv | apply ite_pending
    | refine (raise_pending ..).trans ?_ | apply raise_inv | dsimp only

theorem execBaseplateHotClear_keeps (s : State) : s.Keeps (execBaseplateHotClear s) := by
  refine .silent ?_
  unfold execBaseplateHotClear
  dsimp only
  generalize s.silent = s
  repeat' with_reducible first
    | assumption | refine .next ?_ fun h => ?_ | refine (clear_pending ..).trans ?_ | apply clear_inv | dsimp only

theorem execBaseplateOvertempTimer_keeps (t : Tick) (s : State) : s.Keeps (execBaseplateOvertempTimer t s) := by
  refine .silent ?_
  unfold execBaseplateOvertempTimer
  dsimp only
  generalize s.silent = s
  repeat' with_reducible first
    | assumption | apply Keeps.ite | refine .next ?_ fun h => ?_ | apply ite_inv | apply ite_pending
    | refine (raise_pending ..).trans ?_ | apply raise_inv | refine (lifeCount_pending ..).trans ?_
    | apply lifeCount_inv | refine .upd rfl rfl rfl rfl rfl rfl rfl rfl ?_ | dsimp only

theorem execRailMonitorTrip_keeps (collapse : Bool) (t : Tick) (s : State) :
    s.Keeps (execRailMonitorTrip collapse t s) := by
  refine .silent ?_
  unfold execRailMonitorTrip
  dsimp only
  generalize s.silent = s
  repeat' with_reducible first
    | assumption | apply Keeps.ite | refine .next ?_ fun h => ?_ | apply ite_inv | apply ite_pending
    | refine (liveFalls_pending ..).trans ?_ | apply liveFalls_inv | refine (raise_pending ..).trans ?_
    | apply raise_inv | dsimp only

theorem execGiveupEnd_keeps (s : State) : s.Keeps (execGiveupEnd s) := by
  refine .silent ?_
  unfold execGiveupEnd
  dsimp only
  generalize s.silent = s
  repeat' with_reducible first
    | assumption | apply Keeps.ite | refine .next ?_ fun h => ?_ | apply ite_inv | apply ite_pending
    | refine (restart_pending ..).trans ?_ | apply restart_inv | refine (liveFalls_pending ..).trans ?_
    | apply liveFalls_inv | refine .upd rfl rfl rfl rfl rfl rfl rfl rfl ?_ | dsimp only

theorem execLoop0EdgeLoss_keeps (s : State) : s.Keeps (execLoop0EdgeLoss s) := by
  refine .silent ?_
  unfold execLoop0EdgeLoss
  dsimp only
  generalize s.silent = s
  repeat' with_reducible first
    | assumption | refine .next ?_ fun h => ?_ | refine (liveFalls_pending ..).trans ?_ | apply liveFalls_inv
    | dsimp only

theorem execLockstepDisagree_keeps (t : Tick) (s : State) : s.Keeps (execLockstepDisagree t s) := by
  refine .silent ?_
  unfold execLockstepDisagree
  dsimp only
  generalize s.silent = s
  repeat' with_reducible first
    | assumption | apply Keeps.ite | refine .next ?_ fun h => ?_ | apply ite_inv | apply ite_pending
    | refine (raise_pending ..).trans ?_ | apply raise_inv | dsimp only

end Sys2Proof.Machine
end

section
/-! SUPPORT. The commands of the sessions and their requests leave the queue as it is and keep the invariant. -/

namespace Sys2Proof.Machine

open State

theorem execHello_keeps (peer : Peer) (body : List Byte) (t : Tick) (s : State) :
    s.Keeps (execHello peer body t s) := by
  refine .silent ?_
  unfold execHello
  generalize s.silent = s
  refine .ite (.next rfl id) (.ite (.next (alert_pending ..) (alert_inv s _ _ _ _ _)) ?_)
  split
  · exact .next (alert_pending ..) (alert_inv s _ _ _ _ _)
  · split
    · exact .next (alert_pending ..) (alert_inv s _ _ _ _ _)
    · exact .next (sendHandshake_pending ..) fun h => 
        sendHandshake_inv _ _ _ _ _ (.upd rfl rfl rfl rfl rfl rfl rfl rfl (drawn_inv _ h))

theorem execFinish_keeps (peer : Peer) (sid : BitVec 16) (body : List Byte) (t : Tick) (s : State) :
    s.Keeps (execFinish peer sid body t s) := by
  refine .silent ?_
  unfold execFinish
  dsimp only
  generalize s.silent = s
  repeat' with_reducible first
    | assumption | apply Keeps.ite | refine .next ?_ fun h => ?_ | apply ite_inv | apply ite_pending
    | refine (sysReject_pending ..).trans ?_ | apply sysReject_inv | refine (alert_pending ..).trans ?_
    | apply alert_inv | refine (openSess_pending ..).trans ?_ | apply openSess_inv | split
    | refine .upd rfl rfl rfl rfl rfl rfl rfl rfl ?_ | dsimp only

theorem execHandshakeTimeout_keeps (slot : Fin 8) (_t : Tick) (s : State) :
    s.Keeps (execHandshakeTimeout slot _t s) := by
  refine .silent ?_
  unfold execHandshakeTimeout
  dsimp only
  generalize s.silent = s
  repeat' with_reducible first
    | assumption | refine .next ?_ fun h => ?_ | refine .upd rfl rfl rfl rfl rfl rfl rfl rfl ?_ | dsimp only

theorem execRecordDiscarded_keeps (e : RecIn) (t : Tick) (s : State) : s.Keeps (execRecordDiscarded e t s) := by
  refine .silent ?_
  unfold execRecordDiscarded
  dsimp only
  generalize s.silent = s
  repeat' with_reducible first
    | assumption | apply Keeps.ite | refine .next ?_ fun h => ?_ | apply ite_inv | apply ite_pending
    | refine (sysReject_pending ..).trans ?_ | apply sysReject_inv | refine (takeRecord_pending ..).trans ?_
    | apply takeRecord_inv | split | refine .upd rfl rfl rfl rfl rfl rfl rfl rfl ?_ | dsimp only

theorem execNetFrameReceive_keeps (p : Fin 3) (f : NetFrame) (t : Tick) (s : State) :
    s.Keeps (execNetFrameReceive p f t s) := by
  refine .silent ?_
  unfold execNetFrameReceive
  dsimp only
  generalize s.silent = s
  repeat' with_reducible first
    | assumption | apply Keeps.ite | refine .next ?_ fun h => ?_ | apply ite_inv | apply ite_pending
    | refine (netDrop_pending ..).trans ?_ | apply netDrop_inv | refine (netSecond_pending ..).trans ?_
    | apply netSecond_inv | refine (recordArrives_pending ..).trans ?_ | apply recordArrives_inv
    | refine (safeArrives_pending ..).trans ?_ | apply safeArrives_inv | refine (sendNet_pending ..).trans ?_
    | apply sendNet_inv | split | refine .upd rfl rfl rfl rfl rfl rfl rfl rfl ?_ | dsimp only

theorem execSessionIdleTimeout_keeps (slot : Fin 8) (s : State) : s.Keeps (execSessionIdleTimeout slot s) := by
  refine .silent ?_
  unfold execSessionIdleTimeout
  dsimp only
  generalize s.silent = s
  repeat' with_reducible first
    | assumption | apply Keeps.ite | refine .next ?_ fun h => ?_ | apply ite_inv | apply ite_pending
    | refine (closeSess_pending ..).trans ?_ | apply closeSess_inv | dsimp only

theorem execSessionClose_keeps (r : Req) (p : List Byte) (s : State) : s.Keeps (execSessionClose r p s) := by
  refine .serve fun s i => ?_
  repeat' with_reducible first
    | assumption | apply noParams_keeps | refine Answer.keeps_closes ?_ fun h => ?_ | dsimp only

theorem execPageGet_keeps (r : Req) (p : List Byte) (s : State) : s.Keeps (execPageGet r p s) := by
  refine .serve fun s i => ?_
  repeat' with_reducible first
    | assumption | apply Answer.keeps_ite | exact badAt_keeps | exact Answer.keeps_refuse
    | refine Answer.keeps_done ?_ fun h => ?_ | apply ite_inv | apply ite_pending
    | refine (readEffects_pending ..).trans ?_ | apply readEffects_inv | refine (drawn_pending ..).trans ?_
    | apply drawn_inv | dsimp only

theorem execPageSet_keeps (r : Req) (p : List Byte) (s : State) : s.Keeps (execPageSet r p s) := by
  refine .serve fun s i => ?_
  repeat' with_reducible first
    | assumption | apply Answer.keeps_ite | exact badAt_keeps | exact Answer.keeps_refuse | apply write_keeps
    | apply ite_inv | apply ite_pending | split

theorem execLaneCtlWrite_keeps (r : Req) (i : Fin 68) (w : Word) (s : State) :
    s.Keeps (execLaneCtlWrite r i w s) := .setOne

theorem execLaneCmdBitSlip_keeps (r : Req) (i : Fin 68) (s : State) : s.Keeps (execLaneCmdBitSlip r i s) := .setOne

theorem execLaneCmdClear_keeps (r : Req) (i : Fin 68) (s : State) : s.Keeps (execLaneCmdClear r i s) := .setOne

theorem execBondCtlWrite_keeps (r : Req) (w : Word) (s : State) : s.Keeps (execBondCtlWrite r w s) := .setOne

theorem execLinkCmdLoopbackStart_keeps (r : Req) (p : Fin 64) (pos : Fin 128) (s : State) :
    s.Keeps (execLinkCmdLoopbackStart r p pos s) := .setOne

theorem execLinkCmdLoopbackEnd_keeps (r : Req) (p : Fin 64) (pos : Fin 128) (s : State) :
    s.Keeps (execLinkCmdLoopbackEnd r p pos s) := .setOne

theorem execClkLoopWrite_keeps (r : Req) (i : Fin 17) (w : Word) (s : State) :
    s.Keeps (execClkLoopWrite r i w s) := .setOne

theorem execTimeSnap_keeps (r : Req) (s : State) : s.Keeps (execTimeSnap r s) := .setOne

theorem execDuctClampRearm_keeps (r : Req) (s : State) : s.Keeps (execDuctClampRearm r s) := .setOne

theorem execDuctFailRearm_keeps (r : Req) (s : State) : s.Keeps (execDuctFailRearm r s) := .setOne

theorem execThermFailRearm_keeps (r : Req) (s : State) : s.Keeps (execThermFailRearm r s) := .setOne

theorem execScCaptureRearm_keeps (r : Req) (s : State) : s.Keeps (execScCaptureRearm r s) := .setOne

theorem execFeInfoRearm_keeps (r : Req) (s : State) : s.Keeps (execFeInfoRearm r s) := .setOne

theorem execSafFaultRearm_keeps (r : Req) (s : State) : s.Keeps (execSafFaultRearm r s) := .setOne

theorem execInkFirstRearm_keeps (r : Req) (s : State) : s.Keeps (execInkFirstRearm r s) := .setOne

theorem execCanRxselWrite_keeps (r : Req) (w : Word) (s : State) : s.Keeps (execCanRxselWrite r w s) := .setOne

theorem execAdcUrg_keeps (r : Req) (adc : Fin 4) (ch : Fin 32) (s : State) : s.Keeps (execAdcUrg r adc ch s) := .setOne

theorem execArbCtlWrite_keeps (r : Req) (w : Word) (s : State) : s.Keeps (execArbCtlWrite r w s) := .setOne

theorem execArbCmdRevoke_keeps (r : Req) (i : Fin 8) (s : State) : s.Keeps (execArbCmdRevoke r i s) := .setOne

theorem execInkWinWrite_keeps (r : Req) (k : Fin 64) (ws : List Word) (s : State) :
    s.Keeps (execInkWinWrite r k ws s) :=
  .serve fun s i => Answer.keeps_ite badAt_keeps (write_keeps s i _ _ _)

theorem execDmaStart_keeps (r : Req) (ch : Fin 8) (s : State) : s.Keeps (execDmaStart r ch s) := .setOne

theorem execDmaCancel_keeps (r : Req) (ch : Fin 8) (s : State) : s.Keeps (execDmaCancel r ch s) := .setOne

theorem execBlotCmdTrigger_keeps (r : Req) (s : State) : s.Keeps (execBlotCmdTrigger r s) := .setOne

theorem execTxnBegin_keeps (r : Req) (p : List Byte) (s : State) : s.Keeps (execTxnBegin r p s) := by
  refine .serve fun s i => ?_
  repeat' with_reducible first
    | assumption | apply noParams_keeps | apply Answer.keeps_ite | exact no_keeps
    | refine Answer.keeps_done ?_ fun h => ?_ | apply ite_inv | apply ite_pending
    | refine .upd rfl rfl rfl rfl rfl rfl rfl rfl ?_ | dsimp only

theorem execLockRenew_keeps (r : Req) (p : List Byte) (s : State) : s.Keeps (execLockRenew r p s) := by
  refine .serve fun s i => ?_
  repeat' with_reducible first
    | assumption | apply noParams_keeps | apply Answer.keeps_ite | exact no_keeps
    | refine Answer.keeps_done ?_ fun h => ?_ | apply ite_inv | apply ite_pending
    | refine (putTxn_pending ..).trans ?_ | apply putTxn_inv | split | refine .upd rfl rfl rfl rfl rfl rfl rfl rfl ?_
    | dsimp only

theorem execTxnAbort_keeps (r : Req) (p : List Byte) (s : State) : s.Keeps (execTxnAbort r p s) := by
  refine .serve fun s i => ?_
  repeat' with_reducible first
    | assumption | apply noParams_keeps | exact Answer.keeps_refuse | refine Answer.keeps_done ?_ fun h => ?_ | split
    | refine .upd rfl rfl rfl rfl rfl rfl rfl rfl ?_ | dsimp only

theorem execPageStage_keeps (r : Req) (p : List Byte) (s : State) : s.Keeps (execPageStage r p s) := by
  refine .serve fun s i => ?_
  repeat' with_reducible first
    | assumption | apply Answer.keeps_ite | exact badAt_keeps | exact no_keeps | exact Answer.keeps_refuse
    | refine Answer.keeps_done ?_ fun h => ?_ | apply ite_inv | apply ite_pending
    | refine (putTxn_pending ..).trans ?_ | apply putTxn_inv | split | refine .upd rfl rfl rfl rfl rfl rfl rfl rfl ?_
    | dsimp only

theorem execTxnCommit_keeps (r : Req) (p : List Byte) (s : State) : s.Keeps (execTxnCommit r p s) := by
  refine .serve fun s i => ?_
  repeat' with_reducible first
    | assumption | apply Answer.keeps_ite | exact badAt_keeps | exact no_keeps | exact Answer.keeps_refuse
    | refine Answer.keeps_fails ?_ fun h => ?_ | refine Answer.keeps_later ?_ fun h => ?_ | apply ite_inv
    | apply ite_pending | refine (noteRefused_pending ..).trans ?_ | apply noteRefused_inv
    | refine (startCommit_pending ..).trans ?_ | apply startCommit_inv | split
    | refine .upd rfl rfl rfl rfl rfl rfl rfl rfl ?_ | dsimp only

theorem execCommitTakesEffect_keeps (s : State) : s.Keeps (execCommitTakesEffect s) := by
  refine .silent ?_
  unfold execCommitTakesEffect
  dsimp only
  generalize s.silent = s
  repeat' with_reducible first
    | assumption | apply Keeps.ite | refine .next ?_ fun h => ?_ | apply ite_inv | apply ite_pending
    | refine (commitWords_pending ..).trans ?_ | apply commitWords_inv | refine (replyTo_pending ..).trans ?_
    | apply replyTo_inv | split | refine .upd rfl rfl rfl rfl rfl rfl rfl rfl ?_ | dsimp only

theorem execLeaseTimeout_keeps (s : State) : s.Keeps (execLeaseTimeout s) := by
  refine .silent ?_
  unfold execLeaseTimeout
  dsimp only
  generalize s.silent = s
  repeat' with_reducible first
    | assumption | apply Keeps.ite | refine .next ?_ fun h => ?_ | apply ite_inv | apply ite_pending
    | refine (dropTxn_pending ..).trans ?_ | apply dropTxn_inv | split
    | refine .upd rfl rfl rfl rfl rfl rfl rfl rfl ?_ | dsimp only

theorem execModeSet_keeps (r : Req) (p : List Byte) (s : State) : s.Keeps (execModeSet r p s) := by
  refine .serve fun s i => ?_
  repeat' with_reducible first
    | assumption | apply Answer.keeps_ite | exact badAt_keeps | exact no_keeps
    | refine Answer.keeps_done ?_ fun h => ?_ | refine Answer.keeps_later ?_ fun h => ?_ | apply ite_inv
    | apply ite_pending | refine (sendRecord_pending ..).trans ?_ | apply sendRecord_inv
    | refine (awaitAck_pending ..).trans ?_ | apply awaitAck_inv | split
    | refine .upd rfl rfl rfl rfl rfl rfl rfl rfl ?_ | dsimp only

theorem execModeTransition_keeps (s : State) : s.Keeps (execModeTransition s) := by
  refine .silent ?_
  unfold execModeTransition
  dsimp only
  generalize s.silent = s
  repeat' with_reducible first
    | assumption | apply Keeps.ite | refine .next ?_ fun h => ?_ | apply ite_inv | apply ite_pending
    | refine (setMode_pending ..).trans ?_ | apply setMode_inv | refine (replyTo_pending ..).trans ?_
    | apply replyTo_inv | refine (enterMode_pending ..).trans ?_ | apply enterMode_inv
    | refine (modeReply_pending ..).trans ?_ | apply modeReply_inv | split
    | refine .upd rfl rfl rfl rfl rfl rfl rfl rfl ?_ | dsimp only

theorem execModeGet_keeps (r : Req) (p : List Byte) (s : State) : s.Keeps (execModeGet r p s) := by
  refine .serve fun s i => ?_
  repeat' with_reducible first
    | assumption | apply noParams_keeps | refine Answer.keeps_done ?_ fun h => ?_ | dsimp only

theorem execPing_keeps (r : Req) (p : List Byte) (s : State) : s.Keeps (execPing r p s) := by
  refine .serve fun s i => ?_
  repeat' with_reducible first
    | assumption | apply Answer.keeps_ite | exact badAt_keeps | refine Answer.keeps_done ?_ fun h => ?_
    | apply ite_inv | apply ite_pending | dsimp only

theorem execCellEnumerate_keeps (r : Req) (p : List Byte) (s : State) : s.Keeps (execCellEnumerate r p s) := by
  refine .serve fun s i => ?_
  repeat' with_reducible first
    | assumption | apply Answer.keeps_ite | exact badAt_keeps | exact no_keeps
    | refine Answer.keeps_done ?_ fun h => ?_ | apply ite_inv | apply ite_pending
    | refine (opStart_pending ..).trans ?_ | apply opStart_inv | refine (addRecord_pending ..).trans ?_
    | apply addRecord_inv | refine (awaitAck_pending ..).trans ?_ | apply awaitAck_inv
    | refine (enumerate_pending ..).trans ?_ | apply enumerate_inv | dsimp only

theorem execCellAdmit_keeps (r : Req) (p : List Byte) (s : State) : s.Keeps (execCellAdmit r p s) := by
  refine .serve fun s i => ?_
  repeat' with_reducible first
    | assumption | apply Answer.keeps_ite | exact badAt_keeps | exact no_keeps
    | refine Answer.keeps_done ?_ fun h => ?_ | apply ite_inv | apply ite_pending
    | refine (opStart_pending ..).trans ?_ | apply opStart_inv | refine (addRecord_pending ..).trans ?_
    | apply addRecord_inv | refine (awaitAck_pending ..).trans ?_ | apply awaitAck_inv
    | refine (startAdmit_pending ..).trans ?_ | apply startAdmit_inv | dsimp only

theorem execCellRetire_keeps (r : Req) (p : List Byte) (s : State) : s.Keeps (execCellRetire r p s) := by
  refine .serve fun s i => ?_
  repeat' with_reducible first
    | assumption | apply Answer.keeps_ite | exact badAt_keeps | exact no_keeps
    | refine Answer.keeps_done ?_ fun h => ?_ | apply ite_inv | apply ite_pending
    | refine (addRecord_pending ..).trans ?_ | apply addRecord_inv | refine (awaitAck_pending ..).trans ?_
    | apply awaitAck_inv | refine (retire_pending ..).trans ?_ | apply retire_inv | split
    | refine .upd rfl rfl rfl rfl rfl rfl rfl rfl ?_ | dsimp only

theorem execCellBypass_keeps (r : Req) (p : List Byte) (s : State) : s.Keeps (execCellBypass r p s) := by
  refine .serve fun s i => ?_
  repeat' with_reducible first
    | assumption | apply Answer.keeps_ite | exact badAt_keeps | exact no_keeps
    | refine Answer.keeps_done ?_ fun h => ?_ | apply ite_inv | apply ite_pending
    | refine (addRecord_pending ..).trans ?_ | apply addRecord_inv | refine (awaitAck_pending ..).trans ?_
    | apply awaitAck_inv | refine (commandBypass_pending ..).trans ?_ | apply commandBypass_inv | split
    | refine .upd rfl rfl rfl rfl rfl rfl rfl rfl ?_ | dsimp only

theorem execLoopOpen_keeps (r : Req) (p : List Byte) (s : State) : s.Keeps (execLoopOpen r p s) := by
  refine .serve fun s i => ?_
  repeat' with_reducible first
    | assumption | apply Answer.keeps_ite | exact badAt_keeps | exact no_keeps
    | refine Answer.keeps_done ?_ fun h => ?_ | apply ite_inv | apply ite_pending
    | refine (addRecord_pending ..).trans ?_ | apply addRecord_inv | refine (awaitAck_pending ..).trans ?_
    | apply awaitAck_inv | refine (openSlot_pending ..).trans ?_ | apply openSlot_inv | dsimp only

theorem execLoopClose_keeps (r : Req) (p : List Byte) (s : State) : s.Keeps (execLoopClose r p s) := by
  refine .serve fun s i => ?_
  repeat' with_reducible first
    | assumption | apply Answer.keeps_ite | exact badAt_keeps | exact no_keeps
    | refine Answer.keeps_done ?_ fun h => ?_ | apply ite_inv | apply ite_pending
    | refine (addRecord_pending ..).trans ?_ | apply addRecord_inv | refine (awaitAck_pending ..).trans ?_
    | apply awaitAck_inv | refine (closeSlot_pending ..).trans ?_ | apply closeSlot_inv | dsimp only

theorem execLoopCoeffSet_keeps (r : Req) (p : List Byte) (s : State) : s.Keeps (execLoopCoeffSet r p s) := by
  refine .serve fun s i => ?_
  repeat' with_reducible first
    | assumption | apply Answer.keeps_ite | exact badAt_keeps | exact no_keeps | exact Answer.keeps_refuse
    | refine Answer.keeps_done ?_ fun h => ?_ | apply ite_inv | apply ite_pending
    | refine (addRecord_pending ..).trans ?_ | apply addRecord_inv | refine (awaitAck_pending ..).trans ?_
    | apply awaitAck_inv | refine (setCoeffs_pending ..).trans ?_ | apply setCoeffs_inv | split
    | (apply foldl_inv; intro _ _ _) | refine (foldl_pending _ (fun _ _ => ?_) _ _).trans ?_
    | refine .upd rfl rfl rfl rfl rfl rfl rfl rfl ?_ | dsimp only

theorem execFaultReset_keeps (r : Req) (p : List Byte) (s : State) : s.Keeps (execFaultReset r p s) := by
  refine .serve fun s i => ?_
  repeat' with_reducible first
    | assumption | apply Answer.keeps_ite | exact badAt_keeps | exact no_keeps
    | refine Answer.keeps_later ?_ fun h => ?_ | apply ite_inv | apply ite_pending
    | refine (sendRecord_pending ..).trans ?_ | apply sendRecord_inv | refine (awaitAck_pending ..).trans ?_
    | apply awaitAck_inv | refine .upd rfl rfl rfl rfl rfl rfl rfl rfl ?_ | dsimp only

theorem execFaultResetApply_keeps (s : State) : s.Keeps (execFaultResetApply s) := by
  refine .silent (.next ?_ fun h => ?_)
  · exact (foldl_pending _ (fun _ _ => (replyTo_pending ..).trans (faultReset_pending ..)) _ _).trans rfl
  · exact foldl_inv _ (fun _ _ hs => replyTo_inv _ _ _ _ _ (faultReset_inv _ _ _ _ hs)) _ _
      (.upd rfl rfl rfl rfl rfl rfl rfl rfl h)

theorem execPairStatus_keeps (r : Req) (p : List Byte) (s : State) : s.Keeps (execPairStatus r p s) := by
  refine .serve fun s i => ?_
  repeat' with_reducible first
    | assumption | apply noParams_keeps | refine Answer.keeps_done ?_ fun h => ?_ | dsimp only

theorem execPairHandover_keeps (r : Req) (p : List Byte) (s : State) : s.Keeps (execPairHandover r p s) := by
  refine .serve fun s i => ?_
  repeat' with_reducible first
    | assumption | apply Answer.keeps_ite | exact badAt_keeps | exact no_keeps
    | refine Answer.keeps_done ?_ fun h => ?_ | apply ite_inv | apply ite_pending
    | refine .upd rfl rfl rfl rfl rfl rfl rfl rfl ?_ | dsimp only

theorem execOpStatus_keeps (r : Req) (p : List Byte) (s : State) : s.Keeps (execOpStatus r p s) := by
  refine .serve fun s i => ?_
  repeat' with_reducible first
    | assumption | apply Answer.keeps_ite | exact badAt_keeps | refine Answer.keeps_done ?_ fun h => ?_
    | apply ite_inv | apply ite_pending | split | refine .upd rfl rfl rfl rfl rfl rfl rfl rfl ?_ | dsimp only

theorem execOpCancel_keeps (r : Req) (p : List Byte) (s : State) : s.Keeps (execOpCancel r p s) := by
  refine .serve fun s i => Answer.keeps_ite badAt_keeps ?_
  split
  · exact badAt_keeps
  · refine Answer.keeps_ite (Answer.keeps_done rfl id) ?_
    split
    next => exact no_keeps
    next t ht =>
      obtain ⟨hp, hi⟩ := cancelOp_keeps s _ t ht
      exact Answer.keeps_done hp hi

theorem execChunkTimeout_keeps (op : BitVec 16) (s : State) : s.Keeps (execChunkTimeout op s) := by
  refine .silent ?_
  unfold execChunkTimeout
  dsimp only
  generalize s.silent = s
  repeat' with_reducible first
    | assumption | apply Keeps.ite | refine .next ?_ fun h => ?_ | apply ite_inv | apply ite_pending
    | refine (dropImage_pending ..).trans ?_ | apply dropImage_inv | refine (opEnd_pending ..).trans ?_
    | apply opEnd_inv | split | refine .upd rfl rfl rfl rfl rfl rfl rfl rfl ?_ | dsimp only

theorem execTraceArm_keeps (r : Req) (p : List Byte) (s : State) : s.Keeps (execTraceArm r p s) := by
  refine .serve fun s i => ?_
  repeat' with_reducible first
    | assumption | apply Answer.keeps_ite | exact badAt_keeps | exact no_keeps
    | refine Answer.keeps_done ?_ fun h => ?_ | apply ite_inv | apply ite_pending
    | refine (blotState_pending ..).trans ?_ | apply blotState_inv | refine .upd rfl rfl rfl rfl rfl rfl rfl rfl ?_
    | dsimp only

theorem execTraceRead_keeps (r : Req) (p : List Byte) (s : State) : s.Keeps (execTraceRead r p s) := by
  refine .serve fun s i => ?_
  repeat' with_reducible first
    | assumption | apply Answer.keeps_ite | exact badAt_keeps | exact no_keeps
    | refine Answer.keeps_done ?_ fun h => ?_ | apply ite_inv | apply ite_pending
    | refine (opStart_pending ..).trans ?_ | apply opStart_inv | refine (opUpd_pending ..).trans ?_ | apply opUpd_inv
    | refine (opEnd_pending ..).trans ?_ | apply opEnd_inv | split | refine .upd rfl rfl rfl rfl rfl rfl rfl rfl ?_
    | dsimp only

theorem execEventsRead_keeps (r : Req) (p : List Byte) (s : State) : s.Keeps (execEventsRead r p s) := by
  refine .serve fun s i => ?_
  repeat' with_reducible first
    | assumption | apply Answer.keeps_ite | exact badAt_keeps | refine Answer.keeps_done ?_ fun h => ?_
    | apply ite_inv | apply ite_pending | split | refine .upd rfl rfl rfl rfl rfl rfl rfl rfl ?_ | dsimp only

theorem execFwLoad_keeps (r : Req) (p : List Byte) (s : State) : s.Keeps (execFwLoad r p s) := by
  refine .serve fun s i => chunk_keeps s _ _ _ _ _ _ _ _ (fun total data x hx => ?_) (fun u o => ?_) fun u o => ?_
  · split at hx
    · cases hx
      exact badAt_keeps
    · split at hx
      · cases hx
        exact no_keeps
      · cases hx
  · split
    · exact ⟨rfl, fun h => .upd rfl rfl rfl rfl rfl rfl rfl rfl (setFwSlot_inv u u.otherSlot ⟨false, o.data⟩ h)⟩
    · exact ⟨rfl, id⟩
  · split
    · exact ⟨imageLoaded_pending .., imageLoaded_inv u o⟩
    · exact ⟨keysLoaded_pending .., keysLoaded_inv u o⟩

theorem execFwActivate_keeps (r : Req) (p : List Byte) (s : State) : s.Keeps (execFwActivate r p s) := by
  refine .serve fun s i => ?_
  repeat' with_reducible first
    | assumption | apply Answer.keeps_ite | exact badAt_keeps | exact no_keeps
    | refine Answer.keeps_restarts ?_ fun h => ?_ | apply ite_inv | apply ite_pending
    | refine .upd rfl rfl rfl rfl rfl rfl rfl rfl ?_ | dsimp only

theorem execAttest_keeps (r : Req) (p : List Byte) (s : State) : s.Keeps (execAttest r p s) := by
  refine .serve fun s i => ?_
  repeat' with_reducible first
    | assumption | apply Answer.keeps_ite | exact badAt_keeps | refine Answer.keeps_done ?_ fun h => ?_
    | apply ite_inv | apply ite_pending | refine .upd rfl rfl rfl rfl rfl rfl rfl rfl ?_ | dsimp only

theorem execOtpBurn_keeps (r : Req) (p : List Byte) (s : State) : s.Keeps (execOtpBurn r p s) :=
  .serve fun s _ => chunk_keeps s _ _ _ _ _ _ _ _ (fun _ _ _ hx => nomatch hx)
    (fun u o => ⟨opUpd_pending u o.id _, opUpd_inv u o.id _⟩) fun u o => ⟨burnStart_pending u o, burnStart_inv u o⟩

theorem execOtpBurnProgram_keeps (ok : Bool) (s : State) : s.Keeps (execOtpBurnProgram ok s) := by
  refine .silent ?_
  unfold execOtpBurnProgram
  dsimp only
  generalize s.silent = s
  repeat' with_reducible first
    | assumption | apply Keeps.ite | refine .next ?_ fun h => ?_ | apply ite_inv | apply ite_pending
    | refine (setGen_pending ..).trans ?_ | apply setGen_inv | refine (opUpd_pending ..).trans ?_ | apply opUpd_inv
    | refine (opEnd_pending ..).trans ?_ | apply opEnd_inv | refine (raise_pending ..).trans ?_ | apply raise_inv
    | split | refine .upd rfl rfl rfl rfl rfl rfl rfl rfl ?_ | dsimp only

theorem execJournalRead_keeps (r : Req) (p : List Byte) (s : State) : s.Keeps (execJournalRead r p s) := by
  refine .serve fun s i => ?_
  repeat' with_reducible first
    | assumption | apply Answer.keeps_ite | exact badAt_keeps | refine Answer.keeps_done ?_ fun h => ?_
    | apply ite_inv | apply ite_pending | dsimp only

end Sys2Proof.Machine
end

section
/-! SUPPORT. The commands of the pair, the cycle boundary and the nibs leave the queue as it is and keep the
invariant. -/

namespace Sys2Proof.Machine

open State

theorem execQuillPathLoss_keeps (t : Tick) (s : State) : s.Keeps (execQuillPathLoss t s) := by
  refine .silent ?_
  unfold execQuillPathLoss
  dsimp only
  generalize s.silent = s
  repeat' with_reducible first
    | assumption | apply Keeps.ite | refine .next ?_ fun h => ?_ | apply ite_inv | apply ite_pending
    | refine (pathLost_pending ..).trans ?_ | apply pathLost_inv | refine .upd rfl rfl rfl rfl rfl rfl rfl rfl ?_
    | dsimp only

theorem execQuillPathReturn_keeps (_t : Tick) (s : State) : s.Keeps (execQuillPathReturn _t s) := by
  refine .silent ?_
  unfold execQuillPathReturn
  dsimp only
  generalize s.silent = s
  repeat' with_reducible first
    | assumption | apply Keeps.ite | refine .next ?_ fun h => ?_ | apply ite_inv | apply ite_pending
    | refine .upd rfl rfl rfl rfl rfl rfl rfl rfl ?_ | dsimp only

theorem execLanePathLoss_keeps (t : Tick) (s : State) : s.Keeps (execLanePathLoss t s) := by
  refine .silent ?_
  unfold execLanePathLoss
  dsimp only
  generalize s.silent = s
  repeat' with_reducible first
    | assumption | apply Keeps.ite | refine .next ?_ fun h => ?_ | apply ite_inv | apply ite_pending
    | refine (partnerDown_pending ..).trans ?_ | apply partnerDown_inv | refine (pathLost_pending ..).trans ?_
    | apply pathLost_inv | refine .upd rfl rfl rfl rfl rfl rfl rfl rfl ?_ | dsimp only

theorem execGiveupSignalDetect_keeps (t : Tick) (s : State) : s.Keeps (execGiveupSignalDetect t s) := by
  refine .silent ?_
  unfold execGiveupSignalDetect
  dsimp only
  generalize s.silent = s
  repeat' with_reducible first
    | assumption | apply Keeps.ite | refine .next ?_ fun h => ?_ | apply ite_inv | apply ite_pending
    | refine (declareFailure_pending ..).trans ?_ | apply declareFailure_inv
    | refine .upd rfl rfl rfl rfl rfl rfl rfl rfl ?_ | dsimp only

theorem execFailureDeclare_keeps (t : Tick) (s : State) : s.Keeps (execFailureDeclare t s) := by
  refine .silent ?_
  unfold execFailureDeclare
  dsimp only
  generalize s.silent = s
  repeat' with_reducible first
    | assumption | apply Keeps.ite | refine .next ?_ fun h => ?_ | apply ite_inv | apply ite_pending
    | refine (declareFailure_pending ..).trans ?_ | apply declareFailure_inv | split
    | refine .upd rfl rfl rfl rfl rfl rfl rfl rfl ?_ | dsimp only

/-- A claim needs LIVE (R350). -/
theorem State.live_of_claimCase {s : State} {tokIn : Bool} {c : Claim} (h : s.claimCase tokIn = some c) :
    s.sys.live = true := by
  cases hlive : s.sys.live with
  | true => rfl
  | false => simp [claimCase, hlive] at h

theorem execTokenClaim_keeps (tokIn released : Bool) (s : State) : s.Keeps (execTokenClaim tokIn released s) := by
  refine .silent ?_
  unfold execTokenClaim
  generalize s.silent = s
  dsimp only
  split
  next htok => exact .next rfl fun h => ⟨fun _ => htok, h.live, h.out, h.queue, h.log, h.stamps, h.mem⟩
  next =>
    split
    next => exact .next rfl fun h => .upd rfl rfl rfl rfl rfl rfl rfl rfl h
    next c hc =>
      have hlive := live_of_claimCase hc
      exact .next ((claimed_pending ..).trans (takeToken_pending s c tokIn released hlive)) fun h =>
        claimed_inv _ _ _ (takeToken_inv s c tokIn released hlive h)

/-- A side that withdraws GRANT and asserts neither TOK_OUT nor anything new meets what the invariant says of tokens. -/
theorem State.Inv.tokenDown {s t : State} (h : s.Inv) (htok : t.pair.tokOut = false) (hgrant : t.pair.grant = false)
    (hevt : t.evt = s.evt) (hjrnl : t.jrnl = s.jrnl) (hink : t.ink = s.ink) : t.Inv := by
  refine ⟨?_, ?_, fun _ => htok, ?_, ?_, ?_, ?_⟩
  · rw [hgrant]; exact nofun
  · rw [htok]; exact nofun
  · rw [hevt]; exact h.queue
  · rw [hjrnl]; exact h.log
  · rw [hjrnl]; exact h.stamps
  · rw [hink]; exact h.mem

theorem execTokInAssert_keeps (t : Tick) (s : State) : s.Keeps (execTokInAssert t s) := by
  refine .silent ?_
  unfold execTokInAssert
  generalize s.silent = s
  refine .ite (.next rfl id) (.ite (.next rfl fun h => ?_) (.ite (.next rfl fun h => ?_) (.next ?_ fun h => ?_)))
  · exact .upd rfl rfl rfl rfl rfl rfl rfl rfl h
  · exact ⟨nofun, h.live, h.out, h.queue, h.log, h.stamps, h.mem⟩
  · exact (raise_pending ..).trans ((partnerDown_pending ..).trans (startJoin_pending ..))
  · exact raise_inv _ _ _ _ _ (partnerDown_inv _ (startJoin_inv _ (h.tokenDown rfl rfl rfl rfl rfl)))

theorem execTokenReleaseHandover_keeps (s : State) : s.Keeps (execTokenReleaseHandover s) := by
  refine .silent ?_
  unfold execTokenReleaseHandover
  generalize s.silent = s
  dsimp only
  split
  · exact .next rfl id
  · refine .ite (.next rfl id) (.ite (.next rfl fun h => ?_) (.next (countHandover_pending ..) fun h => ?_))
    · exact .upd rfl rfl rfl rfl rfl rfl rfl rfl h
    · exact countHandover_inv _ (h.tokenDown rfl rfl rfl rfl rfl)

theorem execPartnerFrameSend_keeps (s : State) : s.Keeps (execPartnerFrameSend s) := by
  refine .silent ?_
  unfold execPartnerFrameSend
  dsimp only
  generalize s.silent = s
  repeat' with_reducible first
    | assumption | apply Keeps.ite | refine .next ?_ fun h => ?_ | apply ite_inv | apply ite_pending
    | refine (imageFor_pending ..).trans ?_ | apply imageFor_inv | refine (emit_pending ..).trans ?_ | apply emit_inv
    | refine (raise_pending ..).trans ?_ | apply raise_inv | refine (clear_pending ..).trans ?_ | apply clear_inv
    | refine .upd rfl rfl rfl rfl rfl rfl rfl rfl ?_ | dsimp only

theorem execPartnerFrameReceive_keeps (f : PFrame) (crcOk : Bool) (t : Tick) (s : State) :
    s.Keeps (execPartnerFrameReceive f crcOk t s) := by
  refine .silent ?_
  unfold execPartnerFrameReceive
  dsimp only
  generalize s.silent = s
  repeat' with_reducible first
    | assumption | apply Keeps.ite | refine .next ?_ fun h => ?_ | apply ite_inv | apply ite_pending
    | refine (seePartner_pending ..).trans ?_ | apply seePartner_inv | refine (pairEvents_pending ..).trans ?_
    | apply pairEvents_inv | refine (takeAck_pending ..).trans ?_ | apply takeAck_inv
    | refine (startJoin_pending ..).trans ?_ | apply startJoin_inv | refine (leadFrame_pending ..).trans ?_
    | apply leadFrame_inv | refine (followFrame_pending ..).trans ?_ | apply followFrame_inv
    | refine (readyJudge_pending ..).trans ?_ | apply readyJudge_inv | dsimp only

theorem execPbk_keeps (mask : BitVec 16) (t : Tick) (s : State) : s.Keeps (execPbk mask t s) := by
  refine .silent ?_
  unfold execPbk
  dsimp only
  generalize s.silent = s
  repeat' with_reducible first
    | assumption | apply Keeps.ite | refine .next ?_ fun h => ?_ | apply ite_inv | apply ite_pending
    | refine (sendBlk_pending ..).trans ?_ | apply sendBlk_inv | refine (force_pending ..).trans ?_ | apply force_inv
    | dsimp only

theorem execReplicatedRecordApply_keeps (s : State) : s.Keeps (execReplicatedRecordApply s) := by
  refine .silent ?_
  unfold execReplicatedRecordApply
  dsimp only
  generalize s.silent = s
  repeat' with_reducible first
    | assumption | apply Keeps.ite | refine .next ?_ fun h => ?_ | apply ite_inv | apply ite_pending
    | refine (commitWords_pending ..).trans ?_ | apply commitWords_inv | refine (applyRecord_pending ..).trans ?_
    | apply applyRecord_inv | (apply foldl_inv; intro _ _ _) | refine (foldl_pending _ (fun _ _ => ?_) _ _).trans ?_
    | refine .upd rfl rfl rfl rfl rfl rfl rfl rfl ?_ | dsimp only

theorem execJoinImageComplete_keeps (s : State) : s.Keeps (execJoinImageComplete s) := by
  refine .silent ?_
  unfold execJoinImageComplete
  dsimp only
  generalize s.silent = s
  repeat' with_reducible first
    | assumption | apply Keeps.ite | refine .next ?_ fun h => ?_ | apply ite_inv | apply ite_pending
    | refine (loadImage_pending ..).trans ?_ | apply loadImage_inv | split
    | refine .upd rfl rfl rfl rfl rfl rfl rfl rfl ?_ | dsimp only

theorem execJoinCatchupComplete_keeps (s : State) : s.Keeps (execJoinCatchupComplete s) :=
  .silent (.ite (.next rfl id) (.next rfl fun h => ⟨h.grant, h.live, nofun, h.queue, h.log, h.stamps, h.mem⟩))

theorem execReversionHoldoffExpiry_keeps (t : Tick) (s : State) : s.Keeps (execReversionHoldoffExpiry t s) := by
  refine .silent ?_
  unfold execReversionHoldoffExpiry
  dsimp only
  generalize s.silent = s
  repeat' with_reducible first
    | assumption | apply Keeps.ite | refine .next ?_ fun h => ?_ | apply ite_inv | apply ite_pending
    | refine (raise_pending ..).trans ?_ | apply raise_inv | refine .upd rfl rfl rfl rfl rfl rfl rfl rfl ?_
    | dsimp only

theorem execCycleBoundary_keeps (e : Env) (s : State) : s.Keeps (execCycleBoundary e s) := by
  refine .silent ?_
  unfold execCycleBoundary
  dsimp only
  generalize s.silent = s
  repeat' with_reducible first
    | assumption | apply Keeps.ite | refine .next ?_ fun h => ?_ | apply ite_inv | apply ite_pending
    | refine (advance_pending ..).trans ?_ | apply advance_inv | refine (shiftStored_pending ..).trans ?_
    | apply shiftStored_inv | refine (stepDown_pending ..).trans ?_ | apply stepDown_inv
    | refine (applyNext_pending ..).trans ?_ | apply applyNext_inv | refine (clockBoundary_pending ..).trans ?_
    | apply clockBoundary_inv | refine (bondBoundary_pending ..).trans ?_ | apply bondBoundary_inv
    | refine (overrun_pending ..).trans ?_ | apply overrun_inv | refine (moveShift_pending ..).trans ?_
    | apply moveShift_inv | refine (repeatBlk_pending ..).trans ?_ | apply repeatBlk_inv
    | refine (sessBoundary_pending ..).trans ?_ | apply sessBoundary_inv | refine (netBoundary_pending ..).trans ?_
    | apply netBoundary_inv | refine (inkBoundary_pending ..).trans ?_ | apply inkBoundary_inv
    | refine (strBoundary_pending ..).trans ?_ | apply strBoundary_inv | refine (pairBoundary_pending ..).trans ?_
    | apply pairBoundary_inv | refine (safRun_pending ..).trans ?_ | apply safRun_inv
    | refine .upd rfl rfl rfl rfl rfl rfl rfl rfl ?_ | dsimp only

theorem execNibPowerUp_keeps (n : Fin 3072) (ident : Word) (typ : Fin 4) (turnLo turnHi fw : BitVec 16) (s : State) :
    s.Keeps (execNibPowerUp n ident typ turnLo turnHi fw s) := by
  refine .silent ?_
  unfold execNibPowerUp
  dsimp only
  generalize s.silent = s
  repeat' with_reducible first
    | assumption | apply Keeps.ite | refine .next ?_ fun h => ?_ | apply ite_inv | apply ite_pending
    | refine (setNib_pending ..).trans ?_ | apply setNib_inv | refine (setAux_pending ..).trans ?_ | apply setAux_inv
    | refine .upd rfl rfl rfl rfl rfl rfl rfl rfl ?_ | dsimp only

theorem execNibPowerLoss_keeps (n : Fin 3072) (s : State) : s.Keeps (execNibPowerLoss n s) := by
  refine .silent ?_
  unfold execNibPowerLoss
  dsimp only
  generalize s.silent = s
  repeat' with_reducible first
    | assumption | refine .next ?_ fun h => ?_ | refine (setNib_pending ..).trans ?_ | apply setNib_inv
    | refine (setAux_pending ..).trans ?_ | apply setAux_inv | refine .upd rfl rfl rfl rfl rfl rfl rfl rfl ?_
    | dsimp only

theorem State.nibFill_keeps (s : State) (p : Nat) (v : StrokePass) :
    (s.nibFill p v).1.pending = s.pending ∧ (s.Inv → (s.nibFill p v).1.Inv) := by
  unfold nibFill
  dsimp only
  split
  · exact ⟨rfl, id⟩
  · split
    · exact ⟨rfl, id⟩
    · exact ⟨setAux_pending .., setAux_inv _ _ _⟩

theorem execNibStrokePass_keeps (n : Fin 3072) (v : StrokePass) (s : State) : s.Keeps (execNibStrokePass n v s) := by
  refine .silent ?_
  unfold execNibStrokePass
  generalize s.silent = s
  extract_lets s₀ x out e ok fwd r at'
  have hp : e.pending = s.pending := nibEcho_pending ..
  have hi : s.Inv → e.Inv := nibEcho_inv _ _ _ _
  obtain ⟨hpf, hif⟩ := (e.nibHeader n v).nibFill_keeps n v
  have send (o : Output) : s.Keeps (.next (e.nibSend n out o)) :=
    .next ((nibSend_pending ..).trans hp) fun h => nibSend_inv _ _ _ _ (hi h)
  exact .ite (.next rfl id) (.ite (send _) (.ite (send _) (.next
    ((nibSend_pending ..).trans (hpf.trans ((nibHeader_pending ..).trans hp))) fun h =>
      nibSend_inv _ _ _ _ (hif (nibHeader_inv _ _ _ (hi h))))))

theorem execNibSegmentReceive_keeps (n : Fin 3072) (side : Fin 2) (hdr seg : List Byte) (err : Bool) (tS : Nat)
    (s : State) :
    s.Keeps (execNibSegmentReceive n side hdr seg err tS s) := by
  refine .silent ?_
  unfold execNibSegmentReceive
  dsimp only
  generalize s.silent = s
  repeat' with_reducible first
    | assumption | apply Keeps.ite | refine .next ?_ fun h => ?_ | apply ite_inv | apply ite_pending
    | refine (setAux_pending ..).trans ?_ | apply setAux_inv | refine (nibTake_pending ..).trans ?_
    | apply nibTake_inv | dsimp only

theorem execIdentify_keeps (n : Fin 3072) (s : State) : s.Keeps (execIdentify n s) := by
  refine .silent ?_
  unfold execIdentify
  dsimp only
  generalize s.silent = s
  repeat' with_reducible first
    | assumption | apply Keeps.ite | refine .next ?_ fun h => ?_ | apply ite_inv | apply ite_pending
    | refine (nibRepeat_pending ..).trans ?_ | apply nibRepeat_inv | refine (nibReply_pending ..).trans ?_
    | apply nibReply_inv | dsimp only

theorem execSetArr_keeps (n : Fin 3072) (s : State) : s.Keeps (execSetArr n s) := by
  refine .silent ?_
  unfold execSetArr
  dsimp only
  generalize s.silent = s
  repeat' with_reducible first
    | assumption | apply Keeps.ite | refine .next ?_ fun h => ?_ | apply ite_inv | apply ite_pending
    | refine (nibRepeat_pending ..).trans ?_ | apply nibRepeat_inv | refine (nibReply_pending ..).trans ?_
    | apply nibReply_inv | refine (setNib_pending ..).trans ?_ | apply setNib_inv
    | refine .upd rfl rfl rfl rfl rfl rfl rfl rfl ?_ | dsimp only

theorem execAdmitCi_keeps (n : Fin 3072) (s : State) : s.Keeps (execAdmitCi n s) := by
  refine .silent ?_
  unfold execAdmitCi
  dsimp only
  generalize s.silent = s
  repeat' with_reducible first
    | assumption | apply Keeps.ite | refine .next ?_ fun h => ?_ | apply ite_inv | apply ite_pending
    | refine (nibRepeat_pending ..).trans ?_ | apply nibRepeat_inv | refine (nibReply_pending ..).trans ?_
    | apply nibReply_inv | refine (nibDown_pending ..).trans ?_ | apply nibDown_inv
    | refine (setNib_pending ..).trans ?_ | apply setNib_inv | refine (setAux_pending ..).trans ?_ | apply setAux_inv
    | refine .upd rfl rfl rfl rfl rfl rfl rfl rfl ?_ | dsimp only

theorem execRetire_keeps (n : Fin 3072) (s : State) : s.Keeps (execRetire n s) := by
  refine .silent ?_
  unfold execRetire
  dsimp only
  generalize s.silent = s
  repeat' with_reducible first
    | assumption | apply Keeps.ite | refine .next ?_ fun h => ?_ | apply ite_inv | apply ite_pending
    | refine (nibRepeat_pending ..).trans ?_ | apply nibRepeat_inv | refine (nibDown_pending ..).trans ?_
    | apply nibDown_inv | refine (setNib_pending ..).trans ?_ | apply setNib_inv
    | refine (nibReply_pending ..).trans ?_ | apply nibReply_inv | refine .upd rfl rfl rfl rfl rfl rfl rfl rfl ?_
    | dsimp only

theorem execMgmtUnknownRequest_keeps (n : Fin 3072) (s : State) : s.Keeps (execMgmtUnknownRequest n s) := by
  refine .silent ?_
  unfold execMgmtUnknownRequest
  dsimp only
  generalize s.silent = s
  repeat' with_reducible first
    | assumption | apply Keeps.ite | refine .next ?_ fun h => ?_ | apply ite_inv | apply ite_pending
    | refine (nibRepeat_pending ..).trans ?_ | apply nibRepeat_inv | refine (nibReply_pending ..).trans ?_
    | apply nibReply_inv | dsimp only

theorem execNibTargetCycleStart_keeps (n : Fin 3072) (s : State) : s.Keeps (execNibTargetCycleStart n s) := by
  refine .silent ?_
  unfold execNibTargetCycleStart
  dsimp only
  generalize s.silent = s
  repeat' with_reducible first
    | assumption | apply Keeps.ite | refine .next ?_ fun h => ?_ | apply ite_inv | apply ite_pending
    | refine (setNib_pending ..).trans ?_ | apply setNib_inv | refine (setAux_pending ..).trans ?_ | apply setAux_inv
    | refine (nibGoverned_pending ..).trans ?_ | apply nibGoverned_inv | refine (nibDown_pending ..).trans ?_
    | apply nibDown_inv | split | refine .upd rfl rfl rfl rfl rfl rfl rfl rfl ?_ | dsimp only

theorem execNibEdgeExecute_keeps (n : Fin 3072) (seen : EdgeSeen) (s : State) :
    s.Keeps (execNibEdgeExecute n seen s) := by
  refine .silent ?_
  unfold execNibEdgeExecute
  dsimp only
  generalize s.silent = s
  repeat' with_reducible first
    | assumption | apply Keeps.ite | refine .next ?_ fun h => ?_ | apply ite_inv | apply ite_pending
    | refine (setAux_pending ..).trans ?_ | apply setAux_inv | refine (setNib_pending ..).trans ?_ | apply setNib_inv
    | refine (emit_pending ..).trans ?_ | apply emit_inv | split | refine .upd rfl rfl rfl rfl rfl rfl rfl rfl ?_
    | dsimp only

theorem execBlk_keeps (n : Fin 3072) (side : Fin 2) (s : State) : s.Keeps (execBlk n side s) := by
  refine .silent ?_
  unfold execBlk
  dsimp only
  generalize s.silent = s
  repeat' with_reducible first
    | assumption | apply Keeps.ite | refine .next ?_ fun h => ?_ | apply ite_inv | apply ite_pending
    | refine (nibForward_pending ..).trans ?_ | apply nibForward_inv | refine (nibLatch_pending ..).trans ?_
    | apply nibLatch_inv | dsimp only

theorem execClr_keeps (n : Fin 3072) (side : Fin 2) (s : State) : s.Keeps (execClr n side s) := by
  refine .silent ?_
  unfold execClr
  dsimp only
  generalize s.silent = s
  repeat' with_reducible first
    | assumption | apply Keeps.ite | refine .next ?_ fun h => ?_ | apply ite_inv | apply ite_pending
    | refine (nibForward_pending ..).trans ?_ | apply nibForward_inv | refine (setNib_pending ..).trans ?_
    | apply setNib_inv | refine .upd rfl rfl rfl rfl rfl rfl rfl rfl ?_ | dsimp only

theorem execBrk_keeps (n : Fin 3072) (side : Fin 2) (s : State) : s.Keeps (execBrk n side s) := by
  refine .silent ?_
  unfold execBrk
  dsimp only
  generalize s.silent = s
  repeat' with_reducible first
    | assumption | apply Keeps.ite | refine .next ?_ fun h => ?_ | apply ite_inv | apply ite_pending
    | refine (setNib_pending ..).trans ?_ | apply setNib_inv | refine .upd rfl rfl rfl rfl rfl rfl rfl rfl ?_
    | dsimp only

theorem execEis_keeps (n : Fin 3072) (side : Fin 2) (s : State) : s.Keeps (execEis n side s) := by
  refine .silent ?_
  unfold execEis
  dsimp only
  generalize s.silent = s
  repeat' with_reducible first
    | assumption | apply Keeps.ite | refine .next ?_ fun h => ?_ | apply ite_inv | apply ite_pending
    | refine (nibForward_pending ..).trans ?_ | apply nibForward_inv | refine (setNib_pending ..).trans ?_
    | apply setNib_inv | refine .upd rfl rfl rfl rfl rfl rfl rfl rfl ?_ | dsimp only

theorem execEcq_keeps (n : Fin 3072) (side : Fin 2) (d : SetData) (ok : Bool) (s : State) :
    s.Keeps (execEcq n side d ok s) := by
  refine .silent ?_
  unfold execEcq
  dsimp only
  generalize s.silent = s
  repeat' with_reducible first
    | assumption | apply Keeps.ite | refine .next ?_ fun h => ?_ | apply ite_inv | apply ite_pending
    | refine (nibSend_pending ..).trans ?_ | apply nibSend_inv | refine (nibForward_pending ..).trans ?_
    | apply nibForward_inv | dsimp only

theorem execLbk_keeps (n : Fin 3072) (side : Fin 2) (d : SetData) (ok : Bool) (s : State) :
    s.Keeps (execLbk n side d ok s) := by
  refine .silent ?_
  unfold execLbk
  dsimp only
  generalize s.silent = s
  repeat' with_reducible first
    | assumption | apply Keeps.ite | refine .next ?_ fun h => ?_ | apply ite_inv | apply ite_pending
    | refine (nibForward_pending ..).trans ?_ | apply nibForward_inv | refine (nibDown_pending ..).trans ?_
    | apply nibDown_inv | refine (setNib_pending ..).trans ?_ | apply setNib_inv
    | refine .upd rfl rfl rfl rfl rfl rfl rfl rfl ?_ | dsimp only

theorem execNibSideLoss_keeps (n : Fin 3072) (side : Fin 2) (s : State) : s.Keeps (execNibSideLoss n side s) := by
  refine .silent ?_
  unfold execNibSideLoss
  dsimp only
  generalize s.silent = s
  repeat' with_reducible first
    | assumption | apply Keeps.ite | refine .next ?_ fun h => ?_ | apply ite_inv | apply ite_pending
    | refine (setNib_pending ..).trans ?_ | apply setNib_inv | refine .upd rfl rfl rfl rfl rfl rfl rfl rfl ?_
    | dsimp only

theorem execNibBrkTimer_keeps (n : Fin 3072) (s : State) : s.Keeps (execNibBrkTimer n s) := by
  refine .silent ?_
  unfold execNibBrkTimer
  dsimp only
  generalize s.silent = s
  repeat' with_reducible first
    | assumption | apply Keeps.ite | refine .next ?_ fun h => ?_ | apply ite_inv | apply ite_pending
    | refine (nibSend_pending ..).trans ?_ | apply nibSend_inv | dsimp only

theorem execNibWrapExit_keeps (n : Fin 3072) (side : Fin 2) (s : State) : s.Keeps (execNibWrapExit n side s) := by
  refine .silent ?_
  unfold execNibWrapExit
  dsimp only
  generalize s.silent = s
  repeat' with_reducible first
    | assumption | apply Keeps.ite | refine .next ?_ fun h => ?_ | apply ite_inv | apply ite_pending
    | refine (setNib_pending ..).trans ?_ | apply setNib_inv | refine .upd rfl rfl rfl rfl rfl rfl rfl rfl ?_
    | dsimp only

theorem execNibSideSyncAcquire_keeps (n : Fin 3072) (side : Fin 2) (s : State) :
    s.Keeps (execNibSideSyncAcquire n side s) := by
  refine .silent ?_
  unfold execNibSideSyncAcquire
  dsimp only
  generalize s.silent = s
  repeat' with_reducible first
    | assumption | apply Keeps.ite | refine .next ?_ fun h => ?_ | apply ite_inv | apply ite_pending
    | refine (nibSend_pending ..).trans ?_ | apply nibSend_inv | refine (setNib_pending ..).trans ?_
    | apply setNib_inv | refine .upd rfl rfl rfl rfl rfl rfl rfl rfl ?_ | dsimp only

theorem execNibTimeError_keeps (n : Fin 3072) (s : State) : s.Keeps (execNibTimeError n s) := by
  refine .silent ?_
  unfold execNibTimeError
  dsimp only
  generalize s.silent = s
  repeat' with_reducible first
    | assumption | apply Keeps.ite | refine .next ?_ fun h => ?_ | apply ite_inv | apply ite_pending
    | refine (setAux_pending ..).trans ?_ | apply setAux_inv | refine .upd rfl rfl rfl rfl rfl rfl rfl rfl ?_
    | dsimp only

theorem execNibShortDetect_keeps (n : Fin 3072) (sw : Fin 8) (hard : Bool) (t : Tick) (s : State) :
    s.Keeps (execNibShortDetect n sw hard t s) := by
  refine .silent ?_
  unfold execNibShortDetect
  dsimp only
  generalize s.silent = s
  repeat' with_reducible first
    | assumption | apply Keeps.ite | refine .next ?_ fun h => ?_ | apply ite_inv | apply ite_pending
    | refine (setAux_pending ..).trans ?_ | apply setAux_inv | refine (nibFault_pending ..).trans ?_
    | apply nibFault_inv | split | refine .upd rfl rfl rfl rfl rfl rfl rfl rfl ?_ | dsimp only

theorem execNibFaultDetect_keeps (n : Fin 3072) (f : NibFault) (s : State) :
    s.Keeps (execNibFaultDetect n f s) := by
  refine .silent ?_
  unfold execNibFaultDetect
  dsimp only
  generalize s.silent = s
  repeat' with_reducible first
    | assumption | apply Keeps.ite | refine .next ?_ fun h => ?_ | apply ite_inv | apply ite_pending
    | refine (setAux_pending ..).trans ?_ | apply setAux_inv | refine (nibFault_pending ..).trans ?_
    | apply nibFault_inv | split | refine .upd rfl rfl rfl rfl rfl rfl rfl rfl ?_ | dsimp only

theorem execNibFaultGone_keeps (n : Fin 3072) (f : NibFault) (s : State) : s.Keeps (execNibFaultGone n f s) := by
  refine .silent ?_
  unfold execNibFaultGone
  dsimp only
  generalize s.silent = s
  repeat' with_reducible first
    | assumption | refine .next ?_ fun h => ?_ | refine (setAux_pending ..).trans ?_ | apply setAux_inv | split
    | refine .upd rfl rfl rfl rfl rfl rfl rfl rfl ?_ | dsimp only

theorem execNibBypassClose_keeps (n : Fin 3072) (s : State) : s.Keeps (execNibBypassClose n s) := by
  refine .silent ?_
  unfold execNibBypassClose
  dsimp only
  generalize s.silent = s
  repeat' with_reducible first
    | assumption | apply Keeps.ite | refine .next ?_ fun h => ?_ | apply ite_inv | apply ite_pending
    | refine (setNib_pending ..).trans ?_ | apply setNib_inv | refine .upd rfl rfl rfl rfl rfl rfl rfl rfl ?_
    | dsimp only

theorem execNibOvervoltBypass_keeps (n : Fin 3072) (s : State) : s.Keeps (execNibOvervoltBypass n s) := by
  refine .silent ?_
  unfold execNibOvervoltBypass
  dsimp only
  generalize s.silent = s
  repeat' with_reducible first
    | assumption | apply Keeps.ite | refine .next ?_ fun h => ?_ | apply ite_inv | apply ite_pending
    | refine (setNib_pending ..).trans ?_ | apply setNib_inv | refine .upd rfl rfl rfl rfl rfl rfl rfl rfl ?_
    | dsimp only

theorem execBypassElementReopened_keeps (ci : Fin 3072) (s : State) : s.Keeps (execBypassElementReopened ci s) := by
  refine .silent ?_
  unfold execBypassElementReopened
  dsimp only
  generalize s.silent = s
  repeat' with_reducible first
    | assumption | refine .next ?_ fun h => ?_ | refine (setNib_pending ..).trans ?_ | apply setNib_inv
    | refine .upd rfl rfl rfl rfl rfl rfl rfl rfl ?_ | dsimp only

end Sys2Proof.Machine
end

section
/-! PROOFS. The step, and the invariant that it keeps (O1 to O4). -/

namespace Sys2Proof.Machine

/-- Every command answers a next state, leaves the queue as it is and keeps the invariant. -/
theorem exec_keeps (c : Instr) (s : State) : s.Keeps (exec c s) := by
  cases c with
  | powerUp f => exact execPowerUp_keeps f s
  | imageVerifyComplete ok0 ok1 => exact execImageVerifyComplete_keeps ok0 ok1 s
  | startComplete ms bad => exact execStartComplete_keeps ms bad s
  | bootLockTimeout => exact execBootLockTimeout_keeps s
  | watchdogRestart => exact execWatchdogRestart_keeps s
  | feedLossDetect f t => exact execFeedLossDetect_keeps f t s
  | feedRestoreTimer f t => exact execFeedRestoreTimer_keeps f t s
  | feedHighDetect t => exact execFeedHighDetect_keeps t s
  | supplyLoss t => exact execSupplyLoss_keeps t s
  | powerDownComplete => exact execPowerDownComplete_keeps s
  | baseplateHotTimer t => exact execBaseplateHotTimer_keeps t s
  | baseplateOvertempTimer t => exact execBaseplateOvertempTimer_keeps t s
  | railMonitorTrip collapse t => exact execRailMonitorTrip_keeps collapse t s
  | giveupEnd => exact execGiveupEnd_keeps s
  | loop0EdgeLoss => exact execLoop0EdgeLoss_keeps s
  | lockstepDisagree t => exact execLockstepDisagree_keeps t s
  | cycleBoundary e => exact execCycleBoundary_keeps e s
  | strokeLaunch => exact execStrokeLaunch_keeps s
  | telemetryCutoff => exact execTelemetryCutoff_keeps s
  | thermalStep mis => exact execThermalStep_keeps mis s
  | loopBankRun b => exact execLoopBankRun_keeps b s
  | supervisionProcess => exact execSupervisionProcess_keeps s
  | schedPost late => exact execSchedPost_keeps late s
  | loopOutputStage => exact execLoopOutputStage_keeps s
  | loopOutputDeadline => exact execLoopOutputDeadline_keeps s
  | ductusLatch bad => exact execDuctusLatch_keeps bad s
  | generatorLoad k => exact execGeneratorLoad_keeps k s
  | governorUpdate die => exact execGovernorUpdate_keeps die s
  | telemetrySlotReceive p pos slot err t => exact execTelemetrySlotReceive_keeps p pos slot err t s
  | strokeHeaderReturn p hdr t => exact execStrokeHeaderReturn_keeps p hdr t s
  | lostLimitExpiry ci => exact execLostLimitExpiry_keeps ci s
  | ecr a d ok stamp => exact execEcr_keeps a d ok stamp s
  | enumReplyTimeout ci => exact execEnumReplyTimeout_keeps ci s
  | enumerationComplete p => exact execEnumerationComplete_keeps p s
  | admissionStepProceed ci => exact execAdmissionStepProceed_keeps ci s
  | admissionTimerExpiry ci => exact execAdmissionTimerExpiry_keeps ci s
  | prechargePhaseComplete k => exact execPrechargePhaseComplete_keeps k s
  | prechargeTimeout => exact execPrechargeTimeout_keeps s
  | quietPeriodEnd src => exact execQuietPeriodEnd_keeps src s
  | stackRelease k => exact execStackRelease_keeps k s
  | clrSend => exact execClrSend_keeps s
  | faultResetApply => exact execFaultResetApply_keeps s
  | eventQueueCopy => exact execEventQueueCopy_keeps s
  | journalWrite region ok1 ok2 => exact execJournalWrite_keeps region ok1 ok2 s
  | lifetimeSecond => exact execLifetimeSecond_keeps s
  | wearJournalPeriod => exact execWearJournalPeriod_keeps s
  | laneSignalLoss l t => exact execLaneSignalLoss_keeps l t s
  | laneNoSignalTimeout l t => exact execLaneNoSignalTimeout_keeps l t s
  | laneSignalDetect x => exact execLaneSignalDetect_keeps x s
  | eqSweepDone l eyes t => exact execEqSweepDone_keeps l eyes t s
  | laneSyncAcquire l pos t => exact execLaneSyncAcquire_keeps l pos t s
  | laneSyncDrop l cdrLost t => exact execLaneSyncDrop_keeps l cdrLost t s
  | laneCodeViolation l t => exact execLaneCodeViolation_keeps l t s
  | commaHuntExpiry l t => exact execCommaHuntExpiry_keeps l t s
  | slipDecodeCount l t => exact execSlipDecodeCount_keeps l t s
  | laneErrInterval l t => exact execLaneErrInterval_keeps l t s
  | txBiasFault l t => exact execTxBiasFault_keeps l t s
  | txBiasRecover l t => exact execTxBiasRecover_keeps l t s
  | electricalIdleEntry l => exact execElectricalIdleEntry_keeps l s
  | idleExit l => exact execIdleExit_keeps l s
  | bondMarkerReceive l b1 b2 b3 offset t => exact execBondMarkerReceive_keeps l b1 b2 b3 offset t s
  | bondWidthSwitch => exact execBondWidthSwitch_keeps s
  | bondLaneRejoin l => exact execBondLaneRejoin_keeps l s
  | clockLockDeclare k errs t => exact execClockLockDeclare_keeps k errs t s
  | clockLockLoss k errs t => exact execClockLockLoss_keeps k errs t s
  | referenceEdgeMissing t => exact execReferenceEdgeMissing_keeps t s
  | referenceReturn j phase => exact execReferenceReturn_keeps j phase s
  | laneWalkDone j => exact execLaneWalkDone_keeps j s
  | coastLimitExpiry j t => exact execCoastLimitExpiry_keeps j t s
  | holdoverTimeout t => exact execHoldoverTimeout_keeps t s
  | slewEnd t => exact execSlewEnd_keeps t s
  | deferredTimeStep t => exact execDeferredTimeStep_keeps t s
  | ptpSyncReceive p m res t => exact execPtpSyncReceive_keeps p m res t s
  | ptpFollowUpReceive p m t => exact execPtpFollowUpReceive_keeps p m t s
  | ptpAnnounceReceive p m t => exact execPtpAnnounceReceive_keeps p m t s
  | ptpAnnounceTimeout p src t => exact execPtpAnnounceTimeout_keeps p src t s
  | ptpPdelayTimer p t => exact execPtpPdelayTimer_keeps p t s
  | ptpPdelayReqReceive p src seq => exact execPtpPdelayReqReceive_keeps p src seq s
  | ptpPdelayRespReceive p seq rt turn t => exact execPtpPdelayRespReceive_keeps p seq rt turn t s
  | netFrameReceive p f t => exact execNetFrameReceive_keeps p f t s
  | arpMessage p req sip tip mac => exact execArpMessage_keeps p req sip tip mac s
  | arpEntryAge p ip => exact execArpEntryAge_keeps p ip s
  | icmpEchoRequest p sip data t => exact execIcmpEchoRequest_keeps p sip data t s
  | netLinkUp p t => exact execNetLinkUp_keeps p t s
  | netLinkLoss p t => exact execNetLinkLoss_keeps p t s
  | timedLaunch p busy t => exact execTimedLaunch_keeps p busy t s
  | telemetryStreamSample j => exact execTelemetryStreamSample_keeps j s
  | streamStop => exact execStreamStop_keeps s
  | canWindowOpen c k fits => exact execCanWindowOpen_keeps c k fits s
  | canFrameTransmitted c stamp t => exact execCanFrameTransmitted_keeps c stamp t s
  | canTxError c lost ack fits t => exact execCanTxError_keeps c lost ack fits t s
  | canBusOffRecovery c t => exact execCanBusOffRecovery_keeps c t s
  | canFrameReceive c f stamp t => exact execCanFrameReceive_keeps c f stamp t s
  | canRxLockTimeout c k => exact execCanRxLockTimeout_keeps c k s
  | canRxselWrite r w => exact execCanRxselWrite_keeps r w s
  | adcConversionSlot sl => exact execAdcConversionSlot_keeps sl s
  | adcConversionComplete k pins edge => exact execAdcConversionComplete_keeps k pins edge s
  | adcUrg r adc ch => exact execAdcUrg_keeps r adc ch s
  | arbiterDraw req => exact execArbiterDraw_keeps req s
  | inkwellTransferDone tiles => exact execInkwellTransferDone_keeps tiles s
  | scrubTileRead cim bad t => exact execScrubTileRead_keeps cim bad t s
  | arbCtlWrite r w => exact execArbCtlWrite_keeps r w s
  | freezeTimer t => exact execFreezeTimer_keeps t s
  | arbCmdRevoke r j => exact execArbCmdRevoke_keeps r j s
  | inkWinWrite r k ws => exact execInkWinWrite_keeps r k ws s
  | dmaStart r ch => exact execDmaStart_keeps r ch s
  | dmaCancel r ch => exact execDmaCancel_keeps r ch s
  | dmaDescriptorFetch bad t => exact execDmaDescriptorFetch_keeps bad t s
  | dmaBurstComplete bad t => exact execDmaBurstComplete_keeps bad t s
  | dmaReadbackDone same t => exact execDmaReadbackDone_keeps same t s
  | dmaMemoryTimeout t => exact execDmaMemoryTimeout_keeps t s
  | blotterRow t => exact execBlotterRow_keeps t s
  | blotCmdTrigger r => exact execBlotCmdTrigger_keeps r s
  | safetyInputSample ch a b srst t => exact execSafetyInputSample_keeps ch a b srst t s
  | discrepancySample ch t => exact execDiscrepancySample_keeps ch t s
  | inputTestPulseStart src => exact execInputTestPulseStart_keeps src s
  | inputTestPulseEnd src t => exact execInputTestPulseEnd_keeps src t s
  | functionLockTimer ch f => exact execFunctionLockTimer_keeps ch f s
  | blockConfirmTimeout isl ch t => exact execBlockConfirmTimeout_keeps isl ch t s
  | outputReadback ch pins sov t => exact execOutputReadback_keeps ch pins sov t s
  | outputOverload k ch t => exact execOutputOverload_keeps k ch t s
  | sovLoss t => exact execSovLoss_keeps t s
  | outputTestPulse k ch => exact execOutputTestPulse_keeps k ch s
  | outputTestPulseEnd k ch off t => exact execOutputTestPulseEnd_keeps k ch off t s
  | safetyReset t => exact execSafetyReset_keeps t s
  | resetStuckTimer t => exact execResetStuckTimer_keeps t s
  | crossLinkExchange clockOk t => exact execCrossLinkExchange_keeps clockOk t s
  | safetyStartTestsDone outBad inBad clockOk t => exact execSafetyStartTestsDone_keeps outBad inBad clockOk t s
  | safeFrameReceive j ch frame t => exact execSafeFrameReceive_keeps j ch frame t s
  | safeFrameProduce j t => exact execSafeFrameProduce_keeps j t s
  | sflWatchdogExpiry j ch t => exact execSflWatchdogExpiry_keeps j ch t s
  | quillPathLoss t => exact execQuillPathLoss_keeps t s
  | lanePathLoss t => exact execLanePathLoss_keeps t s
  | giveupSignalDetect t => exact execGiveupSignalDetect_keeps t s
  | failureDeclare t => exact execFailureDeclare_keeps t s
  | tokenClaim tokIn released => exact execTokenClaim_keeps tokIn released s
  | tokInAssert t => exact execTokInAssert_keeps t s
  | tokenReleaseHandover => exact execTokenReleaseHandover_keeps s
  | partnerFrameSend => exact execPartnerFrameSend_keeps s
  | partnerFrameReceive f crcOk t => exact execPartnerFrameReceive_keeps f crcOk t s
  | pbk mask t => exact execPbk_keeps mask t s
  | replicatedRecordApply => exact execReplicatedRecordApply_keeps s
  | joinImageComplete => exact execJoinImageComplete_keeps s
  | joinCatchupComplete => exact execJoinCatchupComplete_keeps s
  | reversionHoldoffExpiry t => exact execReversionHoldoffExpiry_keeps t s
  | hello peer body t => exact execHello_keeps peer body t s
  | finish peer sid body t => exact execFinish_keeps peer sid body t s
  | handshakeTimeout slot t => exact execHandshakeTimeout_keeps slot t s
  | recordDiscarded x t => exact execRecordDiscarded_keeps x t s
  | sessionIdleTimeout slot => exact execSessionIdleTimeout_keeps slot s
  | sessionClose r p => exact execSessionClose_keeps r p s
  | ping r p => exact execPing_keeps r p s
  | pageGet r p => exact execPageGet_keeps r p s
  | pageSet r p => exact execPageSet_keeps r p s
  | pageStage r p => exact execPageStage_keeps r p s
  | txnBegin r p => exact execTxnBegin_keeps r p s
  | txnCommit r p => exact execTxnCommit_keeps r p s
  | commitTakesEffect => exact execCommitTakesEffect_keeps s
  | txnAbort r p => exact execTxnAbort_keeps r p s
  | lockRenew r p => exact execLockRenew_keeps r p s
  | leaseTimeout => exact execLeaseTimeout_keeps s
  | modeSet r p => exact execModeSet_keeps r p s
  | modeTransition => exact execModeTransition_keeps s
  | modeGet r p => exact execModeGet_keeps r p s
  | cellEnumerate r p => exact execCellEnumerate_keeps r p s
  | cellAdmit r p => exact execCellAdmit_keeps r p s
  | cellRetire r p => exact execCellRetire_keeps r p s
  | cellBypass r p => exact execCellBypass_keeps r p s
  | loopOpen r p => exact execLoopOpen_keeps r p s
  | loopClose r p => exact execLoopClose_keeps r p s
  | loopCoeffSet r p => exact execLoopCoeffSet_keeps r p s
  | traceArm r p => exact execTraceArm_keeps r p s
  | traceRead r p => exact execTraceRead_keeps r p s
  | eventsRead r p => exact execEventsRead_keeps r p s
  | faultReset r p => exact execFaultReset_keeps r p s
  | opStatus r p => exact execOpStatus_keeps r p s
  | opCancel r p => exact execOpCancel_keeps r p s
  | chunkTimeout op => exact execChunkTimeout_keeps op s
  | fwLoad r p => exact execFwLoad_keeps r p s
  | fwActivate r p => exact execFwActivate_keeps r p s
  | attest r p => exact execAttest_keeps r p s
  | otpBurn r p => exact execOtpBurn_keeps r p s
  | otpBurnProgram ok => exact execOtpBurnProgram_keeps ok s
  | journalRead r p => exact execJournalRead_keeps r p s
  | pairStatus r p => exact execPairStatus_keeps r p s
  | pairHandover r p => exact execPairHandover_keeps r p s
  | laneCtlWrite r j w => exact execLaneCtlWrite_keeps r j w s
  | laneCmdBitSlip r j => exact execLaneCmdBitSlip_keeps r j s
  | laneCmdClear r j => exact execLaneCmdClear_keeps r j s
  | bondCtlWrite r w => exact execBondCtlWrite_keeps r w s
  | linkCmdLoopbackStart r p pos => exact execLinkCmdLoopbackStart_keeps r p pos s
  | linkCmdLoopbackEnd r p pos => exact execLinkCmdLoopbackEnd_keeps r p pos s
  | clkLoopWrite r j w => exact execClkLoopWrite_keeps r j w s
  | timeSnap r => exact execTimeSnap_keeps r s
  | ductClampRearm r => exact execDuctClampRearm_keeps r s
  | ductFailRearm r => exact execDuctFailRearm_keeps r s
  | thermFailRearm r => exact execThermFailRearm_keeps r s
  | scCaptureRearm r => exact execScCaptureRearm_keeps r s
  | feInfoRearm r => exact execFeInfoRearm_keeps r s
  | safFaultRearm r => exact execSafFaultRearm_keeps r s
  | inkFirstRearm r => exact execInkFirstRearm_keeps r s
  | nibPowerUp n ident typ turnLo turnHi fw => exact execNibPowerUp_keeps n ident typ turnLo turnHi fw s
  | nibStrokePass n v => exact execNibStrokePass_keeps n v s
  | nibSegmentReceive n side hdr seg err tS => exact execNibSegmentReceive_keeps n side hdr seg err tS s
  | identify n => exact execIdentify_keeps n s
  | setArr n => exact execSetArr_keeps n s
  | admitCi n => exact execAdmitCi_keeps n s
  | retire n => exact execRetire_keeps n s
  | mgmtUnknownRequest n => exact execMgmtUnknownRequest_keeps n s
  | nibTargetCycleStart n => exact execNibTargetCycleStart_keeps n s
  | nibEdgeExecute n seen => exact execNibEdgeExecute_keeps n seen s
  | blk n side => exact execBlk_keeps n side s
  | clr n side => exact execClr_keeps n side s
  | brk n side => exact execBrk_keeps n side s
  | eis n side => exact execEis_keeps n side s
  | ecq n side d ok => exact execEcq_keeps n side d ok s
  | lbk n side d ok => exact execLbk_keeps n side d ok s
  | nibSideLoss n side => exact execNibSideLoss_keeps n side s
  | nibBrkTimer n => exact execNibBrkTimer_keeps n s
  | nibWrapExit n side => exact execNibWrapExit_keeps n side s
  | nibTimeError n => exact execNibTimeError_keeps n s
  | nibShortDetect n sw hard t => exact execNibShortDetect_keeps n sw hard t s
  | nibFaultDetect n f => exact execNibFaultDetect_keeps n f s
  | nibBypassClose n => exact execNibBypassClose_keeps n s
  | nibOvervoltBypass n => exact execNibOvervoltBypass_keeps n s
  | feedHighClear => exact execFeedHighClear_keeps s
  | baseplateHotClear => exact execBaseplateHotClear_keeps s
  | sovReturn => exact execSovReturn_keeps s
  | canRxError c eight t => exact execCanRxError_keeps c eight t s
  | nibFaultGone n f => exact execNibFaultGone_keeps n f s
  | nibPowerLoss n => exact execNibPowerLoss_keeps n s
  | nibSideSyncAcquire n side => exact execNibSideSyncAcquire_keeps n side s
  | bypassElementReopened ci => exact execBypassElementReopened_keeps ci s
  | quillPathReturn t => exact execQuillPathReturn_keeps t s

/-- Settles O1: `step` takes the front command. -/
theorem frontCommandRunsWithTheQueuesRest : Obligations.FrontCommandRunsWithTheQueuesRest :=
  fun _ _ _ => rfl

/-- Settles O2: after reset no token is claimed and every list is empty. -/
theorem resetMeetsTheInvariant : Obligations.ResetMeetsTheInvariant where
  grant := nofun
  live := nofun
  out := fun _ => rfl
  queue := Nat.zero_le _
  log := Nat.zero_le _
  stamps := Nat.zero_le _
  mem := rfl

/-- Settles O4, by `exec_keeps`. -/
theorem everyCommandAnswersAndLeavesTheQueue : Obligations.EveryCommandAnswersAndLeavesTheQueue := by
  refine ⟨fun c s => ?_, fun s hs => ?_⟩
  · obtain ⟨t, ht, hp, -⟩ := exec_keeps c s
    exact ⟨t, ht, hp⟩
  · rw [step, hs]

/-- Settles O3: a step is the front command on the rest of the queue, and every command keeps the invariant. -/
theorem everyStepKeepsTheInvariant : Obligations.EveryStepKeepsTheInvariant := by
  intro s t hs hstep
  unfold step at hstep
  split at hstep
  next =>
    cases hstep
    exact hs
  next c cs _ =>
    obtain ⟨u, hu, -, hi⟩ := exec_keeps c { s with pending := cs }
    rw [hu] at hstep
    cases hstep
    exact hi (.upd rfl rfl rfl rfl rfl rfl rfl rfl hs)

end Sys2Proof.Machine
end

section
/-! PROOFS. Power, boot and the module's own faults: O5 to O9. -/

namespace Sys2Proof.Machine

open Sys2Proof.Machine

/-! ## Events: which are active after a raise -/

/-- `t` has every event active that `s` has, and forces every stack to BLOCK that `s` does. -/
structure State.EventGrows (s t : State) : Prop where
  active : ∀ code inst, s.isActive code inst = true → t.isActive code inst = true
  forced : ∀ k < 16, s.evt.forced.testBit k = true → t.evt.forced.testBit k = true

theorem State.EventGrows.refl (s : State) : s.EventGrows s := ⟨fun _ _ h => h, fun _ _ h => h⟩

theorem State.EventGrows.trans {s t u : State} (h : s.EventGrows t) (k : t.EventGrows u) : s.EventGrows u :=
  ⟨fun c i x => k.active c i (h.active c i x), fun n hn x => k.forced n hn (h.forced n hn x)⟩

theorem State.EventGrows.of_eq {s t : State} (ha : t.evt.active = s.evt.active) (hf : t.evt.forced = s.evt.forced) :
    s.EventGrows t := by
  refine ⟨fun c i x => ?_, fun _ _ x => hf ▸ x⟩
  rwa [State.isActive, ha]

theorem State.EventGrows.of_or {s t : State} {m : Nat} (ha : t.evt.active = s.evt.active)
    (hf : t.evt.forced = s.evt.forced ||| m) : s.EventGrows t := by
  refine ⟨fun c i x => ?_, fun k _ x => ?_⟩
  · rwa [State.isActive, ha]
  · rw [hf, Nat.testBit_or, x, Bool.true_or]

theorem State.isActive_of_append {s t : State} {l : List ActEv} (ha : t.evt.active = s.evt.active ++ l)
    {code inst : Nat}
    (h : s.isActive code inst = true) : t.isActive code inst = true := by
  rw [State.isActive, ha, List.any_append, Bool.or_eq_true]
  exact .inl h

@[simp] theorem State.queueEntry_active (s : State) (code kind inst : Nat) (detail : Word) (t : Nat) :
    (s.queueEntry code kind inst detail t).evt.active = s.evt.active := rfl

@[simp] theorem State.queueEntry_forced (s : State) (code kind inst : Nat) (detail : Word) (t : Nat) :
    (s.queueEntry code kind inst detail t).evt.forced = s.evt.forced := rfl

@[simp] theorem State.enqueue_forced (s : State) (code kind inst : Nat) (detail : Word) (t : Nat) :
    (s.enqueue code kind inst detail t).evt.forced = s.evt.forced := by
  unfold State.enqueue State.lostSats
  split <;> rfl

@[simp] theorem State.capture_forced (s : State) (code inst : Nat) (detail : Word) (t : Nat) :
    (s.capture code inst detail t).evt.forced = s.evt.forced := by
  unfold State.capture
  dsimp only
  split <;> rfl

@[simp] theorem State.blotTrigger_forced (s : State) (row t : Nat) :
    (s.blotTrigger row t).evt.forced = s.evt.forced := by
  unfold State.blotTrigger
  dsimp only
  split
  · rfl
  · exact State.enqueue_forced ..

@[simp] theorem State.blotEvent_forced (s : State) (code t : Nat) :
    (s.blotEvent code t).evt.forced = s.evt.forced := by
  unfold State.blotEvent
  dsimp only
  split
  · exact State.blotTrigger_forced ..
  · rfl

@[simp] theorem State.enqueue_active (s : State) (code kind inst : Nat) (detail : Word) (t : Nat) :
    (s.enqueue code kind inst detail t).evt.active = s.evt.active := by
  unfold State.enqueue State.lostSats
  split <;> rfl

@[simp] theorem State.capture_active (s : State) (code inst : Nat) (detail : Word) (t : Nat) :
    (s.capture code inst detail t).evt.active = s.evt.active := by
  unfold State.capture
  dsimp only
  split <;> rfl

@[simp] theorem State.blotTrigger_active (s : State) (row t : Nat) :
    (s.blotTrigger row t).evt.active = s.evt.active := by
  unfold State.blotTrigger
  dsimp only
  split
  · rfl
  · exact State.enqueue_active ..

@[simp] theorem State.blotEvent_active (s : State) (code t : Nat) :
    (s.blotEvent code t).evt.active = s.evt.active := by
  unfold State.blotEvent
  dsimp only
  split
  · exact State.blotTrigger_active ..
  · rfl

@[simp] theorem State.block_active (s : State) (mask t : Nat) : (s.block mask t).evt.active = s.evt.active := by
  unfold State.block State.force
  simp

@[simp] theorem State.block_forced (s : State) (mask t : Nat) :
    (s.block mask t).evt.forced = s.evt.forced ||| mask := by
  unfold State.block State.force
  simp

@[simp] theorem State.blockModule_active (s : State) (t : Nat) : (s.blockModule t).evt.active = s.evt.active := by
  unfold State.blockModule State.force
  simp

@[simp] theorem State.blockModule_forced (s : State) (t : Nat) :
    (s.blockModule t).evt.forced = s.evt.forced ||| 0xFFFF := by
  unfold State.blockModule State.force
  simp

theorem testBit_all {k : Nat} (h : k < 16) : (0xFFFF : Nat).testBit k = true :=
  (Nat.testBit_two_pow_sub_one 16 k).trans (decide_eq_true h)

theorem State.startGiveUp_grows (s : State) : s.EventGrows s.startGiveUp := by
  unfold State.startGiveUp
  split
  · exact .refl _
  · exact ⟨fun c i h => isActive_of_append (l := [_]) (by simp; rfl) h, fun k hk _ => by simpa using testBit_all hk⟩

theorem State.react_grows (s : State) (code inst : Nat) (byp : Bool) (t : Nat) :
    s.EventGrows (s.react code inst byp t) := by
  unfold State.react
  generalize classOf code = c
  cases c <;> dsimp only
  case cell => split <;> exact .of_eq (by simp) (by simp)
  case stack =>
    split
    · exact startGiveUp_grows s
    · split
      · exact .of_eq rfl rfl
      · split <;> exact .of_or (m := s.scope code inst) (by simp) (by simp)
  case module =>
    split
    · exact startGiveUp_grows s
    · exact .of_or (m := 0xFFFF) (by simp) (by simp)
  all_goals exact .refl _

theorem State.raiseB_grows (s : State) (code inst : Nat) (detail : Word) (t : Nat) (byp : Bool) :
    s.EventGrows (s.raiseB code inst detail t byp) := by
  have map : s.EventGrows { s with evt := { s.evt with active := s.evt.active.map fun e =>
      if e.code = code ∧ e.inst = inst then { e with cond := true, last := s.mono } else e } } := by
    refine ⟨fun c i h => ?_, fun _ _ h => h⟩
    simp only [State.isActive, List.any_eq_true, List.mem_map] at h ⊢
    obtain ⟨e, he, hc⟩ := h
    refine ⟨_, ⟨e, he, rfl⟩, ?_⟩
    split <;> exact hc
  unfold State.raiseB
  split
  · exact .of_eq (by simp) (by simp)
  · split
    · dsimp only
      split
      · exact map.trans (State.react_grows _ _ _ _ _)
      · exact map
    · refine EventGrows.trans ?_ (State.react_grows _ _ _ _ _)
      exact ⟨fun c i h => isActive_of_append (l := [_]) (by simp; rfl) h, fun k _ h => by simpa using h⟩

theorem State.raise_grows (s : State) (code inst : Nat) (detail : Word) (t : Nat) :
    s.EventGrows (s.raise code inst detail t) := State.raiseB_grows ..

/-- An event that is more than recorded is active once it is raised. -/
theorem State.raise_isActive (s : State) {code : Nat} (inst : Nat) (detail : Word) (t : Nat) (h : code ∉ recordedOnly) :
    (s.raise code inst detail t).isActive code inst = true := by
  by_cases ha : s.isActive code inst = true
  · exact (State.raise_grows ..).active _ _ ha
  · unfold State.raise State.raiseB
    rw [if_neg h, if_neg ha]
    refine (State.react_grows ..).active _ _ ?_
    simp [State.isActive]

/-! ## Page words -/

/-- `t` is `s` with other page words in force and waiting, and nothing else. -/
def State.SameButWords (s t : State) : Prop := t = { s with regs := t.regs, nextW := t.nextW }

theorem State.SameButWords.trans {s t u : State} (h : s.SameButWords t) (k : t.SameButWords u) : s.SameButWords u := by
  unfold State.SameButWords at *
  rw [k, h]

theorem State.sameButWords_setWord (s : State) (k : Nat) (w : Word) : s.SameButWords (s.setWord k w) := rfl

theorem State.sameButWords_foldl {α : Type} {f : State → α → State} (h : ∀ (s : State) (x : α), s.SameButWords (f s x))
    (l : List α)
    (s : State) : s.SameButWords (l.foldl f s) := by
  induction l generalizing s with
  | nil => exact rfl
  | cons x l ih => exact (h s x).trans (ih _)

theorem State.resetPages_sameButWords (s : State) : s.SameButWords s.resetPages := by
  have cleared : s.SameButWords { s with regs := [], nextW := [] } := rfl
  unfold State.resetPages
  dsimp only
  refine cleared.trans ?_
  generalize { s with regs := [], nextW := [] } = u
  have ports (v : State) := State.sameButWords_foldl (f := fun (s : State) (i : Nat) =>
    ((s.setWord (K.PORT_IP i) (s.otpWord (12 + 4 * i))).setWord (K.PORT_GW i) (s.otpWord (24 + 4 * i))).setWord
      (K.NPORT_CFG i) (s.otpWord (36 + 4 * i)))
    (fun _ _ => ((sameButWords_setWord ..).trans (sameButWords_setWord ..)).trans (sameButWords_setWord ..)) [0, 1, 2] v
  have words (l : List (Nat × Word)) (v : State) := State.sameButWords_foldl
    (f := fun (s : State) (p : Nat × Word) => s.setWord p.1 p.2) (fun _ _ => rfl) l v
  have ids (a b c : Word) (v : State) : v.SameButWords (((v.setWord K.SYS_SERIAL a).setWord K.SYS_ID b).setWord K.PAIR_ID c) :=
    ((sameButWords_setWord ..).trans (sameButWords_setWord ..)).trans (sameButWords_setWord ..)
  split
  · exact (((ids ..).trans (ports _)).trans (words _ _)).trans (State.sameButWords_setWord ..)
  · exact (ids ..).trans (ports _)

/-- What the boot ROM leaves of a start from BOOT: the module powered in BOOT with LIVE low and no firmware running,
loops 0 to 16 in acquisition, the lanes as at reset, the nibs as they were, and one more start counted. -/
structure State.Booting (s t : State) : Prop where
  powered : t.sys.powered = true
  mode : t.sys.mode = .boot
  live : t.sys.live = false
  fwRuns : t.sys.fwRuns = false
  out : t.out = s.out
  boots : t.jrnl.life.boots = s.jrnl.life.boots + 1
  loops : t.clk.loops = (List.range 17).map fun i => (i, { ClkLoop.init with state := clkAcquire })
  lanes : t.lanes = []
  nibs : t.nibs = s.nibs

theorem State.Booting.sameButWords {s t u : State} (h : s.Booting t) (k : t.SameButWords u) : s.Booting u := by
  rw [k]
  exact ⟨h.powered, h.mode, h.live, h.fwRuns, h.out, h.boots, h.loops, h.lanes, h.nibs⟩

theorem State.Booting.withSaf {s t : State} (h : s.Booting t) (f : Saf) (b : Boot) :
    s.Booting { t with saf := f, boot := b } :=
  ⟨h.powered, h.mode, h.live, h.fwRuns, h.out, h.boots, h.loops, h.lanes, h.nibs⟩

theorem State.Booting.loopOf {s t : State} (h : s.Booting t) {i : Nat} (hi : i < 17) :
    (t.loopOf i).state = clkAcquire := by
  rw [State.loopOf, h.loops]
  revert i
  decide

theorem State.bestGen_congr {s t : State} (h : t.boot.gens = s.boot.gens) : t.bestGen = s.bestGen := by
  unfold State.bestGen State.gen
  rw [h]

theorem State.bootStart_booting (s : State) : s.Booting s.bootStart := by
  unfold State.bootStart
  dsimp only
  split
  · constructor <;> rfl
  · have start (b : Boot) : s.Booting { s.fromBoot with
        sys := { s.fromBoot.sys with powered := true }
        jrnl := { s.fromBoot.jrnl with life := { s.fromBoot.jrnl.life with boots := s.fromBoot.jrnl.life.boots + 1 } }
        clk := { s.fromBoot.clk with loops := (List.range 17).map fun i => (i, { ClkLoop.init with state := clkAcquire }) }
        boot := b } := by constructor <;> rfl
    have pages (b : Boot) := (start b).sameButWords (State.resetPages_sameButWords _)
    split
    · split
      · exact (pages _).withSaf _ _
      · exact ((pages _).withSaf _ _).withSaf _ _
    · split
      · exact pages _
      · exact (pages _).withSaf _ _

theorem State.resetPages_sys (s : State) : s.resetPages.sys = s.sys := by
  rw [State.resetPages_sameButWords s]

/-- A start from BOOT is stuck exactly where no settings generation is valid. -/
theorem State.bootStart_stuck (s : State) : s.bootStart.sys.stuck = s.bestGen.isNone := by
  have hg (y : Sys) (j : Journal) (c : Clk) :
      ({ s.fromBoot with sys := y, jrnl := j, clk := c } : State).bestGen = s.bestGen := State.bestGen_congr rfl
  unfold State.bootStart
  dsimp only
  rw [hg]
  cases s.bestGen with
  | none => rfl
  | some g =>
    dsimp only
    split
    · split <;> simp only [State.resetPages_sys] <;> rfl
    · split <;> simp only [State.resetPages_sys] <;> rfl

theorem State.copyEvents_nibs (s : State) : s.copyEvents.nibs = s.nibs := rfl

theorem State.dropTxn_nibs (s : State) : s.dropTxn.nibs = s.nibs := by
  unfold State.dropTxn
  split
  · rfl
  · exact State.raise_nibs ..

/-- Settles O5, from what a start from BOOT leaves (`State.Booting`). -/
theorem powerUpAndPowerDownStartFromBoot : Obligations.PowerUpAndPowerDownStartFromBoot := by
  unfold Obligations.PowerUpAndPowerDownStartFromBoot
  refine ⟨fun s f hp => ⟨s.silent.bootStart, ?_, ?_⟩, fun s f hp => ?_,
    fun s hs => ⟨s.silent.dropTxn.copyEvents.fromBoot, ?_, ?_⟩, fun s hs => ?_⟩
  · change execPowerUp f s = _
    simp [execPowerUp, hp]
  · have b := s.silent.bootStart_booting
    have hg : s.silent.bestGen = s.bestGen := rfl
    refine ⟨b.powered, b.mode, b.live, b.fwRuns, b.out, b.boots, fun _ => b.loopOf, fun h => ?_, fun h => ?_, b.lanes,
      b.nibs⟩
    · rw [State.bootStart_stuck, hg, h]
      rfl
    · rw [State.bootStart_stuck, hg]
      simpa [Option.isSome_iff_ne_none] using h
  · change execPowerUp f s = _
    simp [execPowerUp, hp]
  · change execPowerDownComplete s = _
    simp [execPowerDownComplete, hs]
  · exact ⟨rfl, rfl, rfl, rfl, rfl, rfl, rfl, (State.dropTxn_nibs s.silent)⟩
  · change execPowerDownComplete s = _
    simp [execPowerDownComplete, hs]

theorem Boot.choose_of_preferred {b : Boot} {ok : Nat → Bool} (ht : b.trial = false) (h : ok b.pref = true) :
    b.choose ok = ({ b with run := b.pref, result := 0 }, some b.pref, []) := by
  simp [Boot.choose, ht, h]

theorem Boot.choose_of_neither {b : Boot} {ok : Nat → Bool} (ht : b.trial = false) (h : ∀ k, ok k = false) :
    b.choose ok = (b, none, []) := by
  simp [Boot.choose, ht, h]

/-- In BOOT with power, with no power-down, not stuck and without firmware, the verdict on the images chooses a slot. -/
theorem execImageVerifyComplete_of_waiting {s : State} (ok0 ok1 : Bool) {c : Boot × Option Nat × List (Nat × Nat)}
    (hp : s.sys.powered = true) (hst : s.sys.stopping = false) (hsk : s.sys.stuck = false)
    (hfw : s.sys.fwRuns = false) (hm : s.sys.mode = .boot)
    (hc : s.boot.choose (fun k => (if k = 0 then ok0 else ok1) && s.slotValidFw k && s.imgChecks (s.fwSlot k).image) = c) :
    execImageVerifyComplete ok0 ok1 s = match c.2.1 with
      | none => .next (({ s.silent with boot := c.1, sys := { s.sys with stuck := true } }).bootRecord 3 0)
      | some k => .next ((c.1.held ++ c.2.2).foldl
          (fun (s : State) (e : Nat × Nat) =>
            if classOf e.1 = .safety then s.safRaise 2 e.1 e.2 0 else s.raise e.1 e.2 0 0)
          { s.silent with
            sys := { s.sys with fwRuns := true }
            boot := { c.1 with meas := Config.sha512 (padTo 128 (({ s with boot := c.1 } : State).fwSlot k).image), held := [] } }) := by
  subst hc
  simp only [execImageVerifyComplete, State.silent_sys, hp, hst, hsk, hfw, hm]
  rfl

/-- Settles O6, from the choice of the slot that the boot ROM runs. -/
theorem bootVerificationAndTimeouts : Obligations.BootVerificationAndTimeouts := by
  unfold Obligations.BootVerificationAndTimeouts
  refine ⟨fun s ok0 ok1 hp hst hsk hfw hm htr => ⟨fun k hk hpref hok hv hi hh => ?_, fun h0 h1 => ?_⟩,
    fun s hp hsk hm hl => ?_, fun s hfw he hst hsk => ?_⟩
  · subst hpref
    refine (execImageVerifyComplete_of_waiting ok0 ok1 hp hst hsk hfw hm
      (Boot.choose_of_preferred htr (by simp [hok, hv, hi]))).trans ?_
    simp [hh]
    rfl
  · exact execImageVerifyComplete_of_waiting ok0 ok1 hp hst hsk hfw hm
      (Boot.choose_of_neither htr (by simp [h0, h1]))
  · change execBootLockTimeout s = _
    simp [execBootLockTimeout, hp, hsk, hm, hl]
  · change execWatchdogRestart s = _
    simp [execWatchdogRestart, hfw, he, hst, hsk]

/-- A module whose firmware runs in BOOT with every clock locked, and whose event queue holds 64 uncopied entries of
this tick with a higher code than STATE_CHANGED, one loss short of the largest value of FLT_QLOST. -/
def crowded : State :=
  { State.reset with
    sys := { Sys.reset with powered := true, fwRuns := true }
    clk := { Clk.reset with loops := (List.range 17).map fun i => (i, { ClkLoop.init with state := clkLocked }) }
    evt := { Evt.reset with
      active := [{ code := 0x0F09, inst := 0, cond := true, last := 0 }]
      queue := List.replicate 64
        { code := 0x0D01, kind := 1, inst := 0, seq := 0, cycle := 0, tick := 0, detail := 0 }
      uncopied := 64
      lost := 0xFFFFFFFE } }

/-- The entries of code `code` and kind 1 in the queue of a next state. -/
def outcomeQueues (code : Nat) (o : Host.Outcome State Fault Refusal) : Bool :=
  match o with
  | .next t => t.evt.queue.any fun e => decide (e.code = BitVec.ofNat 16 code ∧ e.kind = 1)
  | _ => false

theorem crowded_queue : outcomeQueues 3 (exec (.startComplete 0 []) crowded) = false := by
  decide +kernel

/-- Refutes O7: the entry of STATE_CHANGED comes first of its tick, FLT_QLOST gets to its largest value as the full
queue takes it, and the entry of COUNTER_SAT that follows overwrites the oldest entry, which is the one of
STATE_CHANGED. -/
theorem not_startEntersConfigWithLiveHigh : ¬ Obligations.StartEntersConfigWithLiveHigh := by
  unfold Obligations.StartEntersConfigWithLiveHigh
  intro h
  obtain ⟨t, ht, -, -, -, -, -, -, -, -, e, he, hcode, hkind⟩ := h crowded 0 [] rfl rfl rfl rfl (by decide)
  have q := crowded_queue
  rw [ht] at q
  simp only [outcomeQueues, List.any_eq_false] at q
  exact q e he (by simp [hcode, hkind])

/-- Settles O8, each row by its guards. -/
theorem baseplateAndCoreFaultsAreRaised : Obligations.BaseplateAndCoreFaultsAreRaised := by
  unfold Obligations.BaseplateAndCoreFaultsAreRaised
  refine ⟨fun s t => ⟨fun hp => ⟨?_, fun ha => ?_, fun ha => ?_, ?_, fun hs => ?_, fun hs => ?_, ?_⟩, rfl⟩,
    fun s => ⟨rfl, fun hg hd => ?_, fun hg hd => ?_, fun hg => ?_⟩⟩
  · change execBaseplateHotTimer t s = _
    simp [execBaseplateHotTimer, hp]
  · change execBaseplateOvertempTimer t s = _
    simp [execBaseplateOvertempTimer, hp, ha]
  · change execBaseplateOvertempTimer t s = _
    simp [execBaseplateOvertempTimer, hp, ha]
  · change execRailMonitorTrip false t s = _
    simp [execRailMonitorTrip, hp]
  · change execRailMonitorTrip true t s = _
    simp [execRailMonitorTrip, hp, hs]
  · change execRailMonitorTrip true t s = _
    simp [execRailMonitorTrip, hp, hs, State.liveFalls]
  · change execLockstepDisagree t s = _
    simp [execLockstepDisagree, hp]
  · change execGiveupEnd s = _
    simp [execGiveupEnd, hg, hd, State.liveFalls]
    rfl
  · change execGiveupEnd s = _
    simp [execGiveupEnd, hg, hd]
  · change execGiveupEnd s = _
    simp [execGiveupEnd, hg]

/-- A count of the lifetime record changes that record and raises a recorded event at most. -/
theorem State.lifeCount_cases (s : State) (get : Lifetime → Word) (put : Lifetime → Word → Lifetime) (off t : Nat) :
    let u : State := { s with jrnl := { s.jrnl with life := put s.jrnl.life (lifeInc (get s.jrnl.life)) } }
    s.lifeCount get put off t = u
      ∨ s.lifeCount get put off t = u.raise 0x0907 0 (BitVec.ofNat 32 (0xFFFF * 65536 + off)) t := by
  unfold State.lifeCount
  dsimp only
  split
  · exact .inr rfl
  · exact .inl rfl

theorem State.lifeCount_grows (s : State) (get : Lifetime → Word) (put : Lifetime → Word → Lifetime) (off t : Nat) :
    s.EventGrows (s.lifeCount get put off t) := by
  rcases s.lifeCount_cases get put off t with h | h <;> rw [h]
  · exact .of_eq rfl rfl
  · refine EventGrows.trans ?_ (State.raise_grows ..)
    exact .of_eq rfl rfl

/-- A count of the lifetime record leaves the module's record, but for a pending request of BLOCKED, and the cycle. -/
theorem State.lifeCount_facts (s : State) (get : Lifetime → Word) (put : Lifetime → Word → Lifetime) (off t : Nat) :
    (s.lifeCount get put off t).sys = { s.sys with blockReq := (s.lifeCount get put off t).sys.blockReq }
      ∧ (s.lifeCount get put off t).jrnl = { s.jrnl with life := put s.jrnl.life (lifeInc (get s.jrnl.life)) }
      ∧ (s.lifeCount get put off t).cycle = s.cycle := by
  rcases s.lifeCount_cases get put off t with h | h <;> rw [h]
  · exact ⟨rfl, rfl, rfl⟩
  · exact ⟨(State.raise_reach ..).sys, State.raise_jrnl .., State.raise_cycle ..⟩

/-- `t` is `s` with other wear records, live and stored. -/
def State.SameButWear (s t : State) : Prop :=
  t = { s with sup := t.sup, jrnl := { s.jrnl with wear := t.jrnl.wear } }

theorem State.SameButWear.refl (s : State) : s.SameButWear s := rfl

theorem State.SameButWear.trans {s t u : State} (h : s.SameButWear t) (k : t.SameButWear u) : s.SameButWear u := by
  unfold State.SameButWear at *
  rw [k, h]

theorem State.sameButWear_foldl {α : Type} {f : State → α → State} (h : ∀ (s : State) (x : α), s.SameButWear (f s x))
    (l : List α) (s : State) : s.SameButWear (l.foldl f s) := by
  induction l generalizing s with
  | nil => exact .refl _
  | cons x l ih => exact (h s x).trans (ih _)

theorem State.storeWear_sameButWear (s : State) (ci : Nat) : s.SameButWear (s.storeWear ci) := by
  refine State.sameButWear_foldl (fun s sw => ?_) _ _
  dsimp only
  split
  · exact .refl _
  · exact rfl

/-- The flush at a power-down copies the queue, stores the wear records and keeps the last cycle. -/
theorem State.flushJournal_facts (s : State) :
    s.flushJournal.sys = s.sys ∧ s.flushJournal.saf = s.saf ∧ s.flushJournal.evt = { s.evt with uncopied := 0 }
      ∧ s.flushJournal.jrnl.life.lastCycle = s.lastCycle := by
  have h := State.sameButWear_foldl State.storeWear_sameButWear s.wearCells s.copyEvents
  unfold State.flushJournal
  generalize s.wearCells.foldl (fun s ci => s.storeWear ci) s.copyEvents = u at h
  rw [h]
  exact ⟨rfl, rfl, rfl, rfl⟩

theorem State.lastCycle_congr {s t : State} (hm : t.sys.mode = s.sys.mode) (hf : t.jrnl.fresh = s.jrnl.fresh)
    (hl : t.jrnl.life.lastCycle = s.jrnl.life.lastCycle) (hc : t.cycle = s.cycle) : t.lastCycle = s.lastCycle := by
  unfold State.lastCycle
  rw [hm, hf, hl, hc]

theorem State.safDrive_grows (s : State) (was t : Nat) : s.EventGrows (s.safDrive was t) := by
  unfold State.safDrive
  dsimp only
  split
  · exact .of_eq rfl rfl
  · exact .of_or (State.block_active ..) (State.block_forced ..)

/-- A module that powers down commands no output. -/
theorem State.commands_of_stopping {s : State} (h : s.sys.stopping = true) (c : SafCh) : s.commands c = 0 := by
  simp [State.commands, h]

/-- An event as it becomes active: entered in the queue, captured and shown to the Blotter, before its reaction. -/
def State.noted (s : State) (code inst : Nat) (detail : Word) (t : Nat) : State :=
  ((({ s with evt := { s.evt with
    active := s.evt.active ++ [{ code := code, inst := inst, cond := true, last := s.mono }] } } : State).enqueue
      code 1 inst detail t).capture code inst detail t).blotEvent code t

theorem State.noted_reach (s : State) (code inst : Nat) (detail : Word) (t : Nat) :
    s.EventReach (s.noted code inst detail t) :=
  (((State.setActive_reach ..).trans (State.enqueue_reach ..)).trans (State.capture_reach ..)).trans
    (State.blotEvent_reach ..)

theorem State.raise_of_new {s : State} {code inst : Nat} (detail : Word) (t : Nat) (hr : code ∉ recordedOnly)
    (ha : s.isActive code inst = false) :
    s.raise code inst detail t = (s.noted code inst detail t).react code inst false t := by
  unfold State.raise State.raiseB
  rw [if_neg hr, if_neg (by simp [ha])]
  rfl

theorem State.EventReach.pairSide {s t : State} (h : s.EventReach t) : t.pairSide = s.pairSide := by
  unfold State.pairSide State.word
  rw [h.regs]

/-- An event of class MODULE outside a pair holds every stack blocked as it becomes active. -/
theorem State.raise_module_forced {s : State} {code inst : Nat} (detail : Word) (t : Nat)
    (hc : classOf code = .module) (hr : code ∉ recordedOnly) (ha : s.isActive code inst = false)
    (hp : s.pairSide = false) {k : Nat} (hk : k < 16) :
    (s.raise code inst detail t).evt.forced.testBit k = true := by
  have hw : (s.noted code inst detail t).pairSide = false := (State.noted_reach ..).pairSide.trans hp
  rw [State.raise_of_new detail t hr ha]
  unfold State.react
  simp [hc, hw, testBit_all hk]

/-- Settles O9: the power-down keeps what the raise of SUPPLY_LOST made active and held blocked. -/
theorem supplyLossStopsTheModule : Obligations.SupplyLossStopsTheModule := by
  unfold Obligations.SupplyLossStopsTheModule
  refine ⟨fun s tk hp hst => ?_, fun s t hp => ⟨fun f ha => ?_, fun ha => ?_, fun ha => ?_, ?_⟩,
    fun s t => ⟨rfl, rfl, rfl⟩, fun s t hp => ⟨?_, fun f => ?_, ?_⟩⟩
  · let raised := s.silent.raise 0x00E4 0 0 tk
    let counted := raised.lifeCount (·.supplyLosses) (fun l w => { l with supplyLosses := w }) 32 tk
    let stopping : State := { counted with
      sys := { counted.sys with stopping := true, feedALow := true, feedBLow := true }
      boot := { counted.boot with cause := if counted.boot.cause = 0 then 1 else counted.boot.cause } }
    let driven := stopping.safDrive stopping.islandMask tk
    have hraised : raised.sys = { s.sys with blockReq := raised.sys.blockReq } := (State.raise_reach ..).sys
    obtain ⟨hsys, hjrnl, hcycle⟩ :=
      raised.lifeCount_facts (·.supplyLosses) (fun l w => { l with supplyLosses := w }) 32 tk
    have hd := stopping.safDrive_reach stopping.islandMask tk
    have same : counted.EventGrows stopping := .of_eq rfl rfl
    have grows : raised.EventGrows driven :=
      ((raised.lifeCount_grows ..).trans same).trans (stopping.safDrive_grows ..)
    obtain ⟨fsys, fsaf, fevt, flast⟩ := driven.flushJournal_facts
    refine ⟨driven.flushJournal, ?_, ?_, ?_, ?_, ?_, ?_, ?_, ?_, ?_, fun hpair ha k => ?_⟩
    · change execSupplyLoss tk s = _
      simp [execSupplyLoss, hp, hst, raised, counted, stopping, driven]
    · rw [fsys, hd.sys]
    · rw [fsys, hd.sys]
    · rw [fsys, hd.sys]
    · rw [State.isActive, fevt]
      exact grows.active _ _ (State.raise_isActive _ _ _ _ (by decide))
    · rw [fevt]
    · rw [flast]
      refine State.lastCycle_congr ?_ ?_ ?_ ?_
      · rw [hd.sys]
        change counted.sys.mode = _
        rw [hsys, hraised]
      · rw [hd.jrnl]
        change counted.jrnl.fresh = _
        rw [hjrnl, State.raise_jrnl]
        rfl
      · rw [hd.jrnl]
        change counted.jrnl.life.lastCycle = _
        rw [hjrnl, State.raise_jrnl]
        rfl
      · rw [hd.cycle]
        change counted.cycle = _
        rw [hcycle, State.raise_cycle]
        rfl
    · rw [fsaf, State.safDrive_saf]
      exact State.commands_of_stopping rfl _
    · rw [fsaf, State.safDrive_saf]
      exact State.commands_of_stopping rfl _
    · have held : raised.evt.forced.testBit k = true :=
        State.raise_module_forced (s := s.silent) 0 tk (by decide) (by decide) ha hpair k.isLt
      rw [fevt]
      exact grows.forced k k.isLt held
  · change execFeedLossDetect f t s = _
    simp [execFeedLossDetect, hp, ha]
  · change execFeedLossDetect .a t s = _
    simp [execFeedLossDetect, hp, ha, feedCode, State.setFeedLow]
  · change execFeedLossDetect .b t s = _
    simp [execFeedLossDetect, hp, ha, feedCode, State.setFeedLow]
  · change execFeedHighDetect t s = _
    simp [execFeedHighDetect, hp]
  · change execSupplyLoss t s = _
    simp [execSupplyLoss, hp]
  · change execFeedLossDetect f t s = _
    simp [execFeedLossDetect, hp]
  · change execFeedHighDetect t s = _
    simp [execFeedHighDetect, hp]

end Sys2Proof.Machine
end


section
/-! PROOFS. Lanes and clock loops: O10 to O16. -/

namespace Sys2Proof.Machine

open Sys2Proof.Machine

/-! ## Events: which are active after a clear -/

theorem State.clear_active (s : State) (code inst t : Nat) : (s.clear code inst t).evt.active
    = s.evt.active.filter fun e => !decide (e.code = code ∧ e.inst = inst) := by
  unfold State.clear
  split
  · exact State.enqueue_active ..
  · rename_i h
    refine (List.filter_eq_self.mpr fun e he => ?_).symm
    refine congrArg (!·) (decide_eq_false fun hc => h (List.any_eq_true.mpr ⟨e, he, decide_eq_true hc⟩))

theorem State.clear_isActive (s : State) (code inst t c i : Nat) : (s.clear code inst t).isActive c i
    = (s.isActive c i && !decide (c = code ∧ i = inst)) := by
  rw [State.isActive, State.isActive, State.clear_active, List.any_filter]
  induction s.evt.active with
  | nil => rfl
  | cons e l ih =>
    rw [List.any_cons, List.any_cons, ih, Bool.and_or_distrib_right]
    by_cases h : e.code = c ∧ e.inst = i
    · obtain ⟨rfl, rfl⟩ := h
      simp
    · simp [h]

@[simp] theorem State.clear_isActive_same (s : State) (code inst t : Nat) :
    (s.clear code inst t).isActive code inst = false := by simp [State.clear_isActive]

/-! ## What reads the same after a raise and after a clear -/

section
variable (s : State) (code inst : Nat) (detail : Word) (t i : Nat)

@[simp] theorem State.raise_word : (s.raise code inst detail t).word i = s.word i := by
  unfold State.word; rw [State.raise_regs]
@[simp] theorem State.clear_word : (s.clear code inst t).word i = s.word i := by
  unfold State.word; rw [State.clear_regs]
@[simp] theorem State.raise_laneCtl : (s.raise code inst detail t).laneCtl i = s.laneCtl i := State.raise_word ..
@[simp] theorem State.clear_laneCtl : (s.clear code inst t).laneCtl i = s.laneCtl i := State.clear_word ..
@[simp] theorem State.raise_lane : (s.raise code inst detail t).lane i = s.lane i := by
  unfold State.lane; rw [State.raise_lanes]
@[simp] theorem State.clear_lane : (s.clear code inst t).lane i = s.lane i := by
  unfold State.lane; rw [State.clear_lanes]
@[simp] theorem State.raise_loopOf : (s.raise code inst detail t).loopOf i = s.loopOf i := by
  unfold State.loopOf; rw [State.raise_clk]
@[simp] theorem State.clear_loopOf : (s.clear code inst t).loopOf i = s.loopOf i := by
  unfold State.loopOf; rw [State.clear_clk]
@[simp] theorem State.raise_nib : (s.raise code inst detail t).nib i = s.nib i := by
  unfold State.nib; rw [State.raise_nibs]
@[simp] theorem State.clear_nib : (s.clear code inst t).nib i = s.nib i := by
  unfold State.nib; rw [State.clear_nibs]
@[simp] theorem State.clear_cell : (s.clear code inst t).cell i = s.cell i := by
  unfold State.cell; rw [State.clear_cells]
@[simp] theorem State.clear_mg : (s.clear code inst t).mg i = s.mg i := by
  unfold State.mg; rw [State.clear_mgmt]
end

/-! ## Lanes -/

theorem State.syncLost_eq (s : State) (l : Nat) (cdrLost : Bool) (t : Nat) :
    s.syncLost l cdrLost t
      = let r := ((s.setLane l { s.lane l with sync := false, cdr := !cdrLost, leaving := false }).startAcquire l
          (!(s.lane l).leaving) t).dropLocal l t
        if r.lossReported l then r.raise 0x0202 l 0 t else r := rfl

/-- Settles O10: each row by its guards. -/
theorem laneSignalEdgesStartAndEndAcquisition : Obligations.LaneSignalEdgesStartAndEndAcquisition := by
  unfold Obligations.LaneSignalEdgesStartAndEndAcquisition
  intro s l t
  refine ⟨fun he hs => ?_, fun he hs => ⟨fun h6 hi => ?_, fun h => ?_⟩, fun hl hs hh => ?_, fun h => ?_, fun h => ?_,
    fun h => ?_⟩
  · change execLaneSignalLoss l t s = _
    simp [execLaneSignalLoss, he, hs]
    rfl
  · change execLaneSignalDetect ⟨l, t⟩ s = _
    simp [execLaneSignalDetect, he, hs, h6, hi]
  · change execLaneSignalDetect ⟨l, t⟩ s = _
    simp [execLaneSignalDetect, he, hs, h]
  · change execLaneNoSignalTimeout l t s = _
    simp [execLaneNoSignalTimeout, hl, hs, hh]
  · change execLaneNoSignalTimeout l t s = _
    rcases h with h | h | h <;> simp [execLaneNoSignalTimeout, h]
  · change execLaneSignalLoss l t s = _
    rcases h with h | h <;> simp [execLaneSignalLoss, h]
  · change execLaneSignalDetect ⟨l, t⟩ s = _
    rcases h with h | h <;> simp [execLaneSignalDetect, h]

theorem execLaneSyncAcquire_eq (l : Fin 68) (pos : Fin 20) (t : Tick) (s : State) :
    execLaneSyncAcquire l pos t s =
      let st := if (s.lane l).state = 2 ∧ (s.lane l).sweeping = false then s.huntState l else (s.lane l).state
      if (s.lane l).sig = true ∧ (s.lane l).sync = false ∧ st = 3 then
        .next ((s.silent.setLane l { s.lane l with slip := pos }).declareSync l t)
      else if (s.lane l).sig = true ∧ (s.lane l).sync = false ∧ st = 4 ∧ (s.lane l).slip = (pos : Nat) then
        .next (s.silent.declareSync l t)
      else .next s.silent := by
  simp [execLaneSyncAcquire, and_assoc]

/-- What a lane reads as once its sync is declared. -/
theorem State.declareSync_lanes (s : State) (i t : Nat) : (s.declareSync i t).lanes = (s.setLane i { s.lane i with
    sync := true, state := 5, decodeOk := true, cdr := true, leaving := false, level := 0 }).lanes := by
  unfold State.declareSync
  simp only [State.clear_lanes]
  split <;> simp

theorem State.declareSync_frame (s : State) (i t : Nat) : (s.declareSync i t).regs = s.regs
    ∧ (s.declareSync i t).cells = s.cells ∧ (s.declareSync i t).bond = s.bond := by
  unfold State.declareSync
  simp only [State.clear_regs, State.clear_cells, (State.clear_reach ..).bond]
  split <;> simp

theorem State.declareSync_isActive (s : State) (i t : Nat) :
    (s.declareSync i t).isActive 0x0202 i = false ∧ (s.declareSync i t).isActive 0x0203 i = false := by
  unfold State.declareSync
  simp [State.clear_isActive]

/-- Settles O11: sync declared clears the two events of the hunt and writes the one lane. -/
theorem laneSyncIsDeclaredAndLost : Obligations.LaneSyncIsDeclaredAndLost := by
  unfold Obligations.LaneSyncIsDeclaredAndLost
  refine ⟨fun s l t => ⟨fun pos => ⟨fun hs hy => ⟨fun h => ?_, fun h hp => ?_, fun h3 h => ?_⟩, fun h => ?_⟩,
    fun cdrLost hs h => ?_, fun h hd => ?_, fun h hd => ?_⟩, fun s l pos tk hs hy h3 => ?_⟩
  · refine (execLaneSyncAcquire_eq l pos t s).trans ?_
    simp [hs, hy, h]
  · refine (execLaneSyncAcquire_eq l pos t s).trans ?_
    simp [hs, hy, h, hp]
  · refine (execLaneSyncAcquire_eq l pos t s).trans ?_
    rcases h with h | h <;> simp [hs, hy, h3, h]
  · refine (execLaneSyncAcquire_eq l pos t s).trans ?_
    rcases h with h | h <;> simp [h]
  · change execLaneSyncDrop l cdrLost t s = _
    rw [execLaneSyncDrop]
    rcases h with h | h <;> simp [hs, h, State.syncLost_eq]
  · change execSlipDecodeCount l t s = _
    simp [execSlipDecodeCount, h, hd]
  · change execSlipDecodeCount l t s = _
    simp [execSlipDecodeCount, h, hd]
  · let u := s.silent.setLane l { s.lane l with slip := pos }
    obtain ⟨hregs, hcells, hbond⟩ := u.declareSync_frame l tk
    obtain ⟨h202, h203⟩ := u.declareSync_isActive l tk
    have lane (j : Nat) : (u.declareSync l tk).lane j = (u.setLane l { u.lane l with
        sync := true, state := 5, decodeOk := true, cdr := true, leaving := false, level := 0 }).lane j := by
      rw [State.lane, State.declareSync_lanes]
      rfl
    refine ⟨u.declareSync l tk, ?_, ?_, ?_, ?_, ?_, h202, h203, fun j hj => ?_, hregs, hcells, hbond⟩
    · refine (execLaneSyncAcquire_eq l pos tk s).trans ?_
      simp [hs, hy, h3, u]
    · simp [lane]
    · simp [lane, u]
    · simp [lane]
    · simp [lane]
    · rw [lane, State.setLane_lane_ne _ _ _ _ hj, State.setLane_lane_ne _ _ _ _ hj, State.lane_silent]

theorem satInc_eq (w : Word) (sat : Bool) : satInc w sat
    = (if w = 0xFFFFFFFF then w else w + 1, sat || decide (w = 0xFFFFFFFF) || decide (w = 0xFFFFFFFE),
        decide (w = 0xFFFFFFFE)) := by
  have last : w + 1 = 0xFFFFFFFF ↔ w = 0xFFFFFFFE := by
    constructor <;> intro h
    · bv_omega
    · subst h; rfl
  unfold satInc
  by_cases h : w = 0xFFFFFFFF
  · subst h; simp
  · rw [if_neg h, if_neg h]
    simp only [last, decide_eq_false h, Bool.or_false]

/-- Settles O12: with `satInc` as the statement writes it. -/
theorem laneErrorsAreCountedAndJudged : Obligations.LaneErrorsAreCountedAndJudged := by
  unfold Obligations.LaneErrorsAreCountedAndJudged
  intro s l t
  refine ⟨fun he => ?_, fun he => ?_, ⟨fun h0 h => ?_, fun h => ?_⟩, fun hy h3 => ⟨fun ha => ?_, fun ha => ?_⟩⟩
  · change execLaneCodeViolation l t s = _
    simp only [execLaneCodeViolation, State.laneCtl_silent, he, satInc_eq]
    simp
    rfl
  · change execLaneCodeViolation l t s = _
    simp [execLaneCodeViolation, he]
  · change execLaneErrInterval l t s = _
    simp [execLaneErrInterval, h0, h]
  · change execLaneErrInterval l t s = _
    have hn : ¬ (W.LANE_GLOBAL_ERR_LIMIT (s.word K.LANE_GLOBAL) ≠ 0
        ∧ W.LANE_GLOBAL_ERR_LIMIT (s.word K.LANE_GLOBAL) ≤ (s.lane l).ival) := by omega
    exact congrArg Host.Outcome.next (if_neg hn)
  · change execCommaHuntExpiry l t s = _
    simp [execCommaHuntExpiry, hy, h3, ha]
  · change execCommaHuntExpiry l t s = _
    simp [execCommaHuntExpiry, hy, h3, ha]

/-- Settles O13: each row by its guards. -/
theorem transmitterBiasAndIdleOfALane : Obligations.TransmitterBiasAndIdleOfALane := by
  unfold Obligations.TransmitterBiasAndIdleOfALane
  intro s l t
  refine ⟨fun he => ?_, fun hx => ?_, fun he hi hx => ⟨fun hl hlit => ?_, fun h => ?_⟩,
    fun he hi hx => ⟨fun hl => ?_, fun hl => ?_⟩, fun h => ?_, fun h => ?_⟩
  · change execTxBiasFault l t s = _
    simp [execTxBiasFault, he]
  · change execTxBiasRecover l t s = _
    simp [execTxBiasRecover, hx]
  · change execElectricalIdleEntry l s = _
    simp [execElectricalIdleEntry, he, hi, hx, hl, hlit]
  · change execElectricalIdleEntry l s = _
    have hn : ¬ ((l : Nat) < 64 ∧ s.lit l = true) := by
      rcases h with h | h
      · omega
      · simp [h]
    simp [execElectricalIdleEntry, he, hi, hx, hn]
  · change execIdleExit l s = _
    simp [execIdleExit, he, hi, hx, hl]
    rfl
  · change execIdleExit l s = _
    simp [execIdleExit, he, hi, hx, hl]
  · change execElectricalIdleEntry l s = _
    rcases h with h | h | h <;> simp [execElectricalIdleEntry, h]
  · change execIdleExit l s = _
    rcases h with h | h | h <;> simp [execIdleExit, h]

/-- The search for the widest eye from code `i` on, with `w` the eye of the code `best` held so far: what it ends on. -/
theorem widest_spec (es : List Nat) (i best w : Nat) :
    (widest es i best w = best ∧ ∀ e ∈ es, e ≤ w)
    ∨ ∃ k, ∃ h : k < es.length, widest es i best w = i + k ∧ w < es[k] ∧ (∀ e ∈ es, e ≤ es[k])
        ∧ ∀ j, ∀ hj : j < k, es[j] < es[k] := by
  induction es generalizing i best w with
  | nil => exact .inl ⟨rfl, by simp⟩
  | cons e es ih =>
    unfold widest
    split
    · rename_i hw
      rcases ih (i + 1) i e with ⟨hr, hle⟩ | ⟨k, hk, hr, hlt, hle, hlow⟩
      · refine .inr ⟨0, by simp, by simpa using hr, by simpa using hw, by simpa using hle, by omega⟩
      · refine .inr ⟨k + 1, by simpa using hk, by omega, ?_, ?_, ?_⟩
        · simp only [List.getElem_cons_succ]; omega
        · simpa using ⟨by omega, hle⟩
        · rintro (_ | j) hj
          · simpa using hlt
          · simpa using hlow j (by omega)
    · rename_i hw
      rcases ih (i + 1) best w with ⟨hr, hle⟩ | ⟨k, hk, hr, hlt, hle, hlow⟩
      · exact .inl ⟨hr, by simpa using ⟨by omega, hle⟩⟩
      · refine .inr ⟨k + 1, by simpa using hk, by omega, by simpa using hlt, ?_, ?_⟩
        · simpa using ⟨by omega, hle⟩
        · rintro (_ | j) hj
          · simp only [List.getElem_cons_zero, List.getElem_cons_succ]; omega
          · simpa using hlow j (by omega)

/-- The code of the widest of the eyes, the lowest of equals. -/
def widestCode : List Nat → Nat
  | [] => 0
  | e :: es => widest es 1 0 e

theorem widestCode_spec {eyes : List Nat} (hne : eyes ≠ []) : ∃ h : widestCode eyes < eyes.length,
    (∀ e ∈ eyes, e ≤ eyes[widestCode eyes]) ∧ ∀ j, ∀ hj : j < widestCode eyes, eyes[j] < eyes[widestCode eyes] := by
  cases eyes with
  | nil => exact absurd rfl hne
  | cons e es =>
    rcases widest_spec es 1 0 e with ⟨hr, hle⟩ | ⟨k, hk, hr, hlt, hle, hlow⟩
    · have hc : widestCode (e :: es) = 0 := hr
      simp only [hc]
      exact ⟨by simp, by simpa using hle, by omega⟩
    · have hc : widestCode (e :: es) = k + 1 := by rw [widestCode, hr]; omega
      simp only [hc]
      refine ⟨by simpa using hk, ?_, ?_⟩
      · simpa using ⟨by omega, hle⟩
      · rintro (_ | j) hj
        · simpa using hlt
        · simpa using hlow j (by omega)

theorem padEyes_length (eyes : List Nat) : (execEqSweepDone.padEyes eyes).length = 16 := by
  simp [execEqSweepDone.padEyes]

theorem padEyes_getElem (eyes : List Nat) {c : Nat} (hc : c < 16) :
    (execEqSweepDone.padEyes eyes)[c]'(by rw [padEyes_length]; exact hc) = eyes.getD c 0 := by
  simp only [execEqSweepDone.padEyes, List.getElem_take, List.getElem_append, List.getElem_replicate,
    List.getD_eq_getElem?_getD]
  split
  · rename_i h; simp [h]
  · rename_i h; simp [Nat.not_lt.mp h]

/-- Settles O14: from what the search for the widest eye ends on (`widestCode_spec`). -/
theorem equaliserTakesTheWidestEye : Obligations.EqualiserTakesTheWidestEye := by
  unfold Obligations.EqualiserTakesTheWidestEye
  intro s l eyes tk hs
  let code := widestCode (execEqSweepDone.padEyes eyes)
  let u := s.silent.setLane l { s.lane l with
    sweeping := false, eqUsed := code, state := if (s.lane l).sig ∧ (s.lane l).cdr then s.huntState l else 2 }
  let r := if code = 0 ∨ code = 15 then u.raise 0x0206 l 0 tk else u.clear 0x0206 l tk
  have lane (j : Nat) : r.lane j = u.lane j := by
    unfold r
    split <;> simp
  have hr : exec (.eqSweepDone l eyes tk) s = .next r := by
    change execEqSweepDone l eyes tk s = _
    simp only [execEqSweepDone, State.lane_silent, hs]
    simp only [r, u, code]
    unfold widestCode
    rfl
  obtain ⟨hlt, hle, hlow⟩ := widestCode_spec (eyes := execEqSweepDone.padEyes eyes)
    (List.ne_nil_of_length_pos (by rw [padEyes_length]; decide))
  have h16 : code < 16 := padEyes_length eyes ▸ hlt
  have hcode : (r.lane l).eqUsed = code := by rw [lane]; simp [u]
  refine ⟨r, hr, ?_, fun c hc => ?_, fun c hc => ?_, ?_, ?_, ?_, fun j hj => ?_⟩
  · rw [hcode]
    exact h16
  · rw [hcode, ← padEyes_getElem eyes h16, ← padEyes_getElem eyes hc]
    exact hle _ (List.getElem_mem _)
  · rw [hcode] at hc ⊢
    rw [← padEyes_getElem eyes h16, ← padEyes_getElem eyes (Nat.lt_trans hc h16)]
    exact hlow c hc
  · rw [lane]; simp [u]
  · rw [lane]; simp [u]
  · rw [hcode]
    unfold r
    split
    · rename_i h
      simpa [h] using State.raise_isActive _ _ _ _ (by decide)
    · rename_i h
      simpa using h
  · rw [lane, State.setLane_lane_ne _ _ _ _ hj, State.lane_silent]

/-- A reaction makes nothing active but the start of a give-up. -/
theorem State.react_active (s : State) (code inst : Nat) (byp : Bool) (t : Nat) :
    (s.react code inst byp t).evt.active = s.evt.active
    ∨ (s.react code inst byp t).evt.active = s.evt.active ++ [{ code := 0x0B03, inst := 0, cond := true, last := s.mono }] := by
  have giveUp : s.startGiveUp.evt.active = s.evt.active
      ∨ s.startGiveUp.evt.active = s.evt.active ++ [{ code := 0x0B03, inst := 0, cond := true, last := s.mono }] := by
    unfold State.startGiveUp
    split
    · exact .inl rfl
    · exact .inr (by simp)
  unfold State.react
  generalize classOf code = c
  cases c <;> dsimp only
  case cell => split <;> exact .inl (by simp)
  case stack =>
    split
    · exact giveUp
    · split
      · exact .inl rfl
      · split <;> exact .inl (by simp)
  case module =>
    split
    · exact giveUp
    · exact .inl (by simp)
  all_goals exact .inl rfl

theorem State.isActive_of_active {s t : State} (h : t.evt.active = s.evt.active) (c i : Nat) :
    t.isActive c i = s.isActive c i := by rw [State.isActive, h]; rfl

theorem State.react_isActive_ne (s : State) (code inst : Nat) (byp : Bool) (t : Nat) {c i : Nat} (h : c ≠ 0x0B03) :
    (s.react code inst byp t).isActive c i = s.isActive c i := by
  rcases s.react_active code inst byp t with ha | ha
  · exact State.isActive_of_active ha ..
  · rw [State.isActive, ha, List.any_append]
    simp [State.isActive, h.symm]

/-- A raise makes no other event active, but for the start of a give-up. -/
theorem State.raise_isActive_ne (s : State) (code inst : Nat) (detail : Word) (t : Nat) {c i : Nat}
    (h : c ≠ code ∨ i ≠ inst) (hg : c ≠ 0x0B03) :
    (s.raise code inst detail t).isActive c i = s.isActive c i := by
  have other : ¬ (code = c ∧ inst = i) := by omega
  have map : List.any (s.evt.active.map fun e =>
      if e.code = code ∧ e.inst = inst then { e with cond := true, last := s.mono } else e)
        (fun e => decide (e.code = c ∧ e.inst = i)) = s.isActive c i := by
    rw [List.any_map, State.isActive]
    congr 1
    funext e
    simp only [Function.comp]
    split <;> rfl
  unfold State.raise State.raiseB
  split
  · exact State.isActive_of_active (by simp) ..
  · split
    · dsimp only
      split
      · exact (State.react_isActive_ne _ _ _ _ _ hg).trans map
      · exact map
    · refine (State.react_isActive_ne _ _ _ _ _ hg).trans ?_
      simp [State.isActive, other]

/-- The clock record with the state of the station time judged anew. -/
def State.judgedClk (s : State) : Clk :=
  { s.clk with
    tstate := s.timeState
    good := if decide (s.timeState = timeHoldover ∨ s.timeState = timeFreerun) then 0 else s.clk.good
    aim := if decide (s.timeState = timeHoldover ∨ s.timeState = timeFreerun) then 0 else s.clk.aim }

theorem State.timeJudge_cases (s : State) (t : Nat) : s.timeJudge t = s ∨ s.timeJudge t = { s with clk := s.judgedClk }
    ∨ s.timeJudge t = ({ s with clk := s.judgedClk } : State).raise 0x0408 0 0 t
    ∨ s.timeJudge t = ({ s with clk := s.judgedClk } : State).clear 0x0408 0 t := by
  unfold State.timeJudge
  dsimp only
  split
  · exact .inl rfl
  · split
    · exact .inr (.inr (.inl rfl))
    · split
      · exact .inr (.inr (.inr rfl))
      · exact .inr (.inl rfl)

@[simp] theorem State.timeJudge_loopOf (s : State) (t i : Nat) : (s.timeJudge t).loopOf i = s.loopOf i := by
  rcases s.timeJudge_cases t with h | h | h | h <;> rw [h]
  · rfl
  · exact State.raise_loopOf ..
  · exact State.clear_loopOf ..

theorem State.timeJudge_isActive (s : State) (t : Nat) {c i : Nat} (h : c ≠ 0x0408) (hg : c ≠ 0x0B03) :
    (s.timeJudge t).isActive c i = s.isActive c i := by
  rcases s.timeJudge_cases t with e | e | e | e <;> rw [e]
  · rfl
  · exact State.raise_isActive_ne _ _ _ _ _ (.inl h) hg
  · refine (State.clear_isActive ..).trans ?_
    simp only [h, false_and, decide_false, Bool.not_false, Bool.and_true]
    rfl

/-- A measurement leaves a loop but for its phase error, and every other loop. -/
theorem State.loopMeasured_loopOf (s : State) (i : Nat) (errs : List Int) :
    ∃ p, (s.loopMeasured i errs).loopOf i = { s.loopOf i with perr := p } := by
  unfold State.loopMeasured
  split
  · exact ⟨_, State.setLoop_loopOf ..⟩
  · exact ⟨_, rfl⟩

/-- Loop `i` reads as `x`, and CLK_UNLOCK of it is not active. -/
def State.LockedAs (s : State) (i : Nat) (x : ClkLoop) : Prop := s.loopOf i = x ∧ s.isActive 0x0401 i = false

namespace State.LockedAs

variable {s : State} {i : Nat} {x : ClkLoop}

theorem clear (h : s.LockedAs i x) (code inst t : Nat) : (s.clear code inst t).LockedAs i x :=
  ⟨(State.clear_loopOf ..).trans h.1, by rw [State.clear_isActive, h.2, Bool.false_and]⟩

theorem raise (h : s.LockedAs i x) {code : Nat} (inst : Nat) (detail : Word) (t : Nat) (hc : 0x0401 ≠ code) :
    (s.raise code inst detail t).LockedAs i x :=
  ⟨(State.raise_loopOf ..).trans h.1, (State.raise_isActive_ne _ _ _ _ _ (.inl hc) (by decide)).trans h.2⟩

theorem timeJudge (h : s.LockedAs i x) (t : Nat) : (s.timeJudge t).LockedAs i x :=
  ⟨(State.timeJudge_loopOf ..).trans h.1, (State.timeJudge_isActive _ _ (by decide) (by decide)).trans h.2⟩

theorem withPend (h : s.LockedAs i x) (p : Int) : ({ s with clk := { s.clk with pend := p } } : State).LockedAs i x := h

theorem ite {c : Prop} [Decidable c] {a b : State} (ha : a.LockedAs i x) (hb : b.LockedAs i x) :
    (if c then a else b).LockedAs i x := by
  split
  · exact ha
  · exact hb

end State.LockedAs

@[simp] theorem State.loopMeasured_mono (s : State) (i : Nat) (errs : List Int) :
    (s.loopMeasured i errs).mono = s.mono := by
  unfold State.loopMeasured
  split <;> rfl

/-- Settles O15: what follows the declaration of lock keeps the loop as it was set and CLK_UNLOCK cleared
(`State.LockedAs`). -/
theorem loopsDeclareAndLoseLock : Obligations.LoopsDeclareAndLoseLock := by
  unfold Obligations.LoopsDeclareAndLoseLock
  intro s i errs tk
  obtain ⟨p, hm⟩ := s.silent.loopMeasured_loopOf i errs
  have state : ((s.silent.loopMeasured i errs).loopOf i).state = (s.loopOf i).state := (congrArg ClkLoop.state hm :)
  refine ⟨fun h hl => ?_, fun h hl => ?_, fun phase h => ?_, fun h h0 => ?_, fun h => ?_⟩
  · have hn : ¬ (((s.silent.loopMeasured i errs).loopOf i).state ≠ clkAcquire
        ∧ ((s.silent.loopMeasured i errs).loopOf i).state ≠ clkFreq
          ∨ !(s.silent.loopMeasured i errs).loopLocks i errs) := by
      rw [state, hl]
      exact fun k => k.elim (fun k => h.elim k.1 k.2) nofun
    let l := (s.silent.loopMeasured i errs).loopOf i
    let walks := (decide (2 ≤ (i : Nat)) && decide ((i : Nat) ≤ 9)) && decide (l.held ≠ 0)
    let x : ClkLoop := { l with
      state := if walks then clkWalk else clkLocked, lostAt := none,
      held := if walks then l.held else 0, skew := 0, forced := false }
    have first : (((s.silent.loopMeasured i errs).setLoop i x).clear 0x0401 i tk).LockedAs i x :=
      ⟨(State.clear_loopOf ..).trans (State.setLoop_loopOf ..), State.clear_isActive_same ..⟩
    have ended := State.LockedAs.ite (c := (i : Nat) = 0) (first.clear 0x0402 0 tk) (first.clear 0x0406 i tk)
    suffices h : ∃ t, exec (.clockLockDeclare i errs tk) s = .next t ∧ t.LockedAs i x by
      obtain ⟨t, ht, hx, ha⟩ := h
      refine ⟨t, ht, ?_, by rw [hx], ha⟩
      rw [hx]
      simp [x, walks, l, hm, and_assoc]
    have settled (c : Prop) [Decidable c] := State.LockedAs.ite (c := c) ended (ended.clear 0x0406 0 tk)
    exact ⟨_, if_neg hn, .timeJudge (.ite (.raise (.withPend (settled _) _) _ _ _ (by decide)) (settled _)) tk⟩
  · change execClockLockLoss i errs tk s = _
    have hn : ¬ (((s.silent.loopMeasured i errs).loopOf i).state ≠ clkLocked
        ∧ ((s.silent.loopMeasured i errs).loopOf i).state ≠ clkWalk
          ∨ !(s.silent.loopMeasured i errs).loopLoses i errs) := by
      rw [state, hl]
      exact fun k => k.elim (fun k => h.elim k.1 k.2) nofun
    rw [execClockLockLoss]
    simp only [if_neg hn, State.loopMeasured_mono, State.silent_mono]
  · change execReferenceReturn i phase s = _
    exact if_neg (by rcases h with h | h <;> simp [h])
  · change execLaneWalkDone i s = _
    simp [execLaneWalkDone, ClkLoop.walked, h, h0]
  · change execLaneWalkDone i s = _
    have hn : ¬ ((s.loopOf i).state = clkWalk ∧ (s.loopOf i).held = 0) :=
      fun k => h.elim (absurd k.1) (absurd k.2)
    simp [execLaneWalkDone, ClkLoop.walked, hn]

theorem execCoastLimitExpiry_of_short {s : State} {i : Fin 17} {t : Tick}
    (h : ∀ a, (s.loopOf i).lostAt = some a → s.mono < a + W.CLK_GLOBAL_COAST_MAX (s.word K.CLK_GLOBAL)) :
    execCoastLimitExpiry i t s = .next s.silent := by
  refine if_pos ?_
  rcases hb : (s.silent.loopOf i).lostAt with _ | a
  · rfl
  · simp only [Bool.not_eq_true', decide_eq_false_iff_not, Nat.not_le]
    exact h a hb

theorem execCoastLimitExpiry_of_long {s : State} {i : Fin 17} {t : Tick} {a : Nat} (ha : (s.loopOf i).lostAt = some a)
    (h : a + W.CLK_GLOBAL_COAST_MAX (s.word K.CLK_GLOBAL) ≤ s.mono) :
    execCoastLimitExpiry i t s = .next (
      if (i : Nat) = 0 then s.silent.raise 0x0403 0 0 t
      else if 2 ≤ (i : Nat) ∧ (i : Nat) ≤ 9 then s.silent.raise 0x0404 i 0 t
      else if (i : Nat) = 10 then (s.silent.setLocal 0 t).bondJudge t
      else s.silent) := by
  unfold execCoastLimitExpiry
  simp only [State.loopOf_silent, State.word_silent, State.silent_mono, ha, h, decide_true, Bool.not_true]
  simp only [apply_ite Host.Outcome.next]
  rfl

/-- Settles O16: the coast limit by the age of the loss. -/
theorem referenceLossCoastAndHoldover : Obligations.ReferenceLossCoastAndHoldover := by
  unfold Obligations.ReferenceLossCoastAndHoldover
  intro s t
  refine ⟨fun h => ?_, fun h0 h1 => ?_, fun i a ha => ⟨fun h => ⟨fun hi => ?_, fun hl hh => ?_, fun hi => ?_,
    fun hi => ?_⟩,
    fun h => ?_⟩, fun i h => ?_, fun h => ?_, fun h => ?_, fun h => ?_, fun h => ?_,
    fun off hd => ⟨fun h => ?_, fun h => ?_⟩, fun h => ?_⟩
  · change execReferenceEdgeMissing t s = _
    exact if_neg (by simp only [State.loopOf_silent]; omega)
  · change execReferenceEdgeMissing t s = _
    exact if_pos ⟨h0, h1⟩
  · refine (execCoastLimitExpiry_of_long ha h).trans ?_
    rw [if_pos hi]
  · refine (execCoastLimitExpiry_of_long ha h).trans ?_
    rw [if_neg (by omega), if_pos ⟨hl, hh⟩]
  · refine (execCoastLimitExpiry_of_long ha h).trans ?_
    rw [if_neg (by omega), if_neg (by omega), if_pos hi]
  · refine (execCoastLimitExpiry_of_long ha h).trans ?_
    rw [if_neg (by omega), if_neg (by omega), if_neg (by omega)]
  · exact execCoastLimitExpiry_of_short fun b hb => by rw [ha] at hb; cases hb; exact h
  · exact execCoastLimitExpiry_of_short fun b hb => by rw [h] at hb; cases hb
  · change execHoldoverTimeout t s = _
    simp [execHoldoverTimeout, h]
  · change execHoldoverTimeout t s = _
    simp [execHoldoverTimeout, h]
  · change execSlewEnd t s = _
    simp [execSlewEnd, State.slewDone, h]
  · change execSlewEnd t s = _
    simp [execSlewEnd, State.slewDone, h]
  · change execDeferredTimeStep t s = _
    simp [execDeferredTimeStep, hd, h]
  · change execDeferredTimeStep t s = _
    simp [execDeferredTimeStep, hd, h]
  · change execDeferredTimeStep t s = _
    simp [execDeferredTimeStep, h]

end Sys2Proof.Machine
end


section
/-! PROOFS. Nibs: O18 to O26. -/

namespace Sys2Proof.Machine

open Sys2Proof.Machine

/-! ## Nibs -/

@[simp] theorem State.nibSend_nib (s : State) (p out j : Nat) (o : Output) : (s.nibSend p out o).nib j = s.nib j := by
  unfold State.nibSend; split <;> rfl
@[simp] theorem State.nibEcho_nib (s : State) (p side j : Nat) (o : Output) : (s.nibEcho p side o).nib j = s.nib j := by
  unfold State.nibEcho; split <;> rfl
@[simp] theorem State.nibForward_nib (s : State) (p side j : Nat) (o : OSet) :
    (s.nibForward p side o).nib j = s.nib j := by
  unfold State.nibForward; simp
@[simp] theorem State.nibReply_nib (s : State) (p result j : Nat) : (s.nibReply p result).nib j = s.nib j := rfl
@[simp] theorem State.nibRepeat_nib (s : State) (p j : Nat) : (s.nibRepeat p).nib j = s.nib j := rfl

/-- A nib turned off: its switches are off and it has no edge record to run; what else it holds stays. -/
@[simp] theorem State.nibDown_nib (s : State) (p : Nat) : (s.nibDown p).nib p = (s.nib p).off := by
  unfold State.nibDown; dsimp only; split <;> simp
theorem State.nibDown_nib_ne (s : State) {p j : Nat} (h : j ≠ p) : (s.nibDown p).nib j = s.nib j := by
  unfold State.nibDown; dsimp only
  split <;> simp [State.setNib_nib_ne _ _ _ _ h]
@[simp] theorem State.nibDown_aux (s : State) (p : Nat) : (s.nibDown p).aux p = { s.aux p with cur := [] } := by
  unfold State.nibDown; dsimp only; split <;> simp

/-- Settles O18: each row by its guards. -/
theorem nibPowersUpAndForgetsOnLoss : Obligations.NibPowersUpAndForgetsOnLoss := by
  unfold Obligations.NibPowersUpAndForgetsOnLoss
  intro s n
  refine ⟨fun ident typ lo hi fw hp => ?_, fun ident typ lo hi fw hp => ?_, ?_, fun hp => ?_, fun hp => ?_,
    fun hb => ?_,
    fun hb => ?_, rfl⟩
  · change ∃ t, execNibPowerUp n ident typ lo hi fw s = .next t ∧ _
    refine ⟨_, if_neg (by simp [hp]), ?_⟩
    simp +contextual [Nib.init, State.setNib_nib_ne]
    rfl
  · change execNibPowerUp n ident typ lo hi fw s = _
    exact if_pos hp
  · refine ⟨_, rfl, ?_⟩
    simp +contextual [Nib.init, State.setNib_nib_ne]
  · change execNibOvervoltBypass n s = _
    exact if_pos hp
  · change execNibOvervoltBypass n s = _
    exact if_neg (by simp [hp])
  · change execNibBypassClose n s = _
    exact if_pos hb
  · change execNibBypassClose n s = _
    exact if_neg (by simp [hb])

/-- Settles O19: each row by its guards. -/
theorem nibAnswersIdentifyAndSetArr : Obligations.NibAnswersIdentifyAndSetArr := by
  unfold Obligations.NibAnswersIdentifyAndSetArr
  intro s n code
  refine ⟨fun hr hp => ⟨fun hc => ?_, fun hc => ⟨fun hk => ?_, fun hk => ?_⟩, fun hc => ?_⟩,
    fun hr hp => ⟨fun hc => ?_, fun hc => ?_, fun hc => ?_⟩, fun h => ?_, fun h => ?_, fun h => ?_⟩
  all_goals simp only [code] at *
  · change execIdentify n s = _
    simp [execIdentify, hr, hp, hc]
  · change execSetArr n s = _
    simp [execSetArr, hr, hp, hc, Nat.not_lt.mpr hk]
  · change execSetArr n s = _
    simp [execSetArr, hr, hp, hc, hk]
  · change execMgmtUnknownRequest n s = _
    have hn : ¬ ((s.aux n).req = [] ∨ (1 ≤ beAt (s.aux n).req 0 1 ∧ beAt (s.aux n).req 0 1 ≤ 4)) := by
      simp only [hr, false_or]; omega
    simp [execMgmtUnknownRequest, hn, hp]
  · change execIdentify n s = _
    simp [execIdentify, hr, hp, hc]
  · change execSetArr n s = _
    simp [execSetArr, hr, hp, hc]
  · change execMgmtUnknownRequest n s = _
    have hn : ¬ ((s.aux n).req = [] ∨ (1 ≤ beAt (s.aux n).req 0 1 ∧ beAt (s.aux n).req 0 1 ≤ 4)) := by
      simp only [hr, false_or]; omega
    simp [execMgmtUnknownRequest, hn, hp]
  · exact if_pos h.symm
  · exact if_pos h.symm
  · exact if_pos h

/-- Settles O20: a nib turned off keeps all but its switches and its edge records. -/
theorem nibAdmitsAndRetires : Obligations.NibAdmitsAndRetires := by
  unfold Obligations.NibAdmitsAndRetires
  intro s n code own barred
  refine ⟨fun hr hp => ⟨fun hc ho hb he => ?_, fun hc ho => ?_, fun hc ho hb => ?_, fun hc ho hb he => ?_,
    fun hc => ?_⟩,
    fun hr hp => ⟨fun hc => ?_, fun hc => ?_⟩, fun h => ?_, fun h => ?_⟩
  all_goals simp only [code, own, barred, decide_eq_true_eq, decide_eq_false_iff_not] at *
  · change ∃ t, execAdmitCi n s = .next t ∧ _
    simp [execAdmitCi, hr, hp, hc, ho, hb, he, Nib.off]
    intro j hj
    rw [State.setNib_nib_ne _ _ _ _ hj, State.nibDown_nib_ne _ hj, State.nib_silent]
  · change execAdmitCi n s = _
    simp [execAdmitCi, hr, hp, hc, ho]
  · change execAdmitCi n s = _
    simp [execAdmitCi, hr, hp, hc, ho, hb]
  · change execAdmitCi n s = _
    simp [execAdmitCi, hr, hp, hc, ho, hb, he]
  · change ∃ t, execRetire n s = .next t ∧ _
    simp [execRetire, hr, hp, hc, Nib.off]
    intro j hj
    rw [State.setNib_nib_ne _ _ _ _ hj, State.nibDown_nib_ne _ hj, State.nib_silent]
  · change execAdmitCi n s = _
    simp [execAdmitCi, hr, hp, hc]
  · change execRetire n s = _
    simp [execRetire, hr, hp, hc]
  · exact if_pos h.symm
  · exact if_pos h.symm

/-- What a latched block leaves of its nib. -/
theorem State.nibLatch_nib (s : State) (p : Nat) : (s.nibLatch p).nib p = { s.nib p with
    levels := [], latch := true, armed := false, held := [], mirror := []
    state := if (s.nib p).state = nsAdmitted ∨ (s.nib p).state = nsSafe then nsBlocked else (s.nib p).state } := by
  unfold State.nibLatch
  simp [Nib.off]

theorem State.nibLatch_nib_ne (s : State) {p j : Nat} (h : j ≠ p) : (s.nibLatch p).nib j = s.nib j := by
  unfold State.nibLatch
  rw [State.setNib_nib_ne _ _ _ _ h, State.nibDown_nib_ne _ h]

theorem State.nibForward_outside {s : State} {p : Nat} (h : (s.nib p).state ≠ nsLoopback) (side : Nat) (o : OSet) :
    s.nibForward p side o = s.emit (.nibSet p ((s.nib p).outSide side) o) := by
  simp [State.nibForward, State.nibEcho, State.nibSend, h]

/-- Settles O21: from what a latched block leaves of its nib. -/
theorem orderedSetsPassANib : Obligations.OrderedSetsPassANib := by
  unfold Obligations.OrderedSetsPassANib
  refine ⟨fun s n side => ⟨fun hp => ⟨?_, fun h => ?_, fun hb hs hf => ?_, ?_, ?_, fun p q hq hpos => ?_,
    fun p q ok h => ?_,
    fun h o => ?_⟩, fun hp => ⟨?_, ?_, ?_, ?_, fun p q ok => ?_⟩⟩, fun s n side hp => ?_⟩
  · change execBlk n side s = _
    simp [execBlk, hp]
  · change execClr n side s = _
    simp [execClr, hp, h]
  · change execClr n side s = _
    simp [execClr, hp, hb, hs, hf]
  · change execEis n side s = _
    simp [execEis, hp]
  · change execBrk n side s = _
    simp [execBrk, hp]
  · change execEcq n side ⟨p, q⟩ true s = _
    simp [execEcq, hp, hq, hpos]
  · change execEcq n side ⟨p, q⟩ ok s = _
    have hn : ¬ (ok = true ∧ q = ~~~ p ∧ (s.nib n).pos = some p.toNat) := by
      rcases h with h | h | h <;> simp [h]
    simp [execEcq, hp, hn]
  · rw [State.nibForward_outside (s := s.silent) h]
    rfl
  · change execBlk n side s = _
    simp [execBlk, hp]
  · change execClr n side s = _
    simp [execClr, hp]
  · change execEis n side s = _
    simp [execEis, hp]
  · change execBrk n side s = _
    simp [execBrk, hp]
  · change execEcq n side ⟨p, q⟩ ok s = _
    simp [execEcq, hp]
  · have hx := (s.silent.nibForward n side .blk).nibLatch_nib n
    simp only [State.nibForward_nib, State.nib_silent] at hx
    refine ⟨(s.silent.nibForward n side .blk).nibLatch n, ?_,
      by rw [hx], by rw [hx], by rw [hx], by rw [hx], by rw [hx],
      by rw [hx], by rw [hx], fun h => by rw [hx]; exact if_pos h, fun ha hs => by rw [hx]; exact if_neg (by simp [ha, hs]),
      fun j hj => ?_⟩
    · change execBlk n side s = _
      simp [execBlk, hp]
    · rw [State.nibLatch_nib_ne _ hj, State.nibForward_nib, State.nib_silent]

/-- A powered nib sends /BRK/ by its low side and then by its high side, each where it is in wrap without sync. -/
theorem execNibBrkTimer_of_powered {s : State} {n : Fin 3072} (hp : (s.nib n).powered = true) :
    execNibBrkTimer n s =
      let low := if (s.nib n).low.wrap = true ∧ (s.nib n).low.sync = false then
        s.silent.nibSend n 0 (.nibSet n 0 .brk) else s.silent
      .next (if (s.nib n).high.wrap = true ∧ (s.nib n).high.sync = false then
        low.nibSend n 1 (.nibSet n 1 .brk) else low) := by
  simp [execNibBrkTimer, hp]

/-- Settles O22: each row by its guards. -/
theorem nibSidesWrapAndUnwrap : Obligations.NibSidesWrapAndUnwrap := by
  unfold Obligations.NibSidesWrapAndUnwrap
  intro s n side x y low high out
  refine ⟨fun hp => ⟨?_, fun hl hh => ?_, fun hh hl => ?_, fun hl hh => ?_, fun hl hh => ?_, fun he => ?_, fun he => ?_,
    fun hw hy => ?_, fun h => ?_, fun h => ?_, fun h => ?_⟩, fun hp => ⟨?_, ?_, ?_, ?_, ?_⟩⟩
  all_goals simp only [x, y, low, high, out] at *
  · change execNibSideLoss n side s = _
    simp [execNibSideLoss, hp]
  · refine (execNibBrkTimer_of_powered hp).trans ?_
    simp only [if_pos hl, if_neg hh]
  · refine (execNibBrkTimer_of_powered hp).trans ?_
    simp only [if_pos hh, if_neg hl]
  · refine (execNibBrkTimer_of_powered hp).trans ?_
    simp only [if_pos hh, if_pos hl]
  · refine (execNibBrkTimer_of_powered hp).trans ?_
    simp only [if_neg hh, if_neg hl]
  · change execNibSideSyncAcquire n side s = _
    simp [execNibSideSyncAcquire, hp, he]
  · change execNibSideSyncAcquire n side s = _
    simp [execNibSideSyncAcquire, hp, he]
  · change execNibWrapExit n side s = _
    simp [execNibWrapExit, hp, hw, hy]
  · change execNibWrapExit n side s = _
    rcases h with h | h <;> simp [execNibWrapExit, h]
  · change execNibTimeError n s = _
    simp [execNibTimeError, hp, h]
  · change execNibTimeError n s = _
    simp [execNibTimeError, Nat.not_le.mpr h]
  · change execNibSideLoss n side s = _
    simp [execNibSideLoss, hp]
  · change execNibBrkTimer n s = _
    simp [execNibBrkTimer, hp]
  · change execNibSideSyncAcquire n side s = _
    simp [execNibSideSyncAcquire, hp]
  · change execNibWrapExit n side s = _
    simp [execNibWrapExit, hp]
  · change execNibTimeError n s = _
    simp [execNibTimeError, hp]

/-- What a fault leaves of its nib. -/
theorem State.nibFault_nib (s : State) (p : Nat) : (s.nibFault p).nib p = { s.nib p with
    levels := [], held := [], mirror := []
    state := if (s.nib p).state = nsAdmitted ∨ (s.nib p).state = nsSafe ∨ (s.nib p).state = nsBlocked then nsFault
      else (s.nib p).state } := by
  unfold State.nibFault
  simp [Nib.off]

theorem State.nibFault_aux (s : State) (p : Nat) : (s.nibFault p).aux p = { s.aux p with cur := [] } := by
  unfold State.nibFault
  simp

theorem execNibShortDetect_of_powered {s : State} {n : Fin 3072} (hp : (s.nib n).powered = true) (sw : Fin 8)
    (hard : Bool) (t : Tick) : execNibShortDetect n sw hard t s
      = match (s.aux n).short sw hard t with
        | none => .next s.silent
        | some a => .next ((s.silent.setAux n a).nibFault n) := by
  unfold execNibShortDetect
  simp only [State.nib_silent, State.aux_silent, hp]
  rfl

section
variable {a : NibAux} {sw : Nat} {hard : Bool} {t : Nat}

theorem NibAux.short_blanked (hh : hard = false) (hw : a.now t < Tab.get (fun _ => 0) a.blankEnd sw) :
    a.short sw hard t = none := by
  simp [NibAux.short, hh, hw]

theorem NibAux.short_first (hw : hard = true ∨ ¬ a.now t < Tab.get (fun _ => 0) a.blankEnd sw)
    (hs : a.shorted = false) :
    a.short sw hard t = some { a with
      sc := [BitVec.ofNat 8 (1 <<< sw)] ++ be 2 t ++
        [if (hard && (List.range 8).any fun k => decide (a.now t < Tab.get (fun _ => 0) a.blankEnd k)) = true then 1
          else 2]
      scAt := a.now t } := by
  have hn : ¬ ((!hard && decide (a.now t < Tab.get (fun _ => 0) a.blankEnd sw)) = true) := by
    rcases hw with h | h <;> simp [h]
  unfold NibAux.short
  simp only [if_neg hn, hs, apply_ite (BitVec.ofNat 8)]
  rfl

theorem NibAux.short_again (hw : hard = true ∨ ¬ a.now t < Tab.get (fun _ => 0) a.blankEnd sw) (hs : a.shorted = true) :
    a.short sw hard t = some { a with
      sc := [byteAt a.sc 0 ||| BitVec.ofNat 8 (1 <<< sw), byteAt a.sc 1, byteAt a.sc 2,
        if a.now t ≤ a.scAt + 3125 ∧ 1 < (legsOf (byteAt a.sc 0 ||| BitVec.ofNat 8 (1 <<< sw))).length then 3
        else byteAt a.sc 3] } := by
  have hn : ¬ ((!hard && decide (a.now t < Tab.get (fun _ => 0) a.blankEnd sw)) = true) := by
    rcases hw with h | h <;> simp [h]
  unfold NibAux.short
  simp [hn, hs]

end

/-- Settles O23: by the cases of a short: blanked, first, again. -/
theorem nibFaultsOpenTheSwitches : Obligations.NibFaultsOpenTheSwitches := by
  unfold Obligations.NibFaultsOpenTheSwitches
  intro s n a
  refine ⟨fun hp => ⟨fun sw hard t => ?_, ?_, ?_, ?_⟩, fun r => ?_, fun hp => ⟨fun sw hard t => ?_, fun f => ?_⟩,
    rfl, rfl, rfl⟩
  · intro now win flag flags
    refine ⟨fun hh hw => ?_, fun hw hs hk => ?_, fun hw hs hk => ?_, fun hw hs => ?_⟩
      <;> refine (execNibShortDetect_of_powered hp sw hard t).trans ?_
    · rw [NibAux.short_blanked hh hw]
    · rw [NibAux.short_first hw hs, if_pos (by simpa [win] using hk)]
    · rw [NibAux.short_first hw hs, if_neg (by simpa [win] using hk)]
    · rw [NibAux.short_again hw hs]
  · change execNibFaultDetect n .gate s = _
    simp [execNibFaultDetect, hp, a]
  · change execNibFaultDetect n .temp s = _
    simp [execNibFaultDetect, hp, a]
  · change execNibFaultDetect n .aux s = _
    simp [execNibFaultDetect, hp, a]
  · rw [State.nibFault_nib, State.nibFault_aux]
    exact ⟨rfl, rfl, rfl, rfl, rfl⟩
  · change execNibShortDetect n sw hard t s = _
    simp [execNibShortDetect, hp]
  · change execNibFaultDetect n f s = _
    simp [execNibFaultDetect, hp]

/-- The nib and its record as a target cycle starts, before a schedule is taken up. -/
def State.atTarget (s : State) (n : Nat) : State :=
  let t := (s.aux n).cyc + 1
  (s.setNib n { s.nib n with
    held := (s.nib n).held.filter (fun h => ahead h.target t)
    mirror := (s.nib n).mirror.filter (fun h => ahead h.target t) }).setAux n { s.aux n with
      cyc := t, time := (s.aux n).time.map (· + nibPs 10000000), timeBad := (s.aux n).timeBad + 1
      snaps := keepLast 4 ((s.aux n).snaps ++ [(t, nibSnap (s.nib n) (s.aux n))]), swt := [], cur := [] }

/-- The nib and its record as the schedule `g` for the cycle, `own` where it was held, governs it. -/
def State.governedBy (s : State) (n : Nat) (own : Bool) (g : Option NibSched) : State :=
  match g with
  | some h => s.nibGoverned n own h
  | none => s

/-- The edge records of the obeyed schedule `h`, at an ADMITTED nib without a bypass request. -/
def State.runs (u : State) (n : Nat) (h : NibSched) : State :=
  let run := decide ((u.nib n).state = nsAdmitted) && !(u.nib n).bypReq && !h.hold
  u.setAux n { u.aux n with
    cur := if run then h.edges else [], blank := if h.hold then (u.aux n).blank else h.blank, dirNow := h.side }

/-- Without an obeyed schedule for cycle `t`: an ADMITTED nib past its first target turns off and goes SAFE. -/
def State.exhausts (u : State) (n : Nat) (t : BitVec 48) : State :=
  let exhausted := decide ((u.nib n).state = nsAdmitted) && !(u.nib n).bypReq &&
    (match (u.aux n).first with | some f => !ahead f t | none => false)
  if exhausted then (u.nibDown n).setNib n { (u.nibDown n).nib n with state := nsSafe } else u

/-- What the start of cycle `t` makes of the schedule `g` found for it, `own` where it was held. -/
def State.runSchedule (s : State) (n : Nat) (t : BitVec 48) (own : Bool) (g : Option NibSched) : State :=
  match g.filter (·.obeyed) with
  | some h => (s.governedBy n own g).runs n h
  | none => (s.governedBy n own g).exhausts n t

theorem State.runSchedule_some {s : State} {n : Nat} {t : BitVec 48} {own : Bool} {g : Option NibSched} {h : NibSched}
    (hg : g.filter (·.obeyed) = some h) : s.runSchedule n t own g = (s.governedBy n own g).runs n h := by
  unfold State.runSchedule
  rw [hg]

theorem State.runSchedule_none {s : State} {n : Nat} {t : BitVec 48} {own : Bool} {g : Option NibSched}
    (hg : g.filter (·.obeyed) = none) : s.runSchedule n t own g = (s.governedBy n own g).exhausts n t := by
  unfold State.runSchedule
  rw [hg]

theorem execNibTargetCycleStart_of_powered {s : State} {n : Fin 3072} (hp : (s.nib n).powered = true)
    {own copy : Option NibSched} (ho : (s.nib n).held.find? (fun h => decide (h.target = (s.aux n).cyc + 1)) = own)
    (hc : (s.nib n).mirror.find? (fun h => decide (h.target = (s.aux n).cyc + 1)) = copy) :
    execNibTargetCycleStart n s = .next ((s.silent.atTarget n).runSchedule n ((s.aux n).cyc + 1) own.isSome
      (if own.isSome then own else copy)) := by
  subst ho hc
  refine (if_neg (by simp [hp])).trans ?_
  dsimp only
  split
  · rename_i hg
    exact congrArg _ (State.runSchedule_some hg).symm
  · rename_i hg
    exact congrArg _ (State.runSchedule_none hg).symm

section
variable {s : State} {n : Nat}

theorem State.atTarget_nib : (s.atTarget n).nib n = { s.nib n with
    held := (s.nib n).held.filter (fun h => ahead h.target ((s.aux n).cyc + 1))
    mirror := (s.nib n).mirror.filter (fun h => ahead h.target ((s.aux n).cyc + 1)) } := by
  simp [State.atTarget]

theorem State.atTarget_aux : ((s.atTarget n).aux n).cyc = (s.aux n).cyc + 1 ∧ ((s.atTarget n).aux n).cur = []
    ∧ ((s.atTarget n).aux n).first = (s.aux n).first := by
  simp [State.atTarget]

/-- Taking up a schedule that is the nib's own, or that asks for no bypass, leaves the nib and its cycle. -/
theorem State.nibGoverned_keeps {own : Bool} {h : NibSched} (ho : own = true ∨ h.byp = false) :
    (s.nibGoverned n own h).nib n = s.nib n ∧ ((s.nibGoverned n own h).aux n).cyc = (s.aux n).cyc := by
  unfold State.nibGoverned
  rcases ho with ho | ho
  · simp [ho]
  · cases own <;> simp [ho]

/-- An obeyed schedule runs its edge records at an ADMITTED nib without a bypass request. -/
theorem State.runSchedule_of_obeyed {t : BitVec 48} {own : Bool} {h : NibSched} (ha : (s.nib n).state = nsAdmitted)
    (hb : (s.nib n).bypReq = false) (ho : h.obeyed = true) (hown : own = true ∨ h.byp = false) :
    (s.runSchedule n t own (some h)).nib n = s.nib n
    ∧ ((s.runSchedule n t own (some h)).aux n).cur = (if h.hold then [] else h.edges)
    ∧ ((s.runSchedule n t own (some h)).aux n).cyc = (s.aux n).cyc := by
  obtain ⟨hn, hc⟩ := State.nibGoverned_keeps (s := s) (n := n) hown
  rw [State.runSchedule_some (h := h) (by simp [ho])]
  simp only [State.runs, State.governedBy, hn, ha, hb, State.setAux_nib, State.setAux_aux, hc]
  cases h.hold <;> simp

end

section
variable {s : State} {n : Nat}

/-- Without a schedule an ADMITTED nib past its first target turns off and goes SAFE. -/
theorem State.runSchedule_of_exhausted {t f : BitVec 48} {own : Bool} (ha : (s.nib n).state = nsAdmitted)
    (hb : (s.nib n).bypReq = false) (hf : (s.aux n).first = some f) (hr : ahead f t = false) :
    s.runSchedule n t own none = (s.nibDown n).setNib n { (s.nibDown n).nib n with state := nsSafe } := by
  rw [State.runSchedule_none (by simp)]
  simp [State.exhausts, State.governedBy, ha, hb, hf, hr]

theorem State.runSchedule_of_waiting {t : BitVec 48} {own : Bool}
    (hf : (s.aux n).first = none ∨ ∃ f, (s.aux n).first = some f ∧ ahead f t = true) :
    s.runSchedule n t own none = s := by
  rw [State.runSchedule_none (by simp)]
  rcases hf with hf | ⟨f, hf, hr⟩ <;> simp [State.exhausts, State.governedBy, *]

end

/-- Settles O24: the schedule found for the cycle is obeyed, or there is none. -/
theorem nibRunsItsScheduleOrGoesSafe : Obligations.NibRunsItsScheduleOrGoesSafe := by
  unfold Obligations.NibRunsItsScheduleOrGoesSafe
  intro s n now own copy
  obtain ⟨hcyc, hcur, hfirst⟩ := State.atTarget_aux (s := s.silent) (n := n)
  have hnib := State.atTarget_nib (s := s.silent) (n := n)
  refine ⟨fun hp ha hb => ⟨fun h hh ho => ?_, fun ho hc f hf hr => ?_, fun ho hc hf => ?_⟩, fun hp => ?_,
    fun began lasted hc => ?_, fun e es began lasted hc => ⟨fun ha hb => ?_, fun h => ?_⟩⟩
  · have hg : (if own.isSome then own else copy) = some h ∧ (own.isSome = true ∨ h.byp = false) := by
      rcases hh with hh | ⟨hh, hcopy, hbyp⟩ <;> simp [*]
    obtain ⟨hg, hown⟩ := hg
    obtain ⟨rn, rc, ry⟩ := State.runSchedule_of_obeyed (s := s.silent.atTarget n) (n := n) (t := now) (own := own.isSome)
      (by rw [hnib]; exact ha) (by rw [hnib]; exact hb) ho hown
    refine ⟨_, (execNibTargetCycleStart_of_powered hp rfl rfl).trans (congrArg _ (congrArg _ hg)), rc, ry.trans hcyc,
      ?_, ?_, ?_, ?_⟩
    all_goals rw [rn, hnib]
    · exact rfl
    · exact ha
    · exact fun x hx => (List.mem_filter.mp hx).2
    · exact fun x hx => (List.mem_filter.mp hx).2
  · refine ⟨_, (execNibTargetCycleStart_of_powered hp ho hc).trans (congrArg _ (State.runSchedule_of_exhausted
      (by rw [hnib]; exact ha) (by rw [hnib]; exact hb) (hfirst.trans hf) hr)), ?_⟩
    simp [Nib.off, hcyc, now]
  · refine ⟨_, (execNibTargetCycleStart_of_powered hp ho hc).trans (congrArg _ (State.runSchedule_of_waiting
      (by rw [hfirst]; exact hf))), by rw [hnib]; exact ha, by rw [hnib]; rfl, hcur, hcyc⟩
  · exact if_pos (by simp [hp])
  · change execNibEdgeExecute n ⟨began, lasted⟩ s = _
    simp [execNibEdgeExecute, hc]
  · change execNibEdgeExecute n ⟨began, lasted⟩ s = _
    simp [execNibEdgeExecute, hc, ha, hb]
  · change execNibEdgeExecute n ⟨began, lasted⟩ s = _
    simp [execNibEdgeExecute, hc, h]

/-- `y` differs from the nib `x` in its sides alone, and in a side only by what a header counts there. -/
structure Nib.SameButSides (x y : Nib) : Prop where
  state : y.state = x.state
  pos : y.pos = x.pos
  levels : y.levels = x.levels
  held : y.held = x.held
  mirror : y.mirror = x.mirror
  wrap : ∀ k, (y.side k).wrap = (x.side k).wrap

theorem NibSide.header_wrap (x : NibSide) (corr : Nat) : (x.header corr).wrap = x.wrap := by
  unfold NibSide.header
  split
  · rfl
  · split <;> rfl

theorem Nib.setSide_sameButSides (x : Nib) (k : Nat) {y : NibSide} (h : y.wrap = (x.side k).wrap) :
    x.SameButSides (x.setSide k y) := by
  unfold Nib.setSide Nib.side at *
  split <;> rename_i hk <;> simp only [hk, if_true, if_false] at h <;> refine ⟨rfl, rfl, rfl, rfl, rfl, fun j => ?_⟩
    <;> by_cases hj : j = 0 <;> simp [Nib.side, hj, h]

theorem Nib.SameButSides.outward {x y : Nib} (h : x.SameButSides y) (k : Nat) (hdr : List Byte) :
    y.outward k hdr = x.outward k hdr := by
  unfold Nib.outward
  rw [h.wrap]

theorem NibAux.estimate_sent (a : NibAux) (c : BitVec 48) (e : Int) : (a.estimate c e).sent = a.sent := by
  unfold NibAux.estimate
  dsimp only
  split
  · split <;> rfl
  · rfl

theorem State.nibPlace_same {s : State} {p hops : Nat} (h : (s.nib p).pos = some hops) : s.nibPlace p hops = s :=
  if_pos h

theorem State.nibPlace_other {s : State} {p hops : Nat} (h : (s.nib p).pos ≠ some hops) :
    (s.nibPlace p hops).nib p = { s.nib p with
      pos := some hops, epoch := 0, state := nsNumbered, held := [], mirror := [], armed := false, levels := [] }
    ∧ ((s.nibPlace p hops).aux p).sent = (s.aux p).sent := by
  unfold State.nibPlace
  simp [h, Nib.off]

/-- What a sound header leaves: the nib as it was but for its sides, or renumbered. -/
theorem State.nibHeader_cases (s : State) (p : Nat) (v : StrokePass) :
    ∃ u, (s.nib p).SameButSides (u.nib p) ∧ (u.aux p).sent = (s.aux p).sent ∧ s.nibHeader p v =
      if (s.nib p).outward v.side v.hdr = true ∧ hdrDir v.hdr = 0 then u.nibPlace p (hdrHops v.hdr) else u := by
  refine ⟨_, ?_, ?_, rfl⟩
  · rw [State.setAux_nib, State.setNib_nib]
    exact Nib.setSide_sameButSides _ _ (NibSide.header_wrap ..)
  · rw [State.setAux_aux]
    split
    · exact NibAux.estimate_sent ..
    · rfl

/-- What a nib fills its slot with: nothing inward, at or beyond SLOTS, or without a position. -/
theorem State.nibFill_nib (s : State) (p : Nat) (v : StrokePass) (j : Nat) : (s.nibFill p v).1.nib j = s.nib j := by
  unfold State.nibFill
  dsimp only
  split
  · rfl
  · split <;> rfl

theorem State.nibFill_empty {s : State} {p q : Nat} {v : StrokePass} (hq : (s.nib p).pos = some q)
    (h : (s.nib p).outward v.side v.hdr = false ∨ hdrSlots v.hdr ≤ q) : (s.nibFill p v).2 = [] := by
  unfold State.nibFill
  simp only [hq]
  rw [if_pos (by rcases h with h | h <;> simp [h])]

theorem slotSent_length {b : List Byte} (h : b.length = 38) (dir : Nat) : (slotSent b dir).length = 40 := by
  simp [slotSent, h, be]

theorem padTo_length (n : Nat) (l : List Byte) : (padTo n l).length = n := by simp [padTo]

theorem nibBody_length (n : Nib) (a : NibAux) (c : BitVec 48) (meas ext : List Byte) (health : Nat) :
    (nibBody n a c meas ext health).length = 38 := by
  exact padTo_length ..

/-- In the first pass of a cycle outward below SLOTS the slot has its 40 bytes. -/
theorem State.nibFill_length {s : State} {p q : Nat} {v : StrokePass} (hq : (s.nib p).pos = some q)
    (ho : (s.nib p).outward v.side v.hdr = true) (hl : q < hdrSlots v.hdr)
    (hs : ∀ y ∈ (s.aux p).sent, y.1 ≠ hdrCycle v.hdr) : (s.nibFill p v).2.length = 40 := by
  have hb : (s.aux p).bodyFor (s.nib p) (hdrCycle v.hdr) v.meas v.ext v.health
      = nibBody (s.nib p) (s.aux p) (hdrCycle v.hdr) v.meas v.ext v.health := by
    unfold NibAux.bodyFor
    rw [List.find?_eq_none.mpr (by simpa using hs)]
  unfold State.nibFill
  simp only [hq]
  rw [if_neg (by simp [ho, hl])]
  dsimp only
  rw [hb]
  exact slotSent_length (nibBody_length ..) _

theorem getLast?_nibSend {s : State} {p out : Nat} {o : Output} (h : (s.nib p).state ≠ nsLoopback) :
    (s.nibSend p out o).out.getLast? = some o := by
  simp [State.nibSend, h]

/-- Settles O25: a sound header leaves the nib as it was but for its sides, or renumbered. -/
theorem aStrokePassesTheNibWithItsSlot : Obligations.AStrokePassesTheNibWithItsSlot := by
  unfold Obligations.AStrokePassesTheNibWithItsSlot
  intro s n v hp hs hl ht hk hb
  have hok : (hdrOk v.hdr && v.bad.all fun i => decide (32 ≤ i)) = true := by simpa [hk] using hb
  let m := s.silent.nibHeader n v
  let r := m.nibFill n v
  let place := slotPlace (hdrSlots v.hdr) (((r.1.nib n).pos).getD 0)
  let o : Output := .nibStroke n ((s.nib n).outSide v.side) (forwardHdr v.hdr v.res true) (forwardBody v.body r.2 place)
    (errPlaces v.bad r.2 place)
  have he : exec (.nibStrokePass n v) s = .next (r.1.nibSend n ((s.nib n).outSide v.side) o) := by
    change execNibStrokePass n v s = _
    have echo : s.silent.nibEcho n v.side (.nibStroke n 0 v.hdr v.body v.bad) = s.silent := by
      simp [State.nibEcho, hl]
    unfold execNibStrokePass
    simp only [State.nib_silent, hp, hs, echo, ht, hok]
    rfl
  have hr (j : Nat) : r.1.nib j = m.nib j := State.nibFill_nib ..
  obtain ⟨u, hu, hsent, hm⟩ := s.silent.nibHeader_cases n v
  simp only [State.nib_silent, State.aux_silent] at hu hsent hm
  have hm : m = if (s.nib n).outward v.side v.hdr = true
    ∧ hdrDir v.hdr = 0 then u.nibPlace n (hdrHops v.hdr) else u := hm
  have same (hpos : (s.nib n).pos = some (hdrHops v.hdr)) : m = u := by
    rw [hm, State.nibPlace_same (hu.pos.trans hpos), ite_self]
  have hstate : (m.nib n).state ≠ nsLoopback := by
    by_cases hpos : (s.nib n).pos = some (hdrHops v.hdr)
    · rw [same hpos, hu.state]
      exact hl
    · rw [hm]
      split
      · rw [(State.nibPlace_other (by rwa [hu.pos])).1]
        exact (by decide : nsNumbered ≠ nsLoopback)
      · rw [hu.state]
        exact hl
  refine ⟨r.1.nibSend n ((s.nib n).outSide v.side) o, r.2, he, ?_, fun hpos => ?_, fun ho hd hpos => ?_⟩
  · simp only [State.nibSend_nib]
    exact getLast?_nibSend (by rw [hr]; exact hstate)
  · have hq : (m.nib n).pos = some (hdrHops v.hdr) := by rw [same hpos, hu.pos, hpos]
    have hout : (m.nib n).outward v.side v.hdr = (s.nib n).outward v.side v.hdr := by rw [same hpos, hu.outward]
    simp only [State.nibSend_nib, hr]
    refine ⟨by rw [same hpos, hu.levels], by rw [same hpos, hu.state], by rw [same hpos, hu.held],
      by rw [same hpos, hu.mirror], by rw [same hpos, hu.pos], fun ho hlt hfirst => ?_, fun h => ?_⟩
    · exact State.nibFill_length hq (hout.trans ho) hlt (by rw [same hpos, hsent]; exact hfirst)
    · exact State.nibFill_empty hq (by rwa [hout])
  · simp only [State.nibSend_nib, hr]
    rw [hm, if_pos ⟨ho, hd⟩, (State.nibPlace_other (by rwa [hu.pos])).1]
    exact ⟨rfl, rfl, rfl, rfl, rfl, rfl, rfl⟩

/-- `t` has sent all that `s` has, and perhaps more. -/
def State.SendsOn (s t : State) : Prop := s.out <+: t.out

theorem State.nibSend_sendsOn (s : State) (p out : Nat) (o : Output) : s.SendsOn (s.nibSend p out o) := by
  unfold State.nibSend
  split
  · exact List.prefix_rfl
  · exact List.prefix_append ..

theorem State.nibDown_sendsOn (s : State) (p : Nat) : s.SendsOn (s.nibDown p) := by
  unfold State.nibDown
  dsimp only
  split
  · exact List.prefix_append ..
  · exact List.prefix_rfl

theorem State.nibPlace_sendsOn (s : State) (p hops : Nat) : s.SendsOn (s.nibPlace p hops) := by
  unfold State.nibPlace
  split
  · exact List.prefix_rfl
  · exact State.nibDown_sendsOn s p

theorem State.nibHeader_sendsOn (s : State) (p : Nat) (v : StrokePass) : s.SendsOn (s.nibHeader p v) := by
  have placed (u : State) (hu : u.out = s.out) : s.SendsOn (u.nibPlace p (hdrHops v.hdr)) := by
    rw [State.SendsOn, ← hu]
    exact u.nibPlace_sendsOn p (hdrHops v.hdr)
  unfold State.nibHeader
  dsimp only
  split
  · exact placed _ rfl
  · exact List.prefix_rfl

theorem State.nibFill_out (s : State) (p : Nat) (v : StrokePass) : (s.nibFill p v).1.out = s.out := by
  unfold State.nibFill
  dsimp only
  split
  · rfl
  · split <;> rfl

theorem State.SendsOn.head? {s t : State} (h : s.SendsOn t) {o : Output} (ho : s.out = [o]) : t.out.head? = some o := by
  obtain ⟨l, hl⟩ := h
  rw [← hl, ho]
  rfl

/-- A stroke that arrives on the low side in LOOPBACK is sent back first. -/
theorem execNibStrokePass_loopback {s : State} {n : Fin 3072} {v : StrokePass} (hp : (s.nib n).powered = true)
    (hs : ((s.nib n).side v.side).sync = true) (hl : (s.nib n).state = nsLoopback) (hv : v.side = 0) :
    ∃ t, execNibStrokePass n v s = .next t ∧ (s.silent.emit (.nibStroke n 0 v.hdr v.body v.bad)).SendsOn t := by
  have echo : s.silent.nibEcho n v.side (.nibStroke n 0 v.hdr v.body v.bad)
      = s.silent.emit (.nibStroke n 0 v.hdr v.body v.bad) := by simp [State.nibEcho, hl, hv]
  unfold execNibStrokePass
  simp only [State.nib_silent, hp, hs, echo]
  rw [if_neg (by simp)]
  split
  · exact ⟨_, rfl, State.nibSend_sendsOn ..⟩
  · split
    · exact ⟨_, rfl, State.nibSend_sendsOn ..⟩
    · refine ⟨_, rfl, (State.nibHeader_sendsOn _ n v).trans ?_⟩
      rw [← State.nibFill_out _ n v]
      exact State.nibSend_sendsOn ..

/-- A segment that is judged: of a sound type 1 header at a powered nib, and not empty. -/
theorem execNibSegmentReceive_of_judged {s : State} {n : Fin 3072} {hdr seg : List Byte} {err : Bool} (side : Fin 2)
    (tS : Nat) (hp : (s.nib n).powered = true) (hk : hdrOk hdr = true) (ht : hdrType hdr = 1)
    (he : segEmpty seg = false ∨ err = true) :
    execNibSegmentReceive n side hdr seg err tS s =
      if segSound (s.nib n).typ ((s.nib n).levelsAt (s.aux n).cur (s.aux n).cyc (segTarget (hdrCycle hdr) seg)) seg err
          = false then .next (s.silent.setAux n ((s.aux n).reject (hdrCycle hdr)))
      else if hdrAct hdr = true ∧ segAct seg = true then
        .next (s.silent.nibTake n side (hdrDir hdr) (hdrCycle hdr) seg true tS)
      else if hdrRly hdr = true ∧ segAct seg = false then
        .next (s.silent.nibTake n side (hdrDir hdr) (hdrCycle hdr) seg false tS)
      else .next s.silent := by
  have hn : (segEmpty seg && !err) = false := by rcases he with he | he <;> simp [he]
  simp [execNibSegmentReceive, hp, hk, ht, hn]

/-- Settles O26: what is judged of a segment, and what is sent back first in LOOPBACK. -/
theorem strokesAndLoopbackAtANib : Obligations.StrokesAndLoopbackAtANib := by
  unfold Obligations.StrokesAndLoopbackAtANib
  intro s n side
  refine ⟨fun v => ⟨fun hp hs => ⟨fun hl ht => ?_, fun hl ht hk => ?_, fun hl hv => ?_⟩, fun h => ?_⟩,
    fun hdr seg err tS => ⟨fun hp hk ht he => ⟨fun hs => ?_, fun hs h1 h2 => ?_, fun hs h1 h2 => ?_,
      fun hs h1 h2 => ?_⟩,
      fun h => ?_⟩, fun p m ok => ⟨fun hp h => ?_, fun hp hok hpos => ⟨fun hm ha => ?_, fun hm hl => ?_,
      fun h1 h0 => ?_⟩, fun hp => ?_⟩⟩
  · change execNibStrokePass n v s = _
    simp [execNibStrokePass, hp, hs, ht, State.nibEcho, State.nibSend, hl]
  · change execNibStrokePass n v s = _
    have hok : (hdrOk v.hdr && v.bad.all fun i => decide (32 ≤ i)) = false := by
      rcases hk with hk | ⟨i, hi, hlt⟩
      · simp [hk]
      · simp only [Bool.and_eq_false_iff, List.all_eq_false, decide_eq_true_eq]
        exact .inr ⟨i, hi, by omega⟩
    simp [execNibStrokePass, hp, hs, ht, State.nibEcho, State.nibSend, hl, hok]
  · obtain ⟨t, ht, hsend⟩ := execNibStrokePass_loopback hp hs hl hv
    exact ⟨t, ht, hsend.head? rfl⟩
  · change execNibStrokePass n v s = _
    rcases h with h | h <;> simp [execNibStrokePass, h]
  · exact (execNibSegmentReceive_of_judged side tS hp hk ht he).trans (if_pos hs)
  · exact (execNibSegmentReceive_of_judged side tS hp hk ht he).trans
      ((if_neg (by simp [hs])).trans (if_pos ⟨h1, h2⟩))
  · exact (execNibSegmentReceive_of_judged side tS hp hk ht he).trans
      ((if_neg (by simp [hs])).trans ((if_neg (by simp [h2])).trans (if_pos ⟨h1, h2⟩)))
  · exact (execNibSegmentReceive_of_judged side tS hp hk ht he).trans ((if_neg (by simp [hs])).trans
      ((if_neg (by rcases h1 with h | h <;> simp [h])).trans (if_neg (by rcases h2 with h | h <;> simp [h]))))
  · change execNibSegmentReceive n side hdr seg err tS s = _
    exact if_pos (by rcases h with h | h | h | ⟨h, h'⟩ <;> simp [*])
  · change execLbk n side ⟨p, m⟩ ok s = _
    exact (if_neg (by simp [hp])).trans (if_pos (by simpa using h))
  · change execLbk n side ⟨p, m⟩ ok s = _
    simp [execLbk, hp, hok, hpos, hm, ha]
  · change execLbk n side ⟨p, m⟩ ok s = _
    simp [execLbk, hp, hok, hpos, hm, hl]
  · change execLbk n side ⟨p, m⟩ ok s = _
    have n1 : ¬ (m = 1 ∧ (s.nib n).state ≠ nsAdmitted) := fun k => h1.elim (· k.1) k.2
    have n0 : ¬ (m = 0 ∧ (s.nib n).state = nsLoopback) := fun k => h0.elim (· k.1) (· k.2)
    exact (if_neg (by simp [hp])).trans ((if_neg (by simp [hok, hpos])).trans ((if_neg n1).trans (if_neg n0)))
  · change execLbk n side ⟨p, m⟩ ok s = _
    simp [execLbk, hp]

end Sys2Proof.Machine
end


section
/-! PROOFS. The Ductus, the scheduler, the thermal step, the wear journal and the strokes: O27 to O31. -/

namespace Sys2Proof.Machine

open Sys2Proof.Machine

/-! ## The Ductus -/

/-- What building a step leaves alone: the registers, the cycle number and the note of the latch. -/
structure State.LatchKeeps (s t : State) : Prop where
  regs : t.regs = s.regs
  cycle : t.cycle = s.cycle
  latchAt : t.duct.latchAt = s.duct.latchAt

namespace State.LatchKeeps

variable {s t u : State}

theorem refl (s : State) : s.LatchKeeps s := ⟨rfl, rfl, rfl⟩

theorem trans (h : s.LatchKeeps t) (k : t.LatchKeeps u) : s.LatchKeeps u :=
  ⟨k.regs.trans h.regs, k.cycle.trans h.cycle, k.latchAt.trans h.latchAt⟩

theorem ite {c : Prop} [Decidable c] (ht : s.LatchKeeps t) (hu : s.LatchKeeps u) :
    s.LatchKeeps (if c then t else u) := by
  split
  · exact ht
  · exact hu

theorem foldl {α : Type} {f : State → α → State} (h : ∀ (s : State) (x : α), s.LatchKeeps (f s x)) (l : List α)
    (s : State) : s.LatchKeeps (l.foldl f s) := by
  induction l generalizing s with
  | nil => exact .refl s
  | cons x l ih => exact (h s x).trans (ih _)

theorem of_reach (h : s.EventReach t) : s.LatchKeeps t := ⟨h.regs, h.cycle, by rw [h.duct]⟩

theorem raise (h : s.LatchKeeps t) (code inst : Nat) (detail : Word) (n : Nat) :
    s.LatchKeeps (t.raise code inst detail n) := h.trans (.of_reach (State.raise_reach ..))

end State.LatchKeeps

theorem State.takeCodes_latchKeeps (s : State) (follow : Bool) (cs : List CodeChange) :
    s.LatchKeeps (s.takeCodes follow cs) := by
  refine .foldl (fun u x => ?_) cs s
  exact ⟨rfl, rfl, rfl⟩

theorem State.countLegs_latchKeeps (s : State) (k drops stretches : Nat) :
    s.LatchKeeps (s.countLegs k drops stretches) := by
  have set (d : DStack) : s.LatchKeeps (s.setDstack k d) := ⟨rfl, rfl, rfl⟩
  exact ((set _).trans (.of_reach (State.satEvent_reach ..))).trans (.of_reach (State.satEvent_reach ..))

theorem State.segFail_latchKeeps (s : State) (k ci : Nat) (f : Nat × Nat) (blk : List Byte) :
    s.LatchKeeps (s.segFail k ci f blk) := by
  have set (d : Duct) : s.LatchKeeps (s.setDcell ci d) := ⟨rfl, rfl, rfl⟩
  unfold State.segFail
  extract_lets _ d s1 _ s2
  have h1 : s.LatchKeeps s1 := set _
  have h2 : s.LatchKeeps s2 := .ite h1 (h1.trans ⟨rfl, rfl, rfl⟩)
  exact h2.raise _ _ _ _

theorem State.buildBlocked_latchKeeps (s : State) (k T ci : Nat) (mgmt : List Byte) :
    s.LatchKeeps (s.buildBlocked k T ci mgmt) := by
  unfold State.buildBlocked
  dsimp only
  split <;> exact ⟨rfl, rfl, rfl⟩

theorem State.buildCell_latchKeeps (s : State) (c : StkCfg) (k typ T ci : Nat) (job : CellJob)
    (bad : Option (Nat × Nat)) : s.LatchKeeps (s.buildCell c k typ T ci job bad) := by
  unfold State.buildCell
  extract_lets _ d cell out b hold recs mgmt fl full cyc blank soft epoch cmd mk free ck bt _ s1 _ s2 s3 s4
  have h1 : s.LatchKeeps s1 := ⟨rfl, rfl, rfl⟩
  have h2 : s.LatchKeeps s2 := .ite h1 (h1.trans ⟨rfl, rfl, rfl⟩)
  have h3 : s.LatchKeeps s3 := h2.trans (State.countLegs_latchKeeps ..)
  have h4 : s.LatchKeeps s4 := .ite (h3.raise ..) h3
  split
  · exact h4
  · exact h4.trans (State.segFail_latchKeeps ..)

theorem State.stackWants_latchKeeps (s : State) (c : StkCfg) (k T : Nat) (run : Bool) (ps : List Piece)
    (x : StackIn) : s.LatchKeeps (s.stackWants c k T run ps x).1 := by
  have set (d : DStack) : s.LatchKeeps (s.setDstack k d) := ⟨rfl, rfl, rfl⟩
  unfold State.stackWants
  dsimp only
  split
  · exact .refl s
  · split
    · split
      · exact set _
      · exact (set _).trans (.of_reach (State.judge_reach ..))
    · split <;> exact .refl s

theorem State.buildStack_latchKeeps (s : State) (j : Nat) (inp : StepIn) (bad : Nat → Option (Nat × Nat))
    (k : Nat) : s.LatchKeeps (s.buildStack j inp bad k) := by
  have set (u : State) (d : DStack) : u.LatchKeeps (u.setDstack k d) := ⟨rfl, rfl, rfl⟩
  unfold State.buildStack
  extract_lets T c typ d run x blocked d1 stop d2 d3 p _ s1 w _ s2 wants s3 s4
  have h2 : s.LatchKeeps s2 := (set s _).trans ((State.stackWants_latchKeeps ..).trans (set _ _))
  have h3 : s.LatchKeeps s3 := h2.trans (.foldl (fun u ci => State.buildCell_latchKeeps ..) _ _)
  have h4 : s.LatchKeeps s4 := h3.trans (.foldl (fun u ci => State.buildBlocked_latchKeeps ..) _ _)
  exact .ite (h4.trans (.of_reach (State.clear_reach ..))) h4

theorem State.buildStep_latchKeeps (s : State) (j : Nat) (inp : StepIn) (bad : Nat → Option (Nat × Nat)) :
    s.LatchKeeps (s.buildStep j inp bad) := .foldl (fun _ _ => State.buildStack_latchKeeps ..) _ _

theorem State.emptySegs_latchKeeps (s : State) : s.LatchKeeps s.emptySegs := ⟨rfl, rfl, rfl⟩

theorem State.followStep_latchKeeps (s : State) (bad : Nat → Option (Nat × Nat)) (back : Nat) (x : StepIn) :
    s.LatchKeeps (s.followStep bad back x) := by
  have drop (sh : Shadow) : s.LatchKeeps { s with shadow := sh } := ⟨rfl, rfl, rfl⟩
  exact (drop _).trans ((State.takeCodes_latchKeeps ..).trans (State.buildStep_latchKeeps ..))

theorem State.followUp_latchKeeps (s : State) (bad : Nat → Option (Nat × Nat)) : s.LatchKeeps (s.followUp bad) := by
  unfold State.followUp
  extract_lets lag r r1 _ _ s1
  have first : s.LatchKeeps r.1 := by
    dsimp only [r]
    split
    · exact State.followStep_latchKeeps ..
    · exact .refl s
  have second : s.LatchKeeps r1.1 := by
    dsimp only [r1]
    split
    · exact first
    · split
      · exact first.trans (State.followStep_latchKeeps ..)
      · exact first
  have noted : s.LatchKeeps s1 := second.trans ⟨rfl, rfl, rfl⟩
  exact .ite noted (noted.trans (State.emptySegs_latchKeeps _))

/-- What the latch leaves: the step's own inputs kept, and the code changes taken into them. -/
structure State.LatchDone (s t : State) : Prop extends s.LatchKeeps t where
  own : (t.duct.own.map fun o => o.cycle) = some (s.cycle.setWidth 48)
  codes : t.sup.codes = []

theorem State.keepOwn_latchDone {s u : State} (x : StepIn) (holder : Bool) (h : s.LatchKeeps u)
    (hx : x.cycle = s.cycle.setWidth 48) : s.LatchDone (u.keepOwn x holder) :=
  ⟨h.trans ⟨rfl, rfl, rfl⟩, congrArg some hx, rfl⟩

theorem State.standbyLatch_latchDone (s : State) (bad : Nat → Option (Nat × Nat)) :
    s.LatchDone (s.standbyLatch bad) :=
  State.keepOwn_latchDone _ _ (.ite (.refl s) (.ite (State.followUp_latchKeeps ..) (State.emptySegs_latchKeeps s))) rfl

/-- A latch that is not the cycle's second one notes its cycle, and builds its step in the way of its side. -/
theorem execDuctusLatch_done (bad : List (Fin 3072 × Fin 4 × Fin 10)) (s : State) (hp : s.sys.powered = true)
    (hl : s.duct.latchAt ≠ s.mono + 1) :
    ∃ t, execDuctusLatch bad s = .next t
      ∧ ({ s.silent with duct := { s.duct with latchAt := s.mono + 1 } } : State).LatchDone t := by
  unfold execDuctusLatch
  extract_lets s0 _ s1 b s2 own s3 own'
  have built (u : State) (f : Bool) (cs : List CodeChange) (n : Nat) (x : StepIn) :
      u.LatchKeeps ((u.takeCodes f cs).buildStep n x b) :=
    (State.takeCodes_latchKeeps ..).trans (State.buildStep_latchKeeps ..)
  have hn : ¬ ((!s0.sys.powered) = true ∨ s0.duct.latchAt = s0.mono + 1) := by
    rintro (h | h)
    · rw [show s0.sys.powered = true from hp] at h
      cases h
    · exact hl h
  rw [if_neg hn]
  have held : s1.LatchKeeps s2 := by
    dsimp only [s2]
    split
    · exact .refl s1
    · split
      · exact built ..
      · exact State.emptySegs_latchKeeps s1
  split
  · exact ⟨_, rfl, State.standbyLatch_latchDone ..⟩
  · split
    · refine ⟨_, rfl, State.keepOwn_latchDone _ _ ?_ ?_⟩
      · exact .ite (held.trans (built ..)) held
      · exact congrArg (BitVec.setWidth 48) held.cycle
    · exact ⟨_, rfl, State.keepOwn_latchDone _ _ (built ..) rfl⟩

theorem State.takeLoad_facts (s : State) (k : Fin 16) (l : GenLoad) :
    ((s.takeLoad k l).duct.stks = (s.setDstack k { s.dstack k with
        live := l.set, lastLoad := l.how, clamp := if l.did then l.clamp else (s.dstack k).clamp,
        loads := (s.dstack k).loads.drop 1 }).duct.stks)
      ∧ (s.takeLoad k l).regs = s.regs ∧ (s.takeLoad k l).lanes = s.lanes := by
  unfold State.takeLoad
  extract_lets d t s1 s2
  split
  · exact ⟨rfl, rfl, rfl⟩
  · split
    · have r := State.clear_reach s1 0x0501 k t
      exact ⟨congrArg _ r.duct, r.regs, r.lanes⟩
    · have r := State.raise_reach s1 0x0501 k (BitVec.ofNat 32 l.clamp) t
      have stks : s2.duct.stks = s1.duct.stks := congrArg Ductus.stks r.duct
      split
      · exact ⟨stks, r.regs, r.lanes⟩
      · exact ⟨stks, r.regs, r.lanes⟩

theorem execGeneratorLoad_of_cons {s : State} {k : Fin 16} {l : GenLoad} {ls : List GenLoad}
    (h : (s.dstack k).loads = l :: ls) :
    execGeneratorLoad k s = .next (if l.tick / 62500 ≤ s.mono then s.silent.takeLoad k l else s.silent) := by
  simp [execGeneratorLoad, h]
  rfl

/-- Settles O27: a load takes the first set to the live one and leaves what `State.takeLoad` does not name; the
latch notes its cycle first, every build keeps that note, the registers and the cycle, and the step's own inputs are
kept last. -/
theorem generatorLoadsAndTheDuctusLatch : Obligations.GeneratorLoadsAndTheDuctusLatch := by
  unfold Obligations.GeneratorLoadsAndTheDuctusLatch
  refine ⟨fun s k l ls hl => ⟨fun hd => ?_, fun hd => ?_⟩, fun s k hl => ?_, fun s bad => ⟨fun hp hl => ?_,
    fun h => ?_⟩⟩
  · obtain ⟨stks, regs, lanes⟩ := s.silent.takeLoad_facts k l
    have stack (j : Nat) : (s.silent.takeLoad k l).dstack j = _ := congrArg (Tab.get (fun _ => DStack.init) · j) stks
    refine ⟨_, (execGeneratorLoad_of_cons hl).trans (congrArg _ (if_pos hd)), ?_, ?_, ?_, fun j hj => ?_, regs, lanes⟩
    · exact congrArg DStack.live ((stack k).trans (State.setDstack_dstack ..))
    · exact congrArg DStack.lastLoad ((stack k).trans (State.setDstack_dstack ..))
    · refine (congrArg DStack.loads ((stack k).trans (State.setDstack_dstack ..))).trans ?_
      simp [hl]
    · exact (stack j).trans (State.setDstack_dstack_ne _ _ _ _ hj)
  · exact (execGeneratorLoad_of_cons hl).trans (congrArg _ (if_neg (by omega)))
  · change execGeneratorLoad k s = _
    simp [execGeneratorLoad, hl]
  · obtain ⟨t, ht, done⟩ := execDuctusLatch_done bad s hp hl
    exact ⟨t, ht, done.latchAt, done.own, done.codes, done.regs, done.cycle⟩
  · exact if_pos (h.imp (fun h => by simp [h]) id)

/-! ## The scheduler -/

/-- The governor's two events after its step from level `old` to level `new`. -/
def State.governEvents (s : State) (old new : Nat) : State :=
  let u := if new = 1 ∧ old ≠ 1 then s.raise 0x060A 0 0 0 else if new = 0 then s.clear 0x060A 0 0 else s
  if new = 2 ∧ old ≠ 2 then u.raise 0x060B 0 0 0 else if new ≠ 2 then u.clear 0x060B 0 0 else u

theorem State.governEvents_reach (s : State) (old new : Nat) : s.EventReach (s.governEvents old new) := by
  unfold State.governEvents
  extract_lets u
  have hu : s.EventReach u := ite_reach (State.raise_reach ..) (ite_reach (State.clear_reach ..) (.refl s))
  exact ite_reach (hu.trans (State.raise_reach ..)) (ite_reach (hu.trans (State.clear_reach ..)) hu)

theorem State.governEvents_amber (s : State) {old : Nat} (h : old ≠ 1) :
    (s.governEvents old 1).isActive 0x060A 0 = true := by
  simp [State.governEvents, h, State.clear_isActive]
  exact s.raise_isActive 0 0 0 (by decide)

theorem State.governEvents_red (s : State) {old : Nat} (h : old ≠ 2) :
    (s.governEvents old 2).isActive 0x060B 0 = true := by
  simp [State.governEvents, h]
  exact s.raise_isActive 0 0 0 (by decide)

theorem State.governEvents_none (s : State) (old : Nat) :
    (s.governEvents old 0).isActive 0x060A 0 = false ∧ (s.governEvents old 0).isActive 0x060B 0 = false := by
  simp [State.governEvents, State.clear_isActive]

/-- Settles O28: the posting is its fold; the governor's events are those of its new level, and its bands follow
from the three cases of the level before. -/
theorem schedulerPostsAndGovernorRanks : Obligations.SchedulerPostsAndGovernorRanks := by
  unfold Obligations.SchedulerPostsAndGovernorRanks
  refine ⟨⟨fun _ _ => rfl, fun s die => ?_⟩, fun old die amber red h2 hr => ?_⟩
  · intro w new
    let u : State := { s.silent with sched := { s.sched with govLevel := new, dieT := die } }
    have reach := u.governEvents_reach s.sched.govLevel new
    refine ⟨u.governEvents s.sched.govLevel new, rfl, ?_, ?_, fun h1 ho => ?_, fun h2 ho => ?_, fun h0 => ?_,
      reach.regs, reach.lanes⟩
    · rw [reach.sched]
    · rw [reach.sched]
    · rw [h1]
      exact u.governEvents_amber ho
    · rw [h2]
      exact u.governEvents_red ho
    · rw [h0]
      exact u.governEvents_none _
  · unfold govNext
    have cases : old = 0 ∨ old = 1 ∨ old = 2 := by omega
    rcases cases with rfl | rfl | rfl
    all_goals
      simp only [reduceIte, Nat.one_ne_zero, (by decide : (2 : Nat) ≠ 0), (by decide : (2 : Nat) ≠ 1)]
      refine ⟨fun _ => ?_, fun _ _ _ => ?_, fun _ _ _ => ?_, fun _ => ?_, fun _ _ => ?_, fun _ _ => ?_⟩
      all_goals (repeat' split) <;> omega

/-! ## The thermal step and the loop engine -/

/-- The thermal step of stack `k`'s cell `ci`, the losses `l` of the cells before it kept. -/
def heatStep (k : Nat) (a : State × List (Nat × Word)) (ci : Nat) : State × List (Nat × Word) :=
  ((a.1.stepCell k ci).1.judgeHeat k ci, a.2 ++ (a.1.stepCell k ci).2)

/-- A fold of pairs whose next state does not look at the second part goes through the states of the plain fold. -/
theorem foldl_fst {α β σ : Type} {f : σ × β → α → σ × β} {g : σ → α → σ} (h : ∀ a x, (f a x).1 = g a.1 x)
    (l : List α) (a : σ × β) : (l.foldl f a).1 = l.foldl g a.1 := by
  induction l generalizing a with
  | nil => rfl
  | cons x l ih => rw [List.foldl_cons, List.foldl_cons, ih, h]

/-- Every enabled stack's modelled cells stepped and judged, then each stack's headroom ranked. -/
def State.heated (s : State) : State :=
  let ks := (List.range 16).filter s.stackEn
  ks.foldl State.hottest (ks.foldl (fun (u : State) (k : Nat) =>
    (u.modelled k).foldl (fun (v : State) (ci : Nat) => ((v.stepCell k ci).1).judgeHeat k ci) u) s)

/-- The checking unit's part of the thermal step. -/
def State.checkHeat (s : State) (mis : List (Fin 3072 × Fin 8)) : State :=
  if !W.THERM_CTL_CHECK_EN (s.word K.THERM_CTL) then s.judge 0x0604 0 false 100000 0 0 else
  match s.checked with
  | none => s.judge 0x0604 0 false 100000 0 0
  | some j =>
    let s : State := { s with therm := { s.therm with rot := j + 1 } }
    if mis.any fun m => (m.1 : Nat) * 8 + (m.2 : Nat) = j then s.mismatch j
    else s.judge 0x0604 0 false 100000 0 0

theorem State.next_checkHeat (s : State) (mis : List (Fin 3072 × Fin 8)) :
    (Host.Outcome.next (s.checkHeat mis) : Host.Outcome State Fault Refusal) =
      if !W.THERM_CTL_CHECK_EN (s.word K.THERM_CTL) then .next (s.judge 0x0604 0 false 100000 0 0) else
      match s.checked with
      | none => .next (s.judge 0x0604 0 false 100000 0 0)
      | some j =>
        let s : State := { s with therm := { s.therm with rot := j + 1 } }
        if mis.any fun m => (m.1 : Nat) * 8 + (m.2 : Nat) = j then .next (s.mismatch j)
        else .next (s.judge 0x0604 0 false 100000 0 0) := by
  unfold State.checkHeat
  split
  · rfl
  · split
    · rfl
    · extract_lets _ u
      exact apply_ite _ _ _ _

theorem execThermalStep_eq (mis : List (Fin 3072 × Fin 8)) (s : State) : ∃ losses, execThermalStep mis s =
    .next ((if s.silent.heated.pair.role = .joining then
      { s.silent.heated with therm := { s.silent.heated.therm with kept := s.silent.heated.therm.kept ++ [losses] } }
      else s.silent.heated).checkHeat mis) := by
  let ks := (List.range 16).filter s.stackEn
  let r := ks.foldl (fun (a : State × List (Nat × Word)) (k : Nat) => (a.1.modelled k).foldl (heatStep k) a)
    (s.silent, [])
  have cells (k : Nat) (a : State × List (Nat × Word)) : ((a.1.modelled k).foldl (heatStep k) a).1
      = (a.1.modelled k).foldl (fun (v : State) (ci : Nat) => ((v.stepCell k ci).1).judgeHeat k ci) a.1 :=
    foldl_fst (fun _ _ => rfl) _ a
  have states : ks.foldl State.hottest r.1 = s.silent.heated :=
    congrArg (ks.foldl State.hottest) (foldl_fst (fun a k => cells k a) ks _)
  refine ⟨r.2, ?_⟩
  rw [← states]
  exact (State.next_checkHeat _ mis).symm

/-- With the check off, or with no switch to check, the mismatch is judged as absent. -/
theorem State.checkHeat_idle {s : State} (mis : List (Fin 3072 × Fin 8))
    (h : W.THERM_CTL_CHECK_EN (s.word K.THERM_CTL) = false ∨ s.checked = none) :
    s.checkHeat mis = s.judge 0x0604 0 false 100000 0 0 := by
  unfold State.checkHeat
  rcases h with h | h
  · rw [h]
    rfl
  · rw [h]
    split <;> rfl

theorem State.checkHeat_checked {s : State} (mis : List (Fin 3072 × Fin 8)) {j : Nat}
    (he : W.THERM_CTL_CHECK_EN (s.word K.THERM_CTL) = true) (hj : s.checked = some j) :
    s.checkHeat mis = if mis.any (fun m => (m.1 : Nat) * 8 + (m.2 : Nat) = j)
      then ({ s with therm := { s.therm with rot := j + 1 } } : State).mismatch j
      else ({ s with therm := { s.therm with rot := j + 1 } } : State).judge 0x0604 0 false 100000 0 0 := by
  unfold State.checkHeat
  rw [he, hj]
  rfl

theorem State.mismatch_kept (s : State) (j : Nat) : (s.mismatch j).therm.kept = s.therm.kept := by
  unfold State.mismatch
  extract_lets lane was c _ s1 s2 s3
  have hs : s1.EventReach s3 := (State.satEvent_reach ..).trans (State.raise_reach ..)
  have hr := ite_reach (c := was ≠ 0 ∧ s3.mono + 1 ≤ was + 100000) (hs.trans (State.raise_reach s3 0x0605 0 0 0)) hs
  have kept := congrArg Therm.kept hr.therm
  exact kept

theorem State.checkHeat_kept (s : State) (mis : List (Fin 3072 × Fin 8)) :
    (s.checkHeat mis).therm.kept = s.therm.kept := by
  have absent (u : State) : (u.judge 0x0604 0 false 100000 0 0).therm.kept = u.therm.kept :=
    congrArg Therm.kept (State.judge_reach ..).therm
  unfold State.checkHeat
  split
  · exact absent s
  · split
    · exact absent s
    · extract_lets _ u
      split
      · exact u.mismatch_kept _
      · exact absent u

theorem State.runBank_of_empty (s : State) (b : Nat) (h : ∀ i, i < 16 → s.slotEn (i + 16 * b) = false) :
    s.runBank b = s := by
  have none : ((List.range 16).map (· + 16 * b)).filter s.slotEn = [] := by
    rw [List.filter_eq_nil_iff]
    intro n hn
    obtain ⟨i, hi, rfl⟩ := List.mem_map.mp hn
    simp [h i (List.mem_range.mp hi)]
  unfold State.runBank
  rw [none]
  rfl

/-- Settles O29: the thermal step is its fold of states followed by the checking unit, whose parts keep the losses;
the loop engine's rows are their folds. -/
theorem thermalStepAndLoopEngineRun : Obligations.ThermalStepAndLoopEngineRun := by
  unfold Obligations.ThermalStepAndLoopEngineRun
  refine ⟨fun s mis => ?_, fun s b => ⟨rfl, fun h => congrArg _ (s.silent.runBank_of_empty b h)⟩, fun s => ⟨rfl, rfl⟩⟩
  intro ks r absent
  obtain ⟨losses, step⟩ := execThermalStep_eq mis s
  have still (h : r.pair.role ≠ .joining) : exec (.thermalStep mis) s = .next (r.checkHeat mis) :=
    step.trans (congrArg (fun u : State => Host.Outcome.next (u.checkHeat mis)) (if_neg h))
  refine ⟨fun hr => ⟨fun h => ?_, fun j he hj => ⟨fun hm => ?_, fun hm => ?_⟩⟩, fun hr => ?_⟩
  · rw [still hr, State.checkHeat_idle mis h]
  · rw [still hr, State.checkHeat_checked mis he hj, if_pos (by simpa using hm)]
  · rw [still hr, State.checkHeat_checked mis he hj, if_neg (by simpa using hm)]
  · refine ⟨_, step, losses, ?_⟩
    exact (State.checkHeat_kept ..).trans (congrArg (fun u : State => u.therm.kept) (if_pos hr))

/-! ## The wear journal -/

theorem State.SameButWear.facts {s t : State} (h : s.SameButWear t) :
    t.regs = s.regs ∧ t.evt = s.evt ∧ t.cells = s.cells := by
  unfold State.SameButWear at h
  rw [h]
  exact ⟨rfl, rfl, rfl⟩

/-- Switch `j`'s wear stamped and stored, as `State.storeWear` does it for each switch of a cell. -/
def State.storeSwitch (s : State) (j : Nat) : State :=
  if (s.supSw j).wear = Wear.init then s else
  let w := { (s.supSw j).wear with update := s.cycle.setWidth 48 }
  let s := s.setSupSw j { s.supSw j with wear := w }
  { s with jrnl := { s.jrnl with wear := Tab.put (fun _ => Wear.init) s.jrnl.wear j w } }

theorem State.storeWear_eq (s : State) (ci : Nat) :
    s.storeWear ci = ((List.range 8).map (ci * 8 + ·)).foldl State.storeSwitch s := by
  rw [List.foldl_map]
  rfl

theorem State.storeWear_all (s : State) (cells : List Nat) : cells.foldl State.storeWear s
    = (cells.flatMap fun ci => (List.range 8).map (ci * 8 + ·)).foldl State.storeSwitch s := by
  rw [List.foldl_flatMap]
  exact congrArg (fun f => cells.foldl f s) (funext fun u => funext fun ci => u.storeWear_eq ci)

/-- In `t` switch `j`'s wear is that of `s` stamped with the cycle of `s`, in force and in the journal. -/
def State.Stamped (s t : State) (j : Nat) : Prop :=
  (t.supSw j).wear = { (s.supSw j).wear with update := s.cycle.setWidth 48 }
    ∧ Tab.get (fun _ => Wear.init) t.jrnl.wear j = { (s.supSw j).wear with update := s.cycle.setWidth 48 }

/-- `t` is reached from `s` by storing wear: each switch's record is as it was or stamped. -/
structure State.Storing (s t : State) : Prop where
  cycle : t.cycle = s.cycle
  wear : ∀ j, (t.supSw j).wear = (s.supSw j).wear ∨ s.Stamped t j

theorem State.storeSwitch_other (t : State) {i j : Nat} (h : j ≠ i) : (t.storeSwitch i).supSw j = t.supSw j
    ∧ Tab.get (fun _ => Wear.init) (t.storeSwitch i).jrnl.wear j = Tab.get (fun _ => Wear.init) t.jrnl.wear j := by
  unfold State.storeSwitch
  split
  · exact ⟨rfl, rfl⟩
  · exact ⟨Tab.get_put_ne _ _ _ h, Tab.get_put_ne _ _ _ h⟩

section

variable {s t : State}

theorem State.Storing.stamps (h : s.Storing t) (i : Nat) (hw : (t.supSw i).wear ≠ Wear.init) :
    s.Stamped (t.storeSwitch i) i := by
  have same : ({ (t.supSw i).wear with update := t.cycle.setWidth 48 } : Wear)
      = { (s.supSw i).wear with update := s.cycle.setWidth 48 } := by
    rw [h.cycle]
    rcases h.wear i with hi | hi
    · rw [hi]
    · rw [hi.1]
  unfold State.storeSwitch
  rw [if_neg hw]
  exact ⟨(congrArg SupSw.wear (State.setSupSw_supSw ..)).trans same, (Tab.get_put_same ..).trans same⟩

theorem State.Stamped.step {j : Nat} (h : s.Stamped t j) (hs : s.Storing t) (i : Nat) :
    s.Stamped (t.storeSwitch i) j := by
  by_cases hj : j = i
  · subst hj
    by_cases hw : (t.supSw j).wear = Wear.init
    · rw [State.storeSwitch, if_pos hw]
      exact h
    · exact hs.stamps j hw
  · obtain ⟨sw, jr⟩ := t.storeSwitch_other hj
    exact ⟨sw ▸ h.1, jr.trans h.2⟩

theorem State.Storing.step (h : s.Storing t) (i : Nat) : s.Storing (t.storeSwitch i)
    ∧ ((s.supSw i).wear ≠ Wear.init → s.Stamped (t.storeSwitch i) i) := by
  refine ⟨⟨?_, fun j => ?_⟩, fun hw => ?_⟩
  · unfold State.storeSwitch
    split <;> exact h.cycle
  · rcases h.wear j with hj | hj
    · by_cases hi : j = i
      · subst hi
        by_cases hw : (t.supSw j).wear = Wear.init
        · rw [State.storeSwitch, if_pos hw]
          exact .inl hj
        · exact .inr (h.stamps j hw)
      · exact .inl ((congrArg SupSw.wear (t.storeSwitch_other hi).1).trans hj)
    · exact .inr (hj.step h i)
  · rcases h.wear i with hi | hi
    · exact h.stamps i (hi ▸ hw)
    · exact hi.step h i

theorem State.Storing.all (h : s.Storing t) (l : List Nat) : s.Storing (l.foldl State.storeSwitch t)
    ∧ (∀ j, s.Stamped t j ∨ (j ∈ l ∧ (s.supSw j).wear ≠ Wear.init) → s.Stamped (l.foldl State.storeSwitch t) j) := by
  induction l generalizing t with
  | nil => exact ⟨h, fun j hj => hj.elim id fun hj => absurd hj.1 List.not_mem_nil⟩
  | cons i l ih =>
    obtain ⟨next, stamped⟩ := h.step i
    refine ⟨(ih next).1, fun j hj => (ih next).2 j ?_⟩
    rcases hj with hj | ⟨hm, hw⟩
    · exact .inl (hj.step h i)
    · rcases List.mem_cons.mp hm with rfl | hm
      · exact .inl (stamped hw)
      · exact .inr ⟨hm, hw⟩

end

/-- Settles O30: supervision is its fold; storing wear leaves each switch's record as it was or stamps it in force
and in the journal alike, and it stamps each one that differs from the record after reset. -/
theorem supervisionAndTheWearJournal : Obligations.SupervisionAndTheWearJournal := by
  unfold Obligations.SupervisionAndTheWearJournal
  refine fun s => ⟨rfl, s.silent.wearCells.foldl State.storeWear s.silent, rfl, fun ci hci sw hsw hw => ?_, ?_⟩
  · have start : s.Storing s.silent := ⟨rfl, fun _ => .inl rfl⟩
    rw [State.storeWear_all]
    refine ((start.all _).2 (ci * 8 + sw) (.inr ⟨?_, hw⟩)).2
    exact List.mem_flatMap.mpr ⟨ci, hci, List.mem_map.mpr ⟨sw, List.mem_range.mpr hsw, rfl⟩⟩
  · have same := State.sameButWear_foldl State.storeWear_sameButWear s.silent.wearCells s.silent
    exact same.facts

/-! ## Strokes -/

/-- A string's new record that has the old one's `g` leaves the `g` of every string. -/
theorem State.setStr_keeps {β : Type} (g : Str → β) (s : State) (b : Nat) (x : Str) (h : g x = g (s.str b)) (p : Nat) :
    g ((s.setStr b x).str p) = g (s.str p) := by
  by_cases hp : p = b
  · rw [hp, State.setStr_str, h]
  · rw [State.setStr_str_ne _ _ _ _ hp]

/-- `t` is `s` after launches: other things sent, other idles to come, other places of the next echo request. -/
structure State.Launching (s t : State) : Prop where
  same : t = { s with out := t.out, txs := t.txs, strs := t.strs }
  found : ∀ p, (t.str p).found = (s.str p).found
  hdr : ∀ p, (t.str p).hdr = (s.str p).hdr

section

variable {s t u : State}

theorem State.Launching.refl (s : State) : s.Launching s := ⟨rfl, fun _ => rfl, fun _ => rfl⟩

theorem State.Launching.trans (h : s.Launching t) (k : t.Launching u) : s.Launching u := by
  refine ⟨?_, fun p => (k.found p).trans (h.found p), fun p => (k.hdr p).trans (h.hdr p)⟩
  rw [k.same, h.same]

theorem State.Launching.regs (h : s.Launching t) : t.regs = s.regs := by rw [h.same]

theorem State.Launching.cells (h : s.Launching t) : t.cells = s.cells := by rw [h.same]

theorem State.Launching.slotsOf (h : s.Launching t) (p : Nat) : t.slotsOf p = s.slotsOf p := by
  unfold State.slotsOf
  dsimp only
  rw [h.found, h.hdr, h.same]
  rfl

theorem State.Launching.strokeHeader (h : s.Launching t) (q : Nat) : t.strokeHeader q = s.strokeHeader q := by
  unfold State.strokeHeader
  dsimp only
  rw [show t.basePort q = s.basePort q by rw [h.same]; rfl]
  rw [h.slotsOf, h.same]
  rfl

theorem State.Launching.sentSeg (h : s.Launching t) (q pos : Nat) : t.sentSeg q pos = s.sentSeg q pos := by
  rw [h.same]
  rfl

end

theorem State.launchPort_launching (s : State) (q : Nat) : s.Launching (s.launchPort q) := by
  unfold State.launchPort
  extract_lets b n segs slots x s1 s2 y pos
  have h2 : s.Launching s2 := ⟨rfl, fun _ => rfl, fun _ => rfl⟩
  split
  · exact h2
  · exact h2.trans ⟨rfl, State.setStr_keeps Str.found _ _ _ rfl, State.setStr_keeps Str.hdr _ _ _ rfl⟩

/-- The stroke that port `q` launches in state `s`. -/
def State.strokeOf (s : State) (q : Nat) : Output :=
  .stroke q (s.strokeHeader q) ((List.range (s.slotsOf (s.basePort q))).map (s.sentSeg q))
    (List.replicate (s.slotsOf (s.basePort q)) (List.replicate 40 0))

theorem State.launchPort_out (s : State) (q : Nat) : ∃ l, (s.launchPort q).out = s.out ++ s.strokeOf q :: l := by
  unfold State.launchPort State.strokeOf
  extract_lets b n segs slots x s1 s2 y pos
  split
  · exact ⟨_, List.append_assoc ..⟩
  · exact ⟨_, (List.append_assoc ..).trans (List.append_assoc ..)⟩

theorem State.Launching.strokeOf {s t : State} (h : s.Launching t) (q : Nat) : t.strokeOf q = s.strokeOf q := by
  have base : t.basePort q = s.basePort q := by
    rw [h.same]
    rfl
  have seg : t.sentSeg q = s.sentSeg q := funext (h.sentSeg q)
  unfold State.strokeOf
  rw [h.strokeHeader, base, h.slotsOf, seg]

/-- A run of launches changes nothing else, keeps what was sent before, and sends each port's stroke. -/
theorem State.launchAll (l : List Nat) (s : State) : s.Launching (l.foldl State.launchPort s)
    ∧ (∀ o ∈ s.out, o ∈ (l.foldl State.launchPort s).out)
    ∧ ∀ q ∈ l, s.strokeOf q ∈ (l.foldl State.launchPort s).out := by
  induction l generalizing s with
  | nil => exact ⟨.refl s, fun _ h => h, fun q h => absurd h List.not_mem_nil⟩
  | cons p l ih =>
    obtain ⟨launching, kept, sent⟩ := ih (s.launchPort p)
    have step := s.launchPort_launching p
    obtain ⟨more, out⟩ := s.launchPort_out p
    refine ⟨step.trans launching, fun o ho => kept o ?_, fun q hq => ?_⟩
    · rw [out]
      exact List.mem_append_left _ ho
    · rcases List.mem_cons.mp hq with rfl | hq
      · refine kept _ ?_
        rw [out]
        exact List.mem_append_right _ List.mem_cons_self
      · rw [← step.strokeOf q]
        exact sent q hq

/-- `t` has `s`'s registers, lanes and received headers. -/
structure State.SameHeaders (s t : State) : Prop where
  hdr : ∀ p, (t.str p).hdr = (s.str p).hdr
  regs : t.regs = s.regs
  lanes : t.lanes = s.lanes

namespace State.SameHeaders

variable {s t : State}

theorem setStr {x : Str} {b : Nat} (h : s.SameHeaders t) (hx : x.hdr = (t.str b).hdr) : s.SameHeaders (t.setStr b x) :=
  ⟨fun p => (State.setStr_keeps Str.hdr t b x hx p).trans (h.hdr p), h.regs, h.lanes⟩

theorem reach {u : State} (h : s.SameHeaders t) (k : t.EventReach u) : s.SameHeaders u :=
  ⟨fun p => (congrArg Str.hdr (congrArg (Tab.get _ · p) k.strs)).trans (h.hdr p), k.regs.trans h.regs,
    k.lanes.trans h.lanes⟩

end State.SameHeaders

theorem State.lineHeader_sameHeaders (s : State) (b n t : Nat) : s.SameHeaders (s.lineHeader b n t) := by
  have set {x : Str} (h : x.hdr = (s.str b).hdr) : s.SameHeaders (s.setStr b x) := .setStr ⟨fun _ => rfl, rfl, rfl⟩ h
  unfold State.lineHeader
  extract_lets x u
  split
  · exact ⟨fun _ => rfl, rfl, rfl⟩
  · split
    · exact set rfl
    · have hu : s.SameHeaders u := set rfl
      split
      · exact hu.reach (State.raise_reach ..)
      · exact hu

theorem State.ringHeader_sameHeaders (s : State) (b side n : Nat) (returned : Bool) (t : Nat) :
    s.SameHeaders (s.ringHeader b side n returned t) := by
  have set {x : Str} (h : x.hdr = (s.str b).hdr) : s.SameHeaders (s.setStr b x) := .setStr ⟨fun _ => rfl, rfl, rfl⟩ h
  unfold State.ringHeader
  extract_lets x all run u
  split
  · refine .reach ?_ (State.raise_reach ..)
    exact set rfl
  · have hu : s.SameHeaders u := set rfl
    split
    · exact hu.reach (State.clear_reach ..)
    · exact hu

/-- The state in which a returned header is looked at: a port in far-end loopback has sent it again. -/
def State.again (s : State) (p : Fin 64) (hdr : List Byte) : State :=
  if s.txMode p = .farEnd then s.silent.emit (.again p hdr) else s.silent

/-- What the header of a lit port in use of a configured string does to the state. -/
def State.takeHeader (s : State) (b : Nat) (p : Fin 64) (hdr : List Byte) (t : Tick) : State :=
  let y := s.str p
  if !hdrOk hdr then (s.setStr p { y with hdr := { y.hdr with ok := false } }).strErr b (s.slotsOf b) t
  else if hdrType hdr ≠ 1 then s else
  let side := s.portSide p
  let ret := decide (hdrDir hdr = side)
  let s := s.setStr p { y with hdr :=
    { ok := true, cycle := (hdrCycle hdr).setWidth 16, hops := hdrHops hdr, dir := hdrDir hdr, slots := hdrSlots hdr } }
  let n := foundOf (hdrHops hdr) ret
  let x := s.str b
  let s := s.setStr b { x with
    foundRx := some (max n (x.foundRx.getD 0)), rx := mset x.rx (if (p : Nat) = b then 0 else 1) true }
  if W.PORT_CFG_MODE (s.portCfg b) = 1 then s.lineHeader b n t else s.ringHeader b side n ret t

/-- A port of a configured string, in use and lit. -/
def State.returns (s : State) (p : Fin 64) : Prop :=
  s.configured (s.basePort p) = true ∧ (p : Nat) ∈ s.usedPorts (s.basePort p) ∧ s.lit p = true

theorem State.again_same (s : State) (p : Fin 64) (hdr : List Byte) : ∃ o, s.again p hdr = { s with out := o } := by
  unfold State.again
  split
  · exact ⟨_, rfl⟩
  · exact ⟨_, rfl⟩

theorem State.returns_iff (s : State) (p : Fin 64) (hdr : List Byte) :
    s.returns p ↔ ¬ ((!(s.again p hdr).configured (s.basePort p)) = true
      ∨ (p : Nat) ∉ (s.again p hdr).usedPorts (s.basePort p) ∨ (!(s.again p hdr).lit p) = true) := by
  obtain ⟨o, same⟩ := s.again_same p hdr
  have back : (!s.configured (s.basePort p)) = true ∨ (p : Nat) ∉ s.usedPorts (s.basePort p) ∨ (!s.lit p) = true
      ↔ ¬ s.returns p := by
    simp only [State.returns, Classical.not_and_iff_not_or_not, Bool.not_eq_true', Bool.not_eq_true]
  rw [same]
  exact ⟨fun hr ha => back.mp ha hr, fun hn => Classical.byContradiction fun hr => hn (back.mpr hr)⟩

theorem execStrokeHeaderReturn_of_not {s : State} {p : Fin 64} (hdr : List Byte) (t : Tick) (h : ¬ s.returns p) :
    execStrokeHeaderReturn p hdr t s = .next (s.again p hdr) :=
  if_pos (Classical.not_not.mp fun k => h ((s.returns_iff p hdr).mpr k))

theorem execStrokeHeaderReturn_of_returns {s : State} {p : Fin 64} (hdr : List Byte) (t : Tick) (h : s.returns p) :
    execStrokeHeaderReturn p hdr t s = .next ((s.again p hdr).takeHeader (s.basePort p) p hdr t) := by
  refine (if_neg ((s.returns_iff p hdr).mp h)).trans ?_
  by_cases ok : (!hdrOk hdr) = true
  · exact (if_pos ok).trans (congrArg Host.Outcome.next (if_pos ok).symm)
  · refine (if_neg ok).trans ?_
    unfold State.takeHeader
    rw [if_neg ok]
    by_cases typ : hdrType hdr ≠ 1
    · exact (if_pos typ).trans (congrArg Host.Outcome.next (if_pos typ).symm)
    · exact (if_neg typ).trans (congrArg Host.Outcome.next (if_neg typ).symm)

theorem State.takeHeader_good (s : State) (b : Nat) (p : Fin 64) {hdr : List Byte} (t : Tick) (ok : hdrOk hdr = true)
    (typ : hdrType hdr = 1) : ((s.takeHeader b p hdr t).str p).hdr =
      { ok := true, cycle := (hdrCycle hdr).setWidth 16, hops := hdrHops hdr, dir := hdrDir hdr, slots := hdrSlots hdr }
      ∧ (s.takeHeader b p hdr t).regs = s.regs ∧ (s.takeHeader b p hdr t).lanes = s.lanes := by
  unfold State.takeHeader
  rw [if_neg (by simp [ok]), if_neg (by simp [typ])]
  extract_lets side ret u n x v
  have took : (u.str p).hdr = _ := congrArg Str.hdr (State.setStr_str ..)
  have hv : u.SameHeaders v := .setStr ⟨fun _ => rfl, rfl, rfl⟩ rfl
  have done : v.SameHeaders (if W.PORT_CFG_MODE (v.portCfg b) = 1 then v.lineHeader b n t
      else v.ringHeader b side n ret t) := by
    split
    · exact State.lineHeader_sameHeaders ..
    · exact State.ringHeader_sameHeaders ..
  exact ⟨(done.hdr p).trans ((hv.hdr p).trans took), done.regs, done.lanes⟩

theorem execEcr_ignored (s : State) (l : Fin 64) {p q : Byte} {ok : Bool} (x : EchoStamp) (h : ok = false ∨ q ≠ ~~~ p) :
    execEcr (.port l) ⟨p, q⟩ ok x s = .next s.silent :=
  congrArg Host.Outcome.next (if_neg fun k => h.elim (fun h => by simp [h] at k) (fun h => h k.2))

/-- An echo reply that counts: its round trip joins the sum, or completes the sixteen. -/
theorem State.echoTake_of_occupied {s : State} {p pos : Nat} (rt t : Nat) (conf : s.configured (s.basePort p) = true)
    (used : p ∈ s.usedPorts (s.basePort p)) (sends : s.sends p = true) (low : pos < s.slotsOf (s.basePort p))
    (occ : s.occupied (48 * s.basePort p + pos) = true) :
    s.echoTake p pos rt t =
      let b := s.basePort p
      let ci := 48 * b + pos
      let side := s.portSide p
      let e := s.echoOf (ci * 2 + side)
      if e.count + 1 < 16 then s.setEcho (ci * 2 + side) { e with sum := e.sum + rt, count := e.count + 1 }
      else if (s.mg ci).req ≠ [] then s
      else (s.echoMean ci side (arrOf (s.rateOf p) (e.sum + rt) 16 e.turn) t).mirrorJudge b t := by
  refine (if_neg ?_).trans (if_neg ?_)
  · simp [conf, used, sends, low]
  · simp [occ]

/-- Settles O31: a launch leaves what strokes are made of, so that every port's stroke is that of the state before; a
returned header enters the port's record, which the string's judgement of it leaves; an echo counts as
`State.echoTake` says. -/
theorem strokesLeaveAndHeadersReturn : Obligations.StrokesLeaveAndHeadersReturn := by
  unfold Obligations.StrokesLeaveAndHeadersReturn
  refine ⟨fun s hm => if_pos hm, fun s hm => ?_, fun s p hdr tk => ?_, fun s l p q ok rt tk => ?_,
    fun s n side p q ok rt tk => ⟨fun hp => ?_, fun hp => ?_⟩⟩
  · obtain ⟨launching, -, sent⟩ := State.launchAll ((s.silent.strings.flatMap s.silent.usedPorts).filter s.silent.sends)
      s.silent
    refine ⟨_, if_neg hm, launching.regs, launching.cells, fun q hq hs => ?_⟩
    exact sent q (List.mem_filter.mpr ⟨hq, hs⟩)
  · intro b there u
    refine ⟨fun h ok typ => ?_, fun h ok => ?_, fun h ok typ => ?_, fun h => ?_⟩
    · obtain ⟨took, regs, lanes⟩ := (s.again p hdr).takeHeader_good b p tk ok typ
      obtain ⟨o, same⟩ := s.again_same p hdr
      refine ⟨_, execStrokeHeaderReturn_of_returns hdr tk h, ?_⟩
      rw [took]
      exact ⟨rfl, rfl, rfl, rfl, rfl, regs.trans (by rw [same]), lanes.trans (by rw [same])⟩
    · obtain ⟨o, same⟩ := s.again_same p hdr
      refine (execStrokeHeaderReturn_of_returns hdr tk h).trans (congrArg Host.Outcome.next ((if_pos (by simp [ok])).trans ?_))
      change _ = ((s.again p hdr).setStr p _).strErr b (s.slotsOf b) tk
      rw [same]
      rfl
    · exact (execStrokeHeaderReturn_of_returns hdr tk h).trans (congrArg Host.Outcome.next
        ((if_neg (by simp [ok])).trans (if_pos typ)))
    · exact execStrokeHeaderReturn_of_not hdr tk h
  · intro b ci j sum
    refine ⟨fun ok hq conf used sends low occ => ⟨fun few => ?_, fun many req => ?_⟩, fun h => ?_⟩
    · exact congrArg Host.Outcome.next ((if_pos ⟨ok, hq⟩).trans
        ((State.echoTake_of_occupied (s := s.silent) _ _ conf used sends low occ).trans (if_pos few)))
    · exact congrArg Host.Outcome.next ((if_pos ⟨ok, hq⟩).trans
        ((State.echoTake_of_occupied (s := s.silent) _ _ conf used sends low occ).trans
          ((if_neg (Nat.not_lt.mpr many)).trans (if_neg (by simpa using req)))))
    · exact execEcr_ignored s l _ h
  · exact congrArg Host.Outcome.next (if_pos hp)
  · exact congrArg Host.Outcome.next (if_neg (by simp [hp]))

end Sys2Proof.Machine
end


section
/-! PROOFS. Recovery, the journal, cells and their telemetry, the cycle boundary: O43, O44, O46 to O48. -/

namespace Sys2Proof.Machine

open Sys2Proof.Machine

/-! ## Recovery and releases -/

/-- `src`'s record at the end of a quiet period: the count begins afresh where no window is under way. -/
def State.windowRec (s : State) (src : Nat) : RecSrc :=
  let r0 := s.recOf src
  if r0.count = 0 ∨ W.FLT_CTL_WINDOW (s.word K.FLT_CTL) * 6000000 ≤ (s.cycle - r0.wstart).toNat
    then { r0 with count := 0, wstart := s.cycle } else r0

theorem State.windowRec_eq (s : State) (src : Nat) :
    (if (decide ((s.recOf src).count = 0)
        || decide (W.FLT_CTL_WINDOW (s.word K.FLT_CTL) * 6000000 ≤ (s.cycle - (s.recOf src).wstart).toNat)) = true
      then { s.recOf src with count := 0, wstart := s.cycle } else s.recOf src) = s.windowRec src := by
  unfold State.windowRec
  simp only [Bool.or_eq_true, decide_eq_true_eq]

theorem execQuietPeriodEnd_of_over {s : State} {src : Fin 3088} (he : s.sourceEvents src ≠ [])
    (ha : s.autoAllowed src = true) (hq : s.quietOver src = true) :
    execQuietPeriodEnd src s = if W.FLT_CTL_LIMIT (s.word K.FLT_CTL) ≤ (s.windowRec src).count then
        .next ((s.silent.setRec src { s.windowRec src with locked := true }).raise 0x0905 src 0 0)
      else
        let v := (s.sourceEvents src).foldl (fun (s : State) (e : ActEv) => s.endEvent e 4)
          (s.silent.setRec src { s.windowRec src with count := (s.windowRec src).count + 1 })
        .next (if (src : Nat) < 3072 then v.recoverCell src else v) := by
  refine (if_neg ?_).trans ?_
  · rintro (h | h | h)
    · exact he h
    · exact absurd ((congrArg (!·) ha).symm.trans h) Bool.false_ne_true
    · exact absurd ((congrArg (!·) hq).symm.trans h) Bool.false_ne_true
  · rw [← State.windowRec_eq]
    rfl

theorem State.urgent_same (s : State) (i : Nat) (o : OSet) (t : Nat) :
    (s.urgent i o t).regs = s.regs ∧ (s.urgent i o t).cells = s.cells ∧ (s.urgent i o t).evt = s.evt := by
  unfold State.urgent
  dsimp only
  split
  · exact ⟨rfl, rfl, rfl⟩
  · split
    · exact ⟨rfl, rfl, rfl⟩
    · split <;> exact ⟨rfl, rfl, rfl⟩

theorem State.urgents_same (o : OSet) (l : List Nat) (s : State) :
    (l.foldl (fun (s : State) (p : Nat) => s.urgent p o 0) s).regs = s.regs
      ∧ (l.foldl (fun (s : State) (p : Nat) => s.urgent p o 0) s).cells = s.cells
      ∧ (l.foldl (fun (s : State) (p : Nat) => s.urgent p o 0) s).evt = s.evt := by
  induction l generalizing s with
  | nil => exact ⟨rfl, rfl, rfl⟩
  | cons p l ih =>
    obtain ⟨regs, cells, evt⟩ := ih (s.urgent p o 0)
    obtain ⟨regs', cells', evt'⟩ := s.urgent_same p o 0
    exact ⟨regs.trans regs', cells.trans cells', evt.trans evt'⟩

/-- Settles O43: the branches of the three commands; what an urgent set leaves alone carries over to all of them. -/
theorem recoveryCountsLocksAndReleases : Obligations.RecoveryCountsLocksAndReleases := by
  unfold Obligations.RecoveryCountsLocksAndReleases
  refine fun s => ⟨fun src => ?_, fun k => ?_, ?_⟩
  · intro r0 window r
    refine ⟨fun h => ?_, fun he ha hq => ⟨fun hl => ?_, fun hl => ?_⟩⟩
    · refine if_pos (h.imp id (Or.imp (fun h => ?_) (fun h => ?_)))
      · change (!s.autoAllowed src) = true
        rw [h, Bool.not_false]
      · change (!s.quietOver src) = true
        rw [h, Bool.not_false]
    · exact (execQuietPeriodEnd_of_over he ha hq).trans (if_pos hl)
    · exact (execQuietPeriodEnd_of_over he ha hq).trans (if_neg (Nat.not_le.mpr hl))
  · intro seen waits held
    have branch : (s.sys.mode ≠ .run ∨ (!s.evt.forced.testBit k) = true
        ∨ (s.blocked.testBit k || decide (Tab.get (fun _ => 0) s.evt.blkReq k = s.mono)) = true
        ∨ (s.pairSide && (s.pair.lane && !(decide (s.shadow.rxCycle = (s.cycle - 1).setWidth 48)
          && !s.shadow.pBlocked.testBit k) || decide (s.pair.role ≠ .holder))) = true)
        ↔ (s.sys.mode ≠ .run ∨ s.evt.forced.testBit k = false ∨ held ∨ waits) := by
      simp only [held, waits, seen, Bool.or_eq_true, Bool.and_eq_true, Bool.not_eq_true', decide_eq_true_eq,
        Bool.and_eq_false_iff, decide_eq_false_iff_not, Bool.not_eq_false', Classical.not_and_iff_not_or_not,
        Bool.not_eq_false]
      rw [or_comm (b := s.pair.role ≠ .holder)]
    refine ⟨fun h => if_pos (branch.mpr h), fun hm hf hh hw => ⟨_, if_neg fun h => ?_, ?_⟩⟩
    · rcases branch.mp h with h | h | h | h
      · exact h hm
      · rw [hf] at h
        cases h
      · exact hh h
      · exact hw h
    · refine ⟨by simp, Tab.get_put_same .., by simp, rfl, rfl, rfl, fun j _ hj => ?_⟩
      simp [Ne.symm hj]
  · let due := s.evt.clrDue.filter fun d => decide (d.2 ≤ s.mono)
    let u : State := { s.silent with evt := { s.evt with clrDue := s.evt.clrDue.filter fun d => decide (s.mono < d.2) } }
    have waiting : ∀ d ∈ u.evt.clrDue, s.mono < d.2 := fun d hd => of_decide_eq_true (List.mem_filter.mp hd).2
    by_cases hr : s.pair.role = .out
    · exact ⟨_, congrArg Host.Outcome.next (if_pos hr), waiting, rfl, rfl, fun _ => ⟨rfl, rfl⟩⟩
    · obtain ⟨regs, cells, evt⟩ := State.urgents_same .clr
        ((due.flatMap fun d => u.clrStrings d.1).flatMap u.usedPorts).eraseDups u
      exact ⟨_, congrArg Host.Outcome.next (if_neg hr), evt ▸ waiting, regs, cells, fun h => absurd h hr⟩

/-! ## The journal -/

/-- Settles O44: each command is its branches; the band of the temperature is counted once, whichever it is. -/
theorem theJournalKeepsEventsAndLifetime : Obligations.TheJournalKeepsEventsAndLifetime := by
  unfold Obligations.TheJournalKeepsEventsAndLifetime
  refine fun s => ⟨⟨fun h => if_pos h, fun h => if_neg h⟩, fun region ok1 ok2 => ⟨fun h => if_pos h, fun h1 h2 => ?_⟩,
    fun hp => if_pos (by simp [hp]), fun hp => ⟨_, if_neg (by simp [hp]), rfl, rfl, rfl, fun b _ => ?_, rfl, rfl, rfl, rfl⟩⟩
  · exact if_neg (by simp [h1, h2])
  · by_cases hb : b = baseBand s.baseTemp
    · subst hb
      rw [if_pos rfl]
      exact Tab.get_put_same ..
    · rw [if_neg hb]
      exact (Tab.get_put_ne _ _ _ hb).trans (BitVec.add_zero _).symm

/-! ## What a raised event does to the cells -/

/-- `t` has `s`'s cells, management requests and registers. -/
structure State.SameService (s t : State) : Prop where
  cells : t.cells = s.cells
  mgmt : t.mgmt = s.mgmt
  regs : t.regs = s.regs

namespace State.SameService

variable {s t u : State}

theorem refl (s : State) : s.SameService s := ⟨rfl, rfl, rfl⟩

theorem trans (h : s.SameService t) (k : t.SameService u) : s.SameService u :=
  ⟨k.cells.trans h.cells, k.mgmt.trans h.mgmt, k.regs.trans h.regs⟩

theorem ite {c : Prop} [Decidable c] (ht : s.SameService t) (hu : s.SameService u) :
    s.SameService (if c then t else u) := by
  split
  · exact ht
  · exact hu

theorem foldl {α : Type} {f : State → α → State} (h : ∀ (s : State) (x : α), s.SameService (f s x)) (l : List α)
    (s : State) : s.SameService (l.foldl f s) := by
  induction l generalizing s with
  | nil => exact refl s
  | cons x l ih => exact (h s x).trans (ih _)

end State.SameService

theorem State.urgent_sameService (s : State) (i : Nat) (o : OSet) (t : Nat) : s.SameService (s.urgent i o t) := by
  unfold State.urgent
  dsimp only
  split
  · exact .refl s
  · split
    · exact ⟨rfl, rfl, rfl⟩
    · split <;> exact ⟨rfl, rfl, rfl⟩

theorem State.enqueue_sameService (s : State) (code kind inst : Nat) (detail : Word) (t : Nat) :
    s.SameService (s.enqueue code kind inst detail t) := by
  unfold State.enqueue State.lostSats
  split <;> exact ⟨rfl, rfl, rfl⟩

theorem State.capture_sameService (s : State) (code inst : Nat) (detail : Word) (t : Nat) :
    s.SameService (s.capture code inst detail t) := by
  unfold State.capture
  dsimp only
  split <;> exact ⟨rfl, rfl, rfl⟩

theorem State.blotEvent_sameService (s : State) (code t : Nat) : s.SameService (s.blotEvent code t) := by
  have trigger (u : State) (row : Nat) : u.SameService (u.blotTrigger row t) := by
    unfold State.blotTrigger
    dsimp only
    split
    · exact .refl u
    · refine .trans ?_ (State.enqueue_sameService ..)
      exact ⟨rfl, rfl, rfl⟩
  unfold State.blotEvent
  dsimp only
  split
  · exact trigger s _
  · exact .refl s

theorem State.sendPbk_sameService (s : State) (mask t : Nat) : s.SameService (s.sendPbk mask t) :=
  .ite (.refl s) (.foldl (fun _ _ => State.urgent_sameService ..) _ s)

theorem State.block_sameService (s : State) (mask t : Nat) : s.SameService (s.block mask t) := by
  have blk : s.SameService (s.sendBlk mask t) := .ite (.refl s) (.foldl (fun _ _ => State.urgent_sameService ..) _ s)
  exact (blk.trans (State.sendPbk_sameService ..)).trans ⟨rfl, rfl, rfl⟩

theorem State.blockModule_sameService (s : State) (t : Nat) : s.SameService (s.blockModule t) := by
  have blk : s.SameService (s.sendBlkAll t) := .ite (.refl s) (.foldl (fun _ _ => State.urgent_sameService ..) _ s)
  exact (blk.trans (State.sendPbk_sameService ..)).trans ⟨rfl, rfl, rfl⟩

theorem State.startGiveUp_sameService (s : State) : s.SameService s.startGiveUp := by
  unfold State.startGiveUp
  split
  · exact .refl s
  · refine .trans ?_ (State.blotEvent_sameService ..)
    refine .trans ?_ (State.enqueue_sameService ..)
    exact ⟨rfl, rfl, rfl⟩

/-- An event changes the cells and the management requests, if at all, by the reaction of its cell or its note. -/
def State.Reacted (s : State) (code inst : Nat) (byp : Bool) (t : State) : Prop :=
  ∃ u, s.SameService u ∧ (u.SameService t ∨ (u.cellReaction code inst byp).SameService t
    ∨ (u.cellNoted code inst).SameService t)

theorem State.react_reacted (s : State) (code inst : Nat) (byp : Bool) (t : Nat) :
    s.Reacted code inst byp (s.react code inst byp t) := by
  unfold State.react
  generalize classOf code = c
  cases c <;> dsimp only
  case cell =>
    split
    · exact ⟨s, .refl s, .inr (.inr (.refl _))⟩
    · exact ⟨s, .refl s, .inr (.inl (.refl _))⟩
  case stack =>
    split
    · exact ⟨s, .refl s, .inl (State.startGiveUp_sameService s)⟩
    · split
      · exact ⟨s, .refl s, .inl ⟨rfl, rfl, rfl⟩⟩
      · split
        · exact ⟨_, State.block_sameService .., .inr (.inl (.refl _))⟩
        · exact ⟨_, State.block_sameService .., .inl (.refl _)⟩
  case module =>
    split
    · exact ⟨s, .refl s, .inl (State.startGiveUp_sameService s)⟩
    · have blocked := s.blockModule_sameService t
      exact ⟨s, .refl s, .inl ⟨blocked.cells, blocked.mgmt, blocked.regs⟩⟩
  all_goals exact ⟨s, .refl s, .inl (.refl s)⟩

theorem State.Reacted.after {s t u : State} {code inst : Nat} {byp : Bool} (h : s.SameService t)
    (k : t.Reacted code inst byp u) : s.Reacted code inst byp u := by
  obtain ⟨v, hv, done⟩ := k
  exact ⟨v, h.trans hv, done⟩

theorem State.raise_reacted (s : State) (code inst : Nat) (detail : Word) (t : Nat) :
    s.Reacted code inst false (s.raise code inst detail t) := by
  unfold State.raise State.raiseB
  split
  · exact ⟨s, .refl s, .inl ((State.enqueue_sameService ..).trans (State.blotEvent_sameService ..))⟩
  · split
    · dsimp only
      split
      · refine .after ?_ (State.react_reacted ..)
        exact ⟨rfl, rfl, rfl⟩
      · exact ⟨s, .refl s, .inl ⟨rfl, rfl, rfl⟩⟩
    · refine .after ?_ (State.react_reacted ..)
      refine .trans ?_ (State.blotEvent_sameService ..)
      refine .trans ?_ (State.capture_sameService ..)
      refine .trans ?_ (State.enqueue_sameService ..)
      exact ⟨rfl, rfl, rfl⟩

/-- `d` is `c` but for what a reaction to an event changes. -/
def Cell.Noted (c d : Cell) : Prop :=
  d = { c with adm := d.adm, lost := d.lost, preRun := d.preRun, bypReq := d.bypReq, bypCmd := d.bypCmd,
               heldOut := d.heldOut }

theorem State.SameService.cell {s t : State} (h : s.SameService t) (ci : Nat) : t.cell ci = s.cell ci :=
  congrArg (Tab.get _ · ci) h.cells

/-- A cell's new record that has the old one's `g` leaves the `g` of every cell. -/
theorem State.setCell_keeps {β : Type} (g : Cell → β) (s : State) (b : Nat) (x : Cell) (h : g x = g (s.cell b))
    (p : Nat) :
    g ((s.setCell b x).cell p) = g (s.cell p) := by
  by_cases hp : p = b
  · rw [hp, State.setCell_cell, h]
  · rw [State.setCell_cell_ne _ _ _ _ hp]

theorem State.setCell_noted (s : State) (b : Nat) (x : Cell) (h : (s.cell b).Noted x) (p : Nat) :
    (s.cell p).Noted ((s.setCell b x).cell p) := by
  by_cases hp : p = b
  · rw [hp, State.setCell_cell]
    exact h
  · rw [State.setCell_cell_ne _ _ _ _ hp]
    exact rfl

theorem State.cellReaction_noted (s : State) (code ci : Nat) (byp : Bool) (p : Nat) :
    (s.cell p).Noted ((s.cellReaction code ci byp).cell p) := by
  unfold State.cellReaction
  extract_lets c b u
  split
  · refine (s.setCell_noted ci _ ?_ p : (s.cell p).Noted (u.cell p))
    exact rfl
  · split
    · refine s.setCell_noted ci _ ?_ p
      exact rfl
    · exact rfl

theorem State.cellNoted_noted (s : State) (code ci p : Nat) : (s.cell p).Noted ((s.cellNoted code ci).cell p) := by
  unfold State.cellNoted
  split
  · refine s.setCell_noted ci _ ?_ p
    exact rfl
  · exact rfl

theorem State.raise_noted (s : State) (code inst : Nat) (detail : Word) (t : Nat) (p : Nat) :
    (s.cell p).Noted ((s.raise code inst detail t).cell p) := by
  obtain ⟨u, hu, h | h | h⟩ := s.raise_reacted code inst detail t
  · rw [h.cell, hu.cell]
    exact rfl
  · rw [h.cell, ← hu.cell]
    exact u.cellReaction_noted ..
  · rw [h.cell, ← hu.cell]
    exact u.cellNoted_noted ..

/-- An event other than CELL_LOST leaves every cell's admission. -/
theorem State.raise_adm (s : State) {code : Nat} (inst : Nat) (detail : Word) (t : Nat) (h : code ≠ 0x0303) (p : Nat) :
    ((s.raise code inst detail t).cell p).adm = (s.cell p).adm := by
  obtain ⟨u, hu, k | k | k⟩ := s.raise_reacted code inst detail t
  · rw [k.cell, hu.cell]
  · rw [k.cell, ← hu.cell]
    unfold State.cellReaction
    rw [if_neg h]
    split
    · refine u.setCell_keeps Cell.adm _ _ ?_ p
      rfl
    · rfl
  · rw [k.cell, ← hu.cell]
    unfold State.cellNoted
    split
    · refine u.setCell_keeps Cell.adm _ _ ?_ p
      rfl
    · rfl

/-- An event other than CELL_LOST leaves the management requests. -/
theorem State.raise_mgmt (s : State) {code : Nat} (inst : Nat) (detail : Word) (t : Nat) (h : code ≠ 0x0303) :
    (s.raise code inst detail t).mgmt = s.mgmt := by
  obtain ⟨u, hu, k | k | k⟩ := s.raise_reacted code inst detail t
  · rw [k.mgmt, hu.mgmt]
  · rw [k.mgmt, ← hu.mgmt]
    unfold State.cellReaction
    rw [if_neg h]
    split <;> rfl
  · rw [k.mgmt, ← hu.mgmt]
    unfold State.cellNoted
    split <;> rfl

/-! ## The cut-off -/

theorem bnot_of {b : Bool} (h : b = false) : (!b) = true := congrArg (!·) h

theorem not_bnot {b : Bool} (h : b = true) : ¬ (!b) = true := fun k => Bool.false_ne_true
    ((congrArg (!·) h).symm.trans k)


/-- What every part of the cut-off keeps: registers, lanes, the cycle count and its own mark; a cell's fresh slot is
only taken away, and a stale cell without one stays stale. -/
structure State.CutKeeps (s t : State) : Prop where
  regs : t.regs = s.regs
  lanes : t.lanes = s.lanes
  mono : t.mono = s.mono
  cutAt : t.sched.cutAt = s.sched.cutAt
  fresh : ∀ ci, (s.cell ci).fresh = false → (t.cell ci).fresh = false
  stale : ∀ ci, (s.cell ci).fresh = false → (s.cell ci).stale = true → (t.cell ci).stale = true

namespace State.CutKeeps

variable {s t u : State}

theorem of_cells (regs : t.regs = s.regs) (lanes : t.lanes = s.lanes) (mono : t.mono = s.mono)
    (cutAt : t.sched.cutAt = s.sched.cutAt) (cells : t.cells = s.cells) : s.CutKeeps t := by
  have cell (ci : Nat) : t.cell ci = s.cell ci := congrArg (Tab.get _ · ci) cells
  exact ⟨regs, lanes, mono, cutAt, fun ci h => (cell ci).symm ▸ h, fun ci _ h => (cell ci).symm ▸ h⟩

theorem refl (s : State) : s.CutKeeps s := of_cells rfl rfl rfl rfl rfl

theorem trans (h : s.CutKeeps t) (k : t.CutKeeps u) : s.CutKeeps u :=
  ⟨k.regs.trans h.regs, k.lanes.trans h.lanes, k.mono.trans h.mono, k.cutAt.trans h.cutAt,
    fun ci hf => k.fresh ci (h.fresh ci hf), fun ci hf hs => k.stale ci (h.fresh ci hf) (h.stale ci hf hs)⟩

theorem ite {c : Prop} [Decidable c] (ht : s.CutKeeps t) (hu : s.CutKeeps u) : s.CutKeeps (if c then t else u) := by
  split
  · exact ht
  · exact hu

theorem foldl {α : Type} {f : State → α → State} (h : ∀ (s : State) (x : α), s.CutKeeps (f s x)) (l : List α)
    (s : State) : s.CutKeeps (l.foldl f s) := by
  induction l generalizing s with
  | nil => exact refl s
  | cons x l ih => exact (h s x).trans (ih _)

theorem raise (s : State) (code inst : Nat) (detail : Word) (t : Nat) : s.CutKeeps (s.raise code inst detail t) := by
  have reach := s.raise_reach code inst detail t
  have same (ci : Nat) := s.raise_noted code inst detail t ci
  refine ⟨reach.regs, reach.lanes, reach.mono, congrArg Sched.cutAt reach.sched, fun ci h => ?_, fun ci _ h => ?_⟩
  · rw [same ci]
    exact h
  · rw [same ci]
    exact h

theorem clear (s : State) (code inst t : Nat) : s.CutKeeps (s.clear code inst t) := by
  have reach := s.clear_reach code inst t
  exact of_cells reach.regs reach.lanes reach.mono (congrArg Sched.cutAt reach.sched) (State.clear_cells ..)

theorem judge (s : State) (code inst : Nat) (present : Bool) (need : Nat) (detail : Word) (t : Nat) :
    s.CutKeeps (s.judge code inst present need detail t) :=
  .ite (raise ..) (.ite (clear ..) (of_cells rfl rfl rfl rfl rfl))

theorem judgeRun (s : State) (code inst : Nat) (present : Bool) (run need quiet t : Nat) :
    s.CutKeeps (s.judgeRun code inst present run need quiet t) := .ite (raise ..) (.ite (refl s) (judge ..))

theorem sameButWear (h : s.SameButWear t) : s.CutKeeps t := by
  unfold State.SameButWear at h
  rw [h]
  exact of_cells rfl rfl rfl rfl rfl

end State.CutKeeps

/-- A cell's record at the cut-off has no fresh slot, and it is stale where it had none. -/
theorem State.cutCell_same (s : State) (ci p : Nat) :
    (p ≠ ci → (s.cutCell ci).cell p = s.cell p)
      ∧ ((s.cutCell ci).cell ci).fresh = false
        ∧ ((s.cell ci).fresh = false → ((s.cutCell ci).cell ci).stale = true) := by
  unfold State.cutCell
  extract_lets c bad stale gone old cut _ s1 s2
  have stored (u : State) (hu : s2.SameButWear u) :
      (p ≠ ci → u.cell p = s.cell p) ∧ (u.cell ci).fresh = false
        ∧ ((s.cell ci).fresh = false → (u.cell ci).stale = true) := by
    unfold State.SameButWear at hu
    have cells : u.cells = s2.cells := by rw [hu]
    have cell (j : Nat) : u.cell j = s2.cell j := congrArg (Tab.get _ · j) cells
    rw [cell, cell]
    refine ⟨fun hp => State.setCell_cell_ne _ _ _ _ hp, congrArg Cell.fresh (State.setCell_cell ..), fun hf => ?_⟩
    refine (congrArg Cell.stale (State.setCell_cell ..)).trans ?_
    simp [stale, c, hf]
  split
  · exact stored _ (State.storeWear_sameButWear ..)
  · exact stored _ (.refl _)

theorem State.cutCell_keeps (s : State) (ci : Nat) : s.CutKeeps (s.cutCell ci) := by
  have same : (s.cutCell ci).regs = s.regs ∧ (s.cutCell ci).lanes = s.lanes ∧ (s.cutCell ci).mono = s.mono
      ∧ (s.cutCell ci).sched.cutAt = s.sched.cutAt := by
    unfold State.cutCell
    extract_lets c bad stale gone old cut _ s1 s2
    have stored (u : State) (hu : s2.SameButWear u) :
        u.regs = s.regs ∧ u.lanes = s.lanes ∧ u.mono = s.mono ∧ u.sched.cutAt = s.sched.cutAt := by
      unfold State.SameButWear at hu
      rw [hu]
      exact ⟨rfl, rfl, rfl, rfl⟩
    split
    · exact stored _ (State.storeWear_sameButWear ..)
    · exact stored _ (.refl _)
  obtain ⟨regs, lanes, mono, cutAt⟩ := same
  refine ⟨regs, lanes, mono, cutAt, fun p hf => ?_, fun p hf hs => ?_⟩
  · obtain ⟨other, fresh, -⟩ := s.cutCell_same ci p
    by_cases hp : p = ci
    · exact hp ▸ fresh
    · rw [other hp, hf]
  · obtain ⟨other, -, stale⟩ := s.cutCell_same ci p
    by_cases hp : p = ci
    · exact hp ▸ stale (hp ▸ hf)
    · rw [other hp, hs]

/-- After the cut-off of the cells of a list none of them has a fresh slot, and each that had none is stale. -/
theorem State.cutCells_same (l : List Nat) (s : State) :
    ∀ ci ∈ l, ((l.foldl State.cutCell s).cell ci).fresh = false
      ∧ ((s.cell ci).fresh = false → ((l.foldl State.cutCell s).cell ci).stale = true) := by
  induction l generalizing s with
  | nil => exact fun ci h => absurd h List.not_mem_nil
  | cons p l ih =>
    intro ci hm
    have rest : (s.cutCell p).CutKeeps (l.foldl State.cutCell (s.cutCell p)) := .foldl State.cutCell_keeps _ _
    by_cases hp : ci = p
    · obtain ⟨-, fresh, stale⟩ := s.cutCell_same ci ci
      subst hp
      exact ⟨rest.fresh _ fresh, fun hf => rest.stale _ fresh (stale hf)⟩
    · obtain ⟨fresh, stale⟩ := ih (s.cutCell p) ci ((List.mem_cons.mp hm).resolve_left hp)
      refine ⟨fresh, fun hf => stale ?_⟩
      rw [(s.cutCell_same p ci).1 hp]
      exact hf

theorem State.cutLeft_keeps (s : State) : s.CutKeeps s.cutLeft := by
  refine .foldl (fun u x => ?_) _ s
  refine .trans ?_ (.sameButWear (State.storeWear_sameButWear ..))
  exact .of_cells rfl rfl rfl rfl rfl

theorem State.unexpectedGone_keeps (s : State) : s.CutKeeps s.unexpectedGone := by
  refine .foldl (fun u e => ?_) _ s
  dsimp only
  have set (n : Nat) : u.CutKeeps (u.setCell e.inst { u.cell e.inst with noSlot := n, fresh := false }) := by
    refine ⟨rfl, rfl, rfl, rfl, fun p hf => ?_, fun p _ hs => ?_⟩
    · by_cases hp : p = e.inst
      · rw [hp, State.setCell_cell]
      · rw [State.setCell_cell_ne _ _ _ _ hp, hf]
    · refine (u.setCell_keeps Cell.stale e.inst _ ?_ p).trans hs
      rfl
  exact .ite ((set _).trans (.clear ..)) (set _)

theorem State.cutFound_keeps (s : State) : s.CutKeeps s.cutFound := by
  refine .foldl (fun u b => ?_) _ s
  exact .of_cells rfl rfl rfl rfl rfl

theorem State.aiAges_keeps (s : State) : s.CutKeeps s.aiAges :=
  .foldl (fun u _ => .ite (.ite (.raise ..) (.refl u)) (.clear ..)) _ s

theorem State.cutStack_keeps (s : State) (k : Nat) : s.CutKeeps (s.cutStack k) := by
  unfold State.cutStack
  extract_lets ins i sp1 sp2 high d run s1 s2 w f
  have h1 : s.CutKeeps s1 := .of_cells rfl rfl rfl rfl rfl
  have h2 : s.CutKeeps s2 := .ite (h1.trans (.judgeRun ..)) h1
  refine h2.trans (.foldl (fun u ci => ?_) _ _)
  exact .of_cells rfl rfl rfl rfl rfl

theorem State.cutAi_keeps (s : State) : s.CutKeeps s.cutAi := .of_cells rfl rfl rfl rfl rfl

theorem State.cutQuants_keeps (s : State) : s.CutKeeps s.cutQuants := .of_cells rfl rfl rfl rfl rfl

/-- The parts of the cut-off between the cells' own and the stacks'. -/
def State.cutImage (s : State) : State := s.cutLeft.unexpectedGone.cutFound.aiAges.cutAi

theorem State.cutImage_keeps (s : State) : s.CutKeeps s.cutImage := by
  have ages := (State.cutLeft_keeps s).trans ((State.unexpectedGone_keeps _).trans ((State.cutFound_keeps _).trans
    (State.aiAges_keeps _)))
  exact ages.trans (State.cutAi_keeps _)

/-- The end of the cut-off: its mark, the stacks' parts and their quantities. -/
def State.cutStacks (s : State) : State :=
  let s : State := { s with sched := { s.sched with cutAt := s.mono } }
  (((List.range 16).filter s.stackEn).foldl (fun (s : State) (k : Nat) => s.cutStack k) s).cutQuants

theorem State.cutStacks_keeps (s : State) :
    ({ s with sched := { s.sched with cutAt := s.mono } } : State).CutKeeps s.cutStacks := by
  exact .trans (.foldl State.cutStack_keeps ((List.range 16).filter s.stackEn) _) (State.cutQuants_keeps _)

theorem State.cutStacks_eq (s : State) : s.cutImage.cutStacks =
    let s : State := s.cutLeft.unexpectedGone.cutFound.aiAges.cutAi
    let s : State := { s with sched := { s.sched with cutAt := s.mono } }
    (((List.range 16).filter s.stackEn).foldl (fun (s : State) (k : Nat) => s.cutStack k) s).cutQuants := by
  unfold State.cutStacks State.cutImage
  rfl

theorem execTelemetryCutoff_powered {s : State} (hp : s.sys.powered = true) :
    execTelemetryCutoff s = .next (s.silent.allCells.foldl State.cutCell s.silent).cutImage.cutStacks := by
  have on : ¬ (!s.silent.sys.powered) = true := not_bnot hp
  unfold execTelemetryCutoff
  extract_lets s0 s1 s2 s3
  rw [if_neg on]
  exact congrArg Host.Outcome.next (State.cutStacks_eq s1).symm

theorem execTelemetryCutoff_facts {s : State} (hp : s.sys.powered = true) : ∃ t, execTelemetryCutoff s = .next t
    ∧ t.sched.cutAt = s.mono ∧ (∀ ci ∈ s.allCells, (s.cell ci).fresh = false → (t.cell ci).stale = true)
    ∧ (∀ ci ∈ s.allCells, (t.cell ci).fresh = false) ∧ t.regs = s.regs ∧ t.lanes = s.lanes := by
  have cells : s.silent.CutKeeps (s.allCells.foldl State.cutCell s.silent) := .foldl State.cutCell_keeps _ _
  have cut := State.cutCells_same s.allCells s.silent
  have same : s.silent.allCells = s.allCells := rfl
  refine ⟨(s.allCells.foldl State.cutCell s.silent).cutImage.cutStacks, same ▸ execTelemetryCutoff_powered hp, ?_⟩
  generalize s.allCells.foldl State.cutCell s.silent = a at *
  have image := a.cutImage_keeps
  have ended := a.cutImage.cutStacks_keeps
  generalize a.cutImage.cutStacks = d at ended ⊢
  generalize a.cutImage = b at image ended
  refine ⟨?_, fun ci hm hf => ?_, fun ci hm => ?_, ?_, ?_⟩
  · exact ended.cutAt.trans (image.mono.trans cells.mono)
  · obtain ⟨fresh, stale⟩ := cut ci hm
    exact ended.stale ci (image.fresh ci fresh) (image.stale ci fresh (stale hf))
  · exact ended.fresh ci (image.fresh ci (cut ci hm).1)
  · exact ended.regs.trans (image.regs.trans cells.regs)
  · exact ended.lanes.trans (image.lanes.trans cells.lanes)

/-- A slot under an accepted header of a configured string is judged by its validity, then by its cell. -/
theorem execTelemetrySlotReceive_of_got {s : State} {p : Fin 64} {pos : Fin 96} (slot : List Byte) (err : Bool)
    (t : Tick) (conf : s.configured (s.basePort p) = true) (used : (p : Nat) ∈ s.usedPorts (s.basePort p))
    (ok : (s.str p).hdr.ok = true) (low : (pos : Nat) < (s.str p).hdr.slots) :
    execTelemetrySlotReceive p pos slot err t s =
      let b := s.basePort p
      let h := (s.str p).hdr
      let ci := 48 * b + (pos : Nat)
      if !slotValid h slot err then .next (if s.slotReached b (s.portSide p) pos h then s.silent.strErr b 1 t else s.silent)
      else if !s.enabled ci ∨ !s.occupied ci then
        let u := (s.silent.setCell ci { s.cell ci with fresh := true }).raise 0x0104 ci 0 t
        .next (if slotReply slot then u.takeReply b ci slot t else u)
      else if s.mono - (s.cycle.setWidth 16 - h.cycle).toNat ≤ (s.cell ci).samp
        ∧ (s.cell ci).slot ≠ [] then .next s.silent
      else .next (s.silent.slotEnter b ci (s.mono - (s.cycle.setWidth 16 - h.cycle).toNat) slot t) := by
  refine if_neg ?_
  rintro (h | h | h | h)
  · exact absurd ((congrArg (!·) conf).symm.trans h) Bool.false_ne_true
  · exact h used
  · exact absurd ((congrArg (!·) ok).symm.trans h) Bool.false_ne_true
  · exact absurd low (Nat.not_lt.mpr h)

/-- Settles O46: a slot's and the loss limit's branches; the cut-off's parts each keep what `State.CutKeeps` says, so
that what the cells' own part does stands at its end. -/
theorem telemetryEntersAndIsCutOff : Obligations.TelemetryEntersAndIsCutOff := by
  unfold Obligations.TelemetryEntersAndIsCutOff
  refine fun s => ⟨fun p pos slot err t => ?_, fun hp => if_pos (bnot_of hp), execTelemetryCutoff_facts, fun ci => ?_⟩
  · intro b h ci samp got
    refine ⟨fun hg => if_pos ?_, fun ⟨conf, used, ok, low⟩ => ?_⟩
    · change (!s.configured b) = true ∨ (p : Nat) ∉ s.usedPorts b ∨ (!h.ok) = true ∨ h.slots ≤ (pos : Nat)
      simp only [got, Classical.not_and_iff_not_or_not, Nat.not_lt, Bool.not_eq_true, Bool.not_eq_true'] at hg ⊢
      exact hg
    · have eq := execTelemetrySlotReceive_of_got slot err t conf used ok low
      refine ⟨fun hv => ?_, fun hv => ⟨fun hc => ?_, fun en occ => ⟨fun hs hl => ?_, fun hs => ?_⟩⟩⟩
      · exact eq.trans (if_pos (bnot_of hv))
      · refine eq.trans ((if_neg (not_bnot hv)).trans (if_pos ?_))
        simpa only [Bool.not_eq_true'] using hc
      all_goals
        refine eq.trans ((if_neg (not_bnot hv)).trans ((if_neg (not_or.mpr ⟨not_bnot en, not_bnot occ⟩)).trans ?_))
      · exact if_pos ⟨hs, hl⟩
      · refine if_neg fun k => hs.elim (fun h => ?_) k.2
        exact absurd k.1 (Nat.not_le.mpr h)
  · intro c due
    have branch : ((!s.enabled ci) = true ∨ c.lost = true ∨ c.adm = .none
        ∨ c.noSlot < W.LINK_LOSS_LOST_LIMIT (s.word K.LINK_LOSS)) ↔ ¬ due := by
      simp only [due, Classical.not_and_iff_not_or_not, Nat.not_le, Bool.not_eq_true, Bool.not_eq_true',
        Bool.not_eq_false, ne_eq, Classical.not_not]
    exact ⟨fun h => if_pos (branch.mpr h), fun h => if_neg fun k => branch.mp k h⟩

/-! ## Enumeration, admission and pre-charge -/

theorem State.enumMissing_facts (s : State) (ci : Nat) : s.EventReach (s.enumMissing ci)
    ∧ ((s.enumMissing ci).cell ci).adm = .none ∧ ((s.enumMissing ci).cell ci).seen = 0
    ∧ (s.enabled ci = true → (s.enumMissing ci).isActive 0x0101 ci = true) := by
  unfold State.enumMissing
  extract_lets _ u
  have set : s.EventReach u := by constructor <;> rfl
  have cell : u.cell ci = _ := State.setCell_cell ..
  split
  · have kept := u.raise_noted 0x0101 ci 0 0 ci
    refine ⟨set.trans (State.raise_reach ..), ?_, ?_, fun _ => State.raise_isActive _ _ _ _ (by decide)⟩
    · rw [State.raise_adm _ _ _ _ (by decide), cell]
    · rw [kept, cell]
  · rename_i h
    exact ⟨set, by rw [cell], by rw [cell], fun he => absurd he h⟩

theorem State.enumDone_left (s : State) (b ci : Nat) :
    ((s.enumDone b ci).str b).enumLeft = (s.str b).enumLeft.filter (· ≠ ci - 48 * b) := by
  unfold State.enumDone
  have set := congrArg Str.enumLeft (State.setStr_str s b { s.str b with
    enumLeft := (s.str b).enumLeft.filter (· ≠ ci - 48 * b) })
  exact set

theorem execEnumReplyTimeout_awaited {s : State} {ci : Fin 3072} (ho : (s.str (s.cellPort ci)).enumOp ≠ 0)
    (hl : (ci : Nat) - 48 * s.cellPort ci ∈ (s.str (s.cellPort ci)).enumLeft) :
    execEnumReplyTimeout ci s = .next (((s.silent.setMg ci { s.mg ci with await := 0, req := [] }).enumMissing ci).enumDone
      (s.cellPort ci) ci) :=
  if_neg fun h => h.elim ho fun k => k hl

/-- The step of an admission that has done its part is the next one; what follows it leaves the step. -/
theorem State.toStep_step (s : State) (ci n : Nat) : ((s.toStep ci n).mg ci).step = n :=
  congrArg Mgmt.step (State.setMg_mg ..)

theorem State.request_step (s : State) (ci code : Nat) (params : List Byte) :
    ((s.request ci code params).mg ci).step = (s.mg ci).step := by
  unfold State.request
  extract_lets m sq bytes u
  have set : u.mg ci = _ := State.setMg_mg s ci _
  have step := congrArg Mgmt.step set
  exact step

theorem State.endEpoch_facts (s : State) (ci : Nat) : ((s.endEpoch ci).mg ci).step = (s.mg ci).step
    ∧ (s.endEpoch ci).regs = s.regs ∧ (s.endEpoch ci).cells = s.cells := by
  unfold State.endEpoch
  split
  · exact ⟨State.request_step .., rfl, rfl⟩
  · exact ⟨rfl, rfl, rfl⟩

theorem State.clear_sameService (s : State) (code inst t : Nat) : s.SameService (s.clear code inst t) := by
  unfold State.clear
  split
  · refine .trans ?_ (State.enqueue_sameService ..)
    exact ⟨rfl, rfl, rfl⟩
  · exact .refl s

theorem State.postCode_sameService (s : State) (ci sw : Nat) (on : Bool) (code : Nat) :
    s.SameService (s.postCode ci sw on code) := ⟨rfl, rfl, rfl⟩

theorem State.wearAdmit_sameService (s : State) (ci : Nat) (ident : Word) (sw : Nat) :
    s.SameService (s.wearAdmit ci ident sw) := by
  have set (u : State) (j : Nat) (x : SupSw) : u.SameService (u.setSupSw j x) := ⟨rfl, rfl, rfl⟩
  unfold State.wearAdmit
  extract_lets j e c on off same _ w0 _ s1 w s2
  have h1 : s.SameService s1 := by
    dsimp only [s1]
    split <;> exact ⟨rfl, rfl, rfl⟩
  have h2 : s.SameService s2 := h1.trans (set _ _ _)
  exact h2.trans ((State.postCode_sameService ..).trans (State.postCode_sameService ..))

theorem State.supAdmit_sameService (s : State) (ci : Nat) : s.SameService (s.supAdmit ci) := by
  unfold State.supAdmit
  extract_lets ident fresh s1 _ s2
  have h2 : s.SameService s2 := .trans (.foldl (fun _ _ => State.wearAdmit_sameService ..) _ s) ⟨rfl, rfl, rfl⟩
  exact .ite (h2.trans (State.clear_sameService ..)) h2

theorem State.resetTherm_sameService (s : State) (ci : Nat) : s.SameService (s.resetTherm ci) := by
  have set (u : State) (j : Nat) : u.SameService (u.setThSw j ThSw.init) := ⟨rfl, rfl, rfl⟩
  unfold State.resetTherm
  extract_lets s1 _ s2 _
  have h1 : s.SameService s1 := .foldl (fun u sw => set u _) _ s
  have h2 : s.SameService s2 := h1.trans ⟨rfl, rfl, rfl⟩
  exact h2.trans ⟨rfl, rfl, rfl⟩

theorem State.admitGranted_facts (s : State) (ci e : Nat) : ((s.admitGranted ci e).mg ci) = s.mg ci
    ∧ (s.admitGranted ci e).regs = s.regs ∧ ((s.admitGranted ci e).cell ci).adm = .charging
    ∧ ((s.admitGranted ci e).cell ci).epoch = e := by
  unfold State.admitGranted
  extract_lets _ s1 _ s2 _ s3
  have done := (s3.supAdmit_sameService ci).trans (State.resetTherm_sameService _ ci)
  have cell : s1.cell ci = _ := State.setCell_cell s ci _
  have last : s3.cell ci = s1.cell ci := rfl
  have same := (done.cell ci).trans (last.trans cell)
  exact ⟨congrArg (Tab.get _ · ci) done.mgmt, done.regs, by rw [same], by rw [same]⟩

/-- What a pre-charge's insertion of a cell leaves alone. -/
structure State.InsertKeeps (s t : State) : Prop where
  regs : t.regs = s.regs
  mode : t.sys.mode = s.sys.mode
  sched : t.sched = s.sched

theorem State.InsertKeeps.trans {s t u : State} (h : s.InsertKeeps t) (k : t.InsertKeeps u) : s.InsertKeeps u :=
  ⟨k.regs.trans h.regs, k.mode.trans h.mode, k.sched.trans h.sched⟩

theorem State.InsertKeeps.foldl {α : Type} {f : State → α → State} (h : ∀ (s : State) (x : α), s.InsertKeeps (f s x))
    (l : List α) (s : State) : s.InsertKeeps (l.foldl f s) := by
  induction l generalizing s with
  | nil => exact ⟨rfl, rfl, rfl⟩
  | cons x l ih => exact (h s x).trans (ih _)

theorem State.InsertKeeps.of_reach {s t : State} (h : s.EventReach t) : s.InsertKeeps t :=
  ⟨h.regs, by rw [h.sys], h.sched⟩

theorem State.insertCell_keeps (s : State) (ci : Nat) : s.InsertKeeps (s.insertCell ci) := by
  unfold State.insertCell
  extract_lets _ s1 m s2 s3
  have h3 : s.InsertKeeps s3 := ⟨rfl, rfl, rfl⟩
  exact h3.trans (.of_reach (State.clear_reach ..))

theorem State.backToFound_keeps (s : State) (ci : Nat) : s.InsertKeeps (s.backToFound ci) := ⟨rfl, rfl, rfl⟩

/-- Entering a state notes it with its reason and leaves the registers. -/
theorem State.setMode_facts (s : State) (dst : ModState) (reason : Nat) : (s.setMode dst reason).sys.mode = dst
    ∧ (s.setMode dst reason).sys.reason = reason ∧ (s.setMode dst reason).regs = s.regs := by
  unfold State.setMode
  extract_lets from_ _ s1 s2
  have h2 : s2.sys = s1.sys ∧ s2.regs = s1.regs := by
    dsimp only [s2]
    split
    · split <;> exact ⟨rfl, rfl⟩
    · exact ⟨rfl, rfl⟩
  obtain ⟨sys, regs⟩ := h2
  have reach := State.raise_reach s2 0x0003 0 (at_ reason 16 ||| at_ (modCode from_) 12 ||| at_ (modCode dst) 0) 0
  refine ⟨?_, ?_, reach.regs.trans regs⟩
  · rw [reach.sys, sys]
  · rw [reach.sys, sys]

theorem State.phaseEnd_facts (s : State) (k : Nat) : (s.phaseEnd k).regs = s.regs
    ∧ (s.phaseEnd k).sys.mode = s.sys.mode ∧ ((s.phaseEnd k).schStack k).phase = 0
    ∧ ∀ j, j ≠ k → (s.phaseEnd k).schStack j = s.schStack j := by
  have kept : s.InsertKeeps ((s.chargingCells k).foldl State.insertCell s) := .foldl State.insertCell_keeps _ s
  unfold State.phaseEnd
  generalize (s.chargingCells k).foldl State.insertCell s = u at kept
  dsimp only
  refine ⟨kept.regs, kept.mode, ?_, fun j hj => ?_⟩
  · rw [State.setSchStack_schStack]
  · rw [State.setSchStack_schStack_ne _ _ _ _ hj]
    unfold State.schStack
    rw [kept.sched]

/-- The end of stack `k`'s part of the pre-charge `o`. -/
def State.phaseDone (s : State) (k : Nat) (o : OpRec) : State :=
  (s.phaseEnd k).opUpd o.id fun x => { x with done := (s.phaseEnd k).preDone o }

theorem State.phaseDone_facts (s : State) (k : Nat) (o : OpRec) : (s.phaseDone k o).regs = s.regs
    ∧ (s.phaseDone k o).sys.mode = s.sys.mode ∧ ((s.phaseDone k o).schStack k).phase = 0
    ∧ ∀ j, j ≠ k → (s.phaseDone k o).schStack j = s.schStack j := by
  have ended := s.phaseEnd_facts k
  unfold State.phaseDone
  generalize s.phaseEnd k = u at ended ⊢
  exact ended

theorem State.endPrecharge_facts (s : State) (o : OpRec) (fail : Bool) : (s.endPrecharge o fail).sys.mode = .standby
    ∧ (s.endPrecharge o fail).sys.reason = 5 ∧ (s.endPrecharge o fail).regs = s.regs := by
  unfold State.endPrecharge
  extract_lets first cells s1 s2 s3
  have h1 : s.InsertKeeps s1 := by
    refine .foldl (fun u ci => ?_) _ s
    split
    · split
      · exact State.insertCell_keeps ..
      · exact State.backToFound_keeps ..
    · split <;> exact ⟨rfl, rfl, rfl⟩
  have h2 : s2.regs = s1.regs := by
    dsimp only [s2]
    split <;> rfl
  have h3 : s3.regs = s2.regs := by
    dsimp only [s3]
    split
    · exact State.raise_regs ..
    · rfl
  obtain ⟨mode, reason, regs⟩ := s3.setMode_facts .standby 5
  exact ⟨mode, reason, regs.trans (h3.trans (h2.trans h1.regs))⟩

/-- The branch of a pre-charge's phase that has held for its time. -/
theorem execPrechargePhaseComplete_some {s : State} {k : Fin 16} {o : OpRec} (ho : s.preOp = some o) :
    execPrechargePhaseComplete k s =
      if s.sys.mode ≠ .charging ∨ !o.arg.testBit k ∨ (s.schStack k).phase = 0
        ∨ (s.schStack k).phaseRun < 100 then .next s.silent
      else if (s.schStack k).phase = 1 ∧ s.stackType k = 3 then
        .next (s.silent.setSchStack k { s.schStack k with phase := 2, phaseRun := 0 })
      else
        if o.stacks.any fun j => decide (((s.silent.phaseDone k o).schStack j).phase ≠ 0) then .next (s.silent.phaseDone k o)
        else .next ((((s.silent.phaseDone k o).opUpd o.id fun x => { x with done := 1000 }).opEnd o.id 1 0).setMode
          .ready 4) := by
  have ho' : s.silent.preOp = some o := ho
  unfold execPrechargePhaseComplete
  dsimp only
  rw [ho']
  rfl

theorem execPrechargeTimeout_some {s : State} {o : OpRec} (ho : s.preOp = some o) : execPrechargeTimeout s =
    .next (if s.sys.mode = .charging ∧ o.last + 100000 * W.SYS_PRE_TMO (s.word K.SYS_PRE) ≤ s.mono
      then s.silent.endPrecharge o true else s.silent) := by
  have ho' : s.silent.preOp = some o := ho
  unfold execPrechargeTimeout
  dsimp only
  rw [ho']
  rfl

/-- The end of an enumeration of a string: it is over, and FOUND is judged against the number configured. -/
theorem execEnumerationComplete_whole {s : State} {p : Fin 64} (ho : (s.str p).enumOp ≠ 0)
    (hl : (s.str p).enumLeft = [])
    (hm : ∀ ci ∈ s.stringCells p, (s.cell ci).adm = .found → s.measured p ci = true) :
    ∃ t, execEnumerationComplete p s = .next t ∧ (t.str p).enumOp = 0
      ∧ t.isActive 0x0308 p = decide ((s.str p).found ≠ W.PORT_CFG_CELLS (s.portCfg p)) ∧ t.regs = s.regs
      ∧ t.lanes = s.lanes := by
  have closed : ¬ ((s.stringCells p).any fun ci => decide ((s.cell ci).adm = .found) && !s.measured p ci) = true := by
    intro h
    obtain ⟨ci, hc, h⟩ := List.any_eq_true.mp h
    obtain ⟨hf, hn⟩ := Bool.and_eq_true_iff.mp h
    exact not_bnot (hm ci hc (of_decide_eq_true hf)) hn
  unfold execEnumerationComplete
  extract_lets s0 x open_ s1 s2
  have go : ¬ (x.enumOp = 0 ∨ x.enumLeft ≠ [] ∨ open_ = true) := by
    rintro (h | h | h)
    · exact ho h
    · exact h hl
    · exact closed h
  rw [if_neg go]
  have ended : (s1.str p).enumOp = 0 := congrArg Str.enumOp (State.setStr_str s0 p _)
  have judged : s1.EventReach s2 ∧ s2.isActive 0x0308 p = decide ((s.str p).found ≠ W.PORT_CFG_CELLS (s.portCfg p)) := by
    dsimp only [s2]
    split
    · rename_i h
      exact ⟨State.clear_reach .., (State.clear_isActive_same ..).trans (decide_eq_false (Classical.not_not.mpr h)).symm⟩
    · rename_i h
      exact ⟨State.raise_reach .., (State.raise_isActive _ _ _ _ (by decide)).trans (decide_eq_true h).symm⟩
  obtain ⟨reach, active⟩ := judged
  have str : (s2.str p).enumOp = 0 := (congrArg Str.enumOp (congrArg (Tab.get _ · p) reach.strs)).trans ended
  refine ⟨_, rfl, ?_⟩
  split <;> exact ⟨str, active, reach.regs, reach.lanes⟩

/-- The condition of cell `ci`'s admission step is met. -/
def State.stepReady (s : State) (ci : Nat) : Prop :=
  let m := s.mg ci
  (m.step = 1 ∧ m.done 1 = true ∧ s.admitMatches ci (BitVec.ofNat 32 (beAt m.seenReply 4 4)) = true)
    ∨ (m.step = 2 ∧ m.done 2 = true ∧ s.measured (s.cellPort ci) ci = true)
    ∨ (m.step = 3 ∧ m.done 3 = true ∧ beAt m.seenReply 8 1 = nextEpoch (s.cell ci).epoch)
    ∨ (m.step = 4 ∧ slotState (s.cell ci).slot = 2 ∧ (s.cell ci).noSlot = 0)

theorem execAdmissionStepProceed_waits {s : State} {ci : Fin 3072} (h : ¬ s.stepReady ci) :
    execAdmissionStepProceed ci s = .next s.silent := by
  unfold execAdmissionStepProceed
  extract_lets s0 b m ident e
  split
  · rename_i step
    exact if_neg fun k => h (.inl ⟨step, Bool.and_eq_true_iff.mp k⟩)
  · rename_i step
    exact if_neg fun k => h (.inr (.inl ⟨step, Bool.and_eq_true_iff.mp k⟩))
  · rename_i step
    refine if_neg fun k => h (.inr (.inr (.inl ⟨step, ?_⟩)))
    exact ⟨(Bool.and_eq_true_iff.mp k).1, of_decide_eq_true (Bool.and_eq_true_iff.mp k).2⟩
  · rename_i step
    refine if_neg fun k => h (.inr (.inr (.inr ⟨step, ?_⟩)))
    exact ⟨of_decide_eq_true (Bool.and_eq_true_iff.mp k).1, of_decide_eq_true (Bool.and_eq_true_iff.mp k).2⟩
  · rfl

theorem execAdmissionStepProceed_ready {s : State} {ci : Fin 3072} (h : s.stepReady ci) :
    ∃ t, execAdmissionStepProceed ci s = .next t ∧ (t.mg ci).step = (s.mg ci).step + 1 ∧ t.regs = s.regs
      ∧ ((s.mg ci).step ≠ 3 → t.cells = s.cells)
      ∧ ((s.mg ci).step = 3 → (t.cell ci).adm = .charging ∧ (t.cell ci).epoch = nextEpoch (s.cell ci).epoch) := by
  unfold execAdmissionStepProceed
  extract_lets s0 b m ident e
  rcases h with ⟨step, h⟩ | ⟨step, h⟩ | ⟨step, done, reply⟩ | ⟨step, state, slot⟩
  · obtain ⟨kept, regs, cells⟩ := ((s0.toStep ci 2).admitMeasure ci).endEpoch_facts ci
    rw [show m.step = 1 from step]
    refine ⟨_, if_pos (Bool.and_eq_true_iff.mpr h), ?_, regs, fun _ => cells,
      fun k => absurd (step.symm.trans k) (by decide)⟩
    rw [kept, step]
    exact State.toStep_step s0 ci 2
  · rw [show m.step = 2 from step]
    refine ⟨_, if_pos (Bool.and_eq_true_iff.mpr h), ?_, rfl, fun _ => rfl,
      fun k => absurd (step.symm.trans k) (by decide)⟩
    rw [State.request_step, step]
    exact State.toStep_step s0 ci 3
  · obtain ⟨mg, regs, adm, epoch⟩ := (s0.toStep ci 4).admitGranted_facts ci e
    rw [show m.step = 3 from step]
    refine ⟨_, if_pos (Bool.and_eq_true_iff.mpr ⟨done, decide_eq_true reply⟩), ?_, regs, fun k => absurd step k,
      fun _ => ⟨adm, epoch⟩⟩
    rw [mg, step]
    exact State.toStep_step s0 ci 4
  · rw [show m.step = 4 from step]
    refine ⟨_, if_pos (Bool.and_eq_true_iff.mpr ⟨decide_eq_true state, decide_eq_true slot⟩), ?_, rfl, fun _ => rfl,
      fun k => absurd (step.symm.trans k) (by decide)⟩
    rw [step]
    exact State.toStep_step s0 ci 5

/-- Settles O47: each row's condition and its effect, with what events, requests and insertions leave alone. -/
theorem admissionStepsAndPrechargePhases : Obligations.AdmissionStepsAndPrechargePhases := by
  unfold Obligations.AdmissionStepsAndPrechargePhases
  refine fun s => ⟨fun ci => ?_, fun p => ?_, fun k o ho => ?_, fun hn => ⟨fun k => ?_, ?_⟩, fun o ho => ?_⟩
  · intro b m awaited ident ready late
    refine ⟨fun h => ?_, fun ⟨ho, hl⟩ => ?_, execAdmissionStepProceed_waits, execAdmissionStepProceed_ready,
      fun h => ?_,
      fun ⟨step, pre, due⟩ => ?_⟩
    · refine if_pos ?_
      change (s.str b).enumOp = 0 ∨ (ci : Nat) - 48 * b ∉ (s.str b).enumLeft
      simpa only [awaited, Classical.not_and_iff_not_or_not, ne_eq, Classical.not_not] using h
    · obtain ⟨reach, adm, seen, active⟩ := (s.silent.setMg ci { s.mg ci with await := 0, req := [] }).enumMissing_facts ci
      refine ⟨_, execEnumReplyTimeout_awaited ho hl, ?_, adm, seen, active, reach.regs, reach.lanes⟩
      rw [State.enumDone_left, State.str, reach.strs]
      rfl
    · refine if_pos ?_
      change m.step = 0 ∨ s.inPrecharge ci = true ∨ s.mono < m.since + 1000 * W.LINK_LOSS_ADMIT_TMO (s.word K.LINK_LOSS)
      simpa only [late, Classical.not_and_iff_not_or_not, ne_eq, Classical.not_not, Nat.not_le,
        Bool.not_eq_false] using h
    · refine if_neg ?_
      rintro (h | h | h)
      · exact step h
      · exact Bool.false_ne_true (pre.symm.trans h)
      · exact absurd due (Nat.not_le.mpr h)
  · intro x whole
    refine ⟨fun h => if_pos ?_, fun ⟨ho, hl, hm⟩ => execEnumerationComplete_whole ho hl hm⟩
    change x.enumOp = 0 ∨ x.enumLeft ≠ []
      ∨ ((s.stringCells p).any fun ci => decide ((s.cell ci).adm = .found) && !s.measured p ci) = true
    by_cases ho : x.enumOp = 0
    · exact .inl ho
    · by_cases hl : x.enumLeft = []
      · refine .inr (.inr (Bool.not_eq_false _ ▸ fun none => h ⟨ho, hl, fun ci hc hf => ?_⟩))
        have closed := List.any_eq_false.mp none ci hc
        rw [decide_eq_true hf, Bool.true_and, Bool.not_eq_true', Bool.not_eq_false] at closed
        exact closed
      · exact .inr (.inl hl)
  · intro held two
    have eq := execPrechargePhaseComplete_some (k := k) ho
    have branch : (s.sys.mode ≠ .charging ∨ (!o.arg.testBit k) = true ∨ (s.schStack k).phase = 0
        ∨ (s.schStack k).phaseRun < 100) ↔ ¬ held := by
      simp only [held, Classical.not_and_iff_not_or_not, Nat.not_le, Bool.not_eq_true', Bool.not_eq_true, ne_eq,
        Classical.not_not]
    obtain ⟨regs, mode, phase, other⟩ := s.silent.phaseDone_facts k o
    generalize s.silent.phaseDone k o = u at eq regs mode phase other
    refine ⟨fun h => eq.trans (if_pos (branch.mpr h)), fun h ht => ?_, fun h ht => ⟨fun all => ?_,
      fun j hj hk hp => ?_⟩⟩
    · exact eq.trans ((if_neg fun k => branch.mp k h).trans (if_pos ht))
    · refine ⟨_, eq.trans ((if_neg fun k => branch.mp k h).trans ((if_neg ht).trans (if_neg ?_))), ?_⟩
      · intro some
        obtain ⟨j, hj, hp⟩ := List.any_eq_true.mp some
        refine of_decide_eq_true hp ?_
        by_cases hk : j = k
        · rw [hk, phase]
        · rw [other j hk]
          exact all j hj hk
      · obtain ⟨mode, reason, regs'⟩ := ((u.opUpd o.id fun x => { x with done := 1000 }).opEnd o.id 1 0).setMode_facts .ready 4
        exact ⟨mode, reason, regs'.trans regs⟩
    · refine ⟨_, eq.trans ((if_neg fun k => branch.mp k h).trans ((if_neg ht).trans (if_pos ?_))), mode, phase, regs⟩
      refine List.any_eq_true.mpr ⟨j, hj, decide_eq_true ?_⟩
      exact fun hz => hp ((congrArg SchStack.phase (other j hk)).symm.trans hz)
  · change execPrechargePhaseComplete k s = _
    unfold execPrechargePhaseComplete
    dsimp only
    rw [show s.silent.preOp = none from hn]
  · change execPrechargeTimeout s = _
    unfold execPrechargeTimeout
    dsimp only
    rw [show s.silent.preOp = none from hn]
  · intro late
    have eq := execPrechargeTimeout_some ho
    exact ⟨fun h => eq.trans (congrArg _ (if_neg h)), fun h => ⟨_, eq.trans (congrArg _ (if_pos h)),
      s.silent.endPrecharge_facts o true⟩⟩

/-! ## The cycle boundary -/

/-- The environment of a boundary in which nothing happens. -/
def calm : Env := { baseT := 0, feedA := 0, feedB := 0, drift := [], incomplete := [] }

/-- A powered pair side that shows a release to its partner and whose PAIR_CTL becomes 0 at the boundary. -/
def leavingPair : State :=
  let s : State := State.reset.setWord K.PAIR_CTL 1
  { s with
    sys := { s.sys with powered := true }
    shadow := { s.shadow with release := 1 }
    nextW := [(K.PAIR_CTL, 0)] }

/-- The releases that an outcome's state shows to the partner. -/
def outcomeReleases (o : Host.Outcome State Fault Refusal) : Nat :=
  match o with
  | .next t => t.shadow.release
  | _ => 0

theorem leavingPair_boundary : outcomeReleases (exec (.cycleBoundary calm) leavingPair) = 1 := by decide +kernel

theorem leavingPair_side : leavingPair.pairSide = true := by decide +kernel

/-- Refutes O48: the words that waited are put in force before the pair's part of the boundary, so that a side whose
PAIR_CTL becomes 0 there is no pair side any more when that part is reached, and its release stays shown. -/
theorem not_theCycleBoundaryAdvancesTheClock : ¬ Obligations.TheCycleBoundaryAdvancesTheClock := by
  unfold Obligations.TheCycleBoundaryAdvancesTheClock
  intro h
  obtain ⟨t, ht, -, -, -, -, -, -, -, -, -, -, shown, -⟩ := (h calm leavingPair).2 rfl
  have release := leavingPair_boundary
  rw [ht] at release
  exact absurd ((shown leavingPair_side).symm.trans release) (by decide)

end Sys2Proof.Machine
end


section
/-! PROOFS. The safety island: O54 to O56. -/

namespace Sys2Proof.Machine

open Sys2Proof.Machine

/-! ## The two channels of the safety island -/

@[simp] theorem Saf.setCh_ch_same (f : Saf) (c : Nat) (x : SafCh) : (f.setCh c x).ch c = x := by
  unfold Saf.setCh Saf.ch
  split <;> rfl

theorem Saf.setCh_ch_ne (f : Saf) {c k : Nat} (x : SafCh) (h : (c = 0) ≠ (k = 0)) : (f.setCh c x).ch k = f.ch k := by
  unfold Saf.setCh Saf.ch
  by_cases hc : c = 0 <;> by_cases hk : k = 0 <;> simp_all

@[simp] theorem Saf.setCh_pulse (f : Saf) (c : Nat) (x : SafCh) : (f.setCh c x).pulse = f.pulse := by
  unfold Saf.setCh
  split <;> rfl

@[simp] theorem Saf.setCh_island (f : Saf) (c : Nat) (x : SafCh) : (f.setCh c x).island = f.island := by
  unfold Saf.setCh
  split <;> rfl

/-- The channel that is not `c`. -/
theorem other_channel (c : Fin 2) : (((c : Nat) = 0) ≠ (1 - (c : Nat) = 0)) := by
  simp only [ne_eq, eq_iff_iff]
  omega

theorem Saf.Same.ch {f g : Saf} (h : f.Same g) (k : Nat) : g.ch k = f.ch k := by
  rw [Saf.ch, Saf.ch, h.chA, h.chB]

/-- `y` is channel `x` with other functions and output commands: its readings, faults and connections are the same. -/
def SafCh.SameReadings (x y : SafCh) : Prop :=
  y = { x with spb := y.spb, stb := y.stb, spbAt := y.spbAt, stbAt := y.stbAt, cmd := y.cmd }

namespace SafCh.SameReadings

variable {x y z : SafCh}

theorem refl (x : SafCh) : x.SameReadings x := rfl

theorem trans (h : x.SameReadings y) (k : y.SameReadings z) : x.SameReadings z := by
  unfold SafCh.SameReadings at *
  rw [k, h]

theorem lineA (h : x.SameReadings y) : y.lineA = x.lineA := by rw [h]
theorem lineB (h : x.SameReadings y) : y.lineB = x.lineB := by rw [h]
theorem disc (h : x.SameReadings y) : y.disc = x.disc := by rw [h]
theorem discF (h : x.SameReadings y) : y.discF = x.discF := by rw [h]
theorem testF (h : x.SameReadings y) : y.testF = x.testF := by rw [h]
theorem sfl (h : x.SameReadings y) : y.sfl = x.sfl := by rw [h]
theorem bad (h : x.SameReadings y) : y.bad = x.bad := by rw [h]

theorem conn (h : x.SameReadings y) (j : Nat) : y.conn j = x.conn j := by rw [SafCh.conn, SafCh.conn, h.sfl]

theorem pulseCheck (h : x.SameReadings y) {s t : State} (hr : t.regs = s.regs) (src : Nat) :
    t.pulseCheck y src = s.pulseCheck x src := by
  rw [h]
  unfold State.pulseCheck State.siCfg State.word
  rw [hr]

theorem inputDemanded (h : x.SameReadings y) {s t : State} (hr : t.regs = s.regs) (n : Nat) :
    t.inputDemanded y n = s.inputDemanded x n := by
  unfold State.inputDemanded State.siCfg State.word
  rw [hr, h]

theorem stbDemand (h : x.SameReadings y) {s t : State} (hr : t.regs = s.regs) : t.stbDemand y = s.stbDemand x := by
  unfold State.stbDemand
  simp only [h.inputDemanded hr, h.conn, State.siCfg, State.sflCfg, State.consumed, State.word, hr]

theorem spbDemand (h : x.SameReadings y) {s t : State} (hr : t.regs = s.regs) : t.spbDemand y = s.spbDemand x := by
  unfold State.spbDemand
  simp only [h.stbDemand hr, h.inputDemanded hr, h.conn, State.siCfg, State.sflCfg, State.consumed, State.word, hr]

end SafCh.SameReadings

/-- Driving the outputs sets each channel's command and nothing else of it. -/
theorem State.safDrive_ch (s : State) (was t k : Nat) :
    (s.safDrive was t).saf.ch k = { s.saf.ch k with cmd := s.commands (s.saf.ch k) } := by
  rw [State.safDrive_saf, Saf.ch, Saf.ch]
  split <;> rfl

/-- Evaluating channel `c` changes functions and commands only. -/
theorem State.safEval_readings (s : State) (c t k : Nat) :
    (s.saf.ch k).SameReadings ((s.safEval c t).saf.ch k) := by
  by_cases run : s.saf.island = islRun
  · obtain ⟨f, was, u, e, hf, -, same⟩ := s.safEval_saf c t run
    rw [e, State.safDrive_ch, hf, same.ch]
    by_cases hk : (c = 0) = (k = 0)
    · have : s.saf.ch c = s.saf.ch k := by simp only [Saf.ch, hk]
      rw [show ∀ x, (s.saf.setCh c x).ch k = x from fun x => by
        simp only [Saf.ch, Saf.setCh]; by_cases h : c = 0 <;> simp_all, this]
      rfl
    · rw [Saf.setCh_ch_ne _ _ hk]
      rfl
  · rw [s.safEval_idle c t run]
    exact .refl _

/-- Evaluating channel `c` leaves the other channel's functions. -/
theorem State.safEval_other (s : State) {c k : Nat} (t : Nat) (h : (c = 0) ≠ (k = 0)) :
    ((s.safEval c t).saf.ch k).spb = (s.saf.ch k).spb ∧ ((s.safEval c t).saf.ch k).stb = (s.saf.ch k).stb := by
  by_cases run : s.saf.island = islRun
  · obtain ⟨f, was, u, e, hf, -, same⟩ := s.safEval_saf c t run
    rw [e, State.safDrive_ch, hf, same.ch, Saf.setCh_ch_ne _ _ h]
    exact ⟨rfl, rfl⟩
  · rw [s.safEval_idle c t run]
    exact ⟨rfl, rfl⟩

/-- In RUN a demand source of channel `c` has its function in DEMAND after the evaluation. -/
theorem State.safEval_demand (s : State) (c t : Nat) (run : s.saf.island = islRun) :
    ((s.safEval c t).stbDemand ((s.safEval c t).saf.ch c) = true → ((s.safEval c t).saf.ch c).stb = fnDemand)
    ∧ ((s.safEval c t).spbDemand ((s.safEval c t).saf.ch c) = true → ((s.safEval c t).saf.ch c).spb = fnDemand) := by
  rw [(s.safEval_readings c t c).stbDemand (s.safEval_reach c t).regs,
    (s.safEval_readings c t c).spbDemand (s.safEval_reach c t).regs]
  obtain ⟨f, was, u, e, hf, -, same⟩ := s.safEval_saf c t run
  rw [e, State.safDrive_ch, hf, same.ch, Saf.setCh_ch_same]
  exact ⟨fun h => if_pos h, fun h => if_pos h⟩

/-! ## What the island's raises leave of the events -/

theorem State.safRaise_isActive_ne (s : State) (ch code inst t : Nat) {c i : Nat} (h : c ≠ code ∨ i ≠ inst)
    (hg : c ≠ 0x0B03) : (s.safRaise ch code inst t).isActive c i = s.isActive c i := by
  unfold State.safRaise
  dsimp only
  rw [State.raise_isActive_ne _ _ _ _ _ h hg]
  split <;> rfl

theorem State.safDrive_isActive (s : State) (was t c i : Nat) : (s.safDrive was t).isActive c i = s.isActive c i := by
  refine State.isActive_of_active ?_ ..
  unfold State.safDrive
  dsimp only
  split
  · rfl
  · exact State.block_active ..

/-- An evaluation makes no event active but those of the two functions. -/
theorem State.safEval_isActive (s : State) (ch t : Nat) {c i : Nat} (h1 : c ≠ 0x0A01) (h2 : c ≠ 0x0A02)
    (hg : c ≠ 0x0B03) : (s.safEval ch t).isActive c i = s.isActive c i := by
  have raised (u : State) (b : Prop) [Decidable b] (code : Nat) (h : c ≠ code) :
      (if b then u.safRaise ch code 0 t else u).isActive c i = u.isActive c i := by
    split
    · exact State.safRaise_isActive_ne _ _ _ _ _ (.inl h) hg
    · rfl
  unfold State.safEval
  split
  · rfl
  · exact (State.safDrive_isActive ..).trans ((raised _ _ _ h2).trans (raised _ _ _ h1))

/-! ## The inputs -/

theorem State.silent_safReach (s : State) : s.SafReach s.silent := by constructor <;> rfl

/-- A sample takes the readings of its channel, ends the event of a stuck SRST, and evaluates the channel. -/
theorem safetyInputSample_eq (s : State) (ch : Fin 2) (t : Tick) (a b : Byte) (srst : Bool) :
    ∃ x : SafCh, exec (.safetyInputSample ch a b srst t) s =
        .next (let v : State := { s.silent with saf := s.saf.setCh ch x }
          (if srst then v else v.clear 0x0A0E 0 t).safEval ch t)
      ∧ x.lineA = (if (s.saf.ch ch).maskA = 0 then a.toNat else (s.saf.ch ch).lineA)
      ∧ x.lineB = (if (s.saf.ch ch).maskB = 0 then b.toNat else (s.saf.ch ch).lineB) :=
  ⟨_, rfl, rfl, rfl⟩

/-- A sampled state that is evaluated next: the readings are in, and SRST OFF ends its event. -/
theorem State.sampled_facts (s : State) (ch : Nat) (x : SafCh) (t : Nat) (srst : Bool) :
    let v : State := { s.silent with saf := s.saf.setCh ch x }
    let w := if srst then v else v.clear 0x0A0E 0 t
    s.SafReach w ∧ w.saf = s.saf.setCh ch x ∧ (srst = false → w.isActive 0x0A0E 0 = false) := by
  intro v w
  have set : s.SafReach v := s.silent_safReach.trans (s.silent.safSet_reach _)
  cases srst with
  | false => exact ⟨set.trans (State.clear_reach ..).safReach, (State.clear_reach ..).saf,
    fun _ => State.clear_isActive_same ..⟩
  | true => exact ⟨set, rfl, nofun⟩

/-- R323, R324: the readings, the events and the functions after a sample. -/
theorem safetyInputSample_facts (s : State) (ch : Fin 2) (t : Tick) (a b : Byte) (srst : Bool) :
    let x := s.saf.ch ch
    ∃ u, exec (.safetyInputSample ch a b srst t) s = .next u
      ∧ (u.saf.ch ch).lineA = (if x.maskA = 0 then a.toNat else x.lineA)
      ∧ (u.saf.ch ch).lineB = (if x.maskB = 0 then b.toNat else x.lineB)
      ∧ (srst = false → u.isActive 0x0A0E 0 = false)
      ∧ (s.saf.island = islRun → u.stbDemand (u.saf.ch ch) = true → (u.saf.ch ch).stb = fnDemand)
      ∧ (s.saf.island = islRun → u.spbDemand (u.saf.ch ch) = true → (u.saf.ch ch).spb = fnDemand)
      ∧ (u.saf.ch (1 - (ch : Nat))).spb = (s.saf.ch (1 - (ch : Nat))).spb
      ∧ (u.saf.ch (1 - (ch : Nat))).stb = (s.saf.ch (1 - (ch : Nat))).stb ∧ u.regs = s.regs ∧ u.lanes = s.lanes := by
  intro x
  obtain ⟨y, eq, lineA, lineB⟩ := safetyInputSample_eq s ch t a b srst
  obtain ⟨reach, saf, srstOff⟩ := s.sampled_facts ch y t srst
  dsimp only at eq
  generalize (if srst then _ else _) = v at eq reach saf srstOff
  have read := v.safEval_readings ch t ch
  have other := v.safEval_other t (other_channel ch)
  have run (h : s.saf.island = islRun) : v.saf.island = islRun := by rw [saf, Saf.setCh_island, h]
  rw [saf, Saf.setCh_ch_same] at read
  rw [saf, Saf.setCh_ch_ne _ _ (other_channel ch)] at other
  have whole := reach.trans (v.safEval_reach ch t)
  refine ⟨_, eq, read.lineA.trans lineA, read.lineB.trans lineB, fun off => ?_,
    fun h => (v.safEval_demand ch t (run h)).1,
    fun h => (v.safEval_demand ch t (run h)).2, other.1, other.2, whole.regs, whole.lanes⟩
  rw [State.safEval_isActive _ _ _ (by decide) (by decide) (by decide)]
  exact srstOff off

/-! ## Discrepancies -/

/-- The run of differences of input `n` as its next discrepancy sample counts it (R325). -/
def SafCh.discNext (x : SafCh) (n : Nat) : Nat :=
  if x.lineA.testBit n = x.lineB.testBit n then 0 else Tab.get (fun _ => 0) x.disc n + 1

/-- The fault that the next discrepancy sample of input `n` latches (R325). -/
def State.discOver (s : State) (x : SafCh) (n : Nat) : Bool :=
  W.SI_CFG_EN (s.siCfg n) && decide (W.SI_CFG_DISC (s.siCfg n) < x.discNext n)

theorem State.discInput_reach (s : State) (ch t n : Nat) : s.SafReach (s.discInput ch t n) :=
  ite_safReach ((s.safSet_reach _).trans (State.safRaise_reach ..)) (s.safSet_reach _)

/-- The channel after the discrepancy sample of input `n`. -/
theorem State.discInput_ch (s : State) (ch t n : Nat) :
    let x := s.saf.ch ch
    let y := (s.discInput ch t n).saf.ch ch
    y.lineA = x.lineA ∧ y.lineB = x.lineB ∧ y.disc = Tab.put (fun _ => 0) x.disc n (x.discNext n)
      ∧ y.discF = mset x.discF n (x.discF.testBit n || s.discOver x n) := by
  have saf (z : State) (b : Bool) (x : SafCh) (h : z.saf = s.saf.setCh ch x) :
      (if b then z.safRaise ch 0x0A03 n t else z).saf.ch ch = x := by
    split
    · rw [(State.safRaise_same ..).ch, h, Saf.setCh_ch_same]
    · rw [h, Saf.setCh_ch_same]
  intro x y
  have step : y = _ := saf _ _ _ rfl
  rw [step]
  exact ⟨rfl, rfl, rfl, rfl⟩

/-- What a discrepancy sample has done to channel `ch` once the inputs below `n` are judged. -/
structure State.Discrepant (s : State) (ch n : Nat) (u : State) : Prop where
  reach : s.SafReach u
  lineA : (u.saf.ch ch).lineA = (s.saf.ch ch).lineA
  lineB : (u.saf.ch ch).lineB = (s.saf.ch ch).lineB
  todo : ∀ m, n ≤ m → Tab.get (fun _ => 0) (u.saf.ch ch).disc m = Tab.get (fun _ => 0) (s.saf.ch ch).disc m
  counted : ∀ m, m < n → Tab.get (fun _ => 0) (u.saf.ch ch).disc m = (s.saf.ch ch).discNext m
  latched : ∀ m, m < n → s.discOver (s.saf.ch ch) m = true → (u.saf.ch ch).discF.testBit m = true

/-- The inputs are judged one by one, each on its own bit and count. -/
theorem State.discInputs (s : State) (ch t n : Nat) :
    s.Discrepant ch n ((List.range n).foldl (fun (s : State) (m : Nat) => s.discInput ch t m) s) := by
  induction n with
  | zero => exact ⟨.refl s, rfl, rfl, fun _ _ => rfl, nofun, nofun⟩
  | succ n ih =>
    rw [List.range_succ, List.foldl_append]
    generalize (List.range n).foldl (fun (s : State) (m : Nat) => s.discInput ch t m) s = u at ih ⊢
    show s.Discrepant ch (n + 1) (u.discInput ch t n)
    obtain ⟨lineA, lineB, disc, discF⟩ := u.discInput_ch ch t n
    have next : (u.saf.ch ch).discNext n = (s.saf.ch ch).discNext n := by
      unfold SafCh.discNext
      rw [ih.lineA, ih.lineB, ih.todo n (Nat.le_refl n)]
    have fault : u.discOver (u.saf.ch ch) n = s.discOver (s.saf.ch ch) n := by
      unfold State.discOver State.siCfg State.word
      rw [next, ih.reach.regs]
    refine ⟨ih.reach.trans (u.discInput_reach ..), lineA.trans ih.lineA, lineB.trans ih.lineB, fun m hm => ?_,
      fun m hm => ?_, fun m hm hf => ?_⟩
    · rw [disc, Tab.get_put_ne _ _ _ (by omega)]
      exact ih.todo m (by omega)
    · rw [disc, next]
      rcases Nat.lt_succ_iff_lt_or_eq.mp hm with h | rfl
      · rw [Tab.get_put_ne _ _ _ (by omega)]
        exact ih.counted m h
      · exact Tab.get_put_same ..
    · rw [discF, fault, mset_testBit]
      rcases Nat.lt_succ_iff_lt_or_eq.mp hm with h | rfl
      · rw [if_neg (by omega)]
        exact ih.latched m h hf
      · simp [hf]

/-- R325, R326: the counts and the latched faults after a discrepancy sample. -/
theorem discrepancySample_facts (s : State) (ch : Fin 2) (t : Tick) :
    let x := s.saf.ch ch
    ∃ u, exec (.discrepancySample ch t) s = .next u ∧ (∀ n : Nat, n < 8 →
        let k := if x.lineA.testBit n = x.lineB.testBit n then 0 else Tab.get (fun _ => 0) x.disc n + 1
        Tab.get (fun _ => 0) (u.saf.ch ch).disc n = k
        ∧ (W.SI_CFG_EN (s.siCfg n) = true → W.SI_CFG_DISC (s.siCfg n) < k → (u.saf.ch ch).discF.testBit n = true))
        ∧ u.regs = s.regs ∧ u.lanes = s.lanes := by
  intro x
  have judged := s.silent.discInputs ch t 8
  refine ⟨_, rfl, fun n hn => ?_, ?_⟩
  · generalize (List.range 8).foldl _ s.silent = v at judged ⊢
    have read := v.safEval_readings ch t ch
    refine ⟨by rw [read.disc]; exact judged.counted n hn, fun en less => ?_⟩
    rw [read.discF]
    exact judged.latched n hn (Bool.and_eq_true_iff.mpr ⟨en, decide_eq_true less⟩)
  · have whole := judged.reach.trans (State.safEval_reach _ ch t)
    exact ⟨whole.regs, whole.lanes⟩

/-! ## Test pulses of the inputs -/

/-- R327: the end of a source's running pulse at one channel. -/
def State.pulseJudged (s : State) (src : Fin 2) (t ch : Nat) : State :=
  let x := s.saf.ch ch
  let r := s.pulseCheck x src
  let y : SafCh := { x with
    testF := x.testF ||| r.2, testOk := mclr (x.testOk ||| (mclr r.1 r.2 &&& x.testF)) r.2
    maskA := if (src : Nat) = 0 then 2 else x.maskA, maskB := if (src : Nat) = 1 then 2 else x.maskB, pulseOff := 0 }
  (((List.range 8).filter r.2.testBit).foldl (fun (s : State) (n : Nat) => s.safRaise ch 0x0A04 n t)
    { s with saf := s.saf.setCh ch y }).safEval ch t

theorem State.pulseJudged_reach (s : State) (src : Fin 2) (t ch : Nat) : s.SafReach (s.pulseJudged src t ch) :=
  ((s.safSet_reach _).trans (State.safRaises_reach ..)).trans (State.safEval_reach ..)

/-- The judgement latches the failed lines of the channel. -/
theorem State.pulseJudged_testF (s : State) (src : Fin 2) (t ch : Nat) :
    ((s.pulseJudged src t ch).saf.ch ch).testF = (s.saf.ch ch).testF ||| (s.pulseCheck (s.saf.ch ch) src).2 := by
  unfold State.pulseJudged
  rw [(State.safEval_readings ..).testF, (State.safRaises_same ..).ch, Saf.setCh_ch_same]

/-- The judgement of one channel leaves the other channel's readings. -/
theorem State.pulseJudged_other (s : State) (src : Fin 2) (t : Nat) {ch k : Nat} (h : (ch = 0) ≠ (k = 0)) :
    (s.saf.ch k).SameReadings ((s.pulseJudged src t ch).saf.ch k) := by
  unfold State.pulseJudged
  have read := State.safEval_readings
  refine .trans ?_ (read ..)
  rw [(State.safRaises_same ..).ch, Saf.setCh_ch_ne _ _ h]
  exact .refl _

theorem inputTestPulseEnd_eq (s : State) (src : Fin 2) (t : Tick) (h : s.saf.pulse = some (src : Nat)) :
    exec (.inputTestPulseEnd src t) s =
      .next (let u := (s.silent.pulseJudged src t 0).pulseJudged src t 1
        { u with saf := { u.saf with pulse := none } }) :=
  if_neg (Classical.not_not.mpr h)

/-- R327: the faults latched at the end of a pulse. -/
theorem inputTestPulseEnd_facts (s : State) (ch src : Fin 2) (t : Tick) (h : s.saf.pulse = some (src : Nat)) :
    ∃ u, exec (.inputTestPulseEnd src t) s = .next u ∧ u.saf.pulse = none
      ∧ (u.saf.ch ch).testF = (s.saf.ch ch).testF ||| (s.pulseCheck (s.saf.ch ch) src).2
      ∧ u.regs = s.regs ∧ u.lanes = s.lanes := by
  have first := s.silent.pulseJudged_reach src t 0
  have whole := first.trans (State.pulseJudged_reach _ src t 1)
  refine ⟨_, inputTestPulseEnd_eq s src t h, rfl, ?_, whole.regs, whole.lanes⟩
  match ch with
  | 0 =>
    refine Eq.trans ?_ (s.silent.pulseJudged_testF src t 0)
    exact (State.pulseJudged_other _ src t (by decide : (1 = 0) ≠ (0 = 0))).testF
  | 1 =>
    have kept := s.silent.pulseJudged_other src t (by decide : (0 = 0) ≠ (1 = 0))
    refine (State.pulseJudged_testF _ src t 1).trans ?_
    rw [kept.testF, kept.pulseCheck first.regs]
    rfl

/-- R327: a channel at the start of a source's pulse whose mask window is `n` samples long. -/
def SafCh.pulsed (x : SafCh) (src n : Nat) : SafCh :=
  if src = 0 then { x with beforeA := x.lineA, beforeB := x.lineB, pulseOff := 0, maskA := n }
  else { x with beforeA := x.lineA, beforeB := x.lineB, pulseOff := 0, maskB := n }

theorem SafCh.pulsed_facts (x : SafCh) (src n : Nat) :
    (x.pulsed src n).maskA = (if src = 0 then n else x.maskA)
      ∧ (x.pulsed src n).maskB = (if src = 0 then x.maskB else n)
      ∧ (x.pulsed src n).beforeA = x.lineA ∧ (x.pulsed src n).beforeB = x.lineB := by
  unfold SafCh.pulsed
  split <;> exact ⟨rfl, rfl, rfl, rfl⟩

/-- R327: a due pulse masks its own line in both channels and keeps what the lines read before it. -/
theorem inputTestPulseStart_facts (s : State) (ch src : Fin 2) (h : s.inPulseDue src = true) :
    let x := s.saf.ch ch
    let n := W.SAF_CTL_TP_W (s.word K.SAF_CTL) + 3
    ∃ u, exec (.inputTestPulseStart src) s = .next u ∧ u.saf.pulse = some (src : Nat)
      ∧ (u.saf.ch ch).maskA = (if (src : Nat) = 0 then n else x.maskA)
      ∧ (u.saf.ch ch).maskB = (if (src : Nat) = 0 then x.maskB else n)
      ∧ (u.saf.ch ch).beforeA = x.lineA ∧ (u.saf.ch ch).beforeB = x.lineB ∧ u.regs = s.regs ∧ u.evt = s.evt := by
  intro x n
  have pulsed := x.pulsed_facts src n
  refine ⟨_, if_neg (not_bnot h), rfl, ?_⟩
  generalize hu : (State.mk ..) = u
  have chan (k : Fin 2) : u.saf.ch k = (s.saf.ch k).pulsed src n := by
    rw [← hu]
    match k with
    | 0 => rfl
    | 1 => rfl
  rw [chan]
  exact ⟨pulsed.1, pulsed.2.1, pulsed.2.2.1, pulsed.2.2.2, by rw [← hu]; rfl, by rw [← hu]; rfl⟩

/-! ## The lock timer -/

/-- R328: channel `x` after the lock timer of SPB. -/
def State.spbTimed (s : State) (x : SafCh) : SafCh :=
  if x.spb = fnDemand ∧ !s.spbDemand x ∧ x.spbAt + 1000 ≤ s.mono then { x with spb := fnLocked } else x

/-- R328: channel `x` after the lock timer of STB. -/
def State.stbTimed (s : State) (x : SafCh) : SafCh :=
  if x.stb = fnDemand ∧ !s.stbDemand x ∧ x.stbAt + 1000 ≤ s.mono then { x with stb := fnLocked } else x

theorem State.spbTimed_facts (s : State) (x : SafCh) : (s.spbTimed x).stb = x.stb ∧ (s.spbTimed x).spb =
    if x.spb = fnDemand ∧ s.spbDemand x = false ∧ x.spbAt + 1000 ≤ s.mono then fnLocked else x.spb := by
  unfold State.spbTimed
  simp only [Bool.not_eq_true']
  split <;> exact ⟨rfl, rfl⟩

theorem State.stbTimed_facts (s : State) (x : SafCh) : (s.stbTimed x).spb = x.spb ∧ (s.stbTimed x).stb =
    if x.stb = fnDemand ∧ s.stbDemand x = false ∧ x.stbAt + 1000 ≤ s.mono then fnLocked else x.stb := by
  unfold State.stbTimed
  simp only [Bool.not_eq_true']
  split <;> exact ⟨rfl, rfl⟩

theorem functionLockTimer_eq (s : State) (ch f : Fin 2) (run : s.saf.island = islRun) :
    let x := if (f : Nat) = 0 then s.spbTimed (s.saf.ch ch) else s.stbTimed (s.saf.ch ch)
    exec (.functionLockTimer ch f) s =
      .next (({ s.silent with saf := s.saf.setCh ch x } : State).safDrive s.islandMask 0) :=
  if_neg (Classical.not_not.mpr run)

/-- A channel that is written and then driven has what was written, but for its output command. -/
theorem State.setCh_safDrive (s : State) (ch : Nat) (x : SafCh) (was t : Nat) :
    let u := ({ s.silent with saf := s.saf.setCh ch x } : State).safDrive was t
    u.regs = s.regs ∧ (u.saf.ch ch).spb = x.spb ∧ (u.saf.ch ch).stb = x.stb := by
  refine ⟨(State.safDrive_reach ..).regs, ?_, ?_⟩ <;> simp [State.safDrive_ch]

/-- R328: the lock timer of a function in RUN. -/
theorem functionLockTimer_facts (s : State) (ch : Fin 2) (run : s.saf.island = islRun) :
    let x := s.saf.ch ch
    (∃ u, exec (.functionLockTimer ch 0) s = .next u ∧ (u.saf.ch ch).stb = x.stb ∧ u.regs = s.regs
      ∧ (u.saf.ch ch).spb = (if x.spb = fnDemand ∧ s.spbDemand x = false
        ∧ x.spbAt + 1000 ≤ s.mono then fnLocked else x.spb))
    ∧ (∃ u, exec (.functionLockTimer ch 1) s = .next u ∧ (u.saf.ch ch).spb = x.spb ∧ u.regs = s.regs
      ∧ (u.saf.ch ch).stb = (if x.stb = fnDemand ∧ s.stbDemand x = false
        ∧ x.stbAt + 1000 ≤ s.mono then fnLocked else x.stb)) := by
  intro x
  obtain ⟨spbKeeps, spb⟩ := s.spbTimed_facts x
  obtain ⟨stbKeeps, stb⟩ := s.stbTimed_facts x
  obtain ⟨regs0, spb0, stb0⟩ := s.setCh_safDrive ch (s.spbTimed x) s.islandMask 0
  obtain ⟨regs1, spb1, stb1⟩ := s.setCh_safDrive ch (s.stbTimed x) s.islandMask 0
  exact ⟨⟨_, functionLockTimer_eq s ch 0 run, stb0.trans spbKeeps, regs0, spb0.trans spb⟩,
    ⟨_, functionLockTimer_eq s ch 1 run, spb1.trans stbKeeps, regs1, stb1.trans stb⟩⟩

/-- R334: SRST stuck ON is reported exactly where a channel has read ON for more than 10 s under RST_MODE 0. -/
theorem resetStuckTimer_facts (s : State) (t : Tick) :
    let stuck (y : SafCh) : Prop := y.srst = true ∧ y.srstAt + 1000000 < s.mono
    let due := W.SAF_CTL_RST_MODE (s.word K.SAF_CTL) = false ∧ (stuck s.saf.chA ∨ stuck s.saf.chB)
    (due → exec (.resetStuckTimer t) s = .next (s.silent.raise 0x0A0E 0 0 t))
    ∧ (¬ due → exec (.resetStuckTimer t) s = .next s.silent) := by
  intro stuck due
  have cond : (!W.SAF_CTL_RST_MODE (s.word K.SAF_CTL) && ((s.saf.chA.srst && decide (s.saf.chA.srstAt + 1000000 < s.mono))
      || (s.saf.chB.srst && decide (s.saf.chB.srstAt + 1000000 < s.mono)))) = true ↔ due := by
    simp [due, stuck]
  exact ⟨fun h => congrArg Host.Outcome.next (if_pos (cond.mpr h)),
    fun h => congrArg Host.Outcome.next (if_neg (mt cond.mp h))⟩

/-- Settles O54: each row's effect on the channel that it names, evaluated by the lemmas about one channel. -/
theorem safetyInputsMakeDemands : Obligations.SafetyInputsMakeDemands := by
  intro s ch t x
  exact ⟨safetyInputSample_facts s ch t, discrepancySample_facts s ch t,
    fun src => ⟨fun h => if_pos (bnot_of h), inputTestPulseStart_facts s ch src, fun h => if_pos h,
      inputTestPulseEnd_facts s ch src t⟩,
    fun h f => if_pos h, functionLockTimer_facts s ch, resetStuckTimer_facts s t⟩

/-- A table that a list of indices is written to, each with its own value. -/
theorem Tab.get_foldl_put {α : Type} [DecidableEq α] (d : Nat → α) (f : Nat → α) (l : List Nat) (b : Tab α) (k : Nat) :
    Tab.get d (l.foldl (fun (b : Tab α) (k : Nat) => Tab.put d b k (f k)) b) k = if k ∈ l then f k else Tab.get d b k := by
  induction l generalizing b with
  | nil => rfl
  | cons m l ih =>
    rw [List.foldl_cons, ih]
    by_cases hk : k = m
    · subst hk
      simp
    · simp [hk, Tab.get_put_ne _ _ _ hk]

/-! ## Lane islands that do not confirm -/

/-- R330: the lanes of island `isl` lose their transmitter supply. -/
def State.cutLanes (s : State) (isl : Nat) : List Nat → State :=
  List.foldl (fun (s : State) (i : Nat) => s.setLane (8 * isl + i) { s.lane (8 * isl + i) with cut := true }) s

theorem State.cutLanes_reach (isl : Nat) (l : List Nat) (s : State) :
    (s.cutLanes isl l).regs = s.regs ∧ (s.cutLanes isl l).saf = s.saf := by
  induction l generalizing s with
  | nil => exact ⟨rfl, rfl⟩
  | cons i l ih => exact ih _

theorem State.cutLanes_cut (isl : Nat) (l : List Nat) (s : State) (i : Nat)
    (h : i ∈ l ∨ (s.lane (8 * isl + i)).cut = true) : ((s.cutLanes isl l).lane (8 * isl + i)).cut = true := by
  induction l generalizing s with
  | nil => exact h.resolve_left List.not_mem_nil
  | cons m l ih =>
    refine ih _ ?_
    by_cases hi : i = m
    · subst hi
      exact .inr (by simp [State.lane, State.setLane])
    · rcases h with h | h
      · exact .inl (List.mem_of_ne_of_mem hi h)
      · refine .inr (Eq.trans ?_ h)
        unfold State.setLane State.lane
        rw [Tab.get_put_ne _ _ _ (by omega)]

/-- A fault that is raised and then brings FAULT. -/
theorem State.raiseFault_facts (s : State) (c d code inst t : Nat) :
    let u := (s.safRaise c code inst t).safFault d t
    u.saf.island = islFault ∧ u.saf.energised = 0 ∧ u.regs = s.regs ∧ u.lanes = s.lanes :=
  have whole := (s.safRaise_reach c code inst t).trans (State.safFault_reach _ d t)
  ⟨(State.safFault_off ..).1, (State.safFault_off ..).2, whole.regs, whole.lanes⟩

theorem blockConfirmTimeout_eq (s : State) (isl : Fin 8) (ch : Fin 2) (t : Tick)
    (h : (s.islandsOf (s.channelMask (s.saf.ch ch))).testBit isl = true) :
    exec (.blockConfirmTimeout isl ch t) s =
      .next (((s.silent.cutLanes isl (List.range 8)).safRaise ch 0x0A0C isl t).safFault ch t) :=
  if_neg (not_bnot h)

/-- R330: the island of safety in FAULT and the lanes that lose their supply. -/
theorem blockConfirmTimeout_facts (s : State) (isl : Fin 8) (ch : Fin 2) (t : Tick)
    (h : (s.islandsOf (s.channelMask (s.saf.ch ch))).testBit isl = true) :
    ∃ u, exec (.blockConfirmTimeout isl ch t) s = .next u ∧ u.saf.island = islFault ∧ u.saf.energised = 0
      ∧ (∀ i : Fin 8, (u.lane (8 * isl + i)).cut = true) ∧ u.regs = s.regs := by
  have cut (i : Fin 8) := State.cutLanes_cut isl _ s.silent i (.inl (List.mem_range.mpr i.isLt))
  have regs := (s.silent.cutLanes_reach isl (List.range 8)).1
  have eq := blockConfirmTimeout_eq s isl ch t h
  generalize s.silent.cutLanes isl (List.range 8) = v at cut regs eq
  obtain ⟨fault, off, regs', lanes⟩ := v.raiseFault_facts ch ch 0x0A0C isl t
  refine ⟨_, eq, fault, off, fun i => ?_, regs'.trans regs⟩
  rw [State.lane, lanes]
  exact cut i

/-! ## Readbacks -/

/-- The pins of output `k` as a readback gives them. -/
def pinOf (pins : List (BitVec 16 × BitVec 16)) (k : Nat) : Nat × Nat :=
  match pins[k]? with
  | some p => (p.1.toNat, p.2.toNat)
  | none => (0, 0)

/-- Output `k` of channel `ch` reads back badly, under no test pulse (R331, R332). -/
def State.badPins (s : State) (ch : Nat) (pins : List (BitVec 16 × BitVec 16)) (sov k : Nat) : Bool :=
  !decide (Tab.get (fun _ => 0) s.saf.tp k ≠ 0)
    && readbackBad ((s.saf.ch ch).cmd.testBit k) (pinOf pins k).1 (pinOf pins k).2 sov

/-- The run of bad readbacks of output `k` after this one (R331). -/
def State.badNext (s : State) (ch : Nat) (pins : List (BitVec 16 × BitVec 16)) (sov k : Nat) : Nat :=
  if s.badPins ch pins sov k then Tab.get (fun _ => 0) (s.saf.ch ch).bad k + 1 else 0

/-- The runs of bad readbacks of a channel after a readback. -/
def State.badRuns (s : State) (ch : Nat) (pins : List (BitVec 16 × BitVec 16)) (sov : Nat) : Tab Nat :=
  (List.range 4).foldl (fun (b : Tab Nat) (k : Nat) => Tab.put (fun _ => 0) b k (s.badNext ch pins sov k)) (s.saf.ch ch).bad

theorem State.badRuns_get (s : State) (ch : Nat) (pins : List (BitVec 16 × BitVec 16)) (sov : Nat) (k : Fin 4) :
    Tab.get (fun _ => 0) (s.badRuns ch pins sov) k = s.badNext ch pins sov k :=
  (Tab.get_foldl_put _ _ _ _ _).trans (if_pos (List.mem_range.mpr k.isLt))

/-- The outputs that have read back badly three times in a row. -/
def State.badOutputs (s : State) (ch : Nat) (pins : List (BitVec 16 × BitVec 16)) (sov : Nat) : List Nat :=
  (List.range 4).filter fun k => decide (3 ≤ Tab.get (fun _ => 0) (s.badRuns ch pins sov) k)

theorem State.badOutputs_eq_nil (s : State) (ch : Nat) (pins : List (BitVec 16 × BitVec 16)) (sov : Nat) :
    s.badOutputs ch pins sov = [] ↔ ∀ k : Fin 4, s.badNext ch pins sov k < 3 := by
  simp only [State.badOutputs, List.filter_eq_nil_iff, List.mem_range, decide_eq_true_eq, Nat.not_le]
  exact ⟨fun h k => by simpa [State.badRuns_get] using h k k.isLt,
    fun h k hk => Nat.lt_of_le_of_lt (Nat.le_of_eq (State.badRuns_get s ch pins sov ⟨k, hk⟩)) (h ⟨k, hk⟩)⟩

/-- A readback keeps the channel's runs of bad ones and faults the island on a third in a row. -/
theorem outputReadback_eq (s : State) (ch : Fin 2) (pins : List (BitVec 16 × BitVec 16)) (sov : BitVec 16) (t : Tick) :
    ∃ x : SafCh, x.bad = s.badRuns ch pins sov.toNat ∧
      let v : State := { s.silent with saf := s.saf.setCh ch x }
      exec (.outputReadback ch pins sov t) s =
        if s.badOutputs ch pins sov.toNat = [] then .next v
        else .next (((s.badOutputs ch pins sov.toNat).foldl
          (fun (s : State) (k : Nat) => s.safRaise ch 0x0A05 k t) v).safFault ch t) :=
  ⟨_, rfl, rfl⟩

/-- A readback without a third bad one in a row leaves the island's state and the events. -/
theorem outputReadback_passes (s : State) (ch : Fin 2) (pins : List (BitVec 16 × BitVec 16)) (sov : BitVec 16)
    (t : Tick)
    (h : ∀ k : Fin 4, s.badNext ch pins sov.toNat k < 3) :
    ∃ u, exec (.outputReadback ch pins sov t) s = .next u ∧ u.saf.island = s.saf.island ∧ u.evt = s.evt
      ∧ u.regs = s.regs ∧ ∀ k : Fin 4, Tab.get (fun _ => 0) (u.saf.ch ch).bad k = s.badNext ch pins sov.toNat k := by
  obtain ⟨x, bad, eq⟩ := outputReadback_eq s ch pins sov t
  refine ⟨_, eq.trans (if_pos ((s.badOutputs_eq_nil ..).mpr h)), Saf.setCh_island .., rfl, rfl, fun k => ?_⟩
  simp only [Saf.setCh_ch_same, bad]
  exact State.badRuns_get ..

/-- A third bad readback in a row brings FAULT with no output energised. -/
theorem outputReadback_faults (s : State) (ch : Fin 2) (pins : List (BitVec 16 × BitVec 16)) (sov : BitVec 16)
    (t : Tick)
    (k : Fin 4) (h : 3 ≤ s.badNext ch pins sov.toNat k) :
    ∃ u, exec (.outputReadback ch pins sov t) s = .next u ∧ u.saf.island = islFault ∧ u.saf.energised = 0
      ∧ u.regs = s.regs ∧ u.lanes = s.lanes := by
  obtain ⟨x, -, eq⟩ := outputReadback_eq s ch pins sov t
  have some : s.badOutputs ch pins sov.toNat ≠ [] := fun hn =>
    absurd ((s.badOutputs_eq_nil ..).mp hn k) (Nat.not_lt.mpr h)
  refine ⟨_, eq.trans (if_neg some), (State.safFault_off ..).1, (State.safFault_off ..).2, ?_⟩
  have whole := (State.safRaises_reach ch 0x0A05 t (s.badOutputs ch pins sov.toNat)
    { s.silent with saf := s.saf.setCh ch x }).trans (State.safFault_reach _ ch t)
  exact ⟨whole.regs, whole.lanes⟩

/-- The statement's reading of a bad output is that of the readback. -/
theorem State.badPins_iff (s : State) (ch : Nat) (pins : List (BitVec 16 × BitVec 16)) (sov : BitVec 16) {k : Nat}
    {p : BitVec 16 × BitVec 16} (hp : pins[k]? = some p) :
    s.badPins ch pins sov.toNat k = true ↔ Tab.get (fun _ => 0) s.saf.tp k = 0
      ∧ readbackBad ((s.saf.ch ch).cmd.testBit k) p.1.toNat p.2.toNat sov.toNat = true := by
  unfold State.badPins pinOf
  rw [hp]
  simp

/-- R331: what the readbacks of a channel's four outputs do. -/
theorem outputReadback_facts (s : State) (ch : Fin 2) (t : Tick) (pins : List (BitVec 16 × BitVec 16)) (sov : BitVec 16)
    (len : pins.length = 4) :
    let x := s.saf.ch ch
    let bad (k : Fin 4) (p : BitVec 16 × BitVec 16) : Prop := Tab.get (fun _ => 0) s.saf.tp k = 0
      ∧ readbackBad (x.cmd.testBit k) p.1.toNat p.2.toNat sov.toNat = true
    ((∀ (k : Fin 4) p, pins[(k : Nat)]? = some p → ¬ bad k p) →
      ∃ u, exec (.outputReadback ch pins sov t) s = .next u ∧ u.saf.island = s.saf.island ∧ u.evt = s.evt
        ∧ u.regs = s.regs ∧ (∀ k : Fin 4, Tab.get (fun _ => 0) (u.saf.ch ch).bad k = 0))
    ∧ (∀ (k : Fin 4) p, pins[(k : Nat)]? = some p → bad k p →
      2 ≤ Tab.get (fun _ => 0) x.bad k → ∃ u, exec (.outputReadback ch pins sov t) s = .next u
        ∧ u.saf.island = islFault ∧ u.saf.energised = 0 ∧ u.regs = s.regs ∧ u.lanes = s.lanes)
    ∧ ((∀ k : Fin 4, Tab.get (fun _ => 0) x.bad k < 2) → ∃ u, exec (.outputReadback ch pins sov t) s = .next u
        ∧ u.saf.island = s.saf.island ∧ u.evt = s.evt ∧ u.regs = s.regs
        ∧ (∀ (k : Fin 4) p, pins[(k : Nat)]? = some p → bad k p →
          Tab.get (fun _ => 0) (u.saf.ch ch).bad k = Tab.get (fun _ => 0) x.bad k + 1)) := by
  intro x bad
  have next (k : Fin 4) (p) (hp : pins[(k : Nat)]? = some p) (hb : bad k p) :
      s.badNext ch pins sov.toNat k = Tab.get (fun _ => 0) x.bad k + 1 := if_pos ((s.badPins_iff ch pins sov hp).mpr hb)
  refine ⟨fun good => ?_, fun k p hp hb twice => ?_, fun few => ?_⟩
  · have zero (k : Fin 4) : s.badNext ch pins sov.toNat k = 0 :=
      if_neg fun h => good k _ (List.getElem?_eq_getElem (by omega)) ((s.badPins_iff ch pins sov
        (List.getElem?_eq_getElem (by omega))).mp h)
    obtain ⟨u, eq, island, evt, regs, runs⟩ := outputReadback_passes s ch pins sov t fun k => by rw [zero]; decide
    exact ⟨u, eq, island, evt, regs, fun k => (runs k).trans (zero k)⟩
  · exact outputReadback_faults s ch pins sov t k (by rw [next k p hp hb]; omega)
  · have low (k : Fin 4) : s.badNext ch pins sov.toNat k < 3 := by
      have : Tab.get (fun _ => 0) (s.saf.ch ch).bad k < 2 := few k
      unfold State.badNext
      split <;> omega
    obtain ⟨u, eq, island, evt, regs, runs⟩ := outputReadback_passes s ch pins sov t low
    exact ⟨u, eq, island, evt, regs, fun k p hp hb => (runs k).trans (next k p hp hb)⟩

/-! ## The outputs -/

/-- R331: an overload latches and turns its output off. -/
theorem outputOverload_facts (s : State) (ch : Fin 2) (t : Tick) (k : Fin 4) (h : s.saf.energised.testBit k = true) :
    ∃ u, exec (.outputOverload k ch t) s = .next u
      ∧ u.saf.energised.testBit k = false ∧ u.saf.ovl.testBit k = true ∧ u.regs = s.regs := by
  refine ⟨_, if_neg (not_bnot h), ?_⟩
  generalize hv : State.safRaise _ _ _ _ _ = v
  have ovl : v.saf.ovl.testBit k = true := by
    rw [← hv, (State.safRaise_same ..).ovl]
    simp
  refine ⟨State.safDrive_overload _ _ _ _ ovl, ?_, ?_⟩
  · rw [State.safDrive_saf]
    exact ovl
  · rw [(State.safDrive_reach ..).regs, ← hv, (State.safRaise_reach ..).regs]
    rfl

/-- R332: no pulse runs at output `k` any more. -/
def State.pulseEnded (s : State) (k : Nat) : State :=
  { s with saf := { s.saf with tp := Tab.put (fun _ => 0) s.saf.tp k 0 } }

theorem outputTestPulseEnd_eq (s : State) (ch : Fin 2) (t : Tick) (k : Fin 4)
    (h : Tab.get (fun _ => 0) s.saf.tp k = (ch : Nat) + 1) (off : Bool) :
    exec (.outputTestPulseEnd k ch off t) s = .next (if off then s.silent.pulseEnded k
      else ((s.silent.pulseEnded k).safRaise ch 0x0A05 k t).safFault ch t) :=
  if_neg (Classical.not_not.mpr h)

/-- R332, R333: the end of an output's running test pulse. -/
theorem outputTestPulseEnd_facts (s : State) (ch : Fin 2) (t : Tick) (k : Fin 4)
    (h : Tab.get (fun _ => 0) s.saf.tp k = (ch : Nat) + 1) :
    (∃ u, exec (.outputTestPulseEnd k ch true t) s = .next u ∧ Tab.get (fun _ => 0) u.saf.tp k = 0
      ∧ u.saf.island = s.saf.island ∧ u.evt = s.evt ∧ u.regs = s.regs)
    ∧ (∃ u, exec (.outputTestPulseEnd k ch false t) s = .next u ∧ u.saf.island = islFault ∧ u.saf.energised = 0
      ∧ u.regs = s.regs) := by
  have eq := outputTestPulseEnd_eq s ch t k h
  have ended := Tab.get_put_same (fun _ => 0) s.saf.tp k 0
  obtain ⟨fault, off, regs, -⟩ := (s.silent.pulseEnded k).raiseFault_facts ch ch 0x0A05 k t
  exact ⟨⟨_, eq true, ended, rfl, rfl, rfl⟩, ⟨_, eq false, fault, off, regs⟩⟩

/-- R331: the loss of SOV turns every output off. -/
theorem sovLoss_facts (s : State) (t : Tick) : ∃ u, exec (.sovLoss t) s = .next u ∧ u.saf.sovOk = false
    ∧ u.saf.sovLost = true ∧ u.saf.energised = 0 ∧ u.regs = s.regs ∧ u.lanes = s.lanes := by
  refine ⟨_, rfl, ?_⟩
  have same := State.safRaise_same { s.silent with saf := { s.saf with sovOk := false, sovLost := true } } 2 0x0A07 0 t
  have reach := State.safRaise_reach { s.silent with saf := { s.saf with sovOk := false, sovLost := true } } 2 0x0A07 0 t
  have whole := reach.trans (State.safDrive_reach _ s.silent.islandMask t)
  refine ⟨?_, ?_, State.safDrive_energised _ _ _ (.inr (.inl same.sovOk)), whole.regs, whole.lanes⟩ <;>
    rw [State.safDrive_saf]
  · exact same.sovOk
  · exact same.sovLost

/-- R331: the return of SOV is noted, and leaves the outputs off while its loss is latched. -/
theorem sovReturn_facts (s : State) (h : s.saf.sovOk = false) : ∃ u, exec .sovReturn s = .next u ∧ u.saf.sovOk = true
    ∧ u.saf.sovAt = s.mono ∧ (s.saf.sovLost = true → u.saf.energised = 0) ∧ u.regs = s.regs := by
  refine ⟨_, if_neg (by rw [State.silent_saf, h]; decide), ?_, ?_, fun lost => ?_, (State.safDrive_reach ..).regs⟩
  · rw [State.safDrive_saf]
  · rw [State.safDrive_saf]; rfl
  · exact State.safDrive_energised _ _ _ (.inr (.inr lost))

/-- Settles O55: what a fault of an output or of its supply does follows from the laws of driving and faulting. -/
theorem safetyFaultsStopTheOutputs : Obligations.SafetyFaultsStopTheOutputs := by
  intro s ch t
  exact ⟨fun isl => ⟨fun h => if_pos (bnot_of h), blockConfirmTimeout_facts s isl ch t⟩,
    fun pins sov => outputReadback_facts s ch t pins sov,
    fun k => ⟨fun h => if_pos (bnot_of h), outputOverload_facts s ch t k,
      fun h => ⟨_, if_pos h, Tab.get_put_same (fun _ => 0) s.saf.tp k ((ch : Nat) + 1), rfl, rfl, rfl⟩,
      fun h => if_neg (by rw [show s.silent.outPulseDue k ch = s.outPulseDue k ch from rfl, h]; decide),
      fun h off => if_pos h, outputTestPulseEnd_facts s ch t k⟩,
    sovLoss_facts s t, fun h => if_pos h, sovReturn_facts s⟩

/-! ## The reset -/

theorem State.clearWhere_reach (s : State) (code t : Nat) (p : Nat → Bool) : s.EventReach (s.clearWhere code t p) :=
  foldl_reach (fun (u : State) (e : ActEv) => u.clear code e.inst t) (fun u e => u.clear_reach code e.inst t) _ s

/-- R334: the island after a reset accepted at elapsed cycle `now`: what no channel demands is released. -/
def Saf.afterReset (f : Saf) (now : Nat) : Saf :=
  let spb := decide (f.chA.spb ≠ fnDemand ∧ f.chB.spb ≠ fnDemand)
  let stb := decide (f.chA.stb ≠ fnDemand ∧ f.chB.stb ≠ fnDemand)
  { f with
    rstAt := now
    chA := SafCh.reset1 { f.chA with srstRise := none } spb stb
    chB := SafCh.reset1 { f.chB with srstRise := none } spb stb
    ovl := mclr f.ovl (maskOf 4 fun k => decide (Tab.get (fun _ => 0) f.ovlAt k + 100000 ≤ now))
    sovLost := f.sovLost && !(f.sovOk && decide (f.sovAt + 100000 ≤ now)) }

/-- An accepted reset resets the island, ends events, and drives the outputs. -/
theorem safetyReset_eq (s : State) (t : Tick) (run : s.saf.island = islRun) (free : s.isActive 0x0A0E 0 = false)
    (asked : s.resetAsked = true) : ∃ v : State, exec (.safetyReset t) s = .next (v.safDrive s.islandMask t)
      ∧ ({ s.silent with saf := s.saf.afterReset s.mono } : State).EventReach v := by
  have go : ¬ (s.silent.saf.island ≠ islRun ∨ s.silent.isActive 0x0A0E 0 = true ∨ (!s.silent.resetAsked) = true) := by
    rintro (h | h | h)
    · exact h run
    · exact Bool.false_ne_true (free.symm.trans h)
    · exact not_bnot asked h
  refine ⟨_, if_neg go, ?_⟩
  have ends (c : Prop) [Decidable c] (u : State) (code : Nat) : u.EventReach (if c then u.clear code 0 t else u) :=
    ite_reach (State.clear_reach ..) (.refl _)
  have keeps (c : Prop) [Decidable c] (u : State) (code : Nat) : u.EventReach (if c then u else u.clear code 0 t) :=
    ite_reach (.refl _) (State.clear_reach ..)
  refine .trans ?_ (State.clearWhere_reach ..)
  refine .trans ?_ (State.clearWhere_reach ..)
  refine .trans ?_ (keeps _ _ _)
  refine .trans ?_ (State.clearWhere_reach ..)
  refine .trans ?_ (State.clearWhere_reach ..)
  refine .trans ?_ (State.clearWhere_reach ..)
  exact (ends _ _ _).trans (ends _ _ _)

/-- R334: the functions after an accepted reset. -/
theorem safetyReset_facts (s : State) (t : Tick) (run : s.saf.island = islRun) (free : s.isActive 0x0A0E 0 = false)
    (asked : s.resetAsked = true) :
    let f := s.saf
    ∃ u, exec (.safetyReset t) s = .next u
      ∧ u.saf.chA.spb = (if f.chA.spb ≠ fnDemand ∧ f.chB.spb ≠ fnDemand then fnPermit else f.chA.spb)
      ∧ u.saf.chB.spb = (if f.chA.spb ≠ fnDemand ∧ f.chB.spb ≠ fnDemand then fnPermit else f.chB.spb)
      ∧ u.saf.chA.stb = (if f.chA.stb ≠ fnDemand ∧ f.chB.stb ≠ fnDemand then fnPermit else f.chA.stb)
      ∧ u.saf.chB.stb = (if f.chA.stb ≠ fnDemand ∧ f.chB.stb ≠ fnDemand then fnPermit else f.chB.stb)
      ∧ u.regs = s.regs := by
  obtain ⟨v, eq, reach⟩ := safetyReset_eq s t run free asked
  have saf : v.saf = s.saf.afterReset s.mono := reach.saf
  refine ⟨_, eq, ?_, ?_, ?_, ?_, (State.safDrive_reach ..).regs.trans reach.regs⟩ <;>
    rw [State.safDrive_saf, saf] <;> simp [Saf.afterReset, SafCh.reset1]

/-! ## The cross link -/

/-- Evaluating a channel leaves the run of differences at the cross link. -/
theorem State.safEval_crossRun (s : State) (c t : Nat) : (s.safEval c t).saf.crossRun = s.saf.crossRun := by
  by_cases run : s.saf.island = islRun
  · obtain ⟨f, was, u, e, hf, -, same⟩ := s.safEval_saf c t run
    rw [e, State.safDrive_saf]
    refine (by rw [hf, same.crossRun] : u.saf.crossRun = _).trans ?_
    unfold Saf.setCh
    split <;> rfl
  · rw [s.safEval_idle c t run]

/-- Out of RUN both evaluations leave the state as it was. -/
theorem State.safEvals_idle (s : State) (t : Nat) (h : s.saf.island ≠ islRun) : (s.safEval 0 t).safEval 1 t = s := by
  rw [s.safEval_idle 0 t h, s.safEval_idle 1 t h]

/-- The channels with their shared faults and a new run of differences (R320). -/
def State.crossed (s : State) (n : Nat) : State :=
  { s with saf := { s.saf with
    chA := s.saf.chA.share s.saf.chB, chB := s.saf.chB.share s.saf.chA, crossRun := n, fOpen := false } }

/-- The exchange with its run of differences at `n`. -/
theorem crossLinkExchange_eq (s : State) (t : Tick) (n : Nat) (clockOk : Bool)
    (h : n = if decide (s.saf.chA.spb ≠ s.saf.chB.spb ∨ s.saf.chA.stb ≠ s.saf.chB.stb ∨ s.saf.chA.cmd ≠ s.saf.chB.cmd)
      then s.saf.crossRun + 1 else 0) :
    exec (.crossLinkExchange clockOk t) s = .next (
      let u := if 3 ≤ n then ((s.silent.crossed n).safRaise 2 0x0A0A 0 t).safFault 2 t else s.silent.crossed n
      ((if clockOk then u else (u.safRaise 2 0x0A0B 0 t).safFault 2 t).safEval 0 t).safEval 1 t) := by
  subst h
  rfl

/-- Channels under a good clock whose run of differences stays below three go on. -/
theorem crossLinkExchange_goes_on (s : State) (t : Tick) (n : Nat) (low : n < 3)
    (h : n = if decide (s.saf.chA.spb ≠ s.saf.chB.spb ∨ s.saf.chA.stb ≠ s.saf.chB.stb ∨ s.saf.chA.cmd ≠ s.saf.chB.cmd)
      then s.saf.crossRun + 1 else 0) :
    ∃ u, exec (.crossLinkExchange true t) s = .next u ∧ u.saf.crossRun = n ∧ u.saf.island = s.saf.island
      ∧ u.regs = s.regs := by
  refine ⟨_, crossLinkExchange_eq s t n true h, ?_⟩
  rw [if_neg (by omega)]
  refine ⟨?_, ?_, ((State.safEval_reach ..).trans (State.safEval_reach ..)).regs⟩
  · exact (State.safEval_crossRun ..).trans (State.safEval_crossRun ..)
  · exact (State.safEval_island ..).trans (State.safEval_island ..)

/-- The island of safety in FAULT with no output energised and the words in force as in `s`. -/
def State.SafStopped (s u : State) : Prop := u.saf.island = islFault ∧ u.saf.energised = 0 ∧ u.regs = s.regs

theorem State.raiseFault_stopped {s v : State} (h : v.regs = s.regs) (c d code inst t : Nat) :
    s.SafStopped ((v.safRaise c code inst t).safFault d t) := by
  obtain ⟨fault, off, regs, -⟩ := v.raiseFault_facts c d code inst t
  exact ⟨fault, off, regs.trans h⟩

/-- A stopped island is as it was after both evaluations. -/
theorem State.SafStopped.evals {s u : State} (h : s.SafStopped u) (t : Nat) :
    s.SafStopped ((u.safEval 0 t).safEval 1 t) := by
  rw [u.safEvals_idle t (by rw [h.1]; decide)]
  exact h

/-- A bad clock stops the island. -/
theorem crossLinkExchange_bad_clock (s : State) (t : Tick) :
    ∃ u, exec (.crossLinkExchange false t) s = .next u ∧ s.SafStopped u := by
  obtain ⟨n, hn⟩ : ∃ n, n = if decide (s.saf.chA.spb ≠ s.saf.chB.spb ∨ s.saf.chA.stb ≠ s.saf.chB.stb
      ∨ s.saf.chA.cmd ≠ s.saf.chB.cmd) then s.saf.crossRun + 1 else 0 := ⟨_, rfl⟩
  have regs : (s.silent.crossed n).regs = s.regs := rfl
  have eq := crossLinkExchange_eq s t n false hn
  generalize s.silent.crossed n = v at regs eq
  refine ⟨_, eq, State.SafStopped.evals (State.raiseFault_stopped ?_ ..) t⟩
  split
  · exact (State.raiseFault_stopped regs ..).2.2
  · exact regs

/-- A third difference in a row stops the island. -/
theorem crossLinkExchange_third (s : State) (t : Tick) (twice : 2 ≤ s.saf.crossRun)
    (h : s.saf.chA.spb ≠ s.saf.chB.spb ∨ s.saf.chA.stb ≠ s.saf.chB.stb ∨ s.saf.chA.cmd ≠ s.saf.chB.cmd) :
    ∃ u, exec (.crossLinkExchange true t) s = .next u ∧ s.SafStopped u := by
  have regs : (s.silent.crossed (s.saf.crossRun + 1)).regs = s.regs := rfl
  have eq := crossLinkExchange_eq s t (s.saf.crossRun + 1) true (by rw [if_pos (decide_eq_true h)])
  generalize s.silent.crossed (s.saf.crossRun + 1) = v at regs eq
  rw [if_pos (by omega)] at eq
  exact ⟨_, eq, State.SafStopped.evals (State.raiseFault_stopped regs ..) t⟩

/-! ## The start tests -/

theorem foldl_or_testBit (l : List Nat) (m n : Nat) :
    (l.foldl (fun m n => m ||| (1 <<< n)) m).testBit n = (m.testBit n || decide (n ∈ l)) := by
  induction l generalizing m with
  | nil => simp
  | cons k l ih =>
    rw [List.foldl_cons, ih]
    simp [Nat.one_shiftLeft, Nat.testBit_two_pow, Bool.or_assoc, eq_comm]

/-- The enabled inputs that fail their test pulse in the start tests (R321). -/
def State.failedIns (s : State) (inBad : Byte) : List Nat :=
  (List.range 8).filter fun n => inBad.getLsbD n && W.SI_CFG_EN (s.siCfg n)

/-- The enabled outputs that fail in the start tests (R321). -/
def State.failedOuts (s : State) (outBad : BitVec 4) : List Nat :=
  (List.range 4).filter fun k => outBad.getLsbD k && W.SO_CFG_EN (s.soCfg k)

theorem State.mem_failedIns (s : State) (inBad : Byte) (n : Fin 8) :
    (n : Nat) ∈ s.failedIns inBad ↔ inBad.getLsbD n = true ∧ W.SI_CFG_EN (s.siCfg n) = true := by
  simp [State.failedIns]

theorem State.failedIns_eq_nil (s : State) (inBad : Byte) : s.failedIns inBad = [] ↔
    ¬ ∃ n : Fin 8, inBad.getLsbD n = true ∧ W.SI_CFG_EN (s.siCfg n) = true := by
  simp only [← State.mem_failedIns, List.eq_nil_iff_forall_not_mem, not_exists]
  refine ⟨fun h n => h n, fun h n hn => ?_⟩
  exact h ⟨n, List.mem_range.mp (List.mem_filter.mp hn).1⟩ hn

theorem State.failedOuts_eq_nil (s : State) (outBad : BitVec 4) : s.failedOuts outBad = [] ↔
    ¬ ∃ k : Fin 4, outBad.getLsbD k = true ∧ W.SO_CFG_EN (s.soCfg k) = true := by
  simp only [State.failedOuts, List.filter_eq_nil_iff, List.mem_range, Bool.and_eq_true, not_exists]
  exact ⟨fun h k => h k k.isLt, fun h k hk => h ⟨k, hk⟩⟩

/-- A channel with the faults of the inputs in `m` latched by the start tests. -/
def SafCh.startTested (x : SafCh) (m : Nat) : SafCh :=
  { x with testF := x.testF ||| m, testOk := mclr (x.testOk ||| x.testF) m }

/-- The island with the faults of the failed inputs latched and raised. -/
def State.insTested (s : State) (failed : List Nat) (t : Nat) : State :=
  let m := failed.foldl (fun m n => m ||| (1 <<< n)) 0
  failed.foldl (fun (s : State) (n : Nat) => s.safRaise 2 0x0A04 n t)
    { s with saf := { s.saf with chA := s.saf.chA.startTested m, chB := s.saf.chB.startTested m } }

/-- What the start tests do in START: they latch the failed inputs, and stop the island or try to enter RUN. -/
theorem safetyStartTestsDone_eq (s : State) (t : Tick) (start : s.saf.island = islStart) (power : s.sys.powered = true)
    (outBad : BitVec 4) (inBad : Byte) (clockOk : Bool) :
    exec (.safetyStartTestsDone outBad inBad clockOk t) s =
      let v := s.silent.insTested (s.failedIns inBad) t
      if v.failedOuts outBad ≠ [] then
        .next (((v.failedOuts outBad).foldl (fun (s : State) (k : Nat) => s.safRaise 2 0x0A05 k t) v).safFault 2 t)
      else if !clockOk then .next ((v.safRaise 2 0x0A0B 0 t).safFault 2 t)
      else .next (({ v with saf := { v.saf with tested := (s.failedIns inBad).isEmpty } } : State).safRun t) := by
  refine if_neg ?_
  rintro (h | h)
  · exact h start
  · exact not_bnot power h

theorem State.insTested_facts (s : State) (failed : List Nat) (t : Nat) :
    let v := s.insTested failed t
    s.SafReach v ∧ v.saf.island = s.saf.island ∧ ∀ n ∈ failed, v.saf.chA.testF.testBit n = true
      ∧ v.saf.chB.testF.testBit n = true := by
  intro v
  have same : _ := State.safRaises_same 2 0x0A04 t failed { s with saf := { s.saf with
    chA := s.saf.chA.startTested (failed.foldl (fun m n => m ||| (1 <<< n)) 0)
    chB := s.saf.chB.startTested (failed.foldl (fun m n => m ||| (1 <<< n)) 0) } }
  refine ⟨(s.safSet_reach _).trans (State.safRaises_reach ..), same.island, fun n hn => ?_⟩
  constructor
  · rw [show v.saf.chA = _ from same.chA]
    simp [SafCh.startTested, foldl_or_testBit, hn]
  · rw [show v.saf.chB = _ from same.chB]
    simp [SafCh.startTested, foldl_or_testBit, hn]

/-- The entry into RUN at the end of the tests of an island in START (R321, R473). -/
theorem State.safRun_facts (s : State) (t : Nat) (start : s.saf.island = islStart) :
    (s.safRun t).regs = s.regs
    ∧ (s.saf.tested = true → (s.safRun t).saf.island = if s.boot.entered then islRun else islStart)
    ∧ (s.saf.tested = false → s.safRun t = s) := by
  have stays (h : s.saf.tested = false ∨ s.boot.entered = false) : s.safRun t = s := by
    refine if_pos (.inr ?_)
    rcases h with h | h <;> simp [h]
  have locks (f : Saf) : ({ s with saf := f } : State).safLock.regs = s.regs
      ∧ ({ s with saf := f } : State).safLock.saf.island = f.island :=
    ⟨(State.safDrive_reach ..).regs, State.safDrive_island ..⟩
  by_cases h : s.saf.tested = true ∧ s.boot.entered = true
  · have enters : s.safRun t = _ := if_neg (by simp [start, h.1, h.2])
    rw [enters, if_pos h.2]
    obtain ⟨regs, island⟩ := locks { s.saf with island := islRun }
    refine ⟨((State.safEval_reach ..).trans (State.safEval_reach ..)).regs.trans regs, fun _ => ?_, fun h' => ?_⟩
    · exact ((State.safEval_island ..).trans (State.safEval_island ..)).trans island
    · rw [h.1] at h'
      cases h'
  · have h' : s.saf.tested = false ∨ s.boot.entered = false :=
      (Classical.not_and_iff_not_or_not.mp h).imp eq_false_of_ne_true eq_false_of_ne_true
    rw [stays h']
    refine ⟨rfl, fun ht => ?_, fun _ => rfl⟩
    rw [h'.resolve_left (by simp [ht]), start]
    rfl

/-- R321, R473: the start tests of a powered module in START. -/
theorem safetyStartTestsDone_facts (s : State) (t : Tick) (start : s.saf.island = islStart)
    (power : s.sys.powered = true)
    (outBad : BitVec 4) (inBad : Byte) (clockOk : Bool) :
    let outs := ∃ k : Fin 4, outBad.getLsbD k = true ∧ W.SO_CFG_EN (s.soCfg k) = true
    let ins := ∃ n : Fin 8, inBad.getLsbD n = true ∧ W.SI_CFG_EN (s.siCfg n) = true
    (outs ∨ clockOk = false → ∃ u, exec (.safetyStartTestsDone outBad inBad clockOk t) s = .next u
      ∧ u.saf.island = islFault ∧ u.saf.energised = 0 ∧ u.regs = s.regs)
    ∧ (¬ outs → clockOk = true → ∃ u, exec (.safetyStartTestsDone outBad inBad clockOk t) s = .next u ∧ u.regs = s.regs
      ∧ (¬ ins → u.saf.island = (if s.boot.entered then islRun else islStart))
      ∧ (ins → u.saf.island = islStart)
      ∧ (∀ n : Fin 8, inBad.getLsbD n = true → W.SI_CFG_EN (s.siCfg n) = true → u.saf.chA.testF.testBit n = true
        ∧ u.saf.chB.testF.testBit n = true)) := by
  intro outs ins
  have eq := safetyStartTestsDone_eq s t start power outBad inBad clockOk
  obtain ⟨reach, island, latched⟩ := s.silent.insTested_facts (s.failedIns inBad) t
  generalize s.silent.insTested (s.failedIns inBad) t = v at eq reach island latched
  dsimp only at eq
  have outsNil : v.failedOuts outBad = [] ↔ ¬ outs := by
    rw [show v.failedOuts outBad = s.failedOuts outBad from by
      simp only [State.failedOuts, State.soCfg, State.word, reach.regs]; rfl]
    exact s.failedOuts_eq_nil outBad
  have insNil : s.failedIns inBad = [] ↔ ¬ ins := s.failedIns_eq_nil inBad
  constructor
  · intro bad
    by_cases ho : outs
    · rw [if_pos (mt outsNil.mp (Classical.not_not.mpr ho))] at eq
      refine ⟨_, eq, (State.safFault_off ..).1, (State.safFault_off ..).2, ?_⟩
      exact ((State.safRaises_reach ..).trans (State.safFault_reach ..)).regs.trans reach.regs
    · rw [if_neg (Classical.not_not.mpr (outsNil.mpr ho)), if_pos (bnot_of (bad.resolve_left ho))] at eq
      exact ⟨_, eq, State.raiseFault_stopped (s := s) reach.regs ..⟩
  · intro ho clock
    rw [if_neg (Classical.not_not.mpr (outsNil.mpr ho)), if_neg (not_bnot clock)] at eq
    obtain ⟨regs, passes, stays⟩ := State.safRun_facts
      { v with saf := { v.saf with tested := (s.failedIns inBad).isEmpty } } t (island.trans start)
    have entered : v.boot.entered = s.boot.entered := by rw [reach.boot]; rfl
    refine ⟨_, eq, regs.trans reach.regs, fun hi => ?_, fun hi => ?_, fun n bad en => ?_⟩
    · rw [passes (List.isEmpty_iff.mpr (insNil.mpr hi))]
      exact entered ▸ rfl
    · rw [stays (List.isEmpty_eq_false_iff.mpr (mt insNil.mp (Classical.not_not.mpr hi)))]
      exact island.trans start
    · have hi : ins := ⟨n, bad, en⟩
      rw [stays (List.isEmpty_eq_false_iff.mpr (mt insNil.mp (Classical.not_not.mpr hi)))]
      exact latched n ((s.mem_failedIns inBad n).mpr ⟨bad, en⟩)

/-! ## The safe connections -/

@[simp] theorem SafCh.setConn_conn (x : SafCh) (j : Nat) (y : Sfl) : (x.setConn j y).conn j = y := Tab.get_put_same ..

/-- The state with connection `j` of channel `ch` written. -/
def State.putConn (s : State) (ch j : Nat) (y : Sfl) : State :=
  { s with saf := s.saf.setCh ch ((s.saf.ch ch).setConn j y) }

theorem State.putConn_conn (s : State) (ch j : Nat) (y : Sfl) : ((s.putConn ch j y).saf.ch ch).conn j = y := by
  simp [State.putConn]

/-- A written connection stays as written when its fault is raised and its channel evaluated. -/
theorem State.putConn_safEval (s : State) (ch j : Nat) (y : Sfl) (t : Nat) :
    ((((s.putConn ch j y).safEval ch t).saf.ch ch).conn j = y) ∧ ((s.putConn ch j y).safEval ch t).regs = s.regs :=
  ⟨((State.safEval_readings ..).conn j).trans (s.putConn_conn ch j y), (State.safEval_reach ..).regs⟩

theorem State.putConn_raised (s : State) (ch j : Nat) (y : Sfl) (code inst t : Nat) :
    let u := ((s.putConn ch j y).safRaise ch code inst t).safEval ch t
    (u.saf.ch ch).conn j = y ∧ u.regs = s.regs := by
  refine ⟨((State.safEval_readings ..).conn j).trans ?_,
    ((State.safRaise_reach ..).trans (State.safEval_reach ..)).regs⟩
  rw [(State.safRaise_same ..).ch]
  exact s.putConn_conn ch j y

/-- R337: the watchdog of a consumed connection. -/
theorem sflWatchdogExpiry_facts (s : State) (t : Tick) (j : Fin 8) (ch : Fin 2) :
    let y := (s.saf.ch ch).conn j
    let late := s.consumed j = true ∧ y.since + W.SFL_CFG_TEXP (s.sflCfg j) * 100 ≤ s.mono
    (¬ late → exec (.sflWatchdogExpiry j ch t) s = .next s.silent)
    ∧ (late → ∃ u, exec (.sflWatchdogExpiry j ch t) s = .next u ∧ ((u.saf.ch ch).conn j).fault = true
      ∧ ((u.saf.ch ch).conn j).run = false ∧ u.regs = s.regs) := by
  intro y late
  have cond : (!s.consumed j || decide (s.mono < y.since + W.SFL_CFG_TEXP (s.sflCfg j) * 100)) = true ↔ ¬ late := by
    simp only [late, Bool.or_eq_true, Bool.not_eq_true', decide_eq_true_eq, Classical.not_and_iff_not_or_not,
      Nat.not_le,
      Bool.not_eq_true]
  refine ⟨fun h => if_pos (cond.mpr h), fun h => ⟨_, if_neg (mt cond.mp (Classical.not_not.mpr h)), ?_⟩⟩
  obtain ⟨conn, regs⟩ :=
    s.silent.putConn_raised ch j { y.resync s.mono with fault := true, latched := false } 0x0A08 j t
  exact ⟨(congrArg Sfl.fault conn :), (congrArg Sfl.run conn :), regs⟩

/-- R337, R338: a frame that channel `ch` checks. -/
theorem safeFrameReceive_eq (s : State) (t : Tick) (j : Fin 8) (ch : Fin 2) (consumed : s.consumed j = true)
    (ok : safeFrameOk (Tab.get (fun _ => []) s.net.mail j) = true) :
    let y := (s.saf.ch ch).conn j
    let frame := Tab.get (fun _ => []) s.net.mail j
    let sq : Word := BitVec.ofNat 32 (beAt frame 4 4)
    let data (y : Sfl) : Sfl := { y with
      last := some sq, since := s.mono, safe := BitVec.ofNat 16 (beAt frame 12 2),
        qual := BitVec.ofNat 16 (beAt frame 14 2) }
    exec (.safeFrameReceive j ch frame t) s =
      if BitVec.ofNat 32 (beAt frame 0 4) ≠ s.word (K.SFL_ID j) ∨ beAt frame 8 2 ≠ W.SFL_CFG_TEXP (s.sflCfg j) then
        .next (((s.silent.putConn ch j { y.resync s.mono with fault := true, latched := false }).safRaise ch 0x0A09 j
          t).safEval ch t)
      else match y.last with
      | none => .next ((s.silent.putConn ch j { y with last := some sq }).safEval ch t)
      | some l =>
        if y.run then
          if 1 ≤ (sq - l).toNat ∧ (sq - l).toNat ≤ 16 then .next ((s.silent.putConn ch j (data y)).safEval ch t)
          else .next s.silent
        else if (sq - l).toNat = 1 then
          .next ((s.silent.putConn ch j
            { data y with run := true, latched := y.latched || y.fault, fault := false }).safEval ch t)
        else .next (s.silent.putConn ch j { y with last := some sq }) := by
  refine (if_neg (Classical.not_not.mpr rfl)).trans (if_neg ?_)
  rw [show s.silent.consumed j = s.consumed j from rfl, consumed, ok]
  decide

/-- R337, R338: what a channel does with the frame in the mailbox of connection `j`. -/
theorem safeFrameReceive_facts (s : State) (t : Tick) (j : Fin 8) (ch : Fin 2) :
    let y := (s.saf.ch ch).conn j
    let frame := Tab.get (fun _ => []) s.net.mail j
    let sq : Word := BitVec.ofNat 32 (beAt frame 4 4)
    let mine := BitVec.ofNat 32 (beAt frame 0 4) = s.word (K.SFL_ID j) ∧ beAt frame 8 2 = W.SFL_CFG_TEXP (s.sflCfg j)
    let taken := s.consumed j = true ∧ safeFrameOk frame = true
    (¬ taken → exec (.safeFrameReceive j ch frame t) s = .next s.silent)
    ∧ (taken → ¬ mine → ∃ u, exec (.safeFrameReceive j ch frame t) s = .next u
      ∧ ((u.saf.ch ch).conn j).fault = true ∧ ((u.saf.ch ch).conn j).run = false ∧ u.regs = s.regs)
    ∧ (taken → mine → y.last = none → ∃ u, exec (.safeFrameReceive j ch frame t) s = .next u
      ∧ ((u.saf.ch ch).conn j) = { y with last := some sq } ∧ u.regs = s.regs)
    ∧ (∀ l, taken → mine → y.last = some l →
      (y.run = true → 1 ≤ (sq - l).toNat → (sq - l).toNat ≤ 16 → ∃ u, exec (.safeFrameReceive j ch frame t) s = .next u
        ∧ ((u.saf.ch ch).conn j).run = true ∧ ((u.saf.ch ch).conn j).last = some sq
        ∧ ((u.saf.ch ch).conn j).safe = BitVec.ofNat 16 (beAt frame 12 2)
        ∧ ((u.saf.ch ch).conn j).qual = BitVec.ofNat 16 (beAt frame 14 2) ∧ u.regs = s.regs)
      ∧ (y.run = true → (sq - l).toNat = 0 ∨ 16 < (sq - l).toNat → exec (.safeFrameReceive j ch frame t) s = .next s.silent)
      ∧ (y.run = false → sq - l = 1 → ∃ u, exec (.safeFrameReceive j ch frame t) s = .next u
        ∧ ((u.saf.ch ch).conn j).run = true ∧ ((u.saf.ch ch).conn j).fault = false ∧ u.regs = s.regs)
      ∧ (y.run = false → sq - l ≠ 1 → ∃ u, exec (.safeFrameReceive j ch frame t) s = .next u
        ∧ ((u.saf.ch ch).conn j) = { y with last := some sq } ∧ u.regs = s.regs)) := by
  intro y frame sq mine taken
  have other : BitVec.ofNat 32 (beAt frame 0 4) ≠ s.word (K.SFL_ID j) ∨ beAt frame 8 2 ≠ W.SFL_CFG_TEXP (s.sflCfg j)
      ↔ ¬ mine := Classical.not_and_iff_not_or_not.symm
  have written (z : Sfl) := s.silent.putConn_safEval ch j z t
  refine ⟨fun h => ?_, fun h m => ?_, fun h m last => ?_, fun l h m last => ⟨fun run low high => ?_, fun run far => ?_,
    fun run next => ?_, fun run next => ?_⟩⟩
  · refine (if_neg (Classical.not_not.mpr rfl)).trans (if_pos ?_)
    rcases Classical.not_and_iff_not_or_not.mp h with h | h
    · exact Bool.or_eq_true_iff.mpr (.inl (bnot_of (Bool.not_eq_true _ ▸ h)))
    · exact Bool.or_eq_true_iff.mpr (.inr (bnot_of (Bool.not_eq_true _ ▸ h)))
  all_goals have eq := safeFrameReceive_eq s t j ch h.1 h.2
  · obtain ⟨conn, regs⟩ :=
      s.silent.putConn_raised ch j { y.resync s.mono with fault := true, latched := false } 0x0A09 j t
    exact ⟨_, eq.trans (if_pos (other.mpr m)), congrArg Sfl.fault conn, congrArg Sfl.run conn, regs⟩
  all_goals replace eq := eq.trans (if_neg (mt other.mp (Classical.not_not.mpr m)))
  all_goals rw [show ((s.saf.ch ch).conn j).last = _ from last] at eq
  · exact ⟨_, eq, written _⟩
  · obtain ⟨conn, regs⟩ := written _
    refine ⟨_, eq.trans ((if_pos run).trans (if_pos ⟨low, high⟩)), ?_⟩
    rw [conn]
    exact ⟨run, rfl, rfl, rfl, regs⟩
  · refine eq.trans ((if_pos run).trans (if_neg ?_))
    show ¬ (1 ≤ (sq - l).toNat ∧ (sq - l).toNat ≤ 16)
    omega
  · refine ⟨_, eq.trans ((if_neg (by rw [show ((s.saf.ch ch).conn j).run = _ from run]; decide)).trans (if_pos (by rw [next]; rfl))), ?_⟩
    obtain ⟨conn, regs⟩ := written _
    rw [conn]
    exact ⟨rfl, rfl, regs⟩
  · refine ⟨_, eq.trans ((if_neg (by rw [show ((s.saf.ch ch).conn j).run = _ from run]; decide)).trans (if_neg fun h1 => ?_)), s.silent.putConn_conn ch j _, rfl⟩
    exact next (BitVec.eq_of_toNat_eq h1)

/-! ## Produced frames -/

/-- `t` is `s` with another station network. -/
def State.NetOnly (s t : State) : Prop := t = { s with net := t.net }

namespace State.NetOnly

variable {s t u : State}

theorem refl (s : State) : s.NetOnly s := rfl

theorem trans (h : s.NetOnly t) (k : t.NetOnly u) : s.NetOnly u := by
  unfold State.NetOnly at *
  rw [k, h]

theorem ite {c : Prop} [Decidable c] (ht : s.NetOnly t) (hu : s.NetOnly u) : s.NetOnly (if c then t else u) := by
  split
  · exact ht
  · exact hu

theorem foldl {α : Type} {f : State → α → State} (h : ∀ (s : State) (x : α), s.NetOnly (f s x)) (l : List α)
    (s : State) : s.NetOnly (l.foldl f s) := by
  induction l generalizing s with
  | nil => exact refl s
  | cons x l ih => exact (h s x).trans (ih _)

theorem out (h : s.NetOnly t) : t.out = s.out := by rw [h]
theorem regs (h : s.NetOnly t) : t.regs = s.regs := by rw [h]
theorem saf (h : s.NetOnly t) : t.saf = s.saf := by rw [h]

end State.NetOnly

theorem State.planLaunch_netOnly (s : State) (p : Nat) (x : Launch) : s.NetOnly (s.planLaunch p x) := .ite rfl rfl

theorem State.setCan_netOnly (s : State) (c : Nat) (x : Can) : s.NetOnly (s.setCan c x) := rfl

theorem State.canFill_netOnly (s : State) (c kind j : Nat) (bytes : List Byte) :
    s.NetOnly (s.canFill c kind j bytes) := .ite rfl (.foldl (fun u _ => u.setCan_netOnly c _) _ s)

theorem State.sendSafe_netOnly (s : State) (j t : Nat) (bytes : List Byte) : s.NetOnly (s.sendSafe j t bytes) := by
  unfold State.sendSafe
  split
  · exact .foldl (fun u p => u.planLaunch_netOnly p _) _ s
  · exact s.canFill_netOnly ..

/-- R336: a produced frame that is due leaves where both channels built the same bytes, and else stops the island. -/
theorem safeFrameProduce_facts (s : State) (t : Tick) (j : Fin 8) (sq : Word)
    (hsq : sq = Tab.get (fun _ => (0 : Word)) s.saf.sent j + 1) :
    (s.produced j = false ∨ s.frameDue j = false → exec (.safeFrameProduce j t) s = .next s.silent)
    ∧ (s.produced j = true → s.frameDue j = true →
      (s.safeFrame s.saf.chA j sq = s.safeFrame s.saf.chB j sq → ∃ u, exec (.safeFrameProduce j t) s = .next u
        ∧ Output.safe j (s.safeFrame s.saf.chA j sq) ∈ u.out ∧ Tab.get (fun _ => 0) u.saf.sent j = sq ∧ u.regs = s.regs)
      ∧ (s.safeFrame s.saf.chA j sq ≠ s.safeFrame s.saf.chB j sq → ∃ u, exec (.safeFrameProduce j t) s = .next u
        ∧ s.SafStopped u)) := by
  subst hsq
  have cond : (!s.silent.produced j || !s.silent.frameDue j) = true ↔ s.produced j = false ∨ s.frameDue j = false := by
    rw [show s.silent.produced j = s.produced j from rfl, show s.silent.frameDue j = s.frameDue j from rfl]
    simp
  refine ⟨fun h => if_pos (cond.mpr h), fun prod due => ?_⟩
  have eq : exec (.safeFrameProduce j t) s = _ := if_neg (mt cond.mp (by simp [prod, due]))
  have stopped := State.raiseFault_stopped (show s.silent.regs = s.regs from rfl) 2 2 0x0A0A 0 t
  refine ⟨fun same => ?_, fun differ => ⟨_, eq.trans (if_neg differ), stopped⟩⟩
  refine ⟨_, eq.trans (if_pos same), ?_⟩
  have sends := State.sendSafe_netOnly
  refine ⟨?_, ?_, ?_⟩
  · rw [(sends ..).out]
    exact List.mem_singleton.mpr rfl
  · rw [(sends ..).saf]
    exact Tab.get_put_same (fun _ => 0) s.saf.sent j _
  · rw [(sends ..).regs]
    rfl

/-- Settles O56: the reset, the cross link, the start tests and the connections, one lemma for each row. -/
theorem safetyResetLinkAndFrames : Obligations.SafetyResetLinkAndFrames := by
  intro s t f
  refine ⟨fun h => if_pos ?_, safetyReset_facts s t, fun spb stb cmd => ?_, crossLinkExchange_bad_clock s t,
    fun h => ⟨fun twice => crossLinkExchange_third s t twice h, fun few => ?_⟩,
    fun start power => safetyStartTestsDone_facts s t start power, fun h outBad inBad clockOk => if_pos ?_,
    fun j ch => ?_, fun j sq hsq => safeFrameProduce_facts s t j sq hsq⟩
  · exact h.imp_right (.imp_right bnot_of)
  · have agree : ¬ (s.saf.chA.spb ≠ s.saf.chB.spb ∨ s.saf.chA.stb ≠ s.saf.chB.stb ∨ s.saf.chA.cmd ≠ s.saf.chB.cmd) := by
      simp only [not_or, Classical.not_not]
      exact ⟨spb, stb, cmd⟩
    exact crossLinkExchange_goes_on s t 0 (by decide) (if_neg (by simpa using agree)).symm
  · obtain ⟨u, eq, runs, island, regs⟩ :=
      crossLinkExchange_goes_on s t (s.saf.crossRun + 1) (Nat.succ_lt_succ few) (if_pos (decide_eq_true h)).symm
    exact ⟨u, eq, island, runs, regs⟩
  · exact h.imp_right bnot_of
  · obtain ⟨early, late⟩ := sflWatchdogExpiry_facts s t j ch
    obtain ⟨invalid, facts⟩ := safeFrameReceive_facts s t j ch
    exact ⟨early, late, fun f' other => if_pos other, invalid, facts⟩

end Sys2Proof.Machine
end


section
/-! PROOFS. The redundant pair: O57, O58. -/

namespace Sys2Proof.Machine

open Sys2Proof.Machine

/-! ## Events of the classes INFO and WARN -/

/-- `t` is `s` with other events and another state of the Blotter. -/
def State.EventsOnly (s t : State) : Prop :=
  t = { s with evt := t.evt, ink := { s.ink with blot := t.ink.blot } }

namespace State.EventsOnly

variable {s t u : State}

theorem refl (s : State) : s.EventsOnly s := rfl

theorem trans (h : s.EventsOnly t) (k : t.EventsOnly u) : s.EventsOnly u := by
  unfold State.EventsOnly at *
  rw [k, h]

theorem ite {c : Prop} [Decidable c] (ht : s.EventsOnly t) (hu : s.EventsOnly u) :
    s.EventsOnly (if c then t else u) := by
  split
  · exact ht
  · exact hu

theorem foldl {α : Type} {f : State → α → State} (h : ∀ (s : State) (x : α), s.EventsOnly (f s x)) (l : List α)
    (s : State) : s.EventsOnly (l.foldl f s) := by
  induction l generalizing s with
  | nil => exact refl s
  | cons x l ih => exact (h s x).trans (ih _)

theorem pair (h : s.EventsOnly t) : t.pair = s.pair := by rw [h]
theorem pairOps (h : s.EventsOnly t) : t.pairOps = s.pairOps := by rw [h]
theorem regs (h : s.EventsOnly t) : t.regs = s.regs := by rw [h]
theorem lanes (h : s.EventsOnly t) : t.lanes = s.lanes := by rw [h]
theorem shadow (h : s.EventsOnly t) : t.shadow = s.shadow := by rw [h]
theorem out (h : s.EventsOnly t) : t.out = s.out := by rw [h]
theorem pending (h : s.EventsOnly t) : t.pending = s.pending := by rw [h]

end State.EventsOnly

theorem State.enqueue_eventsOnly (s : State) (code kind inst : Nat) (detail : Word) (t : Nat) :
    s.EventsOnly (s.enqueue code kind inst detail t) := .ite rfl rfl

theorem State.capture_eventsOnly (s : State) (code inst : Nat) (detail : Word) (t : Nat) :
    s.EventsOnly (s.capture code inst detail t) := .ite rfl rfl

theorem State.blotTrigger_eventsOnly (s : State) (row t : Nat) : s.EventsOnly (s.blotTrigger row t) := by
  refine .ite rfl (.trans ?_ (State.enqueue_eventsOnly ..))
  rfl

theorem State.blotEvent_eventsOnly (s : State) (code t : Nat) : s.EventsOnly (s.blotEvent code t) :=
  .ite (State.blotTrigger_eventsOnly ..) (.refl s)

theorem State.clear_eventsOnly (s : State) (code inst t : Nat) : s.EventsOnly (s.clear code inst t) := by
  refine .ite (.trans ?_ (State.enqueue_eventsOnly ..)) (.refl s)
  rfl

/-- An event that is of no class from CELL on has no reaction. -/
def quietCode (code : Nat) : Bool :=
  decide (classOf code ≠ .module) && decide (classOf code ≠ .stack) && decide (classOf code ≠ .cell)

theorem State.react_quiet (s : State) (code inst : Nat) (byp : Bool) (t : Nat) (h : quietCode code = true) :
    s.react code inst byp t = s := by
  unfold State.react
  revert h
  unfold quietCode
  cases classOf code <;> simp

theorem State.raise_eventsOnly (s : State) (code inst : Nat) (detail : Word) (t : Nat) (h : quietCode code = true) :
    s.EventsOnly (s.raise code inst detail t) := by
  have trail (u : State) : u.EventsOnly (((u.enqueue code 1 inst detail t).capture code inst detail t).blotEvent code t) :=
    ((u.enqueue_eventsOnly ..).trans (State.capture_eventsOnly ..)).trans (State.blotEvent_eventsOnly ..)
  unfold State.raise State.raiseB
  simp only [State.react_quiet _ _ _ _ _ h, ite_self]
  refine .ite ((State.enqueue_eventsOnly ..).trans (State.blotEvent_eventsOnly ..)) (.ite rfl (.trans ?_ (trail _)))
  rfl

theorem State.satEvent_eventsOnly (s : State) (now : Bool) (k t : Nat) : s.EventsOnly (s.satEvent now k t) :=
  .ite (s.raise_eventsOnly _ _ _ _ (by decide)) (.refl s)

/-! ## Replies -/

/-- `t` is `s` after replies: other sessions, messages, events, and replies that wait for an acknowledgement. -/
def State.Replied (s t : State) : Prop :=
  t = { s with
    cmd := t.cmd, net := t.net, out := t.out, evt := t.evt, ink := { s.ink with blot := t.ink.blot }
    pairOps := { s.pairOps with unacked := t.pairOps.unacked } }

namespace State.Replied

variable {s t u : State}

theorem refl (s : State) : s.Replied s := rfl

theorem trans (h : s.Replied t) (k : t.Replied u) : s.Replied u := by
  unfold State.Replied at *
  rw [k, h]

theorem ite {c : Prop} [Decidable c] (ht : s.Replied t) (hu : s.Replied u) : s.Replied (if c then t else u) := by
  split
  · exact ht
  · exact hu

theorem foldl {α : Type} {f : State → α → State} (h : ∀ (s : State) (x : α), s.Replied (f s x)) (l : List α)
    (s : State) : s.Replied (l.foldl f s) := by
  induction l generalizing s with
  | nil => exact refl s
  | cons x l ih => exact (h s x).trans (ih _)

theorem of_events (h : s.EventsOnly t) : s.Replied t := by
  rw [h]
  rfl

theorem of_net (h : s.NetOnly t) : s.Replied t := by
  rw [h]
  rfl

theorem pair (h : s.Replied t) : t.pair = s.pair := by rw [h]
theorem regs (h : s.Replied t) : t.regs = s.regs := by rw [h]
theorem lanes (h : s.Replied t) : t.lanes = s.lanes := by rw [h]
theorem shadow (h : s.Replied t) : t.shadow = s.shadow := by rw [h]
theorem pending (h : s.Replied t) : t.pending = s.pending := by rw [h]
theorem sys (h : s.Replied t) : t.sys = s.sys := by rw [h]
theorem cycle (h : s.Replied t) : t.cycle = s.cycle := by rw [h]
theorem mono (h : s.Replied t) : t.mono = s.mono := by rw [h]
theorem records (h : s.Replied t) : t.pairOps.records = s.pairOps.records := by rw [h]

end State.Replied

theorem State.sendNet_replied (s : State) (p cls : Nat) (m : NetMsg) : s.Replied (s.sendNet p cls m) := rfl

theorem State.setSess_replied (s : State) (i : Nat) (x : Sess) : s.Replied (s.setSess i x) := rfl

theorem State.unacked_replied (s : State) (l : List (Nat × Nat)) :
    s.Replied { s with pairOps := { s.pairOps with unacked := l } } := rfl

theorem State.sendUdp_replied (s : State) (p cls : Nat) (ip : Word) (sport dport : Nat) (b : List Byte) :
    s.Replied (s.sendUdp p cls ip sport dport b) := by
  unfold State.sendUdp
  exact .trans (.ite (State.sendNet_replied ..) (.refl s)) (State.sendNet_replied ..)

theorem State.bufRelease_netOnly (s : State) (c k : Nat) (hold : Option Nat) : s.NetOnly (s.bufRelease c k hold) :=
  .ite (State.setCan_netOnly ..) (.refl s)

theorem State.bufReleaseAll_netOnly (s : State) (slot : Nat) : s.NetOnly (s.bufReleaseAll slot) :=
  .foldl (fun u c => .foldl (fun v k => v.bufRelease_netOnly c k _) _ u) _ s

theorem State.dropTxn_replied (s : State) : s.Replied s.dropTxn := by
  unfold State.dropTxn
  split
  · exact .refl s
  · refine .trans ?_ (.of_events (State.raise_eventsOnly _ _ _ _ _ (by decide)))
    rfl

theorem State.closeSess_replied (s : State) (i : Nat) : s.Replied (s.closeSess i) := by
  unfold State.closeSess
  refine .ite (.refl s) ?_
  refine .trans (.trans (.trans (.of_net (s.bufReleaseAll_netOnly i)) ?_) (State.setSess_replied ..))
    (State.unacked_replied ..)
  split
  · exact .ite (State.dropTxn_replied _) (.refl _)
  · exact .refl _

theorem State.sendPacket_replied (s : State) (i : Nat) (b : List Byte) : s.Replied (s.sendPacket i b) :=
  .ite (s.closeSess_replied i) ((State.setSess_replied ..).trans (State.sendUdp_replied ..))

theorem State.ackReply_replied (s : State) (i : Nat) : s.Replied (s.ackReply i) := by
  unfold State.ackReply
  split
  · exact .ite (.refl s) ((State.setSess_replied ..).trans (State.sendPacket_replied ..))
  · exact .refl s

theorem State.flushAcks_replied (s : State) : s.Replied s.flushAcks := by
  unfold State.flushAcks
  exact (s.unacked_replied []).trans (.foldl State.ackReply_replied _ _)

/-- The state with another record of the pair. -/
def State.withPair (s : State) (p : Pair) : State := { s with pair := p }

@[simp] theorem State.withPair_pair (s : State) (p : Pair) : (s.withPair p).pair = p := rfl
@[simp] theorem State.withPair_regs (s : State) (p : Pair) : (s.withPair p).regs = s.regs := rfl

/-! ## Paths -/

@[simp] theorem State.partnerDown_pair (s : State) : s.partnerDown.pair = { s.pair with pReady := false } :=
  (State.flushAcks_replied _).pair

@[simp] theorem State.partnerDown_regs (s : State) : s.partnerDown.regs = s.regs := (State.flushAcks_replied _).regs

/-- With both paths gone the partner counts as not READY. -/
theorem State.bothLost_facts (s : State) (n : Nat) :
    let u := ({ s with pair := { s.pair with bothLost := some n } } : State).partnerDown
    u.pair = { s.pair with bothLost := some n, pReady := false } ∧ u.regs = s.regs :=
  ⟨State.partnerDown_pair _, State.partnerDown_regs _⟩

/-- The loss of a path changes of the pair's record the run of whole boundaries, the time of the absence of both paths,
and the partner's READY, which it may withdraw. -/
theorem State.pathLost_facts (s : State) (t : Nat) : (s.pathLost t).regs = s.regs ∧ ∃ (b : Option Nat) (r : Bool),
    (s.pathLost t).pair = { s.pair with pathRun := 0, bothLost := b, pReady := r }
      ∧ (r = true → s.pair.pReady = true) := by
  have raised := State.raise_eventsOnly { s with pair := { s.pair with pathRun := 0 } } 0x0B01 0 0 t (by decide)
  have pair : State.pair _ = _ := raised.pair
  have regs : State.regs _ = _ := raised.regs
  unfold State.pathLost
  dsimp only
  generalize State.raise _ 0x0B01 0 0 t = v at pair regs ⊢
  split
  · exact ⟨regs, s.pair.bothLost, s.pair.pReady, pair, id⟩
  · obtain ⟨downPair, downRegs⟩ := v.bothLost_facts (v.ticks t)
    generalize State.partnerDown _ = w at downPair downRegs ⊢
    have last : w.EventsOnly (if (decide (w.pair.role = Role.holder) || !W.PAIR_CTL_DETECT (w.word K.PAIR_CTL)) = true
      then w.raise 0x0B04 0 0 t else w) := .ite (w.raise_eventsOnly _ _ _ _ (by decide)) (.refl w)
    refine ⟨last.regs.trans (downRegs.trans regs), some (v.ticks t), false, ?_, nofun⟩
    rw [last.pair, downPair, pair]

/-- R351: the loss of the quill path. -/
theorem quillPathLoss_facts (s : State) (t : Tick) (side : s.pairSide = true) (quill : s.pair.quill = true) :
    ∃ u, exec (.quillPathLoss t) s = .next u ∧ u.pair.quill = false ∧ u.pair.tokIn = false
      ∧ u.pair.tokOut = s.pair.tokOut ∧ u.pair.role = s.pair.role ∧ u.regs = s.regs := by
  have go : ¬ ((!s.silent.pairSide) = true ∨ (!s.silent.pair.quill) = true) := not_or.mpr ⟨not_bnot side,
    not_bnot quill⟩
  have eq : exec (.quillPathLoss t) s =
      .next ((s.silent.withPair { s.pair with quill := false, tokIn := false }).pathLost t) := if_neg go
  obtain ⟨regs, b, r, pair, -⟩ := (s.silent.withPair { s.pair with quill := false, tokIn := false }).pathLost_facts t
  refine ⟨_, eq, ?_⟩
  rw [pair]
  exact ⟨rfl, rfl, rfl, rfl, regs⟩

/-- R351: the loss of the lane path. -/
theorem lanePathLoss_facts (s : State) (t : Tick) (side : s.pairSide = true) (lane : s.pair.lane = true)
    (gone : s.laneGone = true) : ∃ u, exec (.lanePathLoss t) s = .next u ∧ u.pair.lane = false
      ∧ u.pair.pReady = false ∧ u.pair.tokOut = s.pair.tokOut ∧ u.pair.role = s.pair.role ∧ u.regs = s.regs := by
  have go : ¬ ((!s.silent.pairSide) = true ∨ (!s.silent.pair.lane) = true ∨ (!s.silent.laneGone) = true) :=
    not_or.mpr ⟨not_bnot side, not_or.mpr ⟨not_bnot lane, not_bnot gone⟩⟩
  have down := (s.silent.withPair { s.pair with lane := false }).partnerDown_pair
  have downRegs := (s.silent.withPair { s.pair with lane := false }).partnerDown_regs
  have eq : exec (.lanePathLoss t) s =
      .next ((s.silent.withPair { s.pair with lane := false }).partnerDown.pathLost t) := if_neg go
  generalize State.partnerDown _ = v at down downRegs eq
  obtain ⟨regs, b, r, pair, ready⟩ := v.pathLost_facts t
  refine ⟨_, eq, ?_⟩
  rw [pair, down]
  refine ⟨rfl, ?_, rfl, rfl, regs.trans downRegs⟩
  cases r with
  | false => rfl
  | true => exact absurd (ready rfl) (by rw [down]; exact Bool.false_ne_true)

/-! ## The token -/

theorem tokenClaim_some (s : State) (tokIn released : Bool) (c : Claim) (out : s.pair.tokOut = false)
    (h : s.claimCase tokIn = some c) :
    exec (.tokenClaim tokIn released) s = .next ((s.silent.takeToken c tokIn released).claimed s.silent c) := by
  have h' : s.silent.claimCase tokIn = some c := h
  refine (if_neg (by rw [show s.silent.pair = s.pair from rfl, out]; decide)).trans ?_
  rw [h']

theorem State.countHandover_eventsOnly (s : State) : (s.withPair { s.pair with
    handovers := (satInc s.pair.handovers s.pair.hndSat).1
    hndSat := (satInc s.pair.handovers s.pair.hndSat).2.1 }).EventsOnly s.countHandover :=
  State.satEvent_eventsOnly ..

/-- What a claim brings leaves the words in force, and of the pair's record all but counts and REV_LOCK. -/
theorem State.claimed_facts (s o : State) (c : Claim) : (s.claimed o c).regs = s.regs
    ∧ (s.claimed o c).pair.role = s.pair.role ∧ (s.claimed o c).pair.tokOut = s.pair.tokOut
    ∧ (s.claimed o c).pair.grant = s.pair.grant ∧ (s.claimed o c).pair.last = s.pair.last := by
  have of_events {u v : State} (h : u.EventsOnly v) (hu : u.regs = s.regs ∧ u.pair.role = s.pair.role
      ∧ u.pair.tokOut = s.pair.tokOut ∧ u.pair.grant = s.pair.grant ∧ u.pair.last = s.pair.last) :
      v.regs = s.regs ∧ v.pair.role = s.pair.role
      ∧ v.pair.tokOut = s.pair.tokOut ∧ v.pair.grant = s.pair.grant ∧ v.pair.last = s.pair.last := by
    rw [h.regs, h.pair]
    exact hu
  cases c with
  | start | orphan => exact ⟨rfl, rfl, rfl, rfl, rfl⟩
  | takeover =>
    exact of_events (State.raise_eventsOnly _ 0x0B02 0 0 56250 (by decide))
      (of_events (State.satEvent_eventsOnly ..) ⟨rfl, rfl, rfl, rfl, rfl⟩)
  | handover =>
    have counted := of_events s.countHandover_eventsOnly ⟨rfl, rfl, rfl, rfl, rfl⟩
    unfold State.claimed
    dsimp only
    split
    · exact counted
    · exact of_events (State.clear_eventsOnly ..) counted

/-- R350, R365: a claim makes its side the holder. -/
theorem tokenClaim_facts (s : State) (tokIn released : Bool) (c : Claim) (out : s.pair.tokOut = false)
    (h : s.claimCase tokIn = some c) : ∃ u, exec (.tokenClaim tokIn released) s = .next u
      ∧ u.pair.role = .holder ∧ u.pair.tokOut = true ∧ u.pair.grant = (released && !tokIn)
      ∧ u.pair.last = (s.cycle + 1).setWidth 32 ∧ u.regs = s.regs := by
  obtain ⟨regs, role, tokOut, grant, last⟩ := (s.silent.takeToken c tokIn released).claimed_facts s.silent c
  exact ⟨_, tokenClaim_some s tokIn released c out h, role, tokOut, grant, last, regs⟩

/-- R349, R350: side B withdraws its claim on TOK_IN and joins. -/
theorem tokInAssert_withdraws (s : State) (t : Tick) (side : s.pairSide = true) (out : s.pair.tokOut = true)
    (b : s.sideB = true) : ∃ u, exec (.tokInAssert t) s = .next u ∧ u.pair.tokOut = false
        ∧ u.pair.grant = false ∧ u.pair.role = .joining ∧ u.regs = s.regs := by
  have eq : exec (.tokInAssert t) s = .next ((s.silent.withPair { s.pair with
      tokIn := true, tokOut := false, grant := false,
        last := s.cycle.setWidth 32 }).startJoin.partnerDown.raise 0x0B06 0 0 t) :=
    (if_neg (not_bnot side)).trans ((if_neg (not_bnot out)).trans (if_neg (not_bnot b)))
  refine ⟨_, eq, ?_⟩
  have raised (v : State) := v.raise_eventsOnly 0x0B06 0 0 t (by decide)
  rw [(raised _).pair, (raised _).regs, State.partnerDown_pair, State.partnerDown_regs]
  exact ⟨rfl, rfl, rfl, rfl⟩

/-- R367: before the boundary of a handover the holder releases its token to a READY partner, and else cancels. -/
theorem tokenReleaseHandover_eq (s : State) (h : Nat) (set : s.pairOps.handover = some h) :
    exec .tokenReleaseHandover s =
      if s.pair.role ≠ .holder ∨ !s.pair.tokOut ∨ s.mono + 1 < h then .next s.silent
      else if s.mono + 1 ≠ h ∨ !s.pair.pReady then
        .next { s.silent with pairOps := { s.pairOps with handover := none } }
      else .next (s.silent.withPair { s.pair with
        tokOut := false, grant := false, last := (s.cycle + 1).setWidth 32 }).countHandover := by
  show execTokenReleaseHandover s = _
  unfold execTokenReleaseHandover
  dsimp only
  rw [show s.silent.pairOps.handover = some h from set]
  rfl

/-- R367: what the handover's row does in the holder of the token up to the boundary. -/
theorem tokenReleaseHandover_facts (s : State) (h : Nat) (set : s.pairOps.handover = some h) :
    (s.pair.role ≠ .holder ∨ s.pair.tokOut = false ∨ s.mono + 1 < h → exec .tokenReleaseHandover s = .next s.silent)
    ∧ (s.pair.role = .holder → s.pair.tokOut = true → h ≤ s.mono + 1 →
      (h = s.mono + 1 → s.pair.pReady = true → ∃ u, exec .tokenReleaseHandover s = .next u ∧ u.pair.tokOut = false
        ∧ u.pair.grant = false ∧ u.pair.role = .holder ∧ u.pair.handovers = (satInc s.pair.handovers s.pair.hndSat).1
        ∧ u.regs = s.regs)
      ∧ (h ≠ s.mono + 1 ∨ s.pair.pReady = false → exec .tokenReleaseHandover s =
        .next { s.silent with pairOps := { s.pairOps with handover := none } })) := by
  have eq := tokenReleaseHandover_eq s h set
  refine ⟨fun h => eq.trans (if_pos (h.imp_right (.imp_left bnot_of))), fun role out low => ?_⟩
  have go : ¬ (s.pair.role ≠ .holder ∨ (!s.pair.tokOut) = true ∨ s.mono + 1 < h) :=
    not_or.mpr ⟨Classical.not_not.mpr role, not_or.mpr ⟨not_bnot out, by omega⟩⟩
  replace eq := eq.trans (if_neg go)
  refine ⟨fun now ready => ?_, fun not => eq.trans (if_pos (not.imp Ne.symm bnot_of))⟩
  have counted := (s.silent.withPair { s.pair with
    tokOut := false, grant := false, last := (s.cycle + 1).setWidth 32 }).countHandover_eventsOnly
  refine ⟨_, eq.trans (if_neg (not_or.mpr ⟨Classical.not_not.mpr now.symm, not_bnot ready⟩)), ?_⟩
  rw [counted.pair, counted.regs]
  exact ⟨rfl, rfl, role, rfl, rfl⟩

/-- R349, R350: TOK_IN on a pair side. -/
theorem tokInAssert_facts (s : State) (t : Tick) (side : s.pairSide = true) :
    (s.pair.tokOut = false → exec (.tokInAssert t) s = .next { s.silent with pair := { s.pair with tokIn := true } })
    ∧ (s.pair.tokOut = true → s.sideB = false → exec (.tokInAssert t) s =
      .next { s.silent with pair := { s.pair with tokIn := true, grant := false } })
    ∧ (s.pair.tokOut = true → s.sideB = true → ∃ u, exec (.tokInAssert t) s = .next u ∧ u.pair.tokOut = false
      ∧ u.pair.grant = false ∧ u.pair.role = .joining ∧ u.regs = s.regs) :=
  ⟨fun out => (if_neg (not_bnot side)).trans (if_pos (bnot_of out)),
    fun out a => (if_neg (not_bnot side)).trans ((if_neg (not_bnot out)).trans (if_pos (bnot_of a))),
    tokInAssert_withdraws s t side⟩

/-! ## Failure of the holder -/

/-- R352: the failure of the holder is declared exactly where both paths have been absent for 3 µs on a side that
may. -/
theorem failureDeclare_facts (s : State) (t : Tick) :
    let p := s.pair
    let absent := ∃ b, p.bothLost = some b ∧ b + 18750 ≤ s.ticks t
    let declares := s.mayDeclare = true ∧ W.PAIR_CTL_DETECT (s.word K.PAIR_CTL) = true ∧ p.quill = false
      ∧ p.lane = false ∧ absent
    (declares → exec (.failureDeclare t) s = .next (s.silent.declareFailure t))
    ∧ (¬ declares → exec (.failureDeclare t) s = .next s.silent) := by
  intro p absent declares
  have long : (match s.silent.pair.bothLost with
      | some b => decide (b + 18750 ≤ s.silent.ticks t)
      | none => false) = true ↔ absent := by
    rw [show s.silent.pair.bothLost = p.bothLost from rfl]
    cases hb : p.bothLost with
    | none => simp [absent, hb]
    | some b =>
      simp only [absent, hb, Option.some.injEq, exists_eq_left']
      exact decide_eq_true_iff
  have cond : (s.silent.mayDeclare && W.PAIR_CTL_DETECT (s.silent.word K.PAIR_CTL) && !s.silent.pair.quill
      && !s.silent.pair.lane && (match s.silent.pair.bothLost with
      | some b => decide (b + 18750 ≤ s.silent.ticks t)
      | none => false)) = true ↔ declares := by
    simp only [Bool.and_eq_true, Bool.not_eq_true', long, and_assoc]
    rfl
  exact ⟨fun h => if_pos (cond.mpr h), fun h => if_neg (mt cond.mp h)⟩

/-! ## Reversion -/

/-- R368: side A, READY for HOLDOFF, asks for the token below the limit and locks at it. -/
theorem reversionHoldoffExpiry_facts (s : State) (t : Tick) :
    let p := s.pair
    let c := s.word K.PAIR_CTL
    let asks := s.pairSide = true ∧ s.sideB = false ∧ p.role = .standby ∧ p.ready = true ∧ W.PAIR_CTL_AUTO_REV c = true
      ∧ p.revLock = false ∧ p.readyAt + W.PAIR_CTL_HOLDOFF c * 100000 ≤ s.mono
    (¬ asks → exec (.reversionHoldoffExpiry t) s = .next s.silent)
    ∧ (asks →
      (s.reversions < W.PAIR_CTL_REV_MAX c → exec (.reversionHoldoffExpiry t) s =
        .next { s.silent with pairOps := { s.pairOps with req := true } })
      ∧ (W.PAIR_CTL_REV_MAX c ≤ s.reversions → ∃ u, exec (.reversionHoldoffExpiry t) s = .next u ∧ u.pair.revLock = true
        ∧ u.pairOps.req = s.pairOps.req ∧ u.regs = s.regs)) := by
  intro p c asks
  have cond : (!s.pairSide) = true ∨ s.sideB = true ∨ s.pair.role ≠ .standby ∨ (!s.pair.ready) = true
      ∨ (!W.PAIR_CTL_AUTO_REV c) = true ∨ s.pair.revLock = true
      ∨ (!decide (p.readyAt + W.PAIR_CTL_HOLDOFF c * 100000 ≤ s.mono)) = true ↔ ¬ asks := by
    simp only [asks, p, Classical.not_and_iff_not_or_not, Bool.not_eq_true', Bool.not_eq_true, Bool.not_eq_false, ne_eq,
      decide_eq_false_iff_not]
  refine ⟨fun h => if_pos (cond.mpr h), fun h => ?_⟩
  have go := mt cond.mp (Classical.not_not.mpr h)
  refine ⟨fun few => (if_neg go).trans (if_pos few), fun many => ?_⟩
  have raised := (s.silent.withPair { p with revLock := true }).raise_eventsOnly 0x0B09 0 0 t (by decide)
  refine ⟨_, (if_neg go).trans (if_neg (Nat.not_lt.mpr many)), ?_, ?_, raised.regs⟩
  · exact (congrArg Pair.revLock raised.pair :)
  · exact (congrArg PairOps.req raised.pairOps :)

/-- Settles O57: each row's guard, and the record of the pair after it. -/
theorem pathsAndTheTokenOfThePair : Obligations.PathsAndTheTokenOfThePair := by
  intro s t p c side absent declares asks
  obtain ⟨declared, undeclared⟩ := failureDeclare_facts s t
  obtain ⟨waits, reverts⟩ := reversionHoldoffExpiry_facts s t
  refine ⟨fun h => if_pos ?_, quillPathLoss_facts s t, fun h => if_pos ?_, lanePathLoss_facts s t,
    fun h => congrArg Host.Outcome.next (if_neg h), fun h => congrArg Host.Outcome.next (if_pos h),
    fun h => if_pos (bnot_of h), fun h => if_neg (not_bnot h), declared, undeclared,
    fun tokIn released => ⟨fun out => if_pos out, fun out none => ?_, fun k => tokenClaim_facts s tokIn released k⟩,
    fun h => if_pos (bnot_of (Bool.not_eq_true _ ▸ h)), tokInAssert_facts s t,
    fun none => ?_, tokenReleaseHandover_facts s, waits, reverts⟩
  · exact (Classical.not_and_iff_not_or_not.mp h).imp (bnot_of <| Bool.not_eq_true _ ▸ ·) (bnot_of <| Bool.not_eq_true _ ▸ ·)
  · exact (Classical.not_and_iff_not_or_not.mp h).imp (bnot_of <| Bool.not_eq_true _ ▸ ·)
      (Classical.not_and_iff_not_or_not.mp · |>.imp (bnot_of <| Bool.not_eq_true _ ▸ ·) (bnot_of <| Bool.not_eq_true _ ▸ ·))
  · have none' : s.silent.claimCase tokIn = .none := none
    refine (if_neg (by rw [show s.silent.pair = s.pair from rfl, out]; decide)).trans ?_
    rw [none']
    rfl
  · show execTokenReleaseHandover s = _
    unfold execTokenReleaseHandover
    dsimp only
    rw [show s.silent.pairOps.handover = .none from none]

/-! ## Frames out -/

/-- Capturing the image changes nothing but the record of the partner. -/
theorem State.imageFor_shadow (s : State) : ∃ h, s.imageFor = { s with shadow := h } := by
  unfold State.imageFor
  split
  · exact ⟨s.shadow, rfl⟩
  · split
    · exact ⟨_, rfl⟩
    · split
      · exact ⟨s.shadow, rfl⟩
      · exact ⟨_, rfl⟩

/-- The state after the frame `f` of this cycle has left. -/
def State.frameSent (s : State) (f : PFrame) : State :=
  let long := decide (s.frameRoom < frameLen f)
  let low := s.cycle.toNat % 65536
  ({ s with
    shadow := { s.shadow with
      frameLen := min 65535 (frameLen f), fitRun := if long then 0 else min 1000 (s.shadow.fitRun + 1)
      imageOut := s.shadow.imageOut.drop f.image.length }
    pairOps := { s.pairOps with
      toSend := []
      unacked := s.pairOps.unacked.map fun (u : Nat × Nat) => if u.2 = 65536 then (u.1, low) else u } } : State).emit
    (.partner (stripe s.bond.lanes (frameBytes f)))

theorem State.frameSent_facts (s : State) (f : PFrame) : (s.frameSent f).pairOps.toSend = []
    ∧ Output.partner (stripe s.bond.lanes (frameBytes f)) ∈ (s.frameSent f).out
    ∧ (s.frameSent f).regs = s.regs ∧ (s.frameSent f).lanes = s.lanes :=
  ⟨rfl, List.mem_append_right _ (List.mem_singleton.mpr rfl), rfl, rfl⟩

/-- R363, R364: the frame of a pair side whose LIVE is high leaves over an active bond with every record not yet
sent. -/
theorem partnerFrameSend_facts (s : State) (side : s.pairSide = true) (live : s.sys.live = true)
    (bond : s.bond.active ≠ 0) : ∃ u, exec .partnerFrameSend s = .next u ∧ u.pairOps.toSend = []
      ∧ Output.partner (stripe s.bond.lanes (frameBytes s.silent.imageFor.ownFrame)) ∈ u.out
      ∧ u.regs = s.regs ∧ u.lanes = s.lanes := by
  have go : ¬ ((!s.silent.pairSide) = true ∨ (!s.silent.sys.live) = true ∨ s.silent.bond.active = 0) :=
    not_or.mpr ⟨not_bnot side, not_or.mpr ⟨not_bnot live, bond⟩⟩
  have eq : exec .partnerFrameSend s = .next (
      let v := s.silent.imageFor
      let w := v.frameSent v.ownFrame
      if decide (v.frameRoom < frameLen v.ownFrame) then w.raise 0x0B0A 0 (BitVec.ofNat 32 (frameLen v.ownFrame)) 52500
      else if 1000 ≤ w.shadow.fitRun then w.clear 0x0B0A 0 52500 else w) := if_neg go
  obtain ⟨h, image⟩ := s.silent.imageFor_shadow
  obtain ⟨toSend, out, regs, lanes⟩ := s.silent.imageFor.frameSent_facts s.silent.imageFor.ownFrame
  have quiet (w : State) (c d : Prop) [Decidable c] [Decidable d] (x : Word) : w.EventsOnly
      (if c then w.raise 0x0B0A 0 x 52500 else if d then w.clear 0x0B0A 0 52500 else w) :=
    .ite (w.raise_eventsOnly _ _ _ _ (by decide)) (.ite (w.clear_eventsOnly ..) (.refl w))
  refine ⟨_, eq, ?_⟩
  rw [(quiet ..).pairOps, (quiet ..).out, (quiet ..).regs, (quiet ..).lanes]
  refine ⟨toSend, ?_, regs.trans ?_, lanes.trans ?_⟩
  · rwa [show s.silent.imageFor.bond = s.bond by rw [image]; rfl] at out
  · rw [image]; rfl
  · rw [image]; rfl

/-! ## Frames in -/

/-- `t` has what a frame showed in `s`: a sound lane path, no frame missing, the partner's cycle and blocked stacks. -/
structure State.KeepsSeen (s t : State) : Prop where
  lane : t.pair.lane = s.pair.lane
  lost : t.shadow.lost = s.shadow.lost
  rxCycle : t.shadow.rxCycle = s.shadow.rxCycle
  pBlocked : t.shadow.pBlocked = s.shadow.pBlocked
  pending : t.pending = s.pending

namespace State.KeepsSeen

variable {s t u : State}

theorem refl (s : State) : s.KeepsSeen s := ⟨rfl, rfl, rfl, rfl, rfl⟩

theorem trans (h : s.KeepsSeen t) (k : t.KeepsSeen u) : s.KeepsSeen u :=
  ⟨k.lane.trans h.lane, k.lost.trans h.lost, k.rxCycle.trans h.rxCycle, k.pBlocked.trans h.pBlocked,
    k.pending.trans h.pending⟩

theorem ite {c : Prop} [Decidable c] (ht : s.KeepsSeen t) (hu : s.KeepsSeen u) : s.KeepsSeen (if c then t else u) := by
  split
  · exact ht
  · exact hu

theorem foldl {α : Type} {f : State → α → State} (h : ∀ (s : State) (x : α), s.KeepsSeen (f s x)) (l : List α)
    (s : State) : s.KeepsSeen (l.foldl f s) := by
  induction l generalizing s with
  | nil => exact refl s
  | cons x l ih => exact (h s x).trans (ih _)

theorem of_replied (h : s.Replied t) : s.KeepsSeen t :=
  ⟨by rw [h.pair], by rw [h.shadow], by rw [h.shadow], by rw [h.shadow], h.pending⟩

theorem of_events (h : s.EventsOnly t) : s.KeepsSeen t := of_replied (.of_events h)

end State.KeepsSeen

theorem State.startJoin_keepsSeen (s : State) : s.KeepsSeen s.startJoin := ⟨rfl, rfl, rfl, rfl, rfl⟩

theorem State.readyJudge_keepsSeen (s : State) (t : Nat) : s.KeepsSeen (s.readyJudge t) := by
  have cleared (l : List ActEv) : s.KeepsSeen (l.foldl (fun (s : State) (e : ActEv) => s.clear 0x0B07 e.inst t) s) :=
    .foldl (fun u e => .of_events (u.clear_eventsOnly ..)) _ s
  unfold State.readyJudge
  refine .ite (.refl s) (.ite ?_ ⟨rfl, rfl, rfl, rfl, rfl⟩)
  exact (cleared _).trans ⟨rfl, rfl, rfl, rfl, rfl⟩

theorem State.takeImages_keepsSeen (s : State) (f : PFrame) : s.KeepsSeen (s.takeImages f) :=
  .ite (.refl s) ⟨rfl, rfl, rfl, rfl, rfl⟩

theorem State.stageGen_keepsSeen (s : State) (k w : Nat) (v : Word) (target : Nat) :
    s.KeepsSeen (s.stageGen k w v target) := .ite (.refl s) ⟨rfl, rfl, rfl, rfl, rfl⟩

theorem State.setDstack_keepsSeen (s : State) (k : Nat) (d : DStack) : s.KeepsSeen (s.setDstack k d) :=
  ⟨rfl, rfl, rfl, rfl, rfl⟩

theorem State.commitAhead_keepsSeen (s : State) (l : List (Nat × Word)) (due : Nat) :
    s.KeepsSeen (s.commitAhead l due) := by
  refine .foldl (fun u p => ?_) l s
  refine .ite (.foldl (fun v n => .ite (v.setDstack_keepsSeen ..) (.refl v)) _ u) (.ite ?_ (.refl u))
  split
  · exact .ite (u.setDstack_keepsSeen ..) (.refl u)
  · exact u.stageGen_keepsSeen ..
  · exact u.stageGen_keepsSeen ..
  · exact u.stageGen_keepsSeen ..
  · exact .refl u

theorem State.setEvt_keepsSeen (s : State) (e : Evt) : s.KeepsSeen { s with evt := e } := ⟨rfl, rfl, rfl, rfl, rfl⟩

theorem State.setPairOps_keepsSeen (s : State) (o : PairOps) : s.KeepsSeen { s with pairOps := o } :=
  ⟨rfl, rfl, rfl, rfl, rfl⟩

theorem State.setSys_keepsSeen (s : State) (y : Sys) : s.KeepsSeen { s with sys := y } := ⟨rfl, rfl, rfl, rfl, rfl⟩

/-- One record of the holder's frame is taken into its queue (R359). -/
def State.queueRecord (s : State) (r : RepRec) : State :=
  let s := { s with pairOps := { s.pairOps with recSeq := r.seq } }
  if r.kind = rkReset then
    { s with evt := { s.evt with resets := s.evt.resets ++ [(r.offset, r.page, r.value.toNat, r.effect, r.slot)] } }
  else if r.kind = rkMode then
    match modOfCode r.offset with
    | some dst =>
      { s with sys := { s.sys with
        modeReq := some { target := dst, mask := r.value.toNat, due := r.effect, slot := r.slot } } }
    | none => s
  else { s with pairOps := { s.pairOps with records := s.pairOps.records ++ [r] } }

theorem State.queueRecord_keepsSeen (s : State) (r : RepRec) : s.KeepsSeen (s.queueRecord r) := by
  unfold State.queueRecord
  dsimp only
  split
  · exact ⟨rfl, rfl, rfl, rfl, rfl⟩
  · split
    · split <;> exact ⟨rfl, rfl, rfl, rfl, rfl⟩
    · exact ⟨rfl, rfl, rfl, rfl, rfl⟩

theorem State.takeRecords_keepsSeen (s : State) (f : PFrame) : s.KeepsSeen (s.takeRecords f) := by
  have queued (l : List RepRec) : s.KeepsSeen (l.foldl State.queueRecord s) := .foldl State.queueRecord_keepsSeen l s
  unfold State.takeRecords
  dsimp only
  split
  · exact queued _
  · exact (queued _).trans (State.commitAhead_keepsSeen ..)

theorem State.setKept_keepsSeen (s : State) (l : List StepIn) :
    s.KeepsSeen { s with shadow := { s.shadow with kept := l } } := ⟨rfl, rfl, rfl, rfl, rfl⟩

theorem State.keepSteps_keepsSeen (s : State) (l : List StepIn) : s.KeepsSeen (s.keepSteps l) :=
  (s.setKept_keepsSeen _).trans (.foldl (fun u _ => .ite (u.setKept_keepsSeen _) (.refl u)) l _)

theorem State.followRelease_keepsSeen (s : State) (mask cyc : Nat) : s.KeepsSeen (s.followRelease mask cyc) :=
  .foldl (fun u _ => .ite (u.setEvt_keepsSeen _) (.refl u)) _ s

theorem State.setMatchRun_keepsSeen (s : State) (n : Nat) :
    s.KeepsSeen { s with shadow := { s.shadow with matchRun := n } } := ⟨rfl, rfl, rfl, rfl, rfl⟩

theorem State.setMismatch_keepsSeen (s : State) (n : Word) (b : Bool) :
    s.KeepsSeen { s with pair := { s.pair with mismatch := n, misSat := b } } := ⟨rfl, rfl, rfl, rfl, rfl⟩

theorem State.checkCrcs_keepsSeen (s : State) (f : PFrame) (t : Nat) : s.KeepsSeen (s.checkCrcs f t) := by
  unfold State.checkCrcs
  refine .ite (.refl s) ?_
  split
  · exact s.setMatchRun_keepsSeen _
  · refine .trans ?_ (State.startJoin_keepsSeen _)
    refine .trans ?_ (.foldl (fun u k => .of_events (u.raise_eventsOnly 0x0B07 k 0 t (by decide))) _ _)
    exact (s.setMismatch_keepsSeen ..).trans (.of_events (State.satEvent_eventsOnly ..))

theorem State.followFrame_keepsSeen (s : State) (f : PFrame) (t : Nat) : s.KeepsSeen (s.followFrame f t) := by
  unfold State.followFrame
  refine .trans (.trans ?_ (State.setPairOps_keepsSeen ..)) (State.checkCrcs_keepsSeen ..)
  refine .trans (.trans ?_ (State.keepSteps_keepsSeen ..)) (State.followRelease_keepsSeen ..)
  exact (State.takeImages_keepsSeen ..).trans (State.takeRecords_keepsSeen ..)

theorem State.pairEvents_eventsOnly (s : State) (t : Nat) : s.EventsOnly (s.pairEvents t) := by
  unfold State.pairEvents
  refine .trans (.ite (s.clear_eventsOnly ..) (s.raise_eventsOnly _ _ _ _ (by decide))) (.ite ?_ (.refl _))
  exact State.clear_eventsOnly ..

/-- The steps to resend and the replies that wait, once a frame has acknowledged `ack`. -/
def State.acked (s : State) (ack : BitVec 16) : State :=
  let late (u : Nat × Nat) : Bool := !decide (u.2 < 65536 ∧ (ack.toNat + 65536 - u.2) % 65536 < 32768)
  { s with
    shadow := { s.shadow with unack := s.shadow.unack.filter fun x => decide (x.cycle.setWidth 16 ≠ ack) }
    pairOps := { s.pairOps with unacked := s.pairOps.unacked.filter late } }

theorem State.takeAck_eq (s : State) (ack : BitVec 16) :
    s.takeAck ack = (List.range 8).foldl State.ackReply (s.acked ack) := rfl

/-- An acknowledgement touches no more of the partner's record than the steps to resend. -/
theorem State.takeAck_keeps (s : State) (ack : BitVec 16) : s.KeepsSeen (s.takeAck ack)
    ∧ (s.takeAck ack).pair = s.pair := by
  have first : s.KeepsSeen (s.acked ack) ∧ (s.acked ack).pair = s.pair := ⟨⟨rfl, rfl, rfl, rfl, rfl⟩, rfl⟩
  rw [State.takeAck_eq]
  generalize s.acked ack = u at first ⊢
  have replied : u.Replied ((List.range 8).foldl State.ackReply u) := .foldl State.ackReply_replied _ u
  exact ⟨first.1.trans (.of_replied replied), replied.pair.trans first.2⟩

/-- What is taken of every frame: what it shows of the partner, the pair's events and its acknowledgement. -/
def State.frameSeen (s : State) (f : PFrame) (t : Nat) : State := ((s.seePartner f).pairEvents t).takeAck f.ack

theorem State.frameSeen_facts (s : State) (f : PFrame) (t : Nat) : (s.frameSeen f t).pair.role = s.pair.role
    ∧ (s.frameSeen f t).pair.lane = true ∧ (s.frameSeen f t).shadow.lost = 0
      ∧ (s.frameSeen f t).shadow.rxCycle = f.cycle
    ∧ (s.frameSeen f t).shadow.pBlocked = f.blocked ∧ (s.frameSeen f t).pending = s.pending := by
  have events := (s.seePartner f).pairEvents_eventsOnly t
  obtain ⟨seen, pair⟩ := ((s.seePartner f).pairEvents t).takeAck_keeps f.ack
  have whole := (State.KeepsSeen.of_events events).trans seen
  rw [State.frameSeen, whole.lane, whole.lost, whole.rxCycle, whole.pBlocked, whole.pending, pair, events.pair]
  exact ⟨rfl, rfl, rfl, rfl, rfl, rfl⟩

/-- R363: a sound frame that comes whole to a pair side in use. -/
theorem partnerFrameReceive_eq (s : State) (t : Tick) (f : PFrame) (side : s.pairSide = true) (use : s.pair.role ≠ .out)
    (carries : s.bondCarries = true) : exec (.partnerFrameReceive f true t) s = .next (
      let u := s.silent.frameSeen f t
      let v := if u.pair.role = .wait ∧ f.claim then u.startJoin else u
      if v.pair.role = .holder then v.leadFrame f t
      else if (v.pair.role = .standby ∨ v.pair.role = .joining) ∧ f.role = 1 then (v.followFrame f t).readyJudge t
      else v.readyJudge t) := by
  show execPartnerFrameReceive f true t s = _
  unfold execPartnerFrameReceive State.frameSeen
  exact if_neg (not_or.mpr ⟨not_bnot side, not_or.mpr ⟨by decide, not_or.mpr ⟨use, not_bnot carries⟩⟩⟩)

/-- The holder takes a sound frame of its partner. -/
theorem partnerFrameReceive_holder (s : State) (t : Tick) (f : PFrame) (side : s.pairSide = true)
    (use : s.pair.role ≠ .out) (carries : s.bondCarries = true) (holder : s.pair.role = .holder) :
    exec (.partnerFrameReceive f true t) s = .next ((s.silent.frameSeen f t).leadFrame f t) := by
  rw [partnerFrameReceive_eq s t f side use carries]
  have role : (s.silent.frameSeen f t).pair.role = .holder := (s.silent.frameSeen_facts f t).1.trans holder
  generalize s.silent.frameSeen f t = u at role
  have wait : ¬ (u.pair.role = .wait ∧ f.claim = true) := by
    rw [role]
    exact fun h => nomatch h.1
  simp only [if_neg wait, if_pos role]

/-- A side in another role takes a sound frame of its partner. -/
theorem partnerFrameReceive_other (s : State) (t : Tick) (f : PFrame) (side : s.pairSide = true)
    (use : s.pair.role ≠ .out) (carries : s.bondCarries = true) (other : s.pair.role ≠ .holder) :
    ∃ u, exec (.partnerFrameReceive f true t) s = .next u ∧ u.pair.lane = true
      ∧ u.shadow.lost = 0 ∧ u.shadow.rxCycle = f.cycle ∧ u.shadow.pBlocked = f.blocked ∧ u.pending = s.pending := by
  obtain ⟨role, lane, lost, rxCycle, pBlocked, pending⟩ := s.silent.frameSeen_facts f t
  refine ⟨_, partnerFrameReceive_eq s t f side use carries, ?_⟩
  generalize s.silent.frameSeen f t = u at role lane lost rxCycle pBlocked pending ⊢
  have joined : u.KeepsSeen (if u.pair.role = .wait ∧ f.claim then u.startJoin else u) :=
    .ite u.startJoin_keepsSeen (.refl u)
  have notHolder : (if u.pair.role = .wait ∧ f.claim then u.startJoin else u).pair.role ≠ .holder := by
    split
    · exact fun h => nomatch h
    · rw [role]
      exact other
  dsimp only
  rw [if_neg notHolder]
  generalize (if u.pair.role = .wait ∧ f.claim then u.startJoin else u) = v at joined
  have whole := joined.trans (.ite ((v.followFrame_keepsSeen f t).trans (State.readyJudge_keepsSeen _ t))
    (v.readyJudge_keepsSeen t) (c := (v.pair.role = .standby ∨ v.pair.role = .joining) ∧ f.role = 1))
  exact ⟨whole.lane.trans lane, whole.lost.trans lost, whole.rxCycle.trans rxCycle, whole.pBlocked.trans pBlocked,
    whole.pending.trans pending⟩

/-! ## Operations that leave the clock and add no record -/

/-- `t` stands at the same cycle as `s`, with the same latch, and no replicated record waits that did not wait in
`s`. -/
structure State.Timed (s t : State) : Prop where
  cycle : t.cycle = s.cycle
  mono : t.mono = s.mono
  latch : t.duct.latchAt = s.duct.latchAt
  records : ∀ r ∈ t.pairOps.records, r ∈ s.pairOps.records

namespace State.Timed

variable {s t u : State}

theorem same (hc : t.cycle = s.cycle) (hm : t.mono = s.mono) (hl : t.duct.latchAt = s.duct.latchAt)
    (hr : t.pairOps.records = s.pairOps.records) : s.Timed t := ⟨hc, hm, hl, fun _ h => hr ▸ h⟩

theorem refl (s : State) : s.Timed s := .same rfl rfl rfl rfl

theorem trans (h : s.Timed t) (k : t.Timed u) : s.Timed u :=
  ⟨k.cycle.trans h.cycle, k.mono.trans h.mono, k.latch.trans h.latch, fun r hr => h.records r (k.records r hr)⟩

theorem ite {c : Prop} [Decidable c] (ht : s.Timed t) (hu : s.Timed u) : s.Timed (if c then t else u) := by
  split
  · exact ht
  · exact hu

theorem foldl {α : Type} {f : State → α → State} (h : ∀ (s : State) (x : α), s.Timed (f s x)) (l : List α)
    (s : State) : s.Timed (l.foldl f s) := by
  induction l generalizing s with
  | nil => exact refl s
  | cons x l ih => exact (h s x).trans (ih _)

theorem of_replied (h : s.Replied t) : s.Timed t := .same h.cycle h.mono (by rw [h]) h.records

theorem of_events (h : s.EventsOnly t) : s.Timed t := of_replied (.of_events h)

theorem of_net (h : s.NetOnly t) : s.Timed t := of_replied (.of_net h)

end State.Timed

section
variable (s : State)

/-! ### Writes of one table -/

theorem State.emit_timed (o : Output) : s.Timed (s.emit o) := .same rfl rfl rfl rfl
theorem State.setWord_timed (k : Nat) (v : Word) : s.Timed (s.setWord k v) := .same rfl rfl rfl rfl
theorem State.setCell_timed (ci : Nat) (x : Cell) : s.Timed (s.setCell ci x) := .same rfl rfl rfl rfl
theorem State.setMg_timed (ci : Nat) (x : Mgmt) : s.Timed (s.setMg ci x) := .same rfl rfl rfl rfl
theorem State.setStr_timed (p : Nat) (x : Str) : s.Timed (s.setStr p x) := .same rfl rfl rfl rfl
theorem State.setLane_timed (i : Nat) (x : Lane) : s.Timed (s.setLane i x) := .same rfl rfl rfl rfl
theorem State.setTx_timed (i : Nat) (x : Tx) : s.Timed (s.setTx i x) := .same rfl rfl rfl rfl
theorem State.setEcho_timed (i : Nat) (x : Echo) : s.Timed (s.setEcho i x) := .same rfl rfl rfl rfl
theorem State.setSess_timed (i : Nat) (x : Sess) : s.Timed (s.setSess i x) := .same rfl rfl rfl rfl
theorem State.setSlot_timed (n : Nat) (l : LoopSt) : s.Timed (s.setSlot n l) := .same rfl rfl rfl rfl
theorem State.setConv_timed (k : Nat) (c : Conv) : s.Timed (s.setConv k c) := .same rfl rfl rfl rfl
theorem State.setLoop_timed (i : Nat) (l : ClkLoop) : s.Timed (s.setLoop i l) := .same rfl rfl rfl rfl
theorem State.setDcell_timed (ci : Nat) (d : Duct) : s.Timed (s.setDcell ci d) := .same rfl rfl rfl rfl
theorem State.setDstack_timed (k : Nat) (d : DStack) : s.Timed (s.setDstack k d) := .same rfl rfl rfl rfl
theorem State.setThSw_timed (j : Nat) (x : ThSw) : s.Timed (s.setThSw j x) := .same rfl rfl rfl rfl
theorem State.setSch_timed (j : Nat) (x : SchCell) : s.Timed (s.setSch j x) := .same rfl rfl rfl rfl
theorem State.setSupSw_timed (j : Nat) (x : SupSw) : s.Timed (s.setSupSw j x) := .same rfl rfl rfl rfl
theorem State.setArb_timed (i : Nat) (a : Arb) : s.Timed (s.setArb i a) := .same rfl rfl rfl rfl
theorem State.setDma_timed (d : Dma) : s.Timed (s.setDma d) := .same rfl rfl rfl rfl
theorem State.setEvt_timed (e : Evt) : s.Timed { s with evt := e } := .same rfl rfl rfl rfl
theorem State.setSaf_timed (f : Saf) : s.Timed { s with saf := f } := .same rfl rfl rfl rfl
theorem State.setInk_timed (k : Ink) : s.Timed { s with ink := k } := .same rfl rfl rfl rfl
theorem State.setClk_timed (k : Clk) : s.Timed { s with clk := k } := .same rfl rfl rfl rfl
theorem State.setCmd_timed (k : Cmd) : s.Timed { s with cmd := k } := .same rfl rfl rfl rfl
theorem State.setSup_timed (k : Sup) : s.Timed { s with sup := k } := .same rfl rfl rfl rfl
theorem State.setBond_timed (k : Bond) : s.Timed { s with bond := k } := .same rfl rfl rfl rfl

/-! ### Raising and clearing -/

theorem State.urgent_timed (i : Nat) (o : OSet) (t : Nat) : s.Timed (s.urgent i o t) := by
  unfold State.urgent
  refine .ite (.refl s) (.ite ((s.emit_timed _).trans (State.emit_timed ..)) ?_)
  exact .trans (.ite (State.setTx_timed ..) (.refl s)) (State.emit_timed ..)

theorem State.sendPbk_timed (mask t : Nat) : s.Timed (s.sendPbk mask t) :=
  .ite (.refl s) (.foldl (fun u _ => u.urgent_timed ..) _ s)

theorem State.sendBlk_timed (mask t : Nat) : s.Timed (s.sendBlk mask t) :=
  .ite (.refl s) (.foldl (fun u _ => u.urgent_timed ..) _ s)

theorem State.sendBlkAll_timed (t : Nat) : s.Timed (s.sendBlkAll t) :=
  .ite (.refl s) (.foldl (fun u _ => u.urgent_timed ..) _ s)

theorem State.force_timed (mask : Nat) : s.Timed (s.force mask) := s.setEvt_timed _

theorem State.block_timed (mask t : Nat) : s.Timed (s.block mask t) :=
  ((s.sendBlk_timed ..).trans (State.sendPbk_timed ..)).trans (State.force_timed ..)

theorem State.blockModule_timed (t : Nat) : s.Timed (s.blockModule t) :=
  ((s.sendBlkAll_timed ..).trans (State.sendPbk_timed ..)).trans (State.force_timed ..)

theorem State.startGiveUp_timed : s.Timed s.startGiveUp := by
  have taken (e : Evt) (p : Pair) (y : Sys) :
      s.Timed { s with evt := e, pair := p, sys := y, pairOps := { s.pairOps with giveUp := true } } :=
    .same rfl rfl rfl rfl
  exact .ite (.refl s) ((taken _ _ _).trans (.trans (.of_events (State.enqueue_eventsOnly ..))
    (.of_events (State.blotEvent_eventsOnly ..))))

theorem State.cellReaction_timed (code ci : Nat) (byp : Bool) : s.Timed (s.cellReaction code ci byp) :=
  .ite ((s.setCell_timed ..).trans (State.setMg_timed ..)) (.ite (s.setCell_timed ..) (.refl s))

theorem State.cellNoted_timed (code ci : Nat) : s.Timed (s.cellNoted code ci) := .ite (s.setCell_timed ..) (.refl s)

theorem State.react_timed (code inst : Nat) (byp : Bool) (t : Nat) : s.Timed (s.react code inst byp t) := by
  unfold State.react
  dsimp only
  split
  · exact .ite s.startGiveUp_timed ((s.blockModule_timed t).trans (.same rfl rfl rfl rfl))
  · refine .ite s.startGiveUp_timed (.ite (.same rfl rfl rfl rfl) ?_)
    exact .ite ((s.block_timed ..).trans (State.cellReaction_timed ..)) (s.block_timed ..)
  · exact .ite (s.cellNoted_timed ..) (s.cellReaction_timed ..)
  · exact .refl s

theorem State.raise_timed (code inst : Nat) (detail : Word) (t : Nat) : s.Timed (s.raise code inst detail t) := by
  have trail (u : State) : u.EventsOnly (((u.enqueue code 1 inst detail t).capture code inst detail t).blotEvent code t) :=
    ((u.enqueue_eventsOnly ..).trans (State.capture_eventsOnly ..)).trans (State.blotEvent_eventsOnly ..)
  unfold State.raise State.raiseB
  refine .ite (.of_events ((State.enqueue_eventsOnly ..).trans (State.blotEvent_eventsOnly ..)))
    (.ite ((s.setEvt_timed _).trans (.ite (State.react_timed ..) (.refl _))) ?_)
  exact ((s.setEvt_timed _).trans (.of_events (trail _))).trans (State.react_timed ..)

theorem State.clear_timed (code inst t : Nat) : s.Timed (s.clear code inst t) := .of_events (s.clear_eventsOnly ..)

theorem State.judge_timed (c : Prop) [Decidable c] (code inst : Nat) (detail : Word) (t : Nat) :
    s.Timed (if c then s.raise code inst detail t else s.clear code inst t) :=
  .ite (s.raise_timed ..) (s.clear_timed ..)

end

section
variable (s : State)

/-! ### Words that act -/

theorem State.startAcquire_timed (i : Nat) (sweep : Bool) (t : Nat) : s.Timed (s.startAcquire i sweep t) :=
  s.setLane_timed ..

theorem State.dropLocal_timed (i t : Nat) : s.Timed (s.dropLocal i t) := .ite (s.setBond_timed _) (.refl s)

theorem State.laneRestate_timed (i : Nat) (old w : Word) : s.Timed (s.laneRestate i old w) := by
  have dropped (x : Lane) : s.Timed ((s.setLane i x).dropLocal i 0) :=
    (s.setLane_timed i x).trans (State.dropLocal_timed ..)
  unfold State.laneRestate
  refine .ite (dropped _) (.ite (dropped _) (.ite ?_ (.refl s)))
  have begun (x : Lane) : s.Timed (((s.setLane i x).startAcquire i true 0).dropLocal i 0) :=
    ((s.setLane_timed i x).trans (State.startAcquire_timed ..)).trans (State.dropLocal_timed ..)
  exact (begun _).trans (.ite (State.raise_timed ..) (.refl _))

theorem State.laneApply_timed (i : Nat) (w : Word) : s.Timed (s.laneApply i w) := by
  unfold State.laneApply
  refine .trans ?_ (.ite (.refl _) (State.emit_timed ..))
  exact ((s.setWord_timed ..).trans (State.laneRestate_timed ..)).trans (.ite (State.setStr_timed ..) (.refl _))

theorem State.bondApply_timed (w : Word) : s.Timed (s.bondApply w) := by
  refine (s.setWord_timed K.BOND_CTL w).trans (.ite ?_ (State.setBond_timed ..))
  exact ((State.setBond_timed ..).trans (State.clear_timed ..)).trans (State.clear_timed ..)

theorem State.laneCmd_timed (i cmd : Nat) : s.Timed (s.laneCmd i cmd) := .ite (s.setLane_timed ..) (s.setLane_timed ..)

theorem State.sendLbk_timed (b pos cmd : Nat) : s.Timed (s.sendLbk b pos cmd) := by
  unfold State.sendLbk
  split
  · exact s.emit_timed _
  · exact .refl s

theorem State.timeJudge_timed (t : Nat) : s.Timed (s.timeJudge t) := by
  refine .ite (.refl s) ((s.setClk_timed _).trans (.ite (State.raise_timed ..) (.ite (State.clear_timed ..) (.refl _))))

theorem State.ptpSelect_timed (t : Nat) : s.Timed (s.ptpSelect t) := by
  have best (n : Net) (c : Clk) : s.Timed { s with net := n, clk := c } := .same rfl rfl rfl rfl
  exact (best _ _).trans (.ite (.refl _) (State.raise_timed ..))

theorem State.arbCtl_timed (w : Word) : s.Timed (s.arbCtl w) :=
  ((s.setInk_timed _).trans (State.setWord_timed ..)).trans (.ite (.refl _) (State.clear_timed ..))

theorem State.arbTkt_timed (w : Word) : s.Timed (s.arbTkt w) :=
  (s.setWord_timed ..).trans (.foldl (fun u _ => .ite (u.setArb_timed ..) (.refl u)) _ _)

theorem State.arbRevoke_timed (i : Nat) : s.Timed (s.arbRevoke i) :=
  .ite ((s.setInk_timed _).trans (State.setArb_timed ..)) (.refl s)

theorem State.dmaStart_timed (ch : Nat) : s.Timed (s.dmaStart ch) :=
  (s.setDma_timed _).trans (.ite (State.setDma_timed ..) (.refl _))

theorem State.blotTrigger_timed (row t : Nat) : s.Timed (s.blotTrigger row t) := .of_events
    (s.blotTrigger_eventsOnly ..)

theorem State.w1c_timed (k : Nat) (w : Word) : s.Timed (s.w1c k w) := by
  unfold State.w1c
  dsimp only
  repeat' split
  all_goals exact .same rfl rfl rfl rfl

theorem State.applyWord_timed (k : Nat) (w : Word) (t : Nat) : s.Timed (s.applyWord k w t) := by
  unfold State.applyWord
  refine .ite (s.laneApply_timed ..) (.ite (s.bondApply_timed w) (.ite (s.laneCmd_timed ..) (.ite (s.sendLbk_timed ..)
    (.ite (((s.setWord_timed ..).trans (State.timeJudge_timed ..)).trans (State.ptpSelect_timed ..))
    (.ite (.ite (s.setClk_timed _) (.refl s)) (.ite (s.arbCtl_timed w) (.ite (s.arbTkt_timed w)
    (.ite (s.arbRevoke_timed _) (.ite (.ite (s.dmaStart_timed _) (s.setDma_timed _))
    (.ite (.ite (s.blotTrigger_timed ..) (.refl s)) (.ite (s.setConv_timed ..) (.ite (.refl s) ?_))))))))))))
  split
  · exact .ite (s.w1c_timed ..) (s.setWord_timed ..)
  · exact s.setWord_timed ..

/-! ### The words of a commit -/

theorem State.restartLoops_timed (i : Nat) (force : Bool) (t : Nat) : s.Timed (s.restartLoops i force t) := by
  refine .trans (.foldl (fun u _ => u.setLoop_timed ..) _ s)
    (.ite (.trans (State.raise_timed ..) (State.timeJudge_timed ..)) (State.timeJudge_timed ..))

theorem State.applySess_timed (i k : Nat) (w : Word) : s.Timed (s.applySess i k w) := by
  unfold State.applySess
  refine .ite (s.setSess_timed ..) (.ite (s.setSess_timed ..) (.ite (s.setSess_timed ..) (.ite (s.setSess_timed ..)
    (.ite ?_ (.refl s)))))
  exact .trans (.ite (.refl s) (.of_net (s.bufReleaseAll_netOnly i))) (State.setSess_timed ..)

theorem State.inkWrite_timed (a : Nat) (bytes : List Byte) : s.Timed (s.inkWrite a bytes) := s.setInk_timed _

theorem State.opEnd_timed (id st status : Nat) : s.Timed (s.opEnd id st status) := s.setCmd_timed _

theorem State.request_timed (ci code : Nat) (params : List Byte) : s.Timed (s.request ci code params) :=
  (s.setMg_timed ..).trans (State.emit_timed ..)

theorem State.backToFound_timed (ci : Nat) : s.Timed (s.backToFound ci) :=
  ((s.setCell_timed ..).trans (State.setMg_timed ..)).trans (State.request_timed ..)

theorem State.withdraw_timed (ci : Nat) : s.Timed (s.withdraw ci) := by
  unfold State.withdraw
  refine .trans (.trans (.ite (s.opEnd_timed ..) (.refl s)) (State.setCell_timed ..)) (.ite (.ite ?_ ?_) (.refl _))
  · exact State.setMg_timed ..
  · exact State.backToFound_timed ..

theorem State.stringFresh_timed (b : Nat) : s.Timed (s.stringFresh b) := (s.setStr_timed ..).trans
    (State.setStr_timed ..)

theorem State.buildBlocked_timed (k T ci : Nat) (mgmt : List Byte) : s.Timed (s.buildBlocked k T ci mgmt) :=
  (s.setDcell_timed ..).trans (.ite (.refl _) (State.setMg_timed ..))

theorem State.wearEnable_timed (ci : Nat) : s.Timed (s.wearEnable ci) :=
  .trans (.foldl (fun u _ => u.setSupSw_timed ..) _ s) (State.clear_timed ..)

theorem State.commitTopo_timed (o : State) (ks : List Nat) : s.Timed (s.commitTopo o ks) := by
  unfold State.commitTopo
  refine .trans (.trans (.trans (.foldl State.withdraw_timed _ s) (.foldl State.stringFresh_timed _ _))
    (.ite (.refl _) (.foldl (fun u b => .foldl (fun v ci => v.buildBlocked_timed ..) _ u) _ _)))
    (.foldl (fun u k => ?_) _ _)
  refine .ite (.foldl (fun v e => v.clear_timed ..) _ u) ?_
  refine .trans (.ite ?_ (.refl u)) (.ite (State.clear_timed ..) (.refl _))
  exact ((u.setCell_timed ..).trans (State.wearEnable_timed ..)).trans (State.clear_timed ..)

theorem State.safDrive_timed (was t : Nat) : s.Timed (s.safDrive was t) :=
  .ite (s.setSaf_timed _) ((s.setSaf_timed _).trans (State.block_timed ..))

theorem State.commitSafety_timed : s.Timed s.commitSafety := by
  have stored : s.Timed s.storeSafety := .same rfl rfl rfl rfl
  exact ((stored.trans (State.setSaf_timed ..)).trans (State.safDrive_timed ..)).trans (State.setSaf_timed ..)

theorem State.setStream_timed (j : Nat) (x : Strm) : s.Timed (s.setStream j x) := .same rfl rfl rfl rfl

theorem State.streamCommit_timed (j : Nat) (owner : BitVec 16) : s.Timed (s.streamCommit j owner) :=
  (s.setStream_timed ..).trans (State.clear_timed ..)

theorem State.commitNet_timed (o : State) (ks : List Nat) (owner : BitVec 16) : s.Timed (s.commitNet o ks owner) := by
  have net (u : State) (p cls : Nat) (m : NetMsg) : u.Timed (u.sendNet p cls m) := .of_replied (u.sendNet_replied ..)
  unfold State.commitNet
  refine .trans (.trans (.trans (.trans (.foldl (fun u p => ?_) _ s) (.foldl (fun u c => ?_) _ _))
    (.foldl (fun u j => ?_) _ _)) (.foldl (fun u j => ?_) _ _)) (.ite (State.ptpSelect_timed ..) (.refl _))
  · refine .ite (.trans (.foldl (fun v i => .ite (v.setSess_timed ..) (.refl v)) _ u) (.ite ?_ (.refl _))) (.refl u)
    exact .ite (.refl _) (net ..)
  · exact .ite (.of_net (u.setCan_netOnly ..)) (.refl u)
  · exact .ite (.ite (.foldl (fun v p => .ite (.refl v) (net ..)) _ u) (.refl u)) (.refl u)
  · exact .ite (u.streamCommit_timed ..) (.refl u)

theorem State.postCode_timed (ci sw : Nat) (on : Bool) (code : Nat) : s.Timed (s.postCode ci sw on code) :=
  (s.setSupSw_timed ..).trans (State.setSup_timed ..)

theorem State.supCommit_timed (k : Nat) : s.Timed (s.supCommit k) := by
  refine .foldl (fun u ci => .foldl (fun v sw => ?_) _ u) _ s
  refine (v.setSupSw_timed ..).trans (.ite (.refl _) ?_)
  exact .trans (.ite (.refl _) (State.postCode_timed ..)) (.ite (.refl _) (State.postCode_timed ..))

theorem State.commitPair_timed (o : State) : s.Timed (s.commitPair o) := by
  unfold State.commitPair
  split
  · exact .same rfl rfl rfl rfl
  · split
    · exact ⟨rfl, rfl, rfl, nofun⟩
    · exact .refl s

theorem State.commitWords_timed (l : List (Nat × Word)) (slot : Nat) (owner : BitVec 16) :
    s.Timed (s.commitWords l slot owner) := by
  unfold State.commitWords
  extract_lets ks o lane acts s1 s2 s3 s4 s5 s6 slots _ s7 _ s8 s9
  have words : s.Timed s1 := by
    refine .foldl (fun u p => ?_) l s
    refine .ite (u.applyWord_timed ..) (.ite ((u.setWord_timed ..).trans (State.restartLoops_timed ..)) (.ite (.refl u)
      (.ite (u.applySess_timed ..) (.ite (u.inkWrite_timed ..) (u.setWord_timed ..)))))
  have safety : s2.Timed s3 := .ite s2.commitSafety_timed (.refl s2)
  have codes : s4.Timed s5 := .foldl (fun u k => .ite (u.supCommit_timed k) (.refl u)) _ s4
  have adcs : s5.Timed s6 := .foldl (fun u k => .ite (u.setConv_timed ..) (.refl u)) _ s5
  have loops : s6.Timed s7 := .ite (s6.setCmd_timed _) (.refl s6)
  have topo : s7.Timed s8 := .ite (s7.setCmd_timed _) (.refl s7)
  have pair : s8.Timed s9 := .ite (s8.commitPair_timed o) (.refl s8)
  have mirrors := State.Timed.foldl (fun (u : State) (b : Nat) => u.judge_timed (u.lateSegs b true = true) 0x0309 b 0 0)
    s9.strings s9
  exact (words.trans (s1.commitTopo_timed ..)).trans (safety.trans ((s3.commitNet_timed ..).trans
    (codes.trans (adcs.trans (loops.trans (topo.trans (pair.trans mirrors)))))))

/-! ### Replicated records -/

theorem State.stageGen_timed (k w : Nat) (v : Word) (target : Nat) : s.Timed (s.stageGen k w v target) :=
  .ite (.refl s) (s.setDstack_timed ..)

theorem State.openSlot_timed (n : Nat) (v : Option Word) : s.Timed (s.openSlot n v) := by
  unfold State.openSlot
  refine .ite (s.setSlot_timed ..) ?_
  split
  · exact .refl s
  · exact s.setSlot_timed ..

theorem State.closeSlot_timed (n : Nat) : s.Timed (s.closeSlot n) := .ite (.refl s) (s.setSlot_timed ..)

theorem State.setCoeffs_timed (n i : Nat) (l : List Word) : s.Timed (s.setCoeffs n i l) := by
  induction l generalizing s i with
  | nil => exact .refl s
  | cons v l ih => exact (s.setWord_timed ..).trans (ih ..)

theorem State.enumString_timed (op b : Nat) : s.Timed (s.enumString op b) := by
  refine .ite ((s.setStr_timed ..).trans (.foldl (fun u ci => ?_) _ _)) (.trans (.foldl (fun u ci => ?_) _ s)
    (State.setCmd_timed ..))
  · exact ((u.setEcho_timed ..).trans (State.setEcho_timed ..)).trans (State.request_timed ..)
  · exact (u.setCell_timed ..).trans (.ite (State.raise_timed ..) (.refl _))

theorem State.enumerate_timed (op scope port : Nat) : s.Timed (s.enumerate op scope port) :=
  .trans (.foldl (fun u b => u.enumString_timed op b) _ s) (.ite (.refl _) (State.opEnd_timed ..))

theorem State.startAdmit_timed (ci op : Nat) : s.Timed (s.startAdmit ci op) :=
  (s.setMg_timed ..).trans (State.request_timed ..)

theorem State.retire_timed (ci : Nat) : s.Timed (s.retire ci) :=
  .trans (.ite (.refl s) (s.opEnd_timed ..)) ((State.backToFound_timed ..).trans (State.setCell_timed ..))

theorem State.commandBypass_timed (ci : Nat) : s.Timed (s.commandBypass ci) := s.setCell_timed ..

theorem State.applyRecord_timed (r : RepRec) : s.Timed (s.applyRecord r) := by
  unfold State.applyRecord
  refine .ite ?_ (.ite (s.openSlot_timed ..) (.ite (s.closeSlot_timed _) (.ite (s.setCoeffs_timed ..)
    (.ite (s.enumerate_timed ..) (.ite (s.startAdmit_timed ..) (.ite (s.retire_timed _) (.ite (s.commandBypass_timed _)
    (.refl s))))))))
  split
  · refine .ite ?_ (s.applyWord_timed ..)
    split
    · exact (s.setWord_timed ..).trans (State.stageGen_timed ..)
    · exact s.setWord_timed ..
  · exact .refl s

end

/-! ## Blocks of the partner -/

/-- R360: /PBK/ forces the stacks of its mask off and raises no event. -/
theorem pbk_facts (s : State) (mask : BitVec 16) (t : Tick) (side : s.pairSide = true) (use : s.pair.role ≠ .out) :
    ∃ u, exec (.pbk mask t) s = .next u ∧ u.evt.forced = s.evt.forced ||| mask.toNat
      ∧ u.evt.active = s.evt.active ∧ u.regs = s.regs := by
  have eq : exec (.pbk mask t) s = .next ((s.silent.sendBlk mask.toNat t).force mask.toNat) :=
    if_neg (not_or.mpr ⟨not_bnot side, use⟩)
  refine ⟨_, eq, ?_, ?_, ?_⟩
  · show (s.silent.sendBlk mask.toNat t).evt.forced ||| mask.toNat = _
    rw [State.sendBlk_evt]
    rfl
  · show (s.silent.sendBlk mask.toNat t).evt.active = _
    rw [State.sendBlk_evt]
    rfl
  · exact (State.sendBlk_reach ..).regs

/-! ## Due records -/

/-- R359: the records that are due, once taken from those that wait. -/
def State.recordsKept (s : State) : State :=
  { s with pairOps := { s.pairOps with records := s.pairOps.records.filter fun r => decide (s.mono < r.effect) } }

/-- The records that are due. -/
def State.recordsDue (s : State) : List RepRec := s.pairOps.records.filter fun r => decide (r.effect ≤ s.mono)

theorem replicatedRecordApply_eq (s : State) : exec .replicatedRecordApply s = .next (
    let cs : List (Nat × Word) := (s.recordsDue.filter fun r => decide (r.kind = rkCommit)).map fun r => (r.wordKey,
      r.value)
    let u : State := if cs.isEmpty then s.silent.recordsKept else s.silent.recordsKept.commitWords cs 0 0
    (s.recordsDue.filter fun r => decide (r.kind ≠ rkCommit)).foldl State.applyRecord u) := rfl

theorem State.applyRecords_pending (l : List RepRec) (s : State) :
    (l.foldl State.applyRecord s).pending = s.pending := by
  induction l generalizing s with
  | nil => rfl
  | cons r l ih => exact (ih _).trans (s.applyRecord_pending r)

/-- R359: at EFFECT the due records leave the list of those that wait. -/
theorem replicatedRecordApply_facts (s : State) : ∃ u, exec .replicatedRecordApply s = .next u
    ∧ u.cycle = s.cycle ∧ u.mono = s.mono ∧ u.pending = s.pending
    ∧ (∀ r ∈ u.pairOps.records, s.mono < r.effect) ∧ (s.pairOps.records = [] → u = s.silent) := by
  refine ⟨_, replicatedRecordApply_eq s, ?_⟩
  extract_lets cs u
  have committed : s.silent.recordsKept.Timed u := .ite (.refl _) (State.commitWords_timed ..)
  have applied := committed.trans (State.Timed.foldl State.applyRecord_timed
    (s.recordsDue.filter fun r => decide (r.kind ≠ rkCommit)) u)
  have pending : u.pending = s.pending := by
    unfold u
    split
    · rfl
    · exact State.commitWords_pending ..
  refine ⟨applied.cycle, applied.mono, (State.applyRecords_pending ..).trans pending, fun r hr => ?_, fun none => ?_⟩
  · exact of_decide_eq_true (List.mem_filter.mp (applied.records r hr)).2
  · have due : s.recordsDue = [] := by rw [State.recordsDue, none]; rfl
    have kept : s.silent.recordsKept = s.silent := by
      unfold State.recordsKept
      rw [show s.silent.pairOps.records = [] from none, List.filter_nil]
      exact congrArg (fun l => ({ s.silent with pairOps := { s.pairOps with records := l } } : State)) none.symm
    have empty : cs = [] := by unfold cs; rw [due]; rfl
    unfold u
    rw [due, empty, kept]
    rfl

/-! ## Joining -/

theorem State.takeImage_timed (s : State) (T : Nat) (r : ImageRec) : s.Timed (s.takeImage T r) := by
  unfold State.takeImage
  split
  · exact (s.setCell_timed ..).trans (State.setDcell_timed ..)
  · exact s.setDcell_timed ..
  · exact s.setDcell_timed ..
  · exact s.setDstack_timed ..
  · exact s.setDstack_timed ..
  · exact ((s.setThSw_timed ..).trans (State.setSch_timed ..)).trans (State.setSupSw_timed ..)

theorem State.loadImage_timed (s : State) (T : Nat) : s.Timed (s.loadImage T) := by
  unfold State.loadImage
  refine .trans (.foldl (fun u r => u.takeImage_timed T r) _ s) (.foldl (fun u l => ?_) _ _)
  exact .foldl (fun v x => v.setThSw_timed ..) _ u

/-- R362: the whole image brings a joining side to catching up, with the cycles that it lags. -/
theorem joinImageComplete_facts (s : State) (j : BitVec 48) (role : s.pair.role = .joining) (join : s.shadow.join = 1)
    (image : s.shadow.imageCyc = some j) : ∃ u, exec .joinImageComplete s = .next u
      ∧ u.shadow.join = 2 ∧ u.shadow.imageBuf = [] ∧ u.pending = s.pending
      ∧ u.shadow.lag = s.mono - s.elapsedOf j - (if s.duct.latchAt = s.mono + 1 then 1 else 2) := by
  have eq : exec .joinImageComplete s = .next (
      let v := s.silent.loadImage (s.silent.elapsedOf j + 2 + s.silent.look)
      { v with
        shadow := { v.shadow with
          join := 2, imageBuf := [], lag := v.mono - v.elapsedOf j - (if v.duct.latchAt = v.mono + 1 then 1 else 2) }
        therm := { v.therm with kept := [] } }) := by
    refine (if_neg (not_or.mpr ⟨Classical.not_not.mpr role, Classical.not_not.mpr join⟩)).trans ?_
    rw [show s.silent.shadow.imageCyc = some j from image]
  have timed := s.silent.loadImage_timed (s.silent.elapsedOf j + 2 + s.silent.look)
  have pending := s.silent.loadImage_pending (s.silent.elapsedOf j + 2 + s.silent.look)
  refine ⟨_, eq, ?_⟩
  dsimp only
  generalize s.silent.loadImage (s.silent.elapsedOf j + 2 + s.silent.look) = v at timed pending ⊢
  refine ⟨rfl, rfl, pending, ?_⟩
  unfold State.elapsedOf
  rw [timed.mono, timed.cycle, timed.latch]
  rfl

theorem joinImageComplete_not (s : State)
    (h : ¬ (s.pair.role = .joining ∧ s.shadow.join = 1 ∧ s.shadow.imageCyc ≠ none)) :
    exec .joinImageComplete s = .next s.silent := by
  by_cases go : s.pair.role = .joining ∧ s.shadow.join = 1
  · have none : s.silent.shadow.imageCyc = none := Classical.not_not.mp fun some => h ⟨go.1, go.2, some⟩
    refine (if_neg (not_or.mpr ⟨Classical.not_not.mpr go.1, Classical.not_not.mpr go.2⟩)).trans ?_
    rw [none]
  · exact if_pos (Classical.not_and_iff_not_or_not.mp go)

/-- Settles O58: frames and joining by what each keeps of the records, and due records by `State.Timed`. -/
theorem partnerFramesRecordsAndJoining : Obligations.PartnerFramesRecordsAndJoining := by
  intro s t sends carries blocks imaged caught
  refine ⟨fun h => if_pos ?_, fun ⟨side, live, bond⟩ => partnerFrameSend_facts s side live bond,
    fun f crcOk => ⟨fun h => if_pos ?_, fun ⟨side, use, carry⟩ ok => ?_⟩,
    fun mask => ⟨fun h => if_pos ?_, fun ⟨side, use⟩ => pbk_facts s mask t side use⟩,
    replicatedRecordApply_facts s, fun h => ?_, fun j ⟨role, join,
      _⟩ image => joinImageComplete_facts s j role join image,
    fun ⟨role, join, lag⟩ => if_neg ?_, fun h => if_pos ?_⟩
  · rcases Classical.not_and_iff_not_or_not.mp h with h | h
    · exact .inl (bnot_of (Bool.not_eq_true _ ▸ h))
    · exact .inr ((Classical.not_and_iff_not_or_not.mp h).imp (bnot_of <| Bool.not_eq_true _ ▸ ·) Classical.not_not.mp)
  · rcases h with h | h
    · rcases Classical.not_and_iff_not_or_not.mp h with h | h
      · exact .inl (bnot_of (Bool.not_eq_true _ ▸ h))
      · exact .inr (.inr ((Classical.not_and_iff_not_or_not.mp h).imp Classical.not_not.mp (bnot_of <| Bool.not_eq_true _ ▸ ·)))
    · exact .inr (.inl (bnot_of h))
  · subst ok
    exact ⟨partnerFrameReceive_holder s t f side use carry, partnerFrameReceive_other s t f side use carry⟩
  · exact (Classical.not_and_iff_not_or_not.mp h).imp (bnot_of <| Bool.not_eq_true _ ▸ ·) Classical.not_not.mp
  · exact joinImageComplete_not s h
  · exact not_or.mpr ⟨Classical.not_not.mpr role, not_or.mpr ⟨Classical.not_not.mpr join, Classical.not_not.mpr lag⟩⟩
  · exact (Classical.not_and_iff_not_or_not.mp h).imp_right Classical.not_and_iff_not_or_not.mp

end Sys2Proof.Machine
end


section
/-! PROOFS. The Inkwell: O49, O50. -/

namespace Sys2Proof.Machine

open Sys2Proof.Machine

/-! ## The lottery -/

/-- `t` is `s` with other records of the arbiter's requesters. -/
def State.ArbOnly (s t : State) : Prop := t = { s with ink := { s.ink with arb := t.ink.arb } }

theorem State.ArbOnly.trans {s t u : State} (h : s.ArbOnly t) (k : t.ArbOnly u) : s.ArbOnly u := by
  unfold State.ArbOnly at *
  rw [k, h]

theorem State.setArb_arbOnly (s : State) (i : Nat) (a : Arb) : s.ArbOnly (s.setArb i a) := rfl

/-- Every requester of `l` is given a record that follows from its own. -/
theorem State.foldl_setArb (f : State → Nat → Arb) (hf : ∀ (s : State) (i : Nat) (t : State), s.ArbOnly t →
    t.arb i = s.arb i → f t i = f s i) (l : List Nat) (nodup : l.Nodup) (s : State) :
    let t := l.foldl (fun (s : State) (i : Nat) => s.setArb i (f s i)) s
    s.ArbOnly t ∧ (∀ i ∈ l, t.arb i = f s i) ∧ ∀ i, i ∉ l → t.arb i = s.arb i := by
  induction l generalizing s with
  | nil => exact ⟨rfl, nofun, fun _ _ => rfl⟩
  | cons m l ih =>
    obtain ⟨hm, hl⟩ := List.nodup_cons.mp nodup
    obtain ⟨only, inside, outside⟩ := ih hl (s.setArb m (f s m))
    refine ⟨(s.setArb_arbOnly m _).trans only, fun i hi => ?_, fun i hi => ?_⟩
    · rcases List.mem_cons.mp hi with rfl | hi
      · exact (outside i hm).trans (State.setArb_arb ..)
      · have ne : i ≠ m := fun h => hm (h ▸ hi)
        exact (inside i hi).trans (hf s i _ (s.setArb_arbOnly m _) (s.setArb_arb_ne _ _ _ ne))
    · obtain ⟨ne, hi⟩ := not_or.mp (mt List.mem_cons.mpr hi)
      exact (outside i hi).trans (s.setArb_arb_ne _ _ _ ne)

/-- The walk along the running sum of tickets ends at one of the requesters where the sum exceeds the drawn value. -/
theorem lotteryWalk_mem (tk : Nat → Nat) (w sum : Nat) (l : List Nat) (h : w < (l.map tk).foldl (· + ·) sum)
    (hs : sum ≤ w) :
    lotteryWalk tk w sum l ∈ l := by
  induction l generalizing sum with
  | nil => exact absurd h (Nat.not_lt.mpr hs)
  | cons i l ih =>
    unfold lotteryWalk
    split
    · exact List.mem_cons_self
    · exact List.mem_cons_of_mem _ (ih (sum + tk i) h (Nat.not_lt.mp ‹_›))

/-- The requester that a draw gives the port to (R435). -/
def State.winner (s : State) (el : List Nat) : Nat :=
  match el.find? fun i => decide ((s.arb i).losses = 64) with
  | some i => i
  | none => lotteryWalk s.tickets ((lfsrStep s.ink.lfsr).toNat * (el.map s.tickets).foldl (· + ·) 0 / 65536) 0 el

theorem foldl_add_pos (l : List Nat) (sum : Nat) (h : 0 < sum ∨ ∃ x ∈ l, 0 < x) : 0 < l.foldl (· + ·) sum := by
  induction l generalizing sum with
  | nil =>
    rcases h with h | ⟨x, hx, _⟩
    · exact h
    · cases hx
  | cons x l ih =>
    refine ih (sum + x) ?_
    rcases h with h | ⟨y, hy, pos⟩
    · exact .inl (Nat.add_pos_left h x)
    · rcases List.mem_cons.mp hy with rfl | hy
      · exact .inl (Nat.add_pos_right sum pos)
      · exact .inr ⟨y, hy, pos⟩

/-- The winner is one of the eligible requesters. -/
theorem State.winner_mem (s : State) (el : List Nat) (ne : el ≠ []) (tickets : ∀ i ∈ el, s.tickets i ≠ 0) :
    s.winner el ∈ el := by
  unfold State.winner
  split
  · exact List.mem_of_find?_eq_some ‹_›
  · refine lotteryWalk_mem _ _ _ _ ?_ (Nat.zero_le _)
    obtain ⟨i, hi⟩ := List.exists_mem_of_ne_nil el ne
    have pos : 0 < (el.map s.tickets).foldl (· + ·) 0 := foldl_add_pos _ _
      (.inr ⟨_, List.mem_map_of_mem hi, Nat.pos_of_ne_zero (tickets i hi)⟩)
    exact Nat.div_lt_of_lt_mul (Nat.mul_lt_mul_of_pos_right (lfsrStep s.ink.lfsr).isLt pos)

theorem State.ArbOnly.tickets {s t : State} (h : s.ArbOnly t) (i : Nat) : t.tickets i = s.tickets i := by
  rw [h]
  rfl

theorem State.ArbOnly.requests {s t : State} (h : s.ArbOnly t) (req : BitVec 7) (i : Nat) :
    t.requests req i = s.requests req i := by
  rw [h]
  rfl

/-- The record of an eligible requester after a draw that `win` wins (R435). -/
def State.afterDraw (s : State) (win T i : Nat) : Arb :=
  if i = win then { s.arb i with losses := 0, est := 0 } else (s.arb i).lose T (s.tickets i)

/-- R435: a draw among eligible requesters. -/
theorem State.draw_facts (s : State) (el : List Nat) (nodup : el.Nodup) (ne : el ≠ [])
    (tickets : ∀ i ∈ el, s.tickets i ≠ 0) :
    (s.draw el).ink.lfsr = lfsrStep s.ink.lfsr ∧ (s.draw el).ink.hold = some (s.winner el) ∧ s.winner el ∈ el
      ∧ ((s.draw el).arb (s.winner el)).losses = 0
      ∧ (∀ i ∈ el, i ≠ s.winner el → ((s.draw el).arb i).losses = min 64 ((s.arb i).losses + 1))
      ∧ (s.draw el).ink.mem = s.ink.mem ∧ (s.draw el).regs = s.regs := by
  have mem := s.winner_mem el ne tickets
  let u : State := { s with ink := { s.ink with lfsr := lfsrStep s.ink.lfsr, hold := some (s.winner el) } }
  have eq : s.draw el = el.foldl (fun (v : State) (i : Nat) => v.setArb i (v.afterDraw (s.winner el)
    ((el.map s.tickets).foldl (· + ·) 0) i)) u := rfl
  obtain ⟨only, inside, -⟩ := State.foldl_setArb (fun v i => v.afterDraw (s.winner el) ((el.map s.tickets).foldl (· + ·) 0) i)
    (fun v i w only same => by rw [State.afterDraw, State.afterDraw, only.tickets, same]) el nodup u
  rw [← eq] at only inside
  refine ⟨by rw [only], by rw [only], mem, ?_, fun i hi other => ?_, by rw [only], by rw [only]⟩
  · rw [inside _ mem, State.afterDraw, if_pos rfl]
  · rw [inside _ hi, State.afterDraw, if_neg other]
    rfl

theorem arbiterDraw_eq (s : State) (req : BitVec 7) (free : s.ink.hold = none) :
    let u := (List.range 7).foldl (fun (s : State) (i : Nat) =>
      s.setArb i (if s.requests req i then { s.arb i with req := true } else Arb.init)) s.silent
    let el := (List.range 7).filter u.eligible
    exec (.arbiterDraw req) s = .next (if el = [] then u else u.draw el) :=
  if_neg (by rw [show s.silent.ink.hold = none from free]; decide)

/-- R435: the draw of a free port. -/
theorem arbiterDraw_facts (s : State) (req : BitVec 7) :
    let u := (List.range 7).foldl (fun (s : State) (i : Nat) =>
      s.setArb i (if s.requests req i then { s.arb i with req := true } else Arb.init)) s.silent
    let el := (List.range 7).filter u.eligible
    let x := lfsrStep s.ink.lfsr
    let T := (el.map u.tickets).foldl (· + ·) 0
    let win := match el.find? fun i => decide ((u.arb i).losses = 64) with
      | some i => i
      | none => lotteryWalk u.tickets (x.toNat * T / 65536) 0 el
    (s.ink.hold ≠ none → exec (.arbiterDraw req) s = .next s.silent)
    ∧ (s.ink.hold = none → el = [] → exec (.arbiterDraw req) s = .next u)
    ∧ (s.ink.hold = none → el ≠ [] → ∃ t, exec (.arbiterDraw req) s = .next t ∧ t.ink.lfsr = x
        ∧ t.ink.hold = some win ∧ win ∈ el ∧ (t.arb win).losses = 0
        ∧ (∀ i ∈ el, i ≠ win → (t.arb i).losses = min 64 ((u.arb i).losses + 1))
        ∧ t.ink.mem = s.ink.mem ∧ t.regs = s.regs) := by
  intro u el x T win
  have requested : s.silent.ArbOnly u := (State.foldl_setArb
    (fun v i => if v.requests req i then { v.arb i with req := true } else Arb.init)
    (fun v i w only same => by rw [only.requests, same]) (List.range 7) List.nodup_range s.silent).1
  have lfsr : lfsrStep u.ink.lfsr = x := by rw [requested]; rfl
  refine ⟨fun held => if_pos (Option.isSome_iff_ne_none.mpr held), fun free none => ?_, fun free ne => ?_⟩
  · exact (arbiterDraw_eq s req free).trans (congrArg Host.Outcome.next (if_pos none))
  · have eligible (i : Nat) (hi : i ∈ el) : u.tickets i ≠ 0 := by
      have := (List.mem_filter.mp hi).2
      unfold State.eligible at this
      simp only [Bool.and_eq_true, decide_eq_true_eq] at this
      exact this.1.1.2
    obtain ⟨drawnLfsr, hold, mem, won, lost, same, regs⟩ := u.draw_facts el (List.nodup_range.filter _) ne eligible
    have winner : u.winner el = win := by
      unfold State.winner
      rw [lfsr]
    rw [winner] at hold mem won lost
    refine ⟨_, (arbiterDraw_eq s req free).trans (congrArg Host.Outcome.next (if_neg ne)), drawnLfsr.trans lfsr, hold,
      mem,
      won, lost, same.trans ?_, regs.trans ?_⟩
    · rw [requested]; rfl
    · rw [requested]; rfl

/-! ## The end of a transfer -/

/-- The port freed of requester `h` after a transfer of `tiles` + 1 tiles (R437). -/
def State.portFreed (s : State) (h tiles : Nat) : State :=
  let u := s.setArb h { s.arb h with req := false }
  { u with ink := { u.ink with
    hold := none, used := if h = 2 ∨ h = 6 then s.ink.used + 2 * (tiles + 1) else s.ink.used } }

theorem State.portFreed_arb (s : State) (h tiles : Nat) : ((s.portFreed h tiles).arb h).req = false :=
  congrArg Arb.req (s.setArb_arb h _)

theorem inkwellTransferDone_eq (s : State) (tiles : Fin 16) (h : Nat) (hold : s.ink.hold = some h) :
    exec (.inkwellTransferDone tiles) s =
      .next (if h = 1 then (s.silent.portFreed h tiles).storeRow else s.silent.portFreed h tiles) := by
  show execInkwellTransferDone tiles s = _
  unfold execInkwellTransferDone
  dsimp only
  rw [show s.silent.ink.hold = some h from hold]
  rfl

theorem State.storeRow_nil (s : State) (h : s.ink.blot.fifo = []) : s.storeRow = s := by
  unfold State.storeRow
  rw [h]

theorem State.storeRow_cons (s : State) (i : Nat) (vs : List Word) (rest : List (Nat × List Word))
    (h : s.ink.blot.fifo = (i, vs) :: rest) : s.storeRow =
      ({ s with ink := { s.ink with blot := { s.ink.blot with fifo := rest } } } : State).inkWrite
        (i % s.blotDepth * rowStride s.blotN * 4) (vs.flatMap wordBytes) := by
  unfold State.storeRow
  rw [h]
  rfl

/-- R434, R437: the end of the holder's transfer. -/
theorem inkwellTransferDone_facts (s : State) (tiles : Fin 16) (h : Nat) (hold : s.ink.hold = some h) :
    ∃ t, exec (.inkwellTransferDone tiles) s = .next t ∧ t.ink.hold = none
      ∧ (t.arb h).req = false
      ∧ t.ink.used = (if h = 2 ∨ h = 6 then s.ink.used + 2 * ((tiles : Nat) + 1) else s.ink.used) ∧ t.regs = s.regs
      ∧ (h ≠ 1 ∨ s.ink.blot.fifo = [] → t.ink.mem = s.ink.mem ∧ t.ink.poison = s.ink.poison)
      ∧ (h = 1 → ∀ i vs rest, s.ink.blot.fifo = (i, vs) :: rest → t.ink.blot.fifo = rest
          ∧ t.ink.mem = (s.inkWrite (i % s.blotDepth * rowStride s.blotN * 4) (vs.flatMap wordBytes)).ink.mem) := by
  have eq := inkwellTransferDone_eq s tiles h hold
  have req := s.silent.portFreed_arb h tiles
  by_cases rows : h = 1 ∧ s.ink.blot.fifo ≠ []
  · obtain ⟨rfl, some⟩ := rows
    obtain ⟨⟨i, vs⟩, rest, fifo⟩ := List.exists_cons_of_ne_nil some
    rw [if_pos rfl, State.storeRow_cons (s.silent.portFreed 1 tiles) i vs rest fifo] at eq
    refine ⟨_, eq, rfl, req, rfl, rfl, fun h => ?_, fun _ j ws r same => ?_⟩
    · exact absurd (h.resolve_left (Classical.not_not.mpr rfl)) some
    · obtain ⟨hj, rfl⟩ := List.cons.inj (fifo.symm.trans same)
      obtain ⟨rfl, rfl⟩ := Prod.mk.inj hj
      exact ⟨rfl, rfl⟩
  · have none (h1 : h = 1) : s.ink.blot.fifo = [] := Classical.not_not.mp fun some => rows ⟨h1, some⟩
    have stay : (if h = 1 then (s.silent.portFreed h tiles).storeRow else s.silent.portFreed h tiles)
        = s.silent.portFreed h tiles := by
      split
      · exact State.storeRow_nil _ (none ‹_›)
      · rfl
    rw [stay] at eq
    refine ⟨_, eq, rfl, req, rfl, rfl, fun _ => ⟨rfl, rfl⟩, fun h1 i vs rest some => ?_⟩
    rw [none h1] at some
    cases some

/-! ## The scrubber -/

theorem State.firstPoison_facts (s : State) (cim : Bool) (tile : Nat) : ∃ w,
    s.firstPoison cim tile = { s with ink := { s.ink with first := w } } := by
  unfold State.firstPoison
  split
  · exact ⟨s.ink.first, rfl⟩
  · exact ⟨_, rfl⟩

/-- `t` is `s` with other events, wear records and Blotter, and another INK_FIRST. -/
structure State.PoisonKeeps (s t : State) : Prop where
  regs : t.regs = s.regs
  mono : t.mono = s.mono
  ink : t.ink = { s.ink with blot := t.ink.blot, first := t.ink.first }

namespace State.PoisonKeeps

variable {s t u : State}

theorem refl (s : State) : s.PoisonKeeps s := ⟨rfl, rfl, rfl⟩

theorem trans (h : s.PoisonKeeps t) (k : t.PoisonKeeps u) : s.PoisonKeeps u :=
  ⟨k.regs.trans h.regs, k.mono.trans h.mono, k.ink.trans (by rw [h.ink])⟩

theorem ite {c : Prop} [Decidable c] (ht : s.PoisonKeeps t) (hu : s.PoisonKeeps u) :
    s.PoisonKeeps (if c then t else u) := by
  split
  · exact ht
  · exact hu

theorem foldl {α : Type} {f : State → α → State} (h : ∀ (s : State) (x : α), s.PoisonKeeps (f s x)) (l : List α)
    (s : State) : s.PoisonKeeps (l.foldl f s) := by
  induction l generalizing s with
  | nil => exact refl s
  | cons x l ih => exact (h s x).trans (ih _)

theorem of_reach (h : s.EventReach t) : s.PoisonKeeps t := ⟨h.regs, h.mono, by rw [h.ink]⟩

theorem poison (h : s.PoisonKeeps t) : t.ink.poison = s.ink.poison := by rw [h.ink]
theorem cimPoison (h : s.PoisonKeeps t) : t.ink.cimPoison = s.ink.cimPoison := by rw [h.ink]
theorem mem (h : s.PoisonKeeps t) : t.ink.mem = s.ink.mem := by rw [h.ink]
theorem pcnt (h : s.PoisonKeeps t) : t.ink.pcnt = s.ink.pcnt := by rw [h.ink]
theorem cpcnt (h : s.PoisonKeeps t) : t.ink.cpcnt = s.ink.cpcnt := by rw [h.ink]
theorem scrubInk (h : s.PoisonKeeps t) : t.ink.scrubInk = s.ink.scrubInk := by rw [h.ink]
theorem scrubCim (h : s.PoisonKeeps t) : t.ink.scrubCim = s.ink.scrubCim := by rw [h.ink]
theorem dma (h : s.PoisonKeeps t) : t.ink.dma = s.ink.dma := by rw [h.ink]

end State.PoisonKeeps

theorem State.firstPoison_poisonKeeps (s : State) (cim : Bool) (tile : Nat) :
    s.PoisonKeeps (s.firstPoison cim tile) := by
  obtain ⟨w, eq⟩ := s.firstPoison_facts cim tile
  rw [eq]
  exact ⟨rfl, rfl, rfl⟩

theorem State.setSupSw_poisonKeeps (s : State) (j : Nat) (x : SupSw) : s.PoisonKeeps (s.setSupSw j x) :=
  ⟨rfl, rfl, rfl⟩

theorem State.wearReload_poisonKeeps (s : State) (tile : Nat) : s.PoisonKeeps (s.wearReload tile) :=
  .foldl (fun u _ => u.setSupSw_poisonKeeps ..) _ s

/-- The Inkwell once the first failure of a tile is counted and, outside the wear records, the tile poisoned (R433). -/
def State.tileCounted (s : State) (tile : Nat) : State :=
  let c := satInc s.ink.pcnt s.ink.pcntSat
  { s with ink := { s.ink with
    pcnt := c.1, pcntSat := c.2.1
    poison := if inkRegion (tile * 128) = 1 then s.ink.poison else insertNat tile s.ink.poison } }

/-- The cell image once the first failure of a tile is counted and the tile poisoned (R433). -/
def State.cimCounted (s : State) (tile : Nat) : State :=
  let c := satInc s.ink.cpcnt s.ink.cpcntSat
  { s with ink := { s.ink with cpcnt := c.1, cpcntSat := c.2.1, cimPoison := insertNat tile s.ink.cimPoison } }

theorem State.poisonInk_known (s : State) (tile t : Nat) (h : tile ∈ s.ink.poison) : s.poisonInk tile t = s := if_pos h

theorem State.poisonInk_new (s : State) (tile t : Nat) (h : tile ∉ s.ink.poison) :
    (s.tileCounted tile).PoisonKeeps (s.poisonInk tile t) := by
  have eq : s.poisonInk tile t = (
      let r := inkRegion (tile * 128)
      let v := ((s.tileCounted tile).firstPoison false tile).satEvent (satInc s.ink.pcnt s.ink.pcntSat).2.2 K.INK_PCNT t
      (if r = 1 then v.wearReload tile else v).raise (if r = 2 then 0x0D04 else 0x0D01) 0 (tileDetail r tile) t) := if_neg h
  rw [eq]
  dsimp only
  refine .trans ?_ (.of_reach (State.raise_reach ..))
  refine .trans ?_ (.ite (State.wearReload_poisonKeeps ..) (.refl _))
  exact (State.firstPoison_poisonKeeps ..).trans (.of_reach (State.satEvent_reach ..))

theorem State.poisonCim_known (s : State) (tile t : Nat) (h : tile ∈ s.ink.cimPoison) :
    s.poisonCim tile t = s := if_pos h

theorem State.poisonCim_new (s : State) (tile t : Nat) (h : tile ∉ s.ink.cimPoison) :
    (s.cimCounted tile).PoisonKeeps (s.poisonCim tile t) := by
  have eq : s.poisonCim tile t = (
      let v := ((s.cimCounted tile).firstPoison true tile).satEvent (satInc s.ink.cpcnt s.ink.cpcntSat).2.2 K.CIM_PCNT t
      let w := v.raise 0x0D02 0 (tileDetail 4 tile) t
      let at0 := Tab.get (fun _ => 0) s.ink.cimClear tile
      if at0 ≠ 0 ∧ w.mono + 1 ≤ at0 + 100000 then w.raise 0x0D03 0 (tileDetail 4 tile) t else w) := if_neg h
  rw [eq]
  dsimp only
  refine .trans ?_ (.ite (.of_reach (State.raise_reach ..)) (.refl _))
  refine .trans ?_ (.of_reach (State.raise_reach ..))
  exact (State.firstPoison_poisonKeeps ..).trans (.of_reach (State.satEvent_reach ..))

/-- The scrubber's place in the Inkwell after its next tile (R432). -/
def State.inkScrubbed (s : State) : State :=
  { s with ink := { s.ink with scrubInk := (s.ink.scrubInk + 1) % 262144, scrubs := s.ink.scrubs + 1 } }

/-- The scrubber's place in the cell image memory after its next tile (R432). -/
def State.cimScrubbed (s : State) : State :=
  { s with ink := { s.ink with scrubCim := (s.ink.scrubCim + 1) % 16384, cimScrubs := s.ink.cimScrubs + 1 } }

theorem mem_insertNat (n : Nat) (l : List Nat) : n ∈ insertNat n l := by
  induction l with
  | nil => exact List.mem_singleton.mpr rfl
  | cons x l ih =>
    unfold insertNat
    split
    · exact List.mem_cons_self
    · exact List.mem_cons_of_mem _ ih

/-- What the failure of an Inkwell tile leaves, and what it counts and poisons. -/
theorem State.poisonInk_facts (s : State) (tile t : Nat) :
    (s.poisonInk tile t).regs = s.regs ∧ (s.poisonInk tile t).ink.mem = s.ink.mem
      ∧ (s.poisonInk tile t).ink.scrubInk = s.ink.scrubInk ∧ (s.poisonInk tile t).ink.scrubCim = s.ink.scrubCim
      ∧ (s.poisonInk tile t).ink.cimPoison = s.ink.cimPoison ∧ (s.poisonInk tile t).ink.dma = s.ink.dma
      ∧ (tile ∉ s.ink.poison → (s.poisonInk tile t).ink.pcnt = (satInc s.ink.pcnt s.ink.pcntSat).1
        ∧ (inkRegion (tile * 128) ≠ 1 → tile ∈ (s.poisonInk tile t).ink.poison)) := by
  by_cases h : tile ∈ s.ink.poison
  · rw [s.poisonInk_known tile t h]
    exact ⟨rfl, rfl, rfl, rfl, rfl, rfl, fun h' => absurd h h'⟩
  · have k := s.poisonInk_new tile t h
    refine ⟨k.regs, k.mem, k.scrubInk, k.scrubCim, k.cimPoison, k.dma, fun _ => ⟨k.pcnt, fun other => ?_⟩⟩
    rw [k.poison]
    show tile ∈ if inkRegion (tile * 128) = 1 then _ else _
    rw [if_neg other]
    exact mem_insertNat ..

/-- What the failure of a tile of the cell image leaves, and what it counts and poisons. -/
theorem State.poisonCim_facts (s : State) (tile t : Nat) :
    (s.poisonCim tile t).regs = s.regs ∧ (s.poisonCim tile t).ink.mem = s.ink.mem
      ∧ (s.poisonCim tile t).ink.scrubInk = s.ink.scrubInk ∧ (s.poisonCim tile t).ink.scrubCim = s.ink.scrubCim
      ∧ (s.poisonCim tile t).ink.dma = s.ink.dma
      ∧ (tile ∉ s.ink.cimPoison → tile ∈ (s.poisonCim tile t).ink.cimPoison
        ∧ (s.poisonCim tile t).ink.cpcnt = (satInc s.ink.cpcnt s.ink.cpcntSat).1) := by
  by_cases h : tile ∈ s.ink.cimPoison
  · rw [s.poisonCim_known tile t h]
    exact ⟨rfl, rfl, rfl, rfl, rfl, fun h' => absurd h h'⟩
  · have k := s.poisonCim_new tile t h
    refine ⟨k.regs, k.mem, k.scrubInk, k.scrubCim, k.dma, fun _ => ⟨?_, k.cpcnt⟩⟩
    rw [k.cimPoison]
    exact mem_insertNat ..

/-- R432, R433: the scrubber reads its next tile within its grant. -/
theorem scrubTileRead_facts (s : State) (cim bad : Bool) (t : Tick) :
    let may := if cim then s.ink.cimScrubs < s.scrubGrant true
      else s.ink.scrubs < s.scrubGrant false ∧ s.portOpen 5 = true
    (¬ may → exec (.scrubTileRead cim bad t) s = .next s.silent)
    ∧ (may → ∃ u, exec (.scrubTileRead cim bad t) s = .next u
    ∧ u.ink.scrubCim = (if cim then (s.ink.scrubCim + 1) % 16384 else s.ink.scrubCim)
    ∧ u.ink.scrubInk = (if cim then s.ink.scrubInk else (s.ink.scrubInk + 1) % 262144)
    ∧ u.ink.mem = s.ink.mem ∧ u.regs = s.regs
    ∧ (bad = true → cim = false → s.ink.scrubInk ∉ s.ink.poison →
        u.ink.pcnt = (satInc s.ink.pcnt s.ink.pcntSat).1
        ∧ (inkRegion (s.ink.scrubInk * 128) ≠ 1 → s.ink.scrubInk ∈ u.ink.poison))
    ∧ (bad = true → cim = true → s.ink.scrubCim ∉ s.ink.cimPoison →
        s.ink.scrubCim ∈ u.ink.cimPoison ∧ u.ink.cpcnt = (satInc s.ink.cpcnt s.ink.cpcntSat).1)
    ∧ (bad = false → u.ink.poison = s.ink.poison ∧ u.ink.cimPoison = s.ink.cimPoison)) := by
  cases cim with
  | true =>
    refine ⟨fun no => if_pos (Nat.not_lt.mp no), fun may => ?_⟩
    have eq : exec (.scrubTileRead true bad t) s = .next (
        if bad then s.silent.cimScrubbed.poisonCim s.ink.scrubCim t else s.silent.cimScrubbed) := if_neg (Nat.not_le.mpr may)
    cases bad with
    | false => exact ⟨_, eq, rfl, rfl, rfl, rfl, nofun, nofun, fun _ => ⟨rfl, rfl⟩⟩
    | true =>
      obtain ⟨regs, mem, ink, cim, -, new⟩ := s.silent.cimScrubbed.poisonCim_facts s.ink.scrubCim t
      exact ⟨_, eq, cim, ink, mem, regs, nofun, fun _ _ => new, nofun⟩
  | false =>
    refine ⟨fun no => if_pos ?_, fun ⟨may, port⟩ => ?_⟩
    · exact (Classical.not_and_iff_not_or_not.mp no).imp Nat.not_lt.mp (Bool.not_eq_true _ ▸ ·)
    · have go : ¬ (s.scrubGrant false ≤ s.ink.scrubs ∨ s.portOpen 5 = false) :=
        not_or.mpr ⟨Nat.not_le.mpr may, by rw [port]; decide⟩
      have eq : exec (.scrubTileRead false bad t) s = .next (
          if bad then s.silent.inkScrubbed.poisonInk s.ink.scrubInk t else s.silent.inkScrubbed) := if_neg go
      cases bad with
      | false => exact ⟨_, eq, rfl, rfl, rfl, rfl, nofun, nofun, fun _ => ⟨rfl, rfl⟩⟩
      | true =>
        obtain ⟨regs, mem, ink, cim, -, -, new⟩ := s.silent.inkScrubbed.poisonInk_facts s.ink.scrubInk t
        exact ⟨_, eq, cim, ink, mem, regs, fun _ _ => new, nofun, nofun⟩

/-- Settles O49: the lottery's draw, the end of a transfer and the scrubber, each by its own lemmas. -/
theorem theInkwellArbitratesAndScrubs : Obligations.TheInkwellArbitratesAndScrubs := by
  intro s
  refine ⟨arbiterDraw_facts s, fun tiles => ⟨fun none => ?_, inkwellTransferDone_facts s tiles⟩, scrubTileRead_facts s,
    fun t => ⟨fun h => congrArg Host.Outcome.next (if_pos h), fun h => congrArg Host.Outcome.next (if_neg h)⟩⟩
  show execInkwellTransferDone tiles s = _
  unfold execInkwellTransferDone
  dsimp only
  rw [show s.silent.ink.hold = .none from none]

/-! ## What a write of the Inkwell's bytes leaves -/

theorem putBytes_get (l : List Byte) (m : Tab Byte) (a k : Nat) (h : k < a ∨ a + l.length ≤ k) :
    Tab.get (fun _ => 0) (putBytes m a l) k = Tab.get (fun _ => 0) m k := by
  induction l generalizing m a with
  | nil => rfl
  | cons b l ih =>
    rw [putBytes, ih _ _ (by rw [List.length_cons] at h; omega)]
    exact Tab.get_put_ne _ _ _ (by rw [List.length_cons] at h; omega)

theorem foldl_putBytes_get (z : List Byte) (hz : z.length = 128) (l : List Nat) (m : Tab Byte) (k : Nat)
    (h : k / 128 ∉ l) :
    Tab.get (fun _ => 0) (l.foldl (fun (m : Tab Byte) (t : Nat) => putBytes m (t * 128) z) m) k
      = Tab.get (fun _ => 0) m k := by
  induction l generalizing m with
  | nil => rfl
  | cons t l ih =>
    obtain ⟨ne, hl⟩ := not_or.mp (mt List.mem_cons.mpr h)
    exact (ih _ hl).trans (putBytes_get _ _ _ _ (by omega))

/-- A byte outside a write, in a tile that is not poisoned, reads as before. -/
theorem State.inkWrite_inkByte (s : State) (a : Nat) (bytes : List Byte) (k : Nat)
    (h : k < a ∨ a + bytes.length ≤ k) (sound : s.inkPoisoned (k / 128) = false) :
    (s.inkWrite a bytes).inkByte k = s.inkByte k := by
  unfold State.inkByte
  split
  · rfl
  · refine (putBytes_get _ _ _ _ h).trans (foldl_putBytes_get _ List.length_replicate _ _ _ fun hit => ?_)
    exact Bool.false_ne_true (sound.symm.trans (List.mem_filter.mp hit).2)

theorem State.burstBytes_length (s : State) (d : List Byte) (off n : Nat) : (s.burstBytes d off n).length ≤ n := by
  unfold State.burstBytes
  split
  · simp [State.inkBytes]
  · split
    · exact List.length_take_le ..
    · simp

/-! ## The engine's chain -/

/-- The failure of a tile that a burst reads leaves the words in force and the engine. -/
theorem State.burstBad_facts (s : State) (d : List Byte) (off n : Nat) (bad : Option (Fin 17)) (t : Nat) :
    (s.burstBad d off n bad t).regs = s.regs ∧ (s.burstBad d off n bad t).ink.dma = s.ink.dma := by
  unfold State.burstBad
  split
  · exact ⟨rfl, rfl⟩
  · split
    · exact ⟨rfl, rfl⟩
    · split
      · obtain ⟨regs, -, -, -, -, dma, -⟩ := s.poisonInk_facts ‹_› t
        exact ⟨regs, dma⟩
      · split
        · obtain ⟨regs, -, -, -, dma, -⟩ := s.poisonCim_facts ‹_› t
          exact ⟨regs, dma⟩
        · exact ⟨rfl, rfl⟩

section
variable (s : State) (t : Tick) (c : Chain)

theorem dmaDescriptorFetch_some (run : s.ink.dma.run = some c) (bad : Bool) :
    exec (.dmaDescriptorFetch bad t) s =
      if c.phase ≠ 0 ∨ s.portOpen 6 = false then .next s.silent
      else if c.count ≠ 0 ∧ c.addr = c.head then .next ((s.silent.dmaStop c 5 t).raise 0x0D08 c.ch 0 t)
      else if W.DMA_CTL_CHAIN_MAX (s.word K.DMA_CTL) ≤ c.count then
        .next ((s.silent.dmaStop c 4 t).raise 0x0D08 c.ch 0 t)
      else
        let u := if bad then s.silent.poisonInk (c.addr / 128) t else s.silent
        let d := u.inkBytes c.addr 32
        if u.inkPoisoned (c.addr / 128) ∨ !descAt c.ch c.addr ∨ descBad c.ch d then
          .next (((u.dmaRecord c.ch (dTag d) (if u.inkPoisoned (c.addr / 128) then 1 else 3) 4 0 c.addr t).dmaEnd
            c.ch).raise 0x0D06 c.ch 0 t)
        else
          .next (u.setDma { u.ink.dma with run := some { c with
            desc := d, moved := 0, phase := if decide (dSrc d = 0) && decide (dFrom d = dTo d) then 2 else 1 } }) := by
  show execDmaDescriptorFetch bad t s = _
  unfold execDmaDescriptorFetch
  dsimp only
  rw [show s.silent.ink.dma.run = some c from run]
  rfl

theorem dmaBurstComplete_some (run : s.ink.dma.run = some c) (bad : Option (Fin 17)) :
    exec (.dmaBurstComplete bad t) s =
      if c.phase ≠ 1 ∨ s.portOpen 6 = false then .next s.silent
      else
        let b := burstOf c.desc c.moved
        let u := s.silent.burstBad c.desc b.1 b.2 bad t
        if u.burstPoisoned c.desc b.1 b.2 then .next (u.dmaNext c 1 t)
        else
          let v := if dSrc c.desc = 1 then u.drawn else u
          let w := v.inkWrite (dTo c.desc + b.1) (u.burstBytes c.desc b.1 b.2)
          .next (w.setDma { w.ink.dma with run := some { c with
            moved := c.moved + b.2, phase := if dLen c.desc ≤ c.moved + b.2 then 2 else 1 } }) := by
  show execDmaBurstComplete bad t s = _
  unfold execDmaBurstComplete
  dsimp only
  rw [show s.silent.ink.dma.run = some c from run]
  rfl

theorem dmaReadbackDone_some (run : s.ink.dma.run = some c) (same : Bool) :
    exec (.dmaReadbackDone same t) s =
      if c.phase ≠ 2 ∨ s.portOpen 6 = false then .next s.silent
      else if same then .next (s.silent.dmaNext c 0 t)
      else .next ((s.silent.raise 0x0D0A c.ch 0 t).dmaNext c 7 t) := by
  show execDmaReadbackDone same t s = _
  unfold execDmaReadbackDone
  dsimp only
  rw [show s.silent.ink.dma.run = some c from run]
  rfl

theorem dmaMemoryTimeout_some (run : s.ink.dma.run = some c) :
    exec (.dmaMemoryTimeout t) s =
      if s.ink.hold ≠ some 6 then .next s.silent
      else
        let u := ({ s.silent with ink := { s.ink with hold := none } } : State).setArb 6 Arb.init
        let v := if c.desc = [] then u.drawn else u
        .next (((v.dmaRecord c.ch (if c.desc = [] then u.freeTag else dTag c.desc) 2
          (if c.desc = [] then 4 else descFlags c.desc true) c.moved c.addr t).dmaEnd c.ch).raise 0x0D07 c.ch 0 t) := by
  show execDmaMemoryTimeout t s = _
  unfold execDmaMemoryTimeout
  dsimp only
  rw [show s.silent.ink.dma.run = some c from run]
  rfl

/-- Without a running chain the engine's rows leave the state as it was. -/
theorem dma_none (run : s.ink.dma.run = none) : (∀ bad, exec (.dmaDescriptorFetch bad t) s = .next s.silent)
    ∧ (∀ bad, exec (.dmaBurstComplete bad t) s = .next s.silent)
    ∧ (∀ same, exec (.dmaReadbackDone same t) s = .next s.silent) ∧ exec (.dmaMemoryTimeout t) s = .next s.silent := by
  have run' : s.silent.ink.dma.run = none := run
  refine ⟨fun bad => ?_, fun bad => ?_, fun same => ?_, ?_⟩
  · show execDmaDescriptorFetch bad t s = _
    unfold execDmaDescriptorFetch
    dsimp only
    rw [run']
  · show execDmaBurstComplete bad t s = _
    unfold execDmaBurstComplete
    dsimp only
    rw [run']
  · show execDmaReadbackDone same t s = _
    unfold execDmaReadbackDone
    dsimp only
    rw [run']
  · show execDmaMemoryTimeout t s = _
    unfold execDmaMemoryTimeout
    dsimp only
    rw [run']

/-- R439, R444: the fetch of a chain's next descriptor. -/
theorem dmaDescriptorFetch_facts (run : s.ink.dma.run = some c) (bad : Bool) :
    let u := if bad then s.silent.poisonInk (c.addr / 128) t else s.silent
    let d := u.inkBytes c.addr 32
    let round := c.count ≠ 0 ∧ c.addr = c.head
    let wrong := u.inkPoisoned (c.addr / 128) = true ∨ descAt c.ch c.addr = false ∨ descBad c.ch d = true
    (c.phase ≠ 0 ∨ s.portOpen 6 = false → exec (.dmaDescriptorFetch bad t) s = .next s.silent)
    ∧ (c.phase = 0 → s.portOpen 6 = true →
      (round → exec (.dmaDescriptorFetch bad t) s = .next ((s.silent.dmaStop c 5 t).raise 0x0D08 c.ch 0 t))
      ∧ (¬ round → W.DMA_CTL_CHAIN_MAX (s.word K.DMA_CTL) ≤ c.count →
        exec (.dmaDescriptorFetch bad t) s = .next ((s.silent.dmaStop c 4 t).raise 0x0D08 c.ch 0 t))
      ∧ (¬ round → c.count < W.DMA_CTL_CHAIN_MAX (s.word K.DMA_CTL) →
        (wrong → exec (.dmaDescriptorFetch bad t) s =
          .next (((u.dmaRecord c.ch (dTag d) (if u.inkPoisoned (c.addr / 128) then 1 else 3) 4 0 c.addr t).dmaEnd
            c.ch).raise 0x0D06 c.ch 0 t))
        ∧ (¬ wrong → exec (.dmaDescriptorFetch bad t) s =
          .next (u.setDma { u.ink.dma with run := some { c with desc := d, moved := 0
                                                                phase := if dSrc d = 0 ∧ dFrom d = dTo d
                                                                  then 2 else 1 } })))) := by
  intro u d round wrong
  have eq := dmaDescriptorFetch_some s t c run bad
  refine ⟨fun h => eq.trans (if_pos h), fun phase port => ?_⟩
  have go : ¬ (c.phase ≠ 0 ∨ s.portOpen 6 = false) := not_or.mpr ⟨Classical.not_not.mpr phase, by rw [port]; decide⟩
  replace eq := eq.trans (if_neg go)
  have cond : (u.inkPoisoned (c.addr / 128) = true ∨ (!descAt c.ch c.addr) = true ∨ descBad c.ch d = true) ↔ wrong := by
    simp only [wrong, Bool.not_eq_true']
  refine ⟨fun h => eq.trans (if_pos h), fun h many => eq.trans ((if_neg h).trans (if_pos many)), fun h few => ?_⟩
  replace eq := eq.trans ((if_neg h).trans (if_neg (Nat.not_le.mpr few)))
  refine ⟨fun w => eq.trans (if_pos (cond.mpr w)), fun w => (eq.trans (if_neg (mt cond.mp w))).trans ?_⟩
  simp only [Bool.and_eq_true, decide_eq_true_eq]
  rfl

/-- R440, R441: one burst of a chain. -/
theorem dmaBurstComplete_facts (run : s.ink.dma.run = some c) (bad : Option (Fin 17)) :
    let b := burstOf c.desc c.moved
    let u := s.silent.burstBad c.desc b.1 b.2 bad t
    (c.phase ≠ 1 ∨ s.portOpen 6 = false → exec (.dmaBurstComplete bad t) s = .next s.silent)
    ∧ (c.phase = 1 → s.portOpen 6 = true →
      (u.burstPoisoned c.desc b.1 b.2 = true → exec (.dmaBurstComplete bad t) s = .next (u.dmaNext c 1 t))
      ∧ (u.burstPoisoned c.desc b.1 b.2 = false → ∃ v, exec (.dmaBurstComplete bad t) s = .next v
        ∧ v.ink.mem = (u.inkWrite (dTo c.desc + b.1) (u.burstBytes c.desc b.1 b.2)).ink.mem
        ∧ (∃ c', v.ink.dma.run = some c' ∧ c'.moved = c.moved + b.2 ∧ c'.desc = c.desc)
        ∧ (∀ a, a < dTo c.desc + b.1 ∨ dTo c.desc + b.1 + b.2 ≤ a → u.inkPoisoned (a / 128) = false →
          v.inkByte a = u.inkByte a) ∧ v.regs = s.regs)) := by
  intro b u
  have eq := dmaBurstComplete_some s t c run bad
  refine ⟨fun h => eq.trans (if_pos h), fun phase port => ?_⟩
  have go : ¬ (c.phase ≠ 1 ∨ s.portOpen 6 = false) := not_or.mpr ⟨Classical.not_not.mpr phase, by rw [port]; decide⟩
  replace eq := eq.trans (if_neg go)
  refine ⟨fun h => eq.trans (if_pos h), fun h => ⟨_, eq.trans (if_neg (by rw [h]; decide)), ?_⟩⟩
  have regs : u.regs = s.regs := (s.silent.burstBad_facts c.desc b.1 b.2 bad t).1
  have drawn : (if dSrc c.desc = 1 then u.drawn else u).ink = u.ink
    ∧ (if dSrc c.desc = 1 then u.drawn else u).regs = u.regs
      ∧ ∀ a, (if dSrc c.desc = 1 then u.drawn else u).inkByte a = u.inkByte a := by
    split <;> exact ⟨rfl, rfl, fun _ => rfl⟩
  dsimp only
  generalize (if dSrc c.desc = 1 then u.drawn else u) = v at drawn ⊢
  obtain ⟨ink, same, byte⟩ := drawn
  refine ⟨?_, ⟨_, rfl, rfl, rfl⟩, fun a outside sound => ?_, same.trans regs⟩
  · show (v.inkWrite _ _).ink.mem = _
    unfold State.inkWrite
    rw [ink]
  · have len := u.burstBytes_length c.desc b.1 b.2
    refine Eq.trans (b := (v.inkWrite (dTo c.desc + b.1) (u.burstBytes c.desc b.1 b.2)).inkByte a) rfl ?_
    rw [State.inkWrite_inkByte _ _ _ _ (by omega) (by unfold State.inkPoisoned; rw [ink]; exact sound), byte]

end

/-! ## The Blotter's rows -/

/-- `t` has `s`'s rows in the Blotter, the trigger, its last value and the capture's state set apart, and its other
memory. -/
structure State.SameRows (s t : State) : Prop where
  blot : t.ink.blot = { s.ink.blot with st := t.ink.blot.st, trig := t.ink.blot.trig, prev := t.ink.blot.prev }
  ink : t.ink = { s.ink with blot := t.ink.blot }
  regs : t.regs = s.regs

namespace State.SameRows

variable {s t u : State}

theorem refl (s : State) : s.SameRows s := ⟨rfl, rfl, rfl⟩

theorem trans (h : s.SameRows t) (k : t.SameRows u) : s.SameRows u :=
  ⟨k.blot.trans (by rw [h.blot]), k.ink.trans (by rw [h.ink]), k.regs.trans h.regs⟩

theorem ite {c : Prop} [Decidable c] (ht : s.SameRows t) (hu : s.SameRows u) : s.SameRows (if c then t else u) := by
  split
  · exact ht
  · exact hu

theorem of_same_ink (hi : t.ink = s.ink) (hr : t.regs = s.regs) : s.SameRows t := ⟨by rw [hi], by rw [hi], hr⟩

theorem fifo (h : s.SameRows t) : t.ink.blot.fifo = s.ink.blot.fifo := by rw [h.blot]
theorem total (h : s.SameRows t) : t.ink.blot.total = s.ink.blot.total := by rw [h.blot]
theorem lastCyc (h : s.SameRows t) : t.ink.blot.lastCyc = s.ink.blot.lastCyc := by rw [h.blot]
theorem lost (h : s.SameRows t) : t.ink.blot.lost = s.ink.blot.lost := by rw [h.blot]
theorem mem (h : s.SameRows t) : t.ink.mem = s.ink.mem := by rw [h.ink]

end State.SameRows

section
variable (s : State)

theorem State.enqueue_sameRows (code kind inst : Nat) (detail : Word) (t : Nat) :
    s.SameRows (s.enqueue code kind inst detail t) := .ite (.of_same_ink rfl rfl) (.of_same_ink rfl rfl)

theorem State.blotTrigger_sameRows (row t : Nat) : s.SameRows (s.blotTrigger row t) := by
  refine .ite (.refl s) (.trans ?_ (State.enqueue_sameRows ..))
  exact ⟨rfl, rfl, rfl⟩

theorem State.blotEvent_sameRows (code t : Nat) : s.SameRows (s.blotEvent code t) :=
  .ite (s.blotTrigger_sameRows ..) (.refl s)

theorem State.raise_sameRows (code inst : Nat) (detail : Word) (t : Nat) (h : quietCode code = true) :
    s.SameRows (s.raise code inst detail t) := by
  have captured (u : State) : u.SameRows (u.capture code inst detail t) :=
    .ite (.refl u) (.of_same_ink rfl rfl)
  have trail (u : State) : u.SameRows (((u.enqueue code 1 inst detail t).capture code inst detail t).blotEvent code t) :=
    ((u.enqueue_sameRows ..).trans (captured _)).trans (State.blotEvent_sameRows ..)
  unfold State.raise State.raiseB
  simp only [State.react_quiet _ _ _ _ _ h, ite_self]
  refine .ite ((s.enqueue_sameRows ..).trans (State.blotEvent_sameRows ..)) (.ite (.of_same_ink rfl rfl) (.trans ?_ (trail _)))
  exact .of_same_ink rfl rfl

theorem State.satEvent_sameRows (now : Bool) (k t : Nat) : s.SameRows (s.satEvent now k t) :=
  .ite (s.raise_sameRows _ _ _ _ (by decide)) (.refl s)

/-- The value that the level trigger compares with the next row's (R448). -/
def State.withPrev (v : Word) : State := { s with ink := { s.ink with blot := { s.ink.blot with prev := some v } } }

theorem State.withPrev_sameRows (v : Word) : s.SameRows (s.withPrev v) := ⟨rfl, rfl, rfl⟩

theorem State.blotState_sameRows : s.SameRows s.blotState := ⟨rfl, rfl, rfl⟩

/-- R446: a row enters the FIFO, or is lost and counted where it has none left. -/
theorem State.pushRow_facts (vs : List Word) (t : Nat) :
    let u := s.pushRow vs t
    u.ink.blot.total = s.ink.blot.total + 1 ∧ u.ink.blot.lastCyc = s.cycle ∧ u.ink.mem = s.ink.mem ∧ u.regs = s.regs
      ∧ (s.ink.blot.fifo.length < 8 → u.ink.blot.fifo = s.ink.blot.fifo ++ [(s.ink.blot.total, vs)])
      ∧ (8 ≤ s.ink.blot.fifo.length → u.ink.blot.fifo = s.ink.blot.fifo
        ∧ u.ink.blot.lost = (satInc s.ink.blot.lost s.ink.blot.lostSat).1) := by
  intro u
  by_cases room : s.ink.blot.fifo.length < 8
  · have eq : u = _ := if_pos room
    rw [eq]
    exact ⟨rfl, rfl, rfl, rfl, fun _ => rfl, fun full => absurd room (Nat.not_lt.mpr full)⟩
  · have eq : u = _ := if_neg room
    have quiet (v : State) (c : Bool) : v.SameRows ((v.raise 0x0D0C 0 0 t).satEvent c K.BLOT_LOST t) :=
      (v.raise_sameRows _ _ _ _ (by decide)).trans (State.satEvent_sameRows ..)
    rw [eq, (quiet ..).total, (quiet ..).lastCyc, (quiet ..).mem, (quiet ..).regs, (quiet ..).fifo, (quiet ..).lost]
    exact ⟨rfl, rfl, rfl, rfl, fun less => absurd less room, fun _ => ⟨rfl, rfl⟩⟩

end

/-- R446–R448: the row of a sampled cycle. -/
theorem blotterRow_facts (s : State) (t : Tick) :
    let due := (s.ink.blot.st = 1 ∨ s.ink.blot.st = 2 ∨ s.ink.blot.st = 3)
      ∧ s.cycle.toNat % 2 ^ W.BLOT_CTL_DIV (s.word K.BLOT_CTL) = 0 ∧ (s.ink.blot.total = 0
        ∨ s.ink.blot.lastCyc ≠ s.cycle)
    (¬ due → exec (.blotterRow t) s = .next s.silent)
    ∧ (due → ∃ u, exec (.blotterRow t) s = .next u ∧ u.ink.blot.total = s.ink.blot.total + 1
      ∧ u.ink.blot.lastCyc = s.cycle ∧ u.ink.mem = s.ink.mem ∧ u.regs = s.regs
      ∧ (s.ink.blot.fifo.length < 8 → u.ink.blot.fifo = s.ink.blot.fifo ++ [(s.ink.blot.total,
          (List.range s.blotN).map fun i => s.source (s.word (K.BLOT_SRC i)))])
      ∧ (8 ≤ s.ink.blot.fifo.length → u.ink.blot.fifo = s.ink.blot.fifo
          ∧ u.ink.blot.lost = (satInc s.ink.blot.lost s.ink.blot.lostSat).1)) := by
  intro due
  have cond : (decide (s.ink.blot.st = 1 ∨ s.ink.blot.st = 2 ∨ s.ink.blot.st = 3)
      && decide (s.cycle.toNat % 2 ^ W.BLOT_CTL_DIV (s.word K.BLOT_CTL) = 0)
      && !(decide (s.ink.blot.total ≠ 0) && decide (s.ink.blot.lastCyc = s.cycle))) = true ↔ due := by
    simp only [due, Bool.and_eq_true, decide_eq_true_eq, Bool.not_eq_true', Bool.and_eq_false_iff,
      decide_eq_false_iff_not,
      Classical.not_not, and_assoc, ne_eq]
  refine ⟨fun h => if_pos (bnot_of (Bool.eq_false_iff.mpr (mt cond.mp h))), fun h => ?_⟩
  obtain ⟨total, lastCyc, mem, regs, room, full⟩ :=
    s.silent.pushRow_facts ((List.range s.blotN).map fun i => s.source (s.word (K.BLOT_SRC i))) t
  have eq : exec (.blotterRow t) s = _ := if_neg (not_bnot (cond.mpr h))
  refine ⟨_, eq, ?_⟩
  have kept (u : State) (v : Word) (c : Prop) [Decidable c] (row : Nat) : u.SameRows (State.blotState
      (if c then (u.withPrev v).blotTrigger row t else u.withPrev v)) :=
    ((u.withPrev_sameRows v).trans (.ite (State.blotTrigger_sameRows ..) (.refl _))).trans (State.blotState_sameRows _)
  have same := kept (s.silent.pushRow ((List.range s.blotN).map fun i => s.source (s.word (K.BLOT_SRC i))) t)
  refine ⟨(same ..).total.trans total, (same ..).lastCyc.trans lastCyc, (same ..).mem.trans mem,
    (same ..).regs.trans regs,
    fun h => (same ..).fifo.trans (room h), fun h => ⟨(same ..).fifo.trans (full h).1, (same ..).lost.trans (full h).2⟩⟩

/-- Settles O50: each row of the engine by its equation with a running chain, and the Blotter by
`State.pushRow_facts`. -/
theorem chainsRunDescriptorByDescriptor : Obligations.ChainsRunDescriptorByDescriptor := by
  intro s t
  refine ⟨dma_none s t, fun c run => ⟨dmaDescriptorFetch_facts s t c run, dmaBurstComplete_facts s t c run,
    fun same h => (dmaReadbackDone_some s t c run same).trans (if_pos h), fun phase port => ?_, ?_⟩,
      blotterRow_facts s t⟩
  · have go : ¬ (c.phase ≠ 2 ∨ s.portOpen 6 = false) := not_or.mpr ⟨Classical.not_not.mpr phase, by rw [port]; decide⟩
    exact ⟨(dmaReadbackDone_some s t c run true).trans (if_neg go),
      (dmaReadbackDone_some s t c run false).trans (if_neg go)⟩
  · have eq := dmaMemoryTimeout_some s t c run
    refine ⟨fun h => eq.trans (if_pos h), fun h some => (eq.trans (if_neg (Classical.not_not.mpr h))).trans ?_,
      fun h none => (eq.trans (if_neg (Classical.not_not.mpr h))).trans ?_⟩
    · simp only [if_neg some]
    · simp only [if_pos none]

end Sys2Proof.Machine
end


section
/-! PROOFS. The station network and the auxiliary bus: O51 to O53. -/

namespace Sys2Proof.Machine

open Sys2Proof.Machine

/-! ## What a change of the events leaves alone -/

theorem State.EventsOnly.net {s t : State} (h : s.EventsOnly t) : t.net = s.net := by rw [h]

theorem State.EventsOnly.cmd {s t : State} (h : s.EventsOnly t) : t.cmd = s.cmd := by rw [h]

/-! ## Frames that come in -/

section
variable {s : State} {t : Tick}

theorem netFrame_unheard {p : Fin 3} {f : NetFrame} (h : ¬ (f.len ≤ 1522 ∧ (s.portIp p ≠ 0 ∨ netPtp f.body = true))) :
    exec (.netFrameReceive p f t) s = .next s.silent := by
  show execNetFrameReceive p f t s = _
  unfold execNetFrameReceive
  by_cases hl : f.len ≤ 1522
  · obtain ⟨hip, hp⟩ := not_or.mp (not_and.mp h hl)
    exact (if_neg (Nat.not_lt.mpr hl)).trans
      (if_pos ⟨Classical.not_not.mp hip, (Bool.not_eq_true' _).mpr (Bool.not_eq_true _ ▸ hp)⟩)
  · exact if_pos (Nat.lt_of_not_le hl)

theorem netFrame_filtered {p : Fin 3} {f : NetFrame} (h : f.len ≤ 1522 ∧ (s.portIp p ≠ 0 ∨ netPtp f.body = true))
    (hf : ¬ (s.frameOk p f = true ∧ s.ipOk p f = true)) :
    exec (.netFrameReceive p f t) s = .next (s.silent.netDrop t) := by
  show execNetFrameReceive p f t s = _
  unfold execNetFrameReceive
  refine (if_neg (Nat.not_lt.mpr h.1)).trans ((if_neg ?_).trans (if_pos ?_))
  · rintro ⟨hip, hp⟩
    exact h.2.elim (absurd hip) (not_bnot · hp)
  · exact (Classical.not_and_iff_not_or_not.mp hf).imp (bnot_of <| Bool.not_eq_true _ ▸ ·) (bnot_of <| Bool.not_eq_true _ ▸ ·)

/-- What a frame does that passes the filter of the port. -/
def State.framePassed (s : State) (p : Fin 3) (f : NetFrame) (t : Tick) : Host.Outcome State Fault Refusal :=
  match f.body with
  | .udp sport dport sumOk data =>
    let s := s.netSecond
    if !sumOk then .next (s.netDrop t)
    else if dport = 51400 then .next (s.recordArrives p f sport data t)
    else if dport = 51402 ∧ (p : Nat) < 2 then .next (s.safeArrives f data t)
    else .next (s.netDrop t)
  | .ptpOther data =>
    .next (if (p : Nat) < 2 ∧ s.forwards then s.sendNet (1 - (p : Nat)) 1 (.ptpOther data) else s)
  | _ => .next s

theorem netFrame_passed {p : Fin 3} {f : NetFrame} (h : f.len ≤ 1522 ∧ (s.portIp p ≠ 0 ∨ netPtp f.body = true))
    (hf : s.frameOk p f = true ∧ s.ipOk p f = true) :
    exec (.netFrameReceive p f t) s = s.silent.framePassed p f t := by
  show execNetFrameReceive p f t s = _
  unfold execNetFrameReceive
  refine (if_neg (Nat.not_lt.mpr h.1)).trans ((if_neg ?_).trans ((if_neg ?_).trans rfl))
  · rintro ⟨hip, hp⟩
    exact h.2.elim (absurd hip) (not_bnot · hp)
  · exact not_or.mpr ⟨not_bnot hf.1, not_bnot hf.2⟩

theorem framePassed_udp {p : Fin 3} {f : NetFrame} {sport : BitVec 16} {dport : Nat} {sumOk : Bool} {data : List Byte}
    (h : f.body = .udp sport dport sumOk data) :
    (sumOk = false → s.framePassed p f t = .next (s.netSecond.netDrop t))
    ∧ (sumOk = true → dport = 51400 → s.framePassed p f t = .next (s.netSecond.recordArrives p f sport data t))
    ∧ (sumOk = true → dport = 51402 → (p : Nat) < 2 → s.framePassed p f t = .next (s.netSecond.safeArrives f data t))
    ∧ (sumOk = true → dport ≠ 51400 → dport ≠ 51402 ∨ (p : Nat) = 2 →
      s.framePassed p f t = .next (s.netSecond.netDrop t)) := by
  unfold State.framePassed
  rw [h]
  refine ⟨fun hs => if_pos (bnot_of hs), fun hs hd => (if_neg (not_bnot hs)).trans (if_pos hd),
    fun hs hd hp => ?_, fun hs hd hp => ?_⟩
  · exact (if_neg (not_bnot hs)).trans ((if_neg (by rw [hd]; decide)).trans (if_pos ⟨hd, hp⟩))
  · refine (if_neg (not_bnot hs)).trans ((if_neg hd).trans (if_neg fun k => ?_))
    exact hp.elim (· k.1) fun q => by omega

/-! ## ARP and ICMP -/

/-- The entries that stay in the ARP cache when a message of an address comes in. -/
def State.arpKept (s : State) (p : Nat) (sip : Word) : List (Nat × Word × BitVec 48 × Nat) :=
  let rest := s.net.arp.filter fun e => !decide (e.1 = p ∧ e.2.1 = sip)
  let mine := rest.filter fun e => decide (e.1 = p)
  if 64 ≤ mine.length then rest.erase (mine.headD (0, 0, 0, 0)) else rest

theorem State.arpKept_filter (s : State) (p : Nat) (sip : Word) :
    (s.arpKept p sip).filter (fun e => decide (e.1 = p ∧ e.2.1 = sip)) = [] := by
  refine List.filter_eq_nil_iff.mpr fun e he k => ?_
  have kept : e ∈ s.net.arp.filter fun e => !decide (e.1 = p ∧ e.2.1 = sip) := by
    unfold State.arpKept at he
    dsimp only at he
    split at he
    · exact List.mem_of_mem_erase he
    · exact he
  exact not_bnot k (List.mem_filter.mp kept).2

theorem arpMessage_other {p : Fin 3} {req : Bool} {sip tip : Word} {mac : BitVec 48}
    (h : s.portIp p = 0 ∨ tip ≠ s.portIp p) : exec (.arpMessage p req sip tip mac) s = .next s.silent := if_pos h

theorem arpMessage_learns {p : Fin 3} {req : Bool} {sip tip : Word} {mac : BitVec 48} (hp : s.portIp p ≠ 0)
    (ht : tip = s.portIp p) : ∃ u, exec (.arpMessage p req sip tip mac) s = .next u
      ∧ u.net.arp.filter (fun e => decide (e.1 = (p : Nat) ∧ e.2.1 = sip)) = [((p : Nat), sip, mac, s.mono)]
      ∧ u.out = (if req then [.net p 4 (s.netTag p 4) (.arp true sip)] else []) ∧ u.regs = s.regs := by
  let v : State := { s.silent with net := { s.net with arp := s.arpKept p sip ++ [((p : Nat), sip, mac, s.mono)] } }
  refine ⟨if req then v.sendNet p 4 (.arp true sip) else v, if_neg (not_or.mpr ⟨hp, Classical.not_not.mpr ht⟩), ?_⟩
  have found : v.net.arp.filter (fun e => decide (e.1 = (p : Nat) ∧ e.2.1 = sip)) = [((p : Nat), sip, mac,
    s.mono)] := by
    show (s.arpKept p sip ++ [_]).filter _ = _
    rw [List.filter_append, s.arpKept_filter, List.filter_cons_of_pos (by simp)]
    rfl
  cases req
  · exact ⟨found, rfl, rfl⟩
  · exact ⟨found, rfl, rfl⟩

theorem State.netSecond_portIp (s : State) (p : Nat) : s.netSecond.portIp p = s.portIp p := by
  unfold State.netSecond; dsimp only; split <;> rfl

theorem State.netSecond_reachable (s : State) (p : Nat) (ip : Word) :
    s.netSecond.reachable p ip = s.reachable p ip := by
  unfold State.netSecond; dsimp only; split <;> rfl

theorem State.netSecond_nextHop (s : State) (p : Nat) (ip : Word) : s.netSecond.nextHop p ip = s.nextHop p ip := by
  unfold State.netSecond; dsimp only; split <;> rfl

theorem icmpEcho_answered {p : Fin 3} {sip : Word} {data : List Byte} (hp : s.portIp p ≠ 0)
    (hn : Tab.get (fun _ => 0) s.silent.netSecond.net.echoes p < 64) (hr : s.reachable p sip = true) :
    exec (.icmpEchoRequest p sip data t) s =
      .next (({ s.silent.netSecond with net := { s.silent.netSecond.net with
        echoes := Tab.put (fun _ => 0) s.silent.netSecond.net.echoes p
          (Tab.get (fun _ => 0) s.silent.netSecond.net.echoes p + 1) } }).sendNet p 4 (.icmp (s.nextHop p sip) sip data)) := by
  refine (if_neg hp).trans ((if_neg (not_or.mpr ⟨Nat.not_le.mpr hn, not_bnot ?_⟩)).trans ?_)
  · exact (s.silent.netSecond_reachable p sip).trans hr
  · rw [show s.nextHop p sip = s.silent.netSecond.nextHop p sip from (s.silent.netSecond_nextHop p sip).symm]

theorem icmpEcho_dropped {p : Fin 3} {sip : Word} {data : List Byte} (hp : s.portIp p ≠ 0)
    (h : 64 ≤ Tab.get (fun _ => 0) s.silent.netSecond.net.echoes p ∨ s.reachable p sip = false) :
    exec (.icmpEchoRequest p sip data t) s = .next (s.silent.netSecond.netDrop t) :=
  (if_neg hp).trans (if_pos (h.imp id fun k => bnot_of ((s.silent.netSecond_reachable p sip).trans k)))

theorem arpEntryAge_forgets (p : Fin 3) (ip : Word) : ∃ u, exec (.arpEntryAge p ip) s = .next u ∧ u.regs = s.regs
    ∧ ∀ e, e ∈ u.net.arp ↔ e ∈ s.net.arp ∧ ¬ (e.1 = (p : Nat) ∧ e.2.1 = ip ∧ e.2.2.2 + 6000000 ≤ s.mono) := by
  refine ⟨_, rfl, rfl, fun e => List.mem_filter.trans (and_congr_right fun _ => ?_)⟩
  rw [Bool.not_eq_true', decide_eq_false_iff_not]
  rfl

/-! ## Links -/

@[simp] theorem State.setSess_sess (s : State) (i : Nat) (x : Sess) : (s.setSess i x).sess i = x := Tab.get_put_same ..

theorem State.setSess_sess_ne (s : State) (i j : Nat) (x : Sess) (h : j ≠ i) : (s.setSess i x).sess j = s.sess j :=
  Tab.get_put_ne _ _ _ h

/-- One session learns of the link of a port. -/
def State.sessHears (s : State) (p : Nat) (at_ : Option Nat) (i : Nat) : State :=
  let x := s.sess i
  if x.isOpen ∧ x.port = p then s.setSess i { x with linkDown := at_ } else s

theorem State.sessHears_ne {p : Nat} {at_ : Option Nat} {i j : Nat} (h : j ≠ i) :
    (s.sessHears p at_ i).sess j = s.sess j := by
  unfold State.sessHears
  dsimp only
  split
  · exact s.setSess_sess_ne i j _ h
  · rfl

theorem State.sessHears_same {p : Nat} {at_ : Option Nat} {i : Nat} (ho : (s.sess i).isOpen = true)
    (hp : (s.sess i).port = p) : ((s.sessHears p at_ i).sess i).linkDown = at_ := by
  unfold State.sessHears
  dsimp only
  rw [if_pos ⟨ho, hp⟩, State.setSess_sess]

/-- What the sessions' record of a link leaves alone. -/
def State.CmdOnly (s t : State) : Prop := t = { s with cmd := t.cmd }

theorem State.CmdOnly.foldl {α : Type} {f : State → α → State} (h : ∀ (s : State) (x : α), s.CmdOnly (f s x)) :
    ∀ (l : List α) (s : State), s.CmdOnly (l.foldl f s)
  | [], _ => rfl
  | x :: l, s => by
    have first := h s x
    have rest := foldl h l (f s x)
    unfold State.CmdOnly at first rest ⊢
    rw [List.foldl_cons, rest, first]

theorem State.sessLink_cmdOnly (s : State) (p : Nat) (at_ : Option Nat) : s.CmdOnly (s.sessLink p at_) := by
  refine .foldl (fun u i => ?_) _ s
  dsimp only
  split <;> rfl

theorem State.foldl_sessHears_ne {p : Nat} {at_ : Option Nat} {i : Nat} (l : List Nat) (s : State) (h : i ∉ l) :
    (l.foldl (fun s i => State.sessHears s p at_ i) s).sess i = s.sess i := by
  induction l generalizing s with
  | nil => rfl
  | cons j l ih =>
    exact (ih (s.sessHears p at_ j) (List.not_mem_of_not_mem_cons h)).trans
      (s.sessHears_ne (List.ne_of_not_mem_cons h))

theorem State.foldl_sessHears {p : Nat} {at_ : Option Nat} {i : Nat} (l : List Nat) (s : State) (hl : l.Nodup)
    (hi : i ∈ l) (ho : (s.sess i).isOpen = true) (hp : (s.sess i).port = p) :
    ((l.foldl (fun s i => State.sessHears s p at_ i) s).sess i).linkDown = at_ := by
  induction l generalizing s with
  | nil => exact absurd hi List.not_mem_nil
  | cons j l ih =>
    obtain ⟨hj, hl⟩ := List.nodup_cons.mp hl
    rcases List.mem_cons.mp hi with rfl | hi
    · exact (congrArg Sess.linkDown (State.foldl_sessHears_ne l (s.sessHears p at_ i) hj) :).trans
        (s.sessHears_same ho hp)
    · have same := s.sessHears_ne (p := p) (at_ := at_) (show i ≠ j from fun e => hj (e ▸ hi))
      exact ih (s.sessHears p at_ j) hl hi (by rw [same]; exact ho) (by rw [same]; exact hp)

theorem State.sessLink_linkDown {p : Nat} {at_ : Option Nat} {i : Nat} (hi : i < 8) (ho : (s.sess i).isOpen = true)
    (hp : (s.sess i).port = p) : ((s.sessLink p at_).sess i).linkDown = at_ :=
  State.foldl_sessHears (List.range 8) s List.nodup_range (List.mem_range.mpr hi) ho hp

theorem State.announceIp_out (s : State) (p : Nat) (h : s.out = []) :
    (s.announceIp p).out = (if s.portIp p = 0 then [] else [.net p 4 (s.netTag p 4) (.arp false (s.portIp p))]) := by
  unfold State.announceIp
  split
  · exact h
  · show s.out ++ _ = _
    rw [h]
    rfl

/-- Announcing an address sends at most a frame. -/
theorem State.announceIp_keeps (s : State) (p : Nat) : (s.announceIp p).net = s.net ∧ (s.announceIp p).evt = s.evt
    ∧ (s.announceIp p).regs = s.regs ∧ (s.announceIp p).cmd = s.cmd := by
  unfold State.announceIp
  split <;> exact ⟨rfl, rfl, rfl, rfl⟩

theorem testBit_mset_true (m n : Nat) : (mset m n true).testBit n = true := by
  show (m ||| 1 <<< n).testBit n = true
  rw [Nat.testBit_or, Nat.one_shiftLeft, Nat.testBit_two_pow_self, Bool.or_true]

theorem testBit_mset_false (m n : Nat) : (mset m n false).testBit n = false := by
  show (m ^^^ (m &&& 1 <<< n)).testBit n = false
  rw [Nat.testBit_xor, Nat.testBit_and, Nat.one_shiftLeft, Nat.testBit_two_pow_self, Bool.and_true, Bool.xor_self]

/-- A state with the link of a port up or down. -/
def State.withLink (s : State) (p : Nat) (up : Bool) : State :=
    { s with net := { s.net with link := mset s.net.link p up } }

theorem netLinkUp_eq (p : Fin 3) :
    exec (.netLinkUp p t) s = .next ((((s.silent.withLink p true).clear 0x0C01 p t).sessLink p none).announceIp p) :=
      rfl

theorem netLinkLoss_eq (p : Fin 3) :
    exec (.netLinkLoss p t) s = .next (((s.silent.withLink p false).sessLink p (some s.mono)).raise 0x0C01 p 0 t) := rfl

theorem netLinkUp_ends (p : Fin 3) : ∃ u, exec (.netLinkUp p t) s = .next u ∧ u.net.link.testBit p = true
    ∧ u.isActive 0x0C01 p = false ∧ u.regs = s.regs
    ∧ (∀ i : Nat, i < 8 → (s.sess i).isOpen = true → (s.sess i).port = p → (u.sess i).linkDown = none)
    ∧ u.out = (if s.portIp p = 0 then [] else [.net p 4 (s.netTag p 4) (.arp false (s.portIp p))]) := by
  refine ⟨_, netLinkUp_eq p, ?_⟩
  have events := (s.silent.withLink p true).clear_eventsOnly 0x0C01 p t
  have off := (s.silent.withLink p true).clear_isActive_same 0x0C01 p t
  generalize (s.silent.withLink p true).clear 0x0C01 p t = v at events off ⊢
  have heard (i : Nat) (hi : i < 8) (ho : (v.sess i).isOpen = true) (hp : (v.sess i).port = p) :=
    State.sessLink_linkDown (at_ := none) hi ho hp
  have cmd := v.sessLink_cmdOnly p none
  generalize v.sessLink p none = w at heard cmd ⊢
  have regs : w.regs = s.regs := (congrArg State.regs cmd :).trans events.regs
  have net : w.net = (s.silent.withLink p true).net := (congrArg State.net cmd :).trans events.net
  have evt : w.evt = v.evt := (congrArg State.evt cmd :)
  have out : w.out = [] := (congrArg State.out cmd :).trans events.out
  have sess : v.cmd = s.cmd := events.cmd
  obtain ⟨knet, kevt, kregs, kcmd⟩ := w.announceIp_keeps p
  refine ⟨?_, ?_, kregs.trans regs, fun i hi ho hp => ?_, ?_⟩
  · rw [knet, net]
    exact testBit_mset_true _ _
  · unfold State.isActive at off ⊢
    rw [kevt, evt]
    exact off
  · have same : v.sess i = s.sess i := by unfold State.sess; rw [sess]
    have keep : (w.announceIp p).sess i = w.sess i := by unfold State.sess; rw [kcmd]
    rw [keep]
    exact heard i hi (same ▸ ho) (same ▸ hp)
  · have ip : w.portIp p = s.portIp p := by unfold State.portIp State.word; rw [regs]
    have tag : w.netTag p 4 = s.netTag p 4 := by unfold State.netTag State.word; rw [regs]
    rw [w.announceIp_out p out, ip, tag]

theorem netLinkLoss_reports (p : Fin 3) : ∃ u, exec (.netLinkLoss p t) s = .next u ∧ u.net.link.testBit p = false
    ∧ u.isActive 0x0C01 p = true
    ∧ (∀ i : Nat, i < 8 → (s.sess i).isOpen = true → (s.sess i).port = p → (u.sess i).linkDown = some s.mono)
    ∧ u.regs = s.regs := by
  refine ⟨_, netLinkLoss_eq p, ?_⟩
  have heard (i : Nat) (hi : i < 8) (ho : (s.sess i).isOpen = true) (hp : (s.sess i).port = p) :=
    State.sessLink_linkDown (s := s.silent.withLink p false) (at_ := some s.mono) hi ho hp
  have cmd := (s.silent.withLink p false).sessLink_cmdOnly p (some s.mono)
  generalize (s.silent.withLink p false).sessLink p (some s.mono) = w at heard cmd ⊢
  have events := w.raise_eventsOnly 0x0C01 p 0 t (by decide)
  refine ⟨?_, w.raise_isActive p 0 t (by decide), fun i hi ho hp => ?_, events.regs.trans (congrArg State.regs cmd :)⟩
  · rw [events.net, (congrArg State.net cmd :)]
    exact testBit_mset_false _ _
  · have keep : (w.raise 0x0C01 p 0 t).sess i = w.sess i := by unfold State.sess; rw [events.cmd]
    rw [keep]
    exact heard i hi ho hp

end

/-- Settles O51: the filter's equation gives each frame its branch, and the other rows are their own equations. -/
theorem theNetworkFiltersAndAnswers : Obligations.TheNetworkFiltersAndAnswers := by
  intro s t p
  refine ⟨fun f => ⟨netFrame_unheard, netFrame_filtered, fun heard passes => ⟨fun sport dport sumOk data hb => ?_,
    fun data hb => ?_, fun hb => ?_⟩⟩, fun req sip tip mac => ⟨arpMessage_other, arpMessage_learns⟩,
    fun sip data => ⟨fun h => if_pos h, icmpEcho_answered, icmpEcho_dropped⟩, arpEntryAge_forgets p, netLinkUp_ends p,
    netLinkLoss_reports p⟩
  · rw [netFrame_passed heard passes]
    exact framePassed_udp hb
  · rw [netFrame_passed heard passes]
    unfold State.framePassed
    rw [hb]
    rfl
  · rw [netFrame_passed heard passes]
    unfold State.framePassed
    rcases hb with hb | hb | hb | hb <;> rw [hb]

section
variable {s : State} {p : Fin 2} {t : Tick}

/-! ## Sync and Follow_Up -/

/-- The state in which the transparent clock has forwarded a message by the other station port, where it forwards. -/
def State.passedOn (s : State) (p : Nat) (m : NetMsg) : State := if s.forwards then s.sendNet (1 - p) 1 m else s

theorem ptpSync_oneStep {m : PtpMsg} {res : Nat} (h : m.twoStep = false) :
    exec (.ptpSyncReceive p m res t) s = .next ((s.silent.drawn.passedOn p
      (.ptpSync { m with corr := m.corr + ((res : Int) + s.linkDelay p) })).ptpOffset p m t) :=
  if_neg (ne_true_of_eq_false h)

/-- The state that keeps a two-step Sync of a port with what its Follow_Up shall add, alone of its sender and domain. -/
def State.syncKept (s : State) (p : Nat) (m : PtpMsg) (add : Int) : State :=
  let x := s.ptpPort p
  s.setPtpPort p { x with
    syncs := (x.syncs.filter fun e => !decide (e.1.src = m.src ∧ e.1.domain = m.domain)) ++ [(m, add)] }

theorem ptpSync_twoStep {m : PtpMsg} {res : Nat} (h : m.twoStep = true) :
    exec (.ptpSyncReceive p m res t) s = .next
      ((s.silent.drawn.syncKept p m ((res : Int) + s.linkDelay p)).passedOn p (.ptpSync m)) := if_pos h

theorem filter_not_append {α : Type} (f : α → Bool) (l : List α) (x : α) (h : f x = true) :
    ((l.filter fun e => !f e) ++ [x]).filter f = [x] := by
  rw [List.filter_append, List.filter_filter, List.filter_cons_of_pos h,
    List.filter_eq_nil_iff.mpr fun e _ => by cases f e <;> decide]
  rfl

theorem State.syncKept_syncs (m : PtpMsg) (add : Int) : ((s.syncKept p m add).ptpPort p).syncs.filter
    (fun e => decide (e.1.src = m.src ∧ e.1.domain = m.domain)) = [(m, add)] := by
  unfold State.syncKept
  dsimp only
  rw [State.setPtpPort_ptpPort]
  exact filter_not_append _ _ _ (by simp)

theorem State.passedOn_keeps (p : Nat) (m : NetMsg) : (s.passedOn p m).clk = s.clk ∧ (s.passedOn p m).regs = s.regs
    ∧ (s.passedOn p m).net = s.net ∧ (s.passedOn p m).mono = s.mono := by
  unfold State.passedOn
  split <;> exact ⟨rfl, rfl, rfl, rfl⟩

/-- A Follow_Up's kept Sync is the one of its sender, domain and number. -/
def followUpOf (m : PtpMsg) (e : PtpMsg × Int) : Bool :=
  decide (e.1.src = m.src ∧ e.1.domain = m.domain ∧ e.1.seq = m.seq)

theorem ptpFollowUp_unknown {m : PtpMsg} (h : (s.ptpPort p).syncs.find? (followUpOf m) = none) :
    exec (.ptpFollowUpReceive p m t) s = .next (s.silent.passedOn p (.ptpFollow m)) := by
  show execPtpFollowUpReceive p m t s = _
  unfold execPtpFollowUpReceive
  unfold followUpOf at h
  dsimp only
  rw [show s.silent.ptpPort p = s.ptpPort p from rfl, h]
  rfl

theorem ptpFollowUp_completes {m : PtpMsg} {e : PtpMsg × Int} (h : (s.ptpPort p).syncs.find? (followUpOf m) = some e) :
    exec (.ptpFollowUpReceive p m t) s = .next (((s.silent.setPtpPort p { s.ptpPort p with
      syncs := (s.ptpPort p).syncs.filter fun e => !followUpOf m e }).passedOn p
        (.ptpFollow { m with corr := m.corr + e.2 })).ptpOffset p m t) := by
  show execPtpFollowUpReceive p m t s = _
  unfold execPtpFollowUpReceive
  unfold followUpOf at h
  dsimp only
  rw [show s.silent.ptpPort p = s.ptpPort p from rfl, h]
  rfl

/-! ## The selection -/

/-- The state after the selection, before it reports a change of the timeTransmitter. -/
def State.ptpTaken (s : State) : State :=
  let new := s.ptpBest.map fun f => (f.port, f.ann)
  let utc := match new with | some x => x.2.utc | none => s.clk.utc
  { s with net := { s.net with best := new }, clk := { s.clk with utc := utc } }

theorem State.ptpSelect_eventsOnly (s : State) (t : Nat) : s.ptpTaken.EventsOnly (s.ptpSelect t) :=
  .ite (.refl _) (State.raise_eventsOnly _ 0x0C02 _ _ _ (by decide))

theorem State.ptpSelect_regs (s : State) (t : Nat) : (s.ptpSelect t).regs = s.regs := (s.ptpSelect_eventsOnly t).regs

theorem State.ptpSelect_foreign (s : State) (t : Nat) : (s.ptpSelect t).net.foreign = s.net.foreign :=
  (congrArg Net.foreign (s.ptpSelect_eventsOnly t).net :)

theorem State.ptpPort_congr {s u : State} (h : u.net = s.net) (p : Nat) : u.ptpPort p = s.ptpPort p := by
  unfold State.ptpPort
  rw [h]

theorem State.ptpSelect_ptpPort (s : State) (t p : Nat) : (s.ptpSelect t).ptpPort p = s.ptpPort p :=
  State.ptpPort_congr (s.ptpSelect_eventsOnly t).net p

theorem State.ptpSelect_out (s : State) (t : Nat) : (s.ptpSelect t).out = s.out := (s.ptpSelect_eventsOnly t).out

/-- The best timeTransmitter is read from the words in force, the ports and the Announces remembered. -/
theorem State.ptpBest_congr {s u : State} (hr : u.regs = s.regs) (hf : u.net.foreign = s.net.foreign)
    (hp : u.net.ptp = s.net.ptp) : u.ptpBest = s.ptpBest := by
  unfold State.ptpBest State.qualifies State.ptpOn State.srcAllows State.ptpPort State.word
  rw [hr, hf, hp]

theorem State.ptpSelect_best (s : State) (t : Nat) :
    (s.ptpSelect t).net.best = (s.ptpSelect t).ptpBest.map fun f => (f.port, f.ann) := by
  have net := (s.ptpSelect_eventsOnly t).net
  rw [State.ptpBest_congr (s.ptpSelect_regs t) (s.ptpSelect_foreign t) (congrArg Net.ptp net :), net]
  rfl

theorem ptpAnnounce_other {m : PtpAnn} (h : s.qualifies p m = false) :
    exec (.ptpAnnounceReceive p m t) s = .next (s.silent.passedOn p (.ptpAnnounce m)) := by
  refine if_pos (bnot_of ?_)
  exact (show (s.silent.passedOn p (.ptpAnnounce m)).qualifies p m = s.qualifies p m by
    unfold State.passedOn; split <;> rfl).trans h

/-- The state that remembers an Announce, alone of its sender and port. -/
def State.announceKept (s : State) (p : Nat) (m : PtpAnn) : State :=
  let rest := s.net.foreign.filter fun f => !decide (f.port = p ∧ f.ann.src = m.src)
  { s with net := { s.net with foreign := rest ++ [Foreign.mk p m s.mono] } }

theorem ptpAnnounce_qualified {m : PtpAnn} (h : s.qualifies p m = true) :
    exec (.ptpAnnounceReceive p m t) s =
      .next (((s.silent.passedOn p (.ptpAnnounce m)).announceKept p m).ptpSelect t) := by
  refine if_neg (not_bnot ?_)
  exact (show (s.silent.passedOn p (.ptpAnnounce m)).qualifies p m = s.qualifies p m by
    unfold State.passedOn; split <;> rfl).trans h

theorem ptpAnnounce_remembered {m : PtpAnn} (h : s.qualifies p m = true) :
    ∃ u, exec (.ptpAnnounceReceive p m t) s = .next u
      ∧ u.net.foreign.filter (fun f => decide (f.port = (p : Nat) ∧ f.ann.src = m.src)) = [Foreign.mk p m s.mono]
      ∧ u.net.best = u.ptpBest.map (fun f => (f.port, f.ann)) ∧ u.regs = s.regs
      ∧ (s.forwards = true → Output.net (1 - (p : Nat)) 1 (s.netTag (1 - (p : Nat)) 1) (.ptpAnnounce m) ∈ u.out) := by
  refine ⟨_, ptpAnnounce_qualified h, ?_, State.ptpSelect_best .., ?_, fun hf => ?_⟩
  · rw [State.ptpSelect_foreign]
    refine (filter_not_append _ _ _ (by simp)).trans ?_
    rw [(s.silent.passedOn_keeps p (.ptpAnnounce m)).2.2.2]
    rfl
  · exact (State.ptpSelect_regs ..).trans (s.silent.passedOn_keeps p (.ptpAnnounce m)).2.1
  · rw [State.ptpSelect_out]
    show _ ∈ (s.silent.passedOn p (.ptpAnnounce m)).out
    unfold State.passedOn
    rw [if_pos (show s.silent.forwards = true from hf)]
    exact List.mem_append_right _ (List.mem_singleton.mpr rfl)

/-- The state without the Announces of a sender that are 3 s old. -/
def State.announceAged (s : State) (p : Nat) (src : BitVec 80) : State :=
  let stays (f : Foreign) : Bool := !decide (f.port = p ∧ f.ann.src = src ∧ f.heard + 300000 ≤ s.mono)
  { s with net := { s.net with foreign := s.net.foreign.filter stays } }

theorem ptpAnnounceTimeout_eq (src : BitVec 80) :
    exec (.ptpAnnounceTimeout p src t) s = .next ((s.silent.announceAged p src).ptpSelect t) := rfl

theorem ptpAnnounceTimeout_forgets (src : BitVec 80) : ∃ u, exec (.ptpAnnounceTimeout p src t) s = .next u
    ∧ u.regs = s.regs ∧ (∀ f, f ∈ u.net.foreign ↔ f ∈ s.net.foreign
      ∧ ¬ (f.port = (p : Nat) ∧ f.ann.src = src ∧ f.heard + 300000 ≤ s.mono)) := by
  refine ⟨_, ptpAnnounceTimeout_eq src, State.ptpSelect_regs .., fun f => ?_⟩
  rw [State.ptpSelect_foreign]
  refine List.mem_filter.trans (and_congr_right fun _ => ?_)
  rw [Bool.not_eq_true', decide_eq_false_iff_not]
  rfl

/-! ## Peer delay -/

theorem pdelayReq_answered {src : BitVec 80} {seq : BitVec 16} (ho : s.ptpOn p = true) (hp : s.portIp p ≠ 0) :
    exec (.ptpPdelayReqReceive p src seq) s = .next (s.silent.sendNet p 1 (.pdelayResp src seq)) :=
  congrArg Host.Outcome.next (if_pos ⟨ho, hp⟩)

theorem pdelayReq_ignored {src : BitVec 80} {seq : BitVec 16} (h : s.ptpOn p = false ∨ s.portIp p = 0) :
    exec (.ptpPdelayReqReceive p src seq) s = .next s.silent :=
  congrArg Host.Outcome.next (if_neg fun k => h.elim (fun e => ne_true_of_eq_false e k.1) k.2)

theorem pdelayTimer_off (h : s.ptpOn p = false ∨ s.portIp p = 0) : exec (.ptpPdelayTimer p t) s = .next s.silent :=
  if_pos (h.imp bnot_of id)

/-- The requests of a port in a row without an answer, with the one that goes out now. -/
def PtpPort.missedNow (x : PtpPort) : Nat := if x.waiting then x.missed + 1 else x.missed

/-- A port whose next request goes out. -/
def PtpPort.asked (x : PtpPort) : PtpPort :=
  { x with
    seq := x.seq + 1, waiting := true, missed := x.missedNow, answered := if x.waiting then 0 else x.answered,
    failed := x.failed || decide (3 ≤ x.missedNow) }

/-- The state in which a port's own request has been noted and the selection been judged. -/
def State.pdelayAsked (s : State) (p t : Nat) : State :=
  let u := s.setPtpPort p (s.ptpPort p).asked
  if decide (3 ≤ (s.ptpPort p).missedNow) then (u.raise 0x0C03 p 0 t).ptpSelect t else u

theorem pdelayTimer_asks (ho : s.ptpOn p = true) (hp : s.portIp p ≠ 0) : exec (.ptpPdelayTimer p t) s =
    .next ((s.silent.pdelayAsked p t).sendNet p 1 (.pdelayReq ((s.ptpPort p).seq + 1))) :=
  if_neg (not_or.mpr ⟨not_bnot ho, hp⟩)

theorem State.pdelayAsked_facts (s : State) (p t : Nat) :
    (s.pdelayAsked p t).ptpPort p = (s.ptpPort p).asked ∧ (s.pdelayAsked p t).regs = s.regs := by
  unfold State.pdelayAsked
  dsimp only
  split
  · rw [State.ptpSelect_ptpPort, State.ptpSelect_regs]
    have events := (s.setPtpPort p (s.ptpPort p).asked).raise_eventsOnly 0x0C03 p 0 t (by decide)
    exact ⟨(State.ptpPort_congr events.net p).trans (s.setPtpPort_ptpPort p _), events.regs⟩
  · exact ⟨s.setPtpPort_ptpPort p _, rfl⟩

theorem pdelayTimer_facts (ho : s.ptpOn p = true) (hp : s.portIp p ≠ 0) : ∃ u, exec (.ptpPdelayTimer p t) s = .next u
    ∧ (u.ptpPort p).seq = (s.ptpPort p).seq + 1 ∧ (u.ptpPort p).waiting = true
    ∧ (u.ptpPort p).missed = (if (s.ptpPort p).waiting then (s.ptpPort p).missed + 1 else (s.ptpPort p).missed)
    ∧ (u.ptpPort p).failed = ((s.ptpPort p).failed || decide (3 ≤ (u.ptpPort p).missed))
    ∧ Output.net p 1 (s.netTag p 1) (.pdelayReq ((s.ptpPort p).seq + 1)) ∈ u.out ∧ u.regs = s.regs := by
  refine ⟨_, pdelayTimer_asks ho hp, ?_⟩
  obtain ⟨port, regs⟩ := s.silent.pdelayAsked_facts p t
  generalize s.silent.pdelayAsked p t = v at port regs ⊢
  have port : (v.sendNet p 1 (.pdelayReq ((s.ptpPort p).seq + 1))).ptpPort p = (s.ptpPort p).asked := port
  rw [port]
  refine ⟨rfl, rfl, rfl, rfl, ?_, regs⟩
  have tag : v.netTag p 1 = s.netTag p 1 := by unfold State.netTag State.word; rw [regs]; rfl
  rw [← tag]
  exact List.mem_append_right _ (List.mem_singleton.mpr rfl)

theorem pdelayResp_stray {seq : BitVec 16} {rt turn : Nat}
    (h : (s.ptpPort p).waiting = false ∨ (s.ptpPort p).seq ≠ seq) :
    exec (.ptpPdelayRespReceive p seq rt turn t) s = .next s.silent := if_pos (h.imp bnot_of id)

/-- The third answer in a row brings a failed port back. -/
def PtpPort.returns (x : PtpPort) : Bool := x.failed && decide (3 ≤ x.answered + 1)

/-- A port whose request has been answered. -/
def PtpPort.answers (x : PtpPort) (rt turn : Nat) : PtpPort :=
  { x with
    delay := BitVec.ofNat 32 ((rt - turn) / 2), waiting := false, missed := 0, answered := x.answered + 1,
    failed := x.failed && !x.returns }

theorem PtpPort.answers_failed (x : PtpPort) (rt turn : Nat) :
    (x.answers rt turn).failed = (x.failed && decide (x.answered + 1 < 3)) := by
  have flip : decide (x.answered + 1 < 3) = !decide (3 ≤ x.answered + 1) := by
    rw [← decide_not]
    exact decide_eq_decide.mpr Nat.not_le.symm
  show (x.failed && !x.returns) = _
  rw [flip]
  unfold PtpPort.returns
  cases x.failed <;> rfl

/-- The state in which an answer has been noted and the selection been judged. -/
def State.pdelayAnswered (s : State) (p rt turn t : Nat) : State :=
  let u := s.setPtpPort p ((s.ptpPort p).answers rt turn)
  if (s.ptpPort p).returns then (u.clear 0x0C03 p t).ptpSelect t else u

theorem pdelayResp_eq {seq : BitVec 16} {rt turn : Nat} (hw : (s.ptpPort p).waiting = true)
    (hs : (s.ptpPort p).seq = seq) :
    exec (.ptpPdelayRespReceive p seq rt turn t) s = .next (s.silent.pdelayAnswered p rt turn t) :=
  if_neg (not_or.mpr ⟨not_bnot hw, Classical.not_not.mpr hs⟩)

theorem State.pdelayAnswered_facts (s : State) (p rt turn t : Nat) :
    (s.pdelayAnswered p rt turn t).ptpPort p = (s.ptpPort p).answers rt turn
      ∧ (s.pdelayAnswered p rt turn t).regs = s.regs := by
  unfold State.pdelayAnswered
  dsimp only
  split
  · rw [State.ptpSelect_ptpPort, State.ptpSelect_regs]
    have events := (s.setPtpPort p ((s.ptpPort p).answers rt turn)).clear_eventsOnly 0x0C03 p t
    exact ⟨(State.ptpPort_congr events.net p).trans (s.setPtpPort_ptpPort p _), events.regs⟩
  · exact ⟨s.setPtpPort_ptpPort p _, rfl⟩

theorem pdelayResp_facts {seq : BitVec 16} {rt turn : Nat} (hw : (s.ptpPort p).waiting = true)
    (hs : (s.ptpPort p).seq = seq) : ∃ u, exec (.ptpPdelayRespReceive p seq rt turn t) s = .next u
      ∧ (u.ptpPort p).waiting = false ∧ (u.ptpPort p).missed = 0
      ∧ (u.ptpPort p).failed = ((s.ptpPort p).failed && decide ((s.ptpPort p).answered + 1 < 3))
      ∧ (u.ptpPort p).delay = BitVec.ofNat 32 ((rt - turn) / 2) ∧ u.regs = s.regs := by
  obtain ⟨port, regs⟩ := s.silent.pdelayAnswered_facts p rt turn t
  refine ⟨_, pdelayResp_eq hw hs, ?_⟩
  rw [port]
  exact ⟨rfl, rfl, PtpPort.answers_failed .., rfl, regs⟩

end

/-- Settles O52: each row is an equation through the message passed on, the port's new record or the selection, and the
selection changes no port, no remembered Announce and no word. -/
theorem ptpFollowsAndForwards : Obligations.PtpFollowsAndForwards := by
  intro s p t
  refine ⟨fun m res => ⟨ptpSync_oneStep, fun h => ?_, ptpFollowUp_unknown, fun e => ptpFollowUp_completes⟩,
    fun m => ⟨ptpAnnounce_other, ptpAnnounce_remembered⟩, ptpAnnounceTimeout_forgets,
    fun src seq => ⟨pdelayReq_answered, pdelayReq_ignored⟩, pdelayTimer_off, pdelayTimer_facts,
    fun seq rt turn => ⟨pdelayResp_stray, pdelayResp_facts⟩⟩
  obtain ⟨clk, regs, -, -⟩ := (s.silent.drawn.syncKept p m ((res : Int) + s.linkDelay p)).passedOn_keeps p (.ptpSync m)
  exact ⟨_, s.silent.drawn.syncKept p m ((res : Int) + s.linkDelay p), ptpSync_twoStep h, rfl,
    State.syncKept_syncs m _, rfl, clk, regs⟩

section
variable {s : State} {t : Tick}

/-! ## Planned launches -/

/-- What the launch `x` at the head of a port's queue does, with the rest of the queue. -/
def State.launchNext (s : State) (p busy t : Nat) (x : Launch) (rest : List Launch) : State :=
  if s.ticks t < x.tick then s else
  let s := { s with net := { s.net with launches := Tab.put (fun _ => []) s.net.launches p rest } }
  if s.portIp p = 0 then s
  else if s.ticks t + busy ≤ s.launchLimit x then
    s.sendUdp p x.cls x.ip (if x.cls = 2 then 51402 else 51401) x.dport x.bytes
  else
    let c := satInc s.net.late s.net.lateSat
    let at_ := Tab.put (fun _ => 0) s.net.lateAt p (s.mono + 1)
    let s := { s with net := { s.net with late := c.1, lateSat := c.2.1, lateAt := at_ } }
    (s.satEvent c.2.2 K.NET_LATE t).raise 0x0C04 p 0 t

theorem timedLaunch_none {p : Fin 2} {busy : Nat} (h : Tab.get (fun _ => []) s.net.launches p = []) :
    exec (.timedLaunch p busy t) s = .next s.silent := by
  show execTimedLaunch p busy t s = _
  unfold execTimedLaunch
  dsimp only
  rw [show Tab.get (fun _ => []) s.silent.net.launches p = [] from h]

theorem timedLaunch_next {p : Fin 2} {busy : Nat} {x : Launch} {rest : List Launch}
    (h : Tab.get (fun _ => []) s.net.launches p = x :: rest) :
    exec (.timedLaunch p busy t) s = .next (s.silent.launchNext p busy t x rest) := by
  show execTimedLaunch p busy t s = _
  unfold execTimedLaunch State.launchNext
  dsimp only
  rw [show Tab.get (fun _ => []) s.silent.net.launches p = x :: rest from h]
  dsimp only
  rw [apply_ite Host.Outcome.next, apply_ite Host.Outcome.next, apply_ite Host.Outcome.next]

/-! ## Streams -/

/-- The state in which a stream's sample has gone to the CAN slots that carry it. -/
def State.sampleToCan (s : State) (j : Nat) : State :=
  let can := be 2 (s.cycle.toNat % 65536) ++ (be 2 (s.strmStale j) ++ s.strmValues j)
  let can := padTo (fdLen can.length) can
  (s.canFill 0 3 j can).canFill 1 3 j can

/-- A sample of a stream as its batch keeps it. -/
def State.strmEntry (s : State) (j : Nat) : List Byte :=
  be 6 (s.cycle.toNat % 2 ^ 48) ++ (be 2 (s.strmStale j) ++ s.strmValues j)

/-- The planned record of a full batch of a stream whose control word is `w`. -/
def State.strmLaunch (s : State) (j : Nat) (w : Word) (x : Strm) (entries : List (List Byte)) : Launch :=
  { tick := s.ticks (W.STRM_CTL_PHASE w), cls := 3, ip := s.word (K.STRM_DST j),
    dport := W.STRM_UDP_PORT (s.word (K.STRM_UDP j)), bytes := s.strmRecord j x entries }

/-- The state in which a record has been planned on each of the ports of a mask. -/
def State.planOn (s : State) (ports : Nat) (l : Launch) : State :=
  ([0, 1].filter ports.testBit).foldl (fun (s : State) (p : Nat) => s.planLaunch p l) s

/-- The state in which a stream keeps the samples `entries`, or has planned them as a full batch. -/
def State.strmBatched (s : State) (j : Nat) (w : Word) (x : Strm) (entries : List (List Byte)) : State :=
  if entries.length < W.STRM_CTL_BATCH w then s.setStream j { x with batch := entries } else
  (s.setStream j { x with batch := [], ctr := x.ctr + 1 }).planOn (W.STRM_UDP_PORTS (s.word (K.STRM_UDP j)))
    (s.strmLaunch j w x entries)

/-- A stream runs, is enabled and is in a sampled cycle. -/
def State.strmDue (s : State) (j : Nat) : Prop :=
  (s.stream j).run = true ∧ W.STRM_CTL_EN (s.strmCtl j) = true ∧ s.cycle.toNat % 2 ^ W.STRM_CTL_DIV (s.strmCtl j) = 0

theorem streamSample_off {j : Fin 4} (h : ¬ s.strmDue j) : exec (.telemetryStreamSample j) s = .next s.silent := by
  refine if_pos ?_
  by_cases hr : (s.stream j).run = true
  · by_cases he : W.STRM_CTL_EN (s.strmCtl j) = true
    · exact .inr (.inr fun hc => h ⟨hr, he, hc⟩)
    · exact .inr (.inl (bnot_of (Bool.not_eq_true _ ▸ he)))
  · exact .inl (bnot_of (Bool.not_eq_true _ ▸ hr))

theorem State.sampleToCan_netOnly (s : State) (j : Nat) : s.NetOnly (s.sampleToCan j) :=
  (s.canFill_netOnly ..).trans (State.canFill_netOnly ..)

theorem streamSample_next {j : Fin 4} (h : s.strmDue j) :
    exec (.telemetryStreamSample j) s = .next ((s.silent.sampleToCan j).strmBatched j (s.strmCtl j) (s.stream j)
      ((s.stream j).batch ++ [s.strmEntry j])) := by
  have entry : s.strmEntry j = be 6 ((s.silent.sampleToCan j).cycle.toNat % 2 ^ 48)
      ++ (be 2 (s.strmStale j) ++ s.strmValues j) := by
    rw [(congrArg State.cycle (s.silent.sampleToCan_netOnly j) :)]
    rfl
  rw [entry]
  refine (if_neg (not_or.mpr ⟨not_bnot h.1, not_or.mpr ⟨not_bnot h.2.1, Classical.not_not.mpr h.2.2⟩⟩)).trans ?_
  unfold State.strmBatched
  rw [apply_ite Host.Outcome.next]
  rfl

/-! A stream's record does not depend on what else the network holds. -/

theorem State.canFill_stream (s : State) (c kind j : Nat) (bytes : List Byte) :
    (s.canFill c kind j bytes).net.strm = s.net.strm ∧ (s.canFill c kind j bytes).net.launches = s.net.launches := by
  unfold State.canFill
  split
  next => exact ⟨rfl, rfl⟩
  next off =>
    clear off
    induction s.canSlots c kind j generalizing s with
    | nil => exact ⟨rfl, rfl⟩
    | cons k l ih => exact ih (s.setCan c ((s.canOf c).rebuild k bytes))

theorem mem_insertLaunch (x : Launch) (l : List Launch) : x ∈ insertLaunch x l ∧ ∀ y ∈ l, y ∈ insertLaunch x l := by
  induction l with
  | nil => exact ⟨List.mem_singleton.mpr rfl, fun _ h => absurd h List.not_mem_nil⟩
  | cons z l ih =>
    unfold insertLaunch
    split
    · exact ⟨List.mem_cons_self, fun y hy => List.mem_cons_of_mem _ hy⟩
    · refine ⟨List.mem_cons_of_mem _ ih.1, fun y hy => ?_⟩
      exact (List.mem_cons.mp hy).elim (fun e => e ▸ List.mem_cons_self) fun h => List.mem_cons_of_mem _ (ih.2 y h)

/-- The launches planned on a port. -/
def State.launches (s : State) (p : Nat) : List Launch := Tab.get (fun _ => []) s.net.launches p

theorem State.planLaunch_launches (s : State) (p : Nat) (x : Launch) (h : s.portIp p ≠ 0) :
    (s.planLaunch p x).launches p = insertLaunch x (s.launches p) := by
  unfold State.planLaunch
  rw [if_neg h]
  exact Tab.get_put_same ..

theorem State.planLaunch_launches_ne (s : State) (p q : Nat) (x : Launch) (h : q ≠ p) :
    (s.planLaunch p x).launches q = s.launches q := by
  unfold State.planLaunch
  split
  · rfl
  · exact Tab.get_put_ne _ _ _ h

theorem State.planLaunch_portIp (s : State) (p q : Nat) (x : Launch) : (s.planLaunch p x).portIp q = s.portIp q := by
  unfold State.portIp State.word
  rw [(s.planLaunch_netOnly p x).regs]

theorem State.mem_planLaunch {p q : Nat} {x l : Launch} (h : x ∈ s.launches q) : x ∈ (s.planLaunch p l).launches q := by
  by_cases e : q = p
  · by_cases hz : s.portIp p = 0
    · rwa [show s.planLaunch p l = s from if_pos hz]
    · subst e
      rw [s.planLaunch_launches q l hz]
      exact (mem_insertLaunch l _).2 _ h
  · rwa [s.planLaunch_launches_ne p q l e]

theorem State.mem_foldl_planLaunch {p : Nat} {l : Launch} (ps : List Nat) (u : State)
    (h : l ∈ u.launches p ∨ p ∈ ps ∧ u.portIp p ≠ 0) :
    l ∈ (ps.foldl (fun (s : State) (q : Nat) => s.planLaunch q l) u).launches p := by
  induction ps generalizing u with
  | nil => exact h.elim id fun k => absurd k.1 List.not_mem_nil
  | cons q ps ih =>
    refine ih _ ?_
    rcases h with h | ⟨hm, hu⟩
    · exact .inl (State.mem_planLaunch h)
    · by_cases e : p = q
      · subst e
        exact .inl (u.planLaunch_launches p l hu ▸ (mem_insertLaunch l _).1)
      · exact .inr ⟨List.mem_of_ne_of_mem e hm, fun none => hu ((u.planLaunch_portIp q p l).symm.trans none)⟩

theorem State.mem_planOn {ports : Nat} {l : Launch} {p : Fin 2} (hp : ports.testBit p = true) (hip : s.portIp p ≠ 0) :
    l ∈ (s.planOn ports l).launches p := by
  have both : ∀ p : Fin 2, (p : Nat) ∈ [0, 1] := by decide
  exact State.mem_foldl_planLaunch _ s (.inr ⟨List.mem_filter.mpr ⟨both p, hp⟩, hip⟩)

theorem State.planOn_netOnly (s : State) (ports : Nat) (l : Launch) : s.NetOnly (s.planOn ports l) :=
  .foldl (fun u p => u.planLaunch_netOnly p l) _ s

theorem State.planLaunch_strm (s : State) (p : Nat) (l : Launch) : (s.planLaunch p l).net.strm = s.net.strm := by
  unfold State.planLaunch
  split <;> rfl

theorem State.planOn_stream (s : State) (ports : Nat) (l : Launch) (j : Nat) :
    (s.planOn ports l).stream j = s.stream j := by
  have keep (ps : List Nat) (u : State) :
      (ps.foldl (fun (s : State) (q : Nat) => s.planLaunch q l) u).net.strm = u.net.strm := by
    induction ps generalizing u with
    | nil => rfl
    | cons q ps ih => exact (ih _).trans (u.planLaunch_strm q l)
  exact congrArg (fun m => Tab.get (fun _ => Strm.init) m j) (keep _ s)

theorem streamSample_batches {j : Fin 4} (h : s.strmDue j)
    (hb : (s.stream j).batch.length + 1 < W.STRM_CTL_BATCH (s.strmCtl j)) :
    ∃ u, exec (.telemetryStreamSample j) s = .next u
      ∧ (u.stream j).batch = (s.stream j).batch ++ [s.strmEntry j] ∧ (u.stream j).ctr = (s.stream j).ctr
      ∧ u.regs = s.regs := by
  refine ⟨_, streamSample_next h, ?_⟩
  have regs := (s.silent.sampleToCan_netOnly j).regs
  generalize s.silent.sampleToCan j = v at regs ⊢
  unfold State.strmBatched
  rw [if_pos (Nat.lt_of_le_of_lt (Nat.le_of_eq List.length_append) hb), State.setStream_stream]
  exact ⟨rfl, rfl, regs⟩

theorem streamSample_plans {j : Fin 4} (h : s.strmDue j)
    (hb : W.STRM_CTL_BATCH (s.strmCtl j) ≤ (s.stream j).batch.length + 1) :
    ∃ u, exec (.telemetryStreamSample j) s = .next u
      ∧ (u.stream j).batch = [] ∧ (u.stream j).ctr = (s.stream j).ctr + 1 ∧ u.regs = s.regs
      ∧ (∀ p : Fin 2, (W.STRM_UDP_PORTS (s.word (K.STRM_UDP j))).testBit p = true → s.portIp p ≠ 0 →
        s.strmLaunch j (s.strmCtl j) (s.stream j) ((s.stream j).batch ++ [s.strmEntry j]) ∈ u.launches p) := by
  refine ⟨_, streamSample_next h, ?_⟩
  have only := s.silent.sampleToCan_netOnly j
  generalize s.silent.sampleToCan j = v at only ⊢
  unfold State.NetOnly at only
  unfold State.strmBatched
  rw [if_neg (Nat.not_lt.mpr (by rw [List.length_append]; exact hb)), State.planOn_stream, State.setStream_stream]
  refine ⟨rfl, rfl, ?_, fun p hp hip => ?_⟩
  · exact (State.planOn_netOnly ..).regs.trans (congrArg State.regs only :)
  · have same : v.strmLaunch j (s.strmCtl j) (s.stream j) ((s.stream j).batch ++ [s.strmEntry j])
        = s.strmLaunch j (s.strmCtl j) (s.stream j) ((s.stream j).batch ++ [s.strmEntry j]) := by
      rw [only]; rfl
    rw [← same]
    refine State.mem_planOn ?_ ?_
    · rw [only]; exact hp
    · rw [only]; exact hip

/-! ## Streams of closed sessions -/

theorem State.stream_congr {s u : State} (h : u.net = s.net) (j : Nat) : u.stream j = s.stream j := by
  unfold State.stream
  rw [h]

/-- The state in which stream `j` runs no more. -/
def State.streamOff (s : State) (j : Nat) : State := s.setStream j { s.stream j with run := false, batch := [] }

theorem State.streamOff_keeps (s : State) (j : Nat) :
    (s.streamOff j).regs = s.regs ∧ (s.streamOff j).cmd = s.cmd ∧ (s.streamOff j).evt = s.evt := ⟨rfl, rfl, rfl⟩

/-- Stream `j` stops where the session that owns it has closed. -/
def State.stopStream (s : State) (j : Nat) : State :=
  let x := s.stream j
  if x.run && !s.sidOpen x.owner then (s.streamOff j).raise 0x0C05 j 0 0 else s

theorem streamStop_eq : exec .streamStop s = .next ((List.range 4).foldl State.stopStream s.silent) := rfl

/-- What a stop of streams leaves alone. -/
structure State.StopsStreams (s u : State) : Prop where
  regs : u.regs = s.regs
  cmd : u.cmd = s.cmd
  grows : s.EventGrows u

theorem State.StopsStreams.refl (s : State) : s.StopsStreams s := ⟨rfl, rfl, .refl s⟩

theorem State.StopsStreams.trans {s u v : State} (h : s.StopsStreams u) (k : u.StopsStreams v) : s.StopsStreams v :=
  ⟨k.regs.trans h.regs, k.cmd.trans h.cmd, h.grows.trans k.grows⟩

theorem State.stopStream_stops (s : State) (j : Nat) : s.StopsStreams (s.stopStream j) := by
  unfold State.stopStream
  dsimp only
  split
  · have events := (s.streamOff j).raise_eventsOnly 0x0C05 j 0 0 (by decide)
    obtain ⟨regs, cmd, evt⟩ := s.streamOff_keeps j
    have off : s.EventGrows (s.streamOff j) := .of_eq (congrArg _ evt) (congrArg _ evt)
    exact ⟨events.regs.trans regs, events.cmd.trans cmd, off.trans (State.raise_grows ..)⟩
  · exact .refl s

theorem State.stopStream_ne {i j : Nat} (h : i ≠ j) : (s.stopStream j).stream i = s.stream i := by
  unfold State.stopStream
  dsimp only
  split
  · have events := (s.streamOff j).raise_eventsOnly 0x0C05 j 0 0 (by decide)
    exact (State.stream_congr events.net i).trans (State.setStream_stream_ne s j i _ h)
  · rfl

theorem State.foldl_stopStream_stops (l : List Nat) (s : State) : s.StopsStreams (l.foldl State.stopStream s) := by
  induction l generalizing s with
  | nil => exact .refl s
  | cons j l ih => exact (s.stopStream_stops j).trans (ih _)

theorem State.foldl_stopStream_ne {i : Nat} (l : List Nat) (s : State) (h : i ∉ l) :
    (l.foldl State.stopStream s).stream i = s.stream i := by
  induction l generalizing s with
  | nil => rfl
  | cons j l ih =>
    exact (ih _ (List.not_mem_of_not_mem_cons h)).trans (s.stopStream_ne (List.ne_of_not_mem_cons h))

/-- Stream `j` of `u` is that of `s`, stopped with its event where its session has closed. -/
structure State.StreamJudged (s u : State) (j : Nat) : Prop where
  stays : ¬ ((s.stream j).run = true ∧ s.sidOpen (s.stream j).owner = false) → u.stream j = s.stream j
  stops : (s.stream j).run = true ∧ s.sidOpen (s.stream j).owner = false →
    (u.stream j).run = false ∧ (u.stream j).batch = [] ∧ u.isActive 0x0C05 j = true

theorem State.stopStream_judged (s : State) (j : Nat) : s.StreamJudged (s.stopStream j) j := by
  unfold State.stopStream
  refine ⟨fun h => ?_, fun ⟨hr, ho⟩ => ?_⟩
  · refine congrArg (State.stream · j) (if_neg fun k => h ?_)
    rwa [Bool.and_eq_true, Bool.not_eq_true'] at k
  · dsimp only
    rw [if_pos (by rw [hr, ho]; rfl)]
    have events := (s.streamOff j).raise_eventsOnly 0x0C05 j 0 0 (by decide)
    have stream : ((s.streamOff j).raise 0x0C05 j 0 0).stream j
        = { s.stream j with run := false, batch := [] } :=
      (State.stream_congr events.net j).trans (State.setStream_stream s j _)
    rw [stream]
    exact ⟨rfl, rfl, State.raise_isActive _ j 0 0 (by decide)⟩

theorem State.sidOpen_congr {s u : State} (h : u.cmd = s.cmd) (sid : BitVec 16) : u.sidOpen sid = s.sidOpen sid := by
  unfold State.sidOpen State.sidOf State.sess
  rw [h]

theorem State.foldl_stopStream_judged {j : Nat} (l : List Nat) (s : State) (hl : l.Nodup) (hj : j ∈ l) :
    s.StreamJudged (l.foldl State.stopStream s) j := by
  induction l generalizing s with
  | nil => exact absurd hj List.not_mem_nil
  | cons i l ih =>
    obtain ⟨hi, hl⟩ := List.nodup_cons.mp hl
    by_cases e : j = i
    · subst e
      obtain ⟨stays, stops⟩ := s.stopStream_judged j
      have rest := (s.stopStream j).foldl_stopStream_stops l
      have same := State.foldl_stopStream_ne l (s.stopStream j) hi
      refine ⟨fun h => same.trans (stays h), fun h => ?_⟩
      obtain ⟨run, batch, active⟩ := stops h
      exact ⟨(congrArg Strm.run same).trans run, (congrArg Strm.batch same).trans batch, rest.grows.active _ _ active⟩
    · obtain ⟨stays, stops⟩ := ih (s.stopStream i) hl (List.mem_of_ne_of_mem e hj)
      rw [s.stopStream_ne e, State.sidOpen_congr (s.stopStream_stops i).cmd] at stays stops
      exact ⟨stays, stops⟩

theorem streamStop_judges : ∃ u, exec .streamStop s = .next u ∧ u.regs = s.regs
    ∧ ∀ j : Fin 4, s.silent.StreamJudged u j :=
  ⟨_, streamStop_eq, (s.silent.foldl_stopStream_stops _).regs, fun j =>
    State.foldl_stopStream_judged _ s.silent List.nodup_range (List.mem_range.mpr j.isLt)⟩

end

section
variable {s : State} {c : Fin 2} {t : Tick}

/-! ## The CAN controllers: sending -/

theorem State.canOf_congr {s u : State} (h : u.net = s.net) (c : Nat) : u.canOf c = s.canOf c := by
  unfold State.canOf
  rw [h]

theorem State.judged_eventsOnly (s : State) (p : Prop) [Decidable p] (code inst t : Nat) (h : quietCode code = true) :
    s.EventsOnly (if p then s.raise code inst 0 t else s.clear code inst t) :=
  .ite (s.raise_eventsOnly code inst 0 t h) (s.clear_eventsOnly code inst t)

theorem State.canJudge_eventsOnly (s : State) (c t : Nat) : s.EventsOnly (s.canJudge c t) := by
  have warn := s.judged_eventsOnly (96 ≤ (s.canOf c).tec ∨ 96 ≤ (s.canOf c).rec_) 0x0C06 c t (by decide)
  unfold State.canJudge
  dsimp only
  generalize (if 96 ≤ (s.canOf c).tec ∨ 96 ≤ (s.canOf c).rec_ then s.raise 0x0C06 c 0 t else s.clear 0x0C06 c t) = u
    at warn ⊢
  have passive : u.EventsOnly (if (s.canOf c).busOff then u
      else if 127 < (s.canOf c).tec ∨ 127 < (s.canOf c).rec_ then u.raise 0x0C07 c 0 t else u.clear 0x0C07 c t) :=
    .ite (.refl u) (u.judged_eventsOnly _ 0x0C07 c t (by decide))
  exact (warn.trans passive).trans (State.judged_eventsOnly _ _ 0x0C08 c t (by decide))

/-- After the error states have been judged the controller's record is as it was. -/
theorem State.canJudge_setCan (s : State) (c t : Nat) (x : Can) :
    ((s.setCan c x).canJudge c t).canOf c = x ∧ ((s.setCan c x).canJudge c t).regs = s.regs := by
  have events := (s.setCan c x).canJudge_eventsOnly c t
  exact ⟨(State.canOf_congr events.net c).trans (s.setCan_canOf c x), events.regs⟩

/-- The message of slot `k` may go on the bus now. -/
def State.canSends (s : State) (c : Fin 2) (k : Fin 16) (fits : Bool) : Prop :=
  s.canOn c = true ∧ s.canRom c = false ∧ (s.canOf c).tx = none ∧ s.mayOffer c k = true ∧ fits = true
    ∧ (W.CAN_SLOT_WIN (s.canSlot c k) = false ∨ s.canWinner c = some (k : Nat))

theorem canWindow_sends {k : Fin 16} {fits : Bool} (h : s.canSends c k fits) :
    exec (.canWindowOpen c k fits) s = .next (s.silent.canStart c k) := by
  obtain ⟨on, rom, tx, offer, fit, win⟩ := h
  refine (if_neg ?_).trans (if_neg ?_)
  · rw [s.canOf_silent c, tx, show s.silent.canOn c = true from on, show s.silent.canRom c = false from rom,
      show s.silent.mayOffer c k = true from offer, fit]
    decide
  · rw [Bool.and_eq_true, decide_eq_true_eq]
    rintro ⟨hw, hn⟩
    exact win.elim (fun e => ne_true_of_eq_false e hw) hn

theorem canWindow_waits {k : Fin 16} {fits : Bool} (h : ¬ s.canSends c k fits) :
    exec (.canWindowOpen c k fits) s = .next s.silent := by
  show execCanWindowOpen c k fits s = _
  unfold execCanWindowOpen
  dsimp only
  split
  · rfl
  split
  · rfl
  rename_i free win
  simp only [Bool.or_eq_true, Bool.not_eq_true', not_or, Bool.not_eq_false, Bool.not_eq_true, Bool.and_eq_true,
    decide_eq_true_eq, not_and, Classical.not_not, Option.isSome_eq_false_iff, Option.isNone_iff_eq_none] at free win
  obtain ⟨⟨⟨⟨on, rom⟩, tx⟩, fit⟩, offer⟩ := free
  refine absurd ⟨on, rom, tx, offer, fit, ?_⟩ h
  by_cases hw : W.CAN_SLOT_WIN (s.canSlot c k) = true
  · exact .inr (win hw)
  · exact .inl (Bool.not_eq_true _ ▸ hw)

theorem canTransmitted_idle {stamp : BitVec 32} (h : (s.canOf c).tx = none) :
    exec (.canFrameTransmitted c stamp t) s = .next s.silent := by
  show execCanFrameTransmitted c stamp t s = _
  unfold execCanFrameTransmitted
  dsimp only
  rw [s.canOf_silent c, h]

/-- A controller that has sent its frame of slot `k`. -/
def Can.sent (x : Can) (k : Nat) (stamp : BitVec 32) : Can :=
  { x with
    tx := none, tec := x.tec - 1, lastSlot := k, txStamp := stamp,
    cnt := (satInc x.cnt x.cntSat).1, cntSat := (satInc x.cnt x.cntSat).2.1 }

theorem canTransmitted_eq {stamp : BitVec 32} {k : Nat} {b : List Byte} (h : (s.canOf c).tx = some (k, b)) :
    exec (.canFrameTransmitted c stamp t) s = .next (((s.silent.setCan c ((s.canOf c).sent k stamp)).satEvent
      (satInc (s.canOf c).cnt (s.canOf c).cntSat).2.2 (K.CAN_CNT c) t).canJudge c t) := by
  show execCanFrameTransmitted c stamp t s = _
  unfold execCanFrameTransmitted
  dsimp only
  rw [s.canOf_silent c, h]
  rfl

theorem canTransmitted_facts {stamp : BitVec 32} {k : Nat} {b : List Byte} (h : (s.canOf c).tx = some (k, b)) :
    ∃ u, exec (.canFrameTransmitted c stamp t) s = .next u ∧ u.canOf c = (s.canOf c).sent k stamp
      ∧ u.regs = s.regs := by
  refine ⟨_, canTransmitted_eq h, ?_⟩
  have sat := (s.silent.setCan c ((s.canOf c).sent k stamp)).satEvent_eventsOnly
    (satInc (s.canOf c).cnt (s.canOf c).cntSat).2.2 (K.CAN_CNT c) t
  generalize (s.silent.setCan c ((s.canOf c).sent k stamp)).satEvent _ _ _ = v at sat ⊢
  have events := sat.trans (v.canJudge_eventsOnly c t)
  exact ⟨(State.canOf_congr events.net c).trans (State.setCan_canOf s.silent c _), events.regs⟩

theorem canTxError_idle {lost ack fits : Bool} (h : (s.canOf c).tx = none) :
    exec (.canTxError c lost ack fits t) s = .next s.silent := by
  show execCanTxError c lost ack fits t s = _
  unfold execCanTxError
  dsimp only
  rw [s.canOf_silent c, h]

/-- The transmit error counter after a transmission of `x` that failed. -/
def Can.tecAfter (x : Can) (lost ack : Bool) : Nat :=
  if lost || (ack && (decide (127 < x.tec) || decide (127 < x.rec_))) then x.tec else x.tec + 8

/-- The record of controller `c` after the transmission of slot `k` failed. -/
def State.canFailed (s : State) (c k : Nat) (b : List Byte) (lost ack : Bool) : Can :=
  let x := s.canOf c
  let pend := if Tab.get (fun _ => []) x.pend k = [] then Tab.put (fun _ => []) x.pend k b else x.pend
  { x with
    tx := none, tec := x.tecAfter lost ack, busOff := decide (255 < x.tecAfter lost ack), pend := pend,
    tried := if W.CAN_SLOT_WIN (s.canSlot c k) then x.tried else Tab.put (fun _ => 0) x.tried k (s.basicCycle c + 1) }

/-- The controller offers what it has next, where that fits its window. -/
def State.canOffer (s : State) (c : Nat) (fits : Bool) : State :=
  if !s.canOn c || !fits then s else
  match s.canWinner c with
  | some j => s.canStart c j
  | none => s

theorem State.canOffer_next (s : State) (c : Nat) (fits : Bool) :
    (if !s.canOn c || !fits then Host.Outcome.next s else
      match s.canWinner c with
      | some j => .next (s.canStart c j)
      | none => .next s : Host.Outcome State Fault Refusal) = .next (s.canOffer c fits) := by
  unfold State.canOffer
  rw [apply_ite Host.Outcome.next]
  cases s.canWinner c <;> rfl

theorem canTxError_eq {lost ack fits : Bool} {k : Nat} {b : List Byte} (h : (s.canOf c).tx = some (k, b)) :
    exec (.canTxError c lost ack fits t) s =
      .next (((s.silent.setCan c (s.silent.canFailed c k b lost ack)).canJudge c t).canOffer c fits) := by
  show execCanTxError c lost ack fits t s = _
  unfold execCanTxError
  dsimp only
  rw [s.canOf_silent c, h]
  exact State.canOffer_next _ c fits

/-- Offering a message changes no counter of the controller. -/
theorem State.canOffer_facts (s : State) (c : Nat) (fits : Bool) : (s.canOffer c fits).regs = s.regs
    ∧ ((s.canOffer c fits).canOf c).tec = (s.canOf c).tec ∧ ((s.canOffer c fits).canOf c).busOff = (s.canOf c).busOff
    ∧ (fits = false → s.canOffer c fits = s) := by
  have start (k : Nat) : ((s.canStart c k).canOf c).tec = (s.canOf c).tec
      ∧ ((s.canStart c k).canOf c).busOff = (s.canOf c).busOff := by
    have record : (s.canStart c k).canOf c = { s.canOf c with
        tx := some (k, Tab.get (fun _ => []) (s.canOf c).pend k),
        pend := Tab.put (fun _ => []) (s.canOf c).pend k [] } := s.setCan_canOf c _
    rw [record]
    exact ⟨rfl, rfl⟩
  unfold State.canOffer
  split
  · exact ⟨rfl, rfl, rfl, fun _ => rfl⟩
  next on =>
    have off : fits ≠ false := fun h => on (by rw [h, Bool.not_false, Bool.or_true])
    split
    · exact ⟨rfl, (start _).1, (start _).2, fun h => absurd h off⟩
    · exact ⟨rfl, rfl, rfl, fun _ => rfl⟩

/-- The error of a transmission that an arbitration lost or a missed acknowledgement leaves uncounted. -/
def Can.spares (x : Can) (lost ack : Bool) : Prop := lost = true ∨ ack = true ∧ (127 < x.tec ∨ 127 < x.rec_)

theorem Can.tecAfter_cases (x : Can) (lost ack : Bool) : (x.spares lost ack → x.tecAfter lost ack = x.tec)
    ∧ (¬ x.spares lost ack → x.tecAfter lost ack = x.tec + 8) := by
  have iff : (lost || (ack && (decide (127 < x.tec) || decide (127 < x.rec_)))) = true ↔ x.spares lost ack := by
    unfold Can.spares
    rw [Bool.or_eq_true, Bool.and_eq_true, Bool.or_eq_true, decide_eq_true_eq, decide_eq_true_eq]
  exact ⟨fun h => if_pos (iff.mpr h), fun h => if_neg fun k => h (iff.mp k)⟩

theorem canTxError_facts {lost ack fits : Bool} {k : Nat} {b : List Byte} (h : (s.canOf c).tx = some (k, b)) :
    ∃ u, exec (.canTxError c lost ack fits t) s = .next u ∧ u.regs = s.regs
      ∧ ((s.canOf c).spares lost ack → (u.canOf c).tec = (s.canOf c).tec)
      ∧ (¬ (s.canOf c).spares lost ack → (u.canOf c).tec = (s.canOf c).tec + 8)
      ∧ (u.canOf c).busOff = decide (255 < (u.canOf c).tec) ∧ (fits = false → (u.canOf c).tx = none) := by
  refine ⟨_, canTxError_eq h, ?_⟩
  obtain ⟨record, regs⟩ := s.silent.canJudge_setCan c t (s.silent.canFailed c k b lost ack)
  generalize (s.silent.setCan c _).canJudge c t = v at record regs ⊢
  obtain ⟨kregs, tec, busOff, still⟩ := v.canOffer_facts c fits
  rw [record] at tec busOff
  have tec : ((v.canOffer c fits).canOf c).tec = (s.canOf c).tecAfter lost ack := tec
  obtain ⟨same, more⟩ := (s.canOf c).tecAfter_cases lost ack
  refine ⟨kregs.trans regs, fun k => tec.trans (same k), fun k => tec.trans (more k), ?_, fun hf => ?_⟩
  · rw [busOff, tec]
    rfl
  · rw [still hf, record]
    rfl

theorem canRxError_off {eight : Bool} (h : s.canOn c = false ∨ s.canRom c = true) :
    exec (.canRxError c eight t) s = .next s.silent :=
  if_pos (Bool.or_eq_true _ _ ▸ h.imp bnot_of id)

theorem canRxError_counts {eight : Bool} (ho : s.canOn c = true) (hr : s.canRom c = false) :
    ∃ u, exec (.canRxError c eight t) s = .next u ∧ (u.canOf c).rec_ = (s.canOf c).rec_ + (if eight then 8 else 1)
      ∧ (u.canOf c).tec = (s.canOf c).tec ∧ u.regs = s.regs := by
  obtain ⟨record, regs⟩ := s.silent.canJudge_setCan c t
    { s.canOf c with rec_ := (s.canOf c).rec_ + (if eight then 8 else 1) }
  refine ⟨_, if_neg ?_, (congrArg Can.rec_ record :), (congrArg Can.tec record :), regs⟩
  rw [show s.silent.canOn c = true from ho, show s.silent.canRom c = false from hr]
  decide

theorem canRecovery_none (h : (s.canOf c).busOff = false ∨ s.canEn c = false) :
    exec (.canBusOffRecovery c t) s = .next s.silent := if_pos (h.imp bnot_of bnot_of)

theorem canRecovery_ends (hb : (s.canOf c).busOff = true) (he : s.canEn c = true) :
    ∃ u, exec (.canBusOffRecovery c t) s = .next u ∧ (u.canOf c).busOff = false ∧ (u.canOf c).tec = 0
      ∧ (u.canOf c).rec_ = 0 ∧ u.regs = s.regs := by
  obtain ⟨record, regs⟩ := s.silent.canJudge_setCan c t { s.canOf c with busOff := false, tec := 0, rec_ := 0 }
  exact ⟨_, if_neg (not_or.mpr ⟨not_bnot hb, not_bnot he⟩), (congrArg Can.busOff record :), (congrArg Can.tec record :),
    (congrArg Can.rec_ record :), regs⟩

/-! ## The CAN controllers: receiving -/

/-- A controller that takes part in the bus and reads the frame's format. -/
def State.canTakes (s : State) (c : Nat) (f : CanFrame) : Prop :=
  s.canOn c = true ∧ (f.fdf = true → W.CAN_CTL_FD (s.canCtl c) = true)

theorem State.canTakes_iff (s : State) (c : Nat) (f : CanFrame) :
    (!s.canOn c || (f.fdf && !W.CAN_CTL_FD (s.canCtl c))) = true ↔ ¬ s.canTakes c f := by
  unfold State.canTakes
  cases s.canOn c <;> cases f.fdf <;> cases W.CAN_CTL_FD (s.canCtl c) <;> decide

/-- A controller that has received a frame without error. -/
def Can.heard (x : Can) (free : Nat) : Can := { x with rec_ := recGood x.rec_ free }

/-- The state in which a controller has counted a frame received without error. -/
def State.canHeard (s : State) (c t : Nat) : State :=
  if s.canRom c then s else
    ((s.setCan c ((s.canOf c).heard (Config.freeWord s.free).toNat)).drawn).canJudge c t

/-- What the slot that accepts a frame does with it. -/
def State.canPut (s : State) (c k : Nat) (f : CanFrame) (stamp : BitVec 32) (t : Nat) : State :=
  let w := s.canSlot c k
  if W.CAN_SLOT_KIND w = 1 then s.bufTake c k (f, stamp) t
  else if f.data.length = 24 then
    { s with net := { s.net with mail := Tab.put (fun _ => []) s.net.mail (W.CAN_SLOT_REF w) f.data } }
  else s

/-- A frame that the controller takes goes to the slot that accepts it, if any does. -/
def State.canStore (s : State) (c : Nat) (f : CanFrame) (stamp : BitVec 32) (t : Nat) : State :=
  match s.canMatch c f with
  | none => s
  | some k => s.canPut c k f stamp t

theorem State.canStore_next (s : State) (c : Nat) (f : CanFrame) (stamp : BitVec 32) (t : Nat) :
    (match s.canMatch c f with
      | none => Host.Outcome.next s
      | some k =>
        let w := s.canSlot c k
        if W.CAN_SLOT_KIND w = 1 then .next (s.bufTake c k (f, stamp) t)
        else if f.data.length = 24 then
          .next { s with net := { s.net with mail := Tab.put (fun _ => []) s.net.mail (W.CAN_SLOT_REF w) f.data } }
        else .next s : Host.Outcome State Fault Refusal) = .next (s.canStore c f stamp t) := by
  unfold State.canStore State.canPut
  cases s.canMatch c f with
  | none => rfl
  | some k =>
    dsimp only
    rw [apply_ite Host.Outcome.next, apply_ite Host.Outcome.next]

theorem canReceive_none {f : CanFrame} {stamp : BitVec 32} (h : ¬ s.canTakes c f) :
    exec (.canFrameReceive c f stamp t) s = .next s.silent := if_pos ((s.silent.canTakes_iff c f).mpr h)

theorem canReceive_eq {f : CanFrame} {stamp : BitVec 32} (h : s.canTakes c f) :
    exec (.canFrameReceive c f stamp t) s = .next ((s.silent.canHeard c t).canStore c f stamp t) :=
  (if_neg fun k => (s.silent.canTakes_iff c f).mp k h).trans (State.canStore_next _ c f stamp t)

/-- A frame received without error leaves the buffers, the mailboxes and every word as they were. -/
theorem State.canHeard_facts (s : State) (c t : Nat) : (s.canHeard c t).regs = s.regs
    ∧ ((s.canHeard c t).canOf c).bufs = (s.canOf c).bufs ∧ (s.canHeard c t).net.mail = s.net.mail := by
  unfold State.canHeard
  split
  · exact ⟨rfl, rfl, rfl⟩
  · have events := ((s.setCan c ((s.canOf c).heard (Config.freeWord s.free).toNat)).drawn).canJudge_eventsOnly c t
    have record := (State.canOf_congr events.net c).trans
      (show _ = (s.canOf c).heard (Config.freeWord s.free).toNat from s.setCan_canOf c _)
    exact ⟨events.regs, (congrArg Can.bufs record :), (congrArg Net.mail events.net :)⟩

theorem State.canMatch_congr {s u : State} (h : u.regs = s.regs) (c : Nat) (f : CanFrame) :
    u.canMatch c f = s.canMatch c f := by
  unfold State.canMatch State.canSlot State.consumed State.sflCfg State.word
  rw [h]

@[simp] theorem Can.setBuf_buf (x : Can) (k : Nat) (b : RxBuf) : (x.setBuf k b).buf k = b := Tab.get_put_same ..

theorem State.bufTake_facts (s : State) (c k : Nat) (f : CanFrame) (stamp : BitVec 32) (t : Nat) :
    (s.bufTake c k (f, stamp) t).regs = s.regs ∧ (s.bufTake c k (f, stamp) t).net.mail = s.net.mail
      ∧ (((s.canOf c).buf k).lock = none → ((s.bufTake c k (f, stamp) t).canOf c).buf k =
        { (s.canOf c).buf k with
          frame := some (f, stamp), ovr := ((s.canOf c).buf k).ovr || ((s.canOf c).buf k).new, new := true })
      ∧ (((s.canOf c).buf k).lock ≠ none → ((s.bufTake c k (f, stamp) t).canOf c).buf k =
        { (s.canOf c).buf k with
          shadow := some (f, stamp), ovr := ((s.canOf c).buf k).ovr || ((s.canOf c).buf k).shadow.isSome }) := by
  have set (b : RxBuf) : ((s.setCan c ((s.canOf c).setBuf k b)).canOf c).buf k = b := by
    rw [State.setCan_canOf, Can.setBuf_buf]
  unfold State.bufTake
  dsimp only
  split
  next locked =>
    have events (b : RxBuf) : (s.setCan c ((s.canOf c).setBuf k b)).EventsOnly
        (if ((s.canOf c).buf k).shadow.isSome then (s.setCan c ((s.canOf c).setBuf k b)).raise 0x0C09 c 0 t
          else s.setCan c ((s.canOf c).setBuf k b)) :=
      .ite (State.raise_eventsOnly _ 0x0C09 _ _ _ (by decide)) (.refl _)
    refine ⟨(events _).regs, ?_, fun h => absurd locked (by rw [h]; decide), fun _ => ?_⟩
    · rw [(events _).net]
      rfl
    · rw [State.canOf_congr (events _).net c]
      exact set _
  next free =>
    refine ⟨rfl, rfl, fun _ => set _, fun h => absurd (Option.isSome_iff_ne_none.mpr h) free⟩

theorem canReceive_facts {f : CanFrame} {stamp : BitVec 32} (h : s.canTakes c f) :
    ∃ u, exec (.canFrameReceive c f stamp t) s = .next u ∧ u.regs = s.regs
      ∧ (s.canMatch c f = none → (u.canOf c).bufs = (s.canOf c).bufs ∧ u.net.mail = s.net.mail)
      ∧ (∀ k, s.canMatch c f = some k →
        let b := (s.canOf c).buf k
        (W.CAN_SLOT_KIND (s.canSlot c k) = 1 → u.net.mail = s.net.mail
          ∧ (b.lock = none → (u.canOf c).buf k = { b with frame := some (f, stamp), ovr := b.ovr || b.new, new := true })
          ∧ (b.lock ≠ none → (u.canOf c).buf k =
            { b with shadow := some (f, stamp), ovr := b.ovr || b.shadow.isSome }))
        ∧ (W.CAN_SLOT_KIND (s.canSlot c k) ≠ 1 → (u.canOf c).bufs = (s.canOf c).bufs
          ∧ (f.data.length = 24 → Tab.get (fun _ => []) u.net.mail (W.CAN_SLOT_REF (s.canSlot c k)) = f.data)
          ∧ (f.data.length ≠ 24 → u.net.mail = s.net.mail))) := by
  refine ⟨_, canReceive_eq h, ?_⟩
  obtain ⟨regs, bufs, mail⟩ := s.silent.canHeard_facts c t
  generalize s.silent.canHeard c t = v at regs bufs mail ⊢
  have regs : v.regs = s.regs := regs
  have bufs : (v.canOf c).bufs = (s.canOf c).bufs := bufs
  have mail : v.net.mail = s.net.mail := mail
  have buf (k : Nat) : (v.canOf c).buf k = (s.canOf c).buf k := congrArg (Tab.get (fun _ => RxBuf.init) · k) bufs
  have slot (k : Nat) : v.canSlot c k = s.canSlot c k := by unfold State.canSlot State.word; rw [regs]
  unfold State.canStore
  rw [State.canMatch_congr regs]
  cases hm : s.canMatch c f with
  | none => exact ⟨regs, fun _ => ⟨bufs, mail⟩, fun k hk => absurd hk nofun⟩
  | some k =>
    dsimp only
    obtain ⟨kregs, kmail, free, locked⟩ := v.bufTake_facts c k f stamp t
    rw [buf k] at free locked
    unfold State.canPut
    rw [slot k]
    refine ⟨?_, nofun, fun i hi => ?_⟩
    · dsimp only
      split
      · exact kregs.trans regs
      · split <;> exact regs
    · obtain rfl : k = i := Option.some.inj hi
      refine ⟨fun hk => ?_, fun hk => ?_⟩
      · rw [if_pos hk]
        exact ⟨kmail.trans mail, free, locked⟩
      · rw [if_neg hk]
        refine ⟨?_, fun hl => ?_, fun hl => ?_⟩
        · split <;> exact bufs
        · rw [if_pos hl]
          exact Tab.get_put_same ..
        · rw [if_neg hl]
          exact mail

/-- A lock of a host buffer that is 1 s old. -/
def State.lockOld (s : State) (c k : Nat) : Prop :=
  ((s.canOf c).buf k).lock ≠ none ∧ ((s.canOf c).buf k).lockAt + 100000 ≤ s.mono

theorem canLock_stays {k : Fin 16} (h : ¬ s.lockOld c k) : exec (.canRxLockTimeout c k) s = .next s.silent := by
  refine congrArg Host.Outcome.next ?_
  split
  next old => exact if_neg fun ⟨held, _⟩ => h ⟨Option.isSome_iff_ne_none.mp held, old⟩
  next => rfl

theorem canLock_released {k : Fin 16} (h : s.lockOld c k) : ∃ u, exec (.canRxLockTimeout c k) s = .next u
    ∧ (u.canOf c).buf k = ((s.canOf c).buf k).release ∧ u.regs = s.regs := by
  refine ⟨s.silent.setCan c ((s.canOf c).setBuf k ((s.canOf c).buf k).release), congrArg Host.Outcome.next ?_, ?_, rfl⟩
  · exact (if_pos h.2).trans (if_pos ⟨Option.isSome_iff_ne_none.mpr h.1, .inl rfl⟩)
  · rw [State.setCan_canOf, Can.setBuf_buf]

end

/-- Settles O53: each row is an equation through a record of its own, and what the error states and the CAN slots do on
the way leaves that record alone. -/
theorem launchesStreamsAndTheAuxBusRun : Obligations.LaunchesStreamsAndTheAuxBusRun := by
  intro s t
  refine ⟨fun p busy => ⟨timedLaunch_none, fun x rest hq => ?_⟩, fun j => ?_, ?_, fun c =>
    ⟨fun k fits => ⟨canWindow_sends, canWindow_waits⟩, fun h => ⟨fun stamp => canTransmitted_idle h,
      fun lost ack fits => canTxError_idle h⟩, fun stamp k b h => ⟨?_, fun lost ack fits => canTxError_facts h⟩,
      fun eight => ⟨canRxError_off, canRxError_counts⟩, canRecovery_none, canRecovery_ends,
      fun f stamp => ⟨canReceive_none, canReceive_facts⟩, fun k => ⟨canLock_stays, canLock_released⟩⟩⟩
  · rw [timedLaunch_next hq]
    refine ⟨fun h => congrArg _ (if_pos h), fun h => ⟨fun hp => ?_, fun hp hl => ?_, fun hp hl => ?_⟩⟩
    all_goals refine congrArg Host.Outcome.next ((if_neg (Nat.not_lt.mpr h)).trans ?_)
    · exact if_pos hp
    · exact (if_neg hp).trans (if_pos hl)
    · exact (if_neg hp).trans (if_neg (Nat.not_le.mpr hl))
  · have entry : be 6 (s.cycle.toNat % 2 ^ 48) ++ be 2 (s.strmStale j) ++ s.strmValues j = s.strmEntry j :=
      List.append_assoc ..
    dsimp only
    rw [entry]
    refine ⟨streamSample_off, streamSample_batches, fun h hb => ?_⟩
    obtain ⟨u, eq, batch, ctr, regs, planned⟩ := streamSample_plans h hb
    exact ⟨u, eq, batch, ctr, regs, fun p hp hip => ⟨_, planned p hp hip, rfl, rfl, rfl, rfl, rfl⟩⟩
  · obtain ⟨u, eq, regs, judged⟩ := streamStop_judges (s := s)
    exact ⟨u, eq, regs, fun j => ⟨(judged j).stays, (judged j).stops⟩⟩
  · obtain ⟨u, eq, record, regs⟩ := canTransmitted_facts (c := c) (t := t) (stamp := stamp) h
    exact ⟨u, eq, congrArg Can.tx record, congrArg Can.tec record, congrArg Can.lastSlot record,
      congrArg Can.txStamp record, congrArg Can.cnt record, regs⟩

end Sys2Proof.Machine
end


section
/-! PROOFS. Requests that write one word: O32 to O34. -/

namespace Sys2Proof.Machine

open Sys2Proof.Machine

/-! ## One word written -/

section
variable {s : State} {r : Req} {k : Nat} {w : Word} {row : WordRow}

/-- The word `k` stands in its page with the row `row`, is written by its own key, and is no commit word. -/
def plainWord (k : Nat) (row : WordRow) : Bool :=
  decide (wordRow (k / 256) (k % 256) = some row) && decide (key (k / 256) (k % 256) = k) && decide (row.term ≠ .commit)
    && pageExists (k / 256) && !decide (k / 256 = 7 ∧ 0x10 ≤ k % 256 ∧ k % 256 < 0x28)
    && !decide (k / 256 = 13 ∧ 0xC0 ≤ k % 256)

structure PlainWord (k : Nat) (row : WordRow) : Prop where
  rowOf : wordRow (k / 256) (k % 256) = some row
  keyOf : key (k / 256) (k % 256) = k
  termOf : row.term ≠ .commit
  page : pageExists (k / 256) = true
  slot : ¬ (k / 256 = 7 ∧ 0x10 ≤ k % 256 ∧ k % 256 < 0x28)
  window : ¬ (k / 256 = 13 ∧ 0xC0 ≤ k % 256)

theorem PlainWord.of (h : plainWord k row = true) : PlainWord k row := by
  unfold plainWord at h
  simp only [Bool.and_eq_true, decide_eq_true_eq, Bool.not_eq_true', decide_eq_false_iff_not] at h
  obtain ⟨⟨⟨⟨⟨rowOf, keyOf⟩, termOf⟩, page⟩, slot⟩, window⟩ := h
  exact ⟨rowOf, keyOf, termOf, page, slot, window⟩

/-- The state in which a written word has been put, and in which the reply waits for the partner where a record has
come of it. -/
def State.wordPut (s : State) (r : Req) (k : Nat) (w : Word) (row : WordRow) : State :=
  let u := s.putWord (reqSlot r) (k / 256) (k % 256) w row r.tick
  if u.pairOps.recSeq = s.pairOps.recSeq then u else u.awaitAck (reqSlot r)

theorem PlainWord.bindKey (h : PlainWord k row) (s : State) (i : Nat) : s.bindKey i (k / 256) (k % 256) = k := by
  unfold State.bindKey
  rw [if_neg h.slot, if_neg h.window, h.keyOf]

theorem PlainWord.live (h : PlainWord k row) : liveWords (k / 256) [(k % 256, w)] = [(k % 256, w, row)] := by
  unfold liveWords
  rw [List.filterMap_cons, h.rowOf]
  rfl

/-- A write of one word that no rule refuses puts the word. -/
theorem State.write_word (s : State) (i t : Nat) (h : PlainWord k row)
    (free : s.writeRefuse i (k / 256) [(k % 256, w)] false
      ((liveWords (k / 256) [(k % 256, w)]).map fun q => (s.bindKey i (k / 256) q.1, q.2.1)) = none) :
    s.write i (k / 256) [(k % 256, w)] t =
      (let u := s.putWord i (k / 256) (k % 256) w row t
       let v := if u.pairOps.recSeq = s.pairOps.recSeq then u else u.awaitAck i
       if (decide (k = K.TIME_SNAP) && bit w 0) = true then .later v .snap else .done v stOk []) := by
  rw [h.live] at free
  have none_windowed : [(k % 256, w)].filter (fun p => decide (k / 256 = 13 ∧ 0xC0 ≤ p.1)) = [] :=
    List.filter_cons_of_neg fun e => h.window (of_decide_eq_true e)
  have no_commit : (decide ([(k % 256, w, row)] ≠ []) && [(k % 256, w, row)].all fun p => decide (p.2.2.term = .commit))
      = false := by
    rw [List.all_cons, show decide (row.term = .commit) = false from decide_eq_false h.termOf, Bool.false_and,
      Bool.and_false]
  unfold State.write
  rw [if_neg (not_bnot h.page)]
  dsimp only
  rw [h.live, no_commit, free, none_windowed]
  dsimp only
  rw [if_neg Bool.false_ne_true]
  simp only [State.putWindow, List.head?_nil, List.foldl_cons, List.foldl_nil, List.any_cons, List.any_nil,
    Bool.or_false,
    h.keyOf]
  rfl

theorem State.setOne_word (h : PlainWord k row) (free : s.WritesFreely r k w)
    (hn : ¬ (k = K.TIME_SNAP ∧ bit w 0 = true)) :
    s.silent.setOne r k w = ((s.begun r).wordPut r k w row).reply (reqSlot r) 0x0011 r.seq stOk [] := by
  obtain ⟨accepts, free⟩ := free
  unfold State.setOne
  rw [State.serve_accepted _ _ accepts, State.write_word _ _ _ h free]
  dsimp only
  rw [if_neg (by rwa [Bool.and_eq_true, decide_eq_true_eq])]
  rfl

theorem State.setOne_snap (h : PlainWord K.TIME_SNAP row) (free : s.WritesFreely r K.TIME_SNAP w)
    (hw : bit w 0 = true) :
    s.silent.setOne r K.TIME_SNAP w = ((s.begun r).wordPut r K.TIME_SNAP w row).setSess (reqSlot r)
      { ((s.begun r).wordPut r K.TIME_SNAP w row).sess (reqSlot r) with wait := some (0x0011, r.seq, .snap) } := by
  obtain ⟨accepts, free⟩ := free
  unfold State.setOne
  rw [State.serve_accepted _ _ accepts, State.write_word _ _ _ h free]
  dsimp only
  rw [if_pos (by rw [hw]; rfl)]
  rfl

/-! What a put word becomes, by its page and its term. -/

theorem State.putWord_record (s : State) (i t : Nat) (h : PlainWord k row) (hs : sessionWord k = false)
    (hl : s.leads = true) (hp : k / 256 ∈ replicatedPages) :
    s.putWord i (k / 256) (k % 256) w row t = s.addRecord rkWord 0 (k / 256) (k % 256) (s.mono + 2) w := by
  unfold State.putWord
  dsimp only
  rw [h.bindKey, if_neg (by rw [hs]; decide), if_neg h.window, if_pos ⟨hl, hp⟩]

theorem State.putWord_own (s : State) (i t : Nat) (h : PlainWord k row) (hs : sessionWord k = false)
    (hp : s.leads = false ∨ k / 256 ∉ replicatedPages) :
    s.putWord i (k / 256) (k % 256) w row t = match row.term with
      | .nextCycle => { s with nextW := s.nextW ++ [(k, w)] }
      | .target => match genWord (k % 256) with
        | some g => (s.setWord k w).stageGen g.1 g.2 w s.genTarget
        | none => s.setWord k w
      | .acquisition => (s.setWord k (w &&& 0x7FFFFFFF)).restartLoops (k - K.CLK_LOOP 0) (bit w 31) t
      | _ => s.applyWord k w t := by
  unfold State.putWord
  dsimp only
  rw [h.bindKey, if_neg (by rw [hs]; decide), if_neg h.window]
  exact if_neg fun e => hp.elim (fun l => ne_true_of_eq_false l e.1) (· e.2)

theorem State.wordPut_record (h : PlainWord k row) (hs : sessionWord k = false) (hl : s.leads = true)
    (hp : k / 256 ∈ replicatedPages) :
    s.wordPut r k w row = (s.addRecord rkWord 0 (k / 256) (k % 256) (s.mono + 2) w).awaitAck (reqSlot r) := by
  unfold State.wordPut
  rw [s.putWord_record _ _ h hs hl hp]
  exact if_neg (Nat.succ_ne_self _)

theorem State.wordPut_waits (h : PlainWord k row) (hs : sessionWord k = false)
    (hp : s.leads = false ∨ k / 256 ∉ replicatedPages) (ht : row.term = .nextCycle) :
    s.wordPut r k w row = { s with nextW := s.nextW ++ [(k, w)] } := by
  unfold State.wordPut
  rw [s.putWord_own _ _ h hs hp, ht]
  exact if_pos rfl

end

/-! ## Words by their term -/

/-- The row of the word `k`. -/
def rowAt (k : Nat) : WordRow := (wordRow (k / 256) (k % 256)).getD ⟨0, 0, 0, .ro, .immediate, 0, 0⟩

/-- A plain word outside the sessions' own that takes effect by the term `t`. -/
def termWord (k : Nat) (t : Term) : Bool := plainWord k (rowAt k) && !sessionWord k && decide ((rowAt k).term = t)

/-- A page that the holder of a pair forwards. -/
def sharedWord (k : Nat) : Bool := decide (k / 256 ∈ replicatedPages)

section
variable {s : State} {r : Req} {k : Nat} {w : Word} {t : Term}

theorem termWord_parts (h : termWord k t = true) :
    PlainWord k (rowAt k) ∧ sessionWord k = false ∧ (rowAt k).term = t := by
  unfold termWord at h
  rw [Bool.and_eq_true, Bool.and_eq_true, Bool.not_eq_true', decide_eq_true_eq] at h
  exact ⟨.of h.1.1, h.1.2, h.2⟩

/-- A word of a shared page goes to the partner as a record. -/
theorem State.copied_next (h : termWord k t = true) (hn : k ≠ K.TIME_SNAP) (hp : sharedWord k = true)
    (free : s.WritesFreely r k w) (hl : s.leads = true) :
    (.next (s.silent.setOne r k w) : Host.Outcome State Fault Refusal) =
      .next ((((s.begun r).addRecord rkWord 0 (k / 256) (k % 256) (s.mono + 2) w).awaitAck (reqSlot r)).reply
        (reqSlot r) 0x0011 r.seq stOk []) := by
  obtain ⟨plain, session, -⟩ := termWord_parts h
  rw [State.setOne_word plain free fun e => hn e.1,
    State.wordPut_record plain session (by rw [s.begun_leads]; exact hl) (of_decide_eq_true hp)]
  rfl

theorem State.waits_next (h : termWord k .nextCycle = true) (hn : k ≠ K.TIME_SNAP)
    (free : s.WritesFreely r k w) (hp : s.leads = false ∨ sharedWord k = false) :
    (.next (s.silent.setOne r k w) : Host.Outcome State Fault Refusal) =
      .next (({ s.begun r with nextW := (s.begun r).nextW ++ [(k, w)] }).reply (reqSlot r) 0x0011 r.seq stOk []) := by
  obtain ⟨plain, session, term⟩ := termWord_parts h
  rw [State.setOne_word plain free fun e => hn e.1,
    State.wordPut_waits plain session ((s.begun_leads r).symm ▸ hp.imp id of_decide_eq_false) term]

/-- A word that waits for the next cycle, or goes to the partner as a record where its page is shared. -/
theorem State.rearms_next (h : termWord k .nextCycle = true) (hn : k ≠ K.TIME_SNAP) (hp : sharedWord k = true)
    (free : s.WritesFreely r k w) :
    (s.leads = false → (.next (s.silent.setOne r k w) : Host.Outcome State Fault Refusal) =
      .next (({ s.begun r with nextW := (s.begun r).nextW ++ [(k, w)] }).reply (reqSlot r) 0x0011 r.seq stOk []))
    ∧ (s.leads = true → (.next (s.silent.setOne r k w) : Host.Outcome State Fault Refusal) =
      .next ((((s.begun r).addRecord rkWord 0 (k / 256) (k % 256) (s.mono + 2) w).awaitAck (reqSlot r)).reply
        (reqSlot r) 0x0011 r.seq stOk [])) :=
  ⟨fun hl => State.waits_next h hn free (.inl hl), State.copied_next h hn hp free⟩

/-- A word that acts at once, on a page that is not shared or in a module that is not the holder of a pair. -/
theorem State.acts_next (h : termWord k .immediate = true) (hn : k ≠ K.TIME_SNAP)
    (free : s.WritesFreely r k w) (hp : s.leads = false ∨ sharedWord k = false)
    (same : ((s.begun r).applyWord k w r.tick).pairOps = (s.begun r).pairOps) :
    (.next (s.silent.setOne r k w) : Host.Outcome State Fault Refusal) =
      .next (((s.begun r).applyWord k w r.tick).reply (reqSlot r) 0x0011 r.seq stOk []) := by
  obtain ⟨plain, session, term⟩ := termWord_parts h
  rw [State.setOne_word plain free fun e => hn e.1]
  unfold State.wordPut
  rw [State.putWord_own _ _ _ plain session ((s.begun_leads r).symm ▸ hp.imp id of_decide_eq_false), term]
  dsimp only
  rw [if_pos (congrArg PairOps.recSeq same)]

end

theorem laneCtl_term : ∀ l : Fin 68, termWord (K.LANE_CTL l) .nextCycle = true ∧ K.LANE_CTL l ≠ K.TIME_SNAP
    ∧ sharedWord (K.LANE_CTL l) = false := by decide

/-- Settles O32: the words' rows have the term of the next cycle, and a write that no rule refuses only puts its
word. -/
theorem wordsOfTheNextCycleWait : Obligations.WordsOfTheNextCycleWait := by
  intro s r
  refine ⟨fun l w free => ?_, fun w free => State.waits_next (by decide) (by decide) free
    (.inr (by decide)), fun free => State.waits_next (by decide) (by decide) free (.inr (by decide)),
    fun free => State.waits_next (by decide) (by decide) free (.inr (by decide)),
    State.rearms_next (by decide) (by decide) (by decide), State.rearms_next (by decide) (by decide) (by decide),
    State.rearms_next (by decide) (by decide) (by decide), State.rearms_next (by decide) (by decide) (by decide),
    State.rearms_next (by decide) (by decide) (by decide), fun free => ?_⟩
  · obtain ⟨term, ne, own⟩ := laneCtl_term l
    exact State.waits_next term ne free (.inr own)
  · obtain ⟨plain, session, term⟩ := termWord_parts (k := K.TIME_SNAP) (t := .nextCycle) (by decide)
    refine congrArg Host.Outcome.next ((State.setOne_snap plain free (by decide)).trans ?_)
    rw [State.wordPut_waits plain session (.inr (by decide)) term]

/-! ## Immediate words -/

section
variable {s : State} {r : Req}

theorem State.arbCtl_pairOps (s : State) (w : Word) : (s.arbCtl w).pairOps = s.pairOps := by
  unfold State.arbCtl
  dsimp only
  split
  · rfl
  · exact State.clear_pairOps ..

theorem State.arbRevoke_pairOps (s : State) (i : Nat) : (s.arbRevoke i).pairOps = s.pairOps := by
  unfold State.arbRevoke
  split <;> rfl

theorem State.dmaStart_pairOps (s : State) (ch : Nat) : (s.dmaStart ch).pairOps = s.pairOps := by
  unfold State.dmaStart
  dsimp only
  split <;> rfl

theorem State.sendLbk_pairOps (s : State) (b pos cmd : Nat) : (s.sendLbk b pos cmd).pairOps = s.pairOps := by
  unfold State.sendLbk
  split <;> rfl

theorem State.timeJudge_pairOps (s : State) (t : Nat) : (s.timeJudge t).pairOps = s.pairOps := by
  unfold State.timeJudge
  dsimp only
  split
  · rfl
  split
  · exact (State.raise_eventsOnly _ 0x0408 _ _ _ (by decide)).pairOps
  split
  · exact State.clear_pairOps ..
  · rfl

theorem State.restartLoops_pairOps (s : State) (i : Nat) (force : Bool) (t : Nat) :
    (s.restartLoops i force t).pairOps = s.pairOps := by
  have loops (f : State → Nat → ClkLoop) (l : List Nat) (u : State) :
      (l.foldl (fun (s : State) (j : Nat) => s.setLoop j (f s j)) u).pairOps = u.pairOps := by
    induction l generalizing u with
    | nil => rfl
    | cons j l ih => exact ih (u.setLoop j (f u j))
  unfold State.restartLoops
  dsimp only
  split
  · rw [State.timeJudge_pairOps, (State.raise_eventsOnly _ 0x0406 _ _ _ (by decide)).pairOps]
    exact loops (fun s j => { s.loopOf j with
      state := clkFreq, held := 0, forced := true,
      lostAt := if (s.loopOf j).lostAt.isSome then (s.loopOf j).lostAt else some s.mono }) _ s
  · rw [State.timeJudge_pairOps]
    exact loops (fun s j => { s.loopOf j with state := clkAcquire, held := 0, forced := false, lostAt := none }) _ s

theorem State.NetOnly.pairOps {s t : State} (h : s.NetOnly t) : t.pairOps = s.pairOps := by rw [h]

theorem State.rxsel_pairOps (s : State) (i : Nat) (w : Word) : (s.applySess i K.CAN_RXSEL w).pairOps = s.pairOps := by
  show (if (s.sess i).canRxsel = w then s else s.bufReleaseAll i).pairOps = s.pairOps
  split
  · rfl
  · exact (s.bufReleaseAll_netOnly i).pairOps

/-- CAN_RXSEL is the session's own. -/
theorem State.rxsel_next {w : Word} (free : s.WritesFreely r K.CAN_RXSEL w) :
    (.next (s.silent.setOne r K.CAN_RXSEL w) : Host.Outcome State Fault Refusal) =
      .next (((s.begun r).applySess (reqSlot r) K.CAN_RXSEL w).reply (reqSlot r) 0x0011 r.seq stOk []) := by
  have plain : PlainWord K.CAN_RXSEL (rowAt K.CAN_RXSEL) := .of (by decide)
  have put : (s.begun r).putWord (reqSlot r) (K.CAN_RXSEL / 256) (K.CAN_RXSEL % 256) w (rowAt K.CAN_RXSEL) r.tick =
      (s.begun r).applySess (reqSlot r) K.CAN_RXSEL w := by
    unfold State.putWord
    dsimp only
    rw [plain.bindKey, if_pos (by decide)]
  rw [State.setOne_word plain free fun e => absurd e.1 (by decide)]
  unfold State.wordPut
  rw [put]
  exact congrArg (fun u : State => Host.Outcome.next (u.reply (reqSlot r) 0x0011 r.seq stOk []))
    (if_pos (congrArg PairOps.recSeq (State.rxsel_pairOps ..)))

theorem State.clkLoop_next {n : Fin 17} {w : Word} (free : s.WritesFreely r (K.CLK_LOOP n) w) :
    (.next (s.silent.setOne r (K.CLK_LOOP n) w) : Host.Outcome State Fault Refusal) =
      .next (((((s.begun r).setWord (K.CLK_LOOP n) (w &&& 0x7FFFFFFF)).restartLoops n (bit w 31) r.tick)).reply
        (reqSlot r) 0x0011 r.seq stOk []) := by
  have facts : ∀ n : Fin 17, termWord (K.CLK_LOOP n) .acquisition = true ∧ K.CLK_LOOP n ≠ K.TIME_SNAP
    ∧ sharedWord (K.CLK_LOOP n) = false := by decide
  obtain ⟨term, ne, own⟩ := facts n
  obtain ⟨plain, session, term⟩ := termWord_parts term
  rw [State.setOne_word plain free fun e => ne e.1]
  unfold State.wordPut
  rw [State.putWord_own _ _ _ plain session (.inr (of_decide_eq_false own)), term]
  dsimp only
  rw [show K.CLK_LOOP n - K.CLK_LOOP 0 = n from Nat.add_sub_cancel_left ..]
  exact congrArg (fun u : State => Host.Outcome.next (u.reply (reqSlot r) 0x0011 r.seq stOk []))
    (if_pos (congrArg PairOps.recSeq (State.restartLoops_pairOps ..)))

/-! The words that act at once, each by its own branch of `applyWord`. -/

theorem State.applyWord_adcUrg (s : State) (adc : Fin 4) (ch : Fin 32) (t : Nat) :
    s.applyWord K.ADC_URG (at_ adc 8 ||| at_ ch 0) t = s.setConv adc { s.conv adc with host := some (ch : Nat) } := by
  have fields : ∀ (adc : Fin 4) (ch : Fin 32), W.ADC_URG_ADC (at_ adc 8 ||| at_ ch 0) = adc
    ∧ W.ADC_URG_CH (at_ adc 8 ||| at_ ch 0) = ch := by decide
  obtain ⟨ha, hc⟩ := fields adc ch
  show s.setConv (W.ADC_URG_ADC _) { s.conv (W.ADC_URG_ADC _) with host := some (W.ADC_URG_CH _) } = _
  rw [ha, hc]

theorem State.applyWord_arbCtl (s : State) (w : Word) (t : Nat) : s.applyWord K.ARB_CTL w t = s.arbCtl w := rfl

theorem State.applyWord_arbCmd (s : State) (n : Fin 8) (t : Nat) :
    s.applyWord K.ARB_CMD (at_ 1 4 ||| at_ n 0) t = s.arbRevoke n := by
  have field : ∀ n : Fin 8, W.ARB_CMD_REQ (at_ 1 4 ||| at_ n 0) = n := by decide
  exact congrArg s.arbRevoke (field n)

theorem State.applyWord_dmaStart (s : State) (ch : Fin 8) (t : Nat) :
    s.applyWord K.DMA_CMD (at_ 1 8 ||| at_ ch 0) t = s.dmaStart ch := by
  have fields : ∀ ch : Fin 8, W.DMA_CMD_CMD (at_ 1 8 ||| at_ ch 0) = 1 ∧ W.DMA_CMD_CH (at_ 1 8 ||| at_ ch 0) = ch := by
    decide
  obtain ⟨hc, hn⟩ := fields ch
  exact (if_pos hc).trans (congrArg s.dmaStart hn)

theorem State.applyWord_dmaCancel (s : State) (ch : Fin 8) (t : Nat) :
    s.applyWord K.DMA_CMD (at_ 2 8 ||| at_ ch 0) t = s.dmaCancel ch := by
  have fields : ∀ ch : Fin 8, W.DMA_CMD_CMD (at_ 2 8 ||| at_ ch 0) ≠ 1 ∧ W.DMA_CMD_CH (at_ 2 8 ||| at_ ch 0) = ch := by
    decide
  obtain ⟨hc, hn⟩ := fields ch
  exact (if_neg hc).trans (congrArg s.dmaCancel hn)

theorem State.applyWord_blotCmd (s : State) (t : Nat) : s.applyWord K.BLOT_CMD 1 t = s.blotTrigger s.blotRow t := rfl

theorem State.applyWord_bitSlip (s : State) (l : Fin 68) (t : Nat) :
    s.applyWord K.LANE_CMD (at_ 1 8 ||| at_ l 0) t = s.setLane l { s.lane l with slip := ((s.lane l).slip + 1) % 20 } := by
  have fields : ∀ l : Fin 68, W.LANE_CMD_LANE (at_ 1 8 ||| at_ l 0) = l ∧ W.LANE_CMD_CMD (at_ 1 8 ||| at_ l 0) = 1 := by
    decide
  obtain ⟨hl, hc⟩ := fields l
  show s.laneCmd (W.LANE_CMD_LANE _) (W.LANE_CMD_CMD _) = _
  rw [hl, hc]
  unfold State.laneCmd
  exact if_pos rfl

theorem State.applyWord_laneClear (s : State) (l : Fin 68) (t : Nat) :
    s.applyWord K.LANE_CMD (at_ 2 8 ||| at_ l 0) t = s.setLane l { s.lane l with
      err := BitVec.ofNat 32 (if (s.lane l).incAt = s.mono then (s.lane l).incs else 0), errSat := false } := by
  have fields : ∀ l : Fin 68, W.LANE_CMD_LANE (at_ 2 8 ||| at_ l 0) = l ∧ W.LANE_CMD_CMD (at_ 2 8 ||| at_ l 0) = 2 := by
    decide
  obtain ⟨hl, hc⟩ := fields l
  show s.laneCmd (W.LANE_CMD_LANE _) (W.LANE_CMD_CMD _) = _
  rw [hl, hc]
  unfold State.laneCmd
  exact if_neg (show (2 : Nat) ≠ 1 by decide)

/-- The word of a LINK_CMD as a number. -/
theorem linkWord_toNat {cmd : Nat} (hc : cmd < 4) (p : Fin 64) (pos : Fin 128) :
    (at_ cmd 24 ||| at_ pos 8 ||| at_ p 0).toNat = cmd * 2 ^ 24 + (pos * 2 ^ 8 + p) := by
  have hpos := pos.isLt
  have hp := p.isLt
  have low : (pos : Nat) <<< 8 + p = (pos : Nat) <<< 8 ||| p := Nat.shiftLeft_add_eq_or_of_lt (by omega) _
  have high : cmd <<< 24 + ((pos : Nat) <<< 8 + p) = cmd <<< 24 ||| ((pos : Nat) <<< 8 + p) :=
    Nat.shiftLeft_add_eq_or_of_lt (by rw [Nat.shiftLeft_eq]; omega) _
  unfold at_
  rw [BitVec.toNat_or, BitVec.toNat_or, BitVec.toNat_ofNat, BitVec.toNat_ofNat, BitVec.toNat_ofNat, Nat.shiftLeft_zero,
    Nat.mod_eq_of_lt (by rw [Nat.shiftLeft_eq]; omega), Nat.mod_eq_of_lt (by rw [Nat.shiftLeft_eq]; omega),
    Nat.mod_eq_of_lt (by omega), Nat.or_assoc, ← low, ← high, Nat.shiftLeft_eq, Nat.shiftLeft_eq]

theorem State.applyWord_linkCmd (s : State) {cmd : Nat} (hc : cmd < 4) (p : Fin 64) (pos : Fin 128) (t : Nat) :
    s.applyWord K.LINK_CMD (at_ cmd 24 ||| at_ pos 8 ||| at_ p 0) t = s.sendLbk p pos cmd := by
  have hpos := pos.isLt
  have hp := p.isLt
  have port : W.LINK_CMD_PORT (at_ cmd 24 ||| at_ pos 8 ||| at_ p 0) = p := by
    unfold W.LINK_CMD_PORT field
    rw [linkWord_toNat hc, Nat.shiftRight_eq_div_pow]
    omega
  have position : W.LINK_CMD_POS (at_ cmd 24 ||| at_ pos 8 ||| at_ p 0) = pos := by
    unfold W.LINK_CMD_POS field
    rw [linkWord_toNat hc, Nat.shiftRight_eq_div_pow]
    omega
  have command : W.LINK_CMD_CMD (at_ cmd 24 ||| at_ pos 8 ||| at_ p 0) = cmd := by
    unfold W.LINK_CMD_CMD field
    rw [linkWord_toNat hc, Nat.shiftRight_eq_div_pow]
    omega
  show s.sendLbk (W.LINK_CMD_PORT _) (W.LINK_CMD_POS _) (W.LINK_CMD_CMD _) = _
  rw [port, position, command]

/-- LINK_CMD sends its /LBK/, or goes to the partner as a record. -/
theorem State.linkCmd_next {cmd : Nat} (hc : cmd < 4) {p : Fin 64} {pos : Fin 128}
    (free : s.WritesFreely r K.LINK_CMD (at_ cmd 24 ||| at_ pos 8 ||| at_ p 0)) :
    (s.leads = false →
      (∀ q, (s.usedPorts p).find? s.sends = some q →
        .next (s.silent.setOne r K.LINK_CMD (at_ cmd 24 ||| at_ pos 8 ||| at_ p 0)) =
          (.next (((s.begun r).emit (.ordered q (.lbk (BitVec.ofNat 8 pos) (if cmd = 1 then 1 else 0)))).reply
            (reqSlot r) 0x0011 r.seq stOk []) : Host.Outcome State Fault Refusal))
      ∧ ((s.usedPorts p).find? s.sends = none →
        .next (s.silent.setOne r K.LINK_CMD (at_ cmd 24 ||| at_ pos 8 ||| at_ p 0)) =
          (.next ((s.begun r).reply (reqSlot r) 0x0011 r.seq stOk []) : Host.Outcome State Fault Refusal)))
    ∧ (s.leads = true → .next (s.silent.setOne r K.LINK_CMD (at_ cmd 24 ||| at_ pos 8 ||| at_ p 0)) =
      (.next ((((s.begun r).addRecord rkWord 0 (K.LINK_CMD / 256) (K.LINK_CMD % 256) (s.mono + 2)
        (at_ cmd 24 ||| at_ pos 8 ||| at_ p 0)).awaitAck (reqSlot r)).reply (reqSlot r) 0x0011 r.seq stOk []) :
        Host.Outcome State Fault Refusal)) := by
  refine ⟨fun hl => ?_, State.copied_next (t := .immediate) (by decide) (by decide) (by decide) free⟩
  have same : ((s.begun r).applyWord K.LINK_CMD (at_ cmd 24 ||| at_ pos 8 ||| at_ p 0) r.tick).pairOps
      = (s.begun r).pairOps := by
    rw [State.applyWord_linkCmd _ hc]
    exact State.sendLbk_pairOps ..
  rw [State.acts_next (by decide) (by decide) free (.inl hl) same, State.applyWord_linkCmd _ hc]
  have ports : ((s.begun r).usedPorts p).find? (s.begun r).sends = (s.usedPorts p).find? s.sends := rfl
  unfold State.sendLbk
  rw [ports]
  refine ⟨fun q hq => ?_, fun hq => ?_⟩
  · rw [hq]
  · rw [hq]

end

/-- Settles O33: a word of an immediate term is put by its own branch of `applyWord`, which adds no record. -/
theorem immediateWordsActAtOnce : Obligations.ImmediateWordsActAtOnce := by
  intro s r
  refine ⟨fun w => State.rxsel_next, fun adc ch free => ?_, fun w free => ?_, fun n free => ?_, fun ch free => ?_,
    fun ch free => ?_, fun free => ?_, fun l free => ?_, fun l free => ?_, fun p pos => State.linkCmd_next (by decide),
    fun p pos => State.linkCmd_next (by decide), fun n w => State.clkLoop_next⟩
  · refine (State.acts_next (by decide) (by decide) free (.inr (by decide)) ?_).trans ?_
    all_goals rw [State.applyWord_adcUrg]
    rfl
  · exact State.acts_next (by decide) (by decide) free (.inr (by decide)) (State.arbCtl_pairOps ..)
  · refine (State.acts_next (by decide) (by decide) free (.inr (by decide)) ?_).trans ?_
    all_goals rw [State.applyWord_arbCmd]
    exact State.arbRevoke_pairOps ..
  · refine (State.acts_next (by decide) (by decide) free (.inr (by decide)) ?_).trans ?_
    all_goals rw [State.applyWord_dmaStart]
    exact State.dmaStart_pairOps ..
  · refine (State.acts_next (by decide) (by decide) free (.inr (by decide)) ?_).trans ?_
    all_goals rw [State.applyWord_dmaCancel]
    rfl
  · exact State.acts_next (by decide) (by decide) free (.inr (by decide)) (State.blotTrigger_eventsOnly ..).pairOps
  · refine (State.acts_next (by decide) (by decide) free (.inr (by decide)) ?_).trans ?_
    all_goals rw [State.applyWord_bitSlip]
    rfl
  · refine (State.acts_next (by decide) (by decide) free (.inr (by decide)) ?_).trans ?_
    all_goals rw [State.applyWord_laneClear]
    rfl

/-! ## One word as a PAGE_SET -/

/-- The parameters of a PAGE_SET of one word. -/
def oneWord (k : Nat) (w : Word) : List Byte := be 2 (k / 256) ++ be 1 (k % 256) ++ be 1 1 ++ wordBytes w

theorem beAt_be_two (v : Nat) (l : List Byte) (h : v < 65536) : beAt (be 2 v ++ l) 0 2 = v := by
  show (BitVec.ofNat 8 (v >>> 8)).toNat * 256 ^ 1 + ((BitVec.ofNat 8 (v >>> 0)).toNat * 256 ^ 0 + 0) = v
  rw [BitVec.toNat_ofNat, BitVec.toNat_ofNat, Nat.shiftRight_eq_div_pow, Nat.shiftRight_zero]
  omega

theorem oneWord_page {k : Nat} (w : Word) (hk : k / 256 < 65536) : beAt (oneWord k w) 0 2 = k / 256 := by
  unfold oneWord
  rw [List.append_assoc, List.append_assoc]
  exact beAt_be_two _ _ hk

theorem oneWord_offset (k : Nat) (w : Word) : beAt (oneWord k w) 2 1 = k % 256 := by
  show (BitVec.ofNat 8 (k % 256 >>> 0)).toNat * 256 ^ 0 + 0 = k % 256
  rw [BitVec.toNat_ofNat, Nat.shiftRight_zero]
  omega

theorem oneWord_count (k : Nat) (w : Word) : beAt (oneWord k w) 3 1 = 1 := rfl

theorem oneWord_word (k : Nat) (w : Word) : beAt (oneWord k w) 4 4 = w.toNat := by
  show (BitVec.ofNat 8 (w.toNat >>> 24)).toNat * 256 ^ 3 + ((BitVec.ofNat 8 (w.toNat >>> 16)).toNat * 256 ^ 2
    + ((BitVec.ofNat 8 (w.toNat >>> 8)).toNat * 256 ^ 1 + ((BitVec.ofNat 8 (w.toNat >>> 0)).toNat * 256 ^ 0 + 0)))
    = w.toNat
  have := w.isLt
  rw [BitVec.toNat_ofNat, BitVec.toNat_ofNat, BitVec.toNat_ofNat, BitVec.toNat_ofNat, Nat.shiftRight_eq_div_pow,
    Nat.shiftRight_eq_div_pow, Nat.shiftRight_eq_div_pow, Nat.shiftRight_zero]
  omega

theorem pageWordsOf_oneWord (k : Nat) (w : Word) : pageWordsOf (oneWord k w) = some [(k % 256, w)] := by
  unfold pageWordsOf
  rw [oneWord_offset, oneWord_count]
  refine (if_neg (not_or.mpr ⟨fun h => h rfl, ?_⟩)).trans ?_
  · show ¬ 256 < k % 256 + 1
    omega
  · show some [(k % 256 + 0, BitVec.ofNat 32 (beAt (oneWord k w) 4 4))] = _
    rw [oneWord_word, BitVec.ofNat_toNat, BitVec.setWidth_eq, Nat.add_zero]

/-- A PAGE_SET of one word of a page that exists writes that word. -/
theorem pageSet_oneWord {s : State} {r : Req} {k : Nat} (w : Word) (hk : k / 256 < 65536)
    (hp : pageExists (k / 256) = true) : exec (.pageSet r (oneWord k w)) s = .next (s.silent.setOne r k w) := by
  refine congrArg (fun f => Host.Outcome.next (s.silent.serve r 0x0011 roControl f)) (funext fun u => funext fun i => ?_)
  rw [oneWord_page w hk, pageWordsOf_oneWord]
  exact if_neg fun h => not_bnot hp h.2

/-- The word `k` stands in a page that exists and that two bytes name. -/
def pagedWord (k : Nat) : Bool := decide (k / 256 < 65536) && pageExists (k / 256)

/-- A command whose effect is to write one word does what the PAGE_SET of that word does. -/
theorem exec_pageSet {c : Instr} {s : State} {r : Req} {k : Nat} {w : Word} (hk : pagedWord k = true)
    (h : exec c s = .next (s.silent.setOne r k w)) : exec c s = exec (.pageSet r (oneWord k w)) s := by
  unfold pagedWord at hk
  rw [Bool.and_eq_true, decide_eq_true_eq] at hk
  rw [h, pageSet_oneWord w hk.1 hk.2]

/-- Settles O34: a PAGE_SET of one word of an existing page reads its parameters back as that word. -/
theorem oneWordRowsArePageSets : Obligations.OneWordRowsArePageSets := by
  intro s r
  have lanes : ∀ l : Fin 68, pagedWord (K.LANE_CTL l) = true := by decide
  have loops : ∀ n : Fin 17, pagedWord (K.CLK_LOOP n) = true := by decide
  exact ⟨fun w => ⟨fun l => exec_pageSet (lanes l) rfl, fun n => exec_pageSet (loops n) rfl,
      exec_pageSet (by decide) rfl, exec_pageSet (by decide) rfl, exec_pageSet (by decide) rfl⟩,
    fun l => ⟨exec_pageSet (by decide) rfl, exec_pageSet (by decide) rfl⟩,
    fun p pos => ⟨exec_pageSet (by decide) rfl, exec_pageSet (by decide) rfl⟩,
    fun adc ch => exec_pageSet (by decide) rfl,
    fun n => ⟨exec_pageSet (by decide) rfl, exec_pageSet (by decide) rfl, exec_pageSet (by decide) rfl⟩,
    exec_pageSet (by decide) rfl, exec_pageSet (by decide) rfl, exec_pageSet (by decide) rfl,
    exec_pageSet (by decide) rfl, exec_pageSet (by decide) rfl, exec_pageSet (by decide) rfl,
    exec_pageSet (by decide) rfl, exec_pageSet (by decide) rfl, exec_pageSet (by decide) rfl⟩

end Sys2Proof.Machine
end


section
/-! PROOFS. Sessions, transactions and pages: O35 to O37. -/

namespace Sys2Proof.Machine

open Sys2Proof.Machine

/-! ## The handshake -/

section
variable {s : State} {q : Peer} {t : Tick}

/-- A module past BOOT on a port with an address takes handshake messages. -/
theorem hello_off {body : List Byte} (h : s.sys.mode = .boot ∨ s.portIp q.port = 0) :
    exec (.hello q body t) s = .next s.silent := if_pos h

/-- The key that a HELLO names. -/
def helloKey (body : List Byte) : Word := BitVec.ofNat 32 (beAt body 4 4)

/-- A HELLO of the right length with a role that exists. -/
def helloFormed (body : List Byte) : Prop := body.length = 1256 ∧ beAt body 0 1 ≤ 2 ∧ beAt body 1 3 = 0

theorem helloFormed_iff (body : List Byte) :
    ¬ (body.length ≠ 1256 ∨ 2 < beAt body 0 1 ∨ beAt body 1 3 ≠ 0) ↔ helloFormed body := by
  unfold helloFormed
  rw [not_or, not_or, Classical.not_not, Nat.not_lt, Classical.not_not]

section
variable {body : List Byte} (hm : s.sys.mode ≠ .boot) (hp : s.portIp q.port ≠ 0)
include hm hp

theorem hello_malformed (h : ¬ helloFormed body) :
    exec (.hello q body t) s = .next (s.silent.alert q 0 stBadParam (helloKey body) t) :=
  (if_neg (not_or.mpr ⟨hm, hp⟩)).trans (if_pos (Classical.not_not.mp fun k => h ((helloFormed_iff body).mp k)))

theorem hello_unknown (h : helloFormed body) (hk : s.findKey (helloKey body) = none) :
    exec (.hello q body t) s = .next (s.silent.alert q 0 stAuthFail (helloKey body) t) := by
  refine (if_neg (not_or.mpr ⟨hm, hp⟩)).trans ((if_neg ((helloFormed_iff body).mpr h)).trans ?_)
  have hk : s.silent.findKey (BitVec.ofNat 32 (beAt body 4 4)) = none := hk
  revert hk
  generalize s.silent.findKey (BitVec.ofNat 32 (beAt body 4 4)) = o
  rintro rfl
  rfl

theorem hello_busy {k : List Byte × Nat} (h : helloFormed body) (hk : s.findKey (helloKey body) = some k)
    (hf : s.freeSlot = none) : exec (.hello q body t) s = .next (s.silent.alert q 0 stBusy (helloKey body) t) := by
  refine (if_neg (not_or.mpr ⟨hm, hp⟩)).trans ((if_neg ((helloFormed_iff body).mpr h)).trans ?_)
  have hk : s.silent.findKey (BitVec.ofNat 32 (beAt body 4 4)) = some k := hk
  have hf : s.silent.freeSlot = none := hf
  revert hk hf
  generalize s.silent.findKey (BitVec.ofNat 32 (beAt body 4 4)) = o
  generalize s.silent.freeSlot = p
  rintro rfl rfl
  rfl

/-- The state that remembers the attempt `a`, alone of its slot. -/
def State.attempted (s : State) (a : Attempt) : State :=
  { s.drawn with cmd := { s.cmd with attempts := (s.cmd.attempts.filter fun b => decide (b.slot ≠ a.slot)) ++ [a] } }

omit hm hp in
theorem State.attempted_filter (s : State) (a : Attempt) :
    (s.attempted a).cmd.attempts.filter (fun b => decide (b.slot = a.slot)) = [a] := by
  have flip : (fun b : Attempt => decide (b.slot ≠ a.slot)) = fun b => !decide (b.slot = a.slot) :=
    funext fun b => decide_not
  unfold State.attempted
  dsimp only
  rw [flip]
  exact filter_not_append _ _ _ (by simp)

theorem hello_answered {k : List Byte × Nat} {i : Nat} (h : helloFormed body) (hk : s.findKey (helloKey body) = some k)
    (hf : s.freeSlot = some i) :
    ∃ (a : Attempt) (sid : Nat) (msg : List Byte),
      exec (.hello q body t) s = .next ((s.silent.attempted a).sendHandshake q sid 2 msg)
        ∧ a.slot = i ∧ a.keyId = helloKey body ∧ a.port = q.port ∧ a.role = min (beAt body 0 1) k.2
          ∧ a.started = s.mono := by
  have eq : exec (.hello q body t) s = _ :=
    (if_neg (not_or.mpr ⟨hm, hp⟩)).trans (if_neg ((helloFormed_iff body).mpr h))
  rw [eq]
  have hk : s.silent.findKey (BitVec.ofNat 32 (beAt body 4 4)) = some k := hk
  have hf : s.silent.freeSlot = some i := hf
  revert hk hf
  generalize s.silent.findKey (BitVec.ofNat 32 (beAt body 4 4)) = o
  generalize s.silent.freeSlot = p
  rintro rfl rfl
  exact ⟨{ slot := i, gen := _, role := min (beAt body 0 1) k.2, keyId := helloKey body, port := q.port, hello := body,
           reply := _, secret := _, started := s.mono }, _, _, rfl, rfl, rfl, rfl, rfl, rfl⟩

end

/-! ## FINISH -/

theorem finish_off {sid : BitVec 16} {body : List Byte} (h : s.sys.mode = .boot ∨ s.portIp q.port = 0) :
    exec (.finish q sid body t) s = .next s.silent := if_pos h

/-- The attempt that a FINISH names. -/
def State.findAttempt (s : State) (q : Peer) (sid : BitVec 16) : Option Attempt :=
  s.cmd.attempts.find? fun a => decide (a.gen * 8 + a.slot = sid.toNat) && decide (a.port = (q.port : Nat))

/-- The state without the attempts of a slot. -/
def State.unattempted (s : State) (slot : Nat) : State :=
  { s with cmd := { s.cmd with attempts := s.cmd.attempts.filter fun b => decide (b.slot ≠ slot) } }

/-- What a FINISH of the attempt `a` does, after the slot's attempts are gone. -/
def State.finishTaken (s : State) (a : Attempt) (peer : Peer) (sid : BitVec 16) (body : List Byte) (t : Nat) :
    Host.Outcome State Fault Refusal :=
  if 500000 < s.mono - a.started then .next (s.sysReject t)
  else if body.length ≠ 3373 then .next (s.alert peer sid.toNat stBadParam a.keyId t)
  else match s.findKey a.keyId with
    | none => .next (s.alert peer sid.toNat stAuthFail a.keyId t)
    | some k => .next (if finishOk a k.1 body then s.openSess a peer else s.alert peer sid.toNat stAuthFail a.keyId t)

section
variable {sid : BitVec 16} {body : List Byte}

theorem State.unattempted_findKey (s : State) (slot : Nat) (id : Word) :
    (s.silent.unattempted slot).findKey id = s.findKey id := rfl

theorem finish_unknown (hm : s.sys.mode ≠ .boot) (hp : s.portIp q.port ≠ 0) (h : s.findAttempt q sid = none) :
    exec (.finish q sid body t) s = .next (s.silent.sysReject t) := by
  refine (if_neg (not_or.mpr ⟨hm, hp⟩)).trans ?_
  rw [show s.silent.cmd.attempts.find? _ = none from h]

theorem finish_named {a : Attempt} (hm : s.sys.mode ≠ .boot) (hp : s.portIp q.port ≠ 0)
    (h : s.findAttempt q sid = some a) :
    exec (.finish q sid body t) s = (s.silent.unattempted a.slot).finishTaken a q sid body t := by
  refine (if_neg (not_or.mpr ⟨hm, hp⟩)).trans ?_
  rw [show s.silent.cmd.attempts.find? _ = some a from h]
  rfl

variable {a : Attempt} {now : Nat} {key : Option (List Byte × Nat)}

theorem finishTaken_late (hn : s.mono = now) (h : 500000 < now - a.started) :
    s.finishTaken a q sid body t = .next (s.sysReject t) := if_pos (hn ▸ h)

theorem finishTaken_length (hn : s.mono = now) (h : ¬ 500000 < now - a.started) (hl : body.length ≠ 3373) :
    s.finishTaken a q sid body t = .next (s.alert q sid.toNat stBadParam a.keyId t) :=
  (if_neg (hn ▸ h)).trans (if_pos hl)

theorem finishTaken_bad (hn : s.mono = now) (h : ¬ 500000 < now - a.started) (hl : body.length = 3373)
    (hf : s.findKey a.keyId = key) (hk : ∀ k, key = some k → finishOk a k.1 body = false) :
    s.finishTaken a q sid body t = .next (s.alert q sid.toNat stAuthFail a.keyId t) := by
  refine (if_neg (hn ▸ h)).trans ((if_neg (Classical.not_not.mpr hl)).trans ?_)
  rw [hf]
  cases key with
  | none => rfl
  | some k => exact congrArg Host.Outcome.next (if_neg (ne_true_of_eq_false (hk k rfl)))

theorem finishTaken_good {k : List Byte × Nat} (hn : s.mono = now) (h : ¬ 500000 < now - a.started)
    (hl : body.length = 3373) (hf : s.findKey a.keyId = some k) (hk : finishOk a k.1 body = true) :
    s.finishTaken a q sid body t = .next (s.openSess a q) := by
  refine (if_neg (hn ▸ h)).trans ((if_neg (Classical.not_not.mpr hl)).trans ?_)
  rw [hf]
  exact congrArg Host.Outcome.next (if_pos hk)

end

theorem State.sendUdp_keeps (s : State) (p cls : Nat) (ip : Word) (sport dport : Nat) (b : List Byte) :
    (s.sendUdp p cls ip sport dport b).cmd = s.cmd ∧ (s.sendUdp p cls ip sport dport b).regs = s.regs := by
  unfold State.sendUdp
  dsimp only
  split <;> exact ⟨rfl, rfl⟩

/-- A packet out of a session whose counter has room changes nothing of the session but that counter. -/
theorem State.sendPacket_sess {i : Nat} (b : List Byte) (h : (s.sess i).txCtr < 2 ^ 64) :
    (s.sendPacket i b).sess i = { s.sess i with txCtr := (s.sess i).txCtr + 1 } ∧ (s.sendPacket i b).regs = s.regs := by
  unfold State.sendPacket
  dsimp only
  rw [if_neg (Nat.not_le.mpr h)]
  obtain ⟨cmd, regs⟩ := State.sendUdp_keeps (s.setSess i { s.sess i with txCtr := (s.sess i).txCtr + 1 }) (s.sess i).port 4
    (s.sess i).ip 51400 (s.sess i).sport (protectRec (s.sess i).keyOut 2 2 (s.sidOf i).toNat (s.sess i).txCtr b)
  refine ⟨?_, regs⟩
  unfold State.sess at cmd ⊢
  rw [cmd]
  exact Tab.get_put_same ..

theorem State.openSess_facts (s : State) (a : Attempt) (q : Peer) :
    ((s.openSess a q).sess a.slot).isOpen = true ∧ ((s.openSess a q).sess a.slot).role = a.role
      ∧ ((s.openSess a q).sess a.slot).gen = a.gen ∧ ((s.openSess a q).sess a.slot).keyId = a.keyId
      ∧ (s.openSess a q).regs = s.regs := by
  unfold State.openSess
  dsimp only
  generalize hx : ({ Sess.init with
    isOpen := true, gen := a.gen, role := a.role, keyId := a.keyId, port := q.port, ip := q.ip, sport := q.sport.toNat,
    keyIn := a.keys.take 32, keyOut := a.keys.drop 32, idleFrom := s.mono } : Sess) = x
  have same := s.setSess_sess a.slot x
  obtain ⟨sess, regs⟩ := State.sendPacket_sess (s := s.setSess a.slot x) (i := a.slot)
    (packet 1 stOk 0 (be 2 (a.gen * 8 + a.slot) ++ be 1 a.role
      ++ be 1 (W.SYS_CTL_IDLE_TO ((s.setSess a.slot x).word K.SYS_CTL)))) (by rw [same, ← hx]; exact (by decide : 1 < 2 ^ 64))
  rw [sess, same, regs, ← hx]
  exact ⟨rfl, rfl, rfl, rfl, rfl⟩

end

/-! ## Sessions' ends and discarded records -/

section
variable {s : State} {q : Peer} {rec : List Byte} {t : Tick}

theorem handshakeTimeout_eq (slot : Fin 8) : exec (.handshakeTimeout slot t) s = .next
    { s.silent with cmd := { s.cmd with
    attempts := s.cmd.attempts.filter fun a =>
      decide (a.slot ≠ (slot : Nat)) || decide (s.mono < a.started + 500000) } } := by
  have kept : (fun a : Attempt => !(decide (a.slot = (slot : Nat)) && decide (a.started + 500000 ≤ s.mono)))
      = fun a => decide (a.slot ≠ (slot : Nat)) || decide (s.mono < a.started + 500000) := by
    funext a
    rw [Bool.not_and, ← decide_not, ← decide_not]
    exact congrArg (_ || ·) (decide_eq_decide.mpr Nat.not_le)
  rw [← kept]
  rfl

theorem recordDiscarded_other (h : beAt rec 0 1 ≠ 1 ∨ beAt rec 1 1 ≠ 2) :
    exec (.recordDiscarded ⟨q, rec⟩ t) s = .next s.silent := if_pos h

variable (h0 : beAt rec 0 1 = 1) (h1 : beAt rec 1 1 = 2)
include h0 h1

theorem recordDiscarded_closed (h : s.openRecord rec = none) :
    exec (.recordDiscarded ⟨q, rec⟩ t) s = .next (s.silent.sysReject t) := by
  refine (if_neg (not_or.mpr ⟨Classical.not_not.mpr h0, Classical.not_not.mpr h1⟩)).trans ?_
  rw [show s.silent.openRecord rec = none from h]

/-- An accepted record whose sequence number is out of turn, or that comes while a reply is outstanding. -/
def State.recordOdd (s : State) (r : Req) : Prop :=
  (s.sess (r.sid.toNat % 8)).wait.isSome = true
    ∨ ((s.sess (r.sid.toNat % 8)).nextSeq r.seq = false ∧ (s.sess (r.sid.toNat % 8)).lastSeq ≠ some r.seq)

theorem recordDiscarded_odd {r : Req} {b : List Byte} (h : s.openRecord rec = some (r, b)) (ho : s.recordOdd r) :
    exec (.recordDiscarded ⟨q, rec⟩ t) s =
      .next ((s.silent.takeRecord { r with peer := q, tick := t }).sysReject t) := by
  refine (if_neg (not_or.mpr ⟨Classical.not_not.mpr h0, Classical.not_not.mpr h1⟩)).trans ?_
  rw [show s.silent.openRecord rec = some (r, b) from h]
  exact if_pos (ho.imp id fun ⟨hn, hl⟩ => ⟨bnot_of hn, hl⟩)

theorem recordDiscarded_taken {r : Req} {b : List Byte} (h : s.openRecord rec = some (r, b)) (ho : ¬ s.recordOdd r) :
    exec (.recordDiscarded ⟨q, rec⟩ t) s = .next s.silent := by
  refine (if_neg (not_or.mpr ⟨Classical.not_not.mpr h0, Classical.not_not.mpr h1⟩)).trans ?_
  rw [show s.silent.openRecord rec = some (r, b) from h]
  exact if_neg fun k => ho (k.imp id fun ⟨hn, hl⟩ => ⟨(Bool.not_eq_true' _).mp hn, hl⟩)

end

section
variable {s : State}

theorem sessionIdle_closes {slot : Fin 8} (h : s.sessIdle slot = true) :
    exec (.sessionIdleTimeout slot) s = .next (s.silent.closeSess slot) := congrArg Host.Outcome.next (if_pos h)

theorem sessionIdle_stays {slot : Fin 8} (h : s.sessIdle slot = false) :
    exec (.sessionIdleTimeout slot) s = .next s.silent := congrArg Host.Outcome.next (if_neg (ne_true_of_eq_false h))

theorem sessionClose_closes {r : Req} (h : s.Accepts r 0) : exec (.sessionClose r []) s =
    .next (((s.begun r).reply (reqSlot r) 0x0002 r.seq stOk []).closeSess (reqSlot r)) :=
  congrArg Host.Outcome.next (State.serve_accepted 0x0002 _ h)

/-- A session's end without its locks and its transaction: only its generation stays. -/
def State.sessGone (s : State) (i : Nat) : State :=
  let s := s.setSess i { Sess.init with gen := (s.sess i).gen }
  { s with pairOps := { s.pairOps with unacked := s.pairOps.unacked.filter fun u => decide (u.1 ≠ i) } }

theorem State.sessGone_isOpen (s : State) (i : Nat) : ((s.sessGone i).sess i).isOpen = false :=
  congrArg Sess.isOpen (s.setSess_sess i { Sess.init with gen := (s.sess i).gen })

theorem State.closeSess_open (s : State) (i : Nat) (h : (s.sess i).isOpen = true) :
    ∃ u : State, s.closeSess i = u.sessGone i := ⟨_, if_neg (not_bnot h)⟩

theorem State.closeSess_isOpen (s : State) (i : Nat) : ((s.closeSess i).sess i).isOpen = false := by
  cases h : (s.sess i).isOpen with
  | false => exact (congrArg (fun u : State => (u.sess i).isOpen) (if_pos (bnot_of h))).trans h
  | true =>
    obtain ⟨u, eq⟩ := s.closeSess_open i h
    rw [eq]
    exact u.sessGone_isOpen i

end

/-- Settles O35: each row is an equation, by the form, the key and the slot of a HELLO, by the attempt that a FINISH
names, and by the record that opens. -/
theorem sessionsOpenAndClose : Obligations.SessionsOpenAndClose := by
  refine ⟨fun s q t body => ⟨fun hm hp => ⟨fun k i hb hk hf => ?_, fun k => hello_busy hm hp, hello_unknown hm hp,
    hello_malformed hm hp⟩, hello_off⟩, fun s q t sid body => ⟨fun hm hp => ⟨fun a ha => ?_, finish_unknown hm hp⟩,
    finish_off⟩, fun s slot t => handshakeTimeout_eq slot, fun s q rec t => ⟨fun h0 h1 => ⟨recordDiscarded_closed h0 h1,
    fun r b h => ⟨recordDiscarded_odd h0 h1 h, recordDiscarded_taken h0 h1 h⟩⟩, recordDiscarded_other⟩,
    fun s slot => ⟨sessionIdle_closes, sessionIdle_stays⟩, fun s r => sessionClose_closes, State.closeSess_isOpen⟩
  · obtain ⟨a, sid, msg, eq, rfl, key, port, role, started⟩ := hello_answered (t := t) hm hp hb hk hf
    exact ⟨s.silent.attempted a, sid, msg, eq, ⟨a, s.silent.attempted_filter a, key, port, role, started⟩, rfl, rfl⟩
  · rw [finish_named hm hp ha]
    refine ⟨finishTaken_late (now := s.mono) rfl, finishTaken_length (now := s.mono) rfl, fun hl hb =>
      finishTaken_bad (now := s.mono) rfl hl hb (s.unattempted_findKey ..), fun k hl hb hk ho => ?_⟩
    obtain ⟨isOpen, role, gen, key, regs⟩ := (s.silent.unattempted a.slot).openSess_facts a q
    exact ⟨_, finishTaken_good (now := s.mono) rfl hl hb ((s.unattempted_findKey ..).trans hk) ho, isOpen, role, gen,
      key, regs⟩

/-! ## A request that is executed, by what its effect answers -/

section
variable {s t : State} {r : Req} {m op : Nat} {c : Instr} {f : State → Nat → Answer}

theorem exec_done {status : Nat} {payload : List Byte} (h : s.Accepts r m)
    (hc : exec c s = .next (s.silent.serve r op m f))
    (hf : f (s.begun r) (reqSlot r) = .done t status payload) :
    exec c s = .next (t.reply (reqSlot r) op r.seq status payload) := by
  rw [hc, State.serve_accepted op f h, hf]

theorem exec_refuse {e : Refuse} (h : s.Accepts r m) (hc : exec c s = .next (s.silent.serve r op m f))
    (hf : f (s.begun r) (reqSlot r) = .refuse e) :
    exec c s = .next ((s.begun r).reply (reqSlot r) op r.seq e.status ((s.begun r).detail e)) := by
  rw [hc, State.serve_accepted op f h, hf]

theorem exec_later {w : Wait} (h : s.Accepts r m) (hc : exec c s = .next (s.silent.serve r op m f))
    (hf : f (s.begun r) (reqSlot r) = .later t w) :
    exec c s = .next (t.setSess (reqSlot r) { t.sess (reqSlot r) with wait := some (op, r.seq, w) }) := by
  rw [hc, State.serve_accepted op f h, hf]

end

/-! ## The configuration lock -/

section
variable {s : State} {r : Req}

/-- A lease from the next boundary at or after tick `t`. -/
def leaseFrom (r : Req) : Nat := 1000000 + b2n (decide (0 < r.tick.val))

/-- A transaction of session `i` with nothing staged. -/
def State.freshTxn (s : State) (r : Req) (i : Nat) : Txn :=
  { slot := i, gen := (s.sess i).gen, number := (s.cmd.txnCount + 1) % 65536, leaseEnd := s.mono + leaseFrom r,
    staged := [], due := none, implicit := false }

theorem txnBegin_opens (h : s.Accepts r 1) (hl : (s.begun r).lockedOut (reqSlot r) = false)
    (ho : (s.begun r).owns (reqSlot r) = false) :
    exec (.txnBegin r []) s = .next (({ s.begun r with cmd := { (s.begun r).cmd with
      txn := some ((s.begun r).freshTxn r (reqSlot r)), txnCount := ((s.begun r).cmd.txnCount + 1) % 65536 } }).reply
        (reqSlot r) 0x0014 r.seq stOk (be 2 (((s.begun r).cmd.txnCount + 1) % 65536) ++ be 2 100)) := by
  refine exec_done h rfl ?_
  unfold State.freshTxn leaseFrom
  rw [← Nat.add_assoc]
  exact (if_pos rfl).trans ((if_neg (ne_true_of_eq_false hl)).trans (if_neg (ne_true_of_eq_false ho)))

theorem txnBegin_locked (h : s.Accepts r 1) (hl : (s.begun r).lockedOut (reqSlot r) = true) :
    exec (.txnBegin r []) s = .next ((s.begun r).reply (reqSlot r) 0x0014 r.seq stLocked
      ((s.begun r).detail (Refuse.at stLocked 0))) :=
  exec_refuse h rfl ((if_pos rfl).trans (if_pos hl))

theorem State.lockedOut_of_owns {i : Nat} (h : s.owns i = true) : s.lockedOut i = false := by
  unfold State.lockedOut
  rw [h, Bool.not_true, Bool.and_false]

theorem txnBegin_held (h : s.Accepts r 1) (ho : (s.begun r).owns (reqSlot r) = true) :
    exec (.txnBegin r []) s = .next ((s.begun r).reply (reqSlot r) 0x0014 r.seq stNotInState
      ((s.begun r).detail (Refuse.at stNotInState 0))) :=
  exec_refuse h rfl ((if_pos rfl).trans
    ((if_neg (ne_true_of_eq_false (State.lockedOut_of_owns ho))).trans (if_pos ho)))

/-- The owner of an open transaction without a pending commit lacks nothing. -/
theorem State.needsTxn_none {i : Nat} {x : Txn} (hx : s.cmd.txn = some x) (ho : s.owns i = true) (hd : x.due = none) :
    s.needsTxn i = none := by
  unfold State.needsTxn
  rw [hx]
  exact (if_neg (not_bnot ho)).trans (if_neg (by rw [hd]; decide))

section
variable {x : Txn} (h : s.Accepts r 1) (hx : (s.begun r).cmd.txn = some x)
  (ho : (s.begun r).owns (reqSlot r) = true) (hd : x.due = none)
include h hx ho hd

theorem txnAbort_drops : exec (.txnAbort r []) s =
    .next (({ s.begun r with cmd := { (s.begun r).cmd with txn := none } }).reply (reqSlot r) 0x0016 r.seq stOk []) := by
  refine exec_done h rfl ((if_pos rfl).trans ?_)
  rw [State.needsTxn_none hx ho hd]

theorem lockRenew_extends : exec (.lockRenew r []) s =
    .next (((s.begun r).putTxn { x with leaseEnd := (s.begun r).mono + leaseFrom r }).reply (reqSlot r) 0x0017 r.seq stOk
      (be 2 100)) := by
  refine exec_done h rfl ((if_pos rfl).trans ?_)
  rw [hx]
  refine (if_neg (not_bnot ho)).trans ?_
  rw [hd]
  rfl

/-- A word that PAGE_STAGE takes. -/
def State.stageable (s : State) (i page : Nat) (q : Nat × Word) : Prop :=
  (wordOk page q.1 q.2).2 = true ∧ s.wordBad i page q.1 q.2 = false ∧
    ∀ row, wordRow page q.1 = some row → row.acc = .rw ∨ (row.acc = .wo ∧ row.term = .commit)

/-- A word that PAGE_STAGE refuses. -/
def State.stageBad (s : State) (i page : Nat) (q : Nat × Word) : Bool :=
  !(wordOk page q.1 q.2).2 || s.wordBad i page q.1 q.2
    || (match wordRow page q.1 with
      | some w => !decide (w.acc = .rw) && !decide (w.acc = .wo ∧ w.term = .commit)
      | none => false)

omit h hx ho hd in
theorem State.stageBad_of_stageable {i page : Nat} {q : Nat × Word} (hq : s.stageable i page q) :
    s.stageBad i page q = false := by
  obtain ⟨ok, good, row⟩ := hq
  unfold State.stageBad
  rw [ok, good]
  cases hw : wordRow page q.1 with
  | none => rfl
  | some w => rcases row w hw with e | e <;> simp [e]

/-- The staged words of the owner with those of a page in their place. -/
def State.staging (s : State) (i page : Nat) (x : Txn) (ws : List (Nat × Word)) : List (Nat × Word) :=
  restage x.staged ((liveWords page ws).map fun q => (s.bindKey i page q.1, q.2.1))

theorem pageStage_stages {p : List Byte} {ws : List (Nat × Word)} (hw : pageWordsOf p = some ws)
    (hp : pageExists (beAt p 0 2) = true) (hf : (s.begun r).follows = false ∨ beAt p 0 2 ∉ replicatedPages)
    (good : ∀ q ∈ ws, (s.begun r).stageable (reqSlot r) (beAt p 0 2) q)
    (room : ((s.begun r).staging (reqSlot r) (beAt p 0 2) x ws).length ≤ 4096) :
    exec (.pageStage r p) s = .next (((s.begun r).putTxn { x with
      staged := (s.begun r).staging (reqSlot r) (beAt p 0 2) x ws }).reply (reqSlot r) 0x0012 r.seq stOk []) := by
  have none_bad : ws.find? ((s.begun r).stageBad (reqSlot r) (beAt p 0 2)) = none :=
    List.find?_eq_none.mpr fun q hq => ne_true_of_eq_false (State.stageBad_of_stageable (good q hq))
  refine exec_done h rfl ((if_neg fun k => not_bnot hp k.2).trans ?_)
  rw [hw]
  dsimp only
  split
  next q hq => exact nomatch hq.symm.trans none_bad
  next =>
    refine (if_neg fun k => hf.elim (fun e => ne_true_of_eq_false e k.1) (· k.2)).trans ?_
    rw [State.needsTxn_none hx ho hd, hx]
    exact if_neg (Nat.not_lt.mpr room)

theorem txnCommit_pends {p : List Byte} {due : Nat} (hl : p.length = 8) (h0 : beAt p 0 1 ≤ 1) (h1 : beAt p 1 1 = 0)
    (hdue : (s.begun r).commitDue x.staged p r.tick = some due) (hb : (s.begun r).commitBad x.staged = none)
    (hs : (s.begun r).commitState x.staged = none) (hk : (s.begun r).commitLock x.staged = none) :
    exec (.txnCommit r p) s = .next
      (((s.begun r).startCommit (reqSlot r) { x with leaseEnd := x.leaseEnd - (s.begun r).mono } due).setSess (reqSlot r)
        { ((s.begun r).startCommit (reqSlot r) { x with leaseEnd := x.leaseEnd - (s.begun r).mono } due).sess (reqSlot r)
          with wait := some (0x0015, r.seq, .commit) }) := by
  refine exec_later h rfl ((if_neg (Classical.not_not.mpr hl)).trans ?_)
  rw [hx]
  refine (if_neg (not_bnot ho)).trans ((if_neg (by rw [hd]; decide)).trans ?_)
  have form : (if 1 < beAt p 0 1 then some (Refuse.at stBadParam 0)
      else if beAt p 1 1 ≠ 0 then some (Refuse.at stBadParam 1) else none) = none :=
    (if_neg (Nat.not_lt.mpr h0)).trans (if_neg (Classical.not_not.mpr h1))
  rw [form, hdue, hb, hs, hk]
  rfl

end

/-! ## Leases and pending commits -/

/-- The state after a commit's words, with the lock free and the reply sent. -/
def State.committed (s : State) (x : Txn) (due : Nat) : State :=
  let v := s.commitWords x.staged x.slot (BitVec.ofNat 16 (x.gen * 8 + x.slot))
  ({ v with cmd := { v.cmd with txn := none } }).replyTo x.slot .commit stOk
    (be 6 ((v.cycle.toNat - (v.mono - due)) % 2 ^ 48))

theorem commitEffect_due {x : Txn} {due : Nat} (hx : s.cmd.txn = some x) (hd : x.due = some due) (hm : due ≤ s.mono) :
    exec .commitTakesEffect s = .next (s.silent.committed x due) := by
  show execCommitTakesEffect s = _
  unfold execCommitTakesEffect
  dsimp only
  rw [show s.silent.cmd.txn = some x from hx]
  dsimp only
  rw [hd]
  exact if_neg (Nat.not_lt.mpr hm)

theorem commitEffect_waits {x : Txn} (hx : s.cmd.txn = some x) (hd : ∀ due, x.due = some due → s.mono < due) :
    exec .commitTakesEffect s = .next s.silent := by
  show execCommitTakesEffect s = _
  unfold execCommitTakesEffect
  dsimp only
  rw [show s.silent.cmd.txn = some x from hx]
  dsimp only
  cases h : x.due with
  | none => rfl
  | some due => exact if_pos (hd due h)

theorem leaseTimeout_drops {x : Txn} (hx : s.cmd.txn = some x) (hd : x.due = none) (hl : x.leaseEnd ≤ s.mono) :
    ∃ t, exec .leaseTimeout s = .next t ∧ t.cmd.txn = none ∧ t.regs = s.regs ∧ t.cycle = s.cycle := by
  refine ⟨({ s.silent with cmd := { s.cmd with txn := none } }).raise 0x0002 0 (BitVec.ofNat 32 (x.gen * 8 + x.slot)) 0,
    ?_, ?_, ?_, ?_⟩
  · show execLeaseTimeout s = _
    unfold execLeaseTimeout State.dropTxn
    dsimp only
    rw [show s.silent.cmd.txn = some x from hx]
    exact congrArg Host.Outcome.next (if_pos ⟨by rw [hd]; rfl, hl⟩)
  · rw [State.raise_cmd]
  · rw [State.raise_regs]
    rfl
  · rw [State.raise_cycle]
    rfl

theorem leaseTimeout_stays {x : Txn} (hx : s.cmd.txn = some x) (h : x.due ≠ none ∨ s.mono < x.leaseEnd) :
    exec .leaseTimeout s = .next s.silent := by
  show execLeaseTimeout s = _
  unfold execLeaseTimeout
  dsimp only
  rw [show s.silent.cmd.txn = some x from hx]
  refine congrArg Host.Outcome.next (if_neg fun ⟨hn, hl⟩ => ?_)
  exact h.elim (fun k => k (Option.isNone_iff_eq_none.mp hn)) fun k => absurd hl (Nat.not_le.mpr k)

theorem noTxn_effects (hx : s.cmd.txn = none) :
    exec .commitTakesEffect s = .next s.silent ∧ exec .leaseTimeout s = .next s.silent := by
  constructor
  · show execCommitTakesEffect s = _
    unfold execCommitTakesEffect
    dsimp only
    rw [show s.silent.cmd.txn = none from hx]
  · show execLeaseTimeout s = _
    unfold execLeaseTimeout
    dsimp only
    rw [show s.silent.cmd.txn = none from hx]

end

/-- Settles O36: an accepted request reaches its effect, and each row is the branch that its hypotheses choose. -/
theorem transactionsStageAndCommit : Obligations.TransactionsStageAndCommit :=
  ⟨fun _ _ h => ⟨txnBegin_opens h, txnBegin_locked h, txnBegin_held h, fun _ hx ho hd => ⟨txnAbort_drops h hx ho hd,
      lockRenew_extends h hx ho hd, fun _ _ => pageStage_stages h hx ho hd, fun _ _ => txnCommit_pends h hx ho hd⟩⟩,
    fun _ _ hx => ⟨fun _ => commitEffect_due hx, commitEffect_waits hx, leaseTimeout_drops hx, leaseTimeout_stays hx⟩,
    fun _ => noTxn_effects⟩

/-! ## Reading and writing pages -/

section
variable {s : State} {r : Req} {p : List Byte}

/-- The number of words that the parameters of a page command ask for. -/
def wordCount (p : List Byte) : Nat := if beAt p 3 1 = 0 then 256 else beAt p 3 1

theorem pageGet_reads (h : s.Accepts r 0) (hp : pageExists (beAt p 0 2) = true) (hl : p.length = 4)
    (hr : beAt p 2 1 + wordCount p ≤ 256) : exec (.pageGet r p) s =
      .next (((s.begun r).readEffects (reqSlot r) (beAt p 0 2) (beAt p 2 1) (beAt p 2 1 + wordCount p)).drawn.reply
        (reqSlot r) 0x0010 r.seq stOk (p ++ (List.range (wordCount p)).flatMap fun o =>
          wordBytes ((s.begun r).readWord (reqSlot r) (beAt p 0 2) (beAt p 2 1 + o)))) :=
  exec_done h rfl ((if_neg fun k => not_bnot hp k.2).trans
    (if_neg (not_or.mpr ⟨Classical.not_not.mpr hl, Nat.not_lt.mpr hr⟩)))

theorem pageGet_range (h : s.Accepts r 0) (hp : pageExists (beAt p 0 2) = true)
    (hr : p.length ≠ 4 ∨ 256 < beAt p 2 1 + wordCount p) : exec (.pageGet r p) s =
      .next ((s.begun r).reply (reqSlot r) 0x0010 r.seq stBadParam ((s.begun r).detail (Refuse.at stBadParam 3))) :=
  exec_refuse h rfl ((if_neg fun k => not_bnot hp k.2).trans (if_pos hr))

theorem pageGet_missing (h : s.Accepts r 0) (hl : 2 ≤ p.length) (hp : pageExists (beAt p 0 2) = false) :
    exec (.pageGet r p) s = .next ((s.begun r).reply (reqSlot r) 0x0010 r.seq stBadPage
      ((s.begun r).detail { status := stBadPage, page := beAt p 0 2, place := 0, check := 0 })) :=
  exec_refuse h rfl (if_pos ⟨hl, bnot_of hp⟩)

theorem pageSet_missing (h : s.Accepts r 1) (hl : 2 ≤ p.length) (hp : pageExists (beAt p 0 2) = false) :
    exec (.pageSet r p) s = .next ((s.begun r).reply (reqSlot r) 0x0011 r.seq stBadPage
      ((s.begun r).detail { status := stBadPage, page := beAt p 0 2, place := 0, check := 0 })) :=
  exec_refuse h rfl (if_pos ⟨hl, bnot_of hp⟩)

theorem pageSet_range (h : s.Accepts r 1) (hp : pageExists (beAt p 0 2) = true) (hw : pageWordsOf p = none) :
    exec (.pageSet r p) s = .next ((s.begun r).reply (reqSlot r) 0x0011 r.seq stBadParam
      ((s.begun r).detail (Refuse.at stBadParam 3))) := by
  refine exec_refuse (e := Refuse.at stBadParam 3) h rfl ((if_neg fun k => not_bnot hp k.2).trans ?_)
  rw [hw]
  rfl

end

/-! ## A write of several words -/

section
variable {s : State} {i page t : Nat} {ws : List (Nat × Word)}

/-- The words of a write as it would stage them. -/
def State.boundWords (s : State) (i page : Nat) (ws : List (Nat × Word)) : List (Nat × Word) :=
  (liveWords page ws).map fun q => (s.bindKey i page q.1, q.2.1)

/-- Every word of the write, and there is one, takes effect by commit. -/
def commitWrite (page : Nat) (ws : List (Nat × Word)) : Bool :=
  decide (liveWords page ws ≠ []) && (liveWords page ws).all fun p => decide (p.2.2.term = .commit)

theorem commitWrite_true (h : liveWords page ws ≠ []) (ht : ∀ q ∈ liveWords page ws, q.2.2.term = .commit) :
    commitWrite page ws = true :=
  Bool.and_eq_true _ _ ▸ ⟨decide_eq_true h, List.all_eq_true.mpr fun q hq => decide_eq_true (ht q hq)⟩

theorem commitWrite_false (h : liveWords page ws = [] ∨ ∃ q ∈ liveWords page ws, q.2.2.term ≠ .commit) :
    commitWrite page ws = false := by
  refine Bool.eq_false_iff.mpr fun k => ?_
  obtain ⟨hn, ha⟩ := (Bool.and_eq_true _ _).mp k
  rcases h with e | ⟨q, hq, ht⟩
  · exact of_decide_eq_true hn e
  · exact ht (of_decide_eq_true (List.all_eq_true.mp ha q hq))

/-- The state in which the words of a write have been put in turn. -/
def State.wordsPut (s : State) (i page : Nat) (ws : List (Nat × Word)) (t : Nat) : State :=
  let v := (liveWords page ws).foldl (fun (v : State) (q : Nat × Word × WordRow) => v.putWord i page q.1 q.2.1 q.2.2 t)
    (s.putWindow i (ws.filter fun q => decide (page = 13 ∧ 0xC0 ≤ q.1)))
  if v.pairOps.recSeq = s.pairOps.recSeq then v else v.awaitAck i

theorem State.write_puts (hp : pageExists page = true) (hc : commitWrite page ws = false)
    (free : s.writeRefuse i page ws false (s.boundWords i page ws) = none)
    (hn : ∀ q ∈ liveWords page ws, key page q.1 = K.TIME_SNAP → bit q.2.1 0 = false) :
    s.write i page ws t = .done (s.wordsPut i page ws t) stOk [] := by
  have snap : ((liveWords page ws).any fun p => decide (key page p.1 = K.TIME_SNAP) && bit p.2.1 0) = false := by
    refine List.any_eq_false.mpr fun q hq k => ?_
    obtain ⟨hk, hb⟩ := (Bool.and_eq_true _ _).mp k
    exact ne_true_of_eq_false (hn q hq (of_decide_eq_true hk)) hb
  unfold commitWrite at hc
  unfold State.boundWords at free
  unfold State.write
  refine (if_neg (not_bnot hp)).trans ?_
  dsimp only
  rw [hc, free]
  dsimp only
  rw [if_neg Bool.false_ne_true, snap, if_neg Bool.false_ne_true]
  rfl

/-- The transaction of one write of commit words. -/
def State.ownTxn (s : State) (i page : Nat) (ws : List (Nat × Word)) : Txn :=
  { slot := i, gen := (s.sess i).gen, number := s.cmd.txnCount, leaseEnd := 1000000, staged := s.boundWords i page ws,
    due := none, implicit := true }

theorem State.write_commits (hp : pageExists page = true) (hc : commitWrite page ws = true)
    (free : s.writeRefuse i page ws true (s.boundWords i page ws) = none) :
    s.write i page ws t =
      .later (s.startCommit i (s.ownTxn i page ws) (s.earliest (s.boundWords i page ws) t)) .commit := by
  unfold commitWrite at hc
  unfold State.boundWords at free
  unfold State.write
  refine (if_neg (not_bnot hp)).trans ?_
  dsimp only
  rw [hc, free]
  rfl

variable {r : Req} {p : List Byte}

theorem pageSet_puts (h : s.Accepts r 1) (hp : pageExists (beAt p 0 2) = true) (hw : pageWordsOf p = some ws)
    (hc : commitWrite (beAt p 0 2) ws = false)
    (free : (s.begun r).writeRefuse (reqSlot r) (beAt p 0 2) ws false
      ((s.begun r).boundWords (reqSlot r) (beAt p 0 2) ws) = none)
    (hn : ∀ q ∈ liveWords (beAt p 0 2) ws, key (beAt p 0 2) q.1 = K.TIME_SNAP → bit q.2.1 0 = false) :
    exec (.pageSet r p) s =
      .next (((s.begun r).wordsPut (reqSlot r) (beAt p 0 2) ws r.tick).reply (reqSlot r) 0x0011 r.seq stOk []) := by
  refine exec_done h rfl ((if_neg fun k => not_bnot hp k.2).trans ?_)
  rw [hw]
  exact State.write_puts hp hc free hn

theorem pageSet_commits (h : s.Accepts r 1) (hp : pageExists (beAt p 0 2) = true) (hw : pageWordsOf p = some ws)
    (hc : commitWrite (beAt p 0 2) ws = true)
    (free : (s.begun r).writeRefuse (reqSlot r) (beAt p 0 2) ws true
      ((s.begun r).boundWords (reqSlot r) (beAt p 0 2) ws) = none) :
    exec (.pageSet r p) s =
      (let v := (s.begun r).startCommit (reqSlot r) ((s.begun r).ownTxn (reqSlot r) (beAt p 0 2) ws)
        ((s.begun r).earliest ((s.begun r).boundWords (reqSlot r) (beAt p 0 2) ws) r.tick)
       .next (v.setSess (reqSlot r) { v.sess (reqSlot r) with wait := some (0x0011, r.seq, .commit) })) := by
  refine exec_later h rfl ((if_neg fun k => not_bnot hp k.2).trans ?_)
  rw [hw]
  exact State.write_commits hp hc free

/-! ## The window -/

/-- Words of the window from word `k`. -/
def windowWords (k : Nat) (ws : List Word) : List (Nat × Word) :=
  (List.range ws.length).map fun n => (0xC0 + k + n, (ws[n]?).getD 0)

theorem windowWords_offset {k : Nat} {ws : List Word} {q : Nat × Word} (hl : k + ws.length ≤ 64)
    (hq : q ∈ windowWords k ws) : 0xC0 ≤ q.1 ∧ q.1 - 0xC0 < 64 := by
  obtain ⟨n, hn, rfl⟩ := List.mem_map.mp hq
  have := List.mem_range.mp hn
  dsimp only
  omega

/-- A window word has a row that is no commit word's. -/
theorem windowRow_term : ∀ n : Fin 64, ((wordRow 13 (0xC0 + n)).map WordRow.term).all
    (fun t => decide (t ≠ .commit)) = true := by
  decide

theorem mem_liveWords {q : Nat × Word × WordRow} (h : q ∈ liveWords page ws) :
    ∃ p ∈ ws, q.1 = p.1 ∧ wordRow page p.1 = some q.2.2 := by
  obtain ⟨p, hp, hq⟩ := List.mem_filterMap.mp h
  obtain ⟨row, hr, rfl⟩ := Option.map_eq_some_iff.mp hq
  exact ⟨p, hp, rfl, hr⟩

theorem windowWords_commit {k : Nat} {ws : List Word} (hl : k + ws.length ≤ 64) :
    commitWrite 13 (windowWords k ws) = false := by
  refine commitWrite_false ?_
  by_cases he : liveWords 13 (windowWords k ws) = []
  · exact .inl he
  · obtain ⟨q, hq⟩ := List.exists_mem_of_ne_nil _ he
    refine .inr ⟨q, hq, ?_⟩
    obtain ⟨p, hp, -, hr⟩ := mem_liveWords hq
    obtain ⟨lo, hi⟩ := windowWords_offset hl hp
    have term := windowRow_term ⟨p.1 - 0xC0, hi⟩
    rw [show 0xC0 + (p.1 - 0xC0) = p.1 by omega, hr] at term
    exact of_decide_eq_true term

theorem sessionWord_far {k : Nat} (h : 0x1000 ≤ k) : sessionWord k = false := by
  unfold sessionWord
  simp only [Bool.or_eq_false_iff, decide_eq_false_iff_not, List.mem_cons, List.not_mem_nil, or_false, K.LOOP_SEL,
    K.SUP_SEL,
    K.FLT_RSEL, K.CAN_RXSEL, K.INK_WBASE]
  omega

/-- A window word is written by the window, not one by one. -/
theorem State.putWord_window {off : Nat} (w : Word) (row : WordRow) (h : 0xC0 ≤ off) :
    s.putWord i 13 off w row t = s := by
  have key : s.bindKey i 13 off = winKey ((s.sess i).inkBase.toNat + 4 * (off - 0xC0)) := by
    unfold State.bindKey
    exact (if_neg fun e => absurd e.1 (by decide)).trans (if_pos ⟨rfl, h⟩)
  unfold State.putWord
  dsimp only
  rw [key, sessionWord_far (by unfold winKey; omega), if_neg Bool.false_ne_true]
  exact if_pos ⟨rfl, h⟩

theorem State.foldl_putWord_window {l : List (Nat × Word × WordRow)} (h : ∀ q ∈ l, 0xC0 ≤ q.1) :
    l.foldl (fun (v : State) (q : Nat × Word × WordRow) => v.putWord i 13 q.1 q.2.1 q.2.2 t) s = s := by
  induction l with
  | nil => rfl
  | cons q l ih =>
    rw [List.foldl_cons, State.putWord_window _ _ (h q List.mem_cons_self)]
    exact ih fun p hp => h p (List.mem_cons_of_mem _ hp)

theorem State.putWindow_pairOps (s : State) (i : Nat) (ws : List (Nat × Word)) :
    (s.putWindow i ws).pairOps = s.pairOps := by
  unfold State.putWindow
  split <;> rfl

theorem State.wordsPut_window {k : Nat} {ws : List Word} (hl : k + ws.length ≤ 64) :
    s.wordsPut i 13 (windowWords k ws) t = s.putWindow i (windowWords k ws) := by
  have all : (windowWords k ws).filter (fun q => decide (13 = 13 ∧ 0xC0 ≤ q.1)) = windowWords k ws :=
    List.filter_eq_self.mpr fun q hq => decide_eq_true ⟨rfl, (windowWords_offset hl hq).1⟩
  unfold State.wordsPut
  rw [all, State.foldl_putWord_window fun q hq => by
    obtain ⟨p, hp, e, -⟩ := mem_liveWords hq
    rw [e]
    exact (windowWords_offset hl hp).1]
  exact if_pos (congrArg PairOps.recSeq (s.putWindow_pairOps i _))

theorem inkWinWrite_writes {k : Fin 64} {ws : List Word} (h : s.Accepts r 1) (he : ws ≠ [])
    (hl : (k : Nat) + ws.length ≤ 64)
    (free : (s.begun r).writeRefuse (reqSlot r) 13 (windowWords k ws) false
      ((s.begun r).boundWords (reqSlot r) 13 (windowWords k ws)) = none) :
    exec (.inkWinWrite r k ws) s =
      .next (((s.begun r).putWindow (reqSlot r) (windowWords k ws)).reply (reqSlot r) 0x0011 r.seq stOk []) := by
  refine exec_done h rfl ((if_neg (not_or.mpr ⟨he, Nat.not_lt.mpr hl⟩)).trans ?_)
  rw [← State.wordsPut_window (t := r.tick) hl]
  refine State.write_puts (by decide) (windowWords_commit hl) free fun q hq hk => ?_
  obtain ⟨p, hp, e, -⟩ := mem_liveWords hq
  have := (windowWords_offset hl hp).1
  rw [← e] at this
  unfold key K.TIME_SNAP at hk
  omega

theorem inkWinWrite_range {k : Fin 64} {ws : List Word} (h : s.Accepts r 1)
    (hl : ws = [] ∨ 64 < (k : Nat) + ws.length) :
    exec (.inkWinWrite r k ws) s = .next ((s.begun r).reply (reqSlot r) 0x0011 r.seq stBadParam
      ((s.begun r).detail (Refuse.at stBadParam 3))) := exec_refuse h rfl (if_pos hl)

end

/-- Settles O37: each row is the branch of the read or the write that its hypotheses choose, and a window word put alone
changes nothing. -/
theorem pagesAreReadAndWritten : Obligations.PagesAreReadAndWritten :=
  fun _ _ => ⟨fun h _ => ⟨pageGet_reads h, pageGet_range h, pageGet_missing h⟩,
    fun h _ => ⟨pageSet_missing h, pageSet_range h, fun _ hp hw =>
      ⟨fun hc => pageSet_puts h hp hw (commitWrite_false hc),
        fun hl hc => pageSet_commits h hp hw (commitWrite_true hl hc)⟩⟩,
    fun h _ _ => ⟨inkWinWrite_writes h, inkWinWrite_range h⟩⟩

end Sys2Proof.Machine
end


section
/-! PROOFS. Modes, fault resets, cells, loops and the pair's commands: O38, O39, O40. -/

namespace Sys2Proof.Machine

open Sys2Proof.Machine

/-! ## What an answered fault reset leaves alone -/

/-- `t` keeps the fault resets that wait, the cycle and every word of `s`. -/
structure State.KeepsResets (s t : State) : Prop where
  resets : t.evt.resets = s.evt.resets
  cycle : t.cycle = s.cycle
  regs : t.regs = s.regs

namespace State.KeepsResets

variable {s t u : State}

theorem refl (s : State) : s.KeepsResets s := ⟨rfl, rfl, rfl⟩

theorem trans (h : s.KeepsResets t) (k : t.KeepsResets u) : s.KeepsResets u :=
  ⟨k.resets.trans h.resets, k.cycle.trans h.cycle, k.regs.trans h.regs⟩

theorem ite {c : Prop} [Decidable c] (ht : s.KeepsResets t) (hu : s.KeepsResets u) :
    s.KeepsResets (if c then t else u) := by
  split
  · exact ht
  · exact hu

theorem foldl {α : Type} {f : State → α → State} (h : ∀ (s : State) (x : α), s.KeepsResets (f s x)) (l : List α)
    (s : State) : s.KeepsResets (l.foldl f s) := by
  induction l generalizing s with
  | nil => exact refl s
  | cons x l ih => exact (h s x).trans (ih _)

theorem of_net (h : s.NetOnly t) : s.KeepsResets t := by
  rw [h]
  exact ⟨rfl, rfl, rfl⟩

end State.KeepsResets

section
variable (s : State)

theorem State.enqueue_resets (code kind inst : Nat) (detail : Word) (t : Nat) :
    s.KeepsResets (s.enqueue code kind inst detail t) := .ite ⟨rfl, rfl, rfl⟩ ⟨rfl, rfl, rfl⟩

theorem State.capture_resets (code inst : Nat) (detail : Word) (t : Nat) :
    s.KeepsResets (s.capture code inst detail t) := .ite (.refl s) ⟨rfl, rfl, rfl⟩

theorem State.blotTriggered_resets (row : Option (Nat × BitVec 64)) :
    s.KeepsResets { s with ink := { s.ink with blot := { s.ink.blot with st := 3, trig := row } } } := ⟨rfl, rfl, rfl⟩

theorem State.blotTrigger_resets (row t : Nat) : s.KeepsResets (s.blotTrigger row t) := by
  unfold State.blotTrigger
  exact .ite (.refl s) ((s.blotTriggered_resets _).trans (State.enqueue_resets ..))

theorem State.blotEvent_resets (code t : Nat) : s.KeepsResets (s.blotEvent code t) :=
  .ite (s.blotTrigger_resets _ t) (.refl s)

theorem State.withActive_resets (l : List ActEv) : s.KeepsResets { s with evt := { s.evt with active := l } } :=
  ⟨rfl, rfl, rfl⟩

theorem State.raise_resets (code inst : Nat) (detail : Word) (t : Nat) (h : quietCode code = true) :
    s.KeepsResets (s.raise code inst detail t) := by
  unfold State.raise State.raiseB
  simp only [State.react_quiet _ _ _ _ _ h, ite_self]
  refine .ite ((s.enqueue_resets ..).trans (State.blotEvent_resets ..)) (.ite (s.withActive_resets _) ?_)
  refine .trans (.trans (.trans ?_ (State.enqueue_resets ..)) (State.capture_resets ..)) (State.blotEvent_resets ..)
  exact s.withActive_resets _

theorem State.setSess_resets (i : Nat) (x : Sess) : s.KeepsResets (s.setSess i x) := ⟨rfl, rfl, rfl⟩

theorem State.sendUdp_resets (p cls : Nat) (ip : Word) (sport dport : Nat) (b : List Byte) :
    s.KeepsResets (s.sendUdp p cls ip sport dport b) := by
  unfold State.sendUdp
  dsimp only
  split <;> exact ⟨rfl, rfl, rfl⟩

theorem State.freeTxn_resets : s.KeepsResets { s with cmd := { s.cmd with txn := none } } := ⟨rfl, rfl, rfl⟩

theorem State.dropTxn_resets : s.KeepsResets s.dropTxn := by
  unfold State.dropTxn
  split
  · exact .refl s
  · exact s.freeTxn_resets.trans (State.raise_resets _ _ _ _ _ (by decide))

theorem State.unacked_resets (l : List (Nat × Nat)) :
    s.KeepsResets { s with pairOps := { s.pairOps with unacked := l } } := ⟨rfl, rfl, rfl⟩

theorem State.closeSess_resets (i : Nat) : s.KeepsResets (s.closeSess i) := by
  unfold State.closeSess
  refine .ite (.refl s) ?_
  refine .trans (.trans (.trans (.of_net (s.bufReleaseAll_netOnly i)) ?_) (State.setSess_resets ..))
    (State.unacked_resets ..)
  split
  · exact .ite (State.dropTxn_resets _) (.refl _)
  · exact .refl _

theorem State.sendPacket_resets (i : Nat) (b : List Byte) : s.KeepsResets (s.sendPacket i b) :=
  .ite (s.closeSess_resets i) ((s.setSess_resets ..).trans (State.sendUdp_resets ..))

theorem State.reply_resets (i op : Nat) (seq : Word) (status : Nat) (payload : List Byte) :
    s.KeepsResets (s.reply i op seq status payload) := by
  unfold State.reply
  dsimp only
  split
  · exact s.setSess_resets ..
  · exact (s.setSess_resets ..).trans (State.sendPacket_resets ..)

theorem State.replyTo_resets (i : Nat) (w : Wait) (status : Nat) (payload : List Byte) :
    s.KeepsResets (s.replyTo i w status payload) := by
  unfold State.replyTo
  split
  · exact .ite (s.reply_resets ..) (.refl s)
  · exact .refl s

theorem State.endEvent_resets (e : ActEv) (kind : Nat) : s.KeepsResets (s.endEvent e kind) :=
  (s.withActive_resets _).trans (State.enqueue_resets ..)

theorem State.setCell_resets (ci : Nat) (c : Cell) : s.KeepsResets (s.setCell ci c) := ⟨rfl, rfl, rfl⟩

theorem State.recoverCell_resets (ci : Nat) : s.KeepsResets (s.recoverCell ci) := by
  unfold State.recoverCell
  refine .ite (.refl s) ?_
  have first (c : Cell) := s.setCell_resets ci c
  generalize hc : ({ s.cell ci with
    heldOut := false, preRun := 0, adm := if s.admitted ci then .charging else (s.cell ci).adm } : Cell) = c
  have first := first c
  generalize s.setCell ci c = u at first ⊢
  exact first.trans (.ite (.refl u) ⟨rfl, rfl, rfl⟩)

theorem State.setRec_resets (src : Nat) (r : RecSrc) : s.KeepsResets (s.setRec src r) := ⟨rfl, rfl, rfl⟩

theorem State.faultReset_resets (scope index inst : Nat) : s.KeepsResets (s.faultReset scope index inst).1 := by
  unfold State.faultReset
  refine .trans ?_ (State.enqueue_resets ..)
  refine .trans ?_ (.foldl (fun u (e : ActEv) => u.recoverCell_resets e.inst) _ _)
  refine .trans ?_ (.foldl (fun u (e : ActEv) => u.endEvent_resets e 2) _ _)
  exact .foldl (fun u (x : Nat × RecSrc) => u.setRec_resets x.1 _) _ s

/-- One fault reset acts, and its reply leaves. -/
def State.resetApplied (s : State) (x : Nat × Nat × Nat × Nat × Nat) : State :=
  let y := s.faultReset x.1 x.2.1 x.2.2.1
  y.1.replyTo x.2.2.2.2 .reset stOk (be 2 y.2.1 ++ be 2 y.2.2)

theorem State.resetApplied_resets (x : Nat × Nat × Nat × Nat × Nat) : s.KeepsResets (s.resetApplied x) :=
  (s.faultReset_resets ..).trans (State.replyTo_resets ..)

/-- The state in which only the fault resets wait that are not due yet. -/
def State.resetsLeft (s : State) : State :=
  { s with evt := { s.evt with resets := s.evt.resets.filter fun x => decide (s.mono < x.2.2.2.1) } }

theorem faultResetApply_eq : exec .faultResetApply s = .next ((s.evt.resets.filter fun x =>
    decide (x.2.2.2.1 ≤ s.mono)).foldl State.resetApplied s.silent.resetsLeft) := rfl

theorem faultResetApply_facts : ∃ t, exec .faultResetApply s = .next t ∧ (∀ x ∈ t.evt.resets, s.mono < x.2.2.2.1)
    ∧ t.cycle = s.cycle ∧ t.regs = s.regs := by
  have keeps := State.KeepsResets.foldl State.resetApplied_resets (s.evt.resets.filter fun x =>
    decide (x.2.2.2.1 ≤ s.mono)) s.silent.resetsLeft
  refine ⟨_, faultResetApply_eq s, fun x hx => ?_, keeps.cycle, keeps.regs⟩
  rw [keeps.resets] at hx
  exact of_decide_eq_true (List.mem_filter.mp hx).2

end

/-! ## PING and the module's state -/

section
variable {s : State} {r : Req} {p : List Byte}

theorem ping_answered (h : s.Accepts r 0) (hl : p.length ≤ 64) : exec (.ping r p) s =
    .next ((s.begun r).reply (reqSlot r) 0x0003 r.seq stOk (be 8 ((s.begun r).stationTime r.tick).1
      ++ be 4 ((s.begun r).stationTime r.tick).2.1 ++ be 2 ((s.begun r).stationTime r.tick).2.2
      ++ be 1 (modCode (s.begun r).sys.mode) ++ [0] ++ p)) :=
  exec_done h rfl (if_neg (Nat.not_lt.mpr hl))

theorem ping_long (h : s.Accepts r 0) (hl : 64 < p.length) : exec (.ping r p) s =
    .next ((s.begun r).reply (reqSlot r) 0x0003 r.seq stBadParam ((s.begun r).detail (Refuse.at stBadParam 64))) :=
  exec_refuse (e := Refuse.at stBadParam 64) h rfl (if_pos hl)

theorem modeGet_answered (h : s.Accepts r 0) : exec (.modeGet r []) s =
    .next ((s.begun r).reply (reqSlot r) 0x0021 r.seq stOk
      (wordBytes (s.begun r).sysState ++ wordBytes (s.begun r).sys.lastChg ++ be 4 (s.begun r).blocked)) :=
  exec_done h rfl (if_pos rfl)

/-- The boundary at which a request of this cycle acts. -/
def State.actAt (s : State) : Nat := s.mono + (if s.pairSide then 2 else 1)

/-- The state in which a change of mode waits for its boundary. -/
def State.modeAsked (s : State) (i : Nat) (dst : ModState) (mask : Nat) : State :=
  { s with sys := { s.sys with modeReq := some { target := dst, mask := mask, due := s.actAt, slot := i } } }

section
variable {dst : ModState} (h : s.Accepts r 1) (hl : p.length = 4) (h1 : beAt p 1 1 = 0)
  (hd : modOfCode (beAt p 0 1) = some dst)
include h hl h1 hd

theorem modeSet_follows (hf : (s.begun r).follows = true) : exec (.modeSet r p) s =
    .next ((s.begun r).reply (reqSlot r) 0x0020 r.seq stNotInState ((s.begun r).detail (Refuse.at stNotInState 0))) := by
  refine exec_refuse (e := Refuse.at stNotInState 0) h rfl
    ((if_neg (Classical.not_not.mpr hl)).trans ((if_neg (Classical.not_not.mpr h1)).trans ?_))
  rw [hd]
  exact if_pos hf

variable (hf : (s.begun r).follows = false)
include hf

theorem modeSet_present (hm : dst = (s.begun r).sys.mode) : exec (.modeSet r p) s =
    .next ((s.begun r).reply (reqSlot r) 0x0020 r.seq stOk []) := by
  refine exec_done h rfl ((if_neg (Classical.not_not.mpr hl)).trans ((if_neg (Classical.not_not.mpr h1)).trans ?_))
  rw [hd]
  exact (if_neg (ne_true_of_eq_false hf)).trans (if_pos hm)

theorem modeSet_barred (hm : dst ≠ (s.begun r).sys.mode)
    (hb : (s.begun r).mayMode dst ((s.begun r).preMask (beAt p 2 2)) = false) : exec (.modeSet r p) s =
    .next ((s.begun r).reply (reqSlot r) 0x0020 r.seq stNotInState ((s.begun r).detail (Refuse.at stNotInState 0))) := by
  refine exec_refuse (e := Refuse.at stNotInState 0) h rfl
    ((if_neg (Classical.not_not.mpr hl)).trans ((if_neg (Classical.not_not.mpr h1)).trans ?_))
  rw [hd]
  exact (if_neg (ne_true_of_eq_false hf)).trans ((if_neg hm).trans (if_pos (bnot_of hb)))

theorem modeSet_waits (hm : dst ≠ (s.begun r).sys.mode)
    (hb : (s.begun r).mayMode dst ((s.begun r).preMask (beAt p 2 2)) = true) (hc : (s.begun r).commitPending = false)
    (hq : (s.begun r).sys.modeReq = none) : exec (.modeSet r p) s =
      (let v := (s.begun r).modeAsked (reqSlot r) dst ((s.begun r).preMask (beAt p 2 2))
       let w := if (s.begun r).leads then (v.sendRecord rkMode (reqSlot r) 0 (modCode dst) (s.begun r).actAt
          (BitVec.ofNat 32 ((s.begun r).preMask (beAt p 2 2)))).awaitAck (reqSlot r) else v
       .next (w.setSess (reqSlot r) { w.sess (reqSlot r) with wait := some (0x0020, r.seq, .mode) })) := by
  refine exec_later h rfl ((if_neg (Classical.not_not.mpr hl)).trans ((if_neg (Classical.not_not.mpr h1)).trans ?_))
  rw [hd]
  refine (if_neg (ne_true_of_eq_false hf)).trans ((if_neg hm).trans ((if_neg (not_bnot hb)).trans ((if_neg ?_).trans rfl)))
  rw [hc, hq]
  decide

end

/-- The state in which a fault reset waits for its boundary. -/
def State.resetQueued (s : State) (i scope index inst : Nat) : State :=
  { s with evt := { s.evt with resets := s.evt.resets ++ [(scope, index, inst, s.actAt, i)] } }

/-- The parameters of a fault reset name a scope, an index and an INST that go together. -/
structure ResetFormed (p : List Byte) : Prop where
  length : p.length = 5
  scope : beAt p 0 1 ≤ 3
  stack : beAt p 0 1 = 1 → beAt p 1 2 < 16
  cell : beAt p 0 1 = 2 → beAt p 1 2 < 3072
  inst : beAt p 0 1 ≠ 3 → beAt p 3 2 = 0

theorem ResetFormed.passes {a b c d : Answer} (h : ResetFormed p) :
    (if p.length ≠ 5 ∨ 3 < beAt p 0 1 then a
      else if (beAt p 0 1 = 1 ∧ 16 ≤ beAt p 1 2) ∨ (beAt p 0 1 = 2 ∧ 3072 ≤ beAt p 1 2) then b
      else if beAt p 0 1 ≠ 3 ∧ beAt p 3 2 ≠ 0 then c else d) = d := by
  refine (if_neg (not_or.mpr ⟨Classical.not_not.mpr h.length, Nat.not_lt.mpr h.scope⟩)).trans
    ((if_neg ?_).trans (if_neg fun ⟨hs, hi⟩ => hi (h.inst hs)))
  rintro (⟨hs, hi⟩ | ⟨hs, hi⟩)
  · exact absurd hi (Nat.not_le.mpr (h.stack hs))
  · exact absurd hi (Nat.not_le.mpr (h.cell hs))

theorem faultReset_follows (h : s.Accepts r 1) (hp : ResetFormed p) (hf : (s.begun r).follows = true) :
    exec (.faultReset r p) s =
      .next ((s.begun r).reply (reqSlot r) 0x0061 r.seq stNotInState ((s.begun r).detail (Refuse.at stNotInState 0))) :=
  exec_refuse (e := Refuse.at stNotInState 0) h rfl (hp.passes.trans (if_pos hf))

theorem faultReset_waits (h : s.Accepts r 1) (hp : ResetFormed p) (hf : (s.begun r).follows = false) :
    exec (.faultReset r p) s =
      (let v := (s.begun r).resetQueued (reqSlot r) (beAt p 0 1) (beAt p 1 2) (beAt p 3 2)
       let w := if (s.begun r).leads then (v.sendRecord rkReset (reqSlot r) (beAt p 1 2) (beAt p 0 1) (s.begun r).actAt
          (BitVec.ofNat 32 (beAt p 3 2))).awaitAck (reqSlot r) else v
       .next (w.setSess (reqSlot r) { w.sess (reqSlot r) with wait := some (0x0061, r.seq, .reset) })) :=
  exec_later h rfl (hp.passes.trans ((if_neg (ne_true_of_eq_false hf)).trans rfl))

end

/-! ## Transitions at a boundary -/

theorem State.setMode_prev (s : State) (dst : ModState) (reason : Nat) :
    (s.setMode dst reason).sys.prev = s.sys.mode := by
  unfold State.setMode
  dsimp only
  rw [State.raise_sys_prev]
  split
  · split <;> rfl
  · rfl

/-- The automatic transition of a boundary; without one a request to block lasts in BOOT alone. -/
def State.autoMoved (s : State) (auto : Option (ModState × Nat)) : State :=
  match auto with
  | some a => s.silent.setMode a.1 a.2
  | none => { s.silent with sys := { s.sys with
      blockReq := s.sys.blockReq && decide (s.sys.mode = ModState.boot) } }

theorem State.autoMoved_facts (s : State) (a : ModState × Nat) : (s.autoMoved (some a)).sys.mode = a.1
    ∧ (s.autoMoved (some a)).sys.reason = a.2 ∧ (s.autoMoved (some a)).sys.prev = s.sys.mode :=
  have facts := s.silent.setMode_facts a.1 a.2
  ⟨facts.1, facts.2.1, s.silent.setMode_prev a.1 a.2⟩

/-- The requested change of mode is taken out of its waiting place. -/
def State.modeTaken (s : State) : State := { s with sys := { s.sys with modeReq := none } }

theorem modeTransition_eq (s : State) : exec .modeTransition s =
    (match (s.autoMoved s.autoTarget).sys.modeReq with
    | none => .next (s.autoMoved s.autoTarget)
    | some q =>
      if (s.autoMoved s.autoTarget).mono < q.due then .next (s.autoMoved s.autoTarget)
      else if s.autoTarget.isSome ∨ !(s.autoMoved s.autoTarget).modeTaken.mayMode q.target q.mask then
        .next ((s.autoMoved s.autoTarget).modeTaken.replyTo q.slot .mode stNotInState
          ((s.autoMoved s.autoTarget).modeTaken.detail (Refuse.at stNotInState 0)))
      else .next (((s.autoMoved s.autoTarget).modeTaken.enterMode q.target q.mask).modeReply q)) := rfl

section
variable {s : State} {q : ModeReq}

theorem modeTransition_unasked (h : (s.autoMoved s.autoTarget).sys.modeReq = none) :
    exec .modeTransition s = .next (s.autoMoved s.autoTarget) := by
  rw [modeTransition_eq, h]

variable (h : (s.autoMoved s.autoTarget).sys.modeReq = some q)
include h

theorem modeTransition_early (hd : (s.autoMoved s.autoTarget).mono < q.due) :
    exec .modeTransition s = .next (s.autoMoved s.autoTarget) := by
  rw [modeTransition_eq, h]
  exact if_pos hd

variable (hd : q.due ≤ (s.autoMoved s.autoTarget).mono)
include hd

theorem modeTransition_refused
    (hn : s.autoTarget ≠ none ∨ (s.autoMoved s.autoTarget).modeTaken.mayMode q.target q.mask = false) :
    exec .modeTransition s = .next ((s.autoMoved s.autoTarget).modeTaken.replyTo q.slot .mode stNotInState
      ((s.autoMoved s.autoTarget).modeTaken.detail (Refuse.at stNotInState 0))) := by
  rw [modeTransition_eq, h]
  exact (if_neg (Nat.not_lt.mpr hd)).trans (if_pos (hn.imp Option.isSome_iff_ne_none.mpr bnot_of))

theorem modeTransition_entered (ha : s.autoTarget = none)
    (hm : (s.autoMoved s.autoTarget).modeTaken.mayMode q.target q.mask = true) : exec .modeTransition s =
      .next (((s.autoMoved s.autoTarget).modeTaken.enterMode q.target q.mask).modeReply q) := by
  rw [modeTransition_eq, h]
  refine (if_neg (Nat.not_lt.mpr hd)).trans (if_neg (not_or.mpr ⟨?_, not_bnot hm⟩))
  exact fun hs => Option.isSome_iff_ne_none.mp hs ha

end

/-- Settles O38: PING and MODE_GET answer from the state, MODE_SET and FAULT_RESET by the branches of their forms; a
boundary by the automatic transition and the request that waits; what an applied fault reset does changes no waiting
reset, no cycle and no register. -/
theorem modesAreSetReadAndReset : Obligations.ModesAreSetReadAndReset := by
  refine ⟨fun s r => ⟨fun h => ⟨fun p => ⟨ping_answered h, ping_long h⟩, modeGet_answered h⟩, fun h =>
    ⟨fun p dst hl h1 hd => ⟨modeSet_follows h hl h1 hd, fun hf => ⟨modeSet_present h hl h1 hd hf,
      modeSet_barred h hl h1 hd hf, modeSet_waits h hl h1 hd hf⟩⟩, fun p hl hs h1 h2 hi => ?_⟩⟩,
    fun s => ⟨fun a ha => ?_, modeTransition_unasked, fun q hq => ⟨modeTransition_early hq, modeTransition_refused hq,
      modeTransition_entered hq⟩, faultResetApply_facts s⟩⟩
  · have formed : ResetFormed p := ⟨hl, hs, h1, h2, hi⟩
    exact ⟨faultReset_follows h formed, faultReset_waits h formed⟩
  · rw [ha]
    exact s.autoMoved_facts a

/-! ## The commands of the cells -/

section
variable {s : State} {r : Req} {p : List Byte}

/-- A command's effect as the record of kind `kind`, due two cycles on, its reply behind the partner's
acknowledgement. -/
def State.copied (s : State) (i kind page value : Nat) : State :=
  (s.addRecord kind 0 page 0 (s.mono + 2) (BitVec.ofNat 32 value)).awaitAck i

theorem beAt_one (l : List Byte) (i : Nat) : beAt l i 1 = (byteAt l i).toNat := by
  show (byteAt l i).toNat * 256 ^ 0 + 0 = _
  rw [Nat.pow_zero, Nat.mul_one, Nat.add_zero]

/-! ### Enumeration -/

/-- The scope and the port of an enumeration go together: the whole module, or the first port of a configured string. -/
def State.EnumScoped (s : State) (scope port : Nat) : Prop :=
  scope = 0 ∨ (scope = 1 ∧ port < 64 ∧ s.configured port = true ∧ s.basePort port = port)

theorem State.EnumScoped.passes {a b c : Answer} {scope port : Byte} (h : s.EnumScoped scope.toNat port.toNat) :
    (if [scope, port].length ≠ 2 ∨ 1 < beAt [scope, port] 0 1 then a
      else if beAt [scope, port] 0 1 = 1 ∧ (64 ≤ beAt [scope, port] 1 1 ∨ !s.configured (beAt [scope, port] 1 1)
        ∨ s.basePort (beAt [scope, port] 1 1) ≠ beAt [scope, port] 1 1) then b else c) = c := by
  have x : beAt [scope, port] 0 1 = scope.toNat := beAt_one _ 0
  have y : beAt [scope, port] 1 1 = port.toNat := beAt_one _ 1
  have formed : ¬ ([scope, port].length ≠ 2 ∨ 1 < scope.toNat) :=
    not_or.mpr ⟨Classical.not_not.mpr rfl, Nat.not_lt.mpr (h.elim (fun k => Nat.le_trans (Nat.le_of_eq k) (Nat.zero_le 1)) (Nat.le_of_eq ·.1))⟩
  rw [x, y, if_neg formed]
  rcases h with h0 | ⟨h1, hp, hc, hb⟩
  · exact if_neg (fun k => absurd (h0.symm.trans k.1) (by decide))
  · refine if_neg ?_
    rintro ⟨-, hp' | hc' | hb'⟩
    · exact absurd hp' (Nat.not_le.mpr hp)
    · exact not_bnot hc hc'
    · exact hb' hb

section
variable {scope port : Byte} (h : s.Accepts r 1) (hs : (s.begun r).EnumScoped scope.toNat port.toNat)
include h hs

theorem cellEnumerate_follows (hf : (s.begun r).follows = true) : exec (.cellEnumerate r [scope, port]) s =
    .next ((s.begun r).reply (reqSlot r) 0x0030 r.seq stNotInState ((s.begun r).detail (Refuse.at stNotInState 0))) :=
  exec_refuse (e := Refuse.at stNotInState 0) h rfl (hs.passes.trans (if_pos hf))

theorem cellEnumerate_starts (hf : (s.begun r).follows = false) (hn : (s.begun r).opsRunning 0x30 = []) :
    exec (.cellEnumerate r [scope, port]) s =
      (let v := (s.begun r).opStart 0x30 1
        (((s.begun r).enumScope scope.toNat port.toNat).flatMap (s.begun r).enumCells).length port.toNat
       .next ((if v.leads then v.copied (reqSlot r) rkEnum v.cmd.lastOp (scope.toNat * 256 + port.toNat)
          else v.enumerate v.cmd.lastOp scope.toNat port.toNat).reply (reqSlot r) 0x0030 r.seq stAccepted
            (be 2 v.cmd.lastOp))) := by
  rw [← show beAt [scope, port] 0 1 = scope.toNat from beAt_one _ 0,
    ← show beAt [scope, port] 1 1 = port.toNat from beAt_one _ 1]
  exact exec_done h rfl (hs.passes.trans ((if_neg (ne_true_of_eq_false hf)).trans (if_neg (Classical.not_not.mpr hn))))

end

/-! ### Admission, retirement and bypass of one cell -/

section
variable (h : s.Accepts r 1) (hl : p.length = 2) (hc : beAt p 0 2 < 3072)
include hl hc

theorem cellNumber_passes {a b : Answer} : (if p.length ≠ 2 ∨ 3072 ≤ beAt p 0 2 then a else b) = b :=
  if_neg (not_or.mpr ⟨Classical.not_not.mpr hl, Nat.not_le.mpr hc⟩)

include h

theorem cellAdmit_follows (hf : (s.begun r).follows = true) : exec (.cellAdmit r p) s =
    .next ((s.begun r).reply (reqSlot r) 0x0031 r.seq stNotInState ((s.begun r).detail (Refuse.at stNotInState 0))) :=
  exec_refuse (e := Refuse.at stNotInState 0) h rfl ((cellNumber_passes hl hc).trans (if_pos (Or.inl hf)))

theorem cellAdmit_starts (hf : (s.begun r).follows = false) (hs : (s.begun r).svc (beAt p 0 2) = .found)
    (hm : ((s.begun r).mg (beAt p 0 2)).step = 0) (ho : ∀ o ∈ (s.begun r).opsRunning 0x31, o.arg ≠ beAt p 0 2)
    (hn : ((s.begun r).opsRunning 0x31).length < 64)
    (hd : (s.begun r).sys.mode = .standby ∨ (s.begun r).sys.mode = .charging ∨ (s.begun r).sys.mode = .ready
      ∨ (s.begun r).sys.mode = .run) : exec (.cellAdmit r p) s =
      (let v := (s.begun r).opStart 0x31 1 6 (beAt p 0 2)
       .next ((if v.leads then v.copied (reqSlot r) rkAdmit v.cmd.lastOp (beAt p 0 2)
          else v.startAdmit (beAt p 0 2) v.cmd.lastOp).reply (reqSlot r) 0x0031 r.seq stAccepted (be 2 v.cmd.lastOp))) := by
  refine exec_done h rfl ((cellNumber_passes hl hc).trans ((if_neg ?_).trans (if_neg (Nat.not_le.mpr hn))))
  rintro (hf' | hd' | hs' | hm' | ho')
  · exact ne_true_of_eq_false hf hf'
  · exact not_bnot (decide_eq_true hd) hd'
  · exact hs' hs
  · exact hm' hm
  · obtain ⟨o, mem, arg⟩ := List.any_eq_true.mp ho'
    exact ho o mem (of_decide_eq_true arg)

theorem cellRetire_barred (hm : (s.begun r).follows = true ∨ (s.begun r).sys.mode = .config) : exec
    (.cellRetire r p) s =
    .next ((s.begun r).reply (reqSlot r) 0x0032 r.seq stNotInState ((s.begun r).detail (Refuse.at stNotInState 0))) :=
  exec_refuse (e := Refuse.at stNotInState 0) h rfl ((cellNumber_passes hl hc).trans (if_pos hm))

variable (hf : (s.begun r).follows = false) (hm : (s.begun r).sys.mode ≠ .config)
include hf hm

theorem cellRetire_retired (hs : (s.begun r).svc (beAt p 0 2) = .retired) : exec (.cellRetire r p) s =
    .next ((s.begun r).reply (reqSlot r) 0x0032 r.seq stOk []) := by
  refine exec_done h rfl ((cellNumber_passes hl hc).trans
    ((if_neg (not_or.mpr ⟨ne_true_of_eq_false hf, hm⟩)).trans ?_))
  rw [hs]

theorem cellRetire_absent (hs : (s.begun r).svc (beAt p 0 2) = .disabled ∨ (s.begun r).svc (beAt p 0 2) = .missing
    ∨ (s.begun r).svc (beAt p 0 2) = .bypassed) : exec (.cellRetire r p) s =
    .next ((s.begun r).reply (reqSlot r) 0x0032 r.seq stNotInState ((s.begun r).detail (Refuse.at stNotInState 0))) := by
  refine exec_refuse (e := Refuse.at stNotInState 0) h rfl ((cellNumber_passes hl hc).trans
    ((if_neg (not_or.mpr ⟨ne_true_of_eq_false hf, hm⟩)).trans ?_))
  rcases hs with hs | hs | hs <;> rw [hs] <;> rfl

theorem cellRetire_retires (hs : (s.begun r).svc (beAt p 0 2) = .inserted ∨ (s.begun r).svc (beAt p 0 2) = .charging
    ∨ (s.begun r).svc (beAt p 0 2) = .found ∨ (s.begun r).svc (beAt p 0 2) = .faulted) : exec (.cellRetire r p) s =
    .next ((if (s.begun r).leads then (s.begun r).copied (reqSlot r) rkRetire 0 (beAt p 0 2)
      else (s.begun r).retire (beAt p 0 2)).reply (reqSlot r) 0x0032 r.seq stOk []) := by
  refine exec_done h rfl ((cellNumber_passes hl hc).trans
    ((if_neg (not_or.mpr ⟨ne_true_of_eq_false hf, hm⟩)).trans ?_))
  rcases hs with hs | hs | hs | hs <;> rw [hs] <;> rfl

end

/-- The parameters of a bypass name a cell by its number and the identity last seen there. -/
structure State.BypassNamed (s : State) (p : List Byte) : Prop where
  length : p.length = 8
  cell : beAt p 0 2 < 3072
  zero : beAt p 2 2 = 0
  seen : beAt p 4 4 = (s.cell (beAt p 0 2)).seen.toNat

theorem State.BypassNamed.passes {a b c d : Answer} (h : s.BypassNamed p) :
    (if p.length ≠ 8 ∨ 3072 ≤ beAt p 0 2 then a else if beAt p 2 2 ≠ 0 then b
      else if beAt p 4 4 ≠ (s.cell (beAt p 0 2)).seen.toNat then c else d) = d :=
  (if_neg (not_or.mpr ⟨Classical.not_not.mpr h.length, Nat.not_le.mpr h.cell⟩)).trans
    ((if_neg (Classical.not_not.mpr h.zero)).trans (if_neg (Classical.not_not.mpr h.seen)))

section
variable (h : s.Accepts r 1) (hp : (s.begun r).BypassNamed p)
include h hp

theorem cellBypass_follows (hf : (s.begun r).follows = true) : exec (.cellBypass r p) s =
    .next ((s.begun r).reply (reqSlot r) 0x0033 r.seq stNotInState ((s.begun r).detail (Refuse.at stNotInState 0))) :=
  exec_refuse (e := Refuse.at stNotInState 0) h rfl (hp.passes.trans (if_pos hf))

variable (hf : (s.begun r).follows = false)
include hf

theorem cellBypass_bypassed (hs : (s.begun r).svc (beAt p 0 2) = .bypassed) : exec (.cellBypass r p) s =
    .next ((s.begun r).reply (reqSlot r) 0x0033 r.seq stOk []) := by
  refine exec_done h rfl (hp.passes.trans ((if_neg (ne_true_of_eq_false hf)).trans ?_))
  rw [hs]

theorem cellBypass_absent (hs : (s.begun r).svc (beAt p 0 2) = .disabled ∨ (s.begun r).svc (beAt p 0 2) = .missing) :
    exec (.cellBypass r p) s =
    .next ((s.begun r).reply (reqSlot r) 0x0033 r.seq stNotInState ((s.begun r).detail (Refuse.at stNotInState 0))) := by
  refine exec_refuse (e := Refuse.at stNotInState 0) h rfl (hp.passes.trans ((if_neg (ne_true_of_eq_false hf)).trans ?_))
  rcases hs with hs | hs <;> rw [hs] <;> rfl

theorem cellBypass_commands (hs : (s.begun r).svc (beAt p 0 2) = .inserted ∨ (s.begun r).svc (beAt p 0 2) = .charging
    ∨ (s.begun r).svc (beAt p 0 2) = .found ∨ (s.begun r).svc (beAt p 0 2) = .faulted
    ∨ (s.begun r).svc (beAt p 0 2) = .retired) : exec (.cellBypass r p) s =
    .next ((if (s.begun r).leads then (s.begun r).copied (reqSlot r) rkBypass 0 (beAt p 0 2)
      else (s.begun r).commandBypass (beAt p 0 2)).reply (reqSlot r) 0x0033 r.seq stOk []) := by
  refine exec_done h rfl (hp.passes.trans ((if_neg (ne_true_of_eq_false hf)).trans ?_))
  rcases hs with hs | hs | hs | hs | hs <;> rw [hs] <;> rfl

end

end

/-- Settles O39: each command's checks pass under the stated hypotheses, and the cell's service state picks the branch
of its effect; `State.copied` is the effect's record in the holder of a pair. -/
theorem cellCommandsStartTheirWork : Obligations.CellCommandsStartTheirWork := by
  refine fun s r h => ⟨fun scope port hs => ⟨cellEnumerate_follows h hs, cellEnumerate_starts h hs⟩,
    fun p hl hc => ⟨fun hf => ⟨cellAdmit_follows h hl hc hf, cellRetire_barred h hl hc (.inl hf)⟩,
      fun hf => ⟨cellAdmit_starts h hl hc hf, fun hm => cellRetire_barred h hl hc (.inr hm),
        fun hm => ⟨cellRetire_retired h hl hc hf hm, cellRetire_absent h hl hc hf hm,
          cellRetire_retires h hl hc hf hm⟩⟩⟩, fun p hl hc hz hi => ?_⟩
  have named : (s.begun r).BypassNamed p := ⟨hl, hc, hz, hi⟩
  exact ⟨cellBypass_follows h named, fun hf => ⟨cellBypass_bypassed h named hf, cellBypass_absent h named hf,
    cellBypass_commands h named hf⟩⟩

/-! ## The commands of the loops and of the pair -/

theorem State.follows_of_leads {s : State} (h : s.leads = true) : s.follows = false := by
  have role := of_decide_eq_true (Bool.and_eq_true_iff.mp h).2
  exact Bool.and_eq_false_iff.mpr (.inr (decide_eq_false (Classical.not_not.mpr role)))

theorem State.follows_of_alone {s : State} (h : s.pairSide = false) : s.follows = false :=
  Bool.and_eq_false_iff.mpr (.inl h)

theorem State.leads_of_alone {s : State} (h : s.pairSide = false) : s.leads = false :=
  Bool.and_eq_false_iff.mpr (.inl h)

section
variable {s : State} {r : Req} {p : List Byte}

/-- The record of kind `kind` for slot `n`, due two cycles on. -/
def State.loopRecord (s : State) (kind n off : Nat) (value : Word) : State :=
  s.addRecord kind n 0 off (s.mono + 2) value

/-! ### LOOP_OPEN -/

/-- The parameters of LOOP_OPEN name an enabled slot, a mode and a finite value. -/
structure State.OpenFormed (s : State) (p : List Byte) : Prop where
  length : p.length = 6
  slot : s.slotEn (beAt p 0 1) = true
  mode : beAt p 1 1 ≤ 1
  value : fFinite (BitVec.ofNat 32 (beAt p 2 4)) = true

theorem State.OpenFormed.passes {a b c d e : Answer} (h : s.OpenFormed p) :
    (if p.length ≠ 6 then a else if 1 < beAt p 1 1 then b else if !fFinite (BitVec.ofNat 32 (beAt p 2 4)) then c
      else if !s.slotEn (beAt p 0 1) then d else e) = e :=
  (if_neg (Classical.not_not.mpr h.length)).trans ((if_neg (Nat.not_lt.mpr h.mode)).trans
    ((if_neg (not_bnot h.value)).trans (if_neg (not_bnot h.slot))))

section
variable (h : s.Accepts r 1) (hp : (s.begun r).OpenFormed p)
include h hp

theorem loopOpen_follows (hf : (s.begun r).follows = true) : exec (.loopOpen r p) s =
    .next ((s.begun r).reply (reqSlot r) 0x0040 r.seq stNotInState ((s.begun r).detail (Refuse.at stNotInState 0))) :=
  exec_refuse (e := Refuse.at stNotInState 0) h rfl (hp.passes.trans (if_pos hf))

theorem loopOpen_leads (hl : (s.begun r).leads = true) : exec (.loopOpen r p) s =
    .next ((((s.begun r).loopRecord rkOpen (beAt p 0 1) (beAt p 1 1) (BitVec.ofNat 32 (beAt p 2 4))).awaitAck
      (reqSlot r)).reply (reqSlot r) 0x0040 r.seq stOk []) :=
  exec_done h rfl (hp.passes.trans ((if_neg (ne_true_of_eq_false (State.follows_of_leads hl))).trans
    (congrArg (Answer.done · stOk []) (if_pos hl))))

theorem loopOpen_alone (ha : (s.begun r).pairSide = false) : exec (.loopOpen r p) s =
    .next (((s.begun r).openSlot (beAt p 0 1) (if beAt p 1 1 = 1 then some (BitVec.ofNat 32 (beAt p 2 4))
      else none)).reply (reqSlot r) 0x0040 r.seq stOk []) := by
  refine exec_done h rfl (hp.passes.trans ((if_neg (ne_true_of_eq_false (State.follows_of_alone ha))).trans
    (congrArg (Answer.done · stOk []) ((if_neg (ne_true_of_eq_false (State.leads_of_alone ha))).trans ?_))))
  exact congrArg _ (ite_congr (decide_eq_true_eq) (fun _ => rfl) fun _ => rfl)

end

/-! ### LOOP_CLOSE -/

theorem beAt_single (b : Byte) : beAt [b] 0 1 = b.toNat := beAt_one [b] 0

section
variable {b : Byte} (h : s.Accepts r 1)
include h

theorem loopClose_barred (hc : ((s.begun r).slot b.toNat).closed = false) (hm : (s.begun r).mayClose b.toNat = false) :
    exec (.loopClose r [b]) s =
    .next ((s.begun r).reply (reqSlot r) 0x0041 r.seq stBadParam ((s.begun r).detail (Refuse.at stBadParam 0))) := by
  rw [← beAt_single b] at hc hm
  exact exec_refuse (e := Refuse.at stBadParam 0) h rfl ((if_neg (Classical.not_not.mpr rfl)).trans (if_pos ⟨bnot_of hc,
    bnot_of hm⟩))

theorem loopClose_follows (hm : ((s.begun r).slot b.toNat).closed = true ∨ (s.begun r).mayClose b.toNat = true)
    (hf : (s.begun r).follows = true) : exec (.loopClose r [b]) s =
    .next ((s.begun r).reply (reqSlot r) 0x0041 r.seq stNotInState ((s.begun r).detail (Refuse.at stNotInState 0))) := by
  rw [← beAt_single b] at hm
  exact exec_refuse (e := Refuse.at stNotInState 0) h rfl ((if_neg (Classical.not_not.mpr rfl)).trans
    ((if_neg fun k => hm.elim (not_bnot · k.1) (not_bnot · k.2)).trans (if_pos hf)))

theorem loopClose_closed (hc : ((s.begun r).slot b.toNat).closed = true) (hf : (s.begun r).follows = false) :
    exec (.loopClose r [b]) s = .next ((s.begun r).reply (reqSlot r) 0x0041 r.seq stOk []) := by
  rw [← beAt_single b] at hc
  exact exec_done h rfl ((if_neg (Classical.not_not.mpr rfl)).trans ((if_neg fun k => not_bnot hc k.1).trans
    ((if_neg (ne_true_of_eq_false hf)).trans (if_pos hc))))

variable (hc : ((s.begun r).slot b.toNat).closed = false) (hm : (s.begun r).mayClose b.toNat = true)
include hc hm

theorem loopClose_leads (hl : (s.begun r).leads = true) : exec (.loopClose r [b]) s =
    .next ((((s.begun r).loopRecord rkClose b.toNat 0 0).awaitAck (reqSlot r)).reply (reqSlot r) 0x0041 r.seq stOk []) := by
  rw [← beAt_single b] at hc hm ⊢
  exact exec_done h rfl ((if_neg (Classical.not_not.mpr rfl)).trans ((if_neg fun k => not_bnot hm k.2).trans
    ((if_neg (ne_true_of_eq_false (State.follows_of_leads hl))).trans ((if_neg (ne_true_of_eq_false hc)).trans
      (congrArg (Answer.done · stOk []) (if_pos hl))))))

theorem loopClose_alone (ha : (s.begun r).pairSide = false) : exec (.loopClose r [b]) s =
    .next (((s.begun r).closeSlot b.toNat).reply (reqSlot r) 0x0041 r.seq stOk []) := by
  rw [← beAt_single b] at hc hm ⊢
  exact exec_done h rfl ((if_neg (Classical.not_not.mpr rfl)).trans ((if_neg fun k => not_bnot hm k.2).trans
    ((if_neg (ne_true_of_eq_false (State.follows_of_alone ha))).trans ((if_neg (ne_true_of_eq_false hc)).trans
      (congrArg (Answer.done · stOk []) (if_neg (ne_true_of_eq_false (State.leads_of_alone ha))))))))

end

/-! ### LOOP_COEFF_SET -/

/-- The coefficients that a request carries. -/
def coeffWords (p : List Byte) : List Word := bytesWords (beAt p 2 1) (p.drop 4)

/-- The parameters of LOOP_COEFF_SET carry as many coefficients as they say, from the first on, each with a valid
value. -/
structure CoeffFormed (p : List Byte) : Prop where
  length : p.length = 4 + 4 * beAt p 2 1
  some : beAt p 2 1 ≠ 0
  range : beAt p 1 1 + beAt p 2 1 ≤ 16
  zero : beAt p 3 1 = 0
  valid : ∀ k, k < beAt p 2 1 → coeffOk (beAt p 1 1 + k) (((coeffWords p)[k]?).getD 0) = true

theorem CoeffFormed.none_bad (h : CoeffFormed p) : ((List.range (beAt p 2 1)).find? fun k =>
    !coeffOk (beAt p 1 1 + k) (((coeffWords p)[k]?).getD 0)) = none :=
  List.find?_eq_none.mpr fun k hk => not_bnot (h.valid k (List.mem_range.mp hk))

theorem CoeffFormed.passes {a b c : Answer} (h : CoeffFormed p) :
    (if p.length ≠ 4 + 4 * beAt p 2 1 ∨ beAt p 2 1 = 0 ∨ 16 < beAt p 1 1 + beAt p 2 1 then a
      else if beAt p 3 1 ≠ 0 then b else c) = c :=
  (if_neg (not_or.mpr ⟨Classical.not_not.mpr h.length, not_or.mpr ⟨h.some, Nat.not_lt.mpr h.range⟩⟩)).trans
    (if_neg (Classical.not_not.mpr h.zero))

/-- What LOOP_COEFF_SET does in a state once its parameters are in order. -/
def coeffAnswer (p : List Byte) (s : State) (i : Nat) : Answer :=
  if s.follows then no stNotInState
  else if (s.slot (beAt p 0 1)).closed ∨ (s.slot (beAt p 0 1)).susp then
    .refuse { status := stLoopClosed, page := 0xFFFF, place := 0, check := 0 }
  else if s.leads then
    .done (((List.range (beAt p 2 1)).foldl (fun (u : State) (k : Nat) =>
      u.loopRecord rkCoeff (beAt p 0 1) (beAt p 1 1 + k) (((coeffWords p)[k]?).getD 0)) s).awaitAck i) stOk []
  else .done (s.setCoeffs (beAt p 0 1) (beAt p 1 1) (coeffWords p)) stOk []

/-- The effect of LOOP_COEFF_SET: the checks of its parameters before `coeffAnswer`. -/
def coeffEffect (p : List Byte) (s : State) (i : Nat) : Answer :=
  if p.length ≠ 4 + 4 * beAt p 2 1 ∨ beAt p 2 1 = 0 ∨ 16 < beAt p 1 1 + beAt p 2 1 then badAt 2
  else if beAt p 3 1 ≠ 0 then badAt 3
  else match (List.range (beAt p 2 1)).find? fun k => !coeffOk (beAt p 1 1 + k) (((coeffWords p)[k]?).getD 0) with
    | some k => badAt (4 + 4 * k)
    | none => coeffAnswer p s i

theorem loopCoeffSet_eq : exec (.loopCoeffSet r p) s = .next (s.silent.serve r 0x0042 roControl (coeffEffect p)) := rfl

theorem coeffEffect_formed {i : Nat} (h : CoeffFormed p) : coeffEffect p s i = coeffAnswer p s i := by
  refine h.passes.trans ?_
  rw [h.none_bad]

section
variable (h : s.Accepts r 1) (hp : CoeffFormed p)
include h hp

theorem loopCoeffSet_follows (hf : (s.begun r).follows = true) : exec (.loopCoeffSet r p) s =
    .next ((s.begun r).reply (reqSlot r) 0x0042 r.seq stNotInState ((s.begun r).detail (Refuse.at stNotInState 0))) :=
  exec_refuse (e := Refuse.at stNotInState 0) h loopCoeffSet_eq ((coeffEffect_formed hp).trans (if_pos hf))

theorem loopCoeffSet_closed (hf : (s.begun r).follows = false)
    (hc : ¬ (((s.begun r).slot (beAt p 0 1)).closed = false ∧ ((s.begun r).slot (beAt p 0 1)).susp = false)) :
    exec (.loopCoeffSet r p) s = .next ((s.begun r).reply (reqSlot r) 0x0042 r.seq stLoopClosed
      ((s.begun r).detail { status := stLoopClosed, page := 0xFFFF, place := 0, check := 0 })) := by
  refine exec_refuse (e := { status := stLoopClosed, page := 0xFFFF, place := 0, check := 0 }) h loopCoeffSet_eq
    ((coeffEffect_formed hp).trans ((if_neg (ne_true_of_eq_false hf)).trans (if_pos ?_)))
  exact (Classical.not_and_iff_not_or_not.mp hc).imp eq_true_of_ne_false eq_true_of_ne_false

variable (hc : ((s.begun r).slot (beAt p 0 1)).closed = false ∧ ((s.begun r).slot (beAt p 0 1)).susp = false)
include hc

theorem loopCoeffSet_leads (hl : (s.begun r).leads = true) : exec (.loopCoeffSet r p) s =
    .next ((((List.range (beAt p 2 1)).foldl (fun (u : State) (k : Nat) =>
      u.loopRecord rkCoeff (beAt p 0 1) (beAt p 1 1 + k) (((coeffWords p)[k]?).getD 0)) (s.begun r)).awaitAck
        (reqSlot r)).reply (reqSlot r) 0x0042 r.seq stOk []) :=
  exec_done h loopCoeffSet_eq ((coeffEffect_formed hp).trans
    ((if_neg (ne_true_of_eq_false (State.follows_of_leads hl))).trans
      ((if_neg (not_or.mpr ⟨ne_true_of_eq_false hc.1, ne_true_of_eq_false hc.2⟩)).trans (if_pos hl))))

theorem loopCoeffSet_alone (ha : (s.begun r).pairSide = false) : exec (.loopCoeffSet r p) s =
    .next (((s.begun r).setCoeffs (beAt p 0 1) (beAt p 1 1) (coeffWords p)).reply (reqSlot r) 0x0042 r.seq stOk []) :=
  exec_done h loopCoeffSet_eq ((coeffEffect_formed hp).trans
    ((if_neg (ne_true_of_eq_false (State.follows_of_alone ha))).trans
      ((if_neg (not_or.mpr ⟨ne_true_of_eq_false hc.1, ne_true_of_eq_false hc.2⟩)).trans
        (if_neg (ne_true_of_eq_false (State.leads_of_alone ha))))))

end

/-! ### PAIR_STATUS and PAIR_HANDOVER -/

theorem pairStatus_answered (h : s.Accepts r 0) : exec (.pairStatus r []) s =
    .next ((s.begun r).reply (reqSlot r) 0x0090 r.seq stOk
      ([3, 4, 5, 6].flatMap fun o => wordBytes ((s.begun r).readWord (reqSlot r) 11 o))) :=
  exec_done h rfl (if_pos rfl)

/-- The state in which the handover at cycle `h` is agreed. -/
def State.handoverSet (s : State) (h : Nat) : State :=
  { s with pairOps := { s.pairOps with handover := some h, isReversion := false } }

section
variable {d : Byte} (h : s.Accepts r 1) (hd : d.toNat ≤ 1)
include hd

theorem side_passes {a b : Answer} : (if [d].length ≠ 1 ∨ 1 < beAt [d] 0 1 then a else b) = b :=
  if_neg (not_or.mpr ⟨Classical.not_not.mpr rfl, Nat.not_lt.mpr (Nat.le_trans (Nat.le_of_eq (beAt_single d)) hd)⟩)

include h

theorem pairHandover_unled (hl : (s.begun r).leads = false) : exec (.pairHandover r [d]) s =
    .next ((s.begun r).reply (reqSlot r) 0x0091 r.seq stNotInState ((s.begun r).detail (Refuse.at stNotInState 0))) :=
  exec_refuse (e := Refuse.at stNotInState 0) h rfl ((side_passes hd).trans (if_pos (bnot_of hl)))

variable (hl : (s.begun r).leads = true)
include hl

theorem pairHandover_own (ho : d.toNat = b2n (s.begun r).sideB) : exec (.pairHandover r [d]) s =
    .next ((s.begun r).reply (reqSlot r) 0x0091 r.seq stOk []) :=
  exec_done h rfl ((side_passes hd).trans ((if_neg (not_bnot hl)).trans (if_pos ((beAt_single d).trans ho))))

variable (ho : d.toNat ≠ b2n (s.begun r).sideB)
include ho

theorem pairHandover_unready (hr : (s.begun r).pair.pReady = false) : exec (.pairHandover r [d]) s =
    .next ((s.begun r).reply (reqSlot r) 0x0091 r.seq stNotInState ((s.begun r).detail (Refuse.at stNotInState 0))) :=
  exec_refuse (e := Refuse.at stNotInState 0) h rfl ((side_passes hd).trans ((if_neg (not_bnot hl)).trans
    ((if_neg fun k => ho ((beAt_single d).symm.trans k)).trans (if_pos (bnot_of hr)))))

theorem pairHandover_agreed (hr : (s.begun r).pair.pReady = true) : exec (.pairHandover r [d]) s =
    (let b := (s.begun r).pairOps.handover.getD ((s.begun r).handoverAt r.tick)
     .next (((s.begun r).handoverSet b).reply (reqSlot r) 0x0091 r.seq stOk
      (be 2 (((s.begun r).cycle.toNat + (b - (s.begun r).mono)) % 65536)))) :=
  exec_done h rfl ((side_passes hd).trans ((if_neg (not_bnot hl)).trans
    ((if_neg fun k => ho ((beAt_single d).symm.trans k)).trans (if_neg (not_bnot hr)))))

end

end

/-- Settles O40: each command's checks pass under the stated hypotheses; a holder does not follow and a module outside a
pair neither leads nor follows, which picks between the record and the effect itself. -/
theorem loopAndPairCommandsAnswer : Obligations.LoopAndPairCommandsAnswer := by
  refine fun s r => ⟨fun h => ⟨fun p hl hs hm hv => ?_, fun b => ⟨loopClose_barred h, loopClose_follows h,
    loopClose_closed h, loopClose_leads h, loopClose_alone h⟩, fun p hl hc hr hz hv => ?_⟩, pairStatus_answered,
    fun h d hd => ⟨pairHandover_unled h hd, fun hl => ⟨pairHandover_own h hd hl, pairHandover_unready h hd hl,
      pairHandover_agreed h hd hl⟩⟩⟩
  · have formed : (s.begun r).OpenFormed p := ⟨hl, hs, hm, hv⟩
    exact ⟨loopOpen_follows h formed, loopOpen_leads h formed, loopOpen_alone h formed⟩
  · have formed : CoeffFormed p := ⟨hl, hc, hr, hz, hv⟩
    exact ⟨loopCoeffSet_follows h formed, loopCoeffSet_closed h formed,
      fun lead free => loopCoeffSet_leads h formed free lead, fun alone free => loopCoeffSet_alone h formed free alone⟩

end Sys2Proof.Machine
end


section
/-! PROOFS. Operations, readouts, firmware, trust and the journal: O41, O42. -/

namespace Sys2Proof.Machine

open Sys2Proof.Machine

/-! ## Operations and readouts -/

section
variable {s : State} {r : Req} {p : List Byte} {o : OpRec}

/-! ### OP_STATUS and OP_CANCEL -/

theorem opStatus_known (h : s.Accepts r 0) (hl : p.length = 2) (ho : (s.begun r).opRec (beAt p 0 2) = some o) :
    exec (.opStatus r p) s = .next ((s.begun r).reply (reqSlot r) 0x0070 r.seq stOk ((s.begun r).opBytes o)) := by
  refine exec_done h rfl ((if_neg (Classical.not_not.mpr hl)).trans ?_)
  rw [ho]

theorem opStatus_unknown (h : s.Accepts r 0) (hl : p.length = 2) (ho : (s.begun r).opRec (beAt p 0 2) = none) :
    exec (.opStatus r p) s = .next ((s.begun r).reply (reqSlot r) 0x0070 r.seq stBadParam
      ((s.begun r).detail (Refuse.at stBadParam 0))) := by
  refine exec_refuse (e := Refuse.at stBadParam 0) h rfl ((if_neg (Classical.not_not.mpr hl)).trans ?_)
  rw [ho]
  rfl

section
variable (h : s.Accepts r 1) (hl : p.length = 2) (ho : (s.begun r).opRec (beAt p 0 2) = some o)
include h hl ho

theorem opCancel_ended (hs : o.state ≠ 0) :
    exec (.opCancel r p) s = .next ((s.begun r).reply (reqSlot r) 0x0071 r.seq stOk []) := by
  refine exec_done h rfl ((if_neg (Classical.not_not.mpr hl)).trans ?_)
  rw [ho]
  exact if_pos hs

theorem opCancel_cancels {v : State} (hs : o.state = 0) (hc : (s.begun r).cancelOp o = some v) :
    exec (.opCancel r p) s = .next (v.reply (reqSlot r) 0x0071 r.seq stOk []) := by
  refine exec_done h rfl ((if_neg (Classical.not_not.mpr hl)).trans ?_)
  rw [ho]
  refine (if_neg (Classical.not_not.mpr hs)).trans ?_
  rw [hc]

theorem opCancel_barred (hs : o.state = 0) (hc : (s.begun r).cancelOp o = none) : exec (.opCancel r p) s =
    .next ((s.begun r).reply (reqSlot r) 0x0071 r.seq stNotInState ((s.begun r).detail (Refuse.at stNotInState 0))) := by
  refine exec_refuse (e := Refuse.at stNotInState 0) h rfl ((if_neg (Classical.not_not.mpr hl)).trans ?_)
  rw [ho]
  refine (if_neg (Classical.not_not.mpr hs)).trans ?_
  rw [hc]
  rfl

end

/-! ### TRACE_READ -/

section
variable (h : s.Accepts r 0) (hl : p.length = 6)
include h hl

theorem traceRead_starts (h0 : beAt p 0 2 = 0) (hb : (s.begun r).ink.blot.st = 4)
    (hn : ((s.begun r).opsRunning 0x51).any (fun o => decide (o.arg = ((s.begun r).sidOf (reqSlot r)).toNat)) = false) :
    exec (.traceRead r p) s =
      (let v := (s.begun r).opStart 0x51 1 (s.begun r).traceTotal ((s.begun r).sidOf (reqSlot r)).toNat
       .next (v.reply (reqSlot r) 0x0051 r.seq stAccepted (be 2 v.cmd.lastOp ++ be 4 v.traceTotal))) :=
  exec_done h rfl ((if_neg (Classical.not_not.mpr hl)).trans ((if_pos h0).trans ((if_neg (Classical.not_not.mpr hb)).trans
    (if_neg (ne_true_of_eq_false hn)))))

/-- What has been read of a readout once the bytes of `data` from `off` have left. -/
def OpRec.readTo (o : OpRec) (off : Nat) (data : List Byte) : Nat :=
  if data = [] then o.done else min o.total (max o.done (off + data.length))

theorem traceRead_answers (h0 : beAt p 0 2 ≠ 0) (ho : (s.begun r).opRec (beAt p 0 2) = some o) (hc : o.opcode = 0x51)
    (hs : o.state = 0) (ha : o.arg = ((s.begun r).sidOf (reqSlot r)).toNat) : exec (.traceRead r p) s =
      (let data := (s.begun r).traceBytes (beAt p 2 4) 1024
       let got := o.readTo (beAt p 2 4) data
       let v := (s.begun r).opUpd (beAt p 0 2) fun x => { x with done := got, last := (s.begun r).mono }
       .next ((if got = o.total then v.opEnd (beAt p 0 2) 1 0 else v).reply (reqSlot r) 0x0051 r.seq stOk data)) := by
  refine exec_done h rfl ((if_neg (Classical.not_not.mpr hl)).trans ((if_neg h0).trans ?_))
  rw [ho]
  exact if_neg (not_or.mpr ⟨Classical.not_not.mpr hc, not_or.mpr ⟨Classical.not_not.mpr hs, Classical.not_not.mpr ha⟩⟩)

end

/-! ### EVENTS_READ -/

/-- The answer of EVENTS_READ to the records from the asked one on. -/
def eventsAnswer (s : State) (from_ : Word) (n : Nat) : List EvEntry → Answer
  | [] => .done s stOk (wordBytes from_ ++ [0, 0, 0, 0])
  | e :: es =>
    let got := (contiguous e.seq (e :: es)).take n
    let lost := decide (e.seq ≠ from_) && !(decide (from_ = 0) && decide (e.seq = 1))
    .done s stOk (wordBytes (e.seq + BitVec.ofNat 32 got.length) ++ be 1 got.length ++ be 1 (b2n lost) ++ [0, 0]
      ++ got.flatMap EvEntry.bytes)

/-- The records from a sequence number on. -/
def State.eventsFrom (s : State) (from_ : Word) : List EvEntry :=
  s.allEvents.dropWhile fun e => decide (2 ^ 31 ≤ (e.seq - from_).toNat)

/-- The effect of EVENTS_READ. -/
def eventsEffect (p : List Byte) (s : State) (_ : Nat) : Answer :=
  if p.length ≠ 5 then badAt 0 else if !inRange 1 42 (beAt p 4 1) then badAt 4
  else eventsAnswer s (BitVec.ofNat 32 (beAt p 0 4)) (beAt p 4 1) (s.eventsFrom (BitVec.ofNat 32 (beAt p 0 4)))

theorem eventsRead_eq : exec (.eventsRead r p) s = .next (s.silent.serve r 0x0060 roMonitor (eventsEffect p)) := by
  show execEventsRead r p s = _
  unfold execEventsRead
  refine congrArg (fun f => Host.Outcome.next (s.silent.serve r 0x0060 roMonitor f)) (funext fun u => funext fun i => ?_)
  unfold eventsEffect State.eventsFrom
  dsimp only
  generalize u.allEvents.dropWhile _ = l
  cases l <;> rfl

theorem eventsEffect_formed {i : Nat} (hl : p.length = 5) (h1 : 1 ≤ beAt p 4 1) (h2 : beAt p 4 1 ≤ 42) :
    eventsEffect p s i = eventsAnswer s (BitVec.ofNat 32 (beAt p 0 4)) (beAt p 4 1)
      (s.eventsFrom (BitVec.ofNat 32 (beAt p 0 4))) :=
  (if_neg (Classical.not_not.mpr hl)).trans (if_neg (not_bnot (Bool.and_eq_true_iff.mpr ⟨decide_eq_true h1,
    decide_eq_true h2⟩)))

/-- A later record than the asked one comes first, and not the first of all in place of record 0. -/
theorem decide_lost (q from_ : Word) : (decide (q ≠ from_) && !(decide (from_ = 0) && decide (q = 1)))
    = decide (q ≠ from_ ∧ ¬ (from_ = 0 ∧ q = 1)) := by
  simp only [Bool.decide_and, decide_not]

section
variable (h : s.Accepts r 0) (hl : p.length = 5) (h1 : 1 ≤ beAt p 4 1) (h2 : beAt p 4 1 ≤ 42)
include h hl h1 h2

theorem eventsRead_past (hn : (s.begun r).eventsFrom (BitVec.ofNat 32 (beAt p 0 4)) = []) : exec (.eventsRead r p) s =
    .next ((s.begun r).reply (reqSlot r) 0x0060 r.seq stOk
      (wordBytes (BitVec.ofNat 32 (beAt p 0 4)) ++ [0, 0, 0, 0])) :=
  exec_done h eventsRead_eq ((eventsEffect_formed hl h1 h2).trans (congrArg (eventsAnswer _ _ _) hn))

theorem eventsRead_answers {e : EvEntry} {es : List EvEntry}
    (hn : (s.begun r).eventsFrom (BitVec.ofNat 32 (beAt p 0 4)) = e :: es) : exec (.eventsRead r p) s =
      (let got := (contiguous e.seq ((s.begun r).eventsFrom (BitVec.ofNat 32 (beAt p 0 4)))).take (beAt p 4 1)
       let lost := decide (e.seq ≠ BitVec.ofNat 32 (beAt p 0 4) ∧ ¬ (BitVec.ofNat 32 (beAt p 0 4) = (0 : Word)
         ∧ e.seq = 1))
       .next ((s.begun r).reply (reqSlot r) 0x0060 r.seq stOk (wordBytes (e.seq + BitVec.ofNat 32 got.length)
        ++ be 1 got.length ++ be 1 (b2n lost) ++ [0, 0] ++ got.flatMap EvEntry.bytes))) := by
  dsimp only
  rw [hn, ← decide_lost]
  exact exec_done h eventsRead_eq ((eventsEffect_formed hl h1 h2).trans (congrArg (eventsAnswer _ _ _) hn))

end

end

section
variable {s : State} {r : Req}

/-! ### TRACE_ARM -/

/-- A capture runs. -/
abbrev Blot.Runs (b : Blot) : Prop := b.st = 1 ∨ b.st = 2 ∨ b.st = 3

/-- The state in which the capture is in state `st`. -/
def State.captureAt (s : State) (st : Nat) : State :=
  { s with ink := { s.ink with blot := { s.ink.blot with st := st } } }

/-- The state in which a capture starts to fill, its past rows forgotten. -/
def State.captureStarts (s : State) : State := State.blotState { s with ink := { s.ink with
  blot := { s.ink.blot with st := 1, total := 0, trig := none, prev := none, fifo := [], lostRows := [] } } }

section
variable (h : s.Accepts r 1)
include h

theorem traceArm_barred {b : Byte} (hb : b.toNat ≤ 1) (hr : (s.begun r).readoutRuns = true) : exec (.traceArm r [b]) s =
    .next ((s.begun r).reply (reqSlot r) 0x0050 r.seq stNotInState
      ((s.begun r).detail (Refuse.at stNotInState 0))) :=
  exec_refuse (e := Refuse.at stNotInState 0) h rfl ((side_passes hb).trans (if_pos hr))

variable (hr : (s.begun r).readoutRuns = false)
include hr

theorem traceArm_captures (hc : (s.begun r).ink.blot.Runs) : exec (.traceArm r [0]) s =
    .next (((s.begun r).captureAt 4).reply (reqSlot r) 0x0050 r.seq stOk []) :=
  exec_done h rfl ((side_passes (by decide)).trans ((if_neg (ne_true_of_eq_false hr)).trans
    (congrArg (Answer.done · stOk []) ((if_pos rfl).trans
      (congrArg (s.begun r).captureAt (if_pos (decide_eq_true hc)))))))

theorem traceArm_idles (hc : ¬ (s.begun r).ink.blot.Runs) : exec (.traceArm r [0]) s =
    .next (((s.begun r).captureAt 0).reply (reqSlot r) 0x0050 r.seq stOk []) :=
  exec_done h rfl ((side_passes (by decide)).trans ((if_neg (ne_true_of_eq_false hr)).trans
    (congrArg (Answer.done · stOk []) ((if_pos rfl).trans
      (congrArg (s.begun r).captureAt (if_neg (hc <| of_decide_eq_true ·)))))))

theorem traceArm_keeps (hc : (s.begun r).ink.blot.Runs) : exec (.traceArm r [1]) s =
    .next ((s.begun r).reply (reqSlot r) 0x0050 r.seq stOk []) :=
  exec_done h rfl ((side_passes (by decide)).trans ((if_neg (ne_true_of_eq_false hr)).trans
    (congrArg (Answer.done · stOk []) ((if_neg (by decide)).trans (if_pos (decide_eq_true hc))))))

theorem traceArm_starts (hc : ¬ (s.begun r).ink.blot.Runs) : exec (.traceArm r [1]) s =
    .next ((s.begun r).captureStarts.reply (reqSlot r) 0x0050 r.seq stOk []) :=
  exec_done h rfl ((side_passes (by decide)).trans ((if_neg (ne_true_of_eq_false hr)).trans
    (congrArg (Answer.done · stOk []) ((if_neg (by decide)).trans (if_neg (hc <| of_decide_eq_true ·))))))

end

/-! ### 30 s without a chunk -/

/-- A running upload or readout that waits for its next chunk: no burn has begun. -/
def State.AwaitsChunk (s : State) (o : OpRec) : Prop :=
  o.state = 0 ∧ o.opcode ∈ [0x80, 0x83, 0x51] ∧ ¬ (o.opcode = 0x83 ∧ s.boot.burn ≠ none)

section
variable {op : BitVec 16} {o : OpRec}

theorem chunkTimeout_unknown (ho : s.opRec op.toNat = none) : exec (.chunkTimeout op) s = .next s.silent := by
  show execChunkTimeout op s = _
  unfold execChunkTimeout
  dsimp only
  rw [show s.silent.opRec op.toNat = none from ho]

variable (ho : s.opRec op.toNat = some o)
include ho

theorem chunkTimeout_ends (hw : s.AwaitsChunk o) (ht : o.last + 3000000 ≤ s.mono) :
    exec (.chunkTimeout op) s = .next ((s.silent.dropImage o).opEnd o.id 2 stBusy) := by
  obtain ⟨state, code, burn⟩ := hw
  show execChunkTimeout op s = _
  unfold execChunkTimeout
  dsimp only
  rw [show s.silent.opRec op.toNat = some o from ho]
  refine if_neg ?_
  rintro (hs | hc | ⟨hb, hn⟩ | hl)
  · exact hs state
  · exact hc code
  · exact burn ⟨hb, Option.isSome_iff_ne_none.mp hn⟩
  · exact Nat.not_lt.mpr ht hl

theorem chunkTimeout_waits (hw : ¬ s.AwaitsChunk o ∨ s.mono < o.last + 3000000) :
    exec (.chunkTimeout op) s = .next s.silent := by
  show execChunkTimeout op s = _
  unfold execChunkTimeout
  dsimp only
  rw [show s.silent.opRec op.toNat = some o from ho]
  refine if_pos ?_
  refine Classical.byContradiction fun hn => ?_
  obtain ⟨state, code, burn, late⟩ := not_or.mp hn |>.imp_right fun k => not_or.mp k |>.imp_right not_or.mp
  refine hw.elim (fun k => k ⟨Classical.not_not.mp state, Classical.not_not.mp code, fun b => burn ⟨b.1, ?_⟩⟩) late
  exact Option.isSome_iff_ne_none.mpr b.2

end

end

/-- Settles O41: each readout and operation command by the branches of its form; the time-out by whether the operation
waits for a chunk. -/
theorem operationsAndReadoutsAnswer : Obligations.OperationsAndReadoutsAnswer := by
  refine ⟨fun s r => ⟨fun h => ⟨fun p hl => ⟨fun o => opStatus_known h hl, opStatus_unknown h hl⟩,
    fun p hl => traceRead_starts h hl, fun p o hl h0 => traceRead_answers h hl h0,
    fun p hl h1 h2 => ⟨eventsRead_past h hl h1 h2, fun e es => eventsRead_answers h hl h1 h2⟩⟩,
    fun h => ⟨fun p o hl ho => ⟨opCancel_ended h hl ho, fun v => opCancel_cancels h hl ho, opCancel_barred h hl ho⟩,
      fun hr => ⟨traceArm_barred h (by decide) hr, traceArm_barred h (by decide) hr⟩,
      fun hr => ⟨traceArm_captures h hr, traceArm_idles h hr, traceArm_keeps h hr, traceArm_starts h hr⟩⟩⟩,
    fun s op => ⟨fun o ho => ⟨chunkTimeout_ends ho, chunkTimeout_waits ho⟩, chunkTimeout_unknown⟩⟩

/-! ## Loads and burns leave the registers, the cycle and the lanes -/

/-- `t` keeps the registers, the cycle and the lanes of `s`. -/
structure State.LoadKeeps (s t : State) : Prop where
  regs : t.regs = s.regs
  cycle : t.cycle = s.cycle
  lanes : t.lanes = s.lanes

/-- An answer that refuses, or that is done in a state that keeps what loads keep. -/
def Answer.LoadKeeps (s : State) : Answer → Prop
  | .refuse _ => True
  | .done t _ _ => s.LoadKeeps t
  | .fails .. | .later .. | .closes _ | .restarts _ => False

section
variable {s t u : State}

namespace State.LoadKeeps

theorem refl (s : State) : s.LoadKeeps s := ⟨rfl, rfl, rfl⟩

theorem trans (h : s.LoadKeeps t) (k : t.LoadKeeps u) : s.LoadKeeps u :=
  ⟨k.regs.trans h.regs, k.cycle.trans h.cycle, k.lanes.trans h.lanes⟩

theorem ite {c : Prop} [Decidable c] (ht : s.LoadKeeps t) (hu : s.LoadKeeps u) : s.LoadKeeps (if c then t else u) := by
  split
  · exact ht
  · exact hu

theorem of_replied (h : s.Replied t) : s.LoadKeeps t := ⟨h.regs, h.cycle, h.lanes⟩

theorem answered (h : s.LoadKeeps t) : ∃ u, (.next t : Host.Outcome State Fault Refusal) = .next u
    ∧ u.regs = s.regs ∧ u.cycle = s.cycle ∧ u.lanes = s.lanes := ⟨t, rfl, h.regs, h.cycle, h.lanes⟩

end State.LoadKeeps

theorem Answer.LoadKeeps.ite {c : Prop} [Decidable c] {a b : Answer} (ha : a.LoadKeeps s) (hb : b.LoadKeeps s) :
    (if c then a else b).LoadKeeps s := by
  split
  · exact ha
  · exact hb

theorem State.reply_replied (s : State) (i op : Nat) (seq : Word) (status : Nat) (payload : List Byte) :
    s.Replied (s.reply i op seq status payload) := by
  unfold State.reply
  dsimp only
  split
  · exact s.setSess_replied ..
  · exact (s.setSess_replied ..).trans (State.sendPacket_replied ..)

theorem served_loadKeeps {r : Req} {m op : Nat} {f : State → Nat → Answer} (h : s.Accepts r m)
    (hf : (f (s.begun r) (reqSlot r)).LoadKeeps (s.begun r)) : ∃ t, (.next (s.silent.serve r op m f) :
      Host.Outcome State Fault Refusal) = .next t ∧ t.regs = s.regs ∧ t.cycle = s.cycle ∧ t.lanes = s.lanes := by
  rw [State.serve_accepted op f h]
  generalize f (s.begun r) (reqSlot r) = a at hf
  have begun : s.LoadKeeps (s.begun r) := ⟨rfl, rfl, rfl⟩
  cases a with
  | refuse e => exact (begun.trans (.of_replied (State.reply_replied ..))).answered
  | done t status payload => exact ((begun.trans hf).trans (.of_replied (State.reply_replied ..))).answered
  | fails | later | closes | restarts => exact hf.elim

/-! ### Chunks -/

theorem State.opUpd_loadKeeps (s : State) (id : Nat) (f : OpRec → OpRec) : s.LoadKeeps (s.opUpd id f) := ⟨rfl, rfl, rfl⟩

theorem State.opEnd_loadKeeps (s : State) (id st status : Nat) : s.LoadKeeps (s.opEnd id st status) := ⟨rfl, rfl, rfl⟩

theorem State.opStart_loadKeeps (s : State) (code kind total arg : Nat) : s.LoadKeeps (s.opStart code kind total arg) :=
  ⟨rfl, rfl, rfl⟩

theorem chunkReply_loadKeeps {first : Bool} {id got : Nat} (h : s.LoadKeeps t) :
    (chunkReply t first id got).LoadKeeps s :=
  .ite h h

section
variable {each finish : State → OpRec → State} (he : ∀ (u : State) (o : OpRec), u.LoadKeeps (each u o))
  (hf : ∀ (u : State) (o : OpRec), u.LoadKeeps (finish u o))
include he hf

theorem State.takeChunk_loadKeeps {first : Bool} {id : Nat} {data : List Byte} (h : s.LoadKeeps t) :
    (t.takeChunk first id data each finish).LoadKeeps s := by
  unfold State.takeChunk
  split
  · trivial
  · rename_i o _
    have taken (x : OpRec) : s.LoadKeeps (each (t.opUpd id fun _ => x) x) :=
      (h.trans (t.opUpd_loadKeeps ..)).trans (he _ x)
    exact chunkReply_loadKeeps (.ite ((taken _).trans (hf ..)) (taken _))

theorem State.chunk_loadKeeps {opcode kind : Nat} {allowed : Bool} {p : List Byte}
    {refuse1 : Nat → List Byte → Option Answer} {fails1 : Nat → List Byte → Bool}
    (hr : ∀ total data a, refuse1 total data = some a → a.LoadKeeps s) :
    (s.chunk opcode kind allowed p refuse1 fails1 each finish).LoadKeeps s := by
  unfold State.chunk
  dsimp only
  refine .ite trivial (.ite (.ite trivial (.ite trivial (.ite trivial ?_))) ?_)
  · split
    · exact hr _ _ _ ‹_›
    · refine .ite trivial (.ite ?_ (State.takeChunk_loadKeeps he hf (s.opStart_loadKeeps ..)))
      exact (s.opStart_loadKeeps opcode kind (beAt p 6 4) 0).trans (State.opEnd_loadKeeps ..)
  · split
    · trivial
    · exact .ite trivial (.ite trivial (.ite trivial (State.takeChunk_loadKeeps he hf (.refl s))))

end

/-! ### Images and key lists -/

theorem State.withBoot_loadKeeps (s : State) (b : Boot) : s.LoadKeeps { s with boot := b } := ⟨rfl, rfl, rfl⟩

theorem State.setFwSlot_loadKeeps (s : State) (k : Nat) (x : FwSlot) : s.LoadKeeps (s.setFwSlot k x) := ⟨rfl, rfl, rfl⟩

theorem State.imageLoaded_loadKeeps (s : State) (o : OpRec) : s.LoadKeeps (s.imageLoaded o) := by
  unfold State.imageLoaded
  refine (s.withBoot_loadKeeps { s.boot with loading := false }).trans (.ite (State.opEnd_loadKeeps ..) (.ite (State.opEnd_loadKeeps ..) ?_))
  refine .trans ?_ (.of_replied (.of_events (State.raise_eventsOnly _ _ _ _ _ (by decide))))
  exact (State.setFwSlot_loadKeeps ..).trans (State.opEnd_loadKeeps ..)

theorem State.judgeKeys_replied (s : State) : s.Replied s.judgeKeys :=
  .foldl (fun u _ => .ite (u.setSess_replied ..) (.refl u)) _ s

theorem State.bankSet_loadKeeps (s : State) (j : Journal) : s.LoadKeeps { s with jrnl := j } := ⟨rfl, rfl, rfl⟩

theorem State.keysLoaded_loadKeeps (s : State) (o : OpRec) : s.LoadKeeps (s.keysLoaded o) := by
  unfold State.keysLoaded
  refine .ite (s.opEnd_loadKeeps ..) (.ite (s.opEnd_loadKeeps ..) ?_)
  refine .trans ?_ (.of_replied (.of_events (State.raise_eventsOnly _ _ _ _ _ (by decide))))
  exact ((s.bankSet_loadKeeps _).trans (State.opEnd_loadKeeps ..)).trans (.of_replied (State.judgeKeys_replied _))

theorem fwLoad_keeps {r : Req} {p : List Byte} (h : s.Accepts r 2) : ∃ t, exec (.fwLoad r p) s = .next t
    ∧ t.regs = s.regs ∧ t.cycle = s.cycle ∧ t.lanes = s.lanes := by
  refine served_loadKeeps h (State.chunk_loadKeeps (fun u o => ?_) (fun u o => ?_) fun total data a ha => ?_)
  · exact .ite (u.withBoot_loadKeeps _) (.refl u)
  · exact .ite (u.imageLoaded_loadKeeps o) (u.keysLoaded_loadKeeps o)
  · split at ha
    · exact Option.some.inj ha ▸ trivial
    · split at ha
      · exact Option.some.inj ha ▸ trivial
      · exact nomatch ha

/-! ### Generations -/

theorem State.burnStart_loadKeeps (s : State) (o : OpRec) : s.LoadKeeps (s.burnStart o) := by
  unfold State.burnStart
  refine .ite (s.opEnd_loadKeeps ..) (.ite (s.opEnd_loadKeeps ..) ?_)
  split <;> exact ⟨rfl, rfl, rfl⟩

theorem otpBurn_keeps {r : Req} {p : List Byte} (h : s.Accepts r 2) : ∃ t, exec (.otpBurn r p) s = .next t
    ∧ t.regs = s.regs ∧ t.cycle = s.cycle ∧ t.lanes = s.lanes :=
  served_loadKeeps h (State.chunk_loadKeeps (fun u _ => u.opUpd_loadKeeps ..) (fun u o => u.burnStart_loadKeeps o)
    fun _ _ _ ha => nomatch ha)

end

/-! ## First chunks -/

/-- The parameters are a well-formed first chunk. -/
structure FirstChunk (p : List Byte) : Prop where
  header : 10 ≤ p.length
  size : p.length ≤ 1034
  first : beAt p 0 2 = 0
  start : beAt p 2 4 = 0
  total : p.length ≤ 10 + beAt p 6 4

section
variable {s : State} {r : Req} {p : List Byte}

namespace FirstChunk

theorem passes {a b c d e : Answer} (h : FirstChunk p) :
    (if p.length < 10 ∨ 1024 < (p.drop 10).length then a
      else if beAt p 0 2 = 0 then
        (if beAt p 2 4 ≠ 0 then b else if beAt p 6 4 < (p.drop 10).length then c else d)
      else e) = d := by
  have header := h.header
  have size := h.size
  have total := h.total
  rw [List.length_drop, if_neg (by omega), if_pos h.first, if_neg (Classical.not_not.mpr h.start), if_neg (by omega)]

section
variable {opcode kind : Nat} {allowed : Bool} {refuse1 : Nat → List Byte → Option Answer}
  {fails1 : Nat → List Byte → Bool} {each finish : State → OpRec → State} (h : FirstChunk p)
include h

theorem barred (ha : allowed = false) :
    s.chunk opcode kind allowed p refuse1 fails1 each finish = no stNotInState :=
  h.passes.trans (if_pos (bnot_of ha))

theorem fails (ha : allowed = true) (hr : refuse1 (beAt p 6 4) (p.drop 10) = none) (hn : s.opsRunning opcode = [])
    (hf : fails1 (beAt p 6 4) (p.drop 10) = true) :
    s.chunk opcode kind allowed p refuse1 fails1 each finish =
      (let v := s.opStart opcode kind (beAt p 6 4) 0
       .done (v.opEnd v.cmd.lastOp 2 stBadParam) stAccepted (be 2 v.cmd.lastOp)) := by
  refine h.passes.trans ((if_neg (not_bnot ha)).trans ?_)
  rw [hr]
  exact (if_neg (Classical.not_not.mpr hn)).trans (if_pos hf)

end

end FirstChunk

theorem fwLoad_badType (h : s.Accepts r 2) (hp : FirstChunk p) (hl : 26 ≤ p.length) (ht : beAt p 6 4 ≤ 16777216)
    (hn : (s.begun r).opsRunning 0x80 = []) (h1 : beAt (p.drop 10) 4 1 ≠ 1) (h2 : beAt (p.drop 10) 4 1 ≠ 2) :
    exec (.fwLoad r p) s =
      (let v := (s.begun r).opStart 0x80 1 (beAt p 6 4) 0
       .next ((v.opEnd v.cmd.lastOp 2 stBadParam).reply (reqSlot r) 0x0080 r.seq stAccepted (be 2 v.cmd.lastOp))) := by
  have long : ¬ (p.drop 10).length < 16 := by
    rw [List.length_drop]
    omega
  exact exec_done h rfl (hp.fails rfl ((if_neg long).trans (if_neg (Nat.not_lt.mpr ht))) hn (decide_eq_true ⟨h1, h2⟩))

theorem otpBurn_barred (h : s.Accepts r 2) (hp : FirstChunk p) (hc : (s.begun r).sys.mode ≠ .config)
    (hs : (s.begun r).sys.mode ≠ .service) : exec (.otpBurn r p) s =
    .next ((s.begun r).reply (reqSlot r) 0x0083 r.seq stNotInState ((s.begun r).detail (Refuse.at stNotInState 0))) :=
  exec_refuse (e := Refuse.at stNotInState 0) h rfl (hp.barred (decide_eq_false (not_or.mpr ⟨hc, hs⟩)))

/-! ## FW_ACTIVATE -/

/-- A restart: at once, or behind the give-up of a side that claims the token. -/
def State.restarted (s : State) : State :=
  if s.pairSide ∧ s.pair.tokOut then { s.startGiveUp with cmd := { s.startGiveUp.cmd with restartDue := true } }
  else s.restart

theorem exec_restarts {t : State} {m op : Nat} {c : Instr} {f : State → Nat → Answer} (h : s.Accepts r m)
    (hc : exec c s = .next (s.silent.serve r op m f)) (hf : f (s.begun r) (reqSlot r) = .restarts t) :
    exec c s = .next ((t.reply (reqSlot r) op r.seq stOk []).dropTxn.flushJournal).restarted := by
  rw [hc, State.serve_accepted op f h, hf]
  rfl

/-- The states in which a slot may be activated. -/
abbrev State.MayActivate (s : State) : Prop :=
  s.sys.mode = .config ∨ s.sys.mode = .standby ∨ s.sys.mode = .service

/-- The preferred slot after slot `k` has been activated. -/
def State.prefAfter (s : State) (k : Nat) : Nat := if k = s.boot.run then s.boot.pref else k

/-- The state that restarts on slot `k`. -/
def State.activated (s : State) (k : Nat) : State :=
  if k = s.boot.run then s else { s with boot := { s.boot with pref := k, trial := true, trialUsed := false } }

theorem State.activated_facts (s : State) (k : Nat) : (s.activated k).boot.pref = s.prefAfter k
    ∧ (s.activated k).pair = s.pair ∧ (s.activated k).pairSide = s.pairSide := by
  unfold State.activated State.prefAfter
  split <;> exact ⟨rfl, rfl, rfl⟩

/-- The state of a restart once its request is answered, its transaction dropped and the journal flushed. -/
def State.settled (s : State) (r : Req) : State := (s.reply (reqSlot r) 0x0081 r.seq stOk []).dropTxn.flushJournal

theorem State.flushJournal_keeps (s : State) : s.flushJournal.boot = s.boot ∧ s.flushJournal.pair = s.pair
    ∧ s.flushJournal.pairSide = s.pairSide := by
  have h := State.sameButWear_foldl State.storeWear_sameButWear s.wearCells s.copyEvents
  unfold State.flushJournal
  generalize s.wearCells.foldl (fun s ci => s.storeWear ci) s.copyEvents = u at h
  rw [h]
  exact ⟨rfl, rfl, rfl⟩

theorem State.Replied.pairSide {s t : State} (h : s.Replied t) : t.pairSide = s.pairSide := by
  rw [h]
  rfl

theorem State.Replied.boot {s t : State} (h : s.Replied t) : t.boot = s.boot := by rw [h]

theorem State.settled_facts (s : State) (r : Req) : (s.settled r).boot = s.boot ∧ (s.settled r).pair = s.pair
    ∧ (s.settled r).pairSide = s.pairSide := by
  have replied := (s.reply_replied (reqSlot r) 0x0081 r.seq stOk []).trans (State.dropTxn_replied _)
  unfold State.settled
  generalize (s.reply (reqSlot r) 0x0081 r.seq stOk []).dropTxn = u at replied
  obtain ⟨boot, pair, side⟩ := u.flushJournal_keeps
  exact ⟨boot.trans replied.boot, pair.trans replied.pair, side.trans replied.pairSide⟩

theorem State.bootStart_pref (s : State) : s.bootStart.boot.pref = s.boot.pref := by
  unfold State.bootStart
  dsimp only
  have pages (v : State) : v.resetPages.boot = v.boot := by rw [v.resetPages_sameButWords]
  split
  · rfl
  · split
    · split <;> simp only [pages] <;> rfl
    · split <;> simp only [pages] <;> rfl

theorem State.restart_facts (s : State) : s.restart.sys.mode = .boot ∧ s.restart.sys.powered = true
    ∧ s.restart.sys.live = false ∧ s.restart.boot.pref = s.boot.pref :=
  have booting := ({ s with boot := { s.boot with cause := 2 } } : State).bootStart_booting
  ⟨booting.mode, booting.powered, booting.live, State.bootStart_pref _⟩

theorem State.startGiveUp_boot (s : State) : s.startGiveUp.boot = s.boot := by
  unfold State.startGiveUp
  split
  · rfl
  · exact (State.Replied.of_events ((State.enqueue_eventsOnly ..).trans (State.blotEvent_eventsOnly ..))).boot

section
variable {k : Byte} (h : s.Accepts r 2) (hk : k.toNat ≤ 1)
include h hk

theorem fwActivate_barred (hm : ¬ (s.begun r).MayActivate ∨ (s.begun r).slotValidFw k.toNat = false) :
    exec (.fwActivate r [k]) s =
      .next ((s.begun r).reply (reqSlot r) 0x0081 r.seq stNotInState ((s.begun r).detail (Refuse.at stNotInState 0))) := by
  rw [← beAt_single k] at hm
  exact exec_refuse (e := Refuse.at stNotInState 0) h rfl ((side_passes hk).trans (if_pos (Bool.or_eq_true_iff.mpr
    (hm.imp (fun n => bnot_of (decide_eq_false n)) bnot_of))))

variable (hm : (s.begun r).MayActivate) (hv : (s.begun r).slotValidFw k.toNat = true)
  (h80 : (s.begun r).opsRunning 0x80 = []) (h83 : (s.begun r).opsRunning 0x83 = [])
include hm hv h80 h83

theorem fwActivate_eq : exec (.fwActivate r [k]) s =
    .next (((s.begun r).activated k.toNat).settled r).restarted := by
  refine exec_restarts h rfl ?_
  rw [← beAt_single k] at hv ⊢
  refine (side_passes hk).trans ((if_neg (ne_true_of_eq_false (Bool.or_eq_false_iff.mpr
    ⟨congrArg (!·) (decide_eq_true hm), congrArg (!·) hv⟩))).trans ((if_neg (not_or.mpr
      ⟨Classical.not_not.mpr h80, Classical.not_not.mpr h83⟩)).trans ?_))
  exact (apply_ite Answer.restarts ..).symm

theorem fwActivate_restarts (ht : s.pairSide = false ∨ s.pair.tokOut = false) : ∃ t, exec
    (.fwActivate r [k]) s = .next t
    ∧ t.sys.mode = .boot ∧ t.sys.powered = true ∧ t.sys.live = false ∧ t.boot.pref = (s.begun r).prefAfter k.toNat := by
  obtain ⟨pref, pair, side⟩ := (s.begun r).activated_facts k.toNat
  obtain ⟨boot', pair', side'⟩ := ((s.begun r).activated k.toNat).settled_facts r
  refine ⟨_, fwActivate_eq h hk hm hv h80 h83, ?_⟩
  generalize ((s.begun r).activated k.toNat).settled r = v at boot' pair' side'
  have alone : ¬ (v.pairSide = true ∧ v.pair.tokOut = true) := by
    rw [side', side, pair', pair]
    exact fun both => ht.elim (ne_true_of_eq_false · both.1) (ne_true_of_eq_false · both.2)
  rw [State.restarted, if_neg alone]
  obtain ⟨mode, powered, live, kept⟩ := v.restart_facts
  exact ⟨mode, powered, live, kept.trans ((congrArg Boot.pref boot').trans pref)⟩

theorem fwActivate_givesUp (hp : s.pairSide = true) (ht : s.pair.tokOut = true) : ∃ t,
    exec (.fwActivate r [k]) s = .next t ∧ t.cmd.restartDue = true ∧ t.boot.pref = (s.begun r).prefAfter k.toNat := by
  obtain ⟨pref, pair, side⟩ := (s.begun r).activated_facts k.toNat
  obtain ⟨boot', pair', side'⟩ := ((s.begun r).activated k.toNat).settled_facts r
  refine ⟨_, fwActivate_eq h hk hm hv h80 h83, ?_⟩
  generalize ((s.begun r).activated k.toNat).settled r = v at boot' pair' side'
  have holds : v.pairSide = true ∧ v.pair.tokOut = true := by
    rw [side', side, pair', pair]
    exact ⟨hp, ht⟩
  rw [State.restarted, if_pos holds]
  exact ⟨rfl, (congrArg Boot.pref (v.startGiveUp_boot.trans boot')).trans pref⟩

end

end

section
variable {s : State} {r : Req} {p : List Byte}

/-! ## ATTEST and JOURNAL_READ -/

/-- The state that keeps the report of a nonce. -/
def State.attested (s : State) (nonce : List Byte) (t : Nat) : State :=
  { s with cmd := { s.cmd with attNonce := nonce, attReport := s.attestReport nonce t } }

/-- The answer of ATTEST in a state: the kept report's length and up to 1,024 bytes from an offset. -/
def reportFrom (s : State) (off : Nat) : Answer :=
  .done s stOk (be 4 s.cmd.attReport.length ++ (s.cmd.attReport.drop off).take 1024)

/-- The effect of ATTEST. -/
def attestEffect (r : Req) (p : List Byte) (s : State) (_ : Nat) : Answer :=
  if p.length ≠ 36 then badAt 0
  else if beAt p 32 4 ≠ 0 ∧ (s.cmd.attReport = [] ∨ s.cmd.attNonce ≠ p.take 32) then badAt 0
  else reportFrom (if beAt p 32 4 = 0 then s.attested (p.take 32) r.tick else s) (beAt p 32 4)

theorem attest_eq : exec (.attest r p) s = .next (s.silent.serve r 0x0082 roMonitor (attestEffect r p)) := rfl

theorem attest_first (h : s.Accepts r 0) (hl : p.length = 36) (ho : beAt p 32 4 = 0) : exec (.attest r p) s =
    (let rep := (s.begun r).attestReport (p.take 32) r.tick
     .next (((s.begun r).attested (p.take 32) r.tick).reply (reqSlot r) 0x0082 r.seq stOk
      (be 4 rep.length ++ rep.take 1024))) := by
  refine exec_done h attest_eq ((if_neg (Classical.not_not.mpr hl)).trans ((if_neg fun k => k.1 ho).trans ?_))
  rw [ho]
  rfl

theorem attest_later (h : s.Accepts r 0) (hl : p.length = 36) (ho : beAt p 32 4 ≠ 0)
    (hr : (s.begun r).cmd.attReport ≠ []) (hn : (s.begun r).cmd.attNonce = p.take 32) : exec (.attest r p) s =
    .next ((s.begun r).reply (reqSlot r) 0x0082 r.seq stOk (be 4 (s.begun r).cmd.attReport.length
      ++ ((s.begun r).cmd.attReport.drop (beAt p 32 4)).take 1024)) :=
  exec_done h attest_eq ((if_neg (Classical.not_not.mpr hl)).trans
    ((if_neg fun k => not_or.mpr ⟨hr, Classical.not_not.mpr hn⟩ k.2).trans (congrArg (reportFrom · (beAt p 32 4)) (if_neg ho))))

theorem journalRead_answered (h : s.Accepts r 0) (hl : p.length = 10) (hg : beAt p 0 1 ≤ 8) (hz : beAt p 1 3 = 0)
    (h1 : 1 ≤ beAt p 8 2) (h2 : beAt p 8 2 ≤ 1024) (hr : beAt p 4 4 + beAt p 8 2 ≤ regionLen (beAt p 0 1)) :
    exec (.journalRead r p) s = .next ((s.begun r).reply (reqSlot r) 0x0084 r.seq stOk (be 4 (regionLen (beAt p 0 1))
      ++ (List.range (beAt p 8 2)).map fun k => (s.begun r).journalByte (beAt p 0 1) (beAt p 4 4 + k))) :=
  exec_done h rfl ((if_neg (Classical.not_not.mpr hl)).trans ((if_neg (Nat.not_lt.mpr hg)).trans ((if_neg (Classical.not_not.mpr hz)).trans
    ((if_neg (not_bnot (Bool.and_eq_true_iff.mpr ⟨decide_eq_true h1, decide_eq_true h2⟩))).trans
      (if_neg (Nat.not_lt.mpr hr))))))

end

/-! ## The end of a burn -/

section
variable {s : State} {g id : Nat}

/-- The state in which no burn is under way. -/
def State.burnOver (s : State) : State := { s with boot := { s.boot with burn := none } }

/-- The state in which generation `g` has its check and its seal. -/
def State.sealed (s : State) (g : Nat) : State :=
  s.setGen g { content := (s.gen g).content, check := crc32c (padTo 4084 (s.gen g).content), sealWord := sealOf g }

theorem otpBurnProgram_none {ok : Bool} (h : s.boot.burn = none) : exec (.otpBurnProgram ok) s = .next s.silent := by
  show execOtpBurnProgram ok s = _
  unfold execOtpBurnProgram
  dsimp only
  rw [show s.silent.boot.burn = none from h]

/-- The state after a burn whose words all read back. -/
def State.burnSealed (s : State) (g id : Nat) : State :=
  (((s.silent.burnOver.sealed g).opUpd id fun o => { o with done := 1000 }).opEnd id 1 stOk).raise 0x0F02 g 0 0

/-- The state after a burn of which a word read back otherwise. -/
def State.burnFailed (s : State) (g id : Nat) : State :=
  (s.silent.burnOver.opEnd id 2 stNoSpace).raise 0x0F03 g 0 0

theorem otpBurnProgram_some {ok : Bool} (h : s.boot.burn = some (g, id)) :
    exec (.otpBurnProgram ok) s = if ok then .next (s.burnSealed g id) else .next (s.burnFailed g id) := by
  show execOtpBurnProgram ok s = _
  unfold execOtpBurnProgram
  dsimp only
  rw [show s.silent.boot.burn = some (g, id) from h]
  rfl

theorem State.burnSealed_replied (s : State) (g id : Nat) : (s.silent.burnOver.sealed g).Replied
    (s.burnSealed g id) := by
  refine .trans ?_ (.of_events (State.raise_eventsOnly _ _ _ _ _ (by decide)))
  exact rfl

theorem State.burnFailed_replied (s : State) (g id : Nat) : s.silent.burnOver.Replied (s.burnFailed g id) := by
  refine .trans ?_ (.of_events (State.raise_eventsOnly _ _ _ _ _ (by decide)))
  exact rfl

theorem State.sealed_gen (s : State) (g : Nat) : (s.sealed g).gen g =
    { content := (s.gen g).content, check := crc32c (padTo 4084 (s.gen g).content), sealWord := sealOf g } :=
  Tab.get_put_same ..

theorem State.Replied.gen {s t : State} (h : s.Replied t) (g : Nat) : t.gen g = s.gen g :=
  congrArg (fun b : Boot => Tab.get (fun _ => Gen.blank) b.gens g) h.boot

/-- A sealed generation is valid under its own number and layout. -/
theorem Gen.valid_of_sealed {x : Gen} (hs : x.sealWord = sealOf g) (hc : x.check = crc32c (padTo 4084 x.content))
    (hn : beAt x.content 0 1 = g) (hl : beAt x.content 1 1 = 1) : x.valid g = true := by
  unfold Gen.valid
  rw [decide_eq_true hs, decide_eq_true hc, decide_eq_true hn, decide_eq_true hl]
  rfl

theorem otpBurnProgram_agrees (h : s.boot.burn = some (g, id)) : ∃ t, exec (.otpBurnProgram true) s = .next t
    ∧ t.boot.burn = none ∧ t.regs = s.regs ∧ (t.gen g).content = (s.gen g).content ∧ (t.gen g).sealWord = sealOf g
    ∧ (beAt (s.gen g).content 0 1 = g → beAt (s.gen g).content 1 1 = 1 → (t.gen g).valid g = true) := by
  have ended := s.burnSealed_replied g id
  refine ⟨_, (otpBurnProgram_some h).trans (if_pos rfl), congrArg Boot.burn ended.boot, ended.regs, ?_⟩
  have gen : (s.burnSealed g id).gen g =
      { content := (s.gen g).content, check := crc32c (padTo 4084 (s.gen g).content), sealWord := sealOf g } :=
    (ended.gen g).trans (s.silent.burnOver.sealed_gen g)
  rw [gen]
  exact ⟨rfl, rfl, fun number layout => Gen.valid_of_sealed rfl rfl number layout⟩

theorem otpBurnProgram_differs (h : s.boot.burn = some (g, id)) : ∃ t, exec (.otpBurnProgram false) s = .next t
    ∧ t.boot.burn = none ∧ t.gen g = s.gen g ∧ t.regs = s.regs := by
  have ended := s.burnFailed_replied g id
  exact ⟨_, (otpBurnProgram_some h).trans (if_neg Bool.false_ne_true), congrArg Boot.burn ended.boot, ended.gen g,
    ended.regs⟩

end

/-- Settles O42: loads and burns keep what `State.LoadKeeps` names; a first chunk, an activation, an attestation and a
journal read answer by the branches of their forms; the end of a burn seals its generation or leaves it. -/
theorem firmwareTrustAndJournalCommands : Obligations.FirmwareTrustAndJournalCommands := by
  refine ⟨fun s r => ⟨fun h => ⟨fun p => ⟨fwLoad_keeps h, otpBurn_keeps h⟩, fun p h26 hs hf ho ht hm => ?_,
    fun p h10 hs hf ho ht => ?_, fun k hk => ⟨fun hm hv h80 h83 => ⟨fwActivate_restarts h hk hm hv h80 h83,
      fwActivate_givesUp h hk hm hv h80 h83⟩, fwActivate_barred h hk⟩⟩, fun h => ⟨fun p hl => ⟨attest_first h hl,
      attest_later h hl⟩, fun p => journalRead_answered h⟩⟩,
    fun s g id hb => ⟨otpBurnProgram_agrees hb, otpBurnProgram_differs hb⟩, fun s ok => otpBurnProgram_none⟩
  · exact fwLoad_badType h ⟨Nat.le_trans (by decide : 10 ≤ 26) h26, hs, hf, ho, ht⟩ h26 hm
  · exact otpBurn_barred h ⟨h10, hs, hf, ho, ht⟩

end Sys2Proof.Machine
end
